-- ==== Sys2Proof/Word.lean ====
section
/-! DEFINITION. The word types of the device and their plainest arithmetic. -/

namespace Sys2Proof

/-- A register, and a fabric word: 32 bits (R6). -/
abbrev Word := BitVec 32

/-- A byte of memory. -/
abbrev Byte := BitVec 8

/-- A 64-bit word: CYC (R20), device time extended to 64 bits (R18), a binary64 number (R12). -/
abbrev Dword := BitVec 64

end Sys2Proof
end

