-- ==== Sys2Proof/Syntax.lean ====
section
/-! DEFINITION. The commands of the block: one constructor of `Instr` per row of spec/opcode_table.json, and the
payloads they carry. -/

namespace Sys2Proof

/-- Who makes a fabric access: the writers of R568. -/
inductive Req where
  /-- The supervisor core, class 8, index 0x00. -/
  | sup
  /-- Boot, which runs on the supervisor core, class 8, index 0x01. -/
  | boot
  /-- Application core `i`, class 8, index 0xF8 + i. -/
  | app (i : Fin 4)
  /-- Cycle core `i`, writing as the Clock Drive, class 3, index 0xFC + i. -/
  | cyc (i : Fin 2)
  /-- The host, class 9, index 0xFF. -/
  | host
  deriving DecidableEq, Repr

/-- Who reaches the debug module or commands a life-cycle transition: a requester, or the IEEE 1149.1 debug port (R521, R522). -/
inductive Port where
  /-- A requester's register access. -/
  | req (r : Req)
  /-- The IEEE 1149.1 debug port. -/
  | jtag
  deriving DecidableEq, Repr

/-- How far a RETURN comes (R522, R524). -/
structure ReturnRun where
  /-- The fuses verify. -/
  ok : Bool
  /-- Steps done before power fails, 3 where it does not. -/
  steps : Fin 4
  deriving DecidableEq, Repr

/-- The BARs of the PCIe endpoint (R6, R461). -/
inductive Bar where
  /-- BAR0, the registers of every block. -/
  | bar0
  /-- BAR2, the doorbells. -/
  | bar2
  /-- BAR4, the debug window onto shared SRAM. -/
  | bar4
  deriving DecidableEq, Repr

/-- The class of R36 that R568 places a writer in. -/
def Req.cls : Req → Nat
  | .sup => 8
  | .boot => 8
  | .app _ => 8
  | .cyc _ => 3
  | .host => 9

/-- The requester index of R568: the source unit number of R489. -/
def Req.idx : Req → Nat
  | .sup => 0x00
  | .boot => 0x01
  | .app i => 0xF8 + i.val
  | .cyc i => 0xFC + i.val
  | .host => 0xFF

/-- The outcome of a read of host memory: the bytes, or none where the read failed (R481). -/
abbrev HostData := Option (List Byte)

/-- How far a job had come when its deadline arrived (R168, R170). -/
structure Progress where
  /-- Iterations, rounds, steps or rows completed. -/
  done : Nat
  /-- Single-bit ECC errors corrected. -/
  corr : Nat
  deriving DecidableEq, Repr

/-- A transmit or launch descriptor as software hands it over (R365), with the frame its BUF points to. -/
structure TxDesc where
  /-- BUF, the address of the frame. -/
  buf : Nat
  /-- The frame, without FCS. -/
  frame : List Byte
  /-- LEN. -/
  len : Nat
  /-- FLAGS bit 0, TS_REQ. -/
  tsReq : Bool
  /-- FLAGS bit 1, ONE_STEP. -/
  oneStep : Bool
  /-- FLAGS bit 2, PDELAY. -/
  pdelay : Bool
  /-- TS_ID. -/
  tsId : Nat
  /-- LAUNCH_TIME, device time in ns; launch rings only. -/
  launch : Nat
  /-- T2, the ingress stamp of the Pdelay_Req. -/
  t2 : Nat
  /-- TAG. -/
  tag : Nat
  deriving DecidableEq, Repr


/-- A CAN frame as the protocol controller takes it in (R412, R414). -/
structure CanFrame where
  /-- IDE: 29-bit identifier. -/
  ide : Bool
  /-- FDF: FD frame. -/
  fdf : Bool
  /-- RTR: remote frame. -/
  rtr : Bool
  /-- ESI of the sender. -/
  esi : Bool
  /-- The identifier, coded as the object's ID word (R414). -/
  id : Word
  /-- Data length code. -/
  dlc : Fin 16
  /-- Data bytes. -/
  data : List Byte
  /-- Device time bits [31:0] at the start of frame. -/
  ts : Word
  deriving DecidableEq, Repr

/-- Where an object's frame stands on the wire when a cancel arrives (R419). -/
inductive CanPos where
  /-- No start of frame has been sent for it. -/
  | idle
  /-- In arbitration. -/
  | arbitration
  /-- It has won arbitration. -/
  | won
  deriving DecidableEq, Repr

/-- A bus error, as ISO 11898-1 counts it (R420). -/
inductive CanErr where
  /-- This controller sends object `obj`: TEC rises by 8 where ISO 11898-1 counts the error; `won` after arbitration was
  won, `bit` for a bit error. -/
  | tx (obj : Fin 128) (won bit counted : Bool)
  /-- The sender of the frame in error goes on to see a bit error in its error or overload flag, or a further run of dominant bits after
  it: TEC rises by 8, and no further attempt ends. -/
  | txFurther
  /-- This controller receives: REC rises by 1. -/
  | rx
  /-- This controller receives and sees a dominant bit after its error flag: REC rises by 8. -/
  | rxDominant
  deriving DecidableEq, Repr

/-- The FCS of a Xonlink frame as it arrives (R333). -/
inductive XlFcs where
  /-- Right. -/
  | ok
  /-- Wrong. -/
  | wrong
  /-- Inverted by an earlier node. -/
  | inverted
  deriving DecidableEq, Repr

/-- Readings of the INTLK lines: the own readback and the two partner inputs; true reads claimed. -/
structure Lines where
  /-- Own INTLK_OUT. -/
  own : Bool
  /-- INTLK_IN0. -/
  in0 : Bool
  /-- INTLK_IN1. -/
  in1 : Bool
  deriving DecidableEq, Repr

/-- The commands, one constructor per row of spec/opcode_table.json, in the table's order. -/
inductive Instr where
  /-- REGISTER_WRITE (R9): A write to a register that has no row of its own takes effect on its RW, W1C and W1S fields; the device discards misaligned writes, and R40 settles a collision with hardware. -/
  | registerWrite (req : Req) (bar : Bar) (off : BitVec 24) (size : Fin 9) (v : BitVec 64) (hwSet : Word)
  /-- READ_CLEAR (R8): A read of an RC counter register returns its value and then clears it. -/
  | readClear (req : Req) (bar : Bar) (off : BitVec 24) (size : Fin 9)
  /-- DEBUG_MODULE_ACCESS (R567): An access to a DBG_DMI register reaches the RISC-V debug module, within the limits of the life-cycle state. -/
  | debugModuleAccess (port : Port) (a : BitVec 7) (write : Option Word)
  /-- SAMPLE_INSTANT (R23): The sequencer reaches the sample instant of a cycle; inputs latch and cycle-level updates apply. -/
  | sampleInstant
  /-- INTAKE_CL (R51): The intake-close boundary is reached. -/
  | intakeCl
  /-- FUSION_DL (R51): The fusion-deadline boundary is reached, and the solve phase opens. -/
  | fusionDl
  /-- PRIMARY_POST (R195): At FUSION_DL + 12 µs the control engine posts the primary QP-ADMM job. -/
  | primaryPost
  /-- SOLVE_DL (R51): The solve-deadline boundary is reached. -/
  | solveDl
  /-- STAGE_DL (R51): The staging-deadline boundary is reached. -/
  | stageDl (lines : Lines)
  /-- OUT_OFFSET (R27): The output instant is reached, and the housekeeping phase starts. -/
  | outOffset (refOk : Bool)
  /-- SWITCH_BOUNDARY (R51): The SWITCH boundary is reached. -/
  | switchBoundary (mig : Option (List (Nat × Byte) × List (Nat × Byte)))
  /-- SWITCH_WINDOW_CLOSE (R99): The switch window closes, and an incomplete migration is abandoned. -/
  | switchWindowClose
  /-- FAST_TICK (R49): A fast tick falls. -/
  | fastTick
  /-- FAST_BUDGET_EXPIRY (R83): FAST has exceeded FAST_BUDGET; FAST_OVR is set. -/
  | fastBudgetExpiry
  /-- SECTION_END (R85): A cycle core reports the end of its section. -/
  | sectionEnd (sec : Fin 4) (stores : List (Nat × Byte))
  /-- SECTION_WATCHDOG (R85): A section still running T_base after its start causes a cycle fault. -/
  | sectionWatchdog (sec : Fin 4)
  /-- CORE_FAULT (R85): An illegal instruction, an access fault or a double-bit ECC error on a cycle core. -/
  | coreFault (kind : Fin 3)
  /-- ECC_CORRECTED (R73): A single-bit ECC error in cycle-core memory is corrected and counted. -/
  | eccCorrected
  /-- OVR_LIMIT (R84): OVR_LIMIT consecutive base-cycle overruns cause a cycle fault. -/
  | ovrLimit
  /-- FAST_OVR_LIMIT (R84): FAST_OVR_LIMIT consecutive skipped fast ticks cause a cycle fault. -/
  | fastOvrLimit
  /-- INIT_ENTRY_DONE (R92): An initialisation entry ends, and the restart procedure continues. -/
  | initEntryDone (core : Fin 2) (stores : List (Nat × Byte))
  /-- INIT_BUDGET_EXPIRY (R94): An initialisation entry exceeds INIT_BUDGET, which is a cycle fault. -/
  | initBudgetExpiry
  /-- STAGING_WRITE (R60): A cycle core writes a program-region staging word; writes outside the window are discarded. -/
  | stagingWrite (core : Fin 2) (index : Fin 2048) (value : Word) (other : Option Word)
  /-- CHECKPOINT_WRITE (R88): PRE or POST writes a checkpoint into the signature CRC. -/
  | checkpointWrite (value : Word)
  /-- RESTART (R89): CDR_CTRL.RESTART requests a restart of the type given at the next INTAKE_CL. -/
  | restart (req : Req) (cold : Bool)
  /-- PROGRAM_STOP (R89): CDR_CTRL.STOP requests that both cores stop at the next INTAKE_CL. -/
  | programStop (req : Req) (b : Bool)
  /-- CDR_CYC_LO_READ (R34): A read of CDR_CYC_LO returns CYC bits [31:0] and latches CDR_CYC_HI. -/
  | cdrCycLoRead (req : Req)
  /-- CDR_PT_LO_READ (R74): A read of CDR_PT_LO returns PT bits [31:0] and latches CDR_PT_HI. -/
  | cdrPtLoRead (req : Req)
  /-- CDR_PT_ADJ_LO_READ (R78): A read of CDR_PT_ADJ_LO latches CDR_PT_ADJ_HI. -/
  | cdrPtAdjLoRead (req : Req)
  /-- ONLINE_CHANGE_LOAD (R96): LOAD starts loading the image at CDR_OC_SRC. -/
  | onlineChangeLoad (req : Req)
  /-- LOAD_CHECKS_DONE (R97): The load checks finish; the state moves to READY, or the load is rejected. -/
  | loadChecksDone
  /-- ONLINE_CHANGE_SWITCH (R96): SWITCH arms the switch at CDR_OC_CYC, or reports switch late. -/
  | onlineChangeSwitch (req : Req)
  /-- ONLINE_CHANGE_COMMIT (R104): COMMIT ends the trial and frees the old halves. -/
  | onlineChangeCommit (req : Req)
  /-- ONLINE_CHANGE_ROLLBACK (R102): ROLLBACK schedules a reverse switch during TRIAL. -/
  | onlineChangeRollback (req : Req)
  /-- ONLINE_CHANGE_CANCEL (R96): CANCEL ends a load in LOADING, READY or ARMED. -/
  | onlineChangeCancel (req : Req)
  /-- TRIAL_LEN_EXPIRY (R96): TRIAL_LEN fault-free cycles pass, and AUTO_COMMIT commits. -/
  | trialLenExpiry
  /-- INTAKE_RECORD (R110): A producer writes a measurement record into the intake queue. -/
  | intakeRecord (bytes : List Byte)
  /-- FUS_ENABLE (R147): Setting FUS_CTRL.ENABLE moves the fusion unit from OFF to INIT. -/
  | fusEnable (req : Req)
  /-- RET_COMMIT (R124): RET_COMMIT commits the staged Reticle set for checking. -/
  | retCommit (req : Req)
  /-- DATUM_COMMIT (R148): DATUM_COMMIT commits the datum registers. -/
  | datumCommit (req : Req)
  /-- RESET_FILTER (R147): RESET_FILTER requests re-initialisation of the filter. -/
  | resetFilter (req : Req)
  /-- INERTIAL_UNIT_LOST (R127): An inertial unit delivers no valid increment for 5 ms and is lost. -/
  | inertialUnitLost (unit : Fin 2)
  /-- REF_COAST_LIMIT (R139): The coast count reaches REF_COAST_LIMIT; REF_DEGRADED is set and FSTATE becomes COAST. -/
  | refCoastLimit
  /-- SAT_EXCL_EXPIRY (R133): A satellite's SAT_EXCL_CYC exclusion ends. -/
  | satExclExpiry (slot : Fin 16) (sys svid : Byte)
  /-- RISER_VALID_LOSS (R146): The newest riser record passes 10 cycles of age, and RISER_VALID clears. -/
  | riserValidLoss
  /-- REFERENCE_REQUALIFY (R138): A reference qualifies for 10 cycles and returns to USED. -/
  | referenceRequalify (slot : Fin 16)
  /-- TRACK_DELETE (R145): A track reaches its miss or birth limit and is deleted. -/
  | trackDelete (n : Fin 64)
  /-- QP_ADMM (R172): A QP-ADMM job descriptor is posted to a quadrant port. -/
  | qpAdmm (req : Req) (desc : List Byte) (chain : Option (List Byte))
  /-- KF_QR (R174): A KF-QR job descriptor is posted to a quadrant port. -/
  | kfQr (req : Req) (desc : List Byte)
  /-- LAP (R177): A LAP auction job descriptor is posted to a quadrant port. -/
  | lap (req : Req) (desc : List Byte)
  /-- SIM (R178): A SIM job descriptor is posted to a quadrant port. -/
  | sim (req : Req) (desc : List Byte)
  /-- LOAD (R155): A LOAD descriptor is posted to load a structure image into an engine slot. -/
  | load (req : Req) (desc : List Byte)
  /-- FREE (R155): A FREE descriptor is posted to empty a structure slot. -/
  | free (req : Req) (desc : List Byte)
  /-- JOB_RELEASE (R189): A plan entry's release instant arrives, and its jobs become grantable. -/
  | jobRelease (slot : Fin 127)
  /-- ENGINE_GRANT (R188): A free engine is granted to its highest-priority released job. -/
  | engineGrant (eng : Fin 64)
  /-- JOB_RESULT (R180): A job's result is written at PRED after its grant, and its consumer acts on it. -/
  | jobResult (eng : Fin 64) (corr : Nat)
  /-- SECTOR_SWITCH (R222): The sector count reaches SECTOR_DWELL, and the neighbour sector is selected. -/
  | sectorSwitch (thr : Fin 24)
  /-- SOLVER_LOST (R227): MISS_LIMIT consecutive misses set SOLVER_LOST. -/
  | solverLost
  /-- JOB_DEADLINE (R183): A job's deadline arrives, and the job ends with a deadline status. -/
  | jobDeadline (slot : Fin 127) (done : Progress) (factored : Bool)
  /-- STRUCT_ECC_LOST (R159): A double-bit ECC error makes a structure lost. -/
  | structEccLost (eng : Fin 64) (ss : Fin 4)
  /-- HOST_ABORT (R171): HOST_ABORT completes every class 9 job ABORTED. -/
  | hostAbort (req : Req)
  /-- PLAN_COMMIT (R191): PLAN_COMMIT commits the staged plan for checking. -/
  | planCommit (req : Req)
  /-- SET_COMMIT (R199): SET_COMMIT commits the staged control set for checking. -/
  | setCommit (req : Req)
  /-- PARAM_COMMIT (R210): PARAM_COMMIT commits the staged parameters. -/
  | paramCommit (req : Req)
  /-- COLLIMATION_START (R229): START arms a Collimation run at CTL_COL_CYC. -/
  | collimationStart (req : Req)
  /-- COLLIMATION_STOP (R229): STOP aborts an armed or running Collimation run. -/
  | collimationStop (req : Req)
  /-- COLLIMATION_DONE (R229): DUR cycles pass, and the run is DONE. -/
  | collimationDone
  /-- TABLE_COMMIT (R238): TABLE_COMMIT commits the staged hypothesis table. -/
  | tableCommit (req : Req)
  /-- ACK_OVERDUE (R249): A latch outlasts FB_ACK_LIMIT, and ACK_OVERDUE is set. -/
  | ackOverdue (h : Fin 63)
  /-- LS_HOLD_EXPIRY (R256): LS_HOLD cycles pass, and the load-shed request is released. -/
  | lsHoldExpiry
  /-- FALLBACK_EXPIRY (R247): A stored fallback passes FB_MAX_AGE and becomes unusable. -/
  | fallbackExpiry (h : Fin 63)
  /-- GUARD_POWER_UP (R265): VDD_GUARD rises, and the guard enters LOAD. -/
  | guardPowerUp (slew : Fin 4)
  /-- GUARD_IMAGE_LOAD (R271): The 688th image byte arrives, and the guard judges the image. -/
  | guardImageLoad (bytes : List Byte) (bistFail : Byte)
  /-- GUARD_LOAD_TIMEOUT (R265): No complete image within 100 ms puts the guard in NO_IMAGE. -/
  | guardLoadTimeout
  /-- HEARTBEAT_ARRIVAL (R279): A Clock Drive heartbeat reaches the guard and is accepted, or trips HB_WRONG. -/
  | heartbeatArrival (word : Word) (guardTime : Nat)
  /-- HB_WINDOW_CLOSE (R279): A heartbeat window closes with no heartbeat. -/
  | hbWindowClose
  /-- GUARD_DECISION (R277): 3 CK_GUARD periods after STAGE_DL the guard releases or withholds the cycle. -/
  | guardDecision (disagree : Fin 64)
  /-- SUPERVISOR_HEARTBEAT (R280): The supervisor writes its heartbeat word to the guard. -/
  | supervisorHeartbeat (word : Word) (guardTime : Nat)
  /-- SV_HB_TIMEOUT (R280): No supervisor write within 2.5 × T_fast trips SV_HB. -/
  | svHbTimeout
  /-- EDS_IN (R283): EDS_IN goes active, and the guard holds and trips with cause EDS. -/
  | edsIn
  /-- GUARD_TRIP (R281): The GUARD_TRIP input goes active, and the guard trips with cause GT. -/
  | guardTrip
  /-- GUARD_RST (R282): A release edge of GUARD_RST after 1 ms low clears the absent EDS, GT and HOLD_FB causes. -/
  | guardRst (lowTime : Nat)
  /-- HOLD_FB (R286): A GUARD_HOLD readback mismatch latches a degraded cause, or trips if both pins mismatch. -/
  | holdFb (bad0 bad1 : Bool)
  /-- CLOCK_MONITOR (R281): A CK_GUARD count out of range over 32 CK_BKP periods trips CLOCK. -/
  | clockMonitor (count : Nat)
  /-- VDD_GUARD_BAND (R286): VDD_GUARD leaving its band latches degraded SUPPLY, or trips SUPPLY. -/
  | vddGuardBand (mV : Nat)
  /-- CKBKP_MISSING (R286): No CK_BKP edge for 4 periods latches degraded CKBKP. -/
  | ckbkpMissing
  /-- PARAM_MISMATCH (R281): The guard's two parameter copies differ, which trips PARAM. -/
  | paramMismatch
  /-- DEG_LIMIT_EXPIRY (R287): DEG_LIMIT runs out, and the guard trips DEG_EXPIRY. -/
  | degLimitExpiry
  /-- VDD_GUARD_LOST (R263): VDD_GUARD is lost; the guard outputs go high impedance and read as hold. -/
  | vddGuardLost
  /-- CLAIM_SAMPLE (R298): At its rank slot a fit standby samples the lines and may drive INTLK_OUT low. -/
  | claimSample (lines : Lines) (free : Bool)
  /-- CLAIM_READBACK (R298): 2 µs later the claimer reads back and becomes ACTIVE, or releases. -/
  | claimReadback (lines : Lines) (tie : Bool)
  /-- PARTNER_CLAIM (R300): An active unit sees another member claiming for 10 µs; the higher rank leaves ACTIVE. -/
  | partnerClaim (second : Bool) (frame : Bool)
  /-- OWN_LINE_RELEASED (R301): The active unit's own line reads released for 1 µs. -/
  | ownLineReleased
  /-- STATE_RECORD_RECEIVE (R306): A standby receives a whole state record and adopts the mirrored items. -/
  | stateRecordReceive (port : Fin 4)
  /-- COMPARE_RECORD_RECEIVE (R308): A member receives a compare record. -/
  | compareRecordReceive (port : Fin 4)
  /-- MIRROR_DEADLINE (R304): A mirror record misses its deadline and counts as missing; MIR_LATE is set. -/
  | mirrorDeadline (compare : Bool)
  /-- DIAG (R292): RDN_CTRL.DIAG moves the unit to DIAGNOSTIC. -/
  | diag (req : Req)
  /-- HANDOVER (R315): RDN_CTRL.HANDOVER requests a handover at the next SWITCH. -/
  | handover (req : Req)
  /-- REHEARSE (R317): RDN_CTRL.REHEARSE arms a takeover rehearsal at RDN_REH_CYC. -/
  | rehearse (req : Req)
  /-- REHEARSAL_PULSE (R317): At INTAKE_CL + 100 µs the standby pulses INTLK_OUT and the rehearsal result is recorded. -/
  | rehearsalPulse (lines : Lines)
  /-- HOLDOFF_EXPIRY (R310): HOLDOFF seconds pass since the unit entered STANDBY. -/
  | holdoffExpiry
  /-- FIRST_START_WAIVER (R312): 500 cycles with no partner claim or record waive F3, F4, F5 and F8. -/
  | firstStartWaiver
  /-- CYCLE_LAUNCH (R339): A group member launches its CYCLE frame at −WD_LEAD − 2r µs. -/
  | cycleLaunch (ring : Fin 2)
  /-- INPUT_LAUNCH (R339): A group member launches its INPUT frames at IN_OFS + r × STAGGER. -/
  | inputLaunch (ring : Fin 2)
  /-- CYCLE_FRAME (R336): A node receives a CYCLE frame, forwards it and sets its time from it. -/
  | cycleFrame (port : Fin 4) (frame : List Byte) (fcs : XlFcs) (residence : Nat)
  /-- INPUT_FRAME (R329): A station writes its input slot as an INPUT frame passes. -/
  | inputFrame (port : Fin 4) (frame : List Byte) (fcs : XlFcs)
  /-- OUTPUT_FRAME (R345): A station takes a complete OUTPUT frame, stores its slot and sets ACK. -/
  | outputFrame (port : Fin 4) (frame : List Byte) (fcs : XlFcs)
  /-- WITHDRAW_FRAME (R345): A station receives a WITHDRAW and discards that cycle's output. -/
  | withdrawFrame (port : Fin 4) (frame : List Byte) (fcs : XlFcs)
  /-- DELAY_REQ (R335): A neighbour receives a DELAY_REQ and answers with a DELAY_RESP. -/
  | delayReq (port : Fin 4) (frame : List Byte) (fcs : XlFcs) (turn : Nat)
  /-- DELAY_RESP (R335): A node receives a DELAY_RESP and computes the link delay. -/
  | delayResp (port : Fin 4) (frame : List Byte) (fcs : XlFcs)
  /-- MGMT_FRAME (R331): The addressed station answers a MGMT frame as it passes. -/
  | mgmtFrame (port : Fin 4) (frame : List Byte) (fcs : XlFcs)
  /-- INPUT_RETURN (R348): A launcher receives its INPUT frame back and queues its slots and records. -/
  | inputReturn (ring : Fin 2) (frame : List Byte) (fcs : XlFcs)
  /-- OUTPUT_RETURN (R350): The active unit receives its OUTPUT frame back and counts the ACKs. -/
  | outputReturn (ring : Fin 2) (frame : List Byte) (fcs : XlFcs)
  /-- STATION_SAMPLE (R337): A station latches its inputs at the sample instant. -/
  | stationSample
  /-- STATION_OUTPUT_INSTANT (R346): A station applies a valid output, or holds and counts HOLD_CNT. -/
  | stationOutputInstant
  /-- STATION_HOLD_LIMIT (R344): HOLD_CNT reaches HOLD_LIMIT, and the station goes SAFE. -/
  | stationHoldLimit
  /-- STATION_CYCLE_LOSS (R336): 16 cycles without a CYCLE frame return a station from READY or SAFE to SYNC. -/
  | stationCycleLoss
  /-- STATION_SYNC_COMPLETE (R344): 8 consecutive good CYCLE frames move a station from SYNC to READY. -/
  | stationSyncComplete
  /-- STATION_POWER_READY (R344): Power and both ports are ready, and a station moves from RESET to INIT. -/
  | stationPowerReady
  /-- STATION_STAGE_DL (R358): At OUT_OFFSET − 50 µs a station-role device freezes its set for its guard check. -/
  | stationStageDl
  /-- LINK_DELAY_MEASURE (R335): Every 100 base cycles a node measures its link delays. -/
  | linkDelayMeasure (loop0 loop1 : Option Nat)
  /-- PORT_LINK_LOSS (R351): A ring port loses link, and the node wraps the ring. -/
  | portLinkLoss (port : Fin 4)
  /-- PORT_LINK_HELD (R352): A regained port has held link for 100 ms and may unwrap. -/
  | portLinkHeld (port : Fin 4)
  /-- READ_ID (R331): XL_STN_CMD READ_ID asks a station for its identity. -/
  | readId (req : Req) (ring : Fin 2) (stn : Byte)
  /-- IDENTIFY (R331): XL_STN_CMD IDENTIFY makes a station drive its identify indicator. -/
  | identify (req : Req) (ring : Fin 2) (stn : Byte)
  /-- RESUME (R347): XL_STN_CMD RESUME makes RESUME pending for a station. -/
  | resume (req : Req) (ring : Fin 2) (stn : Byte)
  /-- DUP_CLEAR (R355): XL_STN_CMD DUP_CLEAR clears DUPLICATE on a station. -/
  | dupClear (req : Req) (ring : Fin 2) (stn : Byte)
  /-- STN_CMD_TIMEOUT (R331): A station command gets no reply within 2 cycles. -/
  | stnCmdTimeout
  /-- DUPLICATE_CLEAR_COUNT (R355): 16 consecutive clean cycles clear DUPLICATE. -/
  | duplicateClearCount (ring : Fin 2) (stn : Byte)
  /-- ETH_RX_FRAME (R363): A port receives a frame and accepts, stamps and delivers it, or discards it. -/
  | ethRxFrame (port : Fin 4) (frame : List Byte) (fcsOk : Bool)
  /-- ETH_PROD (R364): Software advances a ring producer index and hands entries to the device. -/
  | ethProd (req : Req) (port : Fin 4) (rx tx lq : Fin 256) (txd lqd : List TxDesc)
  /-- TRANSMIT_DONE (R367): A transmit descriptor completes, and its timestamp is pushed if requested. -/
  | transmitDone (port : Fin 4)
  /-- LAUNCH_COMMIT (R384): A launch descriptor reaches its commit point at LAUNCH_TIME − 1 µs. -/
  | launchCommit (port : Fin 4) (ring : Fin 2)
  /-- LAUNCH_DEPART (R384): A launched frame leaves at LAUNCH_TIME, or later on a collision. -/
  | launchDepart (port : Fin 4) (ring : Fin 2)
  /-- ETH_LQ_CANCEL (R387): ETH_LQ_CANCEL cancels a descriptor of launch ring 1. -/
  | ethLqCancel (req : Req) (port : Fin 4) (index : Fin 256)
  /-- ETH_LINK_CHANGE (R388): An Ethernet port's link goes up or down, and pending descriptors abort. -/
  | ethLinkChange (port : Fin 4) (up : Bool) (speed : Fin 4)
  /-- ETH_PORT_ENABLE (R367): A write of TX_EN or RX_EN; a falling enable aborts the pending descriptors. -/
  | ethPortEnable (req : Req) (port : Fin 4) (txEn rxEn : Bool)
  /-- TXTS_EXPIRY (R383): A transmit timestamp left queued for 1 s is removed. -/
  | txtsExpiry
  /-- PTP_TXTS_W0 (R382): A read of PTP_TXTS_W0 latches the head of the timestamp queue. -/
  | ptpTxtsW0 (req : Req)
  /-- PTP_TXTS_W1 (R382): A read of PTP_TXTS_W1 returns the latched stamp and pops it. -/
  | ptpTxtsW1 (req : Req)
  /-- PTP_TIME_NS (R376): A read of PTP_TIME_NS returns device time and latches the requester's PTP_TIME_EXT. -/
  | ptpTimeNs (req : Req)
  /-- PTP_INCR (R371): A write of PTP_INCR sets the target increment, clamped. -/
  | ptpIncr (req : Req) (v : Word)
  /-- STEP (R373): PTP_CTRL.STEP requests a time step, or the step is refused. -/
  | step (req : Req)
  /-- SLEW_GO (R374): SLEW_GO loads the offset to remove by slewing. -/
  | slewGo (req : Req)
  /-- VDD_AON_VALID (R390): VDD_AON rises valid; the switch takes it, and a device start begins under lockout. -/
  | vddAonValid
  /-- LOCKOUT_RELEASE (R393): VDD_AON has been valid for 2 ms; the lockout releases and boot proceeds. -/
  | lockoutRelease (rank : Fin 4) (rails : Fin 512) (ddrOk : Bool) (bistFail : Byte) (guardAt powerAt ddrAt timeAt : Nat) (sub : Fin 32768)
  /-- TIME_READY (R518): BOOT_CTRL.TIME_READY ends the wait, and the grid is scheduled. -/
  | timeReady (req : Req)
  /-- GRID_WAIT_EXPIRY (R518): GRID_WAIT passes without TIME_READY; TIME_UNSYNC is set and the grid starts. -/
  | gridWaitExpiry
  /-- PROVISION (R522): BOOT_LC_CMD PROVISION blows the key digests and L1. -/
  | provision (port : Port) (confirm : Byte) (ok : Bool)
  /-- SEAL (R522): BOOT_LC_CMD SEAL blows L2. -/
  | seal (port : Port) (confirm : Byte) (ok : Bool)
  /-- RETURN (R524): BOOT_LC_CMD RETURN revokes the keys, erases user data and blows L3. -/
  | returnLc (port : Port) (confirm : Byte) (run : ReturnRun)
  /-- DECOMMISSION (R522): BOOT_LC_CMD DECOMMISSION revokes the user keys and blows L4. -/
  | decommission (port : Port) (confirm : Byte) (ok : Bool)
  /-- REVOKE (R522): BOOT_LC_CMD REVOKE blows the revocation bits of the named slots. -/
  | revoke (port : Port) (confirm : Byte) (keys : Fin 16) (ok : Bool)
  /-- VDD_AON_WARNING (R391): VDD_AON falls through its warning level, and the lockout is asserted. -/
  | vddAonWarning
  /-- VBAT_SWITCH (R391): 50 µs later the switch takes VBAT and records the calendar. -/
  | vbatSwitch (vbat : Bool) (sub : Fin 32768)
  /-- FAST_FALL (R391): VDD_AON falls invalid within the 50 µs, and the switch takes VBAT at once. -/
  | fastFall (vbat : Bool) (sub : Fin 32768)
  /-- TIME_LOST (R394): VBAT falls below retention; TIME_LOST is set and the battery-backed fields reset. -/
  | timeLost (close : Bool)
  /-- MERIDIAN_POWER_UP (R394): Meridian powers up from no supply and sets TIME_LOST. -/
  | meridianPowerUp (vbat : Bool)
  /-- BAT_LOW (R389): VBAT crosses its low threshold, and BAT_LOW sets or clears. -/
  | batLow (low : Bool)
  /-- PRESCALER_WRAP (R398): SUBSEC wraps, and the calendar advances one second. -/
  | prescalerWrap
  /-- COMPENSATION_WINDOW (R403): A 128 s compensation window starts; the temperature is read and N is set. -/
  | compensationWindow (temp : BitVec 8)
  /-- EVENT_INPUT_EDGE (R405): An event-input edge is taken and pushed into the FIFO. -/
  | eventInputEdge (input : Fin 4) (rise : Bool) (sub : Fin 32768)
  /-- HALT (R400): MER_CTRL.HALT stops or resumes the calendar. -/
  | halt (req : Req) (halt : Bool) (sub : Fin 32768) (atWrap : Bool)
  /-- CALENDAR_WRITE (R400): A write of MER_SUBSEC, MER_TIME or MER_DATE sets the calendar while halted, or is refused. -/
  | calendarWrite (req : Req) (which : Fin 3) (v : Word)
  /-- SHIFT_GO (R401): SHIFT_GO requests a shift at the next wrap. -/
  | shiftGo (req : Req)
  /-- MER_SUBSEC_READ (R399): A read of MER_SUBSEC latches the requester's calendar shadows. -/
  | merSubsecRead (req : Req) (sub : Fin 32768)
  /-- MER_EVF0_READ (R407): A read of MER_EVF0 latches the FIFO head. -/
  | merEvf0Read (req : Req)
  /-- MER_EVF2_READ (R407): A read of MER_EVF2 returns the last word and pops the entry. -/
  | merEvf2Read (req : Req)
  /-- TIME_LOST_CLEAR (R395): Writing 1 to TIME_LOST clears it and sets RET_VALID. -/
  | timeLostClear (req : Req)
  /-- CYCLE (R409): MER_PWR.CYCLE drives PWR_ON_REQ low for a power cycle, or is refused. -/
  | cycle (req : Req)
  /-- SLEEP (R409): MER_PWR.SLEEP drives PWR_ON_REQ low until a wake source fires, or is refused. -/
  | sleep (req : Req)
  /-- OFF_TIME_EXPIRY (R409): OFF_TIME passes, and PWR_ON_REQ is released. -/
  | offTimeExpiry
  /-- PWR_IGNORED (R410): No switch to VBAT within 1 s releases the pin and sets PWR_IGNORED. -/
  | pwrIgnored
  /-- CAN_FRAME_RECEIVED (R415): A received CAN frame is stored in the matching object, or counted as NOMATCH. -/
  | canFrameReceived (c : Fin 4) (f : CanFrame)
  /-- CAN_TX_DONE (R418): A pending object's frame is sent, and TXRES becomes sent. -/
  | canTxDone (c : Fin 4) (obj : Fin 128)
  /-- CAN_ARBITRATION_LOST (R418): A frame loses arbitration and is retried. -/
  | canArbitrationLost (c : Fin 4) (obj : Fin 128)
  /-- CAN_ERROR (R420): A bus error updates TEC and REC and may change the error state. -/
  | canError (c : Fin 4) (err : CanErr)
  /-- CAN_RECOVERY_DONE (R421): 128 sequences of 11 recessive bits return the controller to error active. -/
  | canRecoveryDone (c : Fin 4)
  /-- CAN_LOCK_TIMEOUT (R417): A lock held for 1 ms is released, and LOCK_TMO is set. -/
  | canLockTimeout (c : Fin 4) (obj : Fin 128)
  /-- CAN_TXREQ (R418): A CAN_TXREQ write makes objects pending. -/
  | canTxreq (req : Req) (c : Fin 4) (r : Fin 4) (mask : Word)
  /-- CAN_CANCEL (R419): CAN_CANCEL cancels one object. -/
  | canCancel (req : Req) (c : Fin 4) (obj : Fin 128) (pos : CanPos)
  /-- RECOVER (R421): RECOVER starts bus-off recovery. -/
  | recover (req : Req) (c : Fin 4)
  /-- CAN_ENABLE (R413): A write of EN puts the controller on the bus, or is ignored with CFG_BAD. -/
  | canEnable (req : Req) (c : Fin 4) (en : Bool)
  /-- CAN_WORD0_READ (R416): A read of word 0 of an object holding NEWDAT sets LOCK. -/
  | canWord0Read (req : Req) (c : Fin 4) (obj : Fin 128)
  /-- CAN_LAST_READ (R416): A read of word LAST clears LOCK and NEWDAT and moves in any shadow frame. -/
  | canLastRead (req : Req) (c : Fin 4) (obj : Fin 128)
  /-- CHARACTER_RECEIVED (R424): A UART receives a character. -/
  | characterReceived (u : Fin 8) (ch : Byte) (framing parity overrun brk : Bool) (start : Nat)
  /-- RAW_IDLE (R431): The line stays idle for IDLE_CHARS, and the raw entry ends. -/
  | rawIdle (u : Fin 8)
  /-- LINE_SILENCE (R437): A break, or no character for 1 s after traffic, raises EV210. -/
  | lineSilence (u : Fin 8) (brk : Bool)
  /-- SER_TXDATA (R424): A byte written to SER_TXDATA is queued for transmission, or dropped. -/
  | serTxdata (req : Req) (u : Fin 8) (b : Byte)
  /-- SER_CONS_WRITE (R430): Software advances CONS and frees ring entries. -/
  | serConsWrite (req : Req) (u : Fin 8) (cons : Fin 64)
  /-- DIO_EDGE (R433): A filtered edge on a discrete pin is stamped and counted. -/
  | dioEdge (pin : Fin 64) (level : Bool)
  /-- DIO_CLAIM (R435): A write of DIO_CLAIM claims pins with the writer's class and index. -/
  | dioClaim (req : Req) (hi : Bool) (mask : Word)
  /-- DIO_OUT (R434): A write of DIO_OUT sets the values of directly claimed pins. -/
  | dioOut (req : Req) (hi : Bool) (v : Word)
  /-- SDF_OUTPUT (R455): A chain completes an output and writes it to its buffer. -/
  | sdfOutput (c : Fin 32) (clks : List (Byte × Byte))
  /-- SDM_CLOCK_LOST (R440): No group clock edge for 1 µs marks the clock lost. -/
  | sdmClockLost (g : Fin 4)
  /-- SDM_CLOCK_RESTORED (R440): 64 valid edges restore the group clock. -/
  | sdmClockRestored (g : Fin 4) (khz : Nat)
  /-- SDF_EN (R444): A write of SDF_EN enables channels, or refuses them on load or range. -/
  | sdfEn (req : Req) (v : Word)
  /-- FIR_SEL (R450): A change of SEL schedules a cross-fade, or is discarded during a fade. -/
  | firSel (req : Req) (c : Fin 32) (second : Bool) (v : Word)
  /-- COEFFICIENT_WRITE (R451): A write to a RAM coefficient set, discarded if the set is in use. -/
  | coefficientWrite (req : Req) (set : Fin 32) (tap : Fin 64) (v : Word)
  /-- SDF_CFG_WRITE (R445): A write of a channel's structure; SRC or PHASE changes start settling. -/
  | sdfCfgWrite (req : Req) (c : Fin 32) (v : Word)
  /-- PCIE_LINK_CHANGE (R459): The PCIe data link comes up or goes down. -/
  | pcieLinkChange (up : Bool) (speed : Fin 5) (width : Fin 5)
  /-- LINK_RECOVERY (R484): DL_Down, hot reset or FLR disables the rings and aborts host work. -/
  | linkRecovery (linkUp : Bool)
  /-- BUS_MASTER_CHANGE (R482): Bus Master Enable or D3hot changes, stopping or resuming memory requests. -/
  | busMasterChange (bme d3hot : Bool)
  /-- RING_ENABLE (R463): Writing EN 1 moves a ring to RUN, or sets CFG_BAD. -/
  | ringEnable (req : Req) (k : Fin 16)
  /-- RING_DISABLE (R483): Writing EN 0 moves a ring to DRAIN. -/
  | ringDisable (req : Req) (k : Fin 16)
  /-- SQ_TAIL (R470): An SQ_TAIL doorbell submits entries, or is discarded. -/
  | sqTail (k : Fin 16) (t : Word)
  /-- CQ_HEAD (R470): A CQ_HEAD doorbell frees completion entries, or is discarded. -/
  | cqHead (k : Fin 16) (h : Word)
  /-- DESCRIPTOR_FETCH (R472): The device fetches submitted descriptors while the ring has room in flight. -/
  | descriptorFetch (k : Fin 16) (entry : HostData)
  /-- NOP (R465): A NOP descriptor is dispatched and completes. -/
  | nop (k : Fin 16)
  /-- ORY_JOB (R474): An ORY_JOB descriptor copies its payload and posts the Orrery job. -/
  | oryJob (k : Fin 16) (data : HostData)
  /-- COPY_OUT (R476): COPY_OUT copies DDR to host memory. -/
  | copyOut (k : Fin 16)
  /-- COPY_IN (R476): COPY_IN copies host memory to DDR, or completes DENIED. -/
  | copyIn (k : Fin 16) (data : HostData)
  /-- OC_LOAD (R475): OC_LOAD copies an image and drives an online change. -/
  | ocLoad (k : Fin 16) (data : HostData)
  /-- STN_CMD (R477): STN_CMD issues a station command if the unit is ACTIVE. -/
  | stnCmd (k : Fin 16)
  /-- FLASH_WRITE (R476): FLASH_WRITE erases and programs flash sectors, or completes DENIED. -/
  | flashWrite (k : Fin 16) (data : HostData)
  /-- COMPLETION_WRITE (R473): A completion is written in ring order once the CQ has room. -/
  | completionWrite (k : Fin 16)
  /-- HOST_READ_RETRY (R481): 10 µs after a failed host read the retry runs; a second failure completes DMA_ERROR. -/
  | hostReadRetry (k : Fin 16) (data : HostData)
  /-- CQ_TIMER (R479): TIMER µs pass after a completion, and the CQ message is sent. -/
  | cqTimer (k : Fin 16)
  /-- HIF_EV_PEND_CLEAR (R478): A W1C of HIF_EV_PEND sends a message if the group summary stays 1. -/
  | hifEvPendClear (req : Req) (word : Fin 8) (mask : Word) (hwSet : Nat)
  /-- MSIX_UNMASK (R478): Unmasking a vector sends its pending message. -/
  | msixUnmask (v : Fin 64)
  /-- ALMANAC_RELEASE (R490): A held record reaches TIME + 2 µs and is released with a SEQ. -/
  | almanacRelease
  /-- ALM_SW_GO (R491): ALM_SW_HDR.GO writes a software detail record, or is refused. -/
  | almSwGo (req : Req)
  /-- ALM_READ (R494): ALM_RD_CTRL.GO starts a read of the next record after S. -/
  | almRead (req : Req)
  /-- ALM_READ_READY (R494): The read completes, and READY is set with the record copied. -/
  | almReadReady (req : Req)
  /-- FLASH_SECTOR_DONE (R497): A flash sector operation completes, or fails after its retry. -/
  | flashSectorDone (ok : Bool)
  /-- FABRIC_TIMEOUT (R498): A fabric request unanswered for 1 ms is a fatal error. -/
  | fabricTimeout
  /-- SRAM_DOUBLE_ECC (R498): A double-bit ECC error in shared SRAM is a fatal error. -/
  | sramDoubleEcc
  /-- DDR_UNCORRECTABLE (R498): An uncorrectable DDR error in a critical region is a fatal error. -/
  | ddrUncorrectable (addr : Nat)
  /-- CORES_TRAPPED (R498): All four application cores stopped in a trap is a fatal error. -/
  | coresTrapped
  /-- TRIGGER (R498): ALM_PLATE_CTRL.TRIGGER requests a capture with REASON 0x06. -/
  | trigger (req : Req)
  /-- PLATE_COPY_DONE (R499): The Plate flash copy completes, and a Meridian Cycle is issued. -/
  | plateCopyDone (ok : Bool)
  /-- RELEASE (R502): ALM_PLATE_CTRL.RELEASE erases the flash Plate copy. -/
  | releasePlate (req : Req)
  /-- RAIL_INVALID (R530): A rail leaves its valid window, and its domains are isolated. -/
  | railInvalid (rail : Fin 9)
  /-- IO_RAIL_INVALID (R549): VDDIO_A or VDDIO_B leaves its window; the supervisor stops its heartbeat. -/
  | ioRailInvalid (b : Bool)
  /-- DOMAIN_READY (R529): A switched domain completes its power-up and reports ready. -/
  | domainReady
  /-- TEMP_CONVERSION (R537): A diode conversion updates the mean, and the thermal level is evaluated. -/
  | tempConversion (value : Option (BitVec 12))
  /-- THROTTLE_DWELL (R540): DWELL passes above 115 °C or below 110 °C, and a step change is due. -/
  | throttleDwell
  /-- SHUTDOWN_POWER_DOWN (R542): 1 ms after the request every switched domain powers down. -/
  | shutdownPowerDown
  /-- CLOCK_FAILURE (R535): The root or a PLL fails supervision; the supervisor stops its heartbeat. -/
  | clockFailure (which : Fin 3) (stops : Bool)
  /-- SUPERVISOR_CYCLE_DELAY (R535): 100 ms after a clock or I/O rail failure the supervisor issues a Meridian Cycle. -/
  | supervisorCycleDelay
  /-- OFF_REQ (R531): A write of PWR_ORR_CTRL.OFF_REQ requests quadrants off or on. -/
  | offReq (req : Req) (v : Fin 8)
  /-- CLK_SSC (R533): A write of CLK_SSC sets a new spread depth, pending until the next sample instant. -/
  | clkSsc (req : Req) (v : Word)
  /-- PORT_LINK_UP (R335): A Xonlink ring port gains link; its link delay is measured and its 100 ms hold before unwrapping begins. -/
  | portLinkUp (port : Fin 4)
  /-- MGMT_RETURN (R331): The ACTIVE member receives its MGMT frame back whole and completes XL_STN_CMD with the station's STATUS and READ_ID reply. -/
  | mgmtReturn (ring : Fin 2) (frame : List Byte) (fcs : XlFcs)
  /-- EDS_IN_RELEASED (R281): EDS_IN returns to its inactive level, so the EDS cause is no longer present and GUARD_RST can clear it. -/
  | edsInReleased
  /-- GUARD_TRIP_RELEASED (R281): GUARD_TRIP returns to its inactive level, so the GT cause is no longer present and GUARD_RST can clear it. -/
  | guardTripReleased
  /-- HOLD_READBACK_RESTORED (R281): The GUARD_HOLD pad readback again matches its drive, so the HOLD_FB trip cause is no longer present. -/
  | holdReadbackRestored
  /-- RAIL_VALID (R545): A main rail other than VDD_AON returns into its valid window; RAIL_OK is set and EV016 is raised. -/
  | railValid (rail : Fin 9)
  /-- SPREAD_RAMP_END (R534): The 1 ms spread-depth ramp ends, and DEPTH in the admission bound takes the new depth alone. -/
  | spreadRampEnd
  /-- SLEW_DONE (R374): In FREE the slew remainder reaches 0 at a CK_TIME tick; the slew term becomes 0 and SLEWING clears. -/
  | slewDone
  /-- CHARACTER_SENT (R424): A UART finishes sending a character; TX_LEVEL falls, and SER_DE and TX_BUSY drop when the FIFO empties. -/
  | characterSent (u : Fin 8)
  /-- COMPLETION_TIMEOUT (R481): A PCIe read of host memory gets no completion within the completion timeout, and the read fails. -/
  | completionTimeout (k : Fin 16)
  deriving DecidableEq, Repr

end Sys2Proof
end

