-- ==== Sys2Proof/Decode.lean ====
section
/-! DEFINITION. The words of the table.  No row of spec/opcode_table.json gives bits, so no word spells a command. -/

namespace Sys2Proof

/-- The command that a word of `nbits` bits spells by the table's bits: none, since no row gives any. -/
def decodeTableWord (_nbits _w : Nat) : Option Instr := none

/-- The row of spec/opcode_table.json a command belongs to, counted from 0. -/
def Instr.row (i : Instr) : Nat :=
  match i with
  | .registerWrite _ _ _ _ _ _ => 0
  | .readClear _ _ _ _ => 1
  | .debugModuleAccess _ _ _ => 2
  | .sampleInstant => 3
  | .intakeCl => 4
  | .fusionDl => 5
  | .primaryPost => 6
  | .solveDl => 7
  | .stageDl _ => 8
  | .outOffset _ => 9
  | .switchBoundary _ => 10
  | .switchWindowClose => 11
  | .fastTick => 12
  | .fastBudgetExpiry => 13
  | .sectionEnd _ _ => 14
  | .sectionWatchdog _ => 15
  | .coreFault _ => 16
  | .eccCorrected => 17
  | .ovrLimit => 18
  | .fastOvrLimit => 19
  | .initEntryDone _ _ => 20
  | .initBudgetExpiry => 21
  | .stagingWrite _ _ _ _ => 22
  | .checkpointWrite _ => 23
  | .restart _ _ => 24
  | .programStop _ _ => 25
  | .cdrCycLoRead _ => 26
  | .cdrPtLoRead _ => 27
  | .cdrPtAdjLoRead _ => 28
  | .onlineChangeLoad _ => 29
  | .loadChecksDone => 30
  | .onlineChangeSwitch _ => 31
  | .onlineChangeCommit _ => 32
  | .onlineChangeRollback _ => 33
  | .onlineChangeCancel _ => 34
  | .trialLenExpiry => 35
  | .intakeRecord _ => 36
  | .fusEnable _ => 37
  | .retCommit _ => 38
  | .datumCommit _ => 39
  | .resetFilter _ => 40
  | .inertialUnitLost _ => 41
  | .refCoastLimit => 42
  | .satExclExpiry _ _ _ => 43
  | .riserValidLoss => 44
  | .referenceRequalify _ => 45
  | .trackDelete _ => 46
  | .qpAdmm _ _ _ => 47
  | .kfQr _ _ => 48
  | .lap _ _ => 49
  | .sim _ _ => 50
  | .load _ _ => 51
  | .free _ _ => 52
  | .jobRelease _ => 53
  | .engineGrant _ => 54
  | .jobResult _ _ => 55
  | .sectorSwitch _ => 56
  | .solverLost => 57
  | .jobDeadline _ _ _ => 58
  | .structEccLost _ _ => 59
  | .hostAbort _ => 60
  | .planCommit _ => 61
  | .setCommit _ => 62
  | .paramCommit _ => 63
  | .collimationStart _ => 64
  | .collimationStop _ => 65
  | .collimationDone => 66
  | .tableCommit _ => 67
  | .ackOverdue _ => 68
  | .lsHoldExpiry => 69
  | .fallbackExpiry _ => 70
  | .guardPowerUp _ => 71
  | .guardImageLoad _ _ => 72
  | .guardLoadTimeout => 73
  | .heartbeatArrival _ _ => 74
  | .hbWindowClose => 75
  | .guardDecision _ => 76
  | .supervisorHeartbeat _ _ => 77
  | .svHbTimeout => 78
  | .edsIn => 79
  | .guardTrip => 80
  | .guardRst _ => 81
  | .holdFb _ _ => 82
  | .clockMonitor _ => 83
  | .vddGuardBand _ => 84
  | .ckbkpMissing => 85
  | .paramMismatch => 86
  | .degLimitExpiry => 87
  | .vddGuardLost => 88
  | .claimSample _ _ => 89
  | .claimReadback _ _ => 90
  | .partnerClaim _ _ => 91
  | .ownLineReleased => 92
  | .stateRecordReceive _ => 93
  | .compareRecordReceive _ => 94
  | .mirrorDeadline _ => 95
  | .diag _ => 96
  | .handover _ => 97
  | .rehearse _ => 98
  | .rehearsalPulse _ => 99
  | .holdoffExpiry => 100
  | .firstStartWaiver => 101
  | .cycleLaunch _ => 102
  | .inputLaunch _ => 103
  | .cycleFrame _ _ _ _ => 104
  | .inputFrame _ _ _ => 105
  | .outputFrame _ _ _ => 106
  | .withdrawFrame _ _ _ => 107
  | .delayReq _ _ _ _ => 108
  | .delayResp _ _ _ => 109
  | .mgmtFrame _ _ _ => 110
  | .inputReturn _ _ _ => 111
  | .outputReturn _ _ _ => 112
  | .stationSample => 113
  | .stationOutputInstant => 114
  | .stationHoldLimit => 115
  | .stationCycleLoss => 116
  | .stationSyncComplete => 117
  | .stationPowerReady => 118
  | .stationStageDl => 119
  | .linkDelayMeasure _ _ => 120
  | .portLinkLoss _ => 121
  | .portLinkHeld _ => 122
  | .readId _ _ _ => 123
  | .identify _ _ _ => 124
  | .resume _ _ _ => 125
  | .dupClear _ _ _ => 126
  | .stnCmdTimeout => 127
  | .duplicateClearCount _ _ => 128
  | .ethRxFrame _ _ _ => 129
  | .ethProd _ _ _ _ _ _ _ => 130
  | .transmitDone _ => 131
  | .launchCommit _ _ => 132
  | .launchDepart _ _ => 133
  | .ethLqCancel _ _ _ => 134
  | .ethLinkChange _ _ _ => 135
  | .ethPortEnable _ _ _ _ => 136
  | .txtsExpiry => 137
  | .ptpTxtsW0 _ => 138
  | .ptpTxtsW1 _ => 139
  | .ptpTimeNs _ => 140
  | .ptpIncr _ _ => 141
  | .step _ => 142
  | .slewGo _ => 143
  | .vddAonValid => 144
  | .lockoutRelease _ _ _ _ _ _ _ _ _ => 145
  | .timeReady _ => 146
  | .gridWaitExpiry => 147
  | .provision _ _ _ => 148
  | .seal _ _ _ => 149
  | .returnLc _ _ _ => 150
  | .decommission _ _ _ => 151
  | .revoke _ _ _ _ => 152
  | .vddAonWarning => 153
  | .vbatSwitch _ _ => 154
  | .fastFall _ _ => 155
  | .timeLost _ => 156
  | .meridianPowerUp _ => 157
  | .batLow _ => 158
  | .prescalerWrap => 159
  | .compensationWindow _ => 160
  | .eventInputEdge _ _ _ => 161
  | .halt _ _ _ _ => 162
  | .calendarWrite _ _ _ => 163
  | .shiftGo _ => 164
  | .merSubsecRead _ _ => 165
  | .merEvf0Read _ => 166
  | .merEvf2Read _ => 167
  | .timeLostClear _ => 168
  | .cycle _ => 169
  | .sleep _ => 170
  | .offTimeExpiry => 171
  | .pwrIgnored => 172
  | .canFrameReceived _ _ => 173
  | .canTxDone _ _ => 174
  | .canArbitrationLost _ _ => 175
  | .canError _ _ => 176
  | .canRecoveryDone _ => 177
  | .canLockTimeout _ _ => 178
  | .canTxreq _ _ _ _ => 179
  | .canCancel _ _ _ _ => 180
  | .recover _ _ => 181
  | .canEnable _ _ _ => 182
  | .canWord0Read _ _ _ => 183
  | .canLastRead _ _ _ => 184
  | .characterReceived _ _ _ _ _ _ _ => 185
  | .rawIdle _ => 186
  | .lineSilence _ _ => 187
  | .serTxdata _ _ _ => 188
  | .serConsWrite _ _ _ => 189
  | .dioEdge _ _ => 190
  | .dioClaim _ _ _ => 191
  | .dioOut _ _ _ => 192
  | .sdfOutput _ _ => 193
  | .sdmClockLost _ => 194
  | .sdmClockRestored _ _ => 195
  | .sdfEn _ _ => 196
  | .firSel _ _ _ _ => 197
  | .coefficientWrite _ _ _ _ => 198
  | .sdfCfgWrite _ _ _ => 199
  | .pcieLinkChange _ _ _ => 200
  | .linkRecovery _ => 201
  | .busMasterChange _ _ => 202
  | .ringEnable _ _ => 203
  | .ringDisable _ _ => 204
  | .sqTail _ _ => 205
  | .cqHead _ _ => 206
  | .descriptorFetch _ _ => 207
  | .nop _ => 208
  | .oryJob _ _ => 209
  | .copyOut _ => 210
  | .copyIn _ _ => 211
  | .ocLoad _ _ => 212
  | .stnCmd _ => 213
  | .flashWrite _ _ => 214
  | .completionWrite _ => 215
  | .hostReadRetry _ _ => 216
  | .cqTimer _ => 217
  | .hifEvPendClear _ _ _ _ => 218
  | .msixUnmask _ => 219
  | .almanacRelease => 220
  | .almSwGo _ => 221
  | .almRead _ => 222
  | .almReadReady _ => 223
  | .flashSectorDone _ => 224
  | .fabricTimeout => 225
  | .sramDoubleEcc => 226
  | .ddrUncorrectable _ => 227
  | .coresTrapped => 228
  | .trigger _ => 229
  | .plateCopyDone _ => 230
  | .releasePlate _ => 231
  | .railInvalid _ => 232
  | .ioRailInvalid _ => 233
  | .domainReady => 234
  | .tempConversion _ => 235
  | .throttleDwell => 236
  | .shutdownPowerDown => 237
  | .clockFailure _ _ => 238
  | .supervisorCycleDelay => 239
  | .offReq _ _ => 240
  | .clkSsc _ _ => 241
  | .portLinkUp _ => 242
  | .mgmtReturn _ _ _ => 243
  | .edsInReleased => 244
  | .guardTripReleased => 245
  | .holdReadbackRestored => 246
  | .railValid _ => 247
  | .spreadRampEnd => 248
  | .slewDone => 249
  | .characterSent _ => 250
  | .completionTimeout _ => 251

end Sys2Proof
end

