-- ==== Sys2Proof/Machine/Bits.lean ====
section
/-! DEFINITION. Bit fields, signed values and saturating counts. -/

namespace Sys2Proof.Machine

/-- The bits [hi:lo] of a number. -/
def bitsOf (w hi lo : Nat) : Nat := w / 2 ^ lo % 2 ^ (hi + 1 - lo)

/-- The number `w` with the bits [hi:lo] replaced by the low bits of `v`. -/
def putBits (w hi lo v : Nat) : Nat :=
  w % 2 ^ lo + v % 2 ^ (hi + 1 - lo) * 2 ^ lo + w / 2 ^ (hi + 1) * 2 ^ (hi + 1)

/-- Bit `i` of a number. -/
def bitAt (w i : Nat) : Bool := w / 2 ^ i % 2 == 1

/-- The number `w` with bit `i` set to `b`. -/
def putBit (w i : Nat) (b : Bool) : Nat := putBits w i i (if b then 1 else 0)

/-- A flag as the number a one-bit field holds. -/
def b2n (b : Bool) : Nat := if b then 1 else 0

/-- The bits [hi:lo] of a register word. -/
def wbits (w : Word) (hi lo : Nat) : Nat := bitsOf w.toNat hi lo

/-- A number of `n` bits read as two's complement (R11). -/
def sgn (n v : Nat) : Int := if v % 2 ^ n < 2 ^ (n - 1) then (v % 2 ^ n : Nat) else ((v % 2 ^ n : Nat) : Int) - (2 ^ n : Nat)

/-- The `n`-bit two's-complement code of an integer. -/
def code (n : Nat) (i : Int) : Nat := (i % ((2 ^ n : Nat) : Int)).toNat

/-- An integer limited to [lo, hi]. -/
def clampI (lo hi v : Int) : Int := if v < lo then lo else if hi < v then hi else v

/-- A number limited to at most `hi`. -/
def satN (hi v : Nat) : Nat := if hi < v then hi else v

/-- Integer division that rounds to the nearest, ties to even; the divisor is positive. -/
def divRne (a b : Nat) : Nat :=
  let q := a / b
  let r := a % b
  if 2 * r < b then q else if b < 2 * r then q + 1 else if q % 2 = 0 then q else q + 1

/-- Signed division that rounds to the nearest, ties to even. -/
def divRneI (a : Int) (b : Nat) : Int := if a < 0 then -((divRne a.natAbs b : Nat) : Int) else ((divRne a.natAbs b : Nat) : Int)

/-- Signed division that rounds to the nearest, ties away from zero. -/
def divNearI (a : Int) (b : Nat) : Int :=
  if a < 0 then -(((2 * a.natAbs + b) / (2 * b) : Nat) : Int) else (((2 * a.natAbs + b) / (2 * b) : Nat) : Int)

/-- The positions of the set bits among the low `n` bits, lowest first. -/
def setBits (n w : Nat) : List Nat := (List.range n).filter (bitAt w)

/-- Exclusive or of two numbers. -/
def xorN (a b : Nat) : Nat := a ^^^ b

/-- The element at index `i` replaced; an index outside the list changes nothing. -/
def setAt {α : Type} : List α → Nat → α → List α
  | [], _, _ => []
  | _ :: xs, 0, a => a :: xs
  | x :: xs, i + 1, a => x :: setAt xs i a

/-- The element at index `i` passed through `f`; an index outside the list changes nothing. -/
def modAt {α : Type} : List α → Nat → (α → α) → List α
  | [], _, _ => []
  | x :: xs, 0, f => f x :: xs
  | x :: xs, i + 1, f => x :: modAt xs i f

/-- Do `f` for each element of a list, in order. -/
def forEach {α σ : Type} (xs : List α) (f : α → σ → σ) (s : σ) : σ := xs.foldl (fun s x => f x s) s

end Sys2Proof.Machine
end

