-- ==== Sys2Proof/Machine/F64.lean ====
section
/-! DEFINITION. IEEE 754 binary64 and binary32 arithmetic, rounding to nearest, ties to even (R12, R186): every
operation computes the exact result and rounds it once. -/

namespace Sys2Proof.Machine

/-- A binary format: precision, the exponent of the least subnormal, and the code of infinity. -/
structure Fmt where
  /-- Bits of the significand. -/
  p : Nat
  /-- Exponent of the least significant bit of a subnormal. -/
  emin : Int
  /-- The code of +infinity. -/
  inf : Nat
  /-- The sign bit's weight. -/
  sign : Nat
  deriving DecidableEq, Repr

/-- binary64. -/
def fmt64 : Fmt := ⟨53, -1074, 2047 * 2 ^ 52, 2 ^ 63⟩

/-- binary32. -/
def fmt32 : Fmt := ⟨24, -149, 255 * 2 ^ 23, 2 ^ 31⟩

/-- What a code stands for. -/
inductive FVal where
  /-- Not a number. -/
  | nan
  /-- An infinity; true: negative. -/
  | inf (neg : Bool)
  /-- m · 2^e; true: negative. -/
  | fin (neg : Bool) (m : Nat) (e : Int)
  deriving DecidableEq, Repr

/-- Read a code. -/
def Fmt.read (f : Fmt) (c : Nat) : FVal :=
  let neg := decide (f.sign ≤ c % (2 * f.sign))
  let a := c % f.sign
  let ex := a / 2 ^ (f.p - 1)
  if f.inf < a then .nan
  else if a = f.inf then .inf neg
  else if ex = 0 then .fin neg a f.emin
  else .fin neg (a % 2 ^ (f.p - 1) + 2 ^ (f.p - 1)) (f.emin + ((ex : Nat) : Int) - 1)

/-- The code of NaN: a quiet NaN with an empty payload. -/
def Fmt.nan (f : Fmt) : Nat := f.inf + 2 ^ (f.p - 2)

/-- The code nearest to num / den · 2^e, ties to even, with a sign. -/
def Fmt.pack (f : Fmt) (neg : Bool) (num den : Nat) (e : Int) : Nat :=
  let s := if neg then f.sign else 0
  if num = 0 then s
  else
    let g : Int := ((num.log2 : Nat) : Int) - ((den.log2 : Nat) : Int)
    let low : Bool := if 0 ≤ g then decide (num < den * 2 ^ g.toNat) else decide (num * 2 ^ (-g).toNat < den)
    let lead := g - (if low then 1 else 0) + e
    let lsb := if lead - (((f.p : Nat) : Int) - 1) < f.emin then f.emin else lead - (((f.p : Nat) : Int) - 1)
    let m := divRne (num * 2 ^ (e - lsb).toNat) (den * 2 ^ (lsb - e).toNat)
    let c := (lsb - f.emin).toNat * 2 ^ (f.p - 1) + m
    s + satN f.inf c

/-- A signed dyadic number m · 2^e as a code; a zero result takes the sign given. -/
def Fmt.packInt (f : Fmt) (m : Int) (e : Int) (negZero : Bool) : Nat :=
  if m = 0 then (if negZero then f.sign else 0) else f.pack (decide (m < 0)) m.natAbs 1 e

/-- A signed significand. -/
def sgnd (neg : Bool) (m : Nat) : Int := if neg then -(m : Int) else (m : Int)

/-- The sum of two dyadic numbers as (significand, exponent). -/
def addDyadic (m1 e1 m2 e2 : Int) : Int × Int :=
  if e1 ≤ e2 then (m1 + m2 * ((2 ^ (e2 - e1).toNat : Nat) : Int), e1)
  else (m1 * ((2 ^ (e1 - e2).toNat : Nat) : Int) + m2, e2)

/-- Addition. -/
def Fmt.add (f : Fmt) (a b : Nat) : Nat :=
  match f.read a, f.read b with
  | .nan, _ => f.nan
  | _, .nan => f.nan
  | .inf x, .inf y => if x = y then a else f.nan
  | .inf _, _ => a
  | _, .inf _ => b
  | .fin x m d, .fin y n e =>
    let r := addDyadic (sgnd x m) d (sgnd y n) e
    f.packInt r.1 r.2 (x && y)

/-- The code with its sign changed. -/
def Fmt.neg (f : Fmt) (a : Nat) : Nat := if a % (2 * f.sign) < f.sign then a + f.sign else a - f.sign

/-- Subtraction. -/
def Fmt.sub (f : Fmt) (a b : Nat) : Nat := f.add a (f.neg b)

/-- Multiplication. -/
def Fmt.mul (f : Fmt) (a b : Nat) : Nat :=
  match f.read a, f.read b with
  | .nan, _ => f.nan
  | _, .nan => f.nan
  | .inf x, .inf y => f.inf + (if x != y then f.sign else 0)
  | .inf x, .fin y n _ => if n = 0 then f.nan else f.inf + (if x != y then f.sign else 0)
  | .fin x m _, .inf y => if m = 0 then f.nan else f.inf + (if x != y then f.sign else 0)
  | .fin x m d, .fin y n e => f.pack (x != y) (m * n) 1 (d + e)

/-- Division. -/
def Fmt.div (f : Fmt) (a b : Nat) : Nat :=
  match f.read a, f.read b with
  | .nan, _ => f.nan
  | _, .nan => f.nan
  | .inf _, .inf _ => f.nan
  | .inf x, .fin y _ _ => f.inf + (if x != y then f.sign else 0)
  | .fin x _ _, .inf y => if x != y then f.sign else 0
  | .fin x m d, .fin y n e =>
    if n = 0 then (if m = 0 then f.nan else f.inf + (if x != y then f.sign else 0))
    else f.pack (x != y) m n (d - e)

/-- The integer square root, bit by bit from 2^(k-1) down. -/
def isqrt (n : Nat) : Nat → Nat → Nat
  | 0, r => r
  | k + 1, r => if (r + 2 ^ k) * (r + 2 ^ k) ≤ n then isqrt n k (r + 2 ^ k) else isqrt n k r

/-- Square root. -/
def Fmt.sqrt (f : Fmt) (a : Nat) : Nat :=
  match f.read a with
  | .nan => f.nan
  | .inf x => if x then f.nan else a
  | .fin x m e =>
    if m = 0 then a
    else if x then f.nan
    else
      let e2 := if e % 2 = 0 then e else e - 1
      let m2 := (if e % 2 = 0 then m else 2 * m) * 2 ^ 128
      let r := isqrt m2 96 0
      f.pack false (2 * r + (if r * r = m2 then 0 else 1)) 2 (e2 / 2 - 64)

/-- The integer cube root, bit by bit from 2^(k-1) down. -/
def icbrt (n : Nat) : Nat → Nat → Nat
  | 0, r => r
  | k + 1, r => if (r + 2 ^ k) ^ 3 ≤ n then icbrt n k (r + 2 ^ k) else icbrt n k r

/-- Cube root of a positive code. -/
def Fmt.cbrt (f : Fmt) (a : Nat) : Nat :=
  match f.read a with
  | .fin false m e =>
    if m = 0 then a
    else
      let e3 := e - e % 3
      let m3 := m * 2 ^ (e % 3).toNat * 2 ^ 192
      let r := icbrt m3 96 0
      f.pack false (2 * r + (if r ^ 3 = m3 then 0 else 1)) 2 (e3 / 3 - 64)
  | _ => f.nan

/-- The sign of a code's value compared with another's: `none` with a NaN. -/
def Fmt.cmp (f : Fmt) (a b : Nat) : Option Int :=
  match f.read a, f.read b with
  | .nan, _ => none
  | _, .nan => none
  | .inf x, .inf y => some (if x = y then 0 else if x then -1 else 1)
  | .inf x, _ => some (if x then -1 else 1)
  | _, .inf y => some (if y then 1 else -1)
  | .fin x m d, .fin y n e => some (addDyadic (sgnd x m) d (-(sgnd y n)) e).1.sign

/-- Less than; false with a NaN. -/
def Fmt.lt (f : Fmt) (a b : Nat) : Bool := f.cmp a b == some (-1)

/-- Less than or equal; false with a NaN. -/
def Fmt.le (f : Fmt) (a b : Nat) : Bool := f.cmp a b == some (-1) || f.cmp a b == some 0

/-- Is a code finite? -/
def Fmt.finite (f : Fmt) (a : Nat) : Bool := match f.read a with | .fin .. => true | _ => false

/-- The magnitude of a code. -/
def Fmt.abs (f : Fmt) (a : Nat) : Nat := a % f.sign

/-- A code of one format in another. -/
def Fmt.conv (f g : Fmt) (a : Nat) : Nat :=
  match f.read a with
  | .nan => g.nan
  | .inf x => g.inf + (if x then g.sign else 0)
  | .fin x m e => g.pack x m 1 e

/-- An integer times 2^e as a code. -/
def Fmt.ofInt (f : Fmt) (i : Int) (e : Int) : Nat := f.packInt i e false

/-- A fraction as a code. -/
def Fmt.ofFrac (f : Fmt) (i : Int) (d : Nat) : Nat := f.pack (decide (i < 0)) i.natAbs d 0

/-- The value times `scale` as an integer, rounded to the nearest, ties to even, or toward zero; 0 where it is not
finite. -/
def Fmt.toIntScaled (f : Fmt) (a : Nat) (scale : Nat) (rne : Bool) : Int :=
  match f.read a with
  | .fin x m e =>
    let num := m * scale * 2 ^ e.toNat
    let den := 2 ^ (-e).toNat
    let q := if rne then divRne num den else num / den
    if x then -(q : Int) else (q : Int)
  | _ => 0

/-- A binary64 number. -/
abbrev F64 := Nat

/-- binary64 sum. -/
def fadd (a b : F64) : F64 := fmt64.add a b
/-- binary64 difference. -/
def fsub (a b : F64) : F64 := fmt64.sub a b
/-- binary64 product. -/
def fmul (a b : F64) : F64 := fmt64.mul a b
/-- binary64 quotient. -/
def fdiv (a b : F64) : F64 := fmt64.div a b
/-- binary64 square root. -/
def fsqrt (a : F64) : F64 := fmt64.sqrt a
/-- binary64 cube root. -/
def fcbrt (a : F64) : F64 := fmt64.cbrt a
/-- binary64 less than. -/
def flt (a b : F64) : Bool := fmt64.lt a b
/-- binary64 less than or equal. -/
def fle (a b : F64) : Bool := fmt64.le a b
/-- binary64 negation. -/
def fneg (a : F64) : F64 := fmt64.neg a
/-- binary64 magnitude. -/
def fabs (a : F64) : F64 := fmt64.abs a
/-- binary64 of an integer. -/
def fint (i : Int) : F64 := fmt64.ofInt i 0
/-- binary64 of a fraction. -/
def ffrac (i : Int) (d : Nat) : F64 := fmt64.ofFrac i d
/-- binary64 limited to [lo, hi]. -/
def fclamp (lo hi x : F64) : F64 := if flt x lo then lo else if flt hi x then hi else x
/-- The smaller. -/
def fmin (a b : F64) : F64 := if flt b a then b else a
/-- The greater. -/
def fmax (a b : F64) : F64 := if flt a b then b else a
/-- The whole number below a code that is not negative. -/
def ffloor (a : F64) : Nat := (fmt64.toIntScaled a 1 false).toNat
/-- Is it finite? -/
def ffin (a : F64) : Bool := fmt64.finite a
/-- binary32 to binary64. -/
def f32to64 (a : Nat) : F64 := fmt32.conv fmt64 a
/-- binary64 to binary32. -/
def f64to32 (a : F64) : Nat := fmt64.conv fmt32 a

/-- π · 10⁴⁰, to the nearest integer below. -/
def piNum : Nat := 31415926535897932384626433832795028841971

/-- 10⁴⁰. -/
def piDen : Nat := 10 ^ 40

/-- π as binary64. -/
def fpi : F64 := ffrac piNum piDen

/-- 2π as binary64. -/
def f2pi : F64 := ffrac (2 * piNum) piDen

end Sys2Proof.Machine
end

