-- ==== Sys2Proof/Machine/Chi.lean ====
section
/-! DEFINITION. The chi-square quantiles G_k of R134, computed in fixed point and given to a hundredth, as the rule's table
gives those it lists. -/

namespace Sys2Proof.Machine

/-- 1 in fixed point. -/
def chiOne : Nat := 2 ^ 256

/-- The terms z^b ÷ Γ(b + 1) from a start on, `n` of them, for z = num ÷ 400: their sum, and the sum of those from the term
`k` on.  `two`: twice the index b of the next term. -/
def chiSum (num k : Nat) : Nat → Nat → Nat → Nat → Nat
  | 0, _, _, acc => acc
  | n + 1, two, t, acc =>
    chiSum num k n (two + 2) (t * num * 2 / (400 * (two + 2))) (if k ≤ two then acc + t else acc)

/-- The first term: 1 for whole b, 2 √(z ÷ π) for b = 1/2. -/
def chiFirst (odd : Bool) (num : Nat) : Nat :=
  if odd then isqrt (num * piDen * chiOne * chiOne / (100 * piNum)) 300 0 else chiOne

/-- Is the chi-square distribution function of k degrees of freedom at num ÷ 200 at least 1 − 1 ÷ `tail`?  Both sides carry
the factor e^z, z = num ÷ 400. -/
def chiReaches (k tail num : Nat) : Bool :=
  let o := k % 2
  let low := chiSum num k 1200 o (chiFirst (o == 1) num) 0
  let all := chiSum num 0 1200 0 chiOne 0
  decide (all * (tail - 1) ≤ low * tail)

/-- The quantile in hundredths, to the nearest: the number of half-hundredth marks below it, bit by bit. -/
def chiSearch (k tail : Nat) : Nat → Nat → Nat
  | 0, m => m
  | n + 1, m => chiSearch k tail n (if chiReaches k tail (2 * (m + 2 ^ n) - 1) then m else m + 2 ^ n)

/-- G_k in hundredths at a PFA code: 0.01, 0.001 or 0.0001 (R134). -/
def chiHundredths (k pfa : Nat) : Nat := chiSearch k (10 ^ (pfa + 2)) 16 0

end Sys2Proof.Machine
end

