-- ==== Sys2Proof/Config.lean ====
section
/-! DEFINITION. What the spec leaves open: free values, constants with no body.  Nothing in Lean can evaluate one or
prove a value of it, so a statement that holds of the model holds whatever the value is. -/

namespace Sys2Proof

/-- A free value, drawn with the counter `State.freeCtr` (log entry 2). -/
opaque Config.freeValue : Nat → Nat

/-- The coefficients of the factory ROM sets 0 to 5 of the sigma-delta chains, by set and tap, Q1.23 (R446, R447): R447 gives what the
sets do, and no rule gives their values (log entry 50). -/
opaque Config.firRom : Nat → Nat → BitVec 24

/-- The group delay of the sets 6 and 7, tenths of an input sample; R448 states none. -/
opaque Config.emptySetDelay : Nat

/-- Core address of the 4 KiB exchange area of shared SRAM (R72), which no rule gives. -/
opaque Config.exchangeBase : Nat

/-- Core address at which the cycle cores read the staging buffer (R59), which no rule gives. -/
opaque Config.stagingBase : Nat

/-! ### Binary64 results of an engine whose rounding the spec does not fix (log entry 5)

Results and operands are binary64 codes.  R186 gives each operation's rounding, and no rule gives the order of the
operations inside a sum of products in the lanes, or which of them are fused. -/

/-- A sum of products. -/
opaque Config.dot : List (Nat × Nat) → BitVec 64

/-- The sign a Householder reflection gives the diagonal (R175), from its column; true: negative. -/
opaque Config.reflectNeg : List Nat → Bool

/-- The factor U, row by row, that the image of a KF-QR structure holds: s, r and the image's bytes. -/
opaque Config.imageFactor : Nat → Nat → List Byte → List (BitVec 64)

/-- The sum of squared whitened residuals of a KF-QR job (R168), from its rows and the factor. -/
opaque Config.kfResidual : Nat → List (List Nat) → List Nat → BitVec 64

/-- The byte at which an array lies in the image of a structure (R156 gives the total, R158 the kinds of array, no rule
their places): TYPE, n, m, nnzA, nnzP, and the array: 0 to 8 as R161 codes them with z at 8, 16 and 17 the column pointers
and row indices of P, 18 and 19 those of A (log entry 6). -/
opaque Config.imageOffset : Nat → Nat → Nat → Nat → Nat → Nat → Nat

/-- A lane register of an engine (R152) after a job has used it: the draw, lane, register. -/
opaque Config.laneReg : Nat → Nat → Nat → BitVec 64

/-- A byte of the scratch area of an engine (R152) after a job has used it: the draw, offset. -/
opaque Config.scratch : Nat → Nat → Byte

/-- The place in shared SRAM of a result of a unit of the device, which no rule gives.  Plan slot, SEQ. -/
opaque Config.resultAddr : Nat → Nat → Nat

/-- Where the two buffers of the state record lie in shared SRAM (R150), which no rule gives. -/
opaque Config.stateRecordAt : Bool → Nat

/-- Where the host interface's area begins (R474): true for its 8 MiB of DDR, false for its 256 KiB of shared SRAM. -/
opaque Config.hostBase : Bool → Nat

/-- The place that the host interface gives a payload or a result in its area (R474): the draw. -/
opaque Config.hostArea : Nat → Nat

/-- Whether the host has configured AER to report a host read that failed after its retry (R481). -/
opaque Config.aerReports : Bool

/-- What the host has written to the endpoint's Device Control register (R460): the code of Max Payload Size, that of Max Read Request
Size, and whether relaxed ordering is enabled (log entry 29). -/
opaque Config.pcieControl : Nat × Nat × Bool

/-- Where an address that an Ethernet ring base or BUF gives lies: true for DDR and false for shared SRAM, and the offset there (R364 to
R366); the spec gives no map of the fabric's addresses (log entry 48). -/
opaque Config.fabricMap : Nat → Bool × Nat

/-! ### The fusion unit (log entry 7)

The spec names what each of these is computed from and to, and no rule gives the arithmetic to the last bit.  States are
lists of binary64 codes: position, velocity, heading roll pitch, rates, three each. -/

/-- The integration scheme of the strapdown propagation (R126): state, the corrected increments (angle in the body frame,
velocity in the earth frame, duration, seven codes each), lever arm of the unit, from, to. -/
opaque Config.strapdown : List Nat → List (List Nat) → List Nat → Nat → Nat → List (BitVec 64)

/-- The partial derivative of a measurement row by an element of the error state that no rule gives: that of the attitude
error.  Record, Reticle source entry, state, row, element (R129). -/
opaque Config.rowPartial : List Byte → List Byte → List Nat → Nat → Nat → BitVec 64

/-- The standard deviation of a position row of a sensor whose record gives range and angle deviations (R113, R121), from
what the record gives. -/
opaque Config.axisSigma : List Nat → BitVec 64

/-- The first nominal state (R147): heading records with their Reticle entries, position record and its entry, datum. -/
opaque Config.fusInit : List (List Byte × List Byte) → List Byte → List Byte → List Word → List (BitVec 64)

/-- The first relative offset N, E of an optical reference (R147), whose returns are not assigned yet: scan, Reticle entry,
state. -/
opaque Config.relOffset : List Byte → List Byte → List Nat → BitVec 64 × BitVec 64

/-- An element of Φ⁻¹ for the next base cycle (R173 to R175): state, row and column from 0. -/
opaque Config.kfPhi : List Nat → Nat → Nat → BitVec 64

/-- The process noise variance of an element of the error state over a base cycle: state, element. -/
opaque Config.kfNoise : List Nat → Nat → BitVec 64

/-- What a KF-QR structure image holds after its header when the filter starts. -/
opaque Config.kfPrior : List Byte

/-- n of the difference of two classes (R137) of which one has no single pair of N, E rows, from their rows with innovation
and variance. -/
opaque Config.pairN : List (List Nat × Nat × Nat) → List (List Nat × Nat × Nat) → BitVec 64

/-- The covariance NN, NE, EE of an optical return's point (R143): return, Reticle entry, state. -/
opaque Config.returnCov : List Word → List Byte → List Nat → List (BitVec 64)

/-- The predicted position and covariance of a track in the next cycle (R143): N, E, NN, NE, EE. -/
opaque Config.trackPredict : List Nat → List (BitVec 64)

/-- A track's position and covariance after it was assigned a return: prediction, return. -/
opaque Config.trackMove : List Nat → List Nat → List (BitVec 64)

/-- Phases, rounds per phase and first ε of the assignment job. -/
opaque Config.lapShape : Nat × Nat × Nat

/-! ### The control engine and Ephemeris (log entry 8)

The rules give formulas over real numbers; a formula of + − × ÷ and √ is computed in binary64, and what no such formula
gives is one of these. -/

/-- Sine. -/
opaque Config.sin : Nat → BitVec 64

/-- Cosine. -/
opaque Config.cos : Nat → BitVec 64

/-- Tangent. -/
opaque Config.tan : Nat → BitVec 64

/-- The direction of a vector (y, x), in (−π, π]. -/
opaque Config.atan2 : Nat → Nat → BitVec 64

/-- Exponential and natural logarithm. -/
opaque Config.exp : Nat → BitVec 64

/-- Natural logarithm. -/
opaque Config.ln : Nat → BitVec 64

/-- One step of the first-order low-pass of R209: state, input, step, time constant. -/
opaque Config.lowPass : Nat → Nat → Nat → Nat → BitVec 64

/-! ### Xonlink (log entry 9) -/

/-- The MAC address of a Xonlink port; no rule gives it. -/
opaque Config.xlMac : Nat → BitVec 48

/-- PRODUCT, HW_REV and FW_REV of the READ_ID reply (R331). -/
opaque Config.stationIds : BitVec 16 × BitVec 16 × BitVec 16

/-! ### The mirror link (log entry 11) -/

/-- The MAC address of the partner port that a mirror port sends to; no rule says how the port knows it. -/
opaque Config.partnerMac : Nat → BitVec 48

/-! ### Boot and the life cycle (log entry 10) -/

/-- The vendor key in boot ROM. -/
opaque Config.vendorKey : List Byte

/-- A field of a section whose layout no rule gives (R514): section type, field, the section's bytes.  SYSTEM (1): 0 ROLE,
1 GRP_SIZE, 2 DIAG, 3 PRESET, 4 riser-follow, 5 EDS_IN, 6 legacy parser, 7 START_DEFAULT, 8 GRID_WAIT, 9 fusion, 10 control
engine, 11 Ephemeris, 12 fallbacks, 13 Orrery, 14 flush, 15 and 16 mirror ports, 17 PLATE_SEALED, 18 and
19 PCIe subsystem vendor and device ID.  CYCLE (2): 0 T_base in ms,
1 T_fast coded as CDR_PERIOD.FAST, 2 SLOW_MULT, 3 to 8 the boundaries, 9 FAST_BUDGET in units of 10 µs, 10 OVR_LIMIT, 11
FAST_OVR_LIMIT.  ETHERNET (3): 2p MODE and 2p + 1 AN_EN of port p; 8 + 4k the words of filter entry k: EN, PORTS, UDP, ADDR.
REGIONS (12): 0 and 1 offset and length of the log, 2 and 3 of the Plate area.  STATION (13): 0 segment, 1 station number. -/
opaque Config.sectField : Nat → Nat → List Byte → Nat

/-- The pairs of a section whose layout no rule gives (R514): the DDR ranges of REGIONS (12, 0), the safe-state staging
words (13, 0) and discrete levels (13, 1) of STATION. -/
opaque Config.sectPairs : Nat → Nat → List Byte → List (Nat × Nat)

/-- A field of a firmware image's header whose place no rule gives (R506): 0 TYPE, 1 LENGTH, 2 FORMAT. -/
opaque Config.fwField : Nat → List Byte → Nat

/-- What stands for the CRC's own bytes where the CRC-32C of a whole firmware image is computed, which holds it; no rule says how
that field counts (R506). -/
opaque Config.fwOwn : List Byte

/-- BOOT_LC_NONCE of a device start: a random value (R523). -/
opaque Config.nonce : Nat → BitVec 32

/-- Which of the fuses to be blown read blown when the verify fails (R522): free counter. -/
opaque Config.fuseBits : Nat → Nat

/-- A key digest as it reads when the verify fails: free counter, slot. -/
opaque Config.fuseDigest : Nat → Nat → List Byte

/-- The same of the second fuse of each life-cycle pair (R520): free counter. -/
opaque Config.fuseMates : Nat → Nat

/-! ### The debug module (log entry 26) -/

/-- How many data registers there are, above the two that a 64-bit access needs. -/
opaque Config.dmDataCount : Nat

/-- hartinfo of a hart. -/
opaque Config.hartInfo : Nat → BitVec 32

/-- Does Access Register reach a register of a hart that is no general register: hart, regno? -/
opaque Config.dmSupports : Nat → Nat → Bool

/-- What a register of a halted core holds: free counter. -/
opaque Config.hartReg : Nat → BitVec 64

/-! ### Plate capture (log entry 12) -/

/-- Where the structure in a slot of an engine begins in its structure area, which no rule says: engine, slot. -/
opaque Config.structAt : Nat → Nat → Nat

/-- A byte of a Plate block whose source the model does not hold (R501): free counter, block, offset. -/
opaque Config.plateByte : Nat → Nat → Nat → Byte

/-- SOURCE_ADDR of a Plate block; no rule gives it: TYPE, quadrant. -/
opaque Config.plateSource : Nat → Nat → BitVec 64

end Sys2Proof
end

