-- ==== Sys2Proof/Machine/RegTable.lean ====
section
/-! DEFINITION. The register tables of the spec: every register of BAR0 with its offset, its reset value and the
access code of every bit (R6, R8, R10, R565, R566, 19_register_index.md), and the name of every field.
Written out from the register tables of the chapters, one row per table. -/

namespace Sys2Proof.Machine

/-- One register table: `count` instances at `base + stride * i`, each family instance (R566) a further
`fstride` on, `fcount` of them (1 when the register has no family).  The masks are the bits of each access code of R8. -/
structure RegRow where
  /-- The register's name. -/
  name : String
  /-- BAR0 offset of instance 0. -/
  base : Nat
  /-- Distance between the instances of one array. -/
  stride : Nat
  /-- Instances in the array. -/
  count : Nat
  /-- Distance between family instances (R566). -/
  fstride : Nat
  /-- Family instances. -/
  fcount : Nat
  /-- Value after power-on reset (R10). -/
  reset : Nat
  /-- RW bits. -/
  rw : Nat
  /-- W1C bits. -/
  w1c : Nat
  /-- W1S bits. -/
  w1s : Nat
  /-- RC bits. -/
  rc : Nat
  /-- WO bits. -/
  wo : Nat
  /-- RSV bits. -/
  rsv : Nat
  deriving DecidableEq, Repr

/-- A named field of a register: the register's offset and the bits [hi:lo]. -/
structure Fld where
  /-- BAR0 offset of the register. -/
  off : Nat
  /-- Most significant bit. -/
  hi : Nat
  /-- Least significant bit. -/
  lo : Nat
  deriving DecidableEq, Repr

/-- The offset `d` bytes after `base` in the same block of 64 KiB: registers of one block stand in it with all their instances
(R566). -/
def blockOff (base d : Nat) : Nat := base / 0x10000 * 0x10000 + (base % 0x10000 + d) % 0x10000

/-- The same field of the instance `d` bytes further on (R566). -/
def Fld.plus (f : Fld) (d : Nat) : Fld := ⟨blockOff f.off d, f.hi, f.lo⟩

/-- The registers of the block at 0x00_0000. -/
def regRows00 : List RegRow := [
  ⟨"CHIP_ID", 0x0, 4, 1, 0x0, 1, 0x9410105A, 0x0, 0x0, 0x0, 0x0, 0x0, 0x0⟩,
  ⟨"CHIP_VARIANT", 0x4, 4, 1, 0x0, 1, 0x17E, 0x0, 0x0, 0x0, 0x0, 0x0, 0xFFFFF080⟩,
  ⟨"CHIP_PROFILE", 0x8, 4, 1, 0x0, 1, 0x0, 0x0, 0x0, 0x0, 0x0, 0x0, 0xFFFFFF08⟩]

/-- The registers of the block at 0x01_0000. -/
def regRows01 : List RegRow := [
  ⟨"BOOT_STATUS", 0x10000, 4, 1, 0x0, 1, 0x0, 0x0, 0x0, 0x0, 0x0, 0x0, 0x1C0⟩,
  ⟨"BOOT_CTRL", 0x10004, 4, 1, 0x0, 1, 0x0, 0x3, 0x0, 0x4, 0x0, 0x0, 0xFFFFFFF8⟩,
  ⟨"BOOT_CFG_ID", 0x10008, 4, 1, 0x0, 1, 0x0, 0x0, 0x0, 0x0, 0x0, 0x0, 0x0⟩,
  ⟨"BOOT_DUR", 0x1000C, 4, 1, 0x0, 1, 0x0, 0x0, 0x0, 0x0, 0x0, 0x0, 0x0⟩,
  ⟨"BOOT_LC_CMD", 0x10010, 4, 1, 0x0, 1, 0x0, 0xF00FF0F, 0x0, 0x80000000, 0x0, 0x0, 0xFF00F0⟩,
  ⟨"BOOT_LC_ADDR_LO", 0x10014, 4, 1, 0x0, 1, 0x0, 0xFFFFFFFF, 0x0, 0x0, 0x0, 0x0, 0x0⟩,
  ⟨"BOOT_LC_ADDR_HI", 0x10018, 4, 1, 0x0, 1, 0x0, 0xFFFFFFFF, 0x0, 0x0, 0x0, 0x0, 0x0⟩,
  ⟨"BOOT_LC_NONCE", 0x1001C, 4, 1, 0x0, 1, 0x0, 0x0, 0x0, 0x0, 0x0, 0x0, 0x0⟩,
  ⟨"BOOT_KEYS", 0x10020, 4, 1, 0x0, 1, 0x0, 0x0, 0x0, 0x0, 0x0, 0x0, 0xFFFFFF00⟩]

/-- The registers of the block at 0x02_0000. -/
def regRows02 : List RegRow := [
  ⟨"PWR_STATUS", 0x20000, 4, 1, 0x0, 1, 0x7, 0x0, 0x0, 0x0, 0x0, 0x0, 0xFE00F000⟩,
  ⟨"PWR_ORR_CTRL", 0x20004, 4, 1, 0x0, 1, 0x0, 0xE, 0x0, 0x0, 0x0, 0x0, 0xFFFFFFF1⟩,
  ⟨"PWR_IO_SLEW", 0x20008, 4, 1, 0x0, 1, 0x115, 0x3FF, 0x0, 0x0, 0x0, 0x0, 0xFFFFFC00⟩,
  ⟨"PWR_IO_FILT", 0x2000C, 4, 1, 0x0, 1, 0x0, 0xFFFF, 0x0, 0x0, 0x0, 0x0, 0xFFFF0000⟩]

/-- The registers of the block at 0x03_0000. -/
def regRows03 : List RegRow := [
  ⟨"CLK_STATUS", 0x30000, 4, 1, 0x0, 1, 0x0, 0x0, 0x20, 0x0, 0x0, 0x0, 0xFFFFFF80⟩,
  ⟨"CLK_SSC", 0x30004, 4, 1, 0x0, 1, 0x80000005, 0x8000000F, 0x0, 0x0, 0x0, 0x0, 0x7FFFFFF0⟩,
  ⟨"CLK_REF", 0x30008, 4, 1, 0x0, 1, 0x0, 0x80000000, 0x0, 0x0, 0x0, 0x0, 0x7FFE0000⟩,
  ⟨"CLK_TC", 0x30080, 4, 17, 0x0, 1, 0x0, 0xFFFFFFFF, 0x0, 0x0, 0x0, 0x0, 0x0⟩]

/-- The registers of the block at 0x04_0000. -/
def regRows04 : List RegRow := [
  ⟨"THM_STATUS", 0x40000, 4, 1, 0x0, 1, 0x0, 0x0, 0x0, 0x0, 0x0, 0x0, 0x1FFF000⟩,
  ⟨"THM_TEMP_SI", 0x40004, 4, 1, 0x0, 1, 0x0, 0x0, 0x0, 0x0, 0x0, 0x0, 0xFFFFF000⟩,
  ⟨"THM_CFG", 0x40008, 4, 1, 0x0, 1, 0xA, 0xFF, 0x0, 0x0, 0x0, 0x0, 0xFFFFFF00⟩,
  ⟨"THM_MAX", 0x4000C, 4, 1, 0x0, 1, 0x0, 0x0, 0x0, 0x0, 0xFFF, 0x0, 0xFFFFF000⟩,
  ⟨"THM_CNT", 0x40010, 4, 1, 0x0, 1, 0x0, 0x0, 0x0, 0x0, 0xFFFFFFFF, 0x0, 0x0⟩]

/-- The registers of the block at 0x05_0000. -/
def regRows05 : List RegRow := [
  ⟨"CDR_CTRL", 0x50000, 4, 1, 0x0, 1, 0x0, 0x6, 0x0, 0x1, 0x0, 0x0, 0xFFFFFFF8⟩,
  ⟨"CDR_STATUS", 0x50004, 4, 1, 0x0, 1, 0x0, 0x0, 0x3AF, 0x0, 0x0, 0x0, 0xF00F800⟩,
  ⟨"CDR_PERIOD", 0x50008, 4, 1, 0x0, 1, 0x64010A, 0x0, 0x0, 0x0, 0x0, 0x0, 0xC000FC80⟩,
  ⟨"CDR_OFS_A", 0x5000C, 4, 1, 0x0, 1, 0xFA0096, 0x0, 0x0, 0x0, 0x0, 0x0, 0x0⟩,
  ⟨"CDR_OFS_B", 0x50010, 4, 1, 0x0, 1, 0x2EE02BC, 0x0, 0x0, 0x0, 0x0, 0x0, 0x0⟩,
  ⟨"CDR_OFS_C", 0x50014, 4, 1, 0x0, 1, 0x3520320, 0x0, 0x0, 0x0, 0x0, 0x0, 0x0⟩,
  ⟨"CDR_BUDGET", 0x50018, 4, 1, 0x0, 1, 0x5214, 0x0, 0x0, 0x0, 0x0, 0x0, 0xFFFC0000⟩,
  ⟨"CDR_CYC_LO", 0x50020, 4, 1, 0x0, 1, 0x0, 0x0, 0x0, 0x0, 0x0, 0x0, 0x0⟩,
  ⟨"CDR_CYC_HI", 0x50024, 4, 1, 0x0, 1, 0x0, 0x0, 0x0, 0x0, 0x0, 0x0, 0x0⟩,
  ⟨"CDR_PT_LO", 0x50028, 4, 1, 0x0, 1, 0x0, 0x0, 0x0, 0x0, 0x0, 0x0, 0x0⟩,
  ⟨"CDR_PT_HI", 0x5002C, 4, 1, 0x0, 1, 0x0, 0x0, 0x0, 0x0, 0x0, 0x0, 0x0⟩,
  ⟨"CDR_PT_ADJ_LO", 0x50030, 4, 1, 0x0, 1, 0x0, 0x0, 0x0, 0x0, 0x0, 0x0, 0x0⟩,
  ⟨"CDR_PT_ADJ_HI", 0x50034, 4, 1, 0x0, 1, 0x0, 0x0, 0x0, 0x0, 0x0, 0x0, 0x0⟩,
  ⟨"CDR_OVR_CNT", 0x50038, 4, 1, 0x0, 1, 0x0, 0x0, 0x0, 0x0, 0xFFFFFFFF, 0x0, 0x0⟩,
  ⟨"CDR_RESTART_INFO", 0x5003C, 4, 1, 0x0, 1, 0x0, 0x0, 0x0, 0x0, 0x0, 0x0, 0xF0000⟩,
  ⟨"CDR_HB_LAST", 0x50040, 4, 1, 0x0, 1, 0x0, 0x0, 0x0, 0x0, 0x0, 0x0, 0x0⟩,
  ⟨"CDR_PROG_ID", 0x50044, 4, 1, 0x0, 1, 0x0, 0x0, 0x0, 0x0, 0x0, 0x0, 0x0⟩,
  ⟨"CDR_PROG_VER", 0x50048, 4, 1, 0x0, 1, 0x0, 0x0, 0x0, 0x0, 0x0, 0x0, 0x0⟩,
  ⟨"CDR_OC_CTRL", 0x50050, 4, 1, 0x0, 1, 0x640020, 0xFFFF0060, 0x0, 0x1F, 0x0, 0x0, 0xFF80⟩,
  ⟨"CDR_OC_STATUS", 0x50054, 4, 1, 0x0, 1, 0x0, 0x0, 0x0, 0x0, 0x0, 0x0, 0x7F00⟩,
  ⟨"CDR_OC_CYC_LO", 0x50058, 4, 1, 0x0, 1, 0x0, 0xFFFFFFFF, 0x0, 0x0, 0x0, 0x0, 0x0⟩,
  ⟨"CDR_OC_CYC_HI", 0x5005C, 4, 1, 0x0, 1, 0x0, 0xFFFFFFFF, 0x0, 0x0, 0x0, 0x0, 0x0⟩,
  ⟨"CDR_OC_SRC_LO", 0x50060, 4, 1, 0x0, 1, 0x0, 0xFFFFFFFF, 0x0, 0x0, 0x0, 0x0, 0x0⟩,
  ⟨"CDR_OC_SRC_HI", 0x50064, 4, 1, 0x0, 1, 0x0, 0xFFFFFFFF, 0x0, 0x0, 0x0, 0x0, 0x0⟩]

/-- The registers of the block at 0x06_0000. -/
def regRows06 : List RegRow := [
  ⟨"FUS_CTRL", 0x60000, 4, 1, 0x0, 1, 0x0, 0x31, 0x0, 0xE, 0x0, 0x0, 0xFFFFFFC0⟩,
  ⟨"FUS_STATUS", 0x60004, 4, 1, 0x0, 1, 0x0, 0x0, 0x2F9, 0x0, 0x0, 0x0, 0xFFFF800⟩,
  ⟨"FUS_GATE", 0x60008, 4, 1, 0x0, 1, 0x14293040, 0xFFFFFFFF, 0x0, 0x0, 0x0, 0x0, 0x0⟩,
  ⟨"FUS_LIMITS", 0x6000C, 4, 1, 0x0, 1, 0x64012C, 0xFFFFFFFF, 0x0, 0x0, 0x0, 0x0, 0x0⟩,
  ⟨"FUS_REF_STATE", 0x60010, 4, 1, 0x0, 1, 0x0, 0x0, 0x0, 0x0, 0x0, 0x0, 0x0⟩,
  ⟨"FUS_AUX_STATE", 0x60014, 4, 1, 0x0, 1, 0x0, 0x0, 0x0, 0x0, 0x0, 0x0, 0xF0000000⟩,
  ⟨"FUS_COAST_CNT", 0x60018, 4, 1, 0x0, 1, 0x0, 0x0, 0x0, 0x0, 0x0, 0x0, 0x0⟩,
  ⟨"FUS_ROWS", 0x6001C, 4, 1, 0x0, 1, 0x0, 0x0, 0x0, 0x0, 0x0, 0x0, 0xFE00⟩,
  ⟨"FUS_STATE_CYC_LO", 0x60020, 4, 1, 0x0, 1, 0x0, 0x0, 0x0, 0x0, 0x0, 0x0, 0x0⟩,
  ⟨"FUS_STATE_CYC_HI", 0x60024, 4, 1, 0x0, 1, 0x0, 0x0, 0x0, 0x0, 0x0, 0x0, 0x0⟩,
  ⟨"FUS_DATUM_LAT_LO", 0x60028, 4, 1, 0x0, 1, 0x0, 0xFFFFFFFF, 0x0, 0x0, 0x0, 0x0, 0x0⟩,
  ⟨"FUS_DATUM_LAT_HI", 0x6002C, 4, 1, 0x0, 1, 0x0, 0xFFFFFFFF, 0x0, 0x0, 0x0, 0x0, 0x0⟩,
  ⟨"FUS_DATUM_LON_LO", 0x60030, 4, 1, 0x0, 1, 0x0, 0xFFFFFFFF, 0x0, 0x0, 0x0, 0x0, 0x0⟩,
  ⟨"FUS_DATUM_LON_HI", 0x60034, 4, 1, 0x0, 1, 0x0, 0xFFFFFFFF, 0x0, 0x0, 0x0, 0x0, 0x0⟩,
  ⟨"FUS_DATUM_H", 0x60038, 4, 1, 0x0, 1, 0x0, 0xFFFFFFFF, 0x0, 0x0, 0x0, 0x0, 0x0⟩,
  ⟨"FUS_RET_ID", 0x6003C, 4, 1, 0x0, 1, 0x0, 0x0, 0x0, 0x0, 0x0, 0x0, 0x0⟩,
  ⟨"FUS_TRK_CFG", 0x60040, 4, 1, 0x0, 1, 0x32254390, 0xFFFFFFFF, 0x0, 0x0, 0x0, 0x0, 0x0⟩,
  ⟨"FUS_TRK_STATUS", 0x60044, 4, 1, 0x0, 1, 0x0, 0x0, 0x0, 0x0, 0x0, 0x0, 0xFF808080⟩,
  ⟨"FUS_INTAKE", 0x60048, 4, 1, 0x0, 1, 0x0, 0x0, 0x0, 0x0, 0xFFFF0000, 0x0, 0x0⟩,
  ⟨"FUS_SRC_CNT", 0x60100, 4, 32, 0x0, 1, 0x0, 0x0, 0x0, 0x0, 0xFFFFFFFF, 0x0, 0x0⟩]

/-- The registers of the block at 0x07_0000. -/
def regRows07 : List RegRow := [
  ⟨"ORY_CTRL", 0x70000, 4, 1, 0x0, 1, 0x20000, 0xFF0001, 0x0, 0x6, 0x0, 0x0, 0xFF00FFF8⟩,
  ⟨"ORY_STATUS", 0x70004, 4, 1, 0x0, 1, 0x0, 0x0, 0xFE, 0x0, 0x0, 0x0, 0xFFFFF00⟩,
  ⟨"ORY_ENG_BUSY_LO", 0x70008, 4, 1, 0x0, 1, 0x0, 0x0, 0x0, 0x0, 0x0, 0x0, 0x0⟩,
  ⟨"ORY_ENG_BUSY_HI", 0x7000C, 4, 1, 0x0, 1, 0x0, 0x0, 0x0, 0x0, 0x0, 0x0, 0x0⟩,
  ⟨"ORY_QLEVEL", 0x70010, 4, 1, 0x0, 1, 0x0, 0x0, 0x0, 0x0, 0x0, 0x0, 0x0⟩,
  ⟨"ORY_CNT_DL", 0x70014, 4, 1, 0x0, 1, 0x0, 0x0, 0x0, 0x0, 0xFFFFFFFF, 0x0, 0x0⟩,
  ⟨"ORY_CNT_EXC", 0x70018, 4, 1, 0x0, 1, 0x0, 0x0, 0x0, 0x0, 0xFFFFFFFF, 0x0, 0x0⟩,
  ⟨"ORY_ECC", 0x7001C, 4, 1, 0x0, 1, 0x0, 0x0, 0x0, 0x0, 0xFFFF0000, 0x0, 0xFFC0⟩,
  ⟨"ORY_PLAN_ID", 0x70020, 4, 1, 0x0, 1, 0x0, 0x0, 0x0, 0x0, 0x0, 0x0, 0x0⟩,
  ⟨"ORY_SLOT_ID", 0x70400, 4, 256, 0x0, 1, 0x0, 0x0, 0x0, 0x0, 0x0, 0x0, 0x0⟩]

/-- The registers of the block at 0x08_0000. -/
def regRows08 : List RegRow := [
  ⟨"CTL_CTRL", 0x80000, 4, 1, 0x0, 1, 0x0, 0x1, 0x0, 0x6, 0x0, 0x0, 0xFFFFFFF8⟩,
  ⟨"CTL_STATUS", 0x80004, 4, 1, 0x0, 1, 0x30000000, 0x0, 0x1D5, 0x0, 0x0, 0x0, 0xFFFFC00⟩,
  ⟨"CTL_MODE", 0x80008, 4, 1, 0x0, 1, 0x0, 0x0, 0x0, 0x0, 0x0, 0x0, 0xFFFFFF80⟩,
  ⟨"CTL_MISS", 0x8000C, 4, 1, 0x0, 1, 0x30A, 0xFFFF, 0x0, 0x0, 0x0, 0x0, 0x0⟩,
  ⟨"CTL_CNT", 0x80010, 4, 1, 0x0, 1, 0x0, 0x0, 0x0, 0x0, 0xFFFFFFFF, 0x0, 0x0⟩,
  ⟨"CTL_SECTOR", 0x80014, 4, 3, 0x0, 1, 0xFFFFFFFF, 0x0, 0x0, 0x0, 0x0, 0x0, 0x0⟩,
  ⟨"CTL_THR_STATE", 0x80020, 4, 2, 0x0, 1, 0x0, 0x0, 0x0, 0x0, 0x0, 0x0, 0x0⟩,
  ⟨"CTL_SET_ID", 0x80028, 4, 1, 0x0, 1, 0x0, 0x0, 0x0, 0x0, 0x0, 0x0, 0x0⟩,
  ⟨"CTL_COL_CTRL", 0x80040, 4, 1, 0x0, 1, 0x0, 0x0, 0x0, 0x3, 0x0, 0x0, 0xFFFFFFFC⟩,
  ⟨"CTL_COL_CFG", 0x80044, 4, 1, 0x0, 1, 0x0, 0x3FF1F3F, 0x0, 0x0, 0x0, 0x0, 0xFC00E0C0⟩,
  ⟨"CTL_COL_AMP", 0x80048, 4, 1, 0x0, 1, 0x0, 0xFFFFFFFF, 0x0, 0x0, 0x0, 0x0, 0x0⟩,
  ⟨"CTL_COL_TIME", 0x8004C, 4, 1, 0x0, 1, 0x0, 0xFFFFFFFF, 0x0, 0x0, 0x0, 0x0, 0x0⟩,
  ⟨"CTL_COL_DUR", 0x80050, 4, 1, 0x0, 1, 0x0, 0xFFFFFFFF, 0x0, 0x0, 0x0, 0x0, 0x0⟩,
  ⟨"CTL_COL_CYC_LO", 0x80054, 4, 1, 0x0, 1, 0x0, 0xFFFFFFFF, 0x0, 0x0, 0x0, 0x0, 0x0⟩,
  ⟨"CTL_COL_CYC_HI", 0x80058, 4, 1, 0x0, 1, 0x0, 0xFFFFFFFF, 0x0, 0x0, 0x0, 0x0, 0x0⟩,
  ⟨"CTL_COL_CH", 0x8005C, 4, 1, 0x0, 1, 0x0, 0xFFFFFFFF, 0x0, 0x0, 0x0, 0x0, 0x0⟩,
  ⟨"CTL_COL_BUF_LO", 0x80060, 4, 1, 0x0, 1, 0x0, 0xFFFFFFFF, 0x0, 0x0, 0x0, 0x0, 0x0⟩,
  ⟨"CTL_COL_BUF_HI", 0x80064, 4, 1, 0x0, 1, 0x0, 0xFFFFFFFF, 0x0, 0x0, 0x0, 0x0, 0x0⟩,
  ⟨"CTL_COL_ABORT", 0x80068, 4, 1, 0x0, 1, 0x12C012C, 0xFFFFFFFF, 0x0, 0x0, 0x0, 0x0, 0x0⟩,
  ⟨"CTL_COL_STATUS", 0x8006C, 4, 1, 0x0, 1, 0x0, 0x0, 0x0, 0x0, 0x0, 0x0, 0xFFE000⟩,
  ⟨"CTL_PARAM", 0x80100, 4, 42, 0x0, 1, 0x0, 0xFFFFFFFF, 0x0, 0x0, 0x0, 0x0, 0x0⟩,
  ⟨"CTL_PARAM_ACT", 0x80200, 4, 42, 0x0, 1, 0x0, 0x0, 0x0, 0x0, 0x0, 0x0, 0x0⟩]

/-- The registers of the block at 0x09_0000. -/
def regRows09 : List RegRow := [
  ⟨"EPH_CTRL", 0x90000, 4, 1, 0x0, 1, 0x0, 0x3, 0x0, 0x4, 0x0, 0x0, 0xFFFFFFF8⟩,
  ⟨"EPH_STATUS", 0x90004, 4, 1, 0x0, 1, 0xFC000000, 0x0, 0x5C, 0x0, 0x0, 0x0, 0x3FFFE00⟩,
  ⟨"EPH_CFG", 0x90008, 4, 1, 0x0, 1, 0x14000028, 0xFF0001FF, 0x0, 0x0, 0x0, 0x0, 0xFFFE00⟩,
  ⟨"EPH_LIMITS", 0x9000C, 4, 1, 0x0, 1, 0x640032, 0xFFFFFFFF, 0x0, 0x0, 0x0, 0x0, 0x0⟩,
  ⟨"EPH_LS_CFG", 0x90010, 4, 1, 0x0, 1, 0x320A80, 0xFFFFFFFF, 0x0, 0x0, 0x0, 0x0, 0x0⟩,
  ⟨"EPH_EVAL_LO", 0x90014, 4, 1, 0x0, 1, 0x0, 0x0, 0x0, 0x0, 0x0, 0x0, 0x0⟩,
  ⟨"EPH_EVAL_HI", 0x90018, 4, 1, 0x0, 1, 0x0, 0x0, 0x0, 0x0, 0x0, 0x0, 0x0⟩,
  ⟨"EPH_LATCH_LO", 0x9001C, 4, 1, 0x0, 1, 0x0, 0x0, 0x0, 0x0, 0x0, 0x0, 0x0⟩,
  ⟨"EPH_LATCH_HI", 0x90020, 4, 1, 0x0, 1, 0x0, 0x0, 0x0, 0x0, 0x0, 0x0, 0x0⟩,
  ⟨"EPH_THROT_LO", 0x90024, 4, 1, 0x0, 1, 0x0, 0x0, 0x0, 0x0, 0x0, 0x0, 0x0⟩,
  ⟨"EPH_THROT_HI", 0x90028, 4, 1, 0x0, 1, 0x0, 0x0, 0x0, 0x0, 0x0, 0x0, 0x0⟩,
  ⟨"EPH_TABLE_ID", 0x9002C, 4, 1, 0x0, 1, 0x0, 0x0, 0x0, 0x0, 0x0, 0x0, 0x0⟩,
  ⟨"EPH_FB", 0x90030, 4, 1, 0x0, 1, 0xFC000000, 0x0, 0x0, 0x0, 0x0, 0x0, 0x0⟩,
  ⟨"EPH_CNT", 0x90034, 4, 1, 0x0, 1, 0x0, 0x0, 0x0, 0x0, 0xFFFFFFFF, 0x0, 0x0⟩]

/-- The registers of the block at 0x0A_0000. -/
def regRows0A : List RegRow := [
  ⟨"RDN_CTRL", 0xA0000, 4, 1, 0x0, 1, 0x0, 0x4, 0x0, 0xB, 0x0, 0x0, 0xFFFFFFF0⟩,
  ⟨"RDN_CFG", 0xA0004, 4, 1, 0x0, 1, 0x1F40F00, 0xFFFFFFE0, 0x0, 0x0, 0x0, 0x0, 0x1F⟩,
  ⟨"RDN_STATUS", 0xA0008, 4, 1, 0x0, 1, 0x0, 0x0, 0x7F, 0x0, 0x0, 0x0, 0x7FF80⟩,
  ⟨"RDN_FIT", 0xA000C, 4, 1, 0x0, 1, 0xFF, 0x0, 0x0, 0x0, 0x0, 0x0, 0xFE00⟩,
  ⟨"RDN_TRACK", 0xA0010, 4, 1, 0x0, 1, 0x0, 0x0, 0x0, 0x0, 0x0, 0x0, 0x0⟩,
  ⟨"RDN_CMP_CFG", 0xA0014, 4, 1, 0x0, 1, 0x31729000, 0xFFFFF7FF, 0x0, 0x0, 0x0, 0x0, 0x800⟩,
  ⟨"RDN_PARTNER0", 0xA0018, 4, 1, 0x0, 1, 0xFFFF, 0x0, 0x0, 0x0, 0x0, 0x0, 0x3F0000⟩,
  ⟨"RDN_PARTNER1", 0xA001C, 4, 1, 0x0, 1, 0xFFFF, 0x0, 0x0, 0x0, 0x0, 0x0, 0x3F0000⟩,
  ⟨"RDN_EPOCH", 0xA0020, 4, 1, 0x0, 1, 0x0, 0x0, 0x0, 0x0, 0x0, 0x0, 0x0⟩,
  ⟨"RDN_LAST_LO", 0xA0024, 4, 1, 0x0, 1, 0x0, 0x0, 0x0, 0x0, 0x0, 0x0, 0x0⟩,
  ⟨"RDN_LAST_HI", 0xA0028, 4, 1, 0x0, 1, 0x0, 0x0, 0x0, 0x0, 0x0, 0x0, 0x0⟩,
  ⟨"RDN_LAST_INFO", 0xA002C, 4, 1, 0x0, 1, 0x0, 0x0, 0x0, 0x0, 0x0, 0x0, 0x3FFFF00⟩,
  ⟨"RDN_REH_CYC_LO", 0xA0030, 4, 1, 0x0, 1, 0x0, 0xFFFFFFFF, 0x0, 0x0, 0x0, 0x0, 0x0⟩,
  ⟨"RDN_REH_CYC_HI", 0xA0034, 4, 1, 0x0, 1, 0x0, 0xFFFFFFFF, 0x0, 0x0, 0x0, 0x0, 0x0⟩,
  ⟨"RDN_REH_STATUS", 0xA0038, 4, 1, 0x0, 1, 0x0, 0x0, 0x0, 0x0, 0x0, 0x0, 0xFFFFFC0⟩,
  ⟨"RDN_CNT", 0xA003C, 4, 1, 0x0, 1, 0x0, 0x0, 0x0, 0x0, 0xFFFFFFFF, 0x0, 0x0⟩]

/-- The registers of the block at 0x0B_0000. -/
def regRows0B : List RegRow := [
  ⟨"GRD_STATUS", 0xB0000, 4, 1, 0x0, 1, 0x1000000, 0x0, 0x0, 0x0, 0x0, 0x0, 0xF000⟩,
  ⟨"GRD_CAUSE", 0xB0004, 4, 1, 0x0, 1, 0xF0000000, 0x0, 0x0, 0x0, 0x0, 0x0, 0xFFFF800⟩,
  ⟨"GRD_WH", 0xB0008, 4, 1, 0x0, 1, 0xF80000, 0x0, 0x0, 0x0, 0x0, 0x0, 0x7000F⟩,
  ⟨"GRD_DEG", 0xB000C, 4, 1, 0x0, 1, 0x0, 0x0, 0x0, 0x0, 0x0, 0x0, 0xFFFFFFF0⟩,
  ⟨"GRD_CV", 0xB0010, 4, 1, 0x0, 1, 0x0, 0x0, 0x0, 0x0, 0x0, 0x0, 0x0⟩,
  ⟨"GRD_IMAGE_ID", 0xB0014, 4, 1, 0x0, 1, 0x0, 0x0, 0x0, 0x0, 0x0, 0x0, 0x0⟩,
  ⟨"GRD_CNT", 0xB0018, 4, 1, 0x0, 1, 0x0, 0x0, 0x0, 0x0, 0x0, 0x0, 0x0⟩,
  ⟨"GRD_BIST", 0xB001C, 4, 1, 0x0, 1, 0x0, 0x0, 0x0, 0x0, 0x0, 0x0, 0x3FFFFF00⟩,
  ⟨"GRD_HB", 0xB0020, 4, 1, 0x0, 1, 0x0, 0x0, 0x0, 0x0, 0x0, 0x0, 0x0⟩,
  ⟨"GRD_REL_CYC", 0xB0024, 4, 1, 0x0, 1, 0x0, 0x0, 0x0, 0x0, 0x0, 0x0, 0x0⟩]

/-- The registers of the block at 0x0C_0000. -/
def regRows0C : List RegRow := [
  ⟨"XL_STATUS", 0xC0000, 4, 1, 0x0, 1, 0x0, 0x0, 0x30, 0x0, 0x0, 0x0, 0xFF00FF00⟩,
  ⟨"XL_RING0_CFG", 0xC0004, 4, 1, 0x0, 1, 0x320014, 0x0, 0x0, 0x0, 0x0, 0x0, 0x3000000⟩,
  ⟨"XL_RING1_CFG", 0xC0008, 4, 1, 0x0, 1, 0x320014, 0x0, 0x0, 0x0, 0x0, 0x0, 0x3000000⟩,
  ⟨"XL_RING0_TIME", 0xC000C, 4, 1, 0x0, 1, 0x0, 0x0, 0x0, 0x0, 0x0, 0x0, 0x0⟩,
  ⟨"XL_RING1_TIME", 0xC0010, 4, 1, 0x0, 1, 0x0, 0x0, 0x0, 0x0, 0x0, 0x0, 0x0⟩,
  ⟨"XL_WD", 0xC0014, 4, 1, 0x0, 1, 0x0, 0x0, 0x0, 0x0, 0x0, 0x0, 0x0⟩,
  ⟨"XL_CNT0", 0xC0018, 4, 1, 0x0, 1, 0x0, 0x0, 0x0, 0x0, 0xFFFFFFFF, 0x0, 0x0⟩,
  ⟨"XL_CNT1", 0xC001C, 4, 1, 0x0, 1, 0x0, 0x0, 0x0, 0x0, 0xFFFFFFFF, 0x0, 0x0⟩,
  ⟨"XL_UID_LO", 0xC0020, 4, 1, 0x0, 1, 0x0, 0x0, 0x0, 0x0, 0x0, 0x0, 0x0⟩,
  ⟨"XL_UID_HI", 0xC0024, 4, 1, 0x0, 1, 0x0, 0x0, 0x0, 0x0, 0x0, 0x0, 0x0⟩,
  ⟨"XL_STN_CMD", 0xC0028, 4, 1, 0x0, 1, 0x0, 0xF0001FF, 0x0, 0x80000000, 0x0, 0x0, 0xFFFE00⟩,
  ⟨"XL_DUP", 0xC002C, 4, 1, 0x0, 1, 0x0, 0x0, 0x0, 0x0, 0x0, 0x0, 0xFFFFF000⟩,
  ⟨"XL_SELF", 0xC0030, 4, 1, 0x0, 1, 0x0, 0x0, 0x0, 0x0, 0x0, 0x0, 0xFE⟩,
  ⟨"XL_STN_STATUS", 0xC1000, 4, 512, 0x0, 1, 0x0, 0x0, 0x0, 0x0, 0x0, 0x0, 0x70000⟩]

/-- The registers of the block at 0x0D_0000. -/
def regRows0D : List RegRow := [
  ⟨"PTP_CTRL", 0xD0000, 4, 1, 0x0, 1, 0xA00, 0x1F00, 0x0, 0x3, 0x0, 0x0, 0xFFFFE0FC⟩,
  ⟨"PTP_STATUS", 0xD0004, 4, 1, 0x0, 1, 0x0, 0x0, 0xF, 0x0, 0x0, 0x0, 0x7FFFFF0⟩,
  ⟨"PTP_TIME_NS", 0xD0008, 4, 1, 0x0, 1, 0x0, 0x0, 0x0, 0x0, 0x0, 0x0, 0x0⟩,
  ⟨"PTP_TIME_EXT", 0xD000C, 4, 1, 0x0, 1, 0x0, 0x0, 0x0, 0x0, 0x0, 0x0, 0x0⟩,
  ⟨"PTP_INCR", 0xD0010, 4, 1, 0x0, 1, 0x40000000, 0xFFFFFFFF, 0x0, 0x0, 0x0, 0x0, 0x0⟩,
  ⟨"PTP_INCR_EFF", 0xD0014, 4, 1, 0x0, 1, 0x40000000, 0x0, 0x0, 0x0, 0x0, 0x0, 0x0⟩,
  ⟨"PTP_SLEW", 0xD0018, 4, 1, 0x0, 1, 0x0, 0xFFFFFFFF, 0x0, 0x0, 0x0, 0x0, 0x0⟩,
  ⟨"PTP_SLEW_LEFT", 0xD001C, 4, 1, 0x0, 1, 0x0, 0x0, 0x0, 0x0, 0x0, 0x0, 0x0⟩,
  ⟨"PTP_STEP_LO", 0xD0020, 4, 1, 0x0, 1, 0x0, 0xFFFFFFFF, 0x0, 0x0, 0x0, 0x0, 0x0⟩,
  ⟨"PTP_STEP_HI", 0xD0024, 4, 1, 0x0, 1, 0x0, 0xFFFFFFFF, 0x0, 0x0, 0x0, 0x0, 0x0⟩,
  ⟨"PTP_TXTS_W0", 0xD0028, 4, 1, 0x0, 1, 0x0, 0x0, 0x0, 0x0, 0x0, 0x0, 0xFFF⟩,
  ⟨"PTP_TXTS_W1", 0xD002C, 4, 1, 0x0, 1, 0x0, 0x0, 0x0, 0x0, 0xFFFFFFFF, 0x0, 0x0⟩,
  ⟨"PTP_TXTS_CNT", 0xD0030, 4, 1, 0x0, 1, 0x0, 0x0, 0x0, 0x0, 0xFFFF, 0x0, 0xFF000000⟩,
  ⟨"ETH_LQ_CANCEL", 0xD0034, 4, 1, 0x0, 1, 0x0, 0x3FF, 0x0, 0x80000000, 0x0, 0x0, 0xFFFFC00⟩,
  ⟨"ETH_F450_ADDR", 0xD0040, 8, 16, 0x0, 1, 0x0, 0xFFFFFFFF, 0x0, 0x0, 0x0, 0x0, 0x0⟩,
  ⟨"ETH_F450_CFG", 0xD0044, 8, 16, 0x0, 1, 0x0, 0x8F00FFFF, 0x0, 0x0, 0x0, 0x0, 0x70FF0000⟩,
  ⟨"ETH_Pp_CFG", 0xD0100, 4, 1, 0x40, 4, 0x0, 0xF8, 0x0, 0x0, 0x0, 0x0, 0xFFFFFF00⟩,
  ⟨"ETH_Pp_STATUS", 0xD0104, 4, 1, 0x40, 4, 0x0, 0x0, 0x2, 0x0, 0x0, 0x0, 0xFFFFFFF0⟩,
  ⟨"ETH_Pp_LAT", 0xD0108, 4, 1, 0x40, 4, 0x0, 0xFFF0FFF, 0x0, 0x0, 0x0, 0x0, 0xF000F000⟩,
  ⟨"ETH_Pp_ASYM", 0xD010C, 4, 1, 0x40, 4, 0x0, 0xFFFFFFFF, 0x0, 0x0, 0x0, 0x0, 0x0⟩,
  ⟨"ETH_Pp_MAC_LO", 0xD0110, 4, 1, 0x40, 4, 0x0, 0x0, 0x0, 0x0, 0x0, 0x0, 0x0⟩,
  ⟨"ETH_Pp_MAC_HI", 0xD0114, 4, 1, 0x40, 4, 0x0, 0x0, 0x0, 0x0, 0x0, 0x0, 0x0⟩,
  ⟨"ETH_Pp_RXBASE", 0xD0118, 4, 1, 0x40, 4, 0x0, 0xFFFFFFFF, 0x0, 0x0, 0x0, 0x0, 0x0⟩,
  ⟨"ETH_Pp_TXBASE", 0xD011C, 4, 1, 0x40, 4, 0x0, 0xFFFFFFFF, 0x0, 0x0, 0x0, 0x0, 0x0⟩,
  ⟨"ETH_Pp_LQBASE", 0xD0120, 4, 1, 0x40, 4, 0x0, 0xFFFFFFFF, 0x0, 0x0, 0x0, 0x0, 0x0⟩,
  ⟨"ETH_Pp_PROD", 0xD0124, 4, 1, 0x40, 4, 0x0, 0xFFFFFF, 0x0, 0x0, 0x0, 0x0, 0xFF000000⟩,
  ⟨"ETH_Pp_CONS", 0xD0128, 4, 1, 0x40, 4, 0x0, 0x0, 0x0, 0x0, 0x0, 0x0, 0xFF000000⟩,
  ⟨"ETH_Pp_CNT", 0xD012C, 4, 1, 0x40, 4, 0x0, 0x0, 0x0, 0x0, 0xFFFFFFFF, 0x0, 0x0⟩]

/-- The registers of the block at 0x0E_0000. -/
def regRows0E : List RegRow := [
  ⟨"MER_CTRL", 0xE0000, 4, 1, 0x0, 1, 0x0, 0x19, 0x0, 0x4, 0x0, 0x0, 0xFFFFFFE2⟩,
  ⟨"MER_STATUS", 0xE0004, 4, 1, 0x0, 1, 0x1, 0x0, 0xF51, 0x0, 0x0, 0x0, 0x1FFF000⟩,
  ⟨"MER_SUBSEC", 0xE0008, 4, 1, 0x0, 1, 0x0, 0x7FFF, 0x0, 0x0, 0x0, 0x0, 0xFFFF8000⟩,
  ⟨"MER_TIME", 0xE000C, 4, 1, 0x0, 1, 0x0, 0x1F3F3F, 0x0, 0x0, 0x0, 0x0, 0xFFE0C0C0⟩,
  ⟨"MER_DATE", 0xE0010, 4, 1, 0x0, 1, 0x5101, 0xFF0F1F, 0x0, 0x0, 0x0, 0x0, 0xFF0080E0⟩,
  ⟨"MER_SHIFT", 0xE0014, 4, 1, 0x0, 1, 0x0, 0x1FFFF, 0x0, 0x0, 0x0, 0x0, 0xFFFE0000⟩,
  ⟨"MER_ALARM", 0xE0018, 4, 1, 0x0, 1, 0x0, 0xFBFF3F3F, 0x4000000, 0x0, 0x0, 0x0, 0xC0C0⟩,
  ⟨"MER_TEMP", 0xE001C, 4, 1, 0x0, 1, 0x0, 0x0, 0x0, 0x0, 0x0, 0x0, 0xFFF800⟩,
  ⟨"MER_TAI_UTC", 0xE0020, 4, 1, 0x0, 1, 0x0, 0xFFFF, 0x0, 0x0, 0x0, 0x0, 0xFFFF0000⟩,
  ⟨"MER_PWR", 0xE0024, 4, 1, 0x0, 1, 0x32, 0x3FF000FF, 0x0, 0xC0000000, 0x0, 0x0, 0xFFF00⟩,
  ⟨"MER_EVI_CFG", 0xE0028, 4, 1, 0x0, 1, 0x0, 0xFCFCFCFC, 0x0, 0x0, 0x0, 0x0, 0x3030303⟩,
  ⟨"MER_EVF0", 0xE0030, 4, 1, 0x0, 1, 0x0, 0x0, 0x0, 0x0, 0x0, 0x0, 0x0⟩,
  ⟨"MER_EVF1", 0xE0034, 4, 1, 0x0, 1, 0x0, 0x0, 0x0, 0x0, 0x0, 0x0, 0x0⟩,
  ⟨"MER_EVF2", 0xE0038, 4, 1, 0x0, 1, 0x0, 0x0, 0x0, 0x0, 0xFFFFFFFF, 0x0, 0x0⟩,
  ⟨"MER_EVF_CNT", 0xE003C, 4, 1, 0x0, 1, 0x0, 0x0, 0x0, 0x0, 0xFF00, 0x0, 0xFFFF00C0⟩,
  ⟨"MER_SW_TIME", 0xE0040, 4, 1, 0x0, 1, 0x0, 0x0, 0x0, 0x0, 0x0, 0x0, 0x0⟩,
  ⟨"MER_SW_DATE", 0xE0044, 4, 1, 0x0, 1, 0x0, 0x0, 0x0, 0x0, 0x0, 0x0, 0x0⟩,
  ⟨"MER_LOCK_CNT", 0xE0048, 4, 1, 0x0, 1, 0x0, 0x0, 0x0, 0x0, 0xFFFFFFFF, 0x0, 0x0⟩,
  ⟨"MER_TC", 0xE0080, 4, 17, 0x0, 1, 0x0, 0xFFFFFFFF, 0x0, 0x0, 0x0, 0x0, 0x0⟩]

/-- The registers of the block at 0x0F_0000. -/
def regRows0F : List RegRow := [
  ⟨"CAN_CTRL", 0xF0000, 4, 1, 0x4000, 4, 0x0, 0x7D, 0x0, 0x80, 0x0, 0x0, 0xFFFFFF02⟩,
  ⟨"CAN_STATUS", 0xF0004, 4, 1, 0x4000, 4, 0xC0000000, 0x0, 0x7E, 0x0, 0x0, 0x0, 0x3F000001⟩,
  ⟨"CAN_NBT", 0xF0008, 4, 1, 0x4000, 4, 0x83E1E0F, 0xF8FFFE7F, 0x0, 0x0, 0x0, 0x0, 0x7000180⟩,
  ⟨"CAN_DBT", 0xF000C, 4, 1, 0x4000, 4, 0x1E0707, 0xF81F0F0F, 0x0, 0x0, 0x0, 0x0, 0x7E0F0F0⟩,
  ⟨"CAN_TDC", 0xF0010, 4, 1, 0x4000, 4, 0x0, 0x1FF, 0x0, 0x0, 0x0, 0x0, 0xFFFFFE00⟩,
  ⟨"CAN_TXREQ", 0xF0020, 4, 4, 0x4000, 4, 0x0, 0x0, 0x0, 0xFFFFFFFF, 0x0, 0x0, 0x0⟩,
  ⟨"CAN_CANCEL", 0xF0030, 4, 1, 0x4000, 4, 0x0, 0x7F, 0x0, 0x80000000, 0x0, 0x0, 0xFFFFF80⟩,
  ⟨"CAN_NEWDAT", 0xF0040, 4, 4, 0x4000, 4, 0x0, 0x0, 0x0, 0x0, 0x0, 0x0, 0x0⟩,
  ⟨"CAN_CNT", 0xF0050, 4, 1, 0x4000, 4, 0x0, 0x0, 0x0, 0x0, 0xFFFFFFFF, 0x0, 0x0⟩,
  ⟨"CAN_OBJ_CFG", 0xF1000, 80, 128, 0x4000, 4, 0x1E0003, 0xFE1E3C00, 0x400000, 0x0, 0x0, 0x0, 0x380⟩]

/-- The registers of the block at 0x10_0000. -/
def regRows10 : List RegRow := [
  ⟨"SER_CFG", 0x100000, 4, 1, 0x100, 8, 0x101011, 0xFBF0FFFF, 0x0, 0x0, 0x0, 0x0, 0x40F0000⟩,
  ⟨"SER_BAUD", 0x100004, 4, 1, 0x100, 8, 0x196E0200, 0xFFFFFF00, 0x0, 0x0, 0x0, 0x0, 0xFF⟩,
  ⟨"SER_STATUS", 0x100008, 4, 1, 0x100, 8, 0x0, 0x0, 0xFC, 0x0, 0x0, 0x0, 0xFF00⟩,
  ⟨"SER_BASE", 0x10000C, 4, 1, 0x100, 8, 0x0, 0xFFFFFFFF, 0x0, 0x0, 0x0, 0x0, 0x0⟩,
  ⟨"SER_IDX", 0x100010, 4, 1, 0x100, 8, 0x0, 0x3F00, 0x0, 0x0, 0x0, 0x0, 0xFFFFC0C0⟩,
  ⟨"SER_TXDATA", 0x100014, 4, 1, 0x100, 8, 0x0, 0x0, 0x0, 0x0, 0x0, 0xFF, 0xFFFFFF00⟩,
  ⟨"SER_CNT", 0x100018, 4, 1, 0x100, 8, 0x0, 0x0, 0x0, 0x0, 0xFFFFFFFF, 0x0, 0x0⟩,
  ⟨"DIO_CFG", 0x101000, 4, 64, 0x0, 1, 0x0, 0xFE0000FF, 0x0, 0x0, 0x0, 0x0, 0x1FFFF00⟩,
  ⟨"DIO_IN_LO", 0x101100, 4, 1, 0x0, 1, 0x0, 0x0, 0x0, 0x0, 0x0, 0x0, 0x0⟩,
  ⟨"DIO_IN_HI", 0x101104, 4, 1, 0x0, 1, 0x0, 0x0, 0x0, 0x0, 0x0, 0x0, 0x0⟩,
  ⟨"DIO_OUT_LO", 0x101108, 4, 1, 0x0, 1, 0x0, 0xFFFFFFFF, 0x0, 0x0, 0x0, 0x0, 0x0⟩,
  ⟨"DIO_OUT_HI", 0x10110C, 4, 1, 0x0, 1, 0x0, 0xFFFFFFFF, 0x0, 0x0, 0x0, 0x0, 0x0⟩,
  ⟨"DIO_CLAIM_LO", 0x101110, 4, 1, 0x0, 1, 0x0, 0xFFFFFFFF, 0x0, 0x0, 0x0, 0x0, 0x0⟩,
  ⟨"DIO_CLAIM_HI", 0x101114, 4, 1, 0x0, 1, 0x0, 0xFFFFFFFF, 0x0, 0x0, 0x0, 0x0, 0x0⟩,
  ⟨"DIO_MAP", 0x101118, 4, 1, 0x0, 1, 0x0, 0x87FF07FF, 0x0, 0x0, 0x0, 0x0, 0x7800F800⟩,
  ⟨"DIO_OWNER", 0x101120, 4, 8, 0x0, 1, 0x0, 0x0, 0x0, 0x0, 0x0, 0x0, 0x0⟩,
  ⟨"DIO_STAGE_MASK_LO", 0x101140, 4, 1, 0x0, 1, 0x0, 0xFFFFFFFF, 0x0, 0x0, 0x0, 0x0, 0x0⟩,
  ⟨"DIO_STAGE_MASK_HI", 0x101144, 4, 1, 0x0, 1, 0x0, 0xFFFFFFFF, 0x0, 0x0, 0x0, 0x0, 0x0⟩,
  ⟨"DIO_LATA", 0x101200, 8, 64, 0x0, 1, 0x0, 0x0, 0x0, 0x0, 0x0, 0x0, 0xFFFFFE⟩,
  ⟨"DIO_LATB", 0x101204, 8, 64, 0x0, 1, 0x0, 0x0, 0x0, 0x0, 0x0, 0x0, 0x0⟩,
  ⟨"DIO_CNTR", 0x101400, 4, 64, 0x0, 1, 0x0, 0x0, 0x0, 0x0, 0x0, 0x0, 0x0⟩]

/-- The registers of the block at 0x11_0000. -/
def regRows11 : List RegRow := [
  ⟨"SDF_EN", 0x110000, 4, 1, 0x0, 1, 0x0, 0xFFFFFFFF, 0x0, 0x0, 0x0, 0x0, 0x0⟩,
  ⟨"SDF_STATUS", 0x110004, 4, 1, 0x0, 1, 0x0, 0x0, 0x7, 0x0, 0x0, 0x0, 0x3F00F8⟩,
  ⟨"SDF_CLK", 0x110010, 4, 4, 0x0, 1, 0x32, 0xC000007F, 0x0, 0x0, 0x0, 0x0, 0x3F800080⟩,
  ⟨"SDF_CHc_CFG", 0x111000, 4, 1, 0x0, 1, 0x40, 0xFFCFF1FF, 0x0, 0x0, 0x0, 0x0, 0x300E00⟩,
  ⟨"SDF_CHc_CFG", 0x111040, 4, 1, 0x0, 1, 0x400040, 0xFFCFF1FF, 0x0, 0x0, 0x0, 0x0, 0x300E00⟩,
  ⟨"SDF_CHc_CFG", 0x111080, 4, 1, 0x0, 1, 0x800040, 0xFFCFF1FF, 0x0, 0x0, 0x0, 0x0, 0x300E00⟩,
  ⟨"SDF_CHc_CFG", 0x1110C0, 4, 1, 0x0, 1, 0xC00040, 0xFFCFF1FF, 0x0, 0x0, 0x0, 0x0, 0x300E00⟩,
  ⟨"SDF_CHc_CFG", 0x111100, 4, 1, 0x0, 1, 0x1000040, 0xFFCFF1FF, 0x0, 0x0, 0x0, 0x0, 0x300E00⟩,
  ⟨"SDF_CHc_CFG", 0x111140, 4, 1, 0x0, 1, 0x1400040, 0xFFCFF1FF, 0x0, 0x0, 0x0, 0x0, 0x300E00⟩,
  ⟨"SDF_CHc_CFG", 0x111180, 4, 1, 0x0, 1, 0x1800040, 0xFFCFF1FF, 0x0, 0x0, 0x0, 0x0, 0x300E00⟩,
  ⟨"SDF_CHc_CFG", 0x1111C0, 4, 1, 0x0, 1, 0x1C00040, 0xFFCFF1FF, 0x0, 0x0, 0x0, 0x0, 0x300E00⟩,
  ⟨"SDF_CHc_CFG", 0x111200, 4, 1, 0x0, 1, 0x2000040, 0xFFCFF1FF, 0x0, 0x0, 0x0, 0x0, 0x300E00⟩,
  ⟨"SDF_CHc_CFG", 0x111240, 4, 1, 0x0, 1, 0x2400040, 0xFFCFF1FF, 0x0, 0x0, 0x0, 0x0, 0x300E00⟩,
  ⟨"SDF_CHc_CFG", 0x111280, 4, 1, 0x0, 1, 0x2800040, 0xFFCFF1FF, 0x0, 0x0, 0x0, 0x0, 0x300E00⟩,
  ⟨"SDF_CHc_CFG", 0x1112C0, 4, 1, 0x0, 1, 0x2C00040, 0xFFCFF1FF, 0x0, 0x0, 0x0, 0x0, 0x300E00⟩,
  ⟨"SDF_CHc_CFG", 0x111300, 4, 1, 0x0, 1, 0x3000040, 0xFFCFF1FF, 0x0, 0x0, 0x0, 0x0, 0x300E00⟩,
  ⟨"SDF_CHc_CFG", 0x111340, 4, 1, 0x0, 1, 0x3400040, 0xFFCFF1FF, 0x0, 0x0, 0x0, 0x0, 0x300E00⟩,
  ⟨"SDF_CHc_CFG", 0x111380, 4, 1, 0x0, 1, 0x3800040, 0xFFCFF1FF, 0x0, 0x0, 0x0, 0x0, 0x300E00⟩,
  ⟨"SDF_CHc_CFG", 0x1113C0, 4, 1, 0x0, 1, 0x3C00040, 0xFFCFF1FF, 0x0, 0x0, 0x0, 0x0, 0x300E00⟩,
  ⟨"SDF_CHc_CFG", 0x111400, 4, 1, 0x0, 1, 0x4000040, 0xFFCFF1FF, 0x0, 0x0, 0x0, 0x0, 0x300E00⟩,
  ⟨"SDF_CHc_CFG", 0x111440, 4, 1, 0x0, 1, 0x4400040, 0xFFCFF1FF, 0x0, 0x0, 0x0, 0x0, 0x300E00⟩,
  ⟨"SDF_CHc_CFG", 0x111480, 4, 1, 0x0, 1, 0x4800040, 0xFFCFF1FF, 0x0, 0x0, 0x0, 0x0, 0x300E00⟩,
  ⟨"SDF_CHc_CFG", 0x1114C0, 4, 1, 0x0, 1, 0x4C00040, 0xFFCFF1FF, 0x0, 0x0, 0x0, 0x0, 0x300E00⟩,
  ⟨"SDF_CHc_CFG", 0x111500, 4, 1, 0x0, 1, 0x5000040, 0xFFCFF1FF, 0x0, 0x0, 0x0, 0x0, 0x300E00⟩,
  ⟨"SDF_CHc_CFG", 0x111540, 4, 1, 0x0, 1, 0x5400040, 0xFFCFF1FF, 0x0, 0x0, 0x0, 0x0, 0x300E00⟩,
  ⟨"SDF_CHc_CFG", 0x111580, 4, 1, 0x0, 1, 0x5800040, 0xFFCFF1FF, 0x0, 0x0, 0x0, 0x0, 0x300E00⟩,
  ⟨"SDF_CHc_CFG", 0x1115C0, 4, 1, 0x0, 1, 0x5C00040, 0xFFCFF1FF, 0x0, 0x0, 0x0, 0x0, 0x300E00⟩,
  ⟨"SDF_CHc_CFG", 0x111600, 4, 1, 0x0, 1, 0x6000040, 0xFFCFF1FF, 0x0, 0x0, 0x0, 0x0, 0x300E00⟩,
  ⟨"SDF_CHc_CFG", 0x111640, 4, 1, 0x0, 1, 0x6400040, 0xFFCFF1FF, 0x0, 0x0, 0x0, 0x0, 0x300E00⟩,
  ⟨"SDF_CHc_CFG", 0x111680, 4, 1, 0x0, 1, 0x6800040, 0xFFCFF1FF, 0x0, 0x0, 0x0, 0x0, 0x300E00⟩,
  ⟨"SDF_CHc_CFG", 0x1116C0, 4, 1, 0x0, 1, 0x6C00040, 0xFFCFF1FF, 0x0, 0x0, 0x0, 0x0, 0x300E00⟩,
  ⟨"SDF_CHc_CFG", 0x111700, 4, 1, 0x0, 1, 0x7000040, 0xFFCFF1FF, 0x0, 0x0, 0x0, 0x0, 0x300E00⟩,
  ⟨"SDF_CHc_CFG", 0x111740, 4, 1, 0x0, 1, 0x7400040, 0xFFCFF1FF, 0x0, 0x0, 0x0, 0x0, 0x300E00⟩,
  ⟨"SDF_CHc_CFG", 0x111780, 4, 1, 0x0, 1, 0x7800040, 0xFFCFF1FF, 0x0, 0x0, 0x0, 0x0, 0x300E00⟩,
  ⟨"SDF_CHc_CFG", 0x1117C0, 4, 1, 0x0, 1, 0x7C00040, 0xFFCFF1FF, 0x0, 0x0, 0x0, 0x0, 0x300E00⟩,
  ⟨"SDF_CHc_FIR1", 0x111004, 4, 1, 0x40, 32, 0x0, 0xC3FF1F1F, 0x0, 0x0, 0x0, 0x0, 0x1C00E0E0⟩,
  ⟨"SDF_CHc_FIR2", 0x111008, 4, 1, 0x40, 32, 0x0, 0xC3FF1F1F, 0x0, 0x0, 0x0, 0x0, 0x1C00E0E0⟩,
  ⟨"SDF_CHc_SCALE", 0x11100C, 4, 1, 0x40, 32, 0x40000000, 0xFFFFFF00, 0x0, 0x0, 0x0, 0x0, 0xFF⟩,
  ⟨"SDF_CHc_OFS", 0x111010, 4, 1, 0x40, 32, 0x0, 0xFFFFFF00, 0x0, 0x0, 0x0, 0x0, 0xFF⟩,
  ⟨"SDF_CHc_TC", 0x111014, 4, 1, 0x40, 32, 0x0, 0xFFFF, 0x0, 0x0, 0x0, 0x0, 0xFFFF0000⟩,
  ⟨"SDF_CHc_SETTLE", 0x111018, 4, 1, 0x40, 32, 0x0, 0x3FF, 0x0, 0x0, 0x0, 0x0, 0xFC00FC00⟩,
  ⟨"SDF_CHc_GD", 0x11101C, 4, 1, 0x40, 32, 0x0, 0x0, 0x0, 0x0, 0x0, 0x0, 0x0⟩,
  ⟨"SDF_CHc_LAT", 0x111020, 4, 1, 0x40, 32, 0x0, 0x0, 0x0, 0x0, 0x0, 0x0, 0x0⟩,
  ⟨"SDF_CHc_LATT", 0x111024, 4, 1, 0x40, 32, 0x0, 0x0, 0x0, 0x0, 0x0, 0x0, 0x0⟩,
  ⟨"SDF_CHc_STAT", 0x111028, 4, 1, 0x40, 32, 0x0, 0x0, 0x7, 0x0, 0x0, 0x0, 0xFFF0⟩]

/-- The registers of the block at 0x12_0000. -/
def regRows12 : List RegRow := [
  ⟨"HIF_LINK", 0x120000, 4, 1, 0x0, 1, 0x0, 0x0, 0x0, 0x0, 0x0, 0x0, 0xFFFFF⟩,
  ⟨"HIF_STATUS", 0x120004, 4, 1, 0x0, 1, 0x0, 0x0, 0x1F, 0x0, 0x0, 0x0, 0xFFFFF0E0⟩,
  ⟨"HIF_CNT", 0x120008, 4, 1, 0x0, 1, 0x0, 0x0, 0x0, 0x0, 0xFFFFFFFF, 0x0, 0x0⟩,
  ⟨"HIF_Rk_SQ_LO", 0x121000, 4, 1, 0x40, 16, 0x0, 0xFFFFFFFF, 0x0, 0x0, 0x0, 0x0, 0x0⟩,
  ⟨"HIF_Rk_SQ_HI", 0x121004, 4, 1, 0x40, 16, 0x0, 0xFFFFFFFF, 0x0, 0x0, 0x0, 0x0, 0x0⟩,
  ⟨"HIF_Rk_CQ_LO", 0x121008, 4, 1, 0x40, 16, 0x0, 0xFFFFFFFF, 0x0, 0x0, 0x0, 0x0, 0x0⟩,
  ⟨"HIF_Rk_CQ_HI", 0x12100C, 4, 1, 0x40, 16, 0x0, 0xFFFFFFFF, 0x0, 0x0, 0x0, 0x0, 0x0⟩,
  ⟨"HIF_Rk_SIZE", 0x121010, 4, 1, 0x40, 16, 0x0, 0xFFF0FFF, 0x0, 0x0, 0x0, 0x0, 0xF000F000⟩,
  ⟨"HIF_Rk_CTRL", 0x121014, 4, 1, 0x40, 16, 0x1000000, 0xFFFFFF03, 0x0, 0x0, 0x0, 0x0, 0xFC⟩,
  ⟨"HIF_Rk_STATUS", 0x121018, 4, 1, 0x40, 16, 0x20000000, 0x0, 0x0, 0x0, 0x0, 0x0, 0x1F000000⟩,
  ⟨"HIF_Rk_CNT", 0x12101C, 4, 1, 0x40, 16, 0x0, 0x0, 0x0, 0x0, 0xFFFF, 0x0, 0xFF800000⟩,
  ⟨"HIF_EV_EN", 0x122000, 4, 8, 0x0, 1, 0x0, 0xFFFFFFFF, 0x0, 0x0, 0x0, 0x0, 0x0⟩,
  ⟨"HIF_EV_PEND", 0x122020, 4, 8, 0x0, 1, 0x0, 0x0, 0xFFFFFFFF, 0x0, 0x0, 0x0, 0x0⟩,
  ⟨"HIF_EVG_VEC", 0x122040, 4, 4, 0x0, 1, 0x0, 0xBFBFBFBF, 0x0, 0x0, 0x0, 0x0, 0x40404040⟩]

/-- The registers of the block at 0x13_0000. -/
def regRows13 : List RegRow := [
  ⟨"ALM_CFG", 0x130000, 4, 1, 0x0, 1, 0x10640400, 0xFFFFFFFF, 0x0, 0x0, 0x0, 0x0, 0x0⟩,
  ⟨"ALM_STATUS", 0x130004, 4, 1, 0x0, 1, 0x0, 0x0, 0x0, 0x0, 0x0, 0x0, 0x7FFF0000⟩,
  ⟨"ALM_EVENTS", 0x130008, 4, 1, 0x0, 1, 0x0, 0x0, 0x7, 0x0, 0x0, 0x0, 0xFFFFFFF8⟩,
  ⟨"ALM_CNT", 0x13000C, 4, 1, 0x0, 1, 0x0, 0x0, 0x0, 0x0, 0xFFFFFFFF, 0x0, 0x0⟩,
  ⟨"ALM_MERGED", 0x130010, 4, 1, 0x0, 1, 0x0, 0x0, 0x0, 0x0, 0xFFFFFFFF, 0x0, 0x0⟩,
  ⟨"ALM_SEQ_LAST", 0x130014, 4, 1, 0x0, 1, 0x0, 0x0, 0x0, 0x0, 0x0, 0x0, 0x0⟩,
  ⟨"ALM_RD_SEQ", 0x130020, 4, 1, 0x0, 1, 0x0, 0xFFFFFFFF, 0x0, 0x0, 0x0, 0x0, 0x0⟩,
  ⟨"ALM_RD_CTRL", 0x130024, 4, 1, 0x0, 1, 0x0, 0x0, 0x0, 0x80000000, 0x0, 0x0, 0x1FFFFFFF⟩,
  ⟨"ALM_RD_SEQ_OUT", 0x130028, 4, 1, 0x0, 1, 0x0, 0x0, 0x0, 0x0, 0x0, 0x0, 0x0⟩,
  ⟨"ALM_RD_DATA", 0x130040, 4, 8, 0x0, 1, 0x0, 0x0, 0x0, 0x0, 0x0, 0x0, 0x0⟩,
  ⟨"ALM_SW_HDR", 0x130060, 4, 1, 0x0, 1, 0x0, 0xFF0FFF, 0x0, 0x80000000, 0x0, 0x0, 0x7F00F000⟩,
  ⟨"ALM_SW_P", 0x130064, 4, 3, 0x0, 1, 0x0, 0xFFFFFFFF, 0x0, 0x0, 0x0, 0x0, 0x0⟩,
  ⟨"ALM_PLATE_CTRL", 0x130080, 4, 1, 0x0, 1, 0x4, 0x4, 0x0, 0x3, 0x0, 0x0, 0xFFFFFFF8⟩,
  ⟨"ALM_PLATE_STATUS", 0x130084, 4, 1, 0x0, 1, 0x0, 0x0, 0x0, 0x0, 0x0, 0x0, 0x3F000000⟩]

/-- The registers of the block at 0x14_0000. -/
def regRows14 : List RegRow := [
  ⟨"DBG_DMI", 0x140000, 4, 128, 0x0, 1, 0x0, 0xFFFFFFFF, 0x0, 0x0, 0x0, 0x0, 0x0⟩]

namespace Reg
/-- CHIP_ID. -/
def CHIP_ID : Nat := 0x0
/-- CHIP_VARIANT. -/
def CHIP_VARIANT : Nat := 0x4
/-- CHIP_PROFILE. -/
def CHIP_PROFILE : Nat := 0x8
/-- BOOT_STATUS. -/
def BOOT_STATUS : Nat := 0x10000
/-- BOOT_CTRL. -/
def BOOT_CTRL : Nat := 0x10004
/-- BOOT_CFG_ID. -/
def BOOT_CFG_ID : Nat := 0x10008
/-- BOOT_DUR. -/
def BOOT_DUR : Nat := 0x1000C
/-- BOOT_LC_CMD. -/
def BOOT_LC_CMD : Nat := 0x10010
/-- BOOT_LC_ADDR_LO. -/
def BOOT_LC_ADDR_LO : Nat := 0x10014
/-- BOOT_LC_ADDR_HI. -/
def BOOT_LC_ADDR_HI : Nat := 0x10018
/-- BOOT_LC_NONCE. -/
def BOOT_LC_NONCE : Nat := 0x1001C
/-- BOOT_KEYS. -/
def BOOT_KEYS : Nat := 0x10020
/-- PWR_STATUS. -/
def PWR_STATUS : Nat := 0x20000
/-- PWR_ORR_CTRL. -/
def PWR_ORR_CTRL : Nat := 0x20004
/-- PWR_IO_SLEW. -/
def PWR_IO_SLEW : Nat := 0x20008
/-- PWR_IO_FILT. -/
def PWR_IO_FILT : Nat := 0x2000C
/-- CLK_STATUS. -/
def CLK_STATUS : Nat := 0x30000
/-- CLK_SSC. -/
def CLK_SSC : Nat := 0x30004
/-- CLK_REF. -/
def CLK_REF : Nat := 0x30008
/-- CLK_TC. -/
def CLK_TC : Nat := 0x30080
/-- THM_STATUS. -/
def THM_STATUS : Nat := 0x40000
/-- THM_TEMP_SI. -/
def THM_TEMP_SI : Nat := 0x40004
/-- THM_CFG. -/
def THM_CFG : Nat := 0x40008
/-- THM_MAX. -/
def THM_MAX : Nat := 0x4000C
/-- THM_CNT. -/
def THM_CNT : Nat := 0x40010
/-- CDR_CTRL. -/
def CDR_CTRL : Nat := 0x50000
/-- CDR_STATUS. -/
def CDR_STATUS : Nat := 0x50004
/-- CDR_PERIOD. -/
def CDR_PERIOD : Nat := 0x50008
/-- CDR_OFS_A. -/
def CDR_OFS_A : Nat := 0x5000C
/-- CDR_OFS_B. -/
def CDR_OFS_B : Nat := 0x50010
/-- CDR_OFS_C. -/
def CDR_OFS_C : Nat := 0x50014
/-- CDR_BUDGET. -/
def CDR_BUDGET : Nat := 0x50018
/-- CDR_CYC_LO. -/
def CDR_CYC_LO : Nat := 0x50020
/-- CDR_CYC_HI. -/
def CDR_CYC_HI : Nat := 0x50024
/-- CDR_PT_LO. -/
def CDR_PT_LO : Nat := 0x50028
/-- CDR_PT_HI. -/
def CDR_PT_HI : Nat := 0x5002C
/-- CDR_PT_ADJ_LO. -/
def CDR_PT_ADJ_LO : Nat := 0x50030
/-- CDR_PT_ADJ_HI. -/
def CDR_PT_ADJ_HI : Nat := 0x50034
/-- CDR_OVR_CNT. -/
def CDR_OVR_CNT : Nat := 0x50038
/-- CDR_RESTART_INFO. -/
def CDR_RESTART_INFO : Nat := 0x5003C
/-- CDR_HB_LAST. -/
def CDR_HB_LAST : Nat := 0x50040
/-- CDR_PROG_ID. -/
def CDR_PROG_ID : Nat := 0x50044
/-- CDR_PROG_VER. -/
def CDR_PROG_VER : Nat := 0x50048
/-- CDR_OC_CTRL. -/
def CDR_OC_CTRL : Nat := 0x50050
/-- CDR_OC_STATUS. -/
def CDR_OC_STATUS : Nat := 0x50054
/-- CDR_OC_CYC_LO. -/
def CDR_OC_CYC_LO : Nat := 0x50058
/-- CDR_OC_CYC_HI. -/
def CDR_OC_CYC_HI : Nat := 0x5005C
/-- CDR_OC_SRC_LO. -/
def CDR_OC_SRC_LO : Nat := 0x50060
/-- CDR_OC_SRC_HI. -/
def CDR_OC_SRC_HI : Nat := 0x50064
/-- FUS_CTRL. -/
def FUS_CTRL : Nat := 0x60000
/-- FUS_STATUS. -/
def FUS_STATUS : Nat := 0x60004
/-- FUS_GATE. -/
def FUS_GATE : Nat := 0x60008
/-- FUS_LIMITS. -/
def FUS_LIMITS : Nat := 0x6000C
/-- FUS_REF_STATE. -/
def FUS_REF_STATE : Nat := 0x60010
/-- FUS_AUX_STATE. -/
def FUS_AUX_STATE : Nat := 0x60014
/-- FUS_COAST_CNT. -/
def FUS_COAST_CNT : Nat := 0x60018
/-- FUS_ROWS. -/
def FUS_ROWS : Nat := 0x6001C
/-- FUS_STATE_CYC_LO. -/
def FUS_STATE_CYC_LO : Nat := 0x60020
/-- FUS_STATE_CYC_HI. -/
def FUS_STATE_CYC_HI : Nat := 0x60024
/-- FUS_DATUM_LAT_LO. -/
def FUS_DATUM_LAT_LO : Nat := 0x60028
/-- FUS_DATUM_LAT_HI. -/
def FUS_DATUM_LAT_HI : Nat := 0x6002C
/-- FUS_DATUM_LON_LO. -/
def FUS_DATUM_LON_LO : Nat := 0x60030
/-- FUS_DATUM_LON_HI. -/
def FUS_DATUM_LON_HI : Nat := 0x60034
/-- FUS_DATUM_H. -/
def FUS_DATUM_H : Nat := 0x60038
/-- FUS_RET_ID. -/
def FUS_RET_ID : Nat := 0x6003C
/-- FUS_TRK_CFG. -/
def FUS_TRK_CFG : Nat := 0x60040
/-- FUS_TRK_STATUS. -/
def FUS_TRK_STATUS : Nat := 0x60044
/-- FUS_INTAKE. -/
def FUS_INTAKE : Nat := 0x60048
/-- FUS_SRC_CNT. -/
def FUS_SRC_CNT : Nat := 0x60100
/-- ORY_CTRL. -/
def ORY_CTRL : Nat := 0x70000
/-- ORY_STATUS. -/
def ORY_STATUS : Nat := 0x70004
/-- ORY_ENG_BUSY_LO. -/
def ORY_ENG_BUSY_LO : Nat := 0x70008
/-- ORY_ENG_BUSY_HI. -/
def ORY_ENG_BUSY_HI : Nat := 0x7000C
/-- ORY_QLEVEL. -/
def ORY_QLEVEL : Nat := 0x70010
/-- ORY_CNT_DL. -/
def ORY_CNT_DL : Nat := 0x70014
/-- ORY_CNT_EXC. -/
def ORY_CNT_EXC : Nat := 0x70018
/-- ORY_ECC. -/
def ORY_ECC : Nat := 0x7001C
/-- ORY_PLAN_ID. -/
def ORY_PLAN_ID : Nat := 0x70020
/-- ORY_SLOT_ID. -/
def ORY_SLOT_ID : Nat := 0x70400
/-- CTL_CTRL. -/
def CTL_CTRL : Nat := 0x80000
/-- CTL_STATUS. -/
def CTL_STATUS : Nat := 0x80004
/-- CTL_MODE. -/
def CTL_MODE : Nat := 0x80008
/-- CTL_MISS. -/
def CTL_MISS : Nat := 0x8000C
/-- CTL_CNT. -/
def CTL_CNT : Nat := 0x80010
/-- CTL_SECTOR. -/
def CTL_SECTOR : Nat := 0x80014
/-- CTL_THR_STATE. -/
def CTL_THR_STATE : Nat := 0x80020
/-- CTL_SET_ID. -/
def CTL_SET_ID : Nat := 0x80028
/-- CTL_COL_CTRL. -/
def CTL_COL_CTRL : Nat := 0x80040
/-- CTL_COL_CFG. -/
def CTL_COL_CFG : Nat := 0x80044
/-- CTL_COL_AMP. -/
def CTL_COL_AMP : Nat := 0x80048
/-- CTL_COL_TIME. -/
def CTL_COL_TIME : Nat := 0x8004C
/-- CTL_COL_DUR. -/
def CTL_COL_DUR : Nat := 0x80050
/-- CTL_COL_CYC_LO. -/
def CTL_COL_CYC_LO : Nat := 0x80054
/-- CTL_COL_CYC_HI. -/
def CTL_COL_CYC_HI : Nat := 0x80058
/-- CTL_COL_CH. -/
def CTL_COL_CH : Nat := 0x8005C
/-- CTL_COL_BUF_LO. -/
def CTL_COL_BUF_LO : Nat := 0x80060
/-- CTL_COL_BUF_HI. -/
def CTL_COL_BUF_HI : Nat := 0x80064
/-- CTL_COL_ABORT. -/
def CTL_COL_ABORT : Nat := 0x80068
/-- CTL_COL_STATUS. -/
def CTL_COL_STATUS : Nat := 0x8006C
/-- CTL_PARAM. -/
def CTL_PARAM : Nat := 0x80100
/-- CTL_PARAM_ACT. -/
def CTL_PARAM_ACT : Nat := 0x80200
/-- EPH_CTRL. -/
def EPH_CTRL : Nat := 0x90000
/-- EPH_STATUS. -/
def EPH_STATUS : Nat := 0x90004
/-- EPH_CFG. -/
def EPH_CFG : Nat := 0x90008
/-- EPH_LIMITS. -/
def EPH_LIMITS : Nat := 0x9000C
/-- EPH_LS_CFG. -/
def EPH_LS_CFG : Nat := 0x90010
/-- EPH_EVAL_LO. -/
def EPH_EVAL_LO : Nat := 0x90014
/-- EPH_EVAL_HI. -/
def EPH_EVAL_HI : Nat := 0x90018
/-- EPH_LATCH_LO. -/
def EPH_LATCH_LO : Nat := 0x9001C
/-- EPH_LATCH_HI. -/
def EPH_LATCH_HI : Nat := 0x90020
/-- EPH_THROT_LO. -/
def EPH_THROT_LO : Nat := 0x90024
/-- EPH_THROT_HI. -/
def EPH_THROT_HI : Nat := 0x90028
/-- EPH_TABLE_ID. -/
def EPH_TABLE_ID : Nat := 0x9002C
/-- EPH_FB. -/
def EPH_FB : Nat := 0x90030
/-- EPH_CNT. -/
def EPH_CNT : Nat := 0x90034
/-- RDN_CTRL. -/
def RDN_CTRL : Nat := 0xA0000
/-- RDN_CFG. -/
def RDN_CFG : Nat := 0xA0004
/-- RDN_STATUS. -/
def RDN_STATUS : Nat := 0xA0008
/-- RDN_FIT. -/
def RDN_FIT : Nat := 0xA000C
/-- RDN_TRACK. -/
def RDN_TRACK : Nat := 0xA0010
/-- RDN_CMP_CFG. -/
def RDN_CMP_CFG : Nat := 0xA0014
/-- RDN_PARTNER0. -/
def RDN_PARTNER0 : Nat := 0xA0018
/-- RDN_PARTNER1. -/
def RDN_PARTNER1 : Nat := 0xA001C
/-- RDN_EPOCH. -/
def RDN_EPOCH : Nat := 0xA0020
/-- RDN_LAST_LO. -/
def RDN_LAST_LO : Nat := 0xA0024
/-- RDN_LAST_HI. -/
def RDN_LAST_HI : Nat := 0xA0028
/-- RDN_LAST_INFO. -/
def RDN_LAST_INFO : Nat := 0xA002C
/-- RDN_REH_CYC_LO. -/
def RDN_REH_CYC_LO : Nat := 0xA0030
/-- RDN_REH_CYC_HI. -/
def RDN_REH_CYC_HI : Nat := 0xA0034
/-- RDN_REH_STATUS. -/
def RDN_REH_STATUS : Nat := 0xA0038
/-- RDN_CNT. -/
def RDN_CNT : Nat := 0xA003C
/-- GRD_STATUS. -/
def GRD_STATUS : Nat := 0xB0000
/-- GRD_CAUSE. -/
def GRD_CAUSE : Nat := 0xB0004
/-- GRD_WH. -/
def GRD_WH : Nat := 0xB0008
/-- GRD_DEG. -/
def GRD_DEG : Nat := 0xB000C
/-- GRD_CV. -/
def GRD_CV : Nat := 0xB0010
/-- GRD_IMAGE_ID. -/
def GRD_IMAGE_ID : Nat := 0xB0014
/-- GRD_CNT. -/
def GRD_CNT : Nat := 0xB0018
/-- GRD_BIST. -/
def GRD_BIST : Nat := 0xB001C
/-- GRD_HB. -/
def GRD_HB : Nat := 0xB0020
/-- GRD_REL_CYC. -/
def GRD_REL_CYC : Nat := 0xB0024
/-- XL_STATUS. -/
def XL_STATUS : Nat := 0xC0000
/-- XL_RING0_CFG. -/
def XL_RING0_CFG : Nat := 0xC0004
/-- XL_RING1_CFG. -/
def XL_RING1_CFG : Nat := 0xC0008
/-- XL_RING0_TIME. -/
def XL_RING0_TIME : Nat := 0xC000C
/-- XL_RING1_TIME. -/
def XL_RING1_TIME : Nat := 0xC0010
/-- XL_WD. -/
def XL_WD : Nat := 0xC0014
/-- XL_CNT0. -/
def XL_CNT0 : Nat := 0xC0018
/-- XL_CNT1. -/
def XL_CNT1 : Nat := 0xC001C
/-- XL_UID_LO. -/
def XL_UID_LO : Nat := 0xC0020
/-- XL_UID_HI. -/
def XL_UID_HI : Nat := 0xC0024
/-- XL_STN_CMD. -/
def XL_STN_CMD : Nat := 0xC0028
/-- XL_DUP. -/
def XL_DUP : Nat := 0xC002C
/-- XL_SELF. -/
def XL_SELF : Nat := 0xC0030
/-- XL_STN_STATUS. -/
def XL_STN_STATUS : Nat := 0xC1000
/-- PTP_CTRL. -/
def PTP_CTRL : Nat := 0xD0000
/-- PTP_STATUS. -/
def PTP_STATUS : Nat := 0xD0004
/-- PTP_TIME_NS. -/
def PTP_TIME_NS : Nat := 0xD0008
/-- PTP_TIME_EXT. -/
def PTP_TIME_EXT : Nat := 0xD000C
/-- PTP_INCR. -/
def PTP_INCR : Nat := 0xD0010
/-- PTP_INCR_EFF. -/
def PTP_INCR_EFF : Nat := 0xD0014
/-- PTP_SLEW. -/
def PTP_SLEW : Nat := 0xD0018
/-- PTP_SLEW_LEFT. -/
def PTP_SLEW_LEFT : Nat := 0xD001C
/-- PTP_STEP_LO. -/
def PTP_STEP_LO : Nat := 0xD0020
/-- PTP_STEP_HI. -/
def PTP_STEP_HI : Nat := 0xD0024
/-- PTP_TXTS_W0. -/
def PTP_TXTS_W0 : Nat := 0xD0028
/-- PTP_TXTS_W1. -/
def PTP_TXTS_W1 : Nat := 0xD002C
/-- PTP_TXTS_CNT. -/
def PTP_TXTS_CNT : Nat := 0xD0030
/-- ETH_LQ_CANCEL. -/
def ETH_LQ_CANCEL : Nat := 0xD0034
/-- ETH_F450_ADDR. -/
def ETH_F450_ADDR : Nat := 0xD0040
/-- ETH_F450_CFG. -/
def ETH_F450_CFG : Nat := 0xD0044
/-- ETH_Pp_CFG. -/
def ETH_Pp_CFG : Nat := 0xD0100
/-- ETH_Pp_STATUS. -/
def ETH_Pp_STATUS : Nat := 0xD0104
/-- ETH_Pp_LAT. -/
def ETH_Pp_LAT : Nat := 0xD0108
/-- ETH_Pp_ASYM. -/
def ETH_Pp_ASYM : Nat := 0xD010C
/-- ETH_Pp_MAC_LO. -/
def ETH_Pp_MAC_LO : Nat := 0xD0110
/-- ETH_Pp_MAC_HI. -/
def ETH_Pp_MAC_HI : Nat := 0xD0114
/-- ETH_Pp_RXBASE. -/
def ETH_Pp_RXBASE : Nat := 0xD0118
/-- ETH_Pp_TXBASE. -/
def ETH_Pp_TXBASE : Nat := 0xD011C
/-- ETH_Pp_LQBASE. -/
def ETH_Pp_LQBASE : Nat := 0xD0120
/-- ETH_Pp_PROD. -/
def ETH_Pp_PROD : Nat := 0xD0124
/-- ETH_Pp_CONS. -/
def ETH_Pp_CONS : Nat := 0xD0128
/-- ETH_Pp_CNT. -/
def ETH_Pp_CNT : Nat := 0xD012C
/-- MER_CTRL. -/
def MER_CTRL : Nat := 0xE0000
/-- MER_STATUS. -/
def MER_STATUS : Nat := 0xE0004
/-- MER_SUBSEC. -/
def MER_SUBSEC : Nat := 0xE0008
/-- MER_TIME. -/
def MER_TIME : Nat := 0xE000C
/-- MER_DATE. -/
def MER_DATE : Nat := 0xE0010
/-- MER_SHIFT. -/
def MER_SHIFT : Nat := 0xE0014
/-- MER_ALARM. -/
def MER_ALARM : Nat := 0xE0018
/-- MER_TEMP. -/
def MER_TEMP : Nat := 0xE001C
/-- MER_TAI_UTC. -/
def MER_TAI_UTC : Nat := 0xE0020
/-- MER_PWR. -/
def MER_PWR : Nat := 0xE0024
/-- MER_EVI_CFG. -/
def MER_EVI_CFG : Nat := 0xE0028
/-- MER_EVF0. -/
def MER_EVF0 : Nat := 0xE0030
/-- MER_EVF1. -/
def MER_EVF1 : Nat := 0xE0034
/-- MER_EVF2. -/
def MER_EVF2 : Nat := 0xE0038
/-- MER_EVF_CNT. -/
def MER_EVF_CNT : Nat := 0xE003C
/-- MER_SW_TIME. -/
def MER_SW_TIME : Nat := 0xE0040
/-- MER_SW_DATE. -/
def MER_SW_DATE : Nat := 0xE0044
/-- MER_LOCK_CNT. -/
def MER_LOCK_CNT : Nat := 0xE0048
/-- MER_TC. -/
def MER_TC : Nat := 0xE0080
/-- CAN_CTRL. -/
def CAN_CTRL : Nat := 0xF0000
/-- CAN_STATUS. -/
def CAN_STATUS : Nat := 0xF0004
/-- CAN_NBT. -/
def CAN_NBT : Nat := 0xF0008
/-- CAN_DBT. -/
def CAN_DBT : Nat := 0xF000C
/-- CAN_TDC. -/
def CAN_TDC : Nat := 0xF0010
/-- CAN_TXREQ. -/
def CAN_TXREQ : Nat := 0xF0020
/-- CAN_CANCEL. -/
def CAN_CANCEL : Nat := 0xF0030
/-- CAN_NEWDAT. -/
def CAN_NEWDAT : Nat := 0xF0040
/-- CAN_CNT. -/
def CAN_CNT : Nat := 0xF0050
/-- CAN_OBJ_CFG. -/
def CAN_OBJ_CFG : Nat := 0xF1000
/-- SER_CFG. -/
def SER_CFG : Nat := 0x100000
/-- SER_BAUD. -/
def SER_BAUD : Nat := 0x100004
/-- SER_STATUS. -/
def SER_STATUS : Nat := 0x100008
/-- SER_BASE. -/
def SER_BASE : Nat := 0x10000C
/-- SER_IDX. -/
def SER_IDX : Nat := 0x100010
/-- SER_TXDATA. -/
def SER_TXDATA : Nat := 0x100014
/-- SER_CNT. -/
def SER_CNT : Nat := 0x100018
/-- DIO_CFG. -/
def DIO_CFG : Nat := 0x101000
/-- DIO_IN_LO. -/
def DIO_IN_LO : Nat := 0x101100
/-- DIO_IN_HI. -/
def DIO_IN_HI : Nat := 0x101104
/-- DIO_OUT_LO. -/
def DIO_OUT_LO : Nat := 0x101108
/-- DIO_OUT_HI. -/
def DIO_OUT_HI : Nat := 0x10110C
/-- DIO_CLAIM_LO. -/
def DIO_CLAIM_LO : Nat := 0x101110
/-- DIO_CLAIM_HI. -/
def DIO_CLAIM_HI : Nat := 0x101114
/-- DIO_MAP. -/
def DIO_MAP : Nat := 0x101118
/-- DIO_OWNER. -/
def DIO_OWNER : Nat := 0x101120
/-- DIO_STAGE_MASK_LO. -/
def DIO_STAGE_MASK_LO : Nat := 0x101140
/-- DIO_STAGE_MASK_HI. -/
def DIO_STAGE_MASK_HI : Nat := 0x101144
/-- DIO_LATA. -/
def DIO_LATA : Nat := 0x101200
/-- DIO_LATB. -/
def DIO_LATB : Nat := 0x101204
/-- DIO_CNTR. -/
def DIO_CNTR : Nat := 0x101400
/-- SDF_EN. -/
def SDF_EN : Nat := 0x110000
/-- SDF_STATUS. -/
def SDF_STATUS : Nat := 0x110004
/-- SDF_CLK. -/
def SDF_CLK : Nat := 0x110010
/-- SDF_CHc_CFG. -/
def SDF_CHc_CFG : Nat := 0x111000
/-- SDF_CHc_FIR1. -/
def SDF_CHc_FIR1 : Nat := 0x111004
/-- SDF_CHc_FIR2. -/
def SDF_CHc_FIR2 : Nat := 0x111008
/-- SDF_CHc_SCALE. -/
def SDF_CHc_SCALE : Nat := 0x11100C
/-- SDF_CHc_OFS. -/
def SDF_CHc_OFS : Nat := 0x111010
/-- SDF_CHc_TC. -/
def SDF_CHc_TC : Nat := 0x111014
/-- SDF_CHc_SETTLE. -/
def SDF_CHc_SETTLE : Nat := 0x111018
/-- SDF_CHc_GD. -/
def SDF_CHc_GD : Nat := 0x11101C
/-- SDF_CHc_LAT. -/
def SDF_CHc_LAT : Nat := 0x111020
/-- SDF_CHc_LATT. -/
def SDF_CHc_LATT : Nat := 0x111024
/-- SDF_CHc_STAT. -/
def SDF_CHc_STAT : Nat := 0x111028
/-- HIF_LINK. -/
def HIF_LINK : Nat := 0x120000
/-- HIF_STATUS. -/
def HIF_STATUS : Nat := 0x120004
/-- HIF_CNT. -/
def HIF_CNT : Nat := 0x120008
/-- HIF_Rk_SQ_LO. -/
def HIF_Rk_SQ_LO : Nat := 0x121000
/-- HIF_Rk_SQ_HI. -/
def HIF_Rk_SQ_HI : Nat := 0x121004
/-- HIF_Rk_CQ_LO. -/
def HIF_Rk_CQ_LO : Nat := 0x121008
/-- HIF_Rk_CQ_HI. -/
def HIF_Rk_CQ_HI : Nat := 0x12100C
/-- HIF_Rk_SIZE. -/
def HIF_Rk_SIZE : Nat := 0x121010
/-- HIF_Rk_CTRL. -/
def HIF_Rk_CTRL : Nat := 0x121014
/-- HIF_Rk_STATUS. -/
def HIF_Rk_STATUS : Nat := 0x121018
/-- HIF_Rk_CNT. -/
def HIF_Rk_CNT : Nat := 0x12101C
/-- HIF_EV_EN. -/
def HIF_EV_EN : Nat := 0x122000
/-- HIF_EV_PEND. -/
def HIF_EV_PEND : Nat := 0x122020
/-- HIF_EVG_VEC. -/
def HIF_EVG_VEC : Nat := 0x122040
/-- ALM_CFG. -/
def ALM_CFG : Nat := 0x130000
/-- ALM_STATUS. -/
def ALM_STATUS : Nat := 0x130004
/-- ALM_EVENTS. -/
def ALM_EVENTS : Nat := 0x130008
/-- ALM_CNT. -/
def ALM_CNT : Nat := 0x13000C
/-- ALM_MERGED. -/
def ALM_MERGED : Nat := 0x130010
/-- ALM_SEQ_LAST. -/
def ALM_SEQ_LAST : Nat := 0x130014
/-- ALM_RD_SEQ. -/
def ALM_RD_SEQ : Nat := 0x130020
/-- ALM_RD_CTRL. -/
def ALM_RD_CTRL : Nat := 0x130024
/-- ALM_RD_SEQ_OUT. -/
def ALM_RD_SEQ_OUT : Nat := 0x130028
/-- ALM_RD_DATA. -/
def ALM_RD_DATA : Nat := 0x130040
/-- ALM_SW_HDR. -/
def ALM_SW_HDR : Nat := 0x130060
/-- ALM_SW_P. -/
def ALM_SW_P : Nat := 0x130064
/-- ALM_PLATE_CTRL. -/
def ALM_PLATE_CTRL : Nat := 0x130080
/-- ALM_PLATE_STATUS. -/
def ALM_PLATE_STATUS : Nat := 0x130084
/-- DBG_DMI. -/
def DBG_DMI : Nat := 0x140000
end Reg

namespace F
/-- CHIP_ID.PART [31:16] RO. -/
def CHIP_ID_PART : Fld := ⟨Reg.CHIP_ID, 31, 16⟩
/-- CHIP_ID.MAJOR [15:12] RO. -/
def CHIP_ID_MAJOR : Fld := ⟨Reg.CHIP_ID, 15, 12⟩
/-- CHIP_ID.MINOR [11:8] RO. -/
def CHIP_ID_MINOR : Fld := ⟨Reg.CHIP_ID, 11, 8⟩
/-- CHIP_ID.FAMILY [7:0] RO. -/
def CHIP_ID_FAMILY : Fld := ⟨Reg.CHIP_ID, 7, 0⟩
/-- CHIP_VARIANT.TJ_GRADE [11:8] RO. -/
def CHIP_VARIANT_TJ_GRADE : Fld := ⟨Reg.CHIP_VARIANT, 11, 8⟩
/-- CHIP_VARIANT.PCIE_EN [6:6] RO. -/
def CHIP_VARIANT_PCIE_EN : Fld := ⟨Reg.CHIP_VARIANT, 6, 6⟩
/-- CHIP_VARIANT.CPU_EN [5:5] RO. -/
def CHIP_VARIANT_CPU_EN : Fld := ⟨Reg.CHIP_VARIANT, 5, 5⟩
/-- CHIP_VARIANT.DDR_EN [4:4] RO. -/
def CHIP_VARIANT_DDR_EN : Fld := ⟨Reg.CHIP_VARIANT, 4, 4⟩
/-- CHIP_VARIANT.ORR_Q3_EN [3:3] RO. -/
def CHIP_VARIANT_ORR_Q3_EN : Fld := ⟨Reg.CHIP_VARIANT, 3, 3⟩
/-- CHIP_VARIANT.ORR_Q2_EN [2:2] RO. -/
def CHIP_VARIANT_ORR_Q2_EN : Fld := ⟨Reg.CHIP_VARIANT, 2, 2⟩
/-- CHIP_VARIANT.ORR_Q1_EN [1:1] RO. -/
def CHIP_VARIANT_ORR_Q1_EN : Fld := ⟨Reg.CHIP_VARIANT, 1, 1⟩
/-- CHIP_VARIANT.ROLE [0:0] RO. -/
def CHIP_VARIANT_ROLE : Fld := ⟨Reg.CHIP_VARIANT, 0, 0⟩
/-- CHIP_PROFILE.PRESET [7:4] RO. -/
def CHIP_PROFILE_PRESET : Fld := ⟨Reg.CHIP_PROFILE, 7, 4⟩
/-- CHIP_PROFILE.LEGACY_HDG [2:2] RO. -/
def CHIP_PROFILE_LEGACY_HDG : Fld := ⟨Reg.CHIP_PROFILE, 2, 2⟩
/-- CHIP_PROFILE.EDS_IN_EN [1:1] RO. -/
def CHIP_PROFILE_EDS_IN_EN : Fld := ⟨Reg.CHIP_PROFILE, 1, 1⟩
/-- CHIP_PROFILE.RISER_FOLLOW [0:0] RO. -/
def CHIP_PROFILE_RISER_FOLLOW : Fld := ⟨Reg.CHIP_PROFILE, 0, 0⟩
/-- BOOT_STATUS.STAGE [31:28] RO. -/
def BOOT_STATUS_STAGE : Fld := ⟨Reg.BOOT_STATUS, 31, 28⟩
/-- BOOT_STATUS.LC [27:25] RO. -/
def BOOT_STATUS_LC : Fld := ⟨Reg.BOOT_STATUS, 27, 25⟩
/-- BOOT_STATUS.CFG_DEFAULTED [24:24] RO. -/
def BOOT_STATUS_CFG_DEFAULTED : Fld := ⟨Reg.BOOT_STATUS, 24, 24⟩
/-- BOOT_STATUS.DEF_REASON [23:21] RO. -/
def BOOT_STATUS_DEF_REASON : Fld := ⟨Reg.BOOT_STATUS, 23, 21⟩
/-- BOOT_STATUS.DEF_SECT [20:13] RO. -/
def BOOT_STATUS_DEF_SECT : Fld := ⟨Reg.BOOT_STATUS, 20, 13⟩
/-- BOOT_STATUS.TIME_UNSYNC [12:12] RO. -/
def BOOT_STATUS_TIME_UNSYNC : Fld := ⟨Reg.BOOT_STATUS, 12, 12⟩
/-- BOOT_STATUS.TIME_SEEDED [11:11] RO. -/
def BOOT_STATUS_TIME_SEEDED : Fld := ⟨Reg.BOOT_STATUS, 11, 11⟩
/-- BOOT_STATUS.SIG_ENFORCED [10:10] RO. -/
def BOOT_STATUS_SIG_ENFORCED : Fld := ⟨Reg.BOOT_STATUS, 10, 10⟩
/-- BOOT_STATUS.PROG_MISSING [9:9] RO. -/
def BOOT_STATUS_PROG_MISSING : Fld := ⟨Reg.BOOT_STATUS, 9, 9⟩
/-- BOOT_STATUS.DIR_1 [5:5] RO. -/
def BOOT_STATUS_DIR_1 : Fld := ⟨Reg.BOOT_STATUS, 5, 5⟩
/-- BOOT_STATUS.FB_B [4:4] RO. -/
def BOOT_STATUS_FB_B : Fld := ⟨Reg.BOOT_STATUS, 4, 4⟩
/-- BOOT_STATUS.GRD_B [3:3] RO. -/
def BOOT_STATUS_GRD_B : Fld := ⟨Reg.BOOT_STATUS, 3, 3⟩
/-- BOOT_STATUS.CFG_B [2:2] RO. -/
def BOOT_STATUS_CFG_B : Fld := ⟨Reg.BOOT_STATUS, 2, 2⟩
/-- BOOT_STATUS.APP_B [1:1] RO. -/
def BOOT_STATUS_APP_B : Fld := ⟨Reg.BOOT_STATUS, 1, 1⟩
/-- BOOT_STATUS.SUP_B [0:0] RO. -/
def BOOT_STATUS_SUP_B : Fld := ⟨Reg.BOOT_STATUS, 0, 0⟩
/-- BOOT_CTRL.TIME_READY [2:2] W1S. -/
def BOOT_CTRL_TIME_READY : Fld := ⟨Reg.BOOT_CTRL, 2, 2⟩
/-- BOOT_CTRL.NEXT_START [1:0] RW. -/
def BOOT_CTRL_NEXT_START : Fld := ⟨Reg.BOOT_CTRL, 1, 0⟩
/-- BOOT_CFG_ID.CONFIG_ID [31:0] RO. -/
def BOOT_CFG_ID_CONFIG_ID : Fld := ⟨Reg.BOOT_CFG_ID, 31, 0⟩
/-- BOOT_DUR.GUARD [31:16] RO. -/
def BOOT_DUR_GUARD : Fld := ⟨Reg.BOOT_DUR, 31, 16⟩
/-- BOOT_DUR.DONE [15:0] RO. -/
def BOOT_DUR_DONE : Fld := ⟨Reg.BOOT_DUR, 15, 0⟩
/-- BOOT_LC_CMD.GO [31:31] W1S. -/
def BOOT_LC_CMD_GO : Fld := ⟨Reg.BOOT_LC_CMD, 31, 31⟩
/-- BOOT_LC_CMD.RESULT [30:28] RO. -/
def BOOT_LC_CMD_RESULT : Fld := ⟨Reg.BOOT_LC_CMD, 30, 28⟩
/-- BOOT_LC_CMD.OP [27:24] RW. -/
def BOOT_LC_CMD_OP : Fld := ⟨Reg.BOOT_LC_CMD, 27, 24⟩
/-- BOOT_LC_CMD.CONFIRM [15:8] RW. -/
def BOOT_LC_CMD_CONFIRM : Fld := ⟨Reg.BOOT_LC_CMD, 15, 8⟩
/-- BOOT_LC_CMD.KEYS [3:0] RW. -/
def BOOT_LC_CMD_KEYS : Fld := ⟨Reg.BOOT_LC_CMD, 3, 0⟩
/-- BOOT_LC_ADDR_LO.ADDR [31:0] RW. -/
def BOOT_LC_ADDR_LO_ADDR : Fld := ⟨Reg.BOOT_LC_ADDR_LO, 31, 0⟩
/-- BOOT_LC_ADDR_HI.ADDR [31:0] RW. -/
def BOOT_LC_ADDR_HI_ADDR : Fld := ⟨Reg.BOOT_LC_ADDR_HI, 31, 0⟩
/-- BOOT_LC_NONCE.NONCE [31:0] RO. -/
def BOOT_LC_NONCE_NONCE : Fld := ⟨Reg.BOOT_LC_NONCE, 31, 0⟩
/-- BOOT_KEYS.REVOKED [7:4] RO. -/
def BOOT_KEYS_REVOKED : Fld := ⟨Reg.BOOT_KEYS, 7, 4⟩
/-- BOOT_KEYS.PRESENT [3:0] RO. -/
def BOOT_KEYS_PRESENT : Fld := ⟨Reg.BOOT_KEYS, 3, 0⟩
/-- PWR_STATUS.RAIL_OK [24:16] RO. -/
def PWR_STATUS_RAIL_OK : Fld := ⟨Reg.PWR_STATUS, 24, 16⟩
/-- PWR_STATUS.ON [11:0] RO. -/
def PWR_STATUS_ON : Fld := ⟨Reg.PWR_STATUS, 11, 0⟩
/-- PWR_ORR_CTRL.OFF_REQ [3:1] RW. -/
def PWR_ORR_CTRL_OFF_REQ : Fld := ⟨Reg.PWR_ORR_CTRL, 3, 1⟩
/-- PWR_IO_SLEW.JTAG [9:8] RW. -/
def PWR_IO_SLEW_JTAG : Fld := ⟨Reg.PWR_IO_SLEW, 9, 8⟩
/-- PWR_IO_SLEW.OSPI [7:6] RW. -/
def PWR_IO_SLEW_OSPI : Fld := ⟨Reg.PWR_IO_SLEW, 7, 6⟩
/-- PWR_IO_SLEW.SDM [5:4] RW. -/
def PWR_IO_SLEW_SDM : Fld := ⟨Reg.PWR_IO_SLEW, 5, 4⟩
/-- PWR_IO_SLEW.CAN [3:2] RW. -/
def PWR_IO_SLEW_CAN : Fld := ⟨Reg.PWR_IO_SLEW, 3, 2⟩
/-- PWR_IO_SLEW.UART [1:0] RW. -/
def PWR_IO_SLEW_UART : Fld := ⟨Reg.PWR_IO_SLEW, 1, 0⟩
/-- PWR_IO_FILT.CAN_RX [15:8] RW. -/
def PWR_IO_FILT_CAN_RX : Fld := ⟨Reg.PWR_IO_FILT, 15, 8⟩
/-- PWR_IO_FILT.UART_RX [7:0] RW. -/
def PWR_IO_FILT_UART_RX : Fld := ⟨Reg.PWR_IO_FILT, 7, 0⟩
/-- CLK_STATUS.COMP_SAT [6:6] RO. -/
def CLK_STATUS_COMP_SAT : Fld := ⟨Reg.CLK_STATUS, 6, 6⟩
/-- CLK_STATUS.LOCK_LOST [5:5] W1C. -/
def CLK_STATUS_LOCK_LOST : Fld := ⟨Reg.CLK_STATUS, 5, 5⟩
/-- CLK_STATUS.SSC_ACTIVE [4:4] RO. -/
def CLK_STATUS_SSC_ACTIVE : Fld := ⟨Reg.CLK_STATUS, 4, 4⟩
/-- CLK_STATUS.REF_MODE [3:3] RO. -/
def CLK_STATUS_REF_MODE : Fld := ⟨Reg.CLK_STATUS, 3, 3⟩
/-- CLK_STATUS.TIME_LOCK [2:2] RO. -/
def CLK_STATUS_TIME_LOCK : Fld := ⟨Reg.CLK_STATUS, 2, 2⟩
/-- CLK_STATUS.MAIN_LOCK [1:1] RO. -/
def CLK_STATUS_MAIN_LOCK : Fld := ⟨Reg.CLK_STATUS, 1, 1⟩
/-- CLK_STATUS.REF_OK [0:0] RO. -/
def CLK_STATUS_REF_OK : Fld := ⟨Reg.CLK_STATUS, 0, 0⟩
/-- CLK_SSC.EN [31:31] RW. -/
def CLK_SSC_EN : Fld := ⟨Reg.CLK_SSC, 31, 31⟩
/-- CLK_SSC.DEPTH [3:0] RW. -/
def CLK_SSC_DEPTH : Fld := ⟨Reg.CLK_SSC, 3, 0⟩
/-- CLK_REF.COMP_EN [31:31] RW. -/
def CLK_REF_COMP_EN : Fld := ⟨Reg.CLK_REF, 31, 31⟩
/-- CLK_REF.APPLIED [16:0] RO. -/
def CLK_REF_APPLIED : Fld := ⟨Reg.CLK_REF, 16, 0⟩
/-- CLK_TC.PPB [31:0] RW. -/
def CLK_TC_PPB : Fld := ⟨Reg.CLK_TC, 31, 0⟩
/-- THM_STATUS.LEVEL [31:28] RO. -/
def THM_STATUS_LEVEL : Fld := ⟨Reg.THM_STATUS, 31, 28⟩
/-- THM_STATUS.STEP [27:26] RO. -/
def THM_STATUS_STEP : Fld := ⟨Reg.THM_STATUS, 27, 26⟩
/-- THM_STATUS.SENSOR_FAULT [25:25] RO. -/
def THM_STATUS_SENSOR_FAULT : Fld := ⟨Reg.THM_STATUS, 25, 25⟩
/-- THM_STATUS.TEMP [11:0] RO. -/
def THM_STATUS_TEMP : Fld := ⟨Reg.THM_STATUS, 11, 0⟩
/-- THM_TEMP_SI.TEMP [11:0] RO. -/
def THM_TEMP_SI_TEMP : Fld := ⟨Reg.THM_TEMP_SI, 11, 0⟩
/-- THM_CFG.DWELL [7:0] RW. -/
def THM_CFG_DWELL : Fld := ⟨Reg.THM_CFG, 7, 0⟩
/-- THM_MAX.TEMP [11:0] RC. -/
def THM_MAX_TEMP : Fld := ⟨Reg.THM_MAX, 11, 0⟩
/-- THM_CNT.STEP2_S [31:16] RC. -/
def THM_CNT_STEP2_S : Fld := ⟨Reg.THM_CNT, 31, 16⟩
/-- THM_CNT.STEP1_S [15:0] RC. -/
def THM_CNT_STEP1_S : Fld := ⟨Reg.THM_CNT, 15, 0⟩
/-- CDR_CTRL.STOP [2:2] RW. -/
def CDR_CTRL_STOP : Fld := ⟨Reg.CDR_CTRL, 2, 2⟩
/-- CDR_CTRL.RESTART_TYPE [1:1] RW. -/
def CDR_CTRL_RESTART_TYPE : Fld := ⟨Reg.CDR_CTRL, 1, 1⟩
/-- CDR_CTRL.RESTART [0:0] W1S. -/
def CDR_CTRL_RESTART : Fld := ⟨Reg.CDR_CTRL, 0, 0⟩
/-- CDR_STATUS.STATE [31:28] RO. -/
def CDR_STATUS_STATE : Fld := ⟨Reg.CDR_STATUS, 31, 28⟩
/-- CDR_STATUS.OVR_RUN [23:16] RO. -/
def CDR_STATUS_OVR_RUN : Fld := ⟨Reg.CDR_STATUS, 23, 16⟩
/-- CDR_STATUS.ACTIVE_HALF [10:10] RO. -/
def CDR_STATUS_ACTIVE_HALF : Fld := ⟨Reg.CDR_STATUS, 10, 10⟩
/-- CDR_STATUS.ECC_CORR [9:9] W1C. -/
def CDR_STATUS_ECC_CORR : Fld := ⟨Reg.CDR_STATUS, 9, 9⟩
/-- CDR_STATUS.SIG_FAIL [8:8] W1C. -/
def CDR_STATUS_SIG_FAIL : Fld := ⟨Reg.CDR_STATUS, 8, 8⟩
/-- CDR_STATUS.WARM_DENIED [7:7] W1C. -/
def CDR_STATUS_WARM_DENIED : Fld := ⟨Reg.CDR_STATUS, 7, 7⟩
/-- CDR_STATUS.TIMING_DEFAULTED [6:6] RO. -/
def CDR_STATUS_TIMING_DEFAULTED : Fld := ⟨Reg.CDR_STATUS, 6, 6⟩
/-- CDR_STATUS.STAGE_CONFLICT [5:5] W1C. -/
def CDR_STATUS_STAGE_CONFLICT : Fld := ⟨Reg.CDR_STATUS, 5, 5⟩
/-- CDR_STATUS.CYCLE_FAULT [4:4] RO. -/
def CDR_STATUS_CYCLE_FAULT : Fld := ⟨Reg.CDR_STATUS, 4, 4⟩
/-- CDR_STATUS.SLOW_OVR [3:3] W1C. -/
def CDR_STATUS_SLOW_OVR : Fld := ⟨Reg.CDR_STATUS, 3, 3⟩
/-- CDR_STATUS.FAST_OVR [2:2] W1C. -/
def CDR_STATUS_FAST_OVR : Fld := ⟨Reg.CDR_STATUS, 2, 2⟩
/-- CDR_STATUS.POST_LATE [1:1] W1C. -/
def CDR_STATUS_POST_LATE : Fld := ⟨Reg.CDR_STATUS, 1, 1⟩
/-- CDR_STATUS.PRE_LATE [0:0] W1C. -/
def CDR_STATUS_PRE_LATE : Fld := ⟨Reg.CDR_STATUS, 0, 0⟩
/-- CDR_PERIOD.SLOW_MULT [29:16] RO. -/
def CDR_PERIOD_SLOW_MULT : Fld := ⟨Reg.CDR_PERIOD, 29, 16⟩
/-- CDR_PERIOD.FAST [9:8] RO. -/
def CDR_PERIOD_FAST : Fld := ⟨Reg.CDR_PERIOD, 9, 8⟩
/-- CDR_PERIOD.BASE_MS [6:0] RO. -/
def CDR_PERIOD_BASE_MS : Fld := ⟨Reg.CDR_PERIOD, 6, 0⟩
/-- CDR_OFS_A.FUSION_DL [31:16] RO. -/
def CDR_OFS_A_FUSION_DL : Fld := ⟨Reg.CDR_OFS_A, 31, 16⟩
/-- CDR_OFS_A.INTAKE_CL [15:0] RO. -/
def CDR_OFS_A_INTAKE_CL : Fld := ⟨Reg.CDR_OFS_A, 15, 0⟩
/-- CDR_OFS_B.STAGE_DL [31:16] RO. -/
def CDR_OFS_B_STAGE_DL : Fld := ⟨Reg.CDR_OFS_B, 31, 16⟩
/-- CDR_OFS_B.SOLVE_DL [15:0] RO. -/
def CDR_OFS_B_SOLVE_DL : Fld := ⟨Reg.CDR_OFS_B, 15, 0⟩
/-- CDR_OFS_C.SWITCH [31:16] RO. -/
def CDR_OFS_C_SWITCH : Fld := ⟨Reg.CDR_OFS_C, 31, 16⟩
/-- CDR_OFS_C.OUT_OFFSET [15:0] RO. -/
def CDR_OFS_C_OUT_OFFSET : Fld := ⟨Reg.CDR_OFS_C, 15, 0⟩
/-- CDR_BUDGET.FAST_OVR_LIMIT [17:12] RO. -/
def CDR_BUDGET_FAST_OVR_LIMIT : Fld := ⟨Reg.CDR_BUDGET, 17, 12⟩
/-- CDR_BUDGET.OVR_LIMIT [11:8] RO. -/
def CDR_BUDGET_OVR_LIMIT : Fld := ⟨Reg.CDR_BUDGET, 11, 8⟩
/-- CDR_BUDGET.FAST_BUDGET [7:0] RO. -/
def CDR_BUDGET_FAST_BUDGET : Fld := ⟨Reg.CDR_BUDGET, 7, 0⟩
/-- CDR_CYC_LO.CYC_LO [31:0] RO. -/
def CDR_CYC_LO_CYC_LO : Fld := ⟨Reg.CDR_CYC_LO, 31, 0⟩
/-- CDR_CYC_HI.CYC_HI [31:0] RO. -/
def CDR_CYC_HI_CYC_HI : Fld := ⟨Reg.CDR_CYC_HI, 31, 0⟩
/-- CDR_PT_LO.PT_LO [31:0] RO. -/
def CDR_PT_LO_PT_LO : Fld := ⟨Reg.CDR_PT_LO, 31, 0⟩
/-- CDR_PT_HI.PT_HI [31:0] RO. -/
def CDR_PT_HI_PT_HI : Fld := ⟨Reg.CDR_PT_HI, 31, 0⟩
/-- CDR_PT_ADJ_LO.ADJ [31:0] RO. -/
def CDR_PT_ADJ_LO_ADJ : Fld := ⟨Reg.CDR_PT_ADJ_LO, 31, 0⟩
/-- CDR_PT_ADJ_HI.ADJ [31:0] RO. -/
def CDR_PT_ADJ_HI_ADJ : Fld := ⟨Reg.CDR_PT_ADJ_HI, 31, 0⟩
/-- CDR_OVR_CNT.BASE [31:16] RC. -/
def CDR_OVR_CNT_BASE : Fld := ⟨Reg.CDR_OVR_CNT, 31, 16⟩
/-- CDR_OVR_CNT.FAST [15:8] RC. -/
def CDR_OVR_CNT_FAST : Fld := ⟨Reg.CDR_OVR_CNT, 15, 8⟩
/-- CDR_OVR_CNT.SLOW [7:0] RC. -/
def CDR_OVR_CNT_SLOW : Fld := ⟨Reg.CDR_OVR_CNT, 7, 0⟩
/-- CDR_RESTART_INFO.TYPE [31:28] RO. -/
def CDR_RESTART_INFO_TYPE : Fld := ⟨Reg.CDR_RESTART_INFO, 31, 28⟩
/-- CDR_RESTART_INFO.CAUSE [27:24] RO. -/
def CDR_RESTART_INFO_CAUSE : Fld := ⟨Reg.CDR_RESTART_INFO, 27, 24⟩
/-- CDR_RESTART_INFO.DENY [23:20] RO. -/
def CDR_RESTART_INFO_DENY : Fld := ⟨Reg.CDR_RESTART_INFO, 23, 20⟩
/-- CDR_RESTART_INFO.COUNT [15:0] RO. -/
def CDR_RESTART_INFO_COUNT : Fld := ⟨Reg.CDR_RESTART_INFO, 15, 0⟩
/-- CDR_HB_LAST.HB [31:0] RO. -/
def CDR_HB_LAST_HB : Fld := ⟨Reg.CDR_HB_LAST, 31, 0⟩
/-- CDR_PROG_ID.PROGRAM_ID [31:0] RO. -/
def CDR_PROG_ID_PROGRAM_ID : Fld := ⟨Reg.CDR_PROG_ID, 31, 0⟩
/-- CDR_PROG_VER.VERSION [31:0] RO. -/
def CDR_PROG_VER_VERSION : Fld := ⟨Reg.CDR_PROG_VER, 31, 0⟩
/-- CDR_OC_CTRL.TRIAL_LEN [31:16] RW. -/
def CDR_OC_CTRL_TRIAL_LEN : Fld := ⟨Reg.CDR_OC_CTRL, 31, 16⟩
/-- CDR_OC_CTRL.AUTO_COMMIT [6:6] RW. -/
def CDR_OC_CTRL_AUTO_COMMIT : Fld := ⟨Reg.CDR_OC_CTRL, 6, 6⟩
/-- CDR_OC_CTRL.AUTO_ROLLBACK [5:5] RW. -/
def CDR_OC_CTRL_AUTO_ROLLBACK : Fld := ⟨Reg.CDR_OC_CTRL, 5, 5⟩
/-- CDR_OC_CTRL.CANCEL [4:4] W1S. -/
def CDR_OC_CTRL_CANCEL : Fld := ⟨Reg.CDR_OC_CTRL, 4, 4⟩
/-- CDR_OC_CTRL.ROLLBACK [3:3] W1S. -/
def CDR_OC_CTRL_ROLLBACK : Fld := ⟨Reg.CDR_OC_CTRL, 3, 3⟩
/-- CDR_OC_CTRL.COMMIT [2:2] W1S. -/
def CDR_OC_CTRL_COMMIT : Fld := ⟨Reg.CDR_OC_CTRL, 2, 2⟩
/-- CDR_OC_CTRL.SWITCH [1:1] W1S. -/
def CDR_OC_CTRL_SWITCH : Fld := ⟨Reg.CDR_OC_CTRL, 1, 1⟩
/-- CDR_OC_CTRL.LOAD [0:0] W1S. -/
def CDR_OC_CTRL_LOAD : Fld := ⟨Reg.CDR_OC_CTRL, 0, 0⟩
/-- CDR_OC_STATUS.STATE [31:28] RO. -/
def CDR_OC_STATUS_STATE : Fld := ⟨Reg.CDR_OC_STATUS, 31, 28⟩
/-- CDR_OC_STATUS.RESULT [27:24] RO. -/
def CDR_OC_STATUS_RESULT : Fld := ⟨Reg.CDR_OC_STATUS, 27, 24⟩
/-- CDR_OC_STATUS.REJECT [23:16] RO. -/
def CDR_OC_STATUS_REJECT : Fld := ⟨Reg.CDR_OC_STATUS, 23, 16⟩
/-- CDR_OC_STATUS.STALE_RESTORED [15:15] RO. -/
def CDR_OC_STATUS_STALE_RESTORED : Fld := ⟨Reg.CDR_OC_STATUS, 15, 15⟩
/-- CDR_OC_STATUS.PREDICTED [7:0] RO. -/
def CDR_OC_STATUS_PREDICTED : Fld := ⟨Reg.CDR_OC_STATUS, 7, 0⟩
/-- CDR_OC_CYC_LO.OC_CYC [31:0] RW. -/
def CDR_OC_CYC_LO_OC_CYC : Fld := ⟨Reg.CDR_OC_CYC_LO, 31, 0⟩
/-- CDR_OC_CYC_HI.OC_CYC [31:0] RW. -/
def CDR_OC_CYC_HI_OC_CYC : Fld := ⟨Reg.CDR_OC_CYC_HI, 31, 0⟩
/-- CDR_OC_SRC_LO.SRC [31:0] RW. -/
def CDR_OC_SRC_LO_SRC : Fld := ⟨Reg.CDR_OC_SRC_LO, 31, 0⟩
/-- CDR_OC_SRC_HI.SRC [31:0] RW. -/
def CDR_OC_SRC_HI_SRC : Fld := ⟨Reg.CDR_OC_SRC_HI, 31, 0⟩
/-- FUS_CTRL.INS_SEL [5:4] RW. -/
def FUS_CTRL_INS_SEL : Fld := ⟨Reg.FUS_CTRL, 5, 4⟩
/-- FUS_CTRL.RET_COMMIT [3:3] W1S. -/
def FUS_CTRL_RET_COMMIT : Fld := ⟨Reg.FUS_CTRL, 3, 3⟩
/-- FUS_CTRL.DATUM_COMMIT [2:2] W1S. -/
def FUS_CTRL_DATUM_COMMIT : Fld := ⟨Reg.FUS_CTRL, 2, 2⟩
/-- FUS_CTRL.RESET_FILTER [1:1] W1S. -/
def FUS_CTRL_RESET_FILTER : Fld := ⟨Reg.FUS_CTRL, 1, 1⟩
/-- FUS_CTRL.ENABLE [0:0] RW. -/
def FUS_CTRL_ENABLE : Fld := ⟨Reg.FUS_CTRL, 0, 0⟩
/-- FUS_STATUS.FSTATE [31:28] RO. -/
def FUS_STATUS_FSTATE : Fld := ⟨Reg.FUS_STATUS, 31, 28⟩
/-- FUS_STATUS.RISER_VALID [10:10] RO. -/
def FUS_STATUS_RISER_VALID : Fld := ⟨Reg.FUS_STATUS, 10, 10⟩
/-- FUS_STATUS.TRK_FULL [9:9] W1C. -/
def FUS_STATUS_TRK_FULL : Fld := ⟨Reg.FUS_STATUS, 9, 9⟩
/-- FUS_STATUS.WIND_DISAGREE [8:8] RO. -/
def FUS_STATUS_WIND_DISAGREE : Fld := ⟨Reg.FUS_STATUS, 8, 8⟩
/-- FUS_STATUS.LATE_DROP [7:7] W1C. -/
def FUS_STATUS_LATE_DROP : Fld := ⟨Reg.FUS_STATUS, 7, 7⟩
/-- FUS_STATUS.DATUM_CHANGED [6:6] W1C. -/
def FUS_STATUS_DATUM_CHANGED : Fld := ⟨Reg.FUS_STATUS, 6, 6⟩
/-- FUS_STATUS.RET_REJECT [5:5] W1C. -/
def FUS_STATUS_RET_REJECT : Fld := ⟨Reg.FUS_STATUS, 5, 5⟩
/-- FUS_STATUS.INTAKE_OVF [4:4] W1C. -/
def FUS_STATUS_INTAKE_OVF : Fld := ⟨Reg.FUS_STATUS, 4, 4⟩
/-- FUS_STATUS.ROWS_SHED [3:3] W1C. -/
def FUS_STATUS_ROWS_SHED : Fld := ⟨Reg.FUS_STATUS, 3, 3⟩
/-- FUS_STATUS.INS_LOST [2:2] RO. -/
def FUS_STATUS_INS_LOST : Fld := ⟨Reg.FUS_STATUS, 2, 2⟩
/-- FUS_STATUS.REF_DEGRADED [1:1] RO. -/
def FUS_STATUS_REF_DEGRADED : Fld := ⟨Reg.FUS_STATUS, 1, 1⟩
/-- FUS_STATUS.UPDATE_MISSED [0:0] W1C. -/
def FUS_STATUS_UPDATE_MISSED : Fld := ⟨Reg.FUS_STATUS, 0, 0⟩
/-- FUS_GATE.HDG_DEV [31:26] RW. -/
def FUS_GATE_HDG_DEV : Fld := ⟨Reg.FUS_GATE, 31, 26⟩
/-- FUS_GATE.ELEV_MASK [25:18] RW. -/
def FUS_GATE_ELEV_MASK : Fld := ⟨Reg.FUS_GATE, 25, 18⟩
/-- FUS_GATE.PFA [17:16] RW. -/
def FUS_GATE_PFA : Fld := ⟨Reg.FUS_GATE, 17, 16⟩
/-- FUS_GATE.RATIO [15:8] RW. -/
def FUS_GATE_RATIO : Fld := ⟨Reg.FUS_GATE, 15, 8⟩
/-- FUS_GATE.GATE_ROW [7:0] RW. -/
def FUS_GATE_GATE_ROW : Fld := ⟨Reg.FUS_GATE, 7, 0⟩
/-- FUS_LIMITS.SAT_EXCL_CYC [31:16] RW. -/
def FUS_LIMITS_SAT_EXCL_CYC : Fld := ⟨Reg.FUS_LIMITS, 31, 16⟩
/-- FUS_LIMITS.REF_COAST_LIMIT [15:0] RW. -/
def FUS_LIMITS_REF_COAST_LIMIT : Fld := ⟨Reg.FUS_LIMITS, 15, 0⟩
/-- FUS_REF_STATE.REF [31:0] RO. -/
def FUS_REF_STATE_REF : Fld := ⟨Reg.FUS_REF_STATE, 31, 0⟩
/-- FUS_AUX_STATE.INS [27:24] RO. -/
def FUS_AUX_STATE_INS : Fld := ⟨Reg.FUS_AUX_STATE, 27, 24⟩
/-- FUS_AUX_STATE.WIND [23:16] RO. -/
def FUS_AUX_STATE_WIND : Fld := ⟨Reg.FUS_AUX_STATE, 23, 16⟩
/-- FUS_AUX_STATE.MRU [15:8] RO. -/
def FUS_AUX_STATE_MRU : Fld := ⟨Reg.FUS_AUX_STATE, 15, 8⟩
/-- FUS_AUX_STATE.HDG [7:0] RO. -/
def FUS_AUX_STATE_HDG : Fld := ⟨Reg.FUS_AUX_STATE, 7, 0⟩
/-- FUS_COAST_CNT.COUNT [31:0] RO. -/
def FUS_COAST_CNT_COUNT : Fld := ⟨Reg.FUS_COAST_CNT, 31, 0⟩
/-- FUS_ROWS.SHED [31:16] RO. -/
def FUS_ROWS_SHED : Fld := ⟨Reg.FUS_ROWS, 31, 16⟩
/-- FUS_ROWS.USED [8:0] RO. -/
def FUS_ROWS_USED : Fld := ⟨Reg.FUS_ROWS, 8, 0⟩
/-- FUS_STATE_CYC_LO.CYC [31:0] RO. -/
def FUS_STATE_CYC_LO_CYC : Fld := ⟨Reg.FUS_STATE_CYC_LO, 31, 0⟩
/-- FUS_STATE_CYC_HI.CYC [31:0] RO. -/
def FUS_STATE_CYC_HI_CYC : Fld := ⟨Reg.FUS_STATE_CYC_HI, 31, 0⟩
/-- FUS_DATUM_LAT_LO.VALUE [31:0] RW. -/
def FUS_DATUM_LAT_LO_VALUE : Fld := ⟨Reg.FUS_DATUM_LAT_LO, 31, 0⟩
/-- FUS_DATUM_LAT_HI.VALUE [31:0] RW. -/
def FUS_DATUM_LAT_HI_VALUE : Fld := ⟨Reg.FUS_DATUM_LAT_HI, 31, 0⟩
/-- FUS_DATUM_LON_LO.VALUE [31:0] RW. -/
def FUS_DATUM_LON_LO_VALUE : Fld := ⟨Reg.FUS_DATUM_LON_LO, 31, 0⟩
/-- FUS_DATUM_LON_HI.VALUE [31:0] RW. -/
def FUS_DATUM_LON_HI_VALUE : Fld := ⟨Reg.FUS_DATUM_LON_HI, 31, 0⟩
/-- FUS_DATUM_H.H [31:0] RW. -/
def FUS_DATUM_H_H : Fld := ⟨Reg.FUS_DATUM_H, 31, 0⟩
/-- FUS_RET_ID.TABLE_ID [31:0] RO. -/
def FUS_RET_ID_TABLE_ID : Fld := ⟨Reg.FUS_RET_ID, 31, 0⟩
/-- FUS_TRK_CFG.REFL_GATE [31:24] RW. -/
def FUS_TRK_CFG_REFL_GATE : Fld := ⟨Reg.FUS_TRK_CFG, 31, 24⟩
/-- FUS_TRK_CFG.TENT_MISS [23:20] RW. -/
def FUS_TRK_CFG_TENT_MISS : Fld := ⟨Reg.FUS_TRK_CFG, 23, 20⟩
/-- FUS_TRK_CFG.DEATH_MISS [19:16] RW. -/
def FUS_TRK_CFG_DEATH_MISS : Fld := ⟨Reg.FUS_TRK_CFG, 19, 16⟩
/-- FUS_TRK_CFG.BIRTH_N [15:12] RW. -/
def FUS_TRK_CFG_BIRTH_N : Fld := ⟨Reg.FUS_TRK_CFG, 15, 12⟩
/-- FUS_TRK_CFG.BIRTH_M [11:8] RW. -/
def FUS_TRK_CFG_BIRTH_M : Fld := ⟨Reg.FUS_TRK_CFG, 11, 8⟩
/-- FUS_TRK_CFG.TRK_GATE [7:0] RW. -/
def FUS_TRK_CFG_TRK_GATE : Fld := ⟨Reg.FUS_TRK_CFG, 7, 0⟩
/-- FUS_TRK_STATUS.BOUND [22:16] RO. -/
def FUS_TRK_STATUS_BOUND : Fld := ⟨Reg.FUS_TRK_STATUS, 22, 16⟩
/-- FUS_TRK_STATUS.TENTATIVE [14:8] RO. -/
def FUS_TRK_STATUS_TENTATIVE : Fld := ⟨Reg.FUS_TRK_STATUS, 14, 8⟩
/-- FUS_TRK_STATUS.CONFIRMED [6:0] RO. -/
def FUS_TRK_STATUS_CONFIRMED : Fld := ⟨Reg.FUS_TRK_STATUS, 6, 0⟩
/-- FUS_INTAKE.BAD [31:24] RC. -/
def FUS_INTAKE_BAD : Fld := ⟨Reg.FUS_INTAKE, 31, 24⟩
/-- FUS_INTAKE.OVF [23:16] RC. -/
def FUS_INTAKE_OVF : Fld := ⟨Reg.FUS_INTAKE, 23, 16⟩
/-- FUS_INTAKE.LEVEL [15:0] RO. -/
def FUS_INTAKE_LEVEL : Fld := ⟨Reg.FUS_INTAKE, 15, 0⟩
/-- FUS_SRC_CNT.SUPERSEDED [31:24] RC. -/
def FUS_SRC_CNT_SUPERSEDED : Fld := ⟨Reg.FUS_SRC_CNT, 31, 24⟩
/-- FUS_SRC_CNT.STALE [23:16] RC. -/
def FUS_SRC_CNT_STALE : Fld := ⟨Reg.FUS_SRC_CNT, 23, 16⟩
/-- FUS_SRC_CNT.LATE [15:0] RC. -/
def FUS_SRC_CNT_LATE : Fld := ⟨Reg.FUS_SRC_CNT, 15, 0⟩
/-- ORY_CTRL.SOLVE_REL [23:16] RW. -/
def ORY_CTRL_SOLVE_REL : Fld := ⟨Reg.ORY_CTRL, 23, 16⟩
/-- ORY_CTRL.HOST_ABORT [2:2] W1S. -/
def ORY_CTRL_HOST_ABORT : Fld := ⟨Reg.ORY_CTRL, 2, 2⟩
/-- ORY_CTRL.PLAN_COMMIT [1:1] W1S. -/
def ORY_CTRL_PLAN_COMMIT : Fld := ⟨Reg.ORY_CTRL, 1, 1⟩
/-- ORY_CTRL.ENABLE [0:0] RW. -/
def ORY_CTRL_ENABLE : Fld := ⟨Reg.ORY_CTRL, 0, 0⟩
/-- ORY_STATUS.Q_ON [31:28] RO. -/
def ORY_STATUS_Q_ON : Fld := ⟨Reg.ORY_STATUS, 31, 28⟩
/-- ORY_STATUS.PLAN_REJECT [7:7] W1C. -/
def ORY_STATUS_PLAN_REJECT : Fld := ⟨Reg.ORY_STATUS, 7, 7⟩
/-- ORY_STATUS.STRUCT_LOST [6:6] W1C. -/
def ORY_STATUS_STRUCT_LOST : Fld := ⟨Reg.ORY_STATUS, 6, 6⟩
/-- ORY_STATUS.NUM_EXC [5:5] W1C. -/
def ORY_STATUS_NUM_EXC : Fld := ⟨Reg.ORY_STATUS, 5, 5⟩
/-- ORY_STATUS.DL_FACTOR [4:4] W1C. -/
def ORY_STATUS_DL_FACTOR : Fld := ⟨Reg.ORY_STATUS, 4, 4⟩
/-- ORY_STATUS.DL_ITER [3:3] W1C. -/
def ORY_STATUS_DL_ITER : Fld := ⟨Reg.ORY_STATUS, 3, 3⟩
/-- ORY_STATUS.NOT_STARTED [2:2] W1C. -/
def ORY_STATUS_NOT_STARTED : Fld := ⟨Reg.ORY_STATUS, 2, 2⟩
/-- ORY_STATUS.QUEUE_FULL [1:1] W1C. -/
def ORY_STATUS_QUEUE_FULL : Fld := ⟨Reg.ORY_STATUS, 1, 1⟩
/-- ORY_STATUS.RUN [0:0] RO. -/
def ORY_STATUS_RUN : Fld := ⟨Reg.ORY_STATUS, 0, 0⟩
/-- ORY_ENG_BUSY_LO.BUSY [31:0] RO. -/
def ORY_ENG_BUSY_LO_BUSY : Fld := ⟨Reg.ORY_ENG_BUSY_LO, 31, 0⟩
/-- ORY_ENG_BUSY_HI.BUSY [31:0] RO. -/
def ORY_ENG_BUSY_HI_BUSY : Fld := ⟨Reg.ORY_ENG_BUSY_HI, 31, 0⟩
/-- ORY_QLEVEL.Q3 [31:24] RO. -/
def ORY_QLEVEL_Q3 : Fld := ⟨Reg.ORY_QLEVEL, 31, 24⟩
/-- ORY_QLEVEL.Q2 [23:16] RO. -/
def ORY_QLEVEL_Q2 : Fld := ⟨Reg.ORY_QLEVEL, 23, 16⟩
/-- ORY_QLEVEL.Q1 [15:8] RO. -/
def ORY_QLEVEL_Q1 : Fld := ⟨Reg.ORY_QLEVEL, 15, 8⟩
/-- ORY_QLEVEL.Q0 [7:0] RO. -/
def ORY_QLEVEL_Q0 : Fld := ⟨Reg.ORY_QLEVEL, 7, 0⟩
/-- ORY_CNT_DL.ITER [31:16] RC. -/
def ORY_CNT_DL_ITER : Fld := ⟨Reg.ORY_CNT_DL, 31, 16⟩
/-- ORY_CNT_DL.FACTOR [15:8] RC. -/
def ORY_CNT_DL_FACTOR : Fld := ⟨Reg.ORY_CNT_DL, 15, 8⟩
/-- ORY_CNT_DL.NOT_STARTED [7:0] RC. -/
def ORY_CNT_DL_NOT_STARTED : Fld := ⟨Reg.ORY_CNT_DL, 7, 0⟩
/-- ORY_CNT_EXC.WARM_REJ [31:16] RC. -/
def ORY_CNT_EXC_WARM_REJ : Fld := ⟨Reg.ORY_CNT_EXC, 31, 16⟩
/-- ORY_CNT_EXC.NUMERIC [15:8] RC. -/
def ORY_CNT_EXC_NUMERIC : Fld := ⟨Reg.ORY_CNT_EXC, 15, 8⟩
/-- ORY_CNT_EXC.ABORTED [7:0] RC. -/
def ORY_CNT_EXC_ABORTED : Fld := ⟨Reg.ORY_CNT_EXC, 7, 0⟩
/-- ORY_ECC.CORR [31:16] RC. -/
def ORY_ECC_CORR : Fld := ⟨Reg.ORY_ECC, 31, 16⟩
/-- ORY_ECC.LAST_ENGINE [5:0] RO. -/
def ORY_ECC_LAST_ENGINE : Fld := ⟨Reg.ORY_ECC, 5, 0⟩
/-- ORY_PLAN_ID.PLAN_ID [31:0] RO. -/
def ORY_PLAN_ID_PLAN_ID : Fld := ⟨Reg.ORY_PLAN_ID, 31, 0⟩
/-- ORY_SLOT_ID.STRUCT_ID [31:0] RO. -/
def ORY_SLOT_ID_STRUCT_ID : Fld := ⟨Reg.ORY_SLOT_ID, 31, 0⟩
/-- CTL_CTRL.SET_COMMIT [2:2] W1S. -/
def CTL_CTRL_SET_COMMIT : Fld := ⟨Reg.CTL_CTRL, 2, 2⟩
/-- CTL_CTRL.PARAM_COMMIT [1:1] W1S. -/
def CTL_CTRL_PARAM_COMMIT : Fld := ⟨Reg.CTL_CTRL, 1, 1⟩
/-- CTL_CTRL.ENABLE [0:0] RW. -/
def CTL_CTRL_ENABLE : Fld := ⟨Reg.CTL_CTRL, 0, 0⟩
/-- CTL_STATUS.SOURCE [31:28] RO. -/
def CTL_STATUS_SOURCE : Fld := ⟨Reg.CTL_STATUS, 31, 28⟩
/-- CTL_STATUS.COLLIM [9:9] RO. -/
def CTL_STATUS_COLLIM : Fld := ⟨Reg.CTL_STATUS, 9, 9⟩
/-- CTL_STATUS.SECT_SWITCH [8:8] W1C. -/
def CTL_STATUS_SECT_SWITCH : Fld := ⟨Reg.CTL_STATUS, 8, 8⟩
/-- CTL_STATUS.PARAM_REJECT [7:7] W1C. -/
def CTL_STATUS_PARAM_REJECT : Fld := ⟨Reg.CTL_STATUS, 7, 7⟩
/-- CTL_STATUS.SET_REJECT [6:6] W1C. -/
def CTL_STATUS_SET_REJECT : Fld := ⟨Reg.CTL_STATUS, 6, 6⟩
/-- CTL_STATUS.INT_CLAMP [5:5] RO. -/
def CTL_STATUS_INT_CLAMP : Fld := ⟨Reg.CTL_STATUS, 5, 5⟩
/-- CTL_STATUS.MODE_REFUSED [4:4] W1C. -/
def CTL_STATUS_MODE_REFUSED : Fld := ⟨Reg.CTL_STATUS, 4, 4⟩
/-- CTL_STATUS.FORCE_HOLD [3:3] RO. -/
def CTL_STATUS_FORCE_HOLD : Fld := ⟨Reg.CTL_STATUS, 3, 3⟩
/-- CTL_STATUS.ITER_USED [2:2] W1C. -/
def CTL_STATUS_ITER_USED : Fld := ⟨Reg.CTL_STATUS, 2, 2⟩
/-- CTL_STATUS.SOLVER_LOST [1:1] RO. -/
def CTL_STATUS_SOLVER_LOST : Fld := ⟨Reg.CTL_STATUS, 1, 1⟩
/-- CTL_STATUS.DEADLINE_MISS [0:0] W1C. -/
def CTL_STATUS_DEADLINE_MISS : Fld := ⟨Reg.CTL_STATUS, 0, 0⟩
/-- CTL_MODE.AXIS_AUTO [6:4] RO. -/
def CTL_MODE_AXIS_AUTO : Fld := ⟨Reg.CTL_MODE, 6, 4⟩
/-- CTL_MODE.MODE [3:0] RO. -/
def CTL_MODE_MODE : Fld := ⟨Reg.CTL_MODE, 3, 0⟩
/-- CTL_MISS.MISS_RUN [31:16] RO. -/
def CTL_MISS_MISS_RUN : Fld := ⟨Reg.CTL_MISS, 31, 16⟩
/-- CTL_MISS.SECTOR_DWELL [15:8] RW. -/
def CTL_MISS_SECTOR_DWELL : Fld := ⟨Reg.CTL_MISS, 15, 8⟩
/-- CTL_MISS.MISS_LIMIT [7:0] RW. -/
def CTL_MISS_MISS_LIMIT : Fld := ⟨Reg.CTL_MISS, 7, 0⟩
/-- CTL_CNT.MISS [31:16] RC. -/
def CTL_CNT_MISS : Fld := ⟨Reg.CTL_CNT, 31, 16⟩
/-- CTL_CNT.ITER [15:8] RC. -/
def CTL_CNT_ITER : Fld := ⟨Reg.CTL_CNT, 15, 8⟩
/-- CTL_CNT.SECT [7:0] RC. -/
def CTL_CNT_SECT : Fld := ⟨Reg.CTL_CNT, 7, 0⟩
/-- CTL_SECTOR.SECT [31:0] RO. -/
def CTL_SECTOR_SECT : Fld := ⟨Reg.CTL_SECTOR, 31, 0⟩
/-- CTL_THR_STATE.STATE [31:0] RO. -/
def CTL_THR_STATE_STATE : Fld := ⟨Reg.CTL_THR_STATE, 31, 0⟩
/-- CTL_SET_ID.SET_ID [31:0] RO. -/
def CTL_SET_ID_SET_ID : Fld := ⟨Reg.CTL_SET_ID, 31, 0⟩
/-- CTL_COL_CTRL.STOP [1:1] W1S. -/
def CTL_COL_CTRL_STOP : Fld := ⟨Reg.CTL_COL_CTRL, 1, 1⟩
/-- CTL_COL_CTRL.START [0:0] W1S. -/
def CTL_COL_CTRL_START : Fld := ⟨Reg.CTL_COL_CTRL, 0, 0⟩
/-- CTL_COL_CFG.PRE [25:16] RW. -/
def CTL_COL_CFG_PRE : Fld := ⟨Reg.CTL_COL_CFG, 25, 16⟩
/-- CTL_COL_CFG.TARGET [12:8] RW. -/
def CTL_COL_CFG_TARGET : Fld := ⟨Reg.CTL_COL_CFG, 12, 8⟩
/-- CTL_COL_CFG.POINT [5:4] RW. -/
def CTL_COL_CFG_POINT : Fld := ⟨Reg.CTL_COL_CFG, 5, 4⟩
/-- CTL_COL_CFG.SHAPE [3:0] RW. -/
def CTL_COL_CFG_SHAPE : Fld := ⟨Reg.CTL_COL_CFG, 3, 0⟩
/-- CTL_COL_AMP.AMP [31:0] RW. -/
def CTL_COL_AMP_AMP : Fld := ⟨Reg.CTL_COL_AMP, 31, 0⟩
/-- CTL_COL_TIME.P2 [31:16] RW. -/
def CTL_COL_TIME_P2 : Fld := ⟨Reg.CTL_COL_TIME, 31, 16⟩
/-- CTL_COL_TIME.P1 [15:0] RW. -/
def CTL_COL_TIME_P1 : Fld := ⟨Reg.CTL_COL_TIME, 15, 0⟩
/-- CTL_COL_DUR.DUR [31:0] RW. -/
def CTL_COL_DUR_DUR : Fld := ⟨Reg.CTL_COL_DUR, 31, 0⟩
/-- CTL_COL_CYC_LO.COL_CYC [31:0] RW. -/
def CTL_COL_CYC_LO_COL_CYC : Fld := ⟨Reg.CTL_COL_CYC_LO, 31, 0⟩
/-- CTL_COL_CYC_HI.COL_CYC [31:0] RW. -/
def CTL_COL_CYC_HI_COL_CYC : Fld := ⟨Reg.CTL_COL_CYC_HI, 31, 0⟩
/-- CTL_COL_CH.CH [31:0] RW. -/
def CTL_COL_CH_CH : Fld := ⟨Reg.CTL_COL_CH, 31, 0⟩
/-- CTL_COL_BUF_LO.BUF [31:0] RW. -/
def CTL_COL_BUF_LO_BUF : Fld := ⟨Reg.CTL_COL_BUF_LO, 31, 0⟩
/-- CTL_COL_BUF_HI.BUF [31:0] RW. -/
def CTL_COL_BUF_HI_BUF : Fld := ⟨Reg.CTL_COL_BUF_HI, 31, 0⟩
/-- CTL_COL_ABORT.ABORT_PSI [31:16] RW. -/
def CTL_COL_ABORT_ABORT_PSI : Fld := ⟨Reg.CTL_COL_ABORT, 31, 16⟩
/-- CTL_COL_ABORT.ABORT_R [15:0] RW. -/
def CTL_COL_ABORT_ABORT_R : Fld := ⟨Reg.CTL_COL_ABORT, 15, 0⟩
/-- CTL_COL_STATUS.STATE [31:28] RO. -/
def CTL_COL_STATUS_STATE : Fld := ⟨Reg.CTL_COL_STATUS, 31, 28⟩
/-- CTL_COL_STATUS.REASON [27:24] RO. -/
def CTL_COL_STATUS_REASON : Fld := ⟨Reg.CTL_COL_STATUS, 27, 24⟩
/-- CTL_COL_STATUS.SAMPLES [12:0] RO. -/
def CTL_COL_STATUS_SAMPLES : Fld := ⟨Reg.CTL_COL_STATUS, 12, 0⟩
/-- CTL_PARAM.VALUE [31:0] RW. -/
def CTL_PARAM_VALUE : Fld := ⟨Reg.CTL_PARAM, 31, 0⟩
/-- CTL_PARAM_ACT.VALUE [31:0] RO. -/
def CTL_PARAM_ACT_VALUE : Fld := ⟨Reg.CTL_PARAM_ACT, 31, 0⟩
/-- EPH_CTRL.TABLE_COMMIT [2:2] W1S. -/
def EPH_CTRL_TABLE_COMMIT : Fld := ⟨Reg.EPH_CTRL, 2, 2⟩
/-- EPH_CTRL.FB_EN [1:1] RW. -/
def EPH_CTRL_FB_EN : Fld := ⟨Reg.EPH_CTRL, 1, 1⟩
/-- EPH_CTRL.ENABLE [0:0] RW. -/
def EPH_CTRL_ENABLE : Fld := ⟨Reg.EPH_CTRL, 0, 0⟩
/-- EPH_STATUS.FB_HYP [31:26] RO. -/
def EPH_STATUS_FB_HYP : Fld := ⟨Reg.EPH_STATUS, 31, 26⟩
/-- EPH_STATUS.FB_ACTIVE [8:8] RO. -/
def EPH_STATUS_FB_ACTIVE : Fld := ⟨Reg.EPH_STATUS, 8, 8⟩
/-- EPH_STATUS.LS_ACTIVE [7:7] RO. -/
def EPH_STATUS_LS_ACTIVE : Fld := ⟨Reg.EPH_STATUS, 7, 7⟩
/-- EPH_STATUS.LS_PIN_LOST [6:6] W1C. -/
def EPH_STATUS_LS_PIN_LOST : Fld := ⟨Reg.EPH_STATUS, 6, 6⟩
/-- EPH_STATUS.ACK_OVERDUE [5:5] RO. -/
def EPH_STATUS_ACK_OVERDUE : Fld := ⟨Reg.EPH_STATUS, 5, 5⟩
/-- EPH_STATUS.NO_FALLBACK [4:4] W1C. -/
def EPH_STATUS_NO_FALLBACK : Fld := ⟨Reg.EPH_STATUS, 4, 4⟩
/-- EPH_STATUS.INPUT_BAD [3:3] W1C. -/
def EPH_STATUS_INPUT_BAD : Fld := ⟨Reg.EPH_STATUS, 3, 3⟩
/-- EPH_STATUS.TABLE_REJECT [2:2] W1C. -/
def EPH_STATUS_TABLE_REJECT : Fld := ⟨Reg.EPH_STATUS, 2, 2⟩
/-- EPH_STATUS.DR_MODE [1:1] RO. -/
def EPH_STATUS_DR_MODE : Fld := ⟨Reg.EPH_STATUS, 1, 1⟩
/-- EPH_STATUS.RUN [0:0] RO. -/
def EPH_STATUS_RUN : Fld := ⟨Reg.EPH_STATUS, 0, 0⟩
/-- EPH_CFG.ENV_UNC [31:24] RW. -/
def EPH_CFG_ENV_UNC : Fld := ⟨Reg.EPH_CFG, 31, 24⟩
/-- EPH_CFG.SCN_ITER [8:0] RW. -/
def EPH_CFG_SCN_ITER : Fld := ⟨Reg.EPH_CFG, 8, 0⟩
/-- EPH_LIMITS.FB_MAX_AGE [31:16] RW. -/
def EPH_LIMITS_FB_MAX_AGE : Fld := ⟨Reg.EPH_LIMITS, 31, 16⟩
/-- EPH_LIMITS.FB_ACK_LIMIT [15:0] RW. -/
def EPH_LIMITS_FB_ACK_LIMIT : Fld := ⟨Reg.EPH_LIMITS, 15, 0⟩
/-- EPH_LS_CFG.LS_HOLD [31:16] RW. -/
def EPH_LS_CFG_LS_HOLD : Fld := ⟨Reg.EPH_LS_CFG, 31, 16⟩
/-- EPH_LS_CFG.LS_THRESH [15:8] RW. -/
def EPH_LS_CFG_LS_THRESH : Fld := ⟨Reg.EPH_LS_CFG, 15, 8⟩
/-- EPH_LS_CFG.LS_POL [7:7] RW. -/
def EPH_LS_CFG_LS_POL : Fld := ⟨Reg.EPH_LS_CFG, 7, 7⟩
/-- EPH_LS_CFG.LS_EN [6:6] RW. -/
def EPH_LS_CFG_LS_EN : Fld := ⟨Reg.EPH_LS_CFG, 6, 6⟩
/-- EPH_LS_CFG.LS_PIN [5:0] RW. -/
def EPH_LS_CFG_LS_PIN : Fld := ⟨Reg.EPH_LS_CFG, 5, 0⟩
/-- EPH_EVAL_LO.EVAL [31:0] RO. -/
def EPH_EVAL_LO_EVAL : Fld := ⟨Reg.EPH_EVAL_LO, 31, 0⟩
/-- EPH_EVAL_HI.EVAL [31:0] RO. -/
def EPH_EVAL_HI_EVAL : Fld := ⟨Reg.EPH_EVAL_HI, 31, 0⟩
/-- EPH_LATCH_LO.LATCH [31:0] RO. -/
def EPH_LATCH_LO_LATCH : Fld := ⟨Reg.EPH_LATCH_LO, 31, 0⟩
/-- EPH_LATCH_HI.LATCH [31:0] RO. -/
def EPH_LATCH_HI_LATCH : Fld := ⟨Reg.EPH_LATCH_HI, 31, 0⟩
/-- EPH_THROT_LO.THROT [31:0] RO. -/
def EPH_THROT_LO_THROT : Fld := ⟨Reg.EPH_THROT_LO, 31, 0⟩
/-- EPH_THROT_HI.THROT [31:0] RO. -/
def EPH_THROT_HI_THROT : Fld := ⟨Reg.EPH_THROT_HI, 31, 0⟩
/-- EPH_TABLE_ID.TABLE_ID [31:0] RO. -/
def EPH_TABLE_ID_TABLE_ID : Fld := ⟨Reg.EPH_TABLE_ID, 31, 0⟩
/-- EPH_FB.FB [31:0] RO. -/
def EPH_FB_FB : Fld := ⟨Reg.EPH_FB, 31, 0⟩
/-- EPH_CNT.FB_CYCLES [31:16] RC. -/
def EPH_CNT_FB_CYCLES : Fld := ⟨Reg.EPH_CNT, 31, 16⟩
/-- EPH_CNT.TRIGGERS [15:8] RC. -/
def EPH_CNT_TRIGGERS : Fld := ⟨Reg.EPH_CNT, 15, 8⟩
/-- EPH_CNT.NO_FB [7:0] RC. -/
def EPH_CNT_NO_FB : Fld := ⟨Reg.EPH_CNT, 7, 0⟩
/-- RDN_CTRL.DIAG [3:3] W1S. -/
def RDN_CTRL_DIAG : Fld := ⟨Reg.RDN_CTRL, 3, 3⟩
/-- RDN_CTRL.STANDBY_ONLY [2:2] RW. -/
def RDN_CTRL_STANDBY_ONLY : Fld := ⟨Reg.RDN_CTRL, 2, 2⟩
/-- RDN_CTRL.REHEARSE [1:1] W1S. -/
def RDN_CTRL_REHEARSE : Fld := ⟨Reg.RDN_CTRL, 1, 1⟩
/-- RDN_CTRL.HANDOVER [0:0] W1S. -/
def RDN_CTRL_HANDOVER : Fld := ⟨Reg.RDN_CTRL, 0, 0⟩
/-- RDN_CFG.REVERT_SYNC [31:16] RW. -/
def RDN_CFG_REVERT_SYNC : Fld := ⟨Reg.RDN_CFG, 31, 16⟩
/-- RDN_CFG.HOLDOFF [15:6] RW. -/
def RDN_CFG_HOLDOFF : Fld := ⟨Reg.RDN_CFG, 15, 6⟩
/-- RDN_CFG.REVERT [5:5] RW. -/
def RDN_CFG_REVERT : Fld := ⟨Reg.RDN_CFG, 5, 5⟩
/-- RDN_STATUS.RSTATE [31:28] RO. -/
def RDN_STATUS_RSTATE : Fld := ⟨Reg.RDN_STATUS, 31, 28⟩
/-- RDN_STATUS.RANK [27:26] RO. -/
def RDN_STATUS_RANK : Fld := ⟨Reg.RDN_STATUS, 27, 26⟩
/-- RDN_STATUS.GRP_SIZE [25:24] RO. -/
def RDN_STATUS_GRP_SIZE : Fld := ⟨Reg.RDN_STATUS, 25, 24⟩
/-- RDN_STATUS.FIT [23:23] RO. -/
def RDN_STATUS_FIT : Fld := ⟨Reg.RDN_STATUS, 23, 23⟩
/-- RDN_STATUS.CLAIM_EN [22:22] RO. -/
def RDN_STATUS_CLAIM_EN : Fld := ⟨Reg.RDN_STATUS, 22, 22⟩
/-- RDN_STATUS.OWN_LINE [21:21] RO. -/
def RDN_STATUS_OWN_LINE : Fld := ⟨Reg.RDN_STATUS, 21, 21⟩
/-- RDN_STATUS.IN0 [20:20] RO. -/
def RDN_STATUS_IN0 : Fld := ⟨Reg.RDN_STATUS, 20, 20⟩
/-- RDN_STATUS.IN1 [19:19] RO. -/
def RDN_STATUS_IN1 : Fld := ⟨Reg.RDN_STATUS, 19, 19⟩
/-- RDN_STATUS.HANDOVER_REFUSED [6:6] W1C. -/
def RDN_STATUS_HANDOVER_REFUSED : Fld := ⟨Reg.RDN_STATUS, 6, 6⟩
/-- RDN_STATUS.CLAIM_FAIL [5:5] W1C. -/
def RDN_STATUS_CLAIM_FAIL : Fld := ⟨Reg.RDN_STATUS, 5, 5⟩
/-- RDN_STATUS.CONTENTION [4:4] W1C. -/
def RDN_STATUS_CONTENTION : Fld := ⟨Reg.RDN_STATUS, 4, 4⟩
/-- RDN_STATUS.LINE_FAULT [3:3] W1C. -/
def RDN_STATUS_LINE_FAULT : Fld := ⟨Reg.RDN_STATUS, 3, 3⟩
/-- RDN_STATUS.MIR_LATE [2:2] W1C. -/
def RDN_STATUS_MIR_LATE : Fld := ⟨Reg.RDN_STATUS, 2, 2⟩
/-- RDN_STATUS.CYC_RESYNC [1:1] W1C. -/
def RDN_STATUS_CYC_RESYNC : Fld := ⟨Reg.RDN_STATUS, 1, 1⟩
/-- RDN_STATUS.REH_DONE [0:0] W1C. -/
def RDN_STATUS_REH_DONE : Fld := ⟨Reg.RDN_STATUS, 0, 0⟩
/-- RDN_FIT.HOLDOFF_LEFT [31:16] RO. -/
def RDN_FIT_HOLDOFF_LEFT : Fld := ⟨Reg.RDN_FIT, 31, 16⟩
/-- RDN_FIT.WAIVED [8:8] RO. -/
def RDN_FIT_WAIVED : Fld := ⟨Reg.RDN_FIT, 8, 8⟩
/-- RDN_FIT.FAIL [7:0] RO. -/
def RDN_FIT_FAIL : Fld := ⟨Reg.RDN_FIT, 7, 0⟩
/-- RDN_TRACK.TRACK_RUN [31:16] RO. -/
def RDN_TRACK_TRACK_RUN : Fld := ⟨Reg.RDN_TRACK, 31, 16⟩
/-- RDN_TRACK.MISS_RUN [15:8] RO. -/
def RDN_TRACK_MISS_RUN : Fld := ⟨Reg.RDN_TRACK, 15, 8⟩
/-- RDN_TRACK.FRAME_GAP [7:0] RO. -/
def RDN_TRACK_FRAME_GAP : Fld := ⟨Reg.RDN_TRACK, 7, 0⟩
/-- RDN_CMP_CFG.CMP_LIMIT [31:28] RW. -/
def RDN_CMP_CFG_CMP_LIMIT : Fld := ⟨Reg.RDN_CMP_CFG, 31, 28⟩
/-- RDN_CMP_CFG.CMP_ANG [27:20] RW. -/
def RDN_CMP_CFG_CMP_ANG : Fld := ⟨Reg.RDN_CMP_CFG, 27, 20⟩
/-- RDN_CMP_CFG.CMP_THR [19:12] RW. -/
def RDN_CMP_CFG_CMP_THR : Fld := ⟨Reg.RDN_CMP_CFG, 19, 12⟩
/-- RDN_CMP_CFG.CMP_PRG [10:0] RW. -/
def RDN_CMP_CFG_CMP_PRG : Fld := ⟨Reg.RDN_CMP_CFG, 10, 0⟩
/-- RDN_PARTNER0.RSTATE [31:28] RO. -/
def RDN_PARTNER0_RSTATE : Fld := ⟨Reg.RDN_PARTNER0, 31, 28⟩
/-- RDN_PARTNER0.GSTATE [27:24] RO. -/
def RDN_PARTNER0_GSTATE : Fld := ⟨Reg.RDN_PARTNER0, 27, 24⟩
/-- RDN_PARTNER0.FIT [23:23] RO. -/
def RDN_PARTNER0_FIT : Fld := ⟨Reg.RDN_PARTNER0, 23, 23⟩
/-- RDN_PARTNER0.REVERT_REQ [22:22] RO. -/
def RDN_PARTNER0_REVERT_REQ : Fld := ⟨Reg.RDN_PARTNER0, 22, 22⟩
/-- RDN_PARTNER0.AGE [15:0] RO. -/
def RDN_PARTNER0_AGE : Fld := ⟨Reg.RDN_PARTNER0, 15, 0⟩
/-- RDN_PARTNER1.RSTATE [31:28] RO. -/
def RDN_PARTNER1_RSTATE : Fld := ⟨Reg.RDN_PARTNER1, 31, 28⟩
/-- RDN_PARTNER1.GSTATE [27:24] RO. -/
def RDN_PARTNER1_GSTATE : Fld := ⟨Reg.RDN_PARTNER1, 27, 24⟩
/-- RDN_PARTNER1.FIT [23:23] RO. -/
def RDN_PARTNER1_FIT : Fld := ⟨Reg.RDN_PARTNER1, 23, 23⟩
/-- RDN_PARTNER1.REVERT_REQ [22:22] RO. -/
def RDN_PARTNER1_REVERT_REQ : Fld := ⟨Reg.RDN_PARTNER1, 22, 22⟩
/-- RDN_PARTNER1.AGE [15:0] RO. -/
def RDN_PARTNER1_AGE : Fld := ⟨Reg.RDN_PARTNER1, 15, 0⟩
/-- RDN_EPOCH.CFG_EPOCH [31:0] RO. -/
def RDN_EPOCH_CFG_EPOCH : Fld := ⟨Reg.RDN_EPOCH, 31, 0⟩
/-- RDN_LAST_LO.CYC [31:0] RO. -/
def RDN_LAST_LO_CYC : Fld := ⟨Reg.RDN_LAST_LO, 31, 0⟩
/-- RDN_LAST_HI.CYC [31:0] RO. -/
def RDN_LAST_HI_CYC : Fld := ⟨Reg.RDN_LAST_HI, 31, 0⟩
/-- RDN_LAST_INFO.KIND [31:28] RO. -/
def RDN_LAST_INFO_KIND : Fld := ⟨Reg.RDN_LAST_INFO, 31, 28⟩
/-- RDN_LAST_INFO.PREV_RANK [27:26] RO. -/
def RDN_LAST_INFO_PREV_RANK : Fld := ⟨Reg.RDN_LAST_INFO, 27, 26⟩
/-- RDN_LAST_INFO.GAP [7:0] RO. -/
def RDN_LAST_INFO_GAP : Fld := ⟨Reg.RDN_LAST_INFO, 7, 0⟩
/-- RDN_REH_CYC_LO.REH_CYC [31:0] RW. -/
def RDN_REH_CYC_LO_REH_CYC : Fld := ⟨Reg.RDN_REH_CYC_LO, 31, 0⟩
/-- RDN_REH_CYC_HI.REH_CYC [31:0] RW. -/
def RDN_REH_CYC_HI_REH_CYC : Fld := ⟨Reg.RDN_REH_CYC_HI, 31, 0⟩
/-- RDN_REH_STATUS.RESULT [31:28] RO. -/
def RDN_REH_STATUS_RESULT : Fld := ⟨Reg.RDN_REH_STATUS, 31, 28⟩
/-- RDN_REH_STATUS.FRAMES [5:5] RO. -/
def RDN_REH_STATUS_FRAMES : Fld := ⟨Reg.RDN_REH_STATUS, 5, 5⟩
/-- RDN_REH_STATUS.SEEN1 [4:4] RO. -/
def RDN_REH_STATUS_SEEN1 : Fld := ⟨Reg.RDN_REH_STATUS, 4, 4⟩
/-- RDN_REH_STATUS.SEEN0 [3:3] RO. -/
def RDN_REH_STATUS_SEEN0 : Fld := ⟨Reg.RDN_REH_STATUS, 3, 3⟩
/-- RDN_REH_STATUS.READBACK [2:2] RO. -/
def RDN_REH_STATUS_READBACK : Fld := ⟨Reg.RDN_REH_STATUS, 2, 2⟩
/-- RDN_REH_STATUS.CLAIM_EN [1:1] RO. -/
def RDN_REH_STATUS_CLAIM_EN : Fld := ⟨Reg.RDN_REH_STATUS, 1, 1⟩
/-- RDN_REH_STATUS.FIT [0:0] RO. -/
def RDN_REH_STATUS_FIT : Fld := ⟨Reg.RDN_REH_STATUS, 0, 0⟩
/-- RDN_CNT.CLAIMS [31:24] RC. -/
def RDN_CNT_CLAIMS : Fld := ⟨Reg.RDN_CNT, 31, 24⟩
/-- RDN_CNT.GAPS [23:16] RC. -/
def RDN_CNT_GAPS : Fld := ⟨Reg.RDN_CNT, 23, 16⟩
/-- RDN_CNT.MISMATCH [15:0] RC. -/
def RDN_CNT_MISMATCH : Fld := ⟨Reg.RDN_CNT, 15, 0⟩
/-- GRD_STATUS.GSTATE [31:28] RO. -/
def GRD_STATUS_GSTATE : Fld := ⟨Reg.GRD_STATUS, 31, 28⟩
/-- GRD_STATUS.IMAGE [27:26] RO. -/
def GRD_STATUS_IMAGE : Fld := ⟨Reg.GRD_STATUS, 27, 26⟩
/-- GRD_STATUS.CLAIM_EN [25:25] RO. -/
def GRD_STATUS_CLAIM_EN : Fld := ⟨Reg.GRD_STATUS, 25, 25⟩
/-- GRD_STATUS.HOLD [24:24] RO. -/
def GRD_STATUS_HOLD : Fld := ⟨Reg.GRD_STATUS, 24, 24⟩
/-- GRD_STATUS.HOLD0_FB [23:23] RO. -/
def GRD_STATUS_HOLD0_FB : Fld := ⟨Reg.GRD_STATUS, 23, 23⟩
/-- GRD_STATUS.HOLD1_FB [22:22] RO. -/
def GRD_STATUS_HOLD1_FB : Fld := ⟨Reg.GRD_STATUS, 22, 22⟩
/-- GRD_STATUS.EDS_ACT [21:21] RO. -/
def GRD_STATUS_EDS_ACT : Fld := ⟨Reg.GRD_STATUS, 21, 21⟩
/-- GRD_STATUS.GT_ACT [20:20] RO. -/
def GRD_STATUS_GT_ACT : Fld := ⟨Reg.GRD_STATUS, 20, 20⟩
/-- GRD_STATUS.RST_ACT [19:19] RO. -/
def GRD_STATUS_RST_ACT : Fld := ⟨Reg.GRD_STATUS, 19, 19⟩
/-- GRD_STATUS.WH_RUN [18:16] RO. -/
def GRD_STATUS_WH_RUN : Fld := ⟨Reg.GRD_STATUS, 18, 16⟩
/-- GRD_STATUS.DEG_LEFT [11:0] RO. -/
def GRD_STATUS_DEG_LEFT : Fld := ⟨Reg.GRD_STATUS, 11, 0⟩
/-- GRD_CAUSE.FIRST [31:28] RO. -/
def GRD_CAUSE_FIRST : Fld := ⟨Reg.GRD_CAUSE, 31, 28⟩
/-- GRD_CAUSE.CAUSE [10:0] RO. -/
def GRD_CAUSE_CAUSE : Fld := ⟨Reg.GRD_CAUSE, 10, 0⟩
/-- GRD_WH.CYC_LO [31:24] RO. -/
def GRD_WH_CYC_LO : Fld := ⟨Reg.GRD_WH, 31, 24⟩
/-- GRD_WH.THR [23:19] RO. -/
def GRD_WH_THR : Fld := ⟨Reg.GRD_WH, 23, 19⟩
/-- GRD_WH.WHY [15:8] RO. -/
def GRD_WH_WHY : Fld := ⟨Reg.GRD_WH, 15, 8⟩
/-- GRD_WH.WCHK [7:4] RO. -/
def GRD_WH_WCHK : Fld := ⟨Reg.GRD_WH, 7, 4⟩
/-- GRD_DEG.SUPPLY [3:3] RO. -/
def GRD_DEG_SUPPLY : Fld := ⟨Reg.GRD_DEG, 3, 3⟩
/-- GRD_DEG.CKBKP [2:2] RO. -/
def GRD_DEG_CKBKP : Fld := ⟨Reg.GRD_DEG, 2, 2⟩
/-- GRD_DEG.HOLD_FB [1:1] RO. -/
def GRD_DEG_HOLD_FB : Fld := ⟨Reg.GRD_DEG, 1, 1⟩
/-- GRD_DEG.BANK [0:0] RO. -/
def GRD_DEG_BANK : Fld := ⟨Reg.GRD_DEG, 0, 0⟩
/-- GRD_CV.CV [31:0] RO. -/
def GRD_CV_CV : Fld := ⟨Reg.GRD_CV, 31, 0⟩
/-- GRD_IMAGE_ID.IMAGE_ID [31:0] RO. -/
def GRD_IMAGE_ID_IMAGE_ID : Fld := ⟨Reg.GRD_IMAGE_ID, 31, 0⟩
/-- GRD_CNT.WITHHELD [31:16] RO. -/
def GRD_CNT_WITHHELD : Fld := ⟨Reg.GRD_CNT, 31, 16⟩
/-- GRD_CNT.TRIPS [15:0] RO. -/
def GRD_CNT_TRIPS : Fld := ⟨Reg.GRD_CNT, 15, 0⟩
/-- GRD_BIST.DONE [31:31] RO. -/
def GRD_BIST_DONE : Fld := ⟨Reg.GRD_BIST, 31, 31⟩
/-- GRD_BIST.PASS [30:30] RO. -/
def GRD_BIST_PASS : Fld := ⟨Reg.GRD_BIST, 30, 30⟩
/-- GRD_BIST.FAIL [7:0] RO. -/
def GRD_BIST_FAIL : Fld := ⟨Reg.GRD_BIST, 7, 0⟩
/-- GRD_HB.HB [31:0] RO. -/
def GRD_HB_HB : Fld := ⟨Reg.GRD_HB, 31, 0⟩
/-- GRD_REL_CYC.CYC_LO [31:0] RO. -/
def GRD_REL_CYC_CYC_LO : Fld := ⟨Reg.GRD_REL_CYC, 31, 0⟩
/-- XL_STATUS.WRAP [23:20] RO. -/
def XL_STATUS_WRAP : Fld := ⟨Reg.XL_STATUS, 23, 20⟩
/-- XL_STATUS.LINK [19:16] RO. -/
def XL_STATUS_LINK : Fld := ⟨Reg.XL_STATUS, 19, 16⟩
/-- XL_STATUS.LOST_ANY [7:7] RO. -/
def XL_STATUS_LOST_ANY : Fld := ⟨Reg.XL_STATUS, 7, 7⟩
/-- XL_STATUS.DUP_ANY [6:6] RO. -/
def XL_STATUS_DUP_ANY : Fld := ⟨Reg.XL_STATUS, 6, 6⟩
/-- XL_STATUS.LOOP_OVER [5:5] W1C. -/
def XL_STATUS_LOOP_OVER : Fld := ⟨Reg.XL_STATUS, 5, 5⟩
/-- XL_STATUS.WITHDRAWN [4:4] W1C. -/
def XL_STATUS_WITHDRAWN : Fld := ⟨Reg.XL_STATUS, 4, 4⟩
/-- XL_STATUS.CFG_REFUSED [3:2] RO. -/
def XL_STATUS_CFG_REFUSED : Fld := ⟨Reg.XL_STATUS, 3, 2⟩
/-- XL_STATUS.RUN [1:0] RO. -/
def XL_STATUS_RUN : Fld := ⟨Reg.XL_STATUS, 1, 0⟩
/-- XL_RING0_CFG.SEGMENT [31:28] RO. -/
def XL_RING0_CFG_SEGMENT : Fld := ⟨Reg.XL_RING0_CFG, 31, 28⟩
/-- XL_RING0_CFG.PHY [27:26] RO. -/
def XL_RING0_CFG_PHY : Fld := ⟨Reg.XL_RING0_CFG, 27, 26⟩
/-- XL_RING0_CFG.HOLD_LIMIT [23:16] RO. -/
def XL_RING0_CFG_HOLD_LIMIT : Fld := ⟨Reg.XL_RING0_CFG, 23, 16⟩
/-- XL_RING0_CFG.N_STN [15:8] RO. -/
def XL_RING0_CFG_N_STN : Fld := ⟨Reg.XL_RING0_CFG, 15, 8⟩
/-- XL_RING0_CFG.IN_OFS [7:0] RO. -/
def XL_RING0_CFG_IN_OFS : Fld := ⟨Reg.XL_RING0_CFG, 7, 0⟩
/-- XL_RING1_CFG.SEGMENT [31:28] RO. -/
def XL_RING1_CFG_SEGMENT : Fld := ⟨Reg.XL_RING1_CFG, 31, 28⟩
/-- XL_RING1_CFG.PHY [27:26] RO. -/
def XL_RING1_CFG_PHY : Fld := ⟨Reg.XL_RING1_CFG, 27, 26⟩
/-- XL_RING1_CFG.HOLD_LIMIT [23:16] RO. -/
def XL_RING1_CFG_HOLD_LIMIT : Fld := ⟨Reg.XL_RING1_CFG, 23, 16⟩
/-- XL_RING1_CFG.N_STN [15:8] RO. -/
def XL_RING1_CFG_N_STN : Fld := ⟨Reg.XL_RING1_CFG, 15, 8⟩
/-- XL_RING1_CFG.IN_OFS [7:0] RO. -/
def XL_RING1_CFG_IN_OFS : Fld := ⟨Reg.XL_RING1_CFG, 7, 0⟩
/-- XL_RING0_TIME.LOOP [31:16] RO. -/
def XL_RING0_TIME_LOOP : Fld := ⟨Reg.XL_RING0_TIME, 31, 16⟩
/-- XL_RING0_TIME.STAGGER [15:0] RO. -/
def XL_RING0_TIME_STAGGER : Fld := ⟨Reg.XL_RING0_TIME, 15, 0⟩
/-- XL_RING1_TIME.LOOP [31:16] RO. -/
def XL_RING1_TIME_LOOP : Fld := ⟨Reg.XL_RING1_TIME, 31, 16⟩
/-- XL_RING1_TIME.STAGGER [15:0] RO. -/
def XL_RING1_TIME_STAGGER : Fld := ⟨Reg.XL_RING1_TIME, 15, 0⟩
/-- XL_WD.WD_LIMIT [31:16] RO. -/
def XL_WD_WD_LIMIT : Fld := ⟨Reg.XL_WD, 31, 16⟩
/-- XL_WD.WD_LEAD [15:0] RO. -/
def XL_WD_WD_LEAD : Fld := ⟨Reg.XL_WD, 15, 0⟩
/-- XL_CNT0.FCS_ERR [31:16] RC. -/
def XL_CNT0_FCS_ERR : Fld := ⟨Reg.XL_CNT0, 31, 16⟩
/-- XL_CNT0.FOREIGN [15:8] RC. -/
def XL_CNT0_FOREIGN : Fld := ⟨Reg.XL_CNT0, 15, 8⟩
/-- XL_CNT0.WITHDRAWS [7:0] RC. -/
def XL_CNT0_WITHDRAWS : Fld := ⟨Reg.XL_CNT0, 7, 0⟩
/-- XL_CNT1.FCS_ERR [31:16] RC. -/
def XL_CNT1_FCS_ERR : Fld := ⟨Reg.XL_CNT1, 31, 16⟩
/-- XL_CNT1.FOREIGN [15:8] RC. -/
def XL_CNT1_FOREIGN : Fld := ⟨Reg.XL_CNT1, 15, 8⟩
/-- XL_CNT1.WITHDRAWS [7:0] RC. -/
def XL_CNT1_WITHDRAWS : Fld := ⟨Reg.XL_CNT1, 7, 0⟩
/-- XL_UID_LO.UID [31:0] RO. -/
def XL_UID_LO_UID : Fld := ⟨Reg.XL_UID_LO, 31, 0⟩
/-- XL_UID_HI.UID [31:0] RO. -/
def XL_UID_HI_UID : Fld := ⟨Reg.XL_UID_HI, 31, 0⟩
/-- XL_STN_CMD.GO [31:31] W1S. -/
def XL_STN_CMD_GO : Fld := ⟨Reg.XL_STN_CMD, 31, 31⟩
/-- XL_STN_CMD.RESULT [30:28] RO. -/
def XL_STN_CMD_RESULT : Fld := ⟨Reg.XL_STN_CMD, 30, 28⟩
/-- XL_STN_CMD.OP [27:24] RW. -/
def XL_STN_CMD_OP : Fld := ⟨Reg.XL_STN_CMD, 27, 24⟩
/-- XL_STN_CMD.RING [8:8] RW. -/
def XL_STN_CMD_RING : Fld := ⟨Reg.XL_STN_CMD, 8, 8⟩
/-- XL_STN_CMD.STN [7:0] RW. -/
def XL_STN_CMD_STN : Fld := ⟨Reg.XL_STN_CMD, 7, 0⟩
/-- XL_DUP.NODE [11:0] RO. -/
def XL_DUP_NODE : Fld := ⟨Reg.XL_DUP, 11, 0⟩
/-- XL_SELF.SSTATE [31:28] RO. -/
def XL_SELF_SSTATE : Fld := ⟨Reg.XL_SELF, 31, 28⟩
/-- XL_SELF.SEGMENT [27:24] RO. -/
def XL_SELF_SEGMENT : Fld := ⟨Reg.XL_SELF, 27, 24⟩
/-- XL_SELF.STN [23:16] RO. -/
def XL_SELF_STN : Fld := ⟨Reg.XL_SELF, 23, 16⟩
/-- XL_SELF.HOLD_CNT [15:8] RO. -/
def XL_SELF_HOLD_CNT : Fld := ⟨Reg.XL_SELF, 15, 8⟩
/-- XL_SELF.PARAM_MISMATCH [0:0] RO. -/
def XL_SELF_PARAM_MISMATCH : Fld := ⟨Reg.XL_SELF, 0, 0⟩
/-- XL_STN_STATUS.VIEW [31:28] RO. -/
def XL_STN_STATUS_VIEW : Fld := ⟨Reg.XL_STN_STATUS, 31, 28⟩
/-- XL_STN_STATUS.SSTATE [27:24] RO. -/
def XL_STN_STATUS_SSTATE : Fld := ⟨Reg.XL_STN_STATUS, 27, 24⟩
/-- XL_STN_STATUS.IN_OK [23:23] RO. -/
def XL_STN_STATUS_IN_OK : Fld := ⟨Reg.XL_STN_STATUS, 23, 23⟩
/-- XL_STN_STATUS.E_SEEN [22:22] RO. -/
def XL_STN_STATUS_E_SEEN : Fld := ⟨Reg.XL_STN_STATUS, 22, 22⟩
/-- XL_STN_STATUS.W_SEEN [21:21] RO. -/
def XL_STN_STATUS_W_SEEN : Fld := ⟨Reg.XL_STN_STATUS, 21, 21⟩
/-- XL_STN_STATUS.ACK [20:20] RO. -/
def XL_STN_STATUS_ACK : Fld := ⟨Reg.XL_STN_STATUS, 20, 20⟩
/-- XL_STN_STATUS.UID_CHANGED [19:19] RO. -/
def XL_STN_STATUS_UID_CHANGED : Fld := ⟨Reg.XL_STN_STATUS, 19, 19⟩
/-- XL_STN_STATUS.HOLD_CNT [15:8] RO. -/
def XL_STN_STATUS_HOLD_CNT : Fld := ⟨Reg.XL_STN_STATUS, 15, 8⟩
/-- XL_STN_STATUS.MISS_RUN [7:0] RO. -/
def XL_STN_STATUS_MISS_RUN : Fld := ⟨Reg.XL_STN_STATUS, 7, 0⟩
/-- PTP_CTRL.SLEW_RATE [12:8] RW. -/
def PTP_CTRL_SLEW_RATE : Fld := ⟨Reg.PTP_CTRL, 12, 8⟩
/-- PTP_CTRL.STEP [1:1] W1S. -/
def PTP_CTRL_STEP : Fld := ⟨Reg.PTP_CTRL, 1, 1⟩
/-- PTP_CTRL.SLEW_GO [0:0] W1S. -/
def PTP_CTRL_SLEW_GO : Fld := ⟨Reg.PTP_CTRL, 0, 0⟩
/-- PTP_STATUS.TB_STATE [31:30] RO. -/
def PTP_STATUS_TB_STATE : Fld := ⟨Reg.PTP_STATUS, 31, 30⟩
/-- PTP_STATUS.EXT_VALID [29:29] RO. -/
def PTP_STATUS_EXT_VALID : Fld := ⟨Reg.PTP_STATUS, 29, 29⟩
/-- PTP_STATUS.RATE_LIMITING [28:28] RO. -/
def PTP_STATUS_RATE_LIMITING : Fld := ⟨Reg.PTP_STATUS, 28, 28⟩
/-- PTP_STATUS.SLEWING [27:27] RO. -/
def PTP_STATUS_SLEWING : Fld := ⟨Reg.PTP_STATUS, 27, 27⟩
/-- PTP_STATUS.STEP_REFUSED [3:3] W1C. -/
def PTP_STATUS_STEP_REFUSED : Fld := ⟨Reg.PTP_STATUS, 3, 3⟩
/-- PTP_STATUS.TS_LOST [2:2] W1C. -/
def PTP_STATUS_TS_LOST : Fld := ⟨Reg.PTP_STATUS, 2, 2⟩
/-- PTP_STATUS.TS_EXPIRED [1:1] W1C. -/
def PTP_STATUS_TS_EXPIRED : Fld := ⟨Reg.PTP_STATUS, 1, 1⟩
/-- PTP_STATUS.STEP_DONE [0:0] W1C. -/
def PTP_STATUS_STEP_DONE : Fld := ⟨Reg.PTP_STATUS, 0, 0⟩
/-- PTP_TIME_NS.TIME [31:0] RO. -/
def PTP_TIME_NS_TIME : Fld := ⟨Reg.PTP_TIME_NS, 31, 0⟩
/-- PTP_TIME_EXT.TIME [31:0] RO. -/
def PTP_TIME_EXT_TIME : Fld := ⟨Reg.PTP_TIME_EXT, 31, 0⟩
/-- PTP_INCR.INCR [31:0] RW. -/
def PTP_INCR_INCR : Fld := ⟨Reg.PTP_INCR, 31, 0⟩
/-- PTP_INCR_EFF.INCR [31:0] RO. -/
def PTP_INCR_EFF_INCR : Fld := ⟨Reg.PTP_INCR_EFF, 31, 0⟩
/-- PTP_SLEW.SLEW [31:0] RW. -/
def PTP_SLEW_SLEW : Fld := ⟨Reg.PTP_SLEW, 31, 0⟩
/-- PTP_SLEW_LEFT.SLEW [31:0] RO. -/
def PTP_SLEW_LEFT_SLEW : Fld := ⟨Reg.PTP_SLEW_LEFT, 31, 0⟩
/-- PTP_STEP_LO.STEP [31:0] RW. -/
def PTP_STEP_LO_STEP : Fld := ⟨Reg.PTP_STEP_LO, 31, 0⟩
/-- PTP_STEP_HI.STEP [31:0] RW. -/
def PTP_STEP_HI_STEP : Fld := ⟨Reg.PTP_STEP_HI, 31, 0⟩
/-- PTP_TXTS_W0.TS_ID [31:16] RO. -/
def PTP_TXTS_W0_TS_ID : Fld := ⟨Reg.PTP_TXTS_W0, 31, 16⟩
/-- PTP_TXTS_W0.PORT [15:14] RO. -/
def PTP_TXTS_W0_PORT : Fld := ⟨Reg.PTP_TXTS_W0, 15, 14⟩
/-- PTP_TXTS_W0.LOST_BEFORE [13:13] RO. -/
def PTP_TXTS_W0_LOST_BEFORE : Fld := ⟨Reg.PTP_TXTS_W0, 13, 13⟩
/-- PTP_TXTS_W0.VALID [12:12] RO. -/
def PTP_TXTS_W0_VALID : Fld := ⟨Reg.PTP_TXTS_W0, 12, 12⟩
/-- PTP_TXTS_W1.TS [31:0] RC. -/
def PTP_TXTS_W1_TS : Fld := ⟨Reg.PTP_TXTS_W1, 31, 0⟩
/-- PTP_TXTS_CNT.LEVEL [23:16] RO. -/
def PTP_TXTS_CNT_LEVEL : Fld := ⟨Reg.PTP_TXTS_CNT, 23, 16⟩
/-- PTP_TXTS_CNT.LOST [15:8] RC. -/
def PTP_TXTS_CNT_LOST : Fld := ⟨Reg.PTP_TXTS_CNT, 15, 8⟩
/-- PTP_TXTS_CNT.EXPIRED [7:0] RC. -/
def PTP_TXTS_CNT_EXPIRED : Fld := ⟨Reg.PTP_TXTS_CNT, 7, 0⟩
/-- ETH_LQ_CANCEL.GO [31:31] W1S. -/
def ETH_LQ_CANCEL_GO : Fld := ⟨Reg.ETH_LQ_CANCEL, 31, 31⟩
/-- ETH_LQ_CANCEL.RESULT [30:28] RO. -/
def ETH_LQ_CANCEL_RESULT : Fld := ⟨Reg.ETH_LQ_CANCEL, 30, 28⟩
/-- ETH_LQ_CANCEL.PORT [9:8] RW. -/
def ETH_LQ_CANCEL_PORT : Fld := ⟨Reg.ETH_LQ_CANCEL, 9, 8⟩
/-- ETH_LQ_CANCEL.INDEX [7:0] RW. -/
def ETH_LQ_CANCEL_INDEX : Fld := ⟨Reg.ETH_LQ_CANCEL, 7, 0⟩
/-- ETH_F450_ADDR.ADDR [31:0] RW. -/
def ETH_F450_ADDR_ADDR : Fld := ⟨Reg.ETH_F450_ADDR, 31, 0⟩
/-- ETH_F450_CFG.EN [31:31] RW. -/
def ETH_F450_CFG_EN : Fld := ⟨Reg.ETH_F450_CFG, 31, 31⟩
/-- ETH_F450_CFG.PORTS [27:24] RW. -/
def ETH_F450_CFG_PORTS : Fld := ⟨Reg.ETH_F450_CFG, 27, 24⟩
/-- ETH_F450_CFG.UDP [15:0] RW. -/
def ETH_F450_CFG_UDP : Fld := ⟨Reg.ETH_F450_CFG, 15, 0⟩
/-- ETH_Pp_CFG.AN_EN [7:7] RW. -/
def ETH_Pp_CFG_AN_EN : Fld := ⟨Reg.ETH_Pp_CFG, 7, 7⟩
/-- ETH_Pp_CFG.PROMISC_MC [6:6] RW. -/
def ETH_Pp_CFG_PROMISC_MC : Fld := ⟨Reg.ETH_Pp_CFG, 6, 6⟩
/-- ETH_Pp_CFG.PTP_EN [5:5] RW. -/
def ETH_Pp_CFG_PTP_EN : Fld := ⟨Reg.ETH_Pp_CFG, 5, 5⟩
/-- ETH_Pp_CFG.TX_EN [4:4] RW. -/
def ETH_Pp_CFG_TX_EN : Fld := ⟨Reg.ETH_Pp_CFG, 4, 4⟩
/-- ETH_Pp_CFG.RX_EN [3:3] RW. -/
def ETH_Pp_CFG_RX_EN : Fld := ⟨Reg.ETH_Pp_CFG, 3, 3⟩
/-- ETH_Pp_CFG.MODE [2:0] RO. -/
def ETH_Pp_CFG_MODE : Fld := ⟨Reg.ETH_Pp_CFG, 2, 0⟩
/-- ETH_Pp_STATUS.SPEED [3:2] RO. -/
def ETH_Pp_STATUS_SPEED : Fld := ⟨Reg.ETH_Pp_STATUS, 3, 2⟩
/-- ETH_Pp_STATUS.LINK_CHG [1:1] W1C. -/
def ETH_Pp_STATUS_LINK_CHG : Fld := ⟨Reg.ETH_Pp_STATUS, 1, 1⟩
/-- ETH_Pp_STATUS.LINK [0:0] RO. -/
def ETH_Pp_STATUS_LINK : Fld := ⟨Reg.ETH_Pp_STATUS, 0, 0⟩
/-- ETH_Pp_LAT.EGRESS_LAT [27:16] RW. -/
def ETH_Pp_LAT_EGRESS_LAT : Fld := ⟨Reg.ETH_Pp_LAT, 27, 16⟩
/-- ETH_Pp_LAT.INGRESS_LAT [11:0] RW. -/
def ETH_Pp_LAT_INGRESS_LAT : Fld := ⟨Reg.ETH_Pp_LAT, 11, 0⟩
/-- ETH_Pp_ASYM.ASYM [31:0] RW. -/
def ETH_Pp_ASYM_ASYM : Fld := ⟨Reg.ETH_Pp_ASYM, 31, 0⟩
/-- ETH_Pp_MAC_LO.MAC [31:0] RO. -/
def ETH_Pp_MAC_LO_MAC : Fld := ⟨Reg.ETH_Pp_MAC_LO, 31, 0⟩
/-- ETH_Pp_MAC_HI.MAC [31:0] RO. -/
def ETH_Pp_MAC_HI_MAC : Fld := ⟨Reg.ETH_Pp_MAC_HI, 31, 0⟩
/-- ETH_Pp_RXBASE.BASE [31:0] RW. -/
def ETH_Pp_RXBASE_BASE : Fld := ⟨Reg.ETH_Pp_RXBASE, 31, 0⟩
/-- ETH_Pp_TXBASE.BASE [31:0] RW. -/
def ETH_Pp_TXBASE_BASE : Fld := ⟨Reg.ETH_Pp_TXBASE, 31, 0⟩
/-- ETH_Pp_LQBASE.BASE [31:0] RW. -/
def ETH_Pp_LQBASE_BASE : Fld := ⟨Reg.ETH_Pp_LQBASE, 31, 0⟩
/-- ETH_Pp_PROD.LQ [23:16] RW. -/
def ETH_Pp_PROD_LQ : Fld := ⟨Reg.ETH_Pp_PROD, 23, 16⟩
/-- ETH_Pp_PROD.TX [15:8] RW. -/
def ETH_Pp_PROD_TX : Fld := ⟨Reg.ETH_Pp_PROD, 15, 8⟩
/-- ETH_Pp_PROD.RX [7:0] RW. -/
def ETH_Pp_PROD_RX : Fld := ⟨Reg.ETH_Pp_PROD, 7, 0⟩
/-- ETH_Pp_CONS.LQ [23:16] RO. -/
def ETH_Pp_CONS_LQ : Fld := ⟨Reg.ETH_Pp_CONS, 23, 16⟩
/-- ETH_Pp_CONS.TX [15:8] RO. -/
def ETH_Pp_CONS_TX : Fld := ⟨Reg.ETH_Pp_CONS, 15, 8⟩
/-- ETH_Pp_CONS.RX [7:0] RO. -/
def ETH_Pp_CONS_RX : Fld := ⟨Reg.ETH_Pp_CONS, 7, 0⟩
/-- ETH_Pp_CNT.FCS_ERR [31:24] RC. -/
def ETH_Pp_CNT_FCS_ERR : Fld := ⟨Reg.ETH_Pp_CNT, 31, 24⟩
/-- ETH_Pp_CNT.OVERSIZE [23:16] RC. -/
def ETH_Pp_CNT_OVERSIZE : Fld := ⟨Reg.ETH_Pp_CNT, 23, 16⟩
/-- ETH_Pp_CNT.BAD_450 [15:8] RC. -/
def ETH_Pp_CNT_BAD_450 : Fld := ⟨Reg.ETH_Pp_CNT, 15, 8⟩
/-- ETH_Pp_CNT.RX_OVR [7:0] RC. -/
def ETH_Pp_CNT_RX_OVR : Fld := ⟨Reg.ETH_Pp_CNT, 7, 0⟩
/-- MER_CTRL.REL_EVI0 [4:4] RW. -/
def MER_CTRL_REL_EVI0 : Fld := ⟨Reg.MER_CTRL, 4, 4⟩
/-- MER_CTRL.COMP_EN [3:3] RW. -/
def MER_CTRL_COMP_EN : Fld := ⟨Reg.MER_CTRL, 3, 3⟩
/-- MER_CTRL.SHIFT_GO [2:2] W1S. -/
def MER_CTRL_SHIFT_GO : Fld := ⟨Reg.MER_CTRL, 2, 2⟩
/-- MER_CTRL.HALT [0:0] RW. -/
def MER_CTRL_HALT : Fld := ⟨Reg.MER_CTRL, 0, 0⟩
/-- MER_STATUS.WAKE_SRC [31:29] RO. -/
def MER_STATUS_WAKE_SRC : Fld := ⟨Reg.MER_STATUS, 31, 29⟩
/-- MER_STATUS.LAST_REASON [28:25] RO. -/
def MER_STATUS_LAST_REASON : Fld := ⟨Reg.MER_STATUS, 28, 25⟩
/-- MER_STATUS.PWR_IGNORED [11:11] W1C. -/
def MER_STATUS_PWR_IGNORED : Fld := ⟨Reg.MER_STATUS, 11, 11⟩
/-- MER_STATUS.CMD_REFUSED [10:10] W1C. -/
def MER_STATUS_CMD_REFUSED : Fld := ⟨Reg.MER_STATUS, 10, 10⟩
/-- MER_STATUS.FAST_FALL [9:9] W1C. -/
def MER_STATUS_FAST_FALL : Fld := ⟨Reg.MER_STATUS, 9, 9⟩
/-- MER_STATUS.ROLLOVER [8:8] W1C. -/
def MER_STATUS_ROLLOVER : Fld := ⟨Reg.MER_STATUS, 8, 8⟩
/-- MER_STATUS.COMP_SAT [7:7] RO. -/
def MER_STATUS_COMP_SAT : Fld := ⟨Reg.MER_STATUS, 7, 7⟩
/-- MER_STATUS.SHIFT_CANCELLED [6:6] W1C. -/
def MER_STATUS_SHIFT_CANCELLED : Fld := ⟨Reg.MER_STATUS, 6, 6⟩
/-- MER_STATUS.SHIFT_PEND [5:5] RO. -/
def MER_STATUS_SHIFT_PEND : Fld := ⟨Reg.MER_STATUS, 5, 5⟩
/-- MER_STATUS.WR_REFUSED [4:4] W1C. -/
def MER_STATUS_WR_REFUSED : Fld := ⟨Reg.MER_STATUS, 4, 4⟩
/-- MER_STATUS.HALTED [3:3] RO. -/
def MER_STATUS_HALTED : Fld := ⟨Reg.MER_STATUS, 3, 3⟩
/-- MER_STATUS.BAT_LOW [2:2] RO. -/
def MER_STATUS_BAT_LOW : Fld := ⟨Reg.MER_STATUS, 2, 2⟩
/-- MER_STATUS.RET_VALID [1:1] RO. -/
def MER_STATUS_RET_VALID : Fld := ⟨Reg.MER_STATUS, 1, 1⟩
/-- MER_STATUS.TIME_LOST [0:0] W1C. -/
def MER_STATUS_TIME_LOST : Fld := ⟨Reg.MER_STATUS, 0, 0⟩
/-- MER_SUBSEC.SUBSEC [14:0] RW. -/
def MER_SUBSEC_SUBSEC : Fld := ⟨Reg.MER_SUBSEC, 14, 0⟩
/-- MER_TIME.HOUR [20:16] RW. -/
def MER_TIME_HOUR : Fld := ⟨Reg.MER_TIME, 20, 16⟩
/-- MER_TIME.MIN [13:8] RW. -/
def MER_TIME_MIN : Fld := ⟨Reg.MER_TIME, 13, 8⟩
/-- MER_TIME.SEC [5:0] RW. -/
def MER_TIME_SEC : Fld := ⟨Reg.MER_TIME, 5, 0⟩
/-- MER_DATE.YEAR [23:16] RW. -/
def MER_DATE_YEAR : Fld := ⟨Reg.MER_DATE, 23, 16⟩
/-- MER_DATE.WEEKDAY [14:12] RO. -/
def MER_DATE_WEEKDAY : Fld := ⟨Reg.MER_DATE, 14, 12⟩
/-- MER_DATE.MONTH [11:8] RW. -/
def MER_DATE_MONTH : Fld := ⟨Reg.MER_DATE, 11, 8⟩
/-- MER_DATE.DAY [4:0] RW. -/
def MER_DATE_DAY : Fld := ⟨Reg.MER_DATE, 4, 0⟩
/-- MER_SHIFT.TICKS [16:0] RW. -/
def MER_SHIFT_TICKS : Fld := ⟨Reg.MER_SHIFT, 16, 0⟩
/-- MER_ALARM.EN [31:31] RW. -/
def MER_ALARM_EN : Fld := ⟨Reg.MER_ALARM, 31, 31⟩
/-- MER_ALARM.M_DAY [30:30] RW. -/
def MER_ALARM_M_DAY : Fld := ⟨Reg.MER_ALARM, 30, 30⟩
/-- MER_ALARM.M_HOUR [29:29] RW. -/
def MER_ALARM_M_HOUR : Fld := ⟨Reg.MER_ALARM, 29, 29⟩
/-- MER_ALARM.M_MIN [28:28] RW. -/
def MER_ALARM_M_MIN : Fld := ⟨Reg.MER_ALARM, 28, 28⟩
/-- MER_ALARM.M_SEC [27:27] RW. -/
def MER_ALARM_M_SEC : Fld := ⟨Reg.MER_ALARM, 27, 27⟩
/-- MER_ALARM.FLAG [26:26] W1C. -/
def MER_ALARM_FLAG : Fld := ⟨Reg.MER_ALARM, 26, 26⟩
/-- MER_ALARM.DAY [25:21] RW. -/
def MER_ALARM_DAY : Fld := ⟨Reg.MER_ALARM, 25, 21⟩
/-- MER_ALARM.HOUR [20:16] RW. -/
def MER_ALARM_HOUR : Fld := ⟨Reg.MER_ALARM, 20, 16⟩
/-- MER_ALARM.MIN [13:8] RW. -/
def MER_ALARM_MIN : Fld := ⟨Reg.MER_ALARM, 13, 8⟩
/-- MER_ALARM.SEC [5:0] RW. -/
def MER_ALARM_SEC : Fld := ⟨Reg.MER_ALARM, 5, 0⟩
/-- MER_TEMP.TEMP [31:24] RO. -/
def MER_TEMP_TEMP : Fld := ⟨Reg.MER_TEMP, 31, 24⟩
/-- MER_TEMP.CORR [10:0] RO. -/
def MER_TEMP_CORR : Fld := ⟨Reg.MER_TEMP, 10, 0⟩
/-- MER_TAI_UTC.OFS [15:0] RW. -/
def MER_TAI_UTC_OFS : Fld := ⟨Reg.MER_TAI_UTC, 15, 0⟩
/-- MER_PWR.CYCLE [31:31] W1S. -/
def MER_PWR_CYCLE : Fld := ⟨Reg.MER_PWR, 31, 31⟩
/-- MER_PWR.SLEEP [30:30] W1S. -/
def MER_PWR_SLEEP : Fld := ⟨Reg.MER_PWR, 30, 30⟩
/-- MER_PWR.BO_EN [29:29] RW. -/
def MER_PWR_BO_EN : Fld := ⟨Reg.MER_PWR, 29, 29⟩
/-- MER_PWR.WAKE_ALARM [28:28] RW. -/
def MER_PWR_WAKE_ALARM : Fld := ⟨Reg.MER_PWR, 28, 28⟩
/-- MER_PWR.WAKE_EVI [27:24] RW. -/
def MER_PWR_WAKE_EVI : Fld := ⟨Reg.MER_PWR, 27, 24⟩
/-- MER_PWR.REASON [23:20] RW. -/
def MER_PWR_REASON : Fld := ⟨Reg.MER_PWR, 23, 20⟩
/-- MER_PWR.OFF_TIME [7:0] RW. -/
def MER_PWR_OFF_TIME : Fld := ⟨Reg.MER_PWR, 7, 0⟩
/-- MER_EVI_CFG.FILT0 [7:4] RW. -/
def MER_EVI_CFG_FILT0 : Fld := ⟨Reg.MER_EVI_CFG, 7, 4⟩
/-- MER_EVI_CFG.FILT1 [15:12] RW. -/
def MER_EVI_CFG_FILT1 : Fld := ⟨Reg.MER_EVI_CFG, 15, 12⟩
/-- MER_EVI_CFG.FILT2 [23:20] RW. -/
def MER_EVI_CFG_FILT2 : Fld := ⟨Reg.MER_EVI_CFG, 23, 20⟩
/-- MER_EVI_CFG.FILT3 [31:28] RW. -/
def MER_EVI_CFG_FILT3 : Fld := ⟨Reg.MER_EVI_CFG, 31, 28⟩
/-- MER_EVI_CFG.EDGES0 [3:2] RW. -/
def MER_EVI_CFG_EDGES0 : Fld := ⟨Reg.MER_EVI_CFG, 3, 2⟩
/-- MER_EVI_CFG.EDGES1 [11:10] RW. -/
def MER_EVI_CFG_EDGES1 : Fld := ⟨Reg.MER_EVI_CFG, 11, 10⟩
/-- MER_EVI_CFG.EDGES2 [19:18] RW. -/
def MER_EVI_CFG_EDGES2 : Fld := ⟨Reg.MER_EVI_CFG, 19, 18⟩
/-- MER_EVI_CFG.EDGES3 [27:26] RW. -/
def MER_EVI_CFG_EDGES3 : Fld := ⟨Reg.MER_EVI_CFG, 27, 26⟩
/-- MER_EVF0.ENTRY [31:0] RO. -/
def MER_EVF0_ENTRY : Fld := ⟨Reg.MER_EVF0, 31, 0⟩
/-- MER_EVF1.ENTRY [31:0] RO. -/
def MER_EVF1_ENTRY : Fld := ⟨Reg.MER_EVF1, 31, 0⟩
/-- MER_EVF2.DT [31:0] RC. -/
def MER_EVF2_DT : Fld := ⟨Reg.MER_EVF2, 31, 0⟩
/-- MER_EVF_CNT.LOST [15:8] RC. -/
def MER_EVF_CNT_LOST : Fld := ⟨Reg.MER_EVF_CNT, 15, 8⟩
/-- MER_EVF_CNT.LEVEL [5:0] RO. -/
def MER_EVF_CNT_LEVEL : Fld := ⟨Reg.MER_EVF_CNT, 5, 0⟩
/-- MER_SW_TIME.SW [31:0] RO. -/
def MER_SW_TIME_SW : Fld := ⟨Reg.MER_SW_TIME, 31, 0⟩
/-- MER_SW_DATE.SW [31:0] RO. -/
def MER_SW_DATE_SW : Fld := ⟨Reg.MER_SW_DATE, 31, 0⟩
/-- MER_LOCK_CNT.PROTECT [31:16] RC. -/
def MER_LOCK_CNT_PROTECT : Fld := ⟨Reg.MER_LOCK_CNT, 31, 16⟩
/-- MER_LOCK_CNT.LOCKOUT [15:0] RC. -/
def MER_LOCK_CNT_LOCKOUT : Fld := ⟨Reg.MER_LOCK_CNT, 15, 0⟩
/-- MER_TC.PPB [31:0] RW. -/
def MER_TC_PPB : Fld := ⟨Reg.MER_TC, 31, 0⟩
/-- CAN_CTRL.RECOVER [7:7] W1S. -/
def CAN_CTRL_RECOVER : Fld := ⟨Reg.CAN_CTRL, 7, 7⟩
/-- CAN_CTRL.AUTO_BO [6:6] RW. -/
def CAN_CTRL_AUTO_BO : Fld := ⟨Reg.CAN_CTRL, 6, 6⟩
/-- CAN_CTRL.BRS_EN [5:5] RW. -/
def CAN_CTRL_BRS_EN : Fld := ⟨Reg.CAN_CTRL, 5, 5⟩
/-- CAN_CTRL.FD_EN [4:4] RW. -/
def CAN_CTRL_FD_EN : Fld := ⟨Reg.CAN_CTRL, 4, 4⟩
/-- CAN_CTRL.MODE [3:2] RW. -/
def CAN_CTRL_MODE : Fld := ⟨Reg.CAN_CTRL, 3, 2⟩
/-- CAN_CTRL.EN [0:0] RW. -/
def CAN_CTRL_EN : Fld := ⟨Reg.CAN_CTRL, 0, 0⟩
/-- CAN_STATUS.STATE [31:30] RO. -/
def CAN_STATUS_STATE : Fld := ⟨Reg.CAN_STATUS, 31, 30⟩
/-- CAN_STATUS.TEC [23:16] RO. -/
def CAN_STATUS_TEC : Fld := ⟨Reg.CAN_STATUS, 23, 16⟩
/-- CAN_STATUS.REC [15:8] RO. -/
def CAN_STATUS_REC : Fld := ⟨Reg.CAN_STATUS, 15, 8⟩
/-- CAN_STATUS.RECOVERING [7:7] RO. -/
def CAN_STATUS_RECOVERING : Fld := ⟨Reg.CAN_STATUS, 7, 7⟩
/-- CAN_STATUS.LOCK_TMO [6:6] W1C. -/
def CAN_STATUS_LOCK_TMO : Fld := ⟨Reg.CAN_STATUS, 6, 6⟩
/-- CAN_STATUS.CONFLICT [5:5] W1C. -/
def CAN_STATUS_CONFLICT : Fld := ⟨Reg.CAN_STATUS, 5, 5⟩
/-- CAN_STATUS.MSGLOST [4:4] W1C. -/
def CAN_STATUS_MSGLOST : Fld := ⟨Reg.CAN_STATUS, 4, 4⟩
/-- CAN_STATUS.TX_FAIL [3:3] W1C. -/
def CAN_STATUS_TX_FAIL : Fld := ⟨Reg.CAN_STATUS, 3, 3⟩
/-- CAN_STATUS.BUS_OFF_SEEN [2:2] W1C. -/
def CAN_STATUS_BUS_OFF_SEEN : Fld := ⟨Reg.CAN_STATUS, 2, 2⟩
/-- CAN_STATUS.CFG_BAD [1:1] W1C. -/
def CAN_STATUS_CFG_BAD : Fld := ⟨Reg.CAN_STATUS, 1, 1⟩
/-- CAN_NBT.BRP [31:27] RW. -/
def CAN_NBT_BRP : Fld := ⟨Reg.CAN_NBT, 31, 27⟩
/-- CAN_NBT.TSEG1 [23:16] RW. -/
def CAN_NBT_TSEG1 : Fld := ⟨Reg.CAN_NBT, 23, 16⟩
/-- CAN_NBT.TSEG2 [15:9] RW. -/
def CAN_NBT_TSEG2 : Fld := ⟨Reg.CAN_NBT, 15, 9⟩
/-- CAN_NBT.SJW [6:0] RW. -/
def CAN_NBT_SJW : Fld := ⟨Reg.CAN_NBT, 6, 0⟩
/-- CAN_DBT.BRP [31:27] RW. -/
def CAN_DBT_BRP : Fld := ⟨Reg.CAN_DBT, 31, 27⟩
/-- CAN_DBT.TSEG1 [20:16] RW. -/
def CAN_DBT_TSEG1 : Fld := ⟨Reg.CAN_DBT, 20, 16⟩
/-- CAN_DBT.TSEG2 [11:8] RW. -/
def CAN_DBT_TSEG2 : Fld := ⟨Reg.CAN_DBT, 11, 8⟩
/-- CAN_DBT.SJW [3:0] RW. -/
def CAN_DBT_SJW : Fld := ⟨Reg.CAN_DBT, 3, 0⟩
/-- CAN_TDC.TDC_EN [8:8] RW. -/
def CAN_TDC_TDC_EN : Fld := ⟨Reg.CAN_TDC, 8, 8⟩
/-- CAN_TDC.TDCO [7:0] RW. -/
def CAN_TDC_TDCO : Fld := ⟨Reg.CAN_TDC, 7, 0⟩
/-- CAN_TXREQ.REQ [31:0] W1S. -/
def CAN_TXREQ_REQ : Fld := ⟨Reg.CAN_TXREQ, 31, 0⟩
/-- CAN_CANCEL.GO [31:31] W1S. -/
def CAN_CANCEL_GO : Fld := ⟨Reg.CAN_CANCEL, 31, 31⟩
/-- CAN_CANCEL.RESULT [30:28] RO. -/
def CAN_CANCEL_RESULT : Fld := ⟨Reg.CAN_CANCEL, 30, 28⟩
/-- CAN_CANCEL.OBJ [6:0] RW. -/
def CAN_CANCEL_OBJ : Fld := ⟨Reg.CAN_CANCEL, 6, 0⟩
/-- CAN_NEWDAT.NEWDAT [31:0] RO. -/
def CAN_NEWDAT_NEWDAT : Fld := ⟨Reg.CAN_NEWDAT, 31, 0⟩
/-- CAN_CNT.NOMATCH [31:16] RC. -/
def CAN_CNT_NOMATCH : Fld := ⟨Reg.CAN_CNT, 31, 16⟩
/-- CAN_CNT.LOST [15:8] RC. -/
def CAN_CNT_LOST : Fld := ⟨Reg.CAN_CNT, 15, 8⟩
/-- CAN_CNT.BUSOFF [7:0] RC. -/
def CAN_CNT_BUSOFF : Fld := ⟨Reg.CAN_CNT, 7, 0⟩
/-- CAN_OBJ_CFG.DIR [31:30] RW. -/
def CAN_OBJ_CFG_DIR : Fld := ⟨Reg.CAN_OBJ_CFG, 31, 30⟩
/-- CAN_OBJ_CFG.IDE [29:29] RW. -/
def CAN_OBJ_CFG_IDE : Fld := ⟨Reg.CAN_OBJ_CFG, 29, 29⟩
/-- CAN_OBJ_CFG.FDF [28:28] RW. -/
def CAN_OBJ_CFG_FDF : Fld := ⟨Reg.CAN_OBJ_CFG, 28, 28⟩
/-- CAN_OBJ_CFG.BRS [27:27] RW. -/
def CAN_OBJ_CFG_BRS : Fld := ⟨Reg.CAN_OBJ_CFG, 27, 27⟩
/-- CAN_OBJ_CFG.RTR [26:26] RW. -/
def CAN_OBJ_CFG_RTR : Fld := ⟨Reg.CAN_OBJ_CFG, 26, 26⟩
/-- CAN_OBJ_CFG.OVW [25:25] RW. -/
def CAN_OBJ_CFG_OVW : Fld := ⟨Reg.CAN_OBJ_CFG, 25, 25⟩
/-- CAN_OBJ_CFG.LOCK [24:24] RO. -/
def CAN_OBJ_CFG_LOCK : Fld := ⟨Reg.CAN_OBJ_CFG, 24, 24⟩
/-- CAN_OBJ_CFG.NEWDAT [23:23] RO. -/
def CAN_OBJ_CFG_NEWDAT : Fld := ⟨Reg.CAN_OBJ_CFG, 23, 23⟩
/-- CAN_OBJ_CFG.MSGLOST [22:22] W1C. -/
def CAN_OBJ_CFG_MSGLOST : Fld := ⟨Reg.CAN_OBJ_CFG, 22, 22⟩
/-- CAN_OBJ_CFG.ESI [21:21] RO. -/
def CAN_OBJ_CFG_ESI : Fld := ⟨Reg.CAN_OBJ_CFG, 21, 21⟩
/-- CAN_OBJ_CFG.RETRY [20:17] RW. -/
def CAN_OBJ_CFG_RETRY : Fld := ⟨Reg.CAN_OBJ_CFG, 20, 17⟩
/-- CAN_OBJ_CFG.TXRES [16:14] RO. -/
def CAN_OBJ_CFG_TXRES : Fld := ⟨Reg.CAN_OBJ_CFG, 16, 14⟩
/-- CAN_OBJ_CFG.DLC [13:10] RW. -/
def CAN_OBJ_CFG_DLC : Fld := ⟨Reg.CAN_OBJ_CFG, 13, 10⟩
/-- CAN_OBJ_CFG.LAST [6:0] RO. -/
def CAN_OBJ_CFG_LAST : Fld := ⟨Reg.CAN_OBJ_CFG, 6, 0⟩
/-- SER_CFG.MODE [31:28] RW. -/
def SER_CFG_MODE : Fld := ⟨Reg.SER_CFG, 31, 28⟩
/-- SER_CFG.DECODE [27:27] RW. -/
def SER_CFG_DECODE : Fld := ⟨Reg.SER_CFG, 27, 27⟩
/-- SER_CFG.PARITY [25:24] RW. -/
def SER_CFG_PARITY : Fld := ⟨Reg.SER_CFG, 25, 24⟩
/-- SER_CFG.STOP2 [23:23] RW. -/
def SER_CFG_STOP2 : Fld := ⟨Reg.SER_CFG, 23, 23⟩
/-- SER_CFG.BITS7 [22:22] RW. -/
def SER_CFG_BITS7 : Fld := ⟨Reg.SER_CFG, 22, 22⟩
/-- SER_CFG.OVS8 [21:21] RW. -/
def SER_CFG_OVS8 : Fld := ⟨Reg.SER_CFG, 21, 21⟩
/-- SER_CFG.CHK_REQ [20:20] RW. -/
def SER_CFG_CHK_REQ : Fld := ⟨Reg.SER_CFG, 20, 20⟩
/-- SER_CFG.SLOT [15:8] RW. -/
def SER_CFG_SLOT : Fld := ⟨Reg.SER_CFG, 15, 8⟩
/-- SER_CFG.SLOT2 [7:0] RW. -/
def SER_CFG_SLOT2 : Fld := ⟨Reg.SER_CFG, 7, 0⟩
/-- SER_BAUD.DIV [31:16] RW. -/
def SER_BAUD_DIV : Fld := ⟨Reg.SER_BAUD, 31, 16⟩
/-- SER_BAUD.IDLE_CHARS [15:8] RW. -/
def SER_BAUD_IDLE_CHARS : Fld := ⟨Reg.SER_BAUD, 15, 8⟩
/-- SER_STATUS.TX_LEVEL [31:16] RO. -/
def SER_STATUS_TX_LEVEL : Fld := ⟨Reg.SER_STATUS, 31, 16⟩
/-- SER_STATUS.RX_OVF [7:7] W1C. -/
def SER_STATUS_RX_OVF : Fld := ⟨Reg.SER_STATUS, 7, 7⟩
/-- SER_STATUS.FRAMING [6:6] W1C. -/
def SER_STATUS_FRAMING : Fld := ⟨Reg.SER_STATUS, 6, 6⟩
/-- SER_STATUS.PARITY [5:5] W1C. -/
def SER_STATUS_PARITY : Fld := ⟨Reg.SER_STATUS, 5, 5⟩
/-- SER_STATUS.OVERRUN [4:4] W1C. -/
def SER_STATUS_OVERRUN : Fld := ⟨Reg.SER_STATUS, 4, 4⟩
/-- SER_STATUS.BREAK [3:3] W1C. -/
def SER_STATUS_BREAK : Fld := ⟨Reg.SER_STATUS, 3, 3⟩
/-- SER_STATUS.CHK_FAIL [2:2] W1C. -/
def SER_STATUS_CHK_FAIL : Fld := ⟨Reg.SER_STATUS, 2, 2⟩
/-- SER_STATUS.TX_BUSY [1:1] RO. -/
def SER_STATUS_TX_BUSY : Fld := ⟨Reg.SER_STATUS, 1, 1⟩
/-- SER_STATUS.RX_ACTIVE [0:0] RO. -/
def SER_STATUS_RX_ACTIVE : Fld := ⟨Reg.SER_STATUS, 0, 0⟩
/-- SER_BASE.BASE [31:0] RW. -/
def SER_BASE_BASE : Fld := ⟨Reg.SER_BASE, 31, 0⟩
/-- SER_IDX.CONS [13:8] RW. -/
def SER_IDX_CONS : Fld := ⟨Reg.SER_IDX, 13, 8⟩
/-- SER_IDX.PROD [5:0] RO. -/
def SER_IDX_PROD : Fld := ⟨Reg.SER_IDX, 5, 0⟩
/-- SER_TXDATA.DATA [7:0] WO. -/
def SER_TXDATA_DATA : Fld := ⟨Reg.SER_TXDATA, 7, 0⟩
/-- SER_CNT.BAD [31:24] RC. -/
def SER_CNT_BAD : Fld := ⟨Reg.SER_CNT, 31, 24⟩
/-- SER_CNT.RING_OVF [23:16] RC. -/
def SER_CNT_RING_OVF : Fld := ⟨Reg.SER_CNT, 23, 16⟩
/-- SER_CNT.TX_DROP [15:8] RC. -/
def SER_CNT_TX_DROP : Fld := ⟨Reg.SER_CNT, 15, 8⟩
/-- SER_CNT.RECORDS [7:0] RC. -/
def SER_CNT_RECORDS : Fld := ⟨Reg.SER_CNT, 7, 0⟩
/-- DIO_CFG.DIR [31:30] RW. -/
def DIO_CFG_DIR : Fld := ⟨Reg.DIO_CFG, 31, 30⟩
/-- DIO_CFG.SLEW [29:28] RW. -/
def DIO_CFG_SLEW : Fld := ⟨Reg.DIO_CFG, 29, 28⟩
/-- DIO_CFG.EDGE [27:26] RW. -/
def DIO_CFG_EDGE : Fld := ⟨Reg.DIO_CFG, 27, 26⟩
/-- DIO_CFG.INV [25:25] RW. -/
def DIO_CFG_INV : Fld := ⟨Reg.DIO_CFG, 25, 25⟩
/-- DIO_CFG.FILT [7:0] RW. -/
def DIO_CFG_FILT : Fld := ⟨Reg.DIO_CFG, 7, 0⟩
/-- DIO_IN_LO.IN [31:0] RO. -/
def DIO_IN_LO_IN : Fld := ⟨Reg.DIO_IN_LO, 31, 0⟩
/-- DIO_IN_HI.IN [31:0] RO. -/
def DIO_IN_HI_IN : Fld := ⟨Reg.DIO_IN_HI, 31, 0⟩
/-- DIO_OUT_LO.OUT [31:0] RW. -/
def DIO_OUT_LO_OUT : Fld := ⟨Reg.DIO_OUT_LO, 31, 0⟩
/-- DIO_OUT_HI.OUT [31:0] RW. -/
def DIO_OUT_HI_OUT : Fld := ⟨Reg.DIO_OUT_HI, 31, 0⟩
/-- DIO_CLAIM_LO.CLAIM [31:0] RW. -/
def DIO_CLAIM_LO_CLAIM : Fld := ⟨Reg.DIO_CLAIM_LO, 31, 0⟩
/-- DIO_CLAIM_HI.CLAIM [31:0] RW. -/
def DIO_CLAIM_HI_CLAIM : Fld := ⟨Reg.DIO_CLAIM_HI, 31, 0⟩
/-- DIO_MAP.MAP_EN [31:31] RW. -/
def DIO_MAP_MAP_EN : Fld := ⟨Reg.DIO_MAP, 31, 31⟩
/-- DIO_MAP.DO_WORD1 [26:16] RW. -/
def DIO_MAP_DO_WORD1 : Fld := ⟨Reg.DIO_MAP, 26, 16⟩
/-- DIO_MAP.DO_WORD0 [10:0] RW. -/
def DIO_MAP_DO_WORD0 : Fld := ⟨Reg.DIO_MAP, 10, 0⟩
/-- DIO_OWNER.OWNER [31:0] RO. -/
def DIO_OWNER_OWNER : Fld := ⟨Reg.DIO_OWNER, 31, 0⟩
/-- DIO_STAGE_MASK_LO.MASK [31:0] RW. -/
def DIO_STAGE_MASK_LO_MASK : Fld := ⟨Reg.DIO_STAGE_MASK_LO, 31, 0⟩
/-- DIO_STAGE_MASK_HI.MASK [31:0] RW. -/
def DIO_STAGE_MASK_HI_MASK : Fld := ⟨Reg.DIO_STAGE_MASK_HI, 31, 0⟩
/-- DIO_LATA.EDGES [31:24] RO. -/
def DIO_LATA_EDGES : Fld := ⟨Reg.DIO_LATA, 31, 24⟩
/-- DIO_LATA.LEVEL [0:0] RO. -/
def DIO_LATA_LEVEL : Fld := ⟨Reg.DIO_LATA, 0, 0⟩
/-- DIO_LATB.STAMP [31:0] RO. -/
def DIO_LATB_STAMP : Fld := ⟨Reg.DIO_LATB, 31, 0⟩
/-- DIO_CNTR.COUNT [31:0] RO. -/
def DIO_CNTR_COUNT : Fld := ⟨Reg.DIO_CNTR, 31, 0⟩
/-- SDF_EN.EN [31:0] RW. -/
def SDF_EN_EN : Fld := ⟨Reg.SDF_EN, 31, 0⟩
/-- SDF_STATUS.LOAD [31:22] RO. -/
def SDF_STATUS_LOAD : Fld := ⟨Reg.SDF_STATUS, 31, 22⟩
/-- SDF_STATUS.ALIGNED [15:12] RO. -/
def SDF_STATUS_ALIGNED : Fld := ⟨Reg.SDF_STATUS, 15, 12⟩
/-- SDF_STATUS.CLK_LOST [11:8] RO. -/
def SDF_STATUS_CLK_LOST : Fld := ⟨Reg.SDF_STATUS, 11, 8⟩
/-- SDF_STATUS.COEF_BUSY [2:2] W1C. -/
def SDF_STATUS_COEF_BUSY : Fld := ⟨Reg.SDF_STATUS, 2, 2⟩
/-- SDF_STATUS.XF_BUSY [1:1] W1C. -/
def SDF_STATUS_XF_BUSY : Fld := ⟨Reg.SDF_STATUS, 1, 1⟩
/-- SDF_STATUS.LOAD_REFUSED [0:0] W1C. -/
def SDF_STATUS_LOAD_REFUSED : Fld := ⟨Reg.SDF_STATUS, 0, 0⟩
/-- SDF_CLK.DIR [31:31] RW. -/
def SDF_CLK_DIR : Fld := ⟨Reg.SDF_CLK, 31, 31⟩
/-- SDF_CLK.EDGE [30:30] RW. -/
def SDF_CLK_EDGE : Fld := ⟨Reg.SDF_CLK, 30, 30⟩
/-- SDF_CLK.FREQ [22:8] RO. -/
def SDF_CLK_FREQ : Fld := ⟨Reg.SDF_CLK, 22, 8⟩
/-- SDF_CLK.MDIV2 [6:0] RW. -/
def SDF_CLK_MDIV2 : Fld := ⟨Reg.SDF_CLK, 6, 0⟩
/-- SDF_CHc_CFG.ORDER [31:31] RW. -/
def SDF_CHc_CFG_ORDER : Fld := ⟨Reg.SDF_CHc_CFG, 31, 31⟩
/-- SDF_CHc_CFG.STAGE1 [30:29] RW. -/
def SDF_CHc_CFG_STAGE1 : Fld := ⟨Reg.SDF_CHc_CFG, 30, 29⟩
/-- SDF_CHc_CFG.STAGE2 [28:27] RW. -/
def SDF_CHc_CFG_STAGE2 : Fld := ⟨Reg.SDF_CHc_CFG, 28, 27⟩
/-- SDF_CHc_CFG.SRC [26:22] RW. -/
def SDF_CHc_CFG_SRC : Fld := ⟨Reg.SDF_CHc_CFG, 26, 22⟩
/-- SDF_CHc_CFG.PHASE [19:12] RW. -/
def SDF_CHc_CFG_PHASE : Fld := ⟨Reg.SDF_CHc_CFG, 19, 12⟩
/-- SDF_CHc_CFG.R [8:0] RW. -/
def SDF_CHc_CFG_R : Fld := ⟨Reg.SDF_CHc_CFG, 8, 0⟩
/-- SDF_CHc_FIR1.SEL [31:31] RW. -/
def SDF_CHc_FIR1_SEL : Fld := ⟨Reg.SDF_CHc_FIR1, 31, 31⟩
/-- SDF_CHc_FIR1.AT_SI [30:30] RW. -/
def SDF_CHc_FIR1_AT_SI : Fld := ⟨Reg.SDF_CHc_FIR1, 30, 30⟩
/-- SDF_CHc_FIR1.FADING [29:29] RO. -/
def SDF_CHc_FIR1_FADING : Fld := ⟨Reg.SDF_CHc_FIR1, 29, 29⟩
/-- SDF_CHc_FIR1.XFADE [25:16] RW. -/
def SDF_CHc_FIR1_XFADE : Fld := ⟨Reg.SDF_CHc_FIR1, 25, 16⟩
/-- SDF_CHc_FIR1.SET_B [12:8] RW. -/
def SDF_CHc_FIR1_SET_B : Fld := ⟨Reg.SDF_CHc_FIR1, 12, 8⟩
/-- SDF_CHc_FIR1.SET_A [4:0] RW. -/
def SDF_CHc_FIR1_SET_A : Fld := ⟨Reg.SDF_CHc_FIR1, 4, 0⟩
/-- SDF_CHc_FIR2.SEL [31:31] RW. -/
def SDF_CHc_FIR2_SEL : Fld := ⟨Reg.SDF_CHc_FIR2, 31, 31⟩
/-- SDF_CHc_FIR2.AT_SI [30:30] RW. -/
def SDF_CHc_FIR2_AT_SI : Fld := ⟨Reg.SDF_CHc_FIR2, 30, 30⟩
/-- SDF_CHc_FIR2.FADING [29:29] RO. -/
def SDF_CHc_FIR2_FADING : Fld := ⟨Reg.SDF_CHc_FIR2, 29, 29⟩
/-- SDF_CHc_FIR2.XFADE [25:16] RW. -/
def SDF_CHc_FIR2_XFADE : Fld := ⟨Reg.SDF_CHc_FIR2, 25, 16⟩
/-- SDF_CHc_FIR2.SET_B [12:8] RW. -/
def SDF_CHc_FIR2_SET_B : Fld := ⟨Reg.SDF_CHc_FIR2, 12, 8⟩
/-- SDF_CHc_FIR2.SET_A [4:0] RW. -/
def SDF_CHc_FIR2_SET_A : Fld := ⟨Reg.SDF_CHc_FIR2, 4, 0⟩
/-- SDF_CHc_SCALE.GAIN [31:8] RW. -/
def SDF_CHc_SCALE_GAIN : Fld := ⟨Reg.SDF_CHc_SCALE, 31, 8⟩
/-- SDF_CHc_OFS.OFFSET [31:8] RW. -/
def SDF_CHc_OFS_OFFSET : Fld := ⟨Reg.SDF_CHc_OFS, 31, 8⟩
/-- SDF_CHc_TC.TC [15:0] RW. -/
def SDF_CHc_TC_TC : Fld := ⟨Reg.SDF_CHc_TC, 15, 0⟩
/-- SDF_CHc_SETTLE.S_USED [25:16] RO. -/
def SDF_CHc_SETTLE_S_USED : Fld := ⟨Reg.SDF_CHc_SETTLE, 25, 16⟩
/-- SDF_CHc_SETTLE.SETTLE_LEN [9:0] RW. -/
def SDF_CHc_SETTLE_SETTLE_LEN : Fld := ⟨Reg.SDF_CHc_SETTLE, 9, 0⟩
/-- SDF_CHc_GD.GD [31:0] RO. -/
def SDF_CHc_GD_GD : Fld := ⟨Reg.SDF_CHc_GD, 31, 0⟩
/-- SDF_CHc_LAT.LAT [31:0] RO. -/
def SDF_CHc_LAT_LAT : Fld := ⟨Reg.SDF_CHc_LAT, 31, 0⟩
/-- SDF_CHc_LATT.LAT [31:0] RO. -/
def SDF_CHc_LATT_LAT : Fld := ⟨Reg.SDF_CHc_LATT, 31, 0⟩
/-- SDF_CHc_STAT.WIDX [31:26] RO. -/
def SDF_CHc_STAT_WIDX : Fld := ⟨Reg.SDF_CHc_STAT, 31, 26⟩
/-- SDF_CHc_STAT.SETTLE_LEFT [25:16] RO. -/
def SDF_CHc_STAT_SETTLE_LEFT : Fld := ⟨Reg.SDF_CHc_STAT, 25, 16⟩
/-- SDF_CHc_STAT.ALIGNED [3:3] RO. -/
def SDF_CHc_STAT_ALIGNED : Fld := ⟨Reg.SDF_CHc_STAT, 3, 3⟩
/-- SDF_CHc_STAT.CLK_LOST_SEEN [2:2] W1C. -/
def SDF_CHc_STAT_CLK_LOST_SEEN : Fld := ⟨Reg.SDF_CHc_STAT, 2, 2⟩
/-- SDF_CHc_STAT.SAT [1:1] W1C. -/
def SDF_CHc_STAT_SAT : Fld := ⟨Reg.SDF_CHc_STAT, 1, 1⟩
/-- SDF_CHc_STAT.CFG_BAD [0:0] W1C. -/
def SDF_CHc_STAT_CFG_BAD : Fld := ⟨Reg.SDF_CHc_STAT, 0, 0⟩
/-- HIF_LINK.SPEED [31:28] RO. -/
def HIF_LINK_SPEED : Fld := ⟨Reg.HIF_LINK, 31, 28⟩
/-- HIF_LINK.WIDTH [27:24] RO. -/
def HIF_LINK_WIDTH : Fld := ⟨Reg.HIF_LINK, 27, 24⟩
/-- HIF_LINK.UP [23:23] RO. -/
def HIF_LINK_UP : Fld := ⟨Reg.HIF_LINK, 23, 23⟩
/-- HIF_LINK.BME [22:22] RO. -/
def HIF_LINK_BME : Fld := ⟨Reg.HIF_LINK, 22, 22⟩
/-- HIF_LINK.D3HOT [21:21] RO. -/
def HIF_LINK_D3HOT : Fld := ⟨Reg.HIF_LINK, 21, 21⟩
/-- HIF_LINK.RECOVERING [20:20] RO. -/
def HIF_LINK_RECOVERING : Fld := ⟨Reg.HIF_LINK, 20, 20⟩
/-- HIF_STATUS.DB_RING [11:8] RO. -/
def HIF_STATUS_DB_RING : Fld := ⟨Reg.HIF_STATUS, 11, 8⟩
/-- HIF_STATUS.AER_UNCORR [4:4] W1C. -/
def HIF_STATUS_AER_UNCORR : Fld := ⟨Reg.HIF_STATUS, 4, 4⟩
/-- HIF_STATUS.LINK_RECOVERED [3:3] W1C. -/
def HIF_STATUS_LINK_RECOVERED : Fld := ⟨Reg.HIF_STATUS, 3, 3⟩
/-- HIF_STATUS.CFG_BAD [2:2] W1C. -/
def HIF_STATUS_CFG_BAD : Fld := ⟨Reg.HIF_STATUS, 2, 2⟩
/-- HIF_STATUS.DMA_ERR [1:1] W1C. -/
def HIF_STATUS_DMA_ERR : Fld := ⟨Reg.HIF_STATUS, 1, 1⟩
/-- HIF_STATUS.DB_ERR [0:0] W1C. -/
def HIF_STATUS_DB_ERR : Fld := ⟨Reg.HIF_STATUS, 0, 0⟩
/-- HIF_CNT.RETRIES [31:16] RC. -/
def HIF_CNT_RETRIES : Fld := ⟨Reg.HIF_CNT, 31, 16⟩
/-- HIF_CNT.DMA_ERR [15:8] RC. -/
def HIF_CNT_DMA_ERR : Fld := ⟨Reg.HIF_CNT, 15, 8⟩
/-- HIF_CNT.DB_ERR [7:0] RC. -/
def HIF_CNT_DB_ERR : Fld := ⟨Reg.HIF_CNT, 7, 0⟩
/-- HIF_Rk_SQ_LO.BASE [31:0] RW. -/
def HIF_Rk_SQ_LO_BASE : Fld := ⟨Reg.HIF_Rk_SQ_LO, 31, 0⟩
/-- HIF_Rk_SQ_HI.BASE [31:0] RW. -/
def HIF_Rk_SQ_HI_BASE : Fld := ⟨Reg.HIF_Rk_SQ_HI, 31, 0⟩
/-- HIF_Rk_CQ_LO.BASE [31:0] RW. -/
def HIF_Rk_CQ_LO_BASE : Fld := ⟨Reg.HIF_Rk_CQ_LO, 31, 0⟩
/-- HIF_Rk_CQ_HI.BASE [31:0] RW. -/
def HIF_Rk_CQ_HI_BASE : Fld := ⟨Reg.HIF_Rk_CQ_HI, 31, 0⟩
/-- HIF_Rk_SIZE.CQ_SIZE [27:16] RW. -/
def HIF_Rk_SIZE_CQ_SIZE : Fld := ⟨Reg.HIF_Rk_SIZE, 27, 16⟩
/-- HIF_Rk_SIZE.SQ_SIZE [11:0] RW. -/
def HIF_Rk_SIZE_SQ_SIZE : Fld := ⟨Reg.HIF_Rk_SIZE, 11, 0⟩
/-- HIF_Rk_CTRL.THRESH [31:24] RW. -/
def HIF_Rk_CTRL_THRESH : Fld := ⟨Reg.HIF_Rk_CTRL, 31, 24⟩
/-- HIF_Rk_CTRL.TIMER [23:14] RW. -/
def HIF_Rk_CTRL_TIMER : Fld := ⟨Reg.HIF_Rk_CTRL, 23, 14⟩
/-- HIF_Rk_CTRL.VECTOR [13:8] RW. -/
def HIF_Rk_CTRL_VECTOR : Fld := ⟨Reg.HIF_Rk_CTRL, 13, 8⟩
/-- HIF_Rk_CTRL.IRQ_EN [1:1] RW. -/
def HIF_Rk_CTRL_IRQ_EN : Fld := ⟨Reg.HIF_Rk_CTRL, 1, 1⟩
/-- HIF_Rk_CTRL.EN [0:0] RW. -/
def HIF_Rk_CTRL_EN : Fld := ⟨Reg.HIF_Rk_CTRL, 0, 0⟩
/-- HIF_Rk_STATUS.STATE [31:30] RO. -/
def HIF_Rk_STATUS_STATE : Fld := ⟨Reg.HIF_Rk_STATUS, 31, 30⟩
/-- HIF_Rk_STATUS.PHASE [29:29] RO. -/
def HIF_Rk_STATUS_PHASE : Fld := ⟨Reg.HIF_Rk_STATUS, 29, 29⟩
/-- HIF_Rk_STATUS.CQ_TAIL [23:12] RO. -/
def HIF_Rk_STATUS_CQ_TAIL : Fld := ⟨Reg.HIF_Rk_STATUS, 23, 12⟩
/-- HIF_Rk_STATUS.SQ_HEAD [11:0] RO. -/
def HIF_Rk_STATUS_SQ_HEAD : Fld := ⟨Reg.HIF_Rk_STATUS, 11, 0⟩
/-- HIF_Rk_CNT.INFLIGHT [22:16] RO. -/
def HIF_Rk_CNT_INFLIGHT : Fld := ⟨Reg.HIF_Rk_CNT, 22, 16⟩
/-- HIF_Rk_CNT.COMPLETIONS [15:0] RC. -/
def HIF_Rk_CNT_COMPLETIONS : Fld := ⟨Reg.HIF_Rk_CNT, 15, 0⟩
/-- HIF_EV_EN.EN [31:0] RW. -/
def HIF_EV_EN_EN : Fld := ⟨Reg.HIF_EV_EN, 31, 0⟩
/-- HIF_EV_PEND.PEND [31:0] W1C. -/
def HIF_EV_PEND_PEND : Fld := ⟨Reg.HIF_EV_PEND, 31, 0⟩
/-- HIF_EVG_VEC.EN0 [7:7] RW. -/
def HIF_EVG_VEC_EN0 : Fld := ⟨Reg.HIF_EVG_VEC, 7, 7⟩
/-- HIF_EVG_VEC.EN1 [15:15] RW. -/
def HIF_EVG_VEC_EN1 : Fld := ⟨Reg.HIF_EVG_VEC, 15, 15⟩
/-- HIF_EVG_VEC.EN2 [23:23] RW. -/
def HIF_EVG_VEC_EN2 : Fld := ⟨Reg.HIF_EVG_VEC, 23, 23⟩
/-- HIF_EVG_VEC.EN3 [31:31] RW. -/
def HIF_EVG_VEC_EN3 : Fld := ⟨Reg.HIF_EVG_VEC, 31, 31⟩
/-- HIF_EVG_VEC.VECTOR0 [5:0] RW. -/
def HIF_EVG_VEC_VECTOR0 : Fld := ⟨Reg.HIF_EVG_VEC, 5, 0⟩
/-- HIF_EVG_VEC.VECTOR1 [13:8] RW. -/
def HIF_EVG_VEC_VECTOR1 : Fld := ⟨Reg.HIF_EVG_VEC, 13, 8⟩
/-- HIF_EVG_VEC.VECTOR2 [21:16] RW. -/
def HIF_EVG_VEC_VECTOR2 : Fld := ⟨Reg.HIF_EVG_VEC, 21, 16⟩
/-- HIF_EVG_VEC.VECTOR3 [29:24] RW. -/
def HIF_EVG_VEC_VECTOR3 : Fld := ⟨Reg.HIF_EVG_VEC, 29, 24⟩
/-- ALM_CFG.FLUSH_EN [31:31] RW. -/
def ALM_CFG_FLUSH_EN : Fld := ⟨Reg.ALM_CFG, 31, 31⟩
/-- ALM_CFG.MIN_SEV [30:28] RW. -/
def ALM_CFG_MIN_SEV : Fld := ⟨Reg.ALM_CFG, 30, 28⟩
/-- ALM_CFG.REPEAT_WINDOW [27:16] RW. -/
def ALM_CFG_REPEAT_WINDOW : Fld := ⟨Reg.ALM_CFG, 27, 16⟩
/-- ALM_CFG.FLUSH_MAX [15:0] RW. -/
def ALM_CFG_FLUSH_MAX : Fld := ⟨Reg.ALM_CFG, 15, 0⟩
/-- ALM_STATUS.FULL [31:31] RO. -/
def ALM_STATUS_FULL : Fld := ⟨Reg.ALM_STATUS, 31, 31⟩
/-- ALM_STATUS.BEHIND [15:0] RO. -/
def ALM_STATUS_BEHIND : Fld := ⟨Reg.ALM_STATUS, 15, 0⟩
/-- ALM_EVENTS.SW_REFUSED [2:2] W1C. -/
def ALM_EVENTS_SW_REFUSED : Fld := ⟨Reg.ALM_EVENTS, 2, 2⟩
/-- ALM_EVENTS.FLUSH_ERR [1:1] W1C. -/
def ALM_EVENTS_FLUSH_ERR : Fld := ⟨Reg.ALM_EVENTS, 1, 1⟩
/-- ALM_EVENTS.DROP [0:0] W1C. -/
def ALM_EVENTS_DROP : Fld := ⟨Reg.ALM_EVENTS, 0, 0⟩
/-- ALM_CNT.DROPPED [31:24] RC. -/
def ALM_CNT_DROPPED : Fld := ⟨Reg.ALM_CNT, 31, 24⟩
/-- ALM_CNT.OVERWRITTEN [23:16] RC. -/
def ALM_CNT_OVERWRITTEN : Fld := ⟨Reg.ALM_CNT, 23, 16⟩
/-- ALM_CNT.UNFLUSHED [15:8] RC. -/
def ALM_CNT_UNFLUSHED : Fld := ⟨Reg.ALM_CNT, 15, 8⟩
/-- ALM_CNT.FILTERED [7:0] RC. -/
def ALM_CNT_FILTERED : Fld := ⟨Reg.ALM_CNT, 7, 0⟩
/-- ALM_MERGED.MERGED [31:0] RC. -/
def ALM_MERGED_MERGED : Fld := ⟨Reg.ALM_MERGED, 31, 0⟩
/-- ALM_SEQ_LAST.SEQ [31:0] RO. -/
def ALM_SEQ_LAST_SEQ : Fld := ⟨Reg.ALM_SEQ_LAST, 31, 0⟩
/-- ALM_RD_SEQ.SEQ [31:0] RW. -/
def ALM_RD_SEQ_SEQ : Fld := ⟨Reg.ALM_RD_SEQ, 31, 0⟩
/-- ALM_RD_CTRL.GO [31:31] W1S. -/
def ALM_RD_CTRL_GO : Fld := ⟨Reg.ALM_RD_CTRL, 31, 31⟩
/-- ALM_RD_CTRL.READY [30:30] RO. -/
def ALM_RD_CTRL_READY : Fld := ⟨Reg.ALM_RD_CTRL, 30, 30⟩
/-- ALM_RD_CTRL.EMPTY [29:29] RO. -/
def ALM_RD_CTRL_EMPTY : Fld := ⟨Reg.ALM_RD_CTRL, 29, 29⟩
/-- ALM_RD_SEQ_OUT.SEQ [31:0] RO. -/
def ALM_RD_SEQ_OUT_SEQ : Fld := ⟨Reg.ALM_RD_SEQ_OUT, 31, 0⟩
/-- ALM_RD_DATA.DATA [31:0] RO. -/
def ALM_RD_DATA_DATA : Fld := ⟨Reg.ALM_RD_DATA, 31, 0⟩
/-- ALM_SW_HDR.GO [31:31] W1S. -/
def ALM_SW_HDR_GO : Fld := ⟨Reg.ALM_SW_HDR, 31, 31⟩
/-- ALM_SW_HDR.SEV [23:21] RW. -/
def ALM_SW_HDR_SEV : Fld := ⟨Reg.ALM_SW_HDR, 23, 21⟩
/-- ALM_SW_HDR.CLASS [20:16] RW. -/
def ALM_SW_HDR_CLASS : Fld := ⟨Reg.ALM_SW_HDR, 20, 16⟩
/-- ALM_SW_HDR.CODE [11:0] RW. -/
def ALM_SW_HDR_CODE : Fld := ⟨Reg.ALM_SW_HDR, 11, 0⟩
/-- ALM_SW_P.P [31:0] RW. -/
def ALM_SW_P_P : Fld := ⟨Reg.ALM_SW_P, 31, 0⟩
/-- ALM_PLATE_CTRL.KEEP_FIRST [2:2] RW. -/
def ALM_PLATE_CTRL_KEEP_FIRST : Fld := ⟨Reg.ALM_PLATE_CTRL, 2, 2⟩
/-- ALM_PLATE_CTRL.RELEASE [1:1] W1S. -/
def ALM_PLATE_CTRL_RELEASE : Fld := ⟨Reg.ALM_PLATE_CTRL, 1, 1⟩
/-- ALM_PLATE_CTRL.TRIGGER [0:0] W1S. -/
def ALM_PLATE_CTRL_TRIGGER : Fld := ⟨Reg.ALM_PLATE_CTRL, 0, 0⟩
/-- ALM_PLATE_STATUS.PRESENT [31:31] RO. -/
def ALM_PLATE_STATUS_PRESENT : Fld := ⟨Reg.ALM_PLATE_STATUS, 31, 31⟩
/-- ALM_PLATE_STATUS.TRUNCATED [30:30] RO. -/
def ALM_PLATE_STATUS_TRUNCATED : Fld := ⟨Reg.ALM_PLATE_STATUS, 30, 30⟩
/-- ALM_PLATE_STATUS.NESTED [23:16] RO. -/
def ALM_PLATE_STATUS_NESTED : Fld := ⟨Reg.ALM_PLATE_STATUS, 23, 16⟩
/-- ALM_PLATE_STATUS.REASON [15:0] RO. -/
def ALM_PLATE_STATUS_REASON : Fld := ⟨Reg.ALM_PLATE_STATUS, 15, 0⟩
/-- DBG_DMI.VALUE [31:0] RW. -/
def DBG_DMI_VALUE : Fld := ⟨Reg.DBG_DMI, 31, 0⟩
end F

end Sys2Proof.Machine
end

