-- ==== Sys2Proof/Machine/Sparse.lean ====
section
/-! DEFINITION. Sparse data in one canonical form: a list of (key, value) pairs, keys strictly rising, no entry
equal to what an unlisted key reads as.  The register map and every memory of the device are such lists, so equal
contents are equal data. -/

namespace Sys2Proof.Machine

/-- The value at key `k`; an unlisted key reads as `d k`. -/
def sget {α : Type} (d : Nat → α) : List (Nat × α) → Nat → α
  | [], k => d k
  | (a, v) :: m, k => if a = k then v else sget d m k

/-- Put `(k, v)` in its place, before the first greater key; an entry of key `k` is replaced. -/
def sput {α : Type} (k : Nat) (v : α) : List (Nat × α) → List (Nat × α)
  | [] => [(k, v)]
  | (a, w) :: m => if k < a then (k, v) :: (a, w) :: m
                   else if a = k then (k, v) :: m
                   else (a, w) :: sput k v m

/-- Take the entry of key `k` out. -/
def sdel {α : Type} (k : Nat) : List (Nat × α) → List (Nat × α)
  | [] => []
  | (a, w) :: m => if a = k then m else (a, w) :: sdel k m

/-- Write `v` at `k`, keeping the canonical form: writing what an unlisted key reads as removes the entry. -/
def sset {α : Type} [DecidableEq α] (d : Nat → α) (m : List (Nat × α)) (k : Nat) (v : α) : List (Nat × α) :=
  if v = d k then sdel k m else sput k v m

/-- The canonical form, for the entries above a bound: keys strictly rising, no value an unlisted key would read as. -/
def swfFrom {α : Type} [DecidableEq α] (d : Nat → α) : Nat → List (Nat × α) → Bool
  | _, [] => true
  | b, (a, v) :: m => decide (b ≤ a) && decide (v ≠ d a) && swfFrom d (a + 1) m

/-- The canonical form of a sparse list. -/
def swf {α : Type} [DecidableEq α] (d : Nat → α) (m : List (Nat × α)) : Bool := swfFrom d 0 m

/-- What an unlisted byte of a RAM reads as: zero (DESIGN CHOICE, log entry 3; the spec gives no power-on contents). -/
def ramByte (_ : Nat) : Byte := 0

/-- What an unlisted byte of the flash reads as: an erased byte, 0xFF. -/
def flashByte (_ : Nat) : Byte := 0xFF

/-- Read `n` bytes from address `a`, lowest address first. -/
def readBytes (d : Nat → Byte) (m : List (Nat × Byte)) (a : Nat) : Nat → List Byte
  | 0 => []
  | n + 1 => sget d m a :: readBytes d m (a + 1) n

/-- Write bytes from address `a`, lowest address first. -/
def writeBytes (d : Nat → Byte) (m : List (Nat × Byte)) (a : Nat) : List Byte → List (Nat × Byte)
  | [] => m
  | b :: bs => writeBytes d (sset d m a b) (a + 1) bs

/-- Bytes in little-endian order as one number (R6). -/
def leNat : List Byte → Nat
  | [] => 0
  | b :: bs => b.toNat + 256 * leNat bs

/-- The `n` low bytes of a number, least significant first. -/
def leBytes : Nat → Nat → List Byte
  | 0, _ => []
  | n + 1, v => BitVec.ofNat 8 v :: leBytes n (v / 256)

/-- Bytes in network order, most significant first, as one number. -/
def beNat (bs : List Byte) : Nat := leNat bs.reverse

/-- The `n` low bytes of a number, most significant first. -/
def beBytes (n v : Nat) : List Byte := (leBytes n v).reverse

/-- The little-endian 32-bit word at `a`. -/
def readWord (d : Nat → Byte) (m : List (Nat × Byte)) (a : Nat) : Word := BitVec.ofNat 32 (leNat (readBytes d m a 4))

/-- Write a 32-bit word at `a`, little-endian. -/
def writeWord (d : Nat → Byte) (m : List (Nat × Byte)) (a : Nat) (w : Word) : List (Nat × Byte) :=
  writeBytes d m a (leBytes 4 w.toNat)

/-- Write 32-bit words from `a` on. -/
def writeWords (d : Nat → Byte) (m : List (Nat × Byte)) (a : Nat) : List Word → List (Nat × Byte)
  | [] => m
  | w :: ws => writeWords d (writeWord d m a w) (a + 4) ws

/-- Bytes as little-endian 32-bit words; a tail shorter than a word is filled with zero bytes. -/
def wordsOf : Nat → List Byte → List Word
  | 0, _ => []
  | n + 1, bs => BitVec.ofNat 32 (leNat (bs.take 4)) :: wordsOf n (bs.drop 4)

/-- The bytes of 32-bit words, little-endian. -/
def bytesOf (ws : List Word) : List Byte := ws.flatMap fun w => leBytes 4 w.toNat

end Sys2Proof.Machine
end

