-- ==== Sys2Proof/Machine/StBoot.lean ====
section
/-! DEFINITION. The state of boot and of the life cycle (16_boot_config_lifecycle.md) that the registers do not show. -/

namespace Sys2Proof.Machine

/-- The fuses (R508, R520). -/
structure Fuses where
  /-- L1 to L4, the first fuse of each pair. -/
  lc : Nat
  /-- L1 to L4, the second fuse of each pair. -/
  lcMate : Nat
  /-- The key digests of the four user slots, SHA-384. -/
  digests : List (List Byte)
  /-- Bit k: slot k is present. -/
  present : Nat
  /-- Bit k: slot k is revoked. -/
  revoked : Nat
  /-- The UID. -/
  uid : Nat
  deriving DecidableEq, Repr

/-- Unblown fuses: BLANK, no keys. -/
def Fuses.blank : Fuses := ⟨0, 0, [[], [], [], []], 0, 0, 0⟩

/-- L1 to L4 as they read: blown where either fuse of the pair is (R520). -/
def Fuses.blown (f : Fuses) : Nat := f.lc ||| f.lcMate

/-- The debug module of R567, and what it knows of its seven harts. -/
structure DebugMod where
  /-- dmactive. -/
  active : Bool
  /-- hartsel. -/
  hartsel : Nat
  /-- ndmreset. -/
  ndmreset : Bool
  /-- Harts whose halt request is set. -/
  haltReq : List Nat
  /-- Harts that are halted. -/
  halted : List Nat
  /-- Harts whose resume is acknowledged. -/
  resumed : List Nat
  /-- Harts that have been reset since this was last acknowledged. -/
  haveReset : List Nat
  /-- cmderr. -/
  cmderr : Nat
  /-- data0 to data11. -/
  data : List Nat
  /-- Registers of halted harts that a command has read or written: hart and regno, and the value. -/
  regs : List ((Nat × Nat) × Nat)
  deriving DecidableEq, Repr

/-- The debug module at device start: every hart has been reset. -/
def DebugMod.init : DebugMod := ⟨false, 0, false, [], [], [], List.range 7, 0, List.replicate 12 0, []⟩

/-- The SYSTEM section of the configuration image (R514), as its fields. -/
structure SysConf where
  /-- ROLE: station. -/
  station : Bool
  /-- GRP_SIZE. -/
  grpSize : Nat
  /-- The image asks for diagnostic role. -/
  diag : Bool
  /-- PRESET, none without one. -/
  preset : Nat
  /-- The three feature enables, as CHIP_PROFILE has them. -/
  features : Nat
  /-- START_DEFAULT: cold. -/
  cold : Bool
  /-- GRID_WAIT, s. -/
  gridWait : Nat
  /-- Enable of fusion. -/
  fusion : Bool
  /-- Enable of the control engine. -/
  control : Bool
  /-- Enable of Ephemeris. -/
  ephemeris : Bool
  /-- Enable of fallbacks. -/
  fallbacks : Bool
  /-- Enable of the Orrery. -/
  orrery : Bool
  /-- Enable of the Almanac flush. -/
  flush : Bool
  /-- Mirror ports of the partners at INTLK_IN0 and INTLK_IN1. -/
  mirror : Nat × Nat
  /-- PLATE_SEALED. -/
  plateSealed : Bool
  /-- PCIe subsystem vendor and device IDs. -/
  subsys : Nat × Nat
  deriving DecidableEq, Repr

/-- The factory defaults of the SYSTEM section (R516). -/
def SysConf.default (station : Bool) : SysConf where
  station := station
  grpSize := 3
  diag := false
  preset := 0
  features := 0
  cold := true
  gridWait := 60
  fusion := false
  control := false
  ephemeris := false
  fallbacks := false
  orrery := false
  flush := true
  mirror := (3, 2)
  plateSealed := false
  subsys := (0x1F4B, 0)

/-- Boot beside its registers. -/
structure Boot where
  /-- The fuses. -/
  fuses : Fuses
  /-- Device time of VDD_AON becoming valid, moved with every step in FREE. -/
  zero : Int
  /-- Boot waits at stage TIME since this device time. -/
  waitFrom : Option Nat
  /-- Device time of the first sample instant, once the grid is scheduled (R518). -/
  gridAt : Option Nat
  /-- The SYSTEM section in force. -/
  sys : SysConf
  /-- DDR ranges marked critical: address and bytes (R498, R514). -/
  critical : List (Nat × Nat)
  /-- The application firmware runs (R512). -/
  appRuns : Bool
  /-- The debug module. -/
  dbg : DebugMod
  deriving DecidableEq, Repr

/-- Boot as a device start begins. -/
def Boot.init : Boot where
  fuses := .blank
  zero := 0
  waitFrom := none
  gridAt := none
  sys := .default false
  critical := []
  appRuns := false
  dbg := .init

end Sys2Proof.Machine
end

