-- ==== Sys2Proof/Machine/StClock.lean ====
section
/-! DEFINITION. The state of the Clock Drive (02_clock_drive.md) that the registers do not show. -/

namespace Sys2Proof.Machine

/-- A task section (R55, R85): it runs from the sequencer's signal until the core reports its end, or for good where the core
has stopped. -/
structure Section where
  /-- The section has started and not ended. -/
  running : Bool
  /-- Device time of the sequencer's signal. -/
  start : Nat
  /-- The cycle it started in. -/
  cyc : Nat
  /-- PT of that cycle, which the section reads as long as it runs (R75). -/
  pt : Nat
  /-- Core address it was entered at (R62, R70). -/
  entry : Nat
  deriving DecidableEq, Repr

/-- A section that does not run. -/
def Section.idle : Section := ⟨false, 0, 0, 0, 0⟩

/-- One half of the program memories of both cores (R70): the image its code halves were loaded from, and the instance
data of each core. -/
structure Half where
  /-- The function-block image (R62); empty where nothing is loaded. -/
  image : List Byte
  /-- Instance data of core 0, by offset in the half. -/
  data0 : List Host.Cell
  /-- Instance data of core 1. -/
  data1 : List Host.Cell
  deriving DecidableEq, Repr

/-- An empty half. -/
def Half.empty : Half := ⟨[], [], []⟩

/-- A restart that waits for INTAKE_CL, or is in progress (R89). -/
structure Restart where
  /-- The type asked for: cold. -/
  cold : Bool
  /-- The cause, coded as CDR_RESTART_INFO.CAUSE. -/
  cause : Nat
  deriving DecidableEq, Repr

/-- Why a rollback runs (R96, R102, R103, R105). -/
inductive Rollback where
  /-- ROLLBACK written. -/
  | host
  /-- A restart request during TRIAL. -/
  | restart
  /-- Overrun or SIG_FAIL with AUTO_ROLLBACK. -/
  | auto
  /-- A cycle fault with AUTO_ROLLBACK. -/
  | fault
  deriving DecidableEq, Repr

/-- A switch window (R99). -/
structure Window where
  /-- The window is open; false while it waits for the end of a FAST run. -/
  opened : Bool
  /-- Device time at which it opened. -/
  openAt : Nat
  /-- What the cores' initialisation and migrate routines write into the new data halves of core 0 and of core 1; none
  where the migration does not complete inside the window. -/
  stores : Option (List (Nat × Byte) × List (Nat × Byte))
  deriving DecidableEq, Repr

/-- A run of the copy engine (R90, R396). -/
structure CopyRun where
  /-- Device time at which it began. -/
  start : Nat
  /-- Its offset in Meridian retained SRAM. -/
  off : Nat
  /-- What stood there before. -/
  old : List Byte
  /-- What it writes. -/
  new : List Byte
  /-- The lockout discards its words (R392). -/
  locked : Bool
  deriving DecidableEq, Repr

/-- The Clock Drive beside its registers. -/
structure ClockDrive where
  /-- CYC (R34). -/
  cyc : Nat
  /-- Device time of the sample instant of the cycle, ns. -/
  t0 : Nat
  /-- PT of the cycle (R74). -/
  pt : Nat
  /-- CDR_PT_ADJ (R78). -/
  ptAdj : Int
  /-- PT of the fast tick whose FAST runs, or ran last (R75). -/
  fastPt : Nat
  /-- Fast ticks of the cycle that have fallen (R49). -/
  ticks : Nat
  /-- The sample grid runs: the first sample instant since device start has passed. -/
  grid : Bool
  /-- The staging buffer (R59), by word index. -/
  buf : List (Nat × Word)
  /-- The newest staged set (R60). -/
  staged : List (Nat × Word)
  /-- The set last applied at an output instant. -/
  applied : List (Nat × Word)
  /-- The cycle it belongs to; none before the first. -/
  stagedCyc : Option Nat
  /-- The buffer takes writes: from SOLVE_DL to STAGE_DL (R60). -/
  stageOpen : Bool
  /-- Device time of the last STAGE_DL. -/
  stageTime : Nat
  /-- PRE. -/
  pre : Section
  /-- POST. -/
  post : Section
  /-- FAST. -/
  fast : Section
  /-- SLOW. -/
  slow : Section
  /-- PRE of this cycle has finished. -/
  preDone : Bool
  /-- POST of this cycle has finished. -/
  postDone : Bool
  /-- PRE and POST of this cycle are skipped (R83). -/
  skip : Bool
  /-- This cycle counted as an overrun. -/
  ovr : Bool
  /-- The previous cycle counted as an overrun (R87). -/
  prevOvr : Bool
  /-- Consecutive fast ticks skipped (R84). -/
  fastSkips : Nat
  /-- The directly attached servo outputs keep their last values: FAST was past its budget (R83). -/
  servoHeld : Bool
  /-- The signature over the checkpoints of this cycle, a CRC-32C (R88). -/
  sig : Nat
  /-- Program-region words written by POST in this cycle, each once (R87). -/
  written : List Nat
  /-- The exchange area of shared SRAM swaps at each base-cycle boundary: which half is read (R72). -/
  exchange : Bool
  /-- What the cores read of the 4 KiB exchange area, by offset: what was written before the cycle began (R72). -/
  exRead : List Host.Cell
  /-- What the cores write to it in this cycle, over a copy of what they read. -/
  exWrite : List Host.Cell
  /-- The command block PRE writes, and the one it wrote in time last (R58). -/
  cmdNew : List Byte
  /-- The command block the control engine takes. -/
  cmdTaken : List Byte
  /-- The Ephemeris input block PRE writes (R239). -/
  inpNew : List Byte
  /-- The input block of the last PRE that finished in time. -/
  inpTaken : List Byte
  /-- Cores held stopped by CDR_CTRL.STOP, a fault or state FAULT. -/
  stopped : Bool
  /-- The restart that waits for INTAKE_CL. -/
  waiting : Option Restart
  /-- Initialisation entries of the running restart that have not ended, by core. -/
  initLeft : List Nat
  /-- Device time at which they started (R94). -/
  initStart : Nat
  /-- Core addresses at which the cores entered their last initialisation entries (R62, R92, R93). -/
  initEntry : Nat × Nat
  /-- Consecutive cycle faults during initialisation (R94). -/
  initFaults : Nat
  /-- PRE may start at an INTAKE_CL at or after this device time; none while no program may start (R92, R93). -/
  startAt : Option Nat
  /-- Half 0. -/
  half0 : Half
  /-- Half 1. -/
  half1 : Half
  /-- The switch window, while open. -/
  window : Option Window
  /-- A rollback that waits for its window. -/
  rollback : Option Rollback
  /-- Fault-free cycles of the trial. -/
  trial : Nat
  /-- The image read by a load in progress, and the signature block that follows it. -/
  loading : List Byte
  /-- The signature block. -/
  loadSig : List Byte
  /-- CYC of the last switch (R466). -/
  switchCyc : Nat
  /-- The next retained copy goes to offset 0x1820 (R90). -/
  copyB : Bool
  /-- The copy engine's last run: where it goes and what stood there before, since it writes a word every 80 ns (R396). -/
  copyRun : Option CopyRun
  /-- The OC_LOAD descriptor that carries the load: its ring and SQ index (R475). -/
  carrier : Option (Nat × Nat)
  deriving DecidableEq, Repr

/-- The Clock Drive at device start. -/
def ClockDrive.init : ClockDrive where
  cyc := 0
  t0 := 0
  pt := 0
  ptAdj := 0
  fastPt := 0
  ticks := 0
  grid := false
  buf := []
  staged := []
  applied := []
  stagedCyc := none
  stageOpen := false
  stageTime := 0
  pre := .idle
  post := .idle
  fast := .idle
  slow := .idle
  preDone := false
  postDone := false
  skip := false
  ovr := false
  prevOvr := false
  fastSkips := 0
  servoHeld := false
  sig := 0
  written := []
  exchange := false
  exRead := []
  exWrite := []
  cmdNew := List.replicate 512 0
  cmdTaken := List.replicate 512 0
  inpNew := List.replicate 256 0
  inpTaken := List.replicate 256 0
  stopped := true
  waiting := none
  initLeft := []
  initStart := 0
  initEntry := (0, 0)
  initFaults := 0
  startAt := none
  half0 := .empty
  half1 := .empty
  window := none
  rollback := none
  trial := 0
  loading := []
  loadSig := []
  switchCyc := 0
  copyB := false
  copyRun := none
  carrier := none

end Sys2Proof.Machine
end

