-- ==== Sys2Proof/Machine/StOrrery.lean ====
section
/-! DEFINITION. The state of the Orrery (04_orrery_solver.md): resident structures, queued and running jobs, and the
results that wait for their consumer.  Real numbers are binary64 codes. -/

namespace Sys2Proof.Machine

/-- A delta record (R160). -/
structure Delta where
  /-- ARRAY. -/
  array : Nat
  /-- INDEX. -/
  index : Nat
  /-- VALUE, binary64. -/
  value : Nat
  deriving DecidableEq, Repr

/-- A structure resident in a slot of an engine (R155 to R158). -/
structure Struct where
  /-- TYPE: 1 QP-ADMM, 2 KF-QR, 3 LAP, 4 SIM. -/
  ty : Nat
  /-- STATE: 1 loaded, 2 factor pending, 3 lost. -/
  state : Nat
  /-- DIM_N. -/
  n : Nat
  /-- DIM_M. -/
  m : Nat
  /-- NNZ_A. -/
  nnzA : Nat
  /-- NNZ_P. -/
  nnzP : Nat
  /-- RHO. -/
  rho : Nat
  /-- SIGMA. -/
  sigma : Nat
  /-- SIZE, the footprint in bytes. -/
  size : Nat
  /-- STRUCT_ID. -/
  sid : Nat
  /-- WARM_ID. -/
  warmId : Nat
  /-- CYC_FACTOR. -/
  cycFactor : Nat
  /-- CYC_SOLUTION. -/
  cycSolution : Nat
  /-- Column pointers of P. -/
  pPtr : List Nat
  /-- Row indices of P. -/
  pIdx : List Nat
  /-- Column pointers of A. -/
  aPtr : List Nat
  /-- Row indices of A. -/
  aIdx : List Nat
  /-- The arrays by their code of R161: QP-ADMM q, l, u, –, P, A, x, y and z at 8; SIM initial state, force, M⁻¹, D_L, D_Q,
  LIMIT_R; KF-QR the factor U at 0. -/
  arr : List (List Nat)
  /-- The factor in use. -/
  factor : List Nat
  /-- Held P and A records (R164). -/
  held : List Delta
  /-- No job has run since the LOAD (R163). -/
  fresh : Bool
  deriving DecidableEq, Repr

/-- Who posted a job, and what its result is for. -/
inductive JobSrc where
  /-- The fusion unit's update, main (0) or partner (1). -/
  | fusion (which : Nat)
  /-- The fusion unit's assignment job. -/
  | assign
  /-- The control engine's primary job. -/
  | control
  /-- Ephemeris, scenario `k`. -/
  | scenario (k : Nat)
  /-- The application cluster, or a cycle core. -/
  | app
  /-- The host, by ring and descriptor number (R474). -/
  | host (ring uid : Nat)
  deriving DecidableEq, Repr

/-- A job descriptor (R165), with the data it points to where a unit of the device or the host interface brings it
along. -/
structure JobDesc where
  /-- TYPE. -/
  ty : Nat
  /-- CTRL. -/
  ctrl : Nat
  /-- SLOT, the plan entry. -/
  slot : Nat
  /-- Engine of TARGET. -/
  eng : Nat
  /-- Structure slot of TARGET. -/
  ss : Nat
  /-- STRUCT_ID. -/
  sid : Nat
  /-- COUNT_A. -/
  countA : Nat
  /-- COUNT_B. -/
  countB : Nat
  /-- DL_OFS. -/
  dlOfs : Nat
  /-- CYC_LO. -/
  cycLo : Nat
  /-- DELTA_ADDR. -/
  deltaAddr : Nat
  /-- DELTA_COUNT. -/
  deltaCount : Nat
  /-- WARM_SRC. -/
  warmSrc : Nat
  /-- PARTNER_ENG. -/
  partner : Nat
  /-- RESULT_ADDR. -/
  resAddr : Nat
  /-- AUX_ADDR. -/
  auxAddr : Nat
  /-- TAG. -/
  tag : Nat
  /-- PARAM0. -/
  param0 : Nat
  /-- PARAM1. -/
  param1 : Nat
  /-- LINK. -/
  link : Nat
  /-- The reserved bytes 60 to 63. -/
  rsv : Nat
  /-- The delta list, where it does not lie in shared SRAM. -/
  deltas : Option (List Delta)
  /-- The block at AUX_ADDR, or the structure image of a LOAD, where it does not lie in memory. -/
  aux : Option (List Byte)
  /-- The structure of a LOAD that a unit of the device built itself. -/
  img : Option Struct
  deriving DecidableEq, Repr

/-- The SIM chained to a QP-ADMM job (R167). -/
structure Chained where
  /-- Its descriptor. -/
  d : JobDesc
  /-- Its submitter. -/
  src : JobSrc
  /-- Its deadline, device time; none where nothing limits it. -/
  dl : Option Nat
  deriving DecidableEq, Repr

/-- A posted job. -/
structure Job where
  /-- Its descriptor. -/
  d : JobDesc
  /-- Its submitter. -/
  src : JobSrc
  /-- Class of R36 (R166). -/
  cls : Nat
  /-- The SIM chained to it (R167). -/
  chain : Option Chained
  /-- Its deadline, device time; none where nothing limits it. -/
  dl : Option Nat
  /-- Its own PRED, without a chained SIM, as of the post (R180). -/
  pred : Nat
  deriving DecidableEq, Repr

/-- A job that runs on an engine. -/
structure Run where
  /-- The engine. -/
  eng : Nat
  /-- The job. -/
  job : Job
  /-- Device time of the grant. -/
  grant : Nat
  /-- Device time at which this part started: the grant, or the start of a chained SIM. -/
  start : Nat
  /-- PRED as of the grant. -/
  pred : Nat
  /-- The delta list, checked. -/
  deltas : List Delta
  /-- The block at AUX_ADDR, or the structure image. -/
  aux : List Byte
  /-- The partner's block, once written (R175). -/
  block : Option (List Nat)
  /-- The force a chained SIM takes from its QP (R167). -/
  force : Option (List Nat)
  /-- The structure loaded by a LOAD. -/
  image : Option Struct
  /-- The other job of a pass 2 pair, granted in the same clock (R189). -/
  mate : Option Job
  /-- The delta list of the SIM chained to it, as read while the QP runs (R179). -/
  simDeltas : List Delta
  deriving DecidableEq, Repr

/-- A result (R168). -/
structure JobRes where
  /-- STATUS. -/
  status : Nat
  /-- FLAGS. -/
  flags : Nat
  /-- DONE_COUNT. -/
  count : Nat
  /-- STRUCT_ID. -/
  sid : Nat
  /-- GRANT_OFS. -/
  grantOfs : Nat
  /-- PRED. -/
  pred : Nat
  /-- RES_PRI. -/
  resPri : Nat
  /-- RES_DUA. -/
  resDua : Nat
  /-- OBJ. -/
  obj : Nat
  /-- Payload. -/
  payload : List Byte
  /-- AUX. -/
  aux : Nat
  /-- SEQ. -/
  seq : Nat
  deriving DecidableEq, Repr

/-- The Orrery beside its registers and its plan windows. -/
structure Orrery where
  /-- Resident structures, by 4 × engine + slot. -/
  structs : List (Nat × Struct)
  /-- Posted jobs that have not been granted, in order of posting. -/
  queue : List Job
  /-- Jobs that run. -/
  runs : List Run
  /-- Plan slots whose release instant has arrived in the cycle, or, of FAST entries, in the fast tick (R189). -/
  released : List Nat
  /-- PLAN_COMMIT waits for the sample instant (R191). -/
  commit : Bool
  /-- It fell in a sample instant's clock: it waits for the one after (R191). -/
  commitLate : Bool
  /-- SOLVE_REL in force, units of 10 µs. -/
  solveRel : Nat
  /-- Results by plan slot since device start: SEQ of R168. -/
  seqs : List (Nat × Nat)
  /-- Results written whose consumer has not acted on them. -/
  done : List (Job × JobRes)
  /-- Which draw the lane registers and the scratch area of an engine hold; one that is not listed has run no job since its
  quadrant powered up (R152, log entry 6). -/
  work : List (Nat × Nat)
  /-- How many draws there were. -/
  draws : Nat
  deriving DecidableEq, Repr

/-- The Orrery at device start. -/
def Orrery.init : Orrery := ⟨[], [], [], [], false, false, 2, [], [], [], 0⟩

/-- A job starts or ends on an engine: its lane registers and its scratch area hold what no rule gives. -/
def Orrery.use (o : Orrery) (eng : Nat) : Orrery :=
  { o with work := (eng, o.draws) :: o.work.filter fun e => e.1 != eng, draws := o.draws + 1 }

end Sys2Proof.Machine
end

