-- ==== Sys2Proof/Machine/StControl.lean ====
section
/-! DEFINITION. The state of the control engine (05_motion_control_allocation.md) and of Ephemeris
(06_ephemeris_power.md) that the registers and windows do not show.  Real quantities are binary64 codes. -/

namespace Sys2Proof.Machine

/-- A motion along one line (R205): start velocity and acceleration, and the phases that follow, each a jerk and a
duration in s. -/
structure Prof where
  /-- Velocity at the start. -/
  v : Nat
  /-- Acceleration at the start. -/
  a : Nat
  /-- Phases: jerk, duration. -/
  phases : List (Nat × Nat)
  deriving DecidableEq, Repr

/-- A line that rests. -/
def Prof.rest : Prof := ⟨0, 0, []⟩

/-- The plan of the horizontal and of the heading profile, each from its own instant on (R206). -/
structure MotionPlan where
  /-- Device time the horizontal plan starts at. -/
  start : Nat
  /-- Start position N, E. -/
  pos : Nat × Nat
  /-- Unit vector of the line, N and E. -/
  dir : Nat × Nat
  /-- Motion along the line. -/
  along : Prof
  /-- Motion across it. -/
  across : Prof
  /-- Device time the heading plan starts at. -/
  turnStart : Nat
  /-- Start heading. -/
  psi : Nat
  /-- Heading motion. -/
  turn : Prof
  deriving DecidableEq, Repr

/-- A plan that rests at the datum. -/
def MotionPlan.rest : MotionPlan := ⟨0, (0, 0), (0, 0), .rest, .rest, 0, 0, .rest⟩

/-- The control engine beside its registers. -/
structure Control where
  /-- The profiles. -/
  plan : MotionPlan
  /-- Targets in force: N, E, ψ. -/
  target : List Nat
  /-- Limits the profiles were planned with: V, A, J horizontal, then heading. -/
  limits : List Nat
  /-- The command block of the previous cycle carried HOLD_HERE: the targets it set are kept. -/
  holding : Bool
  /-- Waypoint of AUTO_TRACK. -/
  wp : Nat
  /-- WP_GEN of the list in progress. -/
  wpGen : Nat
  /-- RISER_VALID of the previous cycle in RISER_FOLLOW. -/
  riserOk : Bool
  /-- Integrators I_c. -/
  integ : List Nat
  /-- The clamp binds on the axis. -/
  clamped : List Bool
  /-- w_lp. -/
  windLp : List Nat
  /-- e_p X, e_p Y, e_psi of the cycle (R209). -/
  err : List Nat
  /-- τ_ref of the cycle, index 3k + c. -/
  tauRef : List Nat
  /-- τ_0 of the last staged set whose SOURCE was primary or fallback; 0 after STANDBY or a commit (R214). -/
  tau0 : List Nat
  /-- Of the previous used solution: τ_ref,0 and τ_0 − s (R212). -/
  prevSol : Option (List Nat × List Nat)
  /-- Cycles that count toward an edge, by thruster: 1 counter-clockwise or 2 clockwise, and the count (R222). -/
  edges : List (Nat × Nat)
  /-- Sectors chosen for the next cycle. -/
  nextSect : List (Nat × Nat)
  /-- Thrusters whose sector records the next delta list carries. -/
  sectDue : List Nat
  /-- Thrusters whose power-row records it carries. -/
  powDue : List Nat
  /-- Thrusters whose polygon records it carries. -/
  polyDue : List Nat
  /-- P is to be sent anew (R210). -/
  wDue : Bool
  /-- The bounds of rows 3 to 59 and the power entries of q are to be sent anew (R210, R214). -/
  hzDue : Bool
  /-- DERATE of the thrusters in the previous cycle. -/
  derates : List Nat
  /-- The primary structure is to be built and loaded. -/
  loadDue : Bool
  /-- That LOAD follows an accepted set (R199). -/
  loadSet : Bool
  /-- A LOAD takes the place of the QP in this cycle. -/
  loadCyc : Bool
  /-- Words 0 to 55 of a used solution of this cycle. -/
  conv : Option (List Word)
  /-- SOLVE_DL of the cycle has passed. -/
  closed : Bool
  /-- SEQ of the last primary result seen. -/
  lastSeq : Nat
  /-- u(j) of the cycle. -/
  u : Nat
  /-- The PRBS shift register. -/
  lfsr : Nat
  /-- Heading at CTL_COL_CYC. -/
  psi0 : Option Nat
  /-- Capture of a run is on. -/
  capture : Bool
  /-- SET_COMMIT fell in a sample instant's clock: it waits for the one after (R199). -/
  setLate : Bool
  /-- The same of PARAM_COMMIT (R210). -/
  parLate : Bool
  deriving DecidableEq, Repr

/-- The control engine at device start. -/
def Control.init : Control where
  plan := .rest
  target := [0, 0, 0]
  limits := [0, 0, 0, 0, 0, 0]
  holding := false
  wp := 0
  wpGen := 0
  riserOk := true
  integ := [0, 0, 0]
  clamped := [false, false, false]
  windLp := [0, 0, 0]
  err := [0, 0, 0]
  tauRef := List.replicate 60 0
  tau0 := [0, 0, 0]
  prevSol := none
  edges := List.replicate 24 (0, 0)
  nextSect := []
  sectDue := []
  powDue := []
  polyDue := []
  wDue := false
  hzDue := false
  derates := List.replicate 24 100
  loadDue := false
  loadSet := false
  loadCyc := false
  conv := none
  closed := false
  lastSeq := 0
  u := 0
  lfsr := 0x7FF
  psi0 := none
  capture := false
  setLate := false
  parLate := false

/-- How a hypothesis was triggered (R248). -/
inductive TrigBy where
  /-- A local discrete input. -/
  | pin
  /-- A thruster loss on a ring. -/
  | ring
  /-- The program. -/
  | program
  deriving DecidableEq, Repr

/-- State of a hypothesis (R248, R249). -/
inductive HypState where
  /-- ARMED. -/
  | armed
  /-- LATCHED: the trigger, and the cycle of the latch. -/
  | latched (by_ : TrigBy) (cyc : Nat)
  /-- RELEASED, with the trigger that must clear. -/
  | released (by_ : TrigBy)
  deriving DecidableEq, Repr

/-- A stored fallback (R247). -/
structure Fallback where
  /-- The solution x. -/
  x : List Nat
  /-- Σ F_i. -/
  force : List Nat
  /-- The slack. -/
  slack : List Nat
  /-- Its CYC. -/
  cyc : Nat
  /-- The result was DEADLINE_ITER. -/
  iter : Bool
  deriving DecidableEq, Repr

/-- The results of a hypothesis in the cycle (R245, R246). -/
structure Scenario where
  /-- A pair was posted. -/
  posted : Bool
  /-- Its structures are loading. -/
  loading : Bool
  /-- STATUS of the QP or of a LOAD that failed. -/
  qp : Option Nat
  /-- STATUS of the SIM. -/
  sim : Option Nat
  /-- FOOTPRINT, MAX_DPSI and T_EXCEED. -/
  out : List Nat
  /-- CAP. -/
  cap : Nat
  deriving DecidableEq, Repr

/-- Nothing posted. -/
def Scenario.none : Scenario := ⟨false, false, Option.none, Option.none, [], 0⟩

/-- One hypothesis. -/
structure Hyp where
  /-- Its state. -/
  st : HypState
  /-- Its stored fallback. -/
  fb : Option Fallback
  /-- Its structures must be loaded before it can be evaluated. -/
  build : Bool
  /-- This cycle. -/
  now : Scenario
  deriving DecidableEq, Repr

/-- A hypothesis at device start. -/
def Hyp.init : Hyp := ⟨.armed, none, true, .none⟩

/-- Ephemeris beside its registers. -/
structure Eph where
  /-- Hypotheses 0 to 62. -/
  hyps : List Hyp
  /-- A table was given, by boot or by the host. -/
  given : Bool
  /-- TABLE_COMMIT fell in a sample instant's clock: it waits for the one after (R238). -/
  tabLate : Bool
  /-- The last valid input block. -/
  input : List Byte
  /-- DRIFT_LIMIT in force, binary64. -/
  drift : Nat
  /-- A hypothesis latched in this cycle. -/
  fresh : Bool
  /-- D_k of the last assertion, kW. -/
  deficit : List Nat
  /-- The load-shed request is to be asserted at the output instant. -/
  lsDue : Bool
  /-- CYC at whose output instant the request is released. -/
  lsEnd : Nat
  /-- Hypotheses that exceeded DRIFT_LIMIT in the last cycle. -/
  exceed : List Nat
  /-- Hypotheses that reported THROTTLED in the last cycle. -/
  throt : List Nat
  deriving DecidableEq, Repr

/-- Ephemeris at device start; 10 m is 0x4024000000000000. -/
def Eph.init : Eph where
  hyps := List.replicate 63 .init
  given := false
  tabLate := false
  input := List.replicate 256 0
  drift := 0x4024000000000000
  fresh := false
  deficit := List.replicate 12 0
  lsDue := false
  lsEnd := 0
  exceed := []
  throt := []

end Sys2Proof.Machine
end

