-- ==== Sys2Proof/Machine/StEth.lean ====
section
/-! DEFINITION. The state of the PTP time base and of the Ethernet ports (10_ethernet_ptp.md) that the registers do
not show. -/

namespace Sys2Proof.Machine

/-- Device time (R370): a 64-bit count of ns and a 28-bit fraction below it. -/
structure DevTime where
  /-- Whole ns since the PTP epoch, TAI. -/
  ns : Nat
  /-- Fraction, units of 2⁻²⁸ ns. -/
  frac : Nat
  deriving DecidableEq, Repr

/-- A requester's latch of bits [63:32] of device time (R376). -/
structure ExtLatch where
  /-- Requester index of R568. -/
  who : Nat
  /-- The latched bits [63:32]. -/
  hi : Nat
  /-- Device time of the read that latched them, ns. -/
  since : Nat
  deriving DecidableEq, Repr

/-- An entry of the transmit timestamp queue (R382). -/
structure TxStamp where
  /-- TS_ID. -/
  tsId : Nat
  /-- The port. -/
  port : Nat
  /-- LOST_BEFORE (R383). -/
  lostBefore : Bool
  /-- The stamp, device time bits [31:0] as R380 corrects it. -/
  stamp : Nat
  /-- Device time of the stamp, ns, for R383's expiry. -/
  since : Nat
  deriving DecidableEq, Repr

/-- The time base beside its registers. -/
structure TimeBase where
  /-- Device time. -/
  now : DevTime
  /-- The rate-limited increment of R375, units of 2⁻²⁸ ns. -/
  rate : Nat
  /-- The slew term of R374, units of 2⁻²⁸ ns per tick, signed. -/
  slew : Int
  /-- The offset still to be removed, units of 2⁻²⁸ ns, signed (R374). -/
  remain : Int
  /-- Steps waiting in LOCKED: the step in ns and the CYC at whose sample instant it applies (R373). -/
  steps : List (Int × Nat)
  /-- The greatest CYC whose CYCLE frames have begun to launch on either ring (R373). -/
  launched : Nat
  /-- A step waiting in FREE for the next CK_TIME tick (R372). -/
  freeStep : Option Int
  /-- The latches of R376. -/
  latches : List ExtLatch
  /-- The transmit timestamp queue, head first (R382). -/
  stamps : List TxStamp
  /-- A read of PTP_TXTS_W0 latched the head. -/
  headLatched : Bool
  /-- The next entry pushed carries LOST_BEFORE. -/
  lostNext : Bool
  deriving DecidableEq, Repr

/-- The time base at device start: the counter starts from 0 (R370). -/
def TimeBase.init : TimeBase := ⟨⟨0, 0⟩, 0x40000000, 0, 0, [], 0, none, [], [], false, false⟩

/-- STATUS of a transmit or launch descriptor (R365). -/
inductive TxStatus where
  /-- 0x0: pending. -/
  | pending
  /-- 0x1. -/
  | sent
  /-- 0x2. -/
  | cancelled
  /-- 0x3. -/
  | late
  /-- 0x4. -/
  | bad
  /-- 0x5. -/
  | aborted
  /-- 0x6. -/
  | sentDelayed
  deriving DecidableEq, Repr

/-- A descriptor the device has taken and not yet completed in ring order. -/
structure TxEntry where
  /-- Its entry in the ring. -/
  index : Nat
  /-- The descriptor. -/
  desc : TxDesc
  /-- Its commit point has been reached (R384). -/
  committed : Bool
  /-- The frame is held back by a collision (R386). -/
  delayed : Bool
  /-- STATUS. -/
  status : TxStatus
  deriving DecidableEq, Repr

/-- The completion of a ring entry, in the order the device writes them (R367). -/
inductive EthDone where
  /-- A transmit (`ring` 0) or launch ring 1 (`ring` 1) descriptor. -/
  | tx (ring index : Nat) (status : TxStatus)
  /-- A receive descriptor (R366): LEN, FLAGS, FILTER, TS and the frame in its buffer. -/
  | rx (index len flags filter ts : Nat) (frame : List Byte)
  /-- A receive descriptor that completed ABORTED. -/
  | rxAborted (index : Nat)
  deriving DecidableEq, Repr

/-- One Ethernet port beside its registers. -/
structure EthPort where
  /-- Transmit descriptors taken, oldest first. -/
  tx : List TxEntry
  /-- Launch ring 1 descriptors taken, oldest first. -/
  lq : List TxEntry
  /-- Launch ring 0: the hardware clients' launches, oldest first. -/
  lq0 : List TxEntry
  /-- LAUNCH_TIME of the last descriptor posted on launch ring 1, and on launch ring 0 (R385). -/
  lastLaunch : Nat × Nat
  /-- Completions written, oldest first. -/
  done : List EthDone
  /-- Frames put on the wire, oldest first, with their FCS. -/
  wire : List (List Byte)
  /-- Device time at which the frame on the wire ends (R386). -/
  busyUntil : Nat
  deriving DecidableEq, Repr

/-- A port at reset. -/
def EthPort.init : EthPort := ⟨[], [], [], (0, 0), [], [], 0⟩

end Sys2Proof.Machine
end

