-- ==== Sys2Proof/Machine/StFusion.lean ====
section
/-! DEFINITION. The state of the fusion unit (03_reference_fusion.md) that the registers and windows do not show.
Real numbers are binary64 codes. -/

namespace Sys2Proof.Machine

/-- A record of the intake queue (R110), with the device time of its arrival. -/
structure FusRec where
  /-- The record. -/
  bytes : List Byte
  /-- Arrival, device time ns. -/
  arrival : Nat
  deriving DecidableEq, Repr

/-- The nominal state at one instant (R117, R126), numbers in binary64. -/
structure Nominal where
  /-- Device time, ns. -/
  time : Nat
  /-- Position N, E, D of CO, m. -/
  pos : List Nat
  /-- Velocity N, E, D, m/s. -/
  vel : List Nat
  /-- Heading, roll and pitch, rad. -/
  att : List Nat
  /-- Angular rate p, q, r, rad/s. -/
  rate : List Nat
  deriving DecidableEq, Repr

/-- The nominal state at rest. -/
def Nominal.zero : Nominal := ⟨0, [0, 0, 0], [0, 0, 0], [0, 0, 0], [0, 0, 0]⟩

/-- An inertial increment that is not wholly integrated (R126). -/
structure Inc where
  /-- Slot 28 or 29. -/
  slot : Nat
  /-- Device time at which its interval starts. -/
  start : Nat
  /-- Device time at which it ends. -/
  stop : Nat
  /-- ns of the interval already integrated. -/
  used : Nat
  /-- The record. -/
  data : List Byte
  deriving DecidableEq, Repr

/-- One row of the update (R130, R131). -/
structure FusRow where
  /-- Its place in R131: 0 heading and MRU, 1 standby inertial, 2 taut wire, optical and other fix, 3 GNSS fix, 4 late,
  5 raw GNSS. -/
  kind : Nat
  /-- Source slot. -/
  slot : Nat
  /-- Record type of its measurement. -/
  ty : Nat
  /-- Satellite system and number for raw GNSS rows. -/
  sat : Nat × Nat
  /-- CN0 of the satellite. -/
  cn0 : Nat
  /-- The row is a pseudorange. -/
  range : Bool
  /-- Window of the measurement (R115). -/
  window : Nat
  /-- Coefficients and right-hand side. -/
  coef : List Nat
  /-- Innovation, variance and ν of pass 1. -/
  innov : Nat × Nat × Nat
  /-- Masked. -/
  masked : Bool
  deriving DecidableEq, Repr

/-- How far the update of the cycle has come (R130). -/
inductive FusPass where
  /-- No update in progress. -/
  | none
  /-- Pass 1 posted; jobs that have not ended. -/
  | first (left : Nat)
  /-- Pass 2 posted. -/
  | second (left : Nat)
  deriving DecidableEq, Repr

/-- A satellite that was excluded (R133). -/
structure SatExcl where
  /-- Slot of its receiver. -/
  slot : Nat
  /-- SYSTEM. -/
  sys : Nat
  /-- SVID. -/
  svid : Nat
  /-- Consecutive cycles excluded. -/
  run : Nat
  /-- It stays excluded for SAT_EXCL_CYC cycles. -/
  long : Bool
  /-- Sample instants left of that, the one after it included. -/
  left : Nat
  deriving DecidableEq, Repr

/-- A track (R145). -/
structure Track where
  /-- Its number, 0 to 63. -/
  num : Nat
  /-- Slot of the optical sensor. -/
  slot : Nat
  /-- Confirmed. -/
  confirmed : Bool
  /-- The reflector it is bound to. -/
  refl : Option Nat
  /-- Position N, E. -/
  pos : Nat × Nat
  /-- Its covariance NN, NE, EE (R143). -/
  cov : List Nat
  /-- Cycles since its birth. -/
  age : Nat
  /-- Cycles in which it was assigned. -/
  hits : Nat
  /-- Consecutive misses. -/
  misses : Nat
  deriving DecidableEq, Repr

/-- An optical return of the cycle, waiting for its assignment (R143). -/
structure OptReturn where
  /-- Slot of the sensor. -/
  slot : Nat
  /-- Measurement time of its scan. -/
  time : Int
  /-- Point N, E. -/
  pos : Nat × Nat
  /-- Covariance of the point, NN, NE, EE. -/
  cov : List Nat
  /-- The raw return: range, bearing, elevation, intensity, float32. -/
  raw : List Word
  /-- SIG_RANGE and SIG_ANG of the scan, float32. -/
  sig : Word × Word
  deriving DecidableEq, Repr

/-- The fusion unit beside its registers, its Reticle windows and its published record. -/
structure Fusion where
  /-- The intake queue. -/
  queue : List FusRec
  /-- SOURCE and T_SAMPLE of the records taken (R111). -/
  taken : List (Nat × Nat)
  /-- The nominal state of the last fast tick. -/
  nominal : Nominal
  /-- The nominal states stored at the fast ticks of the last 9 base cycles, newest first (R126). -/
  history : List Nominal
  /-- The estimated error-state biases and offsets that stay in use: gyro and accelerometer biases, environment force. -/
  bias : List Nat
  /-- The square-root information factor. -/
  factor : List Nat
  /-- Standard deviations of position N, E and heading. -/
  sigma : List Nat
  /-- The inertial unit that propagates: slot 28 or 29. -/
  ins : Nat
  /-- Inertial increments not integrated yet: slot and record. -/
  incs : List Inc
  /-- Device time of the last valid increment of slots 28 and 29. -/
  insSeen : Nat × Nat
  /-- Slots 28 and 29 are valid. -/
  insOk : Bool × Bool
  /-- The pass in progress. -/
  pass : FusPass
  /-- Rows of the update. -/
  rows : List FusRow
  /-- Records of the update, returned to the queue as late samples if it is abandoned (R118). -/
  used : List FusRec
  /-- Optical scans of the cycle's window (R143). -/
  scans : List FusRec
  /-- Motion reference records of the cycle on time, for heave (R141). -/
  mrus : List (List Byte)
  /-- The newest heading records on time (R127). -/
  hdg : List (List Byte)
  /-- The cycle has an update (R118). -/
  due : Bool
  /-- The offsets of the relative references that were initialised, by REL_SLOT (R147). -/
  relSet : List Bool
  /-- The record of the cycle is published. -/
  published : Bool
  /-- The next state record goes to the second of its two buffers (R150). -/
  recB : Bool
  /-- Updates run since ALIGNING began. -/
  updates : Nat
  /-- The last completed pass 2 did not belong to the last update: PROP_FIRST (R176). -/
  propFirst : Bool
  /-- The KF-QR structures were loaded. -/
  ready : Bool
  /-- The assignment structure was loaded. -/
  lapReady : Bool
  /-- Heave and heave rate at CO. -/
  heave : Nat × Nat
  /-- Wind speed and direction. -/
  wind : Option (Nat × Nat)
  /-- Riser upper N, E, lower N, E. -/
  riser : List Nat
  /-- Rows shed from the update (R131). -/
  shed : Nat
  /-- A position reference contributed a row in the cycle (R139). -/
  contributed : Bool
  /-- RESET_FILTER waits for the sample instant (R147). -/
  resetPend : Bool
  /-- RET_COMMIT waits for the sample instant (R124). -/
  retPend : Bool
  /-- DATUM_COMMIT waits for the sample instant (R148). -/
  datumPend : Bool
  /-- RET_COMMIT fell in a sample instant's clock: it waits for the one after (R124). -/
  retLate : Bool
  /-- The same of DATUM_COMMIT (R148). -/
  datumLate : Bool
  /-- Device time of the newest riser record. -/
  riserAt : Option Nat
  /-- Measurement time of the riser record whose angles are published. -/
  riserPub : Option Int
  /-- Of each slot: 0 where it need not qualify, else 1 + its consecutive qualifying cycles (R138). -/
  qual : List Nat
  /-- Excluded satellites. -/
  sats : List SatExcl
  /-- Tracks, in order of birth. -/
  tracks : List Track
  /-- Optical returns of the cycle. -/
  returns : List OptReturn
  /-- Assigned returns of bound tracks, rows of the next update (R144). -/
  optRows : List (Nat × OptReturn)
  /-- Those in the update in progress. -/
  optUsed : List (Nat × OptReturn)
  /-- Those of an abandoned update, late samples of the next (R118). -/
  optLate : List (Nat × OptReturn)
  /-- The Lap job of the cycle has given its result. -/
  lapDone : Bool
  /-- A datum applied in this cycle. -/
  datumNew : Bool
  /-- The datum in force: latitude, longitude, height. -/
  datum : List Word
  /-- CYC of the last published record, for the latch of FUS_STATE_CYC_HI. -/
  pubCyc : Nat
  deriving DecidableEq, Repr

/-- The fusion unit at device start. -/
def Fusion.init : Fusion where
  queue := []
  taken := []
  nominal := .zero
  history := []
  bias := []
  factor := []
  sigma := [0, 0, 0]
  ins := 28
  incs := []
  insSeen := (0, 0)
  insOk := (false, false)
  pass := .none
  rows := []
  used := []
  scans := []
  mrus := []
  hdg := []
  due := false
  relSet := [false, false]
  published := false
  recB := false
  updates := 0
  propFirst := true
  ready := false
  lapReady := false
  heave := (0, 0)
  wind := none
  riser := [0, 0, 0, 0]
  shed := 0
  contributed := false
  resetPend := false
  retPend := false
  datumPend := false
  retLate := false
  datumLate := false
  riserAt := none
  riserPub := none
  qual := List.replicate 32 0
  sats := []
  tracks := []
  returns := []
  optRows := []
  optUsed := []
  optLate := []
  lapDone := false
  datumNew := false
  datum := []
  pubCyc := 0

end Sys2Proof.Machine
end

