-- ==== Sys2Proof/Machine/StGuard.lean ====
section
/-! DEFINITION. The state of the Rhauf guard (07_rhauf_guard_safety.md) that its mirror does not show. -/

namespace Sys2Proof.Machine

/-- A heartbeat word with the guard time it arrived at. -/
structure Beat where
  /-- The word. -/
  word : Word
  /-- Guard time of its arrival, ns. -/
  time : Nat
  deriving DecidableEq, Repr

/-- The guard beside its mirror. -/
structure Guard where
  /-- VDD_GUARD is valid. -/
  powered : Bool
  /-- Setting of the strap pins GH_SLEW1 and GH_SLEW0, read at guard power-up (R543). -/
  slew : Fin 4
  /-- Bytes the load port has taken, at most 688 (R268). -/
  image : List Byte
  /-- The reference set (R275): the last set released that was not withdrawn. -/
  refSet : Option (List (Nat × Word))
  /-- The reference set before the last release, which a withdraw restores. -/
  prevRef : Option (List (Nat × Word))
  /-- A set was released for the cycle in progress and not withdrawn. -/
  released : Bool
  /-- The decision on the cycle in progress has been made: it is final (R277). -/
  decided : Bool
  /-- Device time of the last decision. -/
  decideAt : Int
  /-- The last accepted Clock Drive heartbeat (R279). -/
  beat : Option Beat
  /-- Device time at which it was accepted. -/
  beatAt : Int
  /-- The last supervisor word (R280). -/
  sv : Option Beat
  /-- Trip causes present now, bits as in GRD_CAUSE. -/
  present : Nat
  /-- Trip causes latched and not cleared (R281). -/
  latched : Nat
  /-- Device time of the first degraded cause (R287). -/
  degStart : Option Int
  /-- The unit held INTLK when it entered DEGRADED, and has not released it since (R266). -/
  degClaim : Bool
  /-- A withheld cycle holds (R262). -/
  withheld : Bool
  /-- Qualifying cycles in a row in SAFE (R265). -/
  qualify : Nat
  /-- EDS_IN is at its active level. -/
  eds : Bool
  /-- GUARD_TRIP is at its active level. -/
  gt : Bool
  /-- Device time at which EDS_IN outlasts its filter; none while its cause does not wait for that (R283). -/
  edsAt : Option Int
  /-- Device time at which GUARD_TRIP outlasts its filter; none while its cause does not wait for that (R283). -/
  gtAt : Option Int
  /-- The readback of GUARD_HOLD0 differs from its drive. -/
  bad0 : Bool
  /-- The readback of GUARD_HOLD1 differs from its drive. -/
  bad1 : Bool
  deriving DecidableEq, Repr

/-- The guard as it powers up at a device power-on (R265). -/
def Guard.init : Guard where
  powered := true
  slew := 0
  image := []
  refSet := none
  prevRef := none
  released := false
  decided := false
  decideAt := 0
  beat := none
  beatAt := 0
  sv := none
  present := 0
  latched := 0
  degStart := none
  degClaim := false
  withheld := false
  qualify := 0
  eds := false
  gt := false
  edsAt := none
  gtAt := none
  bad0 := false
  bad1 := false

end Sys2Proof.Machine
end

