-- ==== Sys2Proof/Machine/StHost.lean ====
section
/-! DEFINITION. The state of the host interface (14_host_interface.md) and of the Almanac and Plate capture
(15_almanac_plate_capture.md) that the registers do not show. -/

namespace Sys2Proof.Machine

/-- Where a submitted descriptor stands (R473). -/
inductive DescPhase where
  /-- Fetched, not yet dispatched. -/
  | fetched
  /-- Dispatched and running. -/
  | running
  /-- Ended; its completion waits for its turn in ring order. -/
  | ended
  deriving DecidableEq, Repr

/-- A descriptor in flight: the submission entry of R464, and what its completion will say (R466). -/
structure HostDesc where
  /-- Which of the entries the ring has taken it is, counted from the ring's reset: unlike its SQ index, no two descriptors
  in flight share it. -/
  uid : Nat
  /-- SQ index of the descriptor. -/
  sqIdx : Nat
  /-- CID, 0xFFFF if the entry could not be fetched. -/
  cid : Nat
  /-- OPCODE, 0xFF if the entry could not be fetched. -/
  opcode : Nat
  /-- FLAGS. -/
  flags : Nat
  /-- ADDR, the host address of the opcode's data. -/
  addr : Nat
  /-- LEN, bytes at ADDR. -/
  len : Nat
  /-- PARAM, bytes 24 to 63. -/
  param : List Byte
  /-- Where it stands. -/
  phase : DescPhase
  /-- STATUS of R467. -/
  status : Nat
  /-- DETAIL of R465. -/
  detail : Nat
  /-- INFO of R466, bytes 32 to 63. -/
  info : List Byte
  deriving DecidableEq, Repr

/-- A read of host memory that failed once and will be retried (R481). -/
inductive HostRead where
  /-- The fetch of the next entry of a ring. -/
  | fetch
  /-- The data read of the descriptor with this number. -/
  | data (uid : Nat)
  deriving DecidableEq, Repr

/-- Ring k: what the pointer unit keeps beside HIF_Rk_STATUS (R471). -/
structure Ring where
  /-- The last SQ_TAIL accepted. -/
  sqTail : Nat
  /-- The last CQ_HEAD accepted. -/
  cqHead : Nat
  /-- Fetched descriptors without a written completion, in ring order. -/
  flight : List HostDesc
  /-- Completions written since the last message (R479). -/
  irqCount : Nat
  /-- Device time of the first of them. -/
  irqSince : Nat
  /-- The host read that failed once (R481). -/
  retry : Option HostRead
  /-- Device time at which it failed. -/
  retryAt : Nat
  /-- Device time from which a read of the ring can be in progress: its last doorbell, or the read before. -/
  readFrom : Nat
  /-- Entries taken. -/
  taken : Nat
  /-- A QP-ADMM job with CHAIN that waits for the descriptor after it (R167): its number, and its job descriptor. -/
  chained : Option (Nat × JobDesc)
  deriving DecidableEq, Repr

/-- A ring at reset. -/
def Ring.init : Ring := ⟨0, 0, [], 0, 0, none, 0, 0, 0, none⟩

/-- A memory read request sent to the host (R460). -/
structure ReadReq where
  /-- Host address. -/
  addr : Nat
  /-- Bytes. -/
  len : Nat
  /-- Its relaxed ordering attribute. -/
  relaxed : Bool
  deriving DecidableEq, Repr

/-- One request of the posted-write queue (R480).  No write carries a relaxed or ID-based ordering attribute (R460). -/
inductive Posted where
  /-- Data written to host memory. -/
  | write (addr : Nat) (bytes : List Byte)
  /-- The MSI-X message of a vector. -/
  | message (vector : Nat)
  deriving DecidableEq, Repr

/-- The host interface beside its registers. -/
structure HostIf where
  /-- Rings 0 to 15. -/
  rings : List Ring
  /-- Requests produced and not yet sent, oldest first (R480, R482). -/
  posted : List Posted
  /-- Requests sent to the host, oldest first. -/
  sent : List Posted
  /-- Read requests sent to the host, oldest first. -/
  reads : List ReadReq
  /-- Descriptors of the old link that have not ended inside the device (R484). -/
  oldLink : Nat
  /-- The ring whose fetch was served last: the rings with work take turns from the next one on (R38, R472). -/
  lastFetch : Nat
  deriving DecidableEq, Repr

/-- The host interface at reset: ring 0 has the first turn (DESIGN CHOICE, log entry 29). -/
def HostIf.init : HostIf := ⟨List.replicate 16 Ring.init, [], [], [], 0, 15⟩

/-- What the endpoint says of itself in its configuration space (R460). -/
structure PcieId where
  /-- Vendor ID. -/
  vendor : Nat
  /-- Device ID. -/
  device : Nat
  /-- Class code. -/
  classCode : Nat
  /-- Revision ID. -/
  revision : Nat
  /-- Subsystem vendor and device ID. -/
  subsys : Nat × Nat
  /-- The Device Serial Number capability. -/
  serial : Nat
  /-- MSI-X vectors. -/
  vectors : Nat
  /-- Physical functions. -/
  functions : Nat
  /-- SR-IOV, ATS, PASID and MSI. -/
  options : Bool × Bool × Bool × Bool
  /-- Lane counts of a link. -/
  widths : List Nat
  /-- Link speeds: Gen1 to Gen4. -/
  speeds : List Nat
  /-- Lane reversal and polarity inversion. -/
  reversal : Bool × Bool
  /-- Power states, D numbers. -/
  states : List Nat
  /-- ASPM L0s and L1. -/
  aspm : Bool × Bool
  /-- Interrupt Pin; 0: no INTx. -/
  intPin : Nat
  /-- Max payload size supported, bytes. -/
  maxPayload : Nat
  /-- Memory read requests outstanding at once. -/
  maxReads : Nat
  /-- Bits of a tag. -/
  tagBits : Nat
  /-- Completion timeout ranges supported, µs from and to. -/
  timeoutRanges : List (Nat × Nat)
  /-- The completion timeout's default, µs. -/
  timeout : Nat
  /-- Bytes of BAR0/1, BAR2/3 and BAR4/5; 0: not implemented (R461). -/
  bars : Nat × Nat × Nat
  deriving DecidableEq, Repr

/-- An Almanac record (R486); its CRC is computed where the record is read or written. -/
structure AlmRec where
  /-- CODE. -/
  code : Nat
  /-- Severity of R488. -/
  sev : Nat
  /-- Class of R487. -/
  cls : Nat
  /-- Source unit number of R489. -/
  source : Nat
  /-- Device time of the first occurrence, ns. -/
  time : Nat
  /-- CYC of the cycle holding TIME. -/
  cyc : Nat
  /-- Parameter 0. -/
  p0 : Word
  /-- Parameter 1. -/
  p1 : Word
  /-- Parameter 2. -/
  p2 : Word
  /-- REPEAT. -/
  rep : Nat
  deriving DecidableEq, Repr

/-- A record held by the intake: the epoch of device time it was stamped in, and the record (R490). -/
structure HeldRec where
  /-- Epoch of device time. -/
  epoch : Nat
  /-- The record. -/
  body : AlmRec
  /-- It is the time base's record of the step that began its epoch, EV164 (R490). -/
  step : Bool
  deriving DecidableEq, Repr

/-- A record in the ring, with its sequence number (R490). -/
structure RingRec where
  /-- SEQ. -/
  seq : Nat
  /-- Epoch of device time. -/
  epoch : Nat
  /-- The record. -/
  body : AlmRec
  /-- The record is in the flash log (R496). -/
  flushed : Bool
  deriving DecidableEq, Repr

/-- One sector operation of the octal-SPI flash (R497). -/
inductive FlashOp where
  /-- Append records to one sector of the log: where the bytes go, the bytes, whether the sector is opened with them, and the SEQ of
  the records. -/
  | log (addr : Nat) (bytes : List Byte) (erase : Bool) (seqs : List Nat)
  /-- One 4 KiB sector of a host FLASH_WRITE: ring, descriptor number, flash offset, data, and whether it is the last. -/
  | host (ring uid addr : Nat) (bytes : List Byte) (last : Bool)
  deriving DecidableEq, Repr

/-- The memories of the device that hold bytes. -/
structure Memory where
  /-- The 16 MiB shared SRAM, by offset. -/
  sram : List Host.Cell
  /-- The DDR, by DDR address. -/
  ddr : List Host.Cell
  /-- The octal-SPI flash, by flash offset. -/
  flash : List Host.Cell
  /-- Meridian retained SRAM, by offset. -/
  retained : List Host.Cell
  /-- Bytes of DDR fitted on the board, at most 8 GiB. -/
  ddrBytes : Nat
  /-- Bytes of the octal-SPI flash, at most 512 MiB (R504). -/
  flashSize : Nat
  deriving DecidableEq, Repr

/-- Every memory with nothing listed, and 8 GiB of DDR and 512 MiB of flash fitted (DESIGN CHOICE, log entry 4). -/
def Memory.init : Memory := ⟨[], [], [], [], 8 * 2 ^ 30, 0x20000000⟩

/-- Where Plate capture stands (R499). -/
inductive PlatePhase where
  /-- No capture since device start. -/
  | idle
  /-- Steps 1 to 5 done; the region is being copied to flash. -/
  | copying
  /-- The capture has ended; a Meridian Cycle was issued. -/
  | done
  deriving DecidableEq, Repr

/-- The Almanac, the flash queue and Plate capture beside their registers. -/
structure Almanac where
  /-- Records held by the intake, in release order (R490). -/
  held : List HeldRec
  /-- Records in the ring, in SEQ order. -/
  ring : List RingRec
  /-- Epoch of device time (R490). -/
  epoch : Nat
  /-- The intake is frozen by Plate capture (R499). -/
  frozen : Bool
  /-- Reads in progress: requester index and the S each started with (R494). -/
  reads : List (Nat × Nat)
  /-- Flash offset and bytes of the log region, none with no log (R514). -/
  logRegion : Option (Nat × Nat)
  /-- Flash offset of the open log sector, none before the first. -/
  logSector : Option Nat
  /-- Records in the open sector. -/
  logFill : Nat
  /-- SECTOR_SEQ of the open sector (R495). -/
  logSeq : Nat
  /-- Records overwritten unflushed since the open sector opened (R495). -/
  logUnflushed : Nat
  /-- The UNFLUSHED that the header of the sector being opened gives. -/
  headUnflushed : Nat
  /-- The sector operation in progress (R497). -/
  flashCur : Option FlashOp
  /-- SEQ of the records that wait to be appended to the log, in SEQ order. -/
  flashLog : List Nat
  /-- Host and Plate sector operations waiting, in request order. -/
  flashHost : List FlashOp
  /-- The last operation taken was not a flush: when both wait, they alternate (R497). -/
  lastHost : Bool
  /-- Where Plate capture stands. -/
  plate : PlatePhase
  /-- Flash offset and bytes of the Plate area (R514). -/
  plateArea : Option (Nat × Nat)
  deriving DecidableEq, Repr

/-- The Almanac at reset. -/
def Almanac.init : Almanac :=
  ⟨[], [], 0, false, [], none, none, 0, 0, 0, 0, none, [], [], false, .idle, none⟩

end Sys2Proof.Machine
end

