-- ==== Sys2Proof/Machine/StIo.lean ====
section
/-! DEFINITION. The state of the CAN FD controllers, the UARTs and the discrete pins (12_can_serial_discrete.md) that the
registers do not show. -/

namespace Sys2Proof.Machine

/-- A CAN frame that the controller has sent (R412). -/
structure CanSent where
  /-- 29-bit identifier. -/
  ide : Bool
  /-- FD frame. -/
  fdf : Bool
  /-- The bit rate switches in the data phase. -/
  brs : Bool
  /-- Remote frame. -/
  rtr : Bool
  /-- The error state indicator: the sender is error passive. -/
  esi : Bool
  /-- The identifier, coded as the object's ID word. -/
  id : Word
  /-- Data length code. -/
  dlc : Nat
  /-- Data bytes. -/
  data : List Byte
  deriving DecidableEq, Repr

/-- One CAN controller beside its registers and objects. -/
structure Can where
  /-- TEC (R420). -/
  tec : Nat
  /-- REC (R420). -/
  recv : Nat
  /-- The shadow frames, by object (R416). -/
  shadows : List (Nat × CanFrame)
  /-- Device time at which an object's LOCK was set, by object (R417). -/
  locks : List (Nat × Nat)
  /-- Attempts left for a pending object, by object; none is without limit (R418). -/
  attempts : List (Nat × Option Nat)
  /-- The object whose cancel waits for the end of arbitration (R419). -/
  cancelWait : Option Nat
  /-- The objects that became pending since the bus was last heard, oldest first, those of one write together: the frame on the wire may
  have begun before a later one of them (R418). -/
  fresh : List (List Nat)
  /-- Frames sent in full, oldest first (R412). -/
  wire : List CanSent
  deriving DecidableEq, Repr

/-- A CAN controller at reset. -/
def Can.init : Can := ⟨0, 0, [], [], [], none, [], []⟩

/-- A rate of turn kept for the next heading (R428): the rate as a fraction, and the time its sentence began. -/
structure RotRec where
  /-- Numerator, degrees per minute. -/
  num : Int
  /-- Denominator. -/
  den : Nat
  /-- Device time of the sentence. -/
  time : Nat
  deriving DecidableEq, Repr

/-- One UART beside its registers. -/
structure Uart where
  /-- Characters of the sentence in progress, start character first; empty outside a sentence (R426). -/
  line : List Byte
  /-- Device time of the sentence's start character (R427). -/
  lineTime : Nat
  /-- A character of the sentence carried an error. -/
  lineBad : Bool
  /-- Bytes of the raw entry in progress (R431). -/
  raw : List Byte
  /-- Device time of the raw entry's first byte. -/
  rawTime : Nat
  /-- The last accepted ROT sentence of status A. -/
  rot : Option RotRec
  /-- SEQ of the next record. -/
  seq : Nat
  /-- Device time of the last character received. -/
  lastChar : Nat
  /-- The transmit FIFO, oldest byte first. -/
  fifo : List Byte
  /-- Bytes sent on SER_TX, oldest first. -/
  sent : List Byte
  /-- SER_DE: the transmitter's driver enable (R424). -/
  de : Bool
  deriving DecidableEq, Repr

/-- A UART at reset. -/
def Uart.init : Uart := ⟨[], 0, false, [], 0, none, 0, 0, [], [], false⟩

/-- The claimant that owns a pin: class and requester index (R435). -/
structure PinOwner where
  /-- Class of R36. -/
  cls : Nat
  /-- Requester index of R435. -/
  idx : Nat
  deriving DecidableEq, Repr

/-- One discrete pin beside its registers. -/
structure Pin where
  /-- The filtered level, after INV (R432). -/
  level : Bool
  /-- Edges since the last sample instant, modulo 256 (R433). -/
  edges : Nat
  /-- There was an edge toward 0 and one toward 1 since the last sample instant. -/
  toward : Bool × Bool
  /-- The same of the last interval between two sample instants (R248). -/
  latched : Bool × Bool
  /-- Stamp of the last edge, 0 before the first. -/
  stamp : Nat
  /-- The counter of the edges EDGE selects (R82). -/
  count : Nat
  /-- The direct claim: who wrote the set bit of DIO_CLAIM last (R435). -/
  claim : Option PinOwner
  /-- The owner, as last settled. -/
  owner : Option PinOwner
  /-- The value the staged outputs last gave the pin (R434). -/
  staged : Bool
  deriving DecidableEq, Repr

/-- A pin at reset. -/
def Pin.init : Pin := ⟨false, 0, (false, false), (false, false), 0, 0, none, none, false⟩

/-- The discrete pins. -/
structure Dio where
  /-- DIO0 to DIO63. -/
  pins : List Pin
  /-- The block core 1 reads at 0x2FFF_E800: per pin the words laid out as DIO_LATA and DIO_LATB (R433). -/
  fast : List (Word × Word)
  /-- The load-shed request as it stands on LS_PIN (R256). -/
  lsOut : Bool
  deriving DecidableEq, Repr

/-- The discrete pins at reset. -/
def Dio.init : Dio := ⟨List.replicate 64 .init, List.replicate 64 (0, 0), false⟩

end Sys2Proof.Machine
end

