-- ==== Sys2Proof/Machine/StMer.lean ====
section
/-! DEFINITION. The state of Meridian (11_meridian_backup.md) that its registers do not show. -/

namespace Sys2Proof.Machine

/-- An entry of the event FIFO (R406): the three words, VALID apart. -/
structure EviEntry where
  /-- Word 0 without VALID. -/
  w0 : Nat
  /-- Word 1. -/
  w1 : Nat
  /-- Word 2, DT. -/
  w2 : Nat
  deriving DecidableEq, Repr

/-- The sequence that drives PWR_ON_REQ low (R409). -/
inductive PwrSeq where
  /-- No sequence in force. -/
  | none
  /-- Cycle. -/
  | cycle
  /-- Sleep. -/
  | sleep
  /-- Brown-out restart. -/
  | brownOut
  deriving DecidableEq, Repr

/-- A requester's calendar shadows (R399). -/
structure MerShadow where
  /-- Requester index of R568. -/
  who : Nat
  /-- MER_TIME as latched. -/
  time : Nat
  /-- MER_DATE as latched. -/
  date : Nat
  deriving DecidableEq, Repr

/-- Meridian beside its registers. -/
structure Meridian where
  /-- VDD_AON is valid. -/
  aonValid : Bool
  /-- The switch selects VBAT. -/
  onVbat : Bool
  /-- The interface lockout is asserted (R391, R393). -/
  lockout : Bool
  /-- VDD_AON is above its warning level (R391). -/
  aboveWarn : Bool
  /-- Device time from which VDD_AON has been valid and above its warning level without a break (R393). -/
  cleanFrom : Nat
  /-- The events met on VBAT, for the next device start: number, severity and parameter 0 (R411). -/
  kept : List (Nat × Nat × Nat)
  /-- The switch took VBAT since the last device start (EV176). -/
  wasOnVbat : Bool
  /-- VDD_AON fell below its valid level within the 50 µs, for EV183 at the next device start (R391, R411). -/
  fastFell : Bool
  /-- The event FIFO, oldest first (R405). -/
  fifo : List EviEntry
  /-- The head is latched (R407). -/
  latched : Bool
  /-- The next entry pushed carries LOST_BEFORE. -/
  lostNext : Bool
  /-- The pending shift, ticks (R401). -/
  shift : Option Int
  /-- HALT was cleared with REL_EVI0: counting resumes at the next EVI0 edge taken (R400). -/
  resume : Bool
  /-- Wraps since the compensation window started (R403). -/
  winSec : Nat
  /-- N of the window in force: MER_TEMP shows it. -/
  winN : Int
  /-- Calendar shadows of the requesters that have read MER_SUBSEC. -/
  shadows : List MerShadow
  /-- PWR_ON_REQ is driven low (R408). -/
  low : Bool
  /-- The sequence in force. -/
  seq : PwrSeq
  /-- OFF_TIME is running. -/
  offRun : Bool
  /-- WAKE_SRC for the next start. -/
  wake : Nat
  /-- REASON of the last Cycle or Sleep. -/
  reason : Nat
  deriving DecidableEq, Repr

/-- Meridian after it powered up from no supply, as VDD_AON becomes valid: lockout asserted. -/
def Meridian.init : Meridian where
  aonValid := true
  onVbat := false
  lockout := true
  aboveWarn := true
  cleanFrom := 0
  kept := []
  wasOnVbat := false
  fastFell := false
  fifo := []
  latched := false
  lostNext := false
  shift := none
  resume := false
  winSec := 0
  winN := 0
  shadows := []
  low := false
  seq := .none
  offRun := false
  wake := 0
  reason := 0

end Sys2Proof.Machine
end

