-- ==== Sys2Proof/Machine/StPow.lean ====
section
/-! DEFINITION. The state of the power controller, the clock block and the diode sensor
(17_power_clocks_thermal_emc.md) that the registers do not show. -/

namespace Sys2Proof.Machine

/-- The power controller beside its registers. -/
structure Power where
  /-- The last conversions, newest first, at most 8, units of 0.125 °C (R537). -/
  convs : List Int
  /-- A throttle step change that is due at the next sample instant: its new step (R540). -/
  stepDue : Option Nat
  /-- Device time at which the count of DWELL started; none while none runs. -/
  dwellFrom : Option Nat
  /-- The count is that of a mean below 110 °C. -/
  dwellDown : Bool
  /-- Device time at which the step last changed, for THM_CNT. -/
  stepFrom : Nat
  /-- Device time of the shut-down request (R542). -/
  shutAt : Option Nat
  /-- Domains that wait to be powered, in the order of R529; the first is being powered. -/
  queue : List Nat
  /-- The spread depth before the last change, and the depth in force: 0 with EN 0 (R533, R534). -/
  oldDepth : Nat
  /-- The depth in force, or ramped to. -/
  newDepth : Nat
  /-- The depth that CLK_SSC asks for, while a change waits. -/
  asked : Nat
  /-- A change is pending: CLK_SSC was written since the last sample instant. -/
  sscPend : Bool
  /-- The 1 ms ramp runs. -/
  ramping : Bool
  /-- Device time at which the ramp started. -/
  rampFrom : Nat
  /-- The supervisor no longer writes its heartbeat (R535, R549). -/
  svStopped : Bool
  /-- The root has stopped, and the supervisor core with its clock (R535). -/
  svDead : Bool
  /-- A Meridian Cycle is due 100 ms after a failure. -/
  cycleDue : Bool
  /-- Device time of that failure. -/
  cycleFrom : Nat
  /-- THM_STATUS.STEP holds 2 for a sensor fault (R540). -/
  faultStep : Bool
  /-- The strap REF_SEL, which the board ties: an oscillator on REF_XI (R555). -/
  refSel : Bool
  deriving DecidableEq, Repr

/-- The power controller at device start. -/
def Power.init : Power where
  convs := []
  stepDue := none
  dwellFrom := none
  dwellDown := false
  stepFrom := 0
  shutAt := none
  queue := []
  oldDepth := 5
  newDepth := 5
  asked := 5
  sscPend := false
  ramping := false
  rampFrom := 0
  svStopped := false
  svDead := false
  cycleDue := false
  cycleFrom := 0
  faultStep := false
  refSel := false

end Sys2Proof.Machine
end

