-- ==== Sys2Proof/Machine/StRdn.lean ====
section
/-! DEFINITION. The state of the redundancy manager (08_redundancy_takeover.md) that the registers do not show. -/

namespace Sys2Proof.Machine

/-- One fragment of a mirror record (R302). -/
structure MirFrag where
  /-- The port it came in on. -/
  port : Nat
  /-- CYC bits [31:0] of the record. -/
  cycLo : Nat
  /-- KIND: 1 state, 2 compare. -/
  kind : Nat
  /-- Fragment index. -/
  index : Nat
  /-- Fragment count. -/
  count : Nat
  /-- Bytes of the record in this frame. -/
  bytes : List Byte
  deriving DecidableEq, Repr

/-- What the unit keeps of the last valid state record (R306, R310). -/
structure StateRec where
  /-- Rank of its sender. -/
  rank : Nat
  /-- CYC. -/
  cyc : Nat
  /-- The record carried HANDOVER. -/
  handover : Bool
  /-- A lower-ranked standby asked for revertive return in the same cycle. -/
  revert : Bool
  /-- CFG_EPOCH. -/
  epoch : Nat
  /-- PROGRAM_ID. -/
  progId : Nat
  /-- VERSION. -/
  version : Nat
  /-- GUARD_CV. -/
  guardCv : Nat
  /-- SET_ID. -/
  setId : Nat
  deriving DecidableEq, Repr

/-- What a compare record of this cycle told of a partner. -/
structure PartnerNow where
  /-- A compare record of this cycle arrived. -/
  fresh : Bool
  /-- FIT. -/
  fit : Bool
  /-- REVERT_REQ. -/
  revert : Bool
  /-- REH_SEEN. -/
  rehSeen : Bool
  /-- NO_SET. -/
  noSet : Bool
  deriving DecidableEq, Repr

/-- Nothing heard this cycle. -/
def PartnerNow.none : PartnerNow := ⟨false, false, false, false, false⟩

/-- The redundancy manager beside its registers. -/
structure Rdn where
  /-- INTLK_OUT is driven low: the unit claims (R294). -/
  out : Bool
  /-- Device time at which the claim was driven. -/
  claimAt : Nat
  /-- Device time at which the unit last entered STANDBY (R310, F5). -/
  entered : Nat
  /-- Consecutive cycles without a partner claim or a state record since then (R312). -/
  quiet : Nat
  /-- A partner claim was read at a claim instant, or a state record arrived, since then. -/
  heard : Bool
  /-- Partners at INTLK_IN0 and INTLK_IN1 whose records announced a rehearsal for the next cycle, and for this one. -/
  rehNext : Bool × Bool
  /-- For this one. -/
  rehNow : Bool × Bool
  /-- Device time at which the last state record arrived. -/
  lastAt : Nat
  /-- The last valid state record. -/
  last : Option StateRec
  /-- A valid state record of the cycle in progress arrived (R311). -/
  gotState : Bool
  /-- The verdict of shadow compare on the cycle in progress; none is neither a match nor a mismatch. -/
  verdict : Option Bool
  /-- Staged words 0 to 55 of the last valid state record (R306, R307). -/
  base : Option (List (Nat × Word))
  /-- CYC, PT and PT_ADJ to adopt at the next sample instant (R306). -/
  resync : Option (Nat × Nat × Int)
  /-- A resynchronisation took place in the cycle (R311). -/
  resynced : Bool
  /-- The retained copy to restore before the next INTAKE_CL (R306). -/
  retained : List Byte
  /-- Consecutive compare records whose OWN_LINE disagreed with INTLK_IN0, and with INTLK_IN1 (F7). -/
  lineErr : Nat × Nat
  /-- The line flags sampled at STAGE_DL: own, IN0, IN1 (R303). -/
  lines : Bool × Bool × Bool
  /-- The partners at INTLK_IN0 and INTLK_IN1 in this cycle. -/
  now0 : PartnerNow
  /-- The second. -/
  now1 : PartnerNow
  /-- The unit was ACTIVE at STAGE_DL of the cycle (R293). -/
  activeAtStage : Bool
  /-- A rehearsal pulse of a partner was seen in the cycle (R303, REH). -/
  rehSeen : Bool
  /-- The unit's own rehearsal pulse of the cycle (R317): read back, claim enable, FIT. -/
  rehPulse : Option (Bool × Bool × Bool)
  /-- Mirror ports of the partner at INTLK_IN0 and at INTLK_IN1 (R297). -/
  ports : Nat × Nat
  /-- Fragments of records that are not complete. -/
  frags : List MirFrag
  /-- The next state record carries HANDOVER (R315). -/
  handing : Bool
  /-- The configuration image asks for diagnostic role (R292). -/
  diagRole : Bool
  deriving DecidableEq, Repr

/-- The redundancy manager at device start. -/
def Rdn.init : Rdn where
  out := false
  claimAt := 0
  entered := 0
  quiet := 0
  heard := false
  rehNext := (false, false)
  rehNow := (false, false)
  lastAt := 0
  last := none
  gotState := false
  verdict := none
  base := none
  resync := none
  resynced := false
  retained := []
  lineErr := (0, 0)
  lines := (false, false, false)
  now0 := .none
  now1 := .none
  activeAtStage := false
  rehSeen := false
  rehPulse := none
  ports := (3, 2)
  frags := []
  handing := false
  diagRole := false

end Sys2Proof.Machine
end

