-- ==== Sys2Proof/Machine/StSdf.lean ====
section
/-! DEFINITION. The state of the sigma-delta chains (13_sigma_delta_filters.md) that the registers, buffers and
coefficient store do not show.  Samples are Q1.23 as integers. -/

namespace Sys2Proof.Machine

/-- One FIR stage of a chain (R449). -/
structure FirStage where
  /-- The delay line, newest input first, at most 64. -/
  line : List Int
  /-- The active bank: B. -/
  act : Bool
  /-- A SEL change may start its fade: with AT_SI, from the next sample instant on (R450). -/
  armed : Bool
  /-- Outputs of the stage, within the chain's running output, that came before the change was made or its sample instant (R450). -/
  after : Nat
  /-- Outputs of the fade in progress so far, and the XFADE it started with. -/
  fade : Option (Nat × Nat)
  deriving DecidableEq, Repr

/-- A stage at reset. -/
def FirStage.init : FirStage := ⟨[], false, true, 0, none⟩

/-- One chain. -/
structure Chain where
  /-- The bitstream, newest bit first, as far back as the sinc stage and the phase delay reach. -/
  bits : List Bool
  /-- FIR 1. -/
  fir1 : FirStage
  /-- FIR 2. -/
  fir2 : FirStage
  /-- The newest output word and its completion time. -/
  last : Option (Word × Nat)
  /-- Device time at which the running output began: the completion of the one before it, the enable, or the return of the clock. -/
  begun : Nat
  /-- An output has completed since the last sample-instant latch. -/
  fresh : Bool
  /-- An output has completed since the last fast-tick latch. -/
  freshFast : Bool
  /-- The pair latched for core 1 at the last fast tick (R457). -/
  fast : Word × Word
  deriving DecidableEq, Repr

/-- A chain at reset. -/
def Chain.init : Chain := ⟨[], .init, .init, none, 0, false, false, (0, 0)⟩

end Sys2Proof.Machine
end

