-- ==== Sys2Proof/Machine/StXl.lean ====
section
/-! DEFINITION. The state of the Xonlink ports (09_xonlink_rings.md), as a controller and in station role, that the
registers do not show. -/

namespace Sys2Proof.Machine

/-- A frame put on a ring: the port it left by, its bytes from the destination address on, and whether its FCS is
inverted (R333). -/
structure XlSent where
  /-- Port XP0 to XP3. -/
  port : Nat
  /-- The Ethernet frame without FCS. -/
  frame : List Byte
  /-- The FCS was inverted. -/
  badFcs : Bool
  /-- Device time at which it leaves (R331, R332, R335, R339). -/
  time : Nat
  /-- It is a frame of the node's own, not one that it forwards. -/
  own : Bool
  deriving DecidableEq, Repr

/-- One returned copy of a station's input slot (R329, R348, R354, R355). -/
structure SlotCopy where
  /-- UID. -/
  uid : Nat
  /-- SSTATE. -/
  sstate : Nat
  /-- SFLAGS. -/
  flags : Nat
  /-- HOLD_CNT. -/
  holdCnt : Nat
  /-- The fusion records it brought. -/
  recs : List (List Byte)
  /-- The frame that brought it was turned back on its way: WRAPPED. -/
  wrapped : Bool
  deriving DecidableEq, Repr

/-- A station of a ring as this member sees it, beside its status word. -/
structure StnSeen where
  /-- Station number. -/
  stn : Nat
  /-- The recorded UID. -/
  uid : Option Nat
  /-- IN_OK at least once since the ring entered RUN. -/
  seen : Bool
  /-- The copy of this cycle's slot launched east. -/
  east : Option SlotCopy
  /-- The copy launched west. -/
  west : Option SlotCopy
  /-- A returned output slot of this cycle carried COLLIDE. -/
  outCollide : Bool
  /-- The station is DUPLICATE (R354). -/
  dup : Bool
  /-- Consecutive clean cycles on an unwrapped ring (R355). -/
  clean : Nat
  /-- A host RESUME is pending (R347). -/
  resume : Bool
  deriving DecidableEq, Repr

/-- One ring of a controller. -/
structure XlRing where
  /-- The ring table (R342, R343); empty with no table. -/
  table : List Byte
  /-- Its stations, in table order. -/
  stns : List StnSeen
  /-- Payloads of the INPUT frames of the cycle, by frame index, as the first copy brought them. -/
  inputs : List (Nat × List Byte)
  /-- The status words of the input image frozen at INTAKE_CL, by station number (R359). -/
  imageStatus : List (Nat × Word)
  /-- The payload areas of the frozen input image, by frame index. -/
  imageData : List (Nat × List Byte)
  /-- The OUTPUT frame payloads of the active unit seen passing in this cycle, by frame index (R317). -/
  passing : List (Nat × List Byte)
  deriving DecidableEq, Repr

/-- A ring without a table. -/
def XlRing.init : XlRing := ⟨[], [], [], [], [], []⟩

/-- One Xonlink port beside XL_STATUS. -/
structure XlPort where
  /-- Link delay as last measured, ns (R335). -/
  delay : Option Nat
  /-- Device time since which the port has held link. -/
  linkSince : Nat
  /-- Launch time t1 of the DELAY_REQ that waits for its answer. -/
  t1 : Option Nat
  /-- The port has held link for 100 ms and unwraps in the next housekeeping phase (R352). -/
  held : Bool
  /-- CYC of the last DELAY_REQ, for the 100 base cycles of R335. -/
  reqCyc : Option Nat
  deriving DecidableEq, Repr

/-- A port at reset. -/
def XlPort.init : XlPort := ⟨none, 0, none, false, none⟩

/-- The station command in progress (R331, R477). -/
structure StnCmd where
  /-- OP of XL_STN_CMD. -/
  op : Nat
  /-- Ring. -/
  ring : Nat
  /-- Station number. -/
  stn : Nat
  /-- The CYC in which its MGMT frame was sent; none before. -/
  sent : Option Nat
  /-- The STN_CMD descriptor it came from: its host ring and SQ index. -/
  carrier : Option (Nat × Nat)
  deriving DecidableEq, Repr

/-- An output slot a station has stored for application (R345). -/
structure StnOut where
  /-- CYC. -/
  cyc : Nat
  /-- The slot carried RESUME. -/
  resume : Bool
  /-- The command words, by staging index. -/
  words : List (Nat × Word)
  deriving DecidableEq, Repr

/-- The device in station role (R344, R357, R358). -/
structure XlStation where
  /-- Consecutive good CYCLE frames in SYNC. -/
  good : Nat
  /-- Base cycles without a CYCLE frame. -/
  noCycle : Nat
  /-- Rank and contents of the CYCLE frame taken in this cycle: the lowest rank counts. -/
  rank : Option Nat
  /-- CYC of the CYCLE frame taken since the last sample instant. -/
  cyc : Option Nat
  /-- The last reading of ring time, units of 1/16 ns on the station's own time (R336, R337). -/
  reading : Option Nat
  /-- Time step to apply at the next sample instant, in base cycles (R336). -/
  step : Int
  /-- The stored output of the cycle. -/
  stored : Option StnOut
  /-- CYC of the last output applied; none before the first. -/
  applied : Option Nat
  /-- CYC of the last WITHDRAW that arrived. -/
  withdrawn : Option Nat
  /-- The words the station applies: its last set, by staging index. -/
  outputs : List (Nat × Word)
  /-- The safe-state staging words of the STATION section. -/
  safeWords : List (Nat × Word)
  /-- The safe-state levels of the discrete pins, by pin. -/
  safeLevels : List (Nat × Bool)
  /-- The input payload FAST last completed (R359). -/
  payload : List Byte
  /-- The payload latched at the sample instant, and its sample time. -/
  latched : List Byte
  /-- Device time of the sample instant of the latch. -/
  sampleTime : Nat
  /-- Device time until which the identify indicator is driven (R331). -/
  identify : Nat
  /-- The output frames refused because CYC was not greater than that of the last applied (R345). -/
  refused : Nat
  deriving DecidableEq, Repr

/-- A station at reset. -/
def XlStation.init : XlStation := ⟨0, 0, none, none, none, 0, none, none, none, [], [], [], [], [], 0, 0, 0⟩

/-- The Xonlink ports beside their registers. -/
structure Xl where
  /-- Rings 0 and 1. -/
  rings : List XlRing
  /-- Ports XP0 to XP3. -/
  ports : List XlPort
  /-- Frames sent, oldest first. -/
  wire : List XlSent
  /-- The OUTPUT frames of the cycle were launched and not withdrawn (R293, R339). -/
  launched : Bool
  /-- XL_STN_CMD's command in progress. -/
  cmd : Option StnCmd
  /-- This device as a station. -/
  stn : XlStation
  deriving DecidableEq, Repr

/-- The Xonlink ports at reset. -/
def Xl.init : Xl := ⟨List.replicate 2 .init, List.replicate 4 .init, [], false, none, .init⟩

end Sys2Proof.Machine
end

