-- ==== Sys2Proof/Machine/State.lean ====
section
/-! DEFINITION. The state of the device. -/

namespace Sys2Proof.Machine

/-- The ordering code a die was fused as (R2). -/
inductive Variant where
  /-- HXZ9410-CI. -/
  | ci
  /-- HXZ9410-SI. -/
  | si
  deriving DecidableEq, Repr

/-- Why the machine stops. -/
inductive Fault where
  /-- A write puts a 1 into an RSV bit: the spec does not define the device's behaviour (R9). Raised by every command
  that writes a register word. Safe: the model stops where the device goes on in a way the spec leaves open. -/
  | reservedWrite
  deriving DecidableEq, Repr

/-- Why a command has no meaning. -/
inductive Refusal where
  /-- The command is not modelled yet. Raised by the arms of exec. Safe. -/
  | notModelled (mnemonic : String)
  deriving DecidableEq, Repr

/-- The state of the device. -/
structure State where
  /-- The fused variant. -/
  variant : Variant
  /-- The unit was started in station role (R2, R513). -/
  station : Bool
  /-- The data the last register read returned to its requester. -/
  readData : Nat
  /-- The register map: BAR0 offset (R566), and per-requester copies above it. -/
  regs : List (Nat × Word)
  /-- The memories. -/
  mem : Memory
  /-- The Clock Drive. -/
  cdr : ClockDrive
  /-- The Rhauf guard. -/
  grd : Guard
  /-- The fusion unit. -/
  fus : Fusion
  /-- The values in force of the registers whose RW fields take effect at the next sample instant. -/
  eff : List (Nat × Word)
  /-- The redundancy manager. -/
  red : Rdn
  /-- The Xonlink ports. -/
  xl : Xl
  /-- The PTP time base. -/
  tb : TimeBase
  /-- The Ethernet ports E0 to E3. -/
  eth : List EthPort
  /-- The CAN FD controllers CAN0 to CAN3. -/
  can : List Can
  /-- The UARTs UART0 to UART7. -/
  uart : List Uart
  /-- The discrete pins. -/
  dio : Dio
  /-- The sigma-delta chains 0 to 31. -/
  sdf : List Chain
  /-- The host interface. -/
  hif : HostIf
  /-- The Almanac, the flash queue and Plate capture. -/
  alm : Almanac
  /-- Meridian. -/
  mer : Meridian
  /-- The power controller. -/
  pow : Power
  /-- The Orrery. -/
  ory : Orrery
  /-- The control engine. -/
  ctl : Control
  /-- Ephemeris. -/
  eph : Eph
  /-- Boot and the life cycle. -/
  boot : Boot
  /-- The counter the free values are drawn from (the model's own field). -/
  freeCtr : Nat
  /-- The commands that wait, first in, first out. -/
  pending : List Instr
  deriving DecidableEq, Repr

/-- The machine right after reset. -/
def State.reset : State where
  variant := .ci
  station := false
  readData := 0
  regs := []
  mem := .init
  cdr := .init
  grd := .init
  fus := .init
  eff := []
  red := .init
  xl := .init
  tb := .init
  eth := List.replicate 4 .init
  can := List.replicate 4 .init
  uart := List.replicate 8 .init
  dio := .init
  sdf := List.replicate 32 .init
  hif := .init
  alm := .init
  mer := .init
  pow := .init
  ory := .init
  ctl := .init
  eph := .init
  boot := .init
  freeCtr := 0
  pending := []

end Sys2Proof.Machine
end

