-- ==== Sys2Proof/Machine/Ops.lean ====
section
/-! DEFINITION. The named operations over the register map, the event logic of R478, the posted-write queue of R480
and the Almanac intake of R490, which every block shares. -/

namespace Sys2Proof.Machine

/-- Does a register table cover this BAR0 offset (R566)? -/
def RegRow.covers (r : RegRow) (off : Nat) : Bool :=
  let d := off - r.base
  let f := if r.fstride = 0 then 0 else d / r.fstride
  let e := if r.fstride = 0 then d else d % r.fstride
  decide (r.base ≤ off) && decide (f < r.fcount) && decide (e % r.stride = 0) && decide (e / r.stride < r.count)

/-- The windows of the register space that the chapters define beside their registers. -/
def winRows : List RegRow := [
  ⟨"FUS_RET", 0x61000, 4, 784, 0, 1, 0, 0xFFFFFFFF, 0, 0, 0, 0, 0⟩,
  ⟨"FUS_RET_ACT", 0x62000, 4, 784, 0, 1, 0, 0, 0, 0, 0, 0, 0⟩,
  ⟨"FUS_STATE", 0x63000, 4, 64, 0, 1, 0, 0, 0, 0, 0, 0, 0⟩,
  ⟨"ORY_PLAN", 0x71000, 4, 512, 0, 1, 0, 0xFFFFFFFF, 0, 0, 0, 0, 0⟩,
  ⟨"ORY_PLAN_ACT", 0x71800, 4, 512, 0, 1, 0, 0, 0, 0, 0, 0, 0⟩,
  ⟨"CTL_SET", 0x81000, 4, 528, 0, 1, 0, 0xFFFFFFFF, 0, 0, 0, 0, 0⟩,
  ⟨"CTL_SET_ACT", 0x82000, 4, 528, 0, 1, 0, 0, 0, 0, 0, 0, 0⟩,
  ⟨"EPH_TABLE", 0x91000, 4, 260, 0, 1, 0, 0xFFFFFFFF, 0, 0, 0, 0, 0⟩,
  ⟨"EPH_TABLE_ACT", 0x92000, 4, 260, 0, 1, 0, 0, 0, 0, 0, 0, 0⟩,
  ⟨"EPH_RES", 0x93000, 4, 504, 0, 1, 0, 0, 0, 0, 0, 0, 0⟩,
  ⟨"GRD_IMAGE", 0xB1000, 4, 172, 0, 1, 0, 0, 0, 0, 0, 0, 0⟩,
  ⟨"XL_READ_ID", 0xC0040, 4, 8, 0, 1, 0, 0, 0, 0, 0, 0, 0⟩,
  ⟨"XL_DUP_UID", 0xC0060, 4, 4, 0, 1, 0, 0, 0, 0, 0, 0, 0⟩,
  ⟨"CAN_OBJ_W1", 0xF1004, 80, 128, 0x4000, 4, 0, 0xFFFFFFFF, 0, 0, 0, 0, 0⟩,
  ⟨"CAN_OBJ_W2", 0xF1008, 80, 128, 0x4000, 4, 0, 0xFFFFFFFF, 0, 0, 0, 0, 0⟩,
  ⟨"CAN_OBJ_W3", 0xF100C, 80, 128, 0x4000, 4, 0, 0xFFFFFFFF, 0, 0, 0, 0, 0⟩,
  ⟨"CAN_OBJ_W4", 0xF1010, 80, 128, 0x4000, 4, 0, 0xFFFFFFFF, 0, 0, 0, 0, 0⟩,
  ⟨"CAN_OBJ_W5", 0xF1014, 80, 128, 0x4000, 4, 0, 0xFFFFFFFF, 0, 0, 0, 0, 0⟩,
  ⟨"CAN_OBJ_W6", 0xF1018, 80, 128, 0x4000, 4, 0, 0xFFFFFFFF, 0, 0, 0, 0, 0⟩,
  ⟨"CAN_OBJ_W7", 0xF101C, 80, 128, 0x4000, 4, 0, 0xFFFFFFFF, 0, 0, 0, 0, 0⟩,
  ⟨"CAN_OBJ_W8", 0xF1020, 80, 128, 0x4000, 4, 0, 0xFFFFFFFF, 0, 0, 0, 0, 0⟩,
  ⟨"CAN_OBJ_W9", 0xF1024, 80, 128, 0x4000, 4, 0, 0xFFFFFFFF, 0, 0, 0, 0, 0⟩,
  ⟨"CAN_OBJ_W10", 0xF1028, 80, 128, 0x4000, 4, 0, 0xFFFFFFFF, 0, 0, 0, 0, 0⟩,
  ⟨"CAN_OBJ_W11", 0xF102C, 80, 128, 0x4000, 4, 0, 0xFFFFFFFF, 0, 0, 0, 0, 0⟩,
  ⟨"CAN_OBJ_W12", 0xF1030, 80, 128, 0x4000, 4, 0, 0xFFFFFFFF, 0, 0, 0, 0, 0⟩,
  ⟨"CAN_OBJ_W13", 0xF1034, 80, 128, 0x4000, 4, 0, 0xFFFFFFFF, 0, 0, 0, 0, 0⟩,
  ⟨"CAN_OBJ_W14", 0xF1038, 80, 128, 0x4000, 4, 0, 0xFFFFFFFF, 0, 0, 0, 0, 0⟩,
  ⟨"CAN_OBJ_W15", 0xF103C, 80, 128, 0x4000, 4, 0, 0xFFFFFFFF, 0, 0, 0, 0, 0⟩,
  ⟨"CAN_OBJ_W16", 0xF1040, 80, 128, 0x4000, 4, 0, 0xFFFFFFFF, 0, 0, 0, 0, 0⟩,
  ⟨"CAN_OBJ_W17", 0xF1044, 80, 128, 0x4000, 4, 0, 0xFFFFFFFF, 0, 0, 0, 0, 0⟩,
  ⟨"CAN_OBJ_W18", 0xF1048, 80, 128, 0x4000, 4, 0, 0xFFFFFFFF, 0, 0, 0, 0, 0⟩,
  ⟨"CAN_OBJ_W19", 0xF104C, 80, 128, 0x4000, 4, 0, 0xFFFFFFFF, 0, 0, 0, 0, 0⟩,
  ⟨"SDF_BUF", 0x114000, 4, 2048, 0, 1, 0, 0, 0, 0, 0, 0, 0⟩,
  ⟨"SDF_ROM", 0x118000, 4, 512, 0, 1, 0, 0, 0, 0, 0, 0, 0⟩,
  ⟨"SDF_COEF", 0x118800, 4, 1536, 0, 1, 0, 0xFFFFFF, 0, 0, 0, 0, 0⟩,
  ⟨"HIF_MSIX_ADDR_LO", 0x124000, 16, 64, 0, 1, 0, 0xFFFFFFFF, 0, 0, 0, 0, 0⟩,
  ⟨"HIF_MSIX_ADDR_HI", 0x124004, 16, 64, 0, 1, 0, 0xFFFFFFFF, 0, 0, 0, 0, 0⟩,
  ⟨"HIF_MSIX_DATA", 0x124008, 16, 64, 0, 1, 0, 0xFFFFFFFF, 0, 0, 0, 0, 0⟩,
  ⟨"HIF_MSIX_CTRL", 0x12400C, 16, 64, 0, 1, 1, 0x1, 0, 0, 0, 0, 0⟩,
  ⟨"HIF_PBA", 0x125000, 4, 2, 0, 1, 0, 0, 0, 0, 0, 0, 0⟩]

/-- The register tables of the block an offset lies in. -/
def rowsOf (off : Nat) : List RegRow :=
  match off / 0x10000 with
  | 0x00 => regRows00
  | 0x01 => regRows01
  | 0x02 => regRows02
  | 0x03 => regRows03
  | 0x04 => regRows04
  | 0x05 => regRows05
  | 0x06 => regRows06
  | 0x07 => regRows07
  | 0x08 => regRows08
  | 0x09 => regRows09
  | 0x0A => regRows0A
  | 0x0B => regRows0B
  | 0x0C => regRows0C
  | 0x0D => regRows0D
  | 0x0E => regRows0E
  | 0x0F => regRows0F
  | 0x10 => regRows10
  | 0x11 => regRows11
  | 0x12 => regRows12
  | 0x13 => regRows13
  | 0x14 => regRows14
  | _ => []

/-- The register table of an offset; none for a reserved offset (R565). -/
def regRow? (off : Nat) : Option RegRow :=
  match (rowsOf off).find? (·.covers off) with
  | some r => some r
  | none => winRows.find? (·.covers off)

/-- Size of BAR0 (R6); keys of the register map above it are per-requester copies. -/
def barSize : Nat := 0x200000

/-- The value a register has after power-on reset (R10); a reserved offset reads 0 (R565). -/
def regReset (key : Nat) : Word :=
  match regRow? (key % barSize) with
  | some r => BitVec.ofNat 32 r.reset
  | none => 0

/-- The registers of which each requester has a copy of its own: ALM_RD_ and ALM_SW_ (15_almanac_plate_capture.md). -/
def perRequester (off : Nat) : Bool :=
  decide (Reg.ALM_RD_SEQ ≤ off) && decide (off < Reg.ALM_PLATE_CTRL)

/-- The key of a register in the register map, for an access by requester `r`. -/
def regKey (r : Req) (off : Nat) : Nat :=
  if perRequester off then off + barSize * (r.idx + 1) else off

/-- The bits of a register that belong to a unit fused off in the HXZ9410-SI: no write and no hardware activity
changes them (R2). -/
def fusedMask (v : Variant) (key : Nat) : Nat :=
  match v with
  | .ci => 0
  | .si =>
    if key / 0x10000 = 0x12 then 0xFFFFFFFF
    else if key = Reg.ORY_STATUS then 0xE0000000
    else if key = Reg.ORY_QLEVEL then 0xFFFFFF00
    else if key = Reg.ORY_ENG_BUSY_LO then 0xFFFF0000
    else if key = Reg.ORY_ENG_BUSY_HI then 0xFFFFFFFF
    else if 0x70500 ≤ key ∧ key < 0x70800 then 0xFFFFFFFF
    else 0

/-- CHIP_VARIANT as the die was fused (R4). -/
def State.chipVariant (s : State) : Nat := match s.variant with | .ci => 0x17E | .si => 0x101

/-- Read a register word. -/
def State.rd (s : State) (key : Nat) : Word := sget regReset s.regs key

/-- Write a register word; the bits of a fused-off unit keep their value (R2). -/
def State.wr (s : State) (key : Nat) (w : Word) : State :=
  let m := BitVec.ofNat 32 (fusedMask s.variant key)
  { s with regs := sset regReset s.regs key ((w &&& ~~~m) ||| (s.rd key &&& m)) }

/-- Read a register as a number. -/
def State.rdn (s : State) (key : Nat) : Nat := (s.rd key).toNat

/-- Write a number to a register, its low 32 bits. -/
def State.wrn (s : State) (key v : Nat) : State := s.wr key (BitVec.ofNat 32 v)

/-- The value of a field. -/
def State.fld (s : State) (f : Fld) : Nat := bitsOf (s.rdn f.off) f.hi f.lo

/-- Write a field; the register's other bits keep their value. -/
def State.put (s : State) (f : Fld) (v : Nat) : State := s.wrn f.off (putBits (s.rdn f.off) f.hi f.lo v)

/-- Is a one-bit field 1? -/
def State.on (s : State) (f : Fld) : Bool := s.fld f == 1

/-- A field as it is in force: RW fields of the fusion unit, the control engine, Ephemeris and the redundancy manager
take effect at the next sample instant. -/
def State.efld (s : State) (f : Fld) : Nat := bitsOf (sget regReset s.eff f.off).toNat f.hi f.lo

/-- Is a one-bit field 1 in force? -/
def State.eon (s : State) (f : Fld) : Bool := s.efld f == 1

/-- Write a one-bit field. -/
def State.setTo (s : State) (f : Fld) (b : Bool) : State := s.put f (b2n b)

/-- The greatest value of a field. -/
def Fld.max (f : Fld) : Nat := 2 ^ (f.hi + 1 - f.lo) - 1

/-- Write a field, limited to the greatest value it holds. -/
def State.putSat (s : State) (f : Fld) (v : Nat) : State := s.put f (satN f.max v)

/-- Count in a saturating field. -/
def State.bump (s : State) (f : Fld) (n : Nat) : State := s.putSat f (s.fld f + n)

/-- A 64-bit value in a LO and a HI register. -/
def State.rd64 (s : State) (lo hi : Nat) : Nat := s.rdn lo + 2 ^ 32 * s.rdn hi

/-- Write a 64-bit value to a LO and a HI register. -/
def State.wr64 (s : State) (lo hi v : Nat) : State := (s.wrn lo v).wrn hi (v / 2 ^ 32)

/-- Device time in ns (R370). -/
def State.now (s : State) : Nat := s.tb.now.ns

/-- The bytes of a register window of `n` words. -/
def State.winBytes (s : State) (off n : Nat) : List Byte := bytesOf ((List.range n).map fun i => s.rd (off + 4 * i))

/-- Write words to a register window, one after another, in the window's block. -/
def State.wrWords (s : State) (off : Nat) : List Word → State
  | [] => s
  | w :: ws => (s.wr off w).wrWords (blockOff off 4) ws

/-- A number as a register word. -/
def w32 (n : Nat) : Word := BitVec.ofNat 32 n

/-- A register word's word as a signed number. -/
def i32 (w : Word) : Int := w.toInt

/-- Draw a free value: a number nothing constrains (the counter goes on). -/
def State.nextFree (s : State) : State := { s with freeCtr := s.freeCtr + 1 }

/-- Write bytes to shared SRAM. -/
def State.sramWrite (s : State) (a : Nat) (bs : List Byte) : State :=
  { s with mem := { s.mem with sram := writeBytes ramByte s.mem.sram a bs } }

/-! ### Power domains (R526, R527) -/

/-- Has the root stopped, and the supervisor core with its clock (R535)?  Every clock derives from it (R532), so nothing but the guard
and Meridian goes on until the supply is cycled; a supervisor that only writes no heartbeat still runs. -/
def State.svDead (s : State) : Bool := s.pow.svDead

/-- Domain `d` is powered and ready, and its clock runs. -/
def State.domOn (s : State) (d : Nat) : Bool := !s.svDead && bitAt (s.fld F.PWR_STATUS_ON) d

/-- A rail's RAIL_OK bit. -/
def State.railOk (s : State) (rail : Nat) : Bool := bitAt (s.fld F.PWR_STATUS_RAIL_OK) rail

/-- The life-cycle state in force. -/
def State.lc (s : State) : Nat := s.fld F.BOOT_STATUS_LC

/-- Device time as the blocks outside PD_SER receive it: the inactive level while PD_SER, which holds the counter, is off (R527). -/
def State.devTime (s : State) : Nat := if s.domOn 10 then s.now else 0

/-- A command that reaches a block changes nothing while the block's domain is off: its inputs are clamped, and it stays disabled
(R527, R528). -/
def State.gate (s : State) (d : Nat) (o : Host.Outcome State Fault Refusal) : Host.Outcome State Fault Refusal :=
  if s.domOn d then o else .next s

/-- A read of a register of a block in a domain returns 0, and does nothing else, while the domain is off (R527). -/
def State.gateRead (s : State) (d : Nat) (o : State) : Host.Outcome State Fault Refusal :=
  .next (if s.domOn d then o else { s with readData := 0 })

/-- A command of a part that runs from the root changes nothing once that has stopped (R535). -/
def State.rooted (s : State) (o : Host.Outcome State Fault Refusal) : Host.Outcome State Fault Refusal :=
  if s.svDead then .next s else o

/-- The switched domain of the block an offset of BAR0 lies in, for the blocks a register access cannot reach without it. -/
def blockDom (off : Nat) : Option Nat :=
  match off / 0x10000 with
  | 0x05 => some 9
  | 0x06 => some 9
  | 0x08 => some 9
  | 0x09 => some 9
  | 0x0A => some 9
  | 0x0F => some 9
  | 0x10 => some 9
  | 0x11 => some 9
  | 0x13 => some 9
  | 0x0C => some 10
  | 0x12 => some 10
  | 0x0D => some 10
  | _ => none

/-- Does the block of an offset answer: its domain is on, its clock runs, and the device is not DECOMMISSIONED, where the debug module
alone still answers reads (R521, R527, R535, R567)? -/
def State.blockOn (s : State) (off : Nat) : Bool :=
  !s.svDead && (s.lc != 4 || off / 0x10000 == 0x14) && (match blockDom off with | some d => s.domOn d | none => true)

/-- A command that is a register access changes nothing where the register's block does not answer. -/
def State.reach (s : State) (off : Nat) (o : Host.Outcome State Fault Refusal) : Host.Outcome State Fault Refusal :=
  if s.blockOn off then o else .next s

/-! ### Posted writes and messages (R478 to R480, R482) -/

/-- May the device start a memory request (R482)? -/
def State.mayPost (s : State) : Bool := s.on F.HIF_LINK_BME && !s.on F.HIF_LINK_D3HOT

/-- Send what waits in the posted-write queue, in order, while requests may start (R480, R482). -/
def State.drainPosted (s : State) : State :=
  if s.mayPost then { s with hif := { s.hif with posted := [], sent := s.hif.sent ++ s.hif.posted } } else s

/-- Put a request at the end of the posted-write queue (R480). -/
def State.post (s : State) (p : Posted) : State :=
  State.drainPosted { s with hif := { s.hif with posted := s.hif.posted ++ [p] } }

/-- The requests that a transfer of `n` bytes at `a` splits into: none holds more than `size` bytes, and all but the first begin at a
multiple of it (log entry 29). -/
def splitAt (size : Nat) : Nat → Nat → Nat → List (Nat × Nat)
  | 0, _, _ => []
  | f + 1, a, n => if n = 0 then [] else
    let m := Nat.min n (size - a % size)
    (a, m) :: splitAt size f (a + m) (n - m)

/-- Max Payload Size as the host has set it, at most the 512 bytes supported (R460). -/
def hostPayloadSize : Nat := 128 * 2 ^ (Config.pcieControl.1 % 3)

/-- Max Read Request Size as the host has set it: 128 to 4,096 bytes (R460). -/
def hostReadSize : Nat := 128 * 2 ^ (Config.pcieControl.2.1 % 6)

/-- The writes that carry bytes to a host address (R460). -/
def hostWrites (addr : Nat) (bs : List Byte) : List Posted :=
  (splitAt hostPayloadSize bs.length addr bs.length).map fun c => .write c.1 ((bs.drop (c.1 - addr)).take c.2)

/-- Put a transfer of data to host memory in the posted-write queue (R480). -/
def State.postData (s : State) (addr : Nat) (bs : List Byte) : State :=
  State.drainPosted { s with hif := { s.hif with posted := s.hif.posted ++ hostWrites addr bs } }

/-- The vector control word of a vector in the MSI-X table. -/
def msixCtrl (v : Nat) : Nat := blockOff 0x12400C (16 * v)

/-- The pending bit of a vector in the PBA. -/
def pbaFld (v : Nat) : Fld := ⟨blockOff 0x125000 (4 * (v / 32)), v % 32, v % 32⟩

/-- Send the message of a vector; a masked vector sets its PBA bit instead (R478). -/
def State.message (s : State) (v : Nat) : State :=
  if bitAt (s.rdn (msixCtrl v)) 0 then s.setTo (pbaFld v) true else s.post (.message v)

/-! ### Events (R478) -/

/-- The pending bit of source EVn. -/
def evPend (n : Nat) : Fld := ⟨blockOff Reg.HIF_EV_PEND (4 * (n / 32)), n % 32, n % 32⟩

/-- The summary of group g: the OR of PEND and EN over its 16 sources (R478). -/
def State.summary (s : State) (g : Nat) : Bool :=
  let a := s.rdn (blockOff Reg.HIF_EV_PEND (4 * (g / 2)))
  let e := s.rdn (blockOff Reg.HIF_EV_EN (4 * (g / 2)))
  decide (bitsOf (a &&& e) (16 * (g % 2) + 15) (16 * (g % 2)) ≠ 0)

/-- The group's byte of HIF_EVG_VEC. -/
def State.groupByte (s : State) (g : Nat) : Nat :=
  bitsOf (s.rdn (Reg.HIF_EVG_VEC + 4 * (g / 4))) (8 * (g % 4) + 7) (8 * (g % 4))

/-- Send the group's message, if its entry in HIF_EVG_VEC is enabled (R478). -/
def State.notifyGroup (s : State) (g : Nat) : State :=
  if bitAt (s.groupByte g) 7 then s.message (bitsOf (s.groupByte g) 5 0) else s

/-- Set the pending bit of source EVn, and notify where the group's summary rises (R478); not while PD_SER is off. -/
def State.pendEv (s : State) (n : Nat) : State :=
  if !s.domOn 10 then s else
  let g := n / 16
  let s1 := s.setTo (evPend n) true
  if !s.summary g && s1.summary g then s1.notifyGroup g else s1

/-! ### The Almanac intake (R488, R490) -/

/-- Does held record `a` go before `b`: earlier epoch, then the record of the step that began it, then TIME, then SOURCE (R490)? -/
def heldBefore (a b : HeldRec) : Bool :=
  decide (a.epoch < b.epoch) || (a.epoch == b.epoch &&
    (a.step || (!b.step && (decide (a.body.time < b.body.time) ||
      (a.body.time == b.body.time && decide (a.body.source ≤ b.body.source))))))

/-- Put a record in its place among the held ones; of equals, the earlier offered goes first. -/
def heldInsert (r : HeldRec) : List HeldRec → List HeldRec
  | [] => [r]
  | h :: t => if heldBefore h r then h :: heldInsert r t else r :: h :: t

/-- Offer a record to the intake: filtered below MIN_SEV (R488), dropped when 256 are held (R490), ignored once Plate
capture froze the intake (R499) or while PD_FAB is off.  `step`: it is the record of the step that began the epoch. -/
def State.offerAs (s : State) (step : Bool) (r : AlmRec) : State :=
  if s.alm.frozen || !s.domOn 9 then s
  else if r.sev < s.fld F.ALM_CFG_MIN_SEV ∧ r.sev < 5 then s.bump F.ALM_CNT_FILTERED 1
  else if 256 ≤ s.alm.held.length then
    ((s.bump F.ALM_CNT_DROPPED 1).setTo F.ALM_EVENTS_DROP true).pendEv 240
  else { s with alm := { s.alm with held := heldInsert ⟨s.alm.epoch, r, step⟩ s.alm.held } }

/-- Offer a record to the intake. -/
def State.offer (s : State) (r : AlmRec) : State := s.offerAs false r

/-- Severities of R488. -/
def sevFatal : Nat := 7
/-- SAFETY. -/
def sevSafety : Nat := 6
/-- ALARM. -/
def sevAlarm : Nat := 5
/-- WARN. -/
def sevWarn : Nat := 4
/-- NOTICE. -/
def sevNotice : Nat := 3
/-- INFO. -/
def sevInfo : Nat := 2

/-- T_base in ns, from CDR_PERIOD. -/
def State.tbase (s : State) : Nat := s.fld F.CDR_PERIOD_BASE_MS * 1000000

/-- The cycle that holds device time (R486): the next one once its sample instant has come. -/
def State.cycHolding (s : State) : Nat :=
  if s.cdr.grid && decide (s.cdr.t0 + s.tbase ≤ s.now) then (s.cdr.cyc + 1) % 2 ^ 64 else s.cdr.cyc

/-- The event record of source EVn: its code is group and number within the group (R487). -/
def State.evRec (s : State) (n sev src : Nat) (p0 p1 p2 : Word) : AlmRec :=
  ⟨n / 16 * 256 + n % 16, sev, 0, src, s.devTime, s.cycHolding, p0, p1, p2, 0⟩

/-- Raise event EVn (R478): set its pending bit, notify, and deliver its record to the Almanac (R487). -/
def State.raise3 (s : State) (n sev src : Nat) (p0 p1 p2 : Word) : State :=
  (s.pendEv n).offer (s.evRec n sev src p0 p1 p2)

/-- Raise EV164 for a step that has been applied: its record is the first of the new epoch (R490). -/
def State.raiseStep (s : State) (src : Nat) (p0 p1 : Word) : State :=
  (s.pendEv 164).offerAs true (s.evRec 164 sevNotice src p0 p1 0)

/-- Raise event EVn with one parameter. -/
def State.raise1 (s : State) (n sev src p0 : Nat) : State := s.raise3 n sev src (w32 p0) 0 0

/-- Raise event EVn with two parameters. -/
def State.raise2 (s : State) (n sev src p0 p1 : Nat) : State := s.raise3 n sev src (w32 p0) (w32 p1) 0

/-- Raise event EVn without parameters. -/
def State.raise (s : State) (n sev src : Nat) : State := s.raise3 n sev src 0 0 0

/-- Raise EVn where a condition holds. -/
def State.raiseIf (s : State) (c : Bool) (n sev src p0 : Nat) : State := if c then s.raise1 n sev src p0 else s

/-! ### A register word as an access code sees it (R8) -/

/-- The value a 32-bit write leaves in a register: RW bits take the new value, W1C bits written 1 clear unless hardware
sets them in the same clock (R40), W1S bits written 1 set, WO bits take the new value, all others keep theirs. -/
def writeMask (r : RegRow) (old v hwSet : Nat) : Nat :=
  let o := BitVec.ofNat 32 old
  let n := BitVec.ofNat 32 v
  let rw := BitVec.ofNat 32 (r.rw ||| r.wo)
  let c := n &&& BitVec.ofNat 32 r.w1c &&& ~~~(BitVec.ofNat 32 hwSet)
  let st := n &&& BitVec.ofNat 32 r.w1s
  ((((o &&& ~~~rw) ||| (n &&& rw)) &&& ~~~c) ||| st).toNat

/-- Does a write put a 1 into an RSV bit (R9)? -/
def reservedBits (r : RegRow) (v : Nat) : Bool := decide (v % 2 ^ 32 &&& r.rsv ≠ 0)

/-- Write a register by its access codes, with no further effect. -/
def State.wrAcc (s : State) (key v hwSet : Nat) : State :=
  match regRow? (key % barSize) with
  | none => s
  | some r => s.wrn key (writeMask r (s.rdn key) v hwSet)

/-- Read a register by its access codes (R8): the value read, and the state with its RC bits cleared. -/
def State.rdAcc (s : State) (key : Nat) : Nat × State :=
  match regRow? (key % barSize) with
  | none => (0, s)
  | some r =>
    let o := s.rdn key
    let vis := (BitVec.ofNat 32 o &&& ~~~(BitVec.ofNat 32 (r.wo ||| r.rsv))).toNat
    if r.rc = 0 then (vis, s) else (vis, s.wrn key (BitVec.ofNat 32 o &&& ~~~(BitVec.ofNat 32 r.rc)).toNat)

end Sys2Proof.Machine
end

