-- ==== Sys2Proof/Machine/Intake.lean ====
section
/-! DEFINITION. The intake of measurement records by the fusion unit (R108 to R115). -/

namespace Sys2Proof.Machine

/-- Change the fusion unit. -/
def State.modFus (s : State) (f : Fusion → Fusion) : State := { s with fus := f s.fus }

/-- Source unit number of the fusion unit (R489). -/
def srcFus : Nat := 0x30

/-- A little-endian field of a record or table. -/
def fieldLe (bs : List Byte) (off n : Nat) : Nat := leNat ((bs.drop off).take n)

/-- TYPE of a record (R110). -/
def recType (r : List Byte) : Nat := fieldLe r 0 1
/-- SOURCE. -/
def recSource (r : List Byte) : Nat := fieldLe r 1 1
/-- LENGTH. -/
def recLength (r : List Byte) : Nat := fieldLe r 2 2
/-- T_SAMPLE. -/
def recTime (r : List Byte) : Nat := fieldLe r 8 8

/-- The record types a slot's kind lists (R108). -/
def slotTypes (slot : Nat) : List Nat :=
  if slot < 16 then [0x01, 0x02, 0x03, 0x04, 0x0A]
  else if slot < 20 then [0x05]
  else if slot < 24 then [0x06]
  else if slot < 28 then [0x08]
  else if slot < 30 then [0x07]
  else if slot = 30 then [0x09]
  else []

/-- Field `off`, `n` bytes, of a slot's entry in the active Reticle set (R121). -/
def State.reticle (s : State) (slot off n : Nat) : Nat :=
  let a := 0x62000 + 64 + 64 * slot + off
  leNat (((leBytes 4 (s.rdn (a - a % 4)) ++ leBytes 4 (s.rdn (a - a % 4 + 4))).drop (a % 4)).take n)

/-- Is the slot enabled (R121)? -/
def State.slotEnabled (s : State) (slot : Nat) : Bool :=
  s.reticle slot 0 1 != 0 && bitAt (s.reticle slot 2 1) 0

/-- Does the slot accept the type: its kind lists it, and it is the slot's primary type, or both are GNSS (R108, R109)?  No
rule says that the primary type limits a position slot to it; the model's choice, log entry 45. -/
def State.slotAccepts (s : State) (slot ty : Nat) : Bool :=
  let p := s.reticle slot 0 1
  (slotTypes slot).contains ty && (p == ty || (decide (p = 1 ∨ p = 2) && decide (ty = 1 ∨ ty = 2)))

/-- The LENGTH a record of its type has (R112, R113); none for a type or a count out of range. -/
def recLen? (r : List Byte) : Option Nat :=
  match recType r with
  | 0x01 => if fieldLe r 17 1 ≤ 48 then some (24 + 64 * fieldLe r 17 1) else none
  | 0x02 => some 56
  | 0x03 => if fieldLe r 16 1 ≤ 64 then some (32 + 16 * fieldLe r 16 1) else none
  | 0x04 => some 32
  | 0x05 => some 32
  | 0x06 => some 48
  | 0x07 => some 48
  | 0x08 => some 32
  | 0x09 => some 40
  | 0x0A => some 40
  | _ => none

/-- `n` float32 fields in a row from `off`. -/
def f32Run (off n : Nat) : List (Nat × Nat) := (List.range n).map fun i => (off + 4 * i, 4)

/-- `n` binary64 fields in a row from `off`. -/
def f64Run (off n : Nat) : List (Nat × Nat) := (List.range n).map fun i => (off + 8 * i, 8)

/-- The floating-point fields of a record: offset and bytes (R112, R113). -/
def recFloats (r : List Byte) : List (Nat × Nat) :=
  match recType r with
  | 0x01 => (List.range (fieldLe r 17 1)).flatMap fun k =>
      let b := 24 + 64 * k
      f32Run (b + 4) 1 ++ f64Run (b + 8) 1 ++ f32Run (b + 16) 2 ++ f64Run (b + 24) 3 ++ f32Run (b + 48) 3
  | 0x02 => f64Run 16 2 ++ f32Run 32 4
  | 0x03 => f32Run 20 2 ++ (List.range (fieldLe r 16 1)).flatMap fun k => f32Run (32 + 16 * k) 4
  | 0x04 => f32Run 16 4
  | 0x05 => f32Run 16 3
  | 0x06 => f32Run 16 6
  | 0x07 => f32Run 16 6
  | 0x08 => f32Run 16 4
  | 0x09 => f32Run 16 5
  | 0x0A => f64Run 16 2 ++ f32Run 32 2
  | _ => []

/-- Is a floating-point field finite? -/
def finiteField (r : List Byte) (f : Nat × Nat) : Bool :=
  let v := fieldLe r f.1 f.2
  if f.2 = 8 then ffin v else decide (bitsOf v 30 23 ≠ 255)

/-- Is a field not a number, as a heading's RATE may be (R113)? -/
def rateAbsent (r : List Byte) (f : Nat × Nat) : Bool :=
  recType r == 0x05 && f.1 == 20 && decide (bitsOf (fieldLe r 20 4) 30 23 = 255 ∧ bitsOf (fieldLe r 20 4) 22 0 ≠ 0)

/-- LATENCY of a slot, ns (R121). -/
def State.latency (s : State) (slot : Nat) : Int := sgn 32 (s.reticle slot 4 4)

/-- The measurement time of a record (R114). -/
def State.measTime (s : State) (r : List Byte) : Int := (recTime r : Int) - s.latency (recSource r)

/-- Is the record one R111 discards as bad?  RX of a raw record is not compared with the slot's receiver index: R112 names no
consequence of a difference (log entry 45). -/
def State.recBad (s : State) (r : List Byte) : Bool :=
  let slot := recSource r
  !(decide (slot < 32) && s.slotEnabled slot) || !s.slotAccepts slot (recType r) || !bitAt (fieldLe r 4 1) 0 ||
    !(recLen? r == some (recLength r) && r.length == recLength r) ||
    !((recFloats r).all fun f => finiteField r f || rateAbsent r f) ||
    (slot == 30 && !s.on F.CHIP_PROFILE_RISER_FOLLOW)

/-- Bytes in the intake queue. -/
def State.queueBytes (s : State) : Nat := s.fus.queue.foldl (fun n r => n + r.bytes.length) 0

/-- Show the queue's fill, units of 64 bytes. -/
def State.showIntake (s : State) : State := s.putSat F.FUS_INTAKE_LEVEL (s.queueBytes / 64)

/-- A valid increment of an inertial unit arrives (R127). -/
def State.insHeard (s : State) (r : List Byte) : State :=
  if recType r = 7 ∧ bitAt (fieldLe r 44 4) 0 then
    if recSource r = 28 then s.modFus fun f => { f with insSeen := (s.now, f.insSeen.2), insOk := (true, f.insOk.2) }
    else s.modFus fun f => { f with insSeen := (f.insSeen.1, s.now), insOk := (f.insOk.1, true) }
  else s

/-- A riser record arrives: RISER_VALID while the newest is at most 10 base cycles old (R146). -/
def State.riserHeard (s : State) (r : List Byte) : State :=
  if recType r ≠ 9 then s
  else
    let t := Nat.max (s.measTime r).toNat (s.fus.riserAt.getD 0)
    let a := s.modFus fun f => { f with riserAt := some t }
    a.setTo F.FUS_STATUS_RISER_VALID (decide (s.now ≤ t + 10 * (s.fld F.CDR_PERIOD_BASE_MS * 1000000)))

/-- A producer writes a record into the intake queue (R110, R111, R115). -/
def State.intake (s : State) (r : List Byte) : State :=
  if 65536 < s.queueBytes + r.length then
    ((s.bump F.FUS_INTAKE_OVF 1).setTo F.FUS_STATUS_INTAKE_OVF true).raise 52 sevWarn srcFus
  else if s.recBad r then s.bump F.FUS_INTAKE_BAD 1
  else if s.fus.taken.contains (recSource r, recTime r) then s.bump F.FUS_INTAKE_BAD 1
  else if (s.now : Int) < s.measTime r then s.bump F.FUS_INTAKE_BAD 1
  else
    let a := (s.modFus fun f => { f with
      queue := f.queue ++ [⟨r, s.now⟩], taken := (recSource r, recTime r) :: f.taken }).showIntake
    (a.insHeard r).riserHeard r

/-- The records at the start of a station's payload, as long as each has the form of R110 and the station's sample time `t`
(R329). -/
def recordsAt (t : Nat) : Nat → List Byte → List (List Byte)
  | 0, _ => []
  | n + 1, bs =>
    let k := recLength bs
    if bs.length < k ∨ k < 16 ∨ k % 8 ≠ 0 ∨ recType bs = 0 ∨ recTime bs ≠ t then [] else bs.take k :: recordsAt t n (bs.drop k)

/-- Records that were taken are discarded again. -/
def State.discard (s : State) (rs : List (List Byte)) : State :=
  (s.modFus fun f => { f with queue := f.queue.filter fun q => !rs.contains q.bytes }).showIntake

/-- INTAKE_RECORD (R110). -/
def execIntakeRecord (bytes : List Byte) (s : State) : Host.Outcome State Fault Refusal :=
  s.gate 9 <| .next (s.intake bytes)

end Sys2Proof.Machine
end

