-- ==== Sys2Proof/Machine/Crc.lean ====
section
/-! DEFINITION. The check codes of the spec: CRC-32C (Castagnoli), CRC-16 with polynomial 0x1021, and the Ethernet FCS. -/

namespace Sys2Proof.Machine

/-- One bit step of a reflected 32-bit CRC register. -/
def crcStep (poly c : BitVec 32) : BitVec 32 :=
  if c &&& 1 = 1 then (c >>> 1) ^^^ poly else c >>> 1

/-- One bit step of the reflected CRC-32C register. -/
def crc32Step (c : BitVec 32) : BitVec 32 := crcStep 0x82F63B78 c

/-- One byte into the CRC-32C register. -/
def crc32Byte (c : BitVec 32) (b : Byte) : BitVec 32 :=
  let c := c ^^^ b.setWidth 32
  crc32Step (crc32Step (crc32Step (crc32Step (crc32Step (crc32Step (crc32Step (crc32Step c)))))))

/-- The CRC-32C of bytes, continuing from a finished value `c0` (0 for a new one). -/
def crc32cFrom (c0 : Nat) (bs : List Byte) : Nat :=
  (~~~(bs.foldl crc32Byte (~~~(BitVec.ofNat 32 c0)))).toNat

/-- The CRC-32C of bytes. -/
def crc32c (bs : List Byte) : Nat := crc32cFrom 0 bs

/-- One byte into the register of the Ethernet FCS. -/
def fcsByte (c : BitVec 32) (b : Byte) : BitVec 32 :=
  (List.range 8).foldl (fun c _ => crcStep 0xEDB88320 c) (c ^^^ b.setWidth 32)

/-- The Ethernet FCS of a frame, the CRC-32 of IEEE 802.3 (R362; PRESUMED, log entry 48). -/
def ethFcs (bs : List Byte) : Nat := (~~~(bs.foldl fcsByte 0xFFFFFFFF)).toNat

/-- One bit step of the CRC-16 register. -/
def crc16Step (c : BitVec 16) : BitVec 16 :=
  if c.msb then (c <<< 1) ^^^ 0x1021 else c <<< 1

/-- One byte into the CRC-16 register, most significant bit first. -/
def crc16Byte (c : BitVec 16) (b : Byte) : BitVec 16 :=
  let c := c ^^^ (b.setWidth 16 <<< 8)
  crc16Step (crc16Step (crc16Step (crc16Step (crc16Step (crc16Step (crc16Step (crc16Step c)))))))

/-- CRC-16, polynomial 0x1021, initial value 0xFFFF (R486). -/
def crc16 (bs : List Byte) : Nat := (bs.foldl crc16Byte 0xFFFF).toNat

end Sys2Proof.Machine
end

