-- ==== Sys2Proof/Machine/Recorder.lean ====
section
/-! DEFINITION. The Almanac's release, merge and overwrite of records (R486, R490, R492, R493), and the record as
bytes. -/

namespace Sys2Proof.Machine

/-- Change the Almanac. -/
def State.modAlm (s : State) (f : Almanac → Almanac) : State := { s with alm := f s.alm }

/-- Source unit number of the Almanac (R489). -/
def srcAlm : Nat := 0xF0

/-- Bytes 0 to 29 of a record (R486). -/
def AlmRec.body (r : AlmRec) : List Byte :=
  leBytes 2 r.code ++ [BitVec.ofNat 8 (r.sev % 8 * 32 + r.cls % 32), BitVec.ofNat 8 r.source] ++ leBytes 8 r.time ++
    leBytes 4 r.cyc ++ leBytes 4 r.p0.toNat ++ leBytes 4 r.p1.toNat ++ leBytes 4 r.p2.toNat ++ leBytes 2 r.rep

/-- The 32 bytes of a record, with its CRC (R486). -/
def AlmRec.bytes (r : AlmRec) : List Byte := r.body ++ leBytes 2 (crc16 r.body)

/-- REPEAT_WINDOW in ns; 0 is taken as 1 ms. -/
def State.repeatWindow (s : State) : Nat :=
  let w := s.fld F.ALM_CFG_REPEAT_WINDOW
  (if w = 0 then 1 else w) * 1000000

/-- The newest record of a source in the ring. -/
def newestOf (ring : List RingRec) (source : Nat) : Option RingRec :=
  ring.reverse.find? fun e => e.body.source == source

/-- Does a released record merge into the record E (R492)? -/
def mergesInto (window epoch : Nat) (r : AlmRec) (e : RingRec) : Bool :=
  e.body.code == r.code && e.epoch == epoch && decide (r.time < e.body.time + window) && decide (r.sev < 6) &&
    decide (e.body.sev < 6) && decide (e.body.rep < 65535)

/-- The record E after a merge (R492): REPEAT counts, P2 holds the time since E's TIME. -/
def merged (e : RingRec) (r : AlmRec) : RingRec :=
  { e with body := { e.body with rep := e.body.rep + 1, p2 := w32 (r.time - e.body.time) } }

/-- The record of lowest SEQ that a record of severity `sev` may displace (R493). -/
def victim (ring : List RingRec) (sev : Nat) : Option RingRec := ring.find? fun e => decide (e.body.sev ≤ sev)

/-- Does an overwritten record count in UNFLUSHED (R493)? -/
def State.countsUnflushed (s : State) (e : RingRec) : Bool :=
  !e.flushed && s.on F.ALM_CFG_FLUSH_EN && s.alm.logRegion.isSome

/-- Give a record its slot and the next SEQ (R490). -/
def State.takeSlot (s : State) (h : HeldRec) : State :=
  let q := (s.rdn Reg.ALM_SEQ_LAST + 1) % 2 ^ 32
  (s.modAlm fun a => { a with ring := a.ring ++ [⟨q, h.epoch, h.body, false⟩] }).wrn Reg.ALM_SEQ_LAST q

/-- Remove the record `e` to make room: OVERWRITTEN, and UNFLUSHED where it was never flushed (R493). -/
def State.overwrite (s : State) (e : RingRec) : State :=
  let u := s.countsUnflushed e
  let a := s.modAlm fun a => { a with
    ring := a.ring.filter (fun x => x.seq != e.seq), logUnflushed := a.logUnflushed + b2n u }
  let b := a.bump F.ALM_CNT_OVERWRITTEN 1
  if u then b.bump F.ALM_CNT_UNFLUSHED 1 else b

/-- A record is dropped for want of a slot (R493): DROPPED, and EV240 with DROPPED as its parameter. -/
def State.dropRecord (s : State) : State :=
  let a := (s.bump F.ALM_CNT_DROPPED 1).setTo F.ALM_EVENTS_DROP true
  a.raise1 240 sevWarn srcAlm (a.fld F.ALM_CNT_DROPPED)

/-- Slots of the ring: 32,768. -/
def ringSlots : Nat := 32768

/-- Give a record a slot, displacing another where none is free, or drop it (R493). -/
def State.place (s : State) (h : HeldRec) : State :=
  if s.alm.ring.length < ringSlots then s.takeSlot h
  else match victim s.alm.ring h.body.sev with
    | some e => (s.overwrite e).takeSlot h
    | none => s.dropRecord

/-- Release one record: it merges (R492), takes a free slot, displaces a record, or is dropped (R493). -/
def State.releaseRec (s : State) (h : HeldRec) : State :=
  match newestOf s.alm.ring h.body.source with
  | some e =>
    if mergesInto s.repeatWindow h.epoch h.body e then
      (s.modAlm fun a => { a with ring := a.ring.map fun x => if x.seq = e.seq then merged x h.body else x }).bump
        F.ALM_MERGED_MERGED 1
    else s.place h
  | none => s.place h

/-- Release the first held record. -/
def State.releaseHead (s : State) : State :=
  match s.alm.held with
  | [] => s
  | h :: t => (s.modAlm fun a => { a with held := t }).releaseRec h

/-- Release every record held now, in order (R490). -/
def State.releaseAll (s : State) : State := forEach s.alm.held (fun _ t => t.releaseHead) s

end Sys2Proof.Machine
end

