-- ==== Sys2Proof/Machine/Ptp.lean ====
section
/-! DEFINITION. The PTP time base (10_ethernet_ptp.md, R370 to R377, R382, R383): the counter, its increment, slew and
steps, its readings, and the transmit timestamp queue. -/

namespace Sys2Proof.Machine

/-- Change the time base. -/
def State.modTb (s : State) (f : TimeBase → TimeBase) : State := { s with tb := f s.tb }

/-- Source unit number of the time base (R489). -/
def srcPtp : Nat := 0xA4

/-- 2²⁸, the units of one ns. -/
def nsUnits : Nat := 2 ^ 28

/-- Device time as one number, units of 2⁻²⁸ ns. -/
def DevTime.units (t : DevTime) : Nat := t.ns * nsUnits + t.frac

/-- Device time from units of 2⁻²⁸ ns; the count of ns has 64 bits. -/
def DevTime.ofUnits (u : Nat) : DevTime := ⟨u / nsUnits % 2 ^ 64, u % nsUnits⟩

/-- Is the time base LOCKED (R372)? -/
def State.locked (s : State) : Bool := s.fld F.PTP_STATUS_TB_STATE == 1

/-- INCR_EFF: the rate-limited increment plus the slew term (R375). -/
def TimeBase.incrEff (t : TimeBase) : Nat := ((t.rate : Int) + t.slew).toNat

/-- Show the time base in its registers: INCR_EFF, SLEW_LEFT, RATE_LIMITING and SLEWING. -/
def State.showTb (s : State) : State :=
  let a := s.wrn Reg.PTP_INCR_EFF s.tb.incrEff
  let b := a.wrn Reg.PTP_SLEW_LEFT (code 32 (s.tb.remain / (nsUnits : Int)))
  let c := b.setTo F.PTP_STATUS_SLEWING (decide (s.tb.remain ≠ 0))
  c.setTo F.PTP_STATUS_RATE_LIMITING (decide (s.tb.rate ≠ s.rdn Reg.PTP_INCR))

/-- SLEW_RATE in units per tick: 0.1 ppm of 2³⁰ units each, 0 taken as 1 and more than 20 as 20 (R374). -/
def State.slewRate (s : State) : Nat :=
  let r := s.fld F.PTP_CTRL_SLEW_RATE
  (if r = 0 then 1 else satN 20 r) * 2 ^ 30 / 10000000

/-- The remainder less what `n` ticks of a slew term remove; it stops at 0 and stays there (R374). -/
def slewAfter (remain slew : Int) (n : Nat) : Int :=
  if slew = 0 ∨ remain = 0 then remain
  else if slew.natAbs * n ≥ remain.natAbs ∧ (slew < 0 ↔ remain < 0) then 0
  else remain - slew * n

/-- In FREE: INCR_EFF takes PTP_INCR, and the full slew rate while an offset remains (R372, R374).  In station role the ring
disciplines the rate (R336). -/
def State.freeRate (s : State) : State :=
  if s.locked || s.station then s
  else
    let t : Int := if s.tb.remain = 0 then 0 else if s.tb.remain < 0 then -(s.slewRate : Int) else s.slewRate
    s.modTb fun b => { b with rate := s.rdn Reg.PTP_INCR, slew := t }

/-- Add a step to device time, modulo 2⁶⁴ ns (R373). -/
def DevTime.stepped (t : DevTime) (d : Int) : DevTime := ⟨code 64 ((t.ns : Int) + d), t.frac⟩

/-- A new epoch of device time begins: the intake releases what it holds first (R490). -/
def State.newEpoch (s : State) : State :=
  let a := s.releaseAll
  { a with alm := { a.alm with epoch := a.alm.epoch + 1 } }

/-- The two halves of a step as event parameters (EV164). -/
def stepParams (d : Int) : Word × Word := (w32 (code 64 d), w32 (code 64 d / 2 ^ 32))

/-- A time that a unit measures from, moved with a step of device time. -/
def movedBy (d : Int) (t : Nat) : Nat := ((t : Int) + d).toNat

/-- The start of a section, moved with a step. -/
def Section.moved (d : Int) (x : Section) : Section := { x with start := movedBy d x.start }

/-- A step does not disturb an interval that runs: every instant the device measures one from moves with device time.
Stamps of what has happened stay (R373, DEDUCED, log entry 16). -/
def State.moveTimers (s : State) (d : Int) : State :=
  let m := movedBy d
  let c := s.cdr
  { s with
    cdr := { c with
      pre := c.pre.moved d, post := c.post.moved d, fast := c.fast.moved d, slow := c.slow.moved d
      startAt := c.startAt.map m, copyRun := c.copyRun.map fun r => { r with start := m r.start }, initStart := m c.initStart, stageTime := m c.stageTime, window := c.window.map fun w => { w with openAt := m w.openAt } }
    grd := { s.grd with
      beatAt := s.grd.beatAt + d, decideAt := s.grd.decideAt + d, degStart := s.grd.degStart.map (· + d)
      edsAt := s.grd.edsAt.map (· + d), gtAt := s.grd.gtAt.map (· + d) }
    hif := { s.hif with rings := s.hif.rings.map fun r => { r with irqSince := m r.irqSince, retryAt := m r.retryAt, readFrom := m r.readFrom } }
    mer := { s.mer with cleanFrom := m s.mer.cleanFrom }
    pow := { s.pow with dwellFrom := s.pow.dwellFrom.map m, stepFrom := m s.pow.stepFrom, rampFrom := m s.pow.rampFrom, cycleFrom := m s.pow.cycleFrom }
    red := { s.red with claimAt := m s.red.claimAt, entered := m s.red.entered, lastAt := m s.red.lastAt }
    xl := { s.xl with
      wire := s.xl.wire.map (fun e => if (s.now : Int) - d ≤ e.time + 13000 then { e with time := m e.time } else e)
      ports := s.xl.ports.map (fun p => { p with linkSince := m p.linkSince, t1 := p.t1.map m })
      stn := { s.xl.stn with identify := m s.xl.stn.identify } }
    can := s.can.map fun q => { q with locks := q.locks.map fun l => (l.1, m l.2) }
    sdf := s.sdf.map fun k => { k with begun := m k.begun }
    uart := s.uart.map fun u => { u with lastChar := m u.lastChar }
    eth := s.eth.map fun e => { e with busyUntil := m e.busyUntil }
    tb := { s.tb with
      latches := s.tb.latches.map (fun l => { l with since := m l.since })
      stamps := s.tb.stamps.map fun e => { e with since := m e.since } }
    ory := { s.ory with
      queue := s.ory.queue.map (fun j => { j with dl := j.dl.map m })
      runs := s.ory.runs.map fun r => { r with grant := m r.grant, start := m r.start, job := { r.job with dl := r.job.dl.map m } } }
    boot := { s.boot with zero := s.boot.zero + d, waitFrom := s.boot.waitFrom.map m } }

/-- Device time changes by a step: a new epoch begins, and no interval that runs is disturbed. -/
def State.stepTime (s : State) (d : Int) : State :=
  (s.modTb fun b => { b with now := b.now.stepped d }).newEpoch.moveTimers d

/-- Apply a step: device time changes, STEP_DONE is set, STEP stays while another step waits, and EV164 is the first record of the new
epoch. -/
def State.applyStep (s : State) (d : Int) : State :=
  let c := ((s.stepTime d).setTo F.PTP_STATUS_STEP_DONE true).setTo F.PTP_CTRL_STEP (!s.tb.steps.isEmpty)
  c.raiseStep srcPtp (stepParams d).1 (stepParams d).2

/-- A step waiting in FREE takes effect at the next tick (R372). -/
def State.applyFreeStep (s : State) : State :=
  match s.tb.freeStep with
  | none => s
  | some d => (s.modTb fun b => { b with freeStep := none }).applyStep d

/-- One CK_TIME tick: the counter adds INCR_EFF (R370), and what the slew term removed leaves the remainder; none without the
root (R535). -/
def State.tick (s : State) : State :=
  if s.svDead then s else
  let a := s.freeRate
  let b := a.modTb fun t => { t with
    now := DevTime.ofUnits (t.now.units + t.incrEff), remain := slewAfter t.remain t.slew 1 }
  b.applyFreeStep.showTb

/-- Device time of the next sample instant; none before the grid is scheduled. -/
def State.nextSample (s : State) : Option Nat := if s.cdr.grid then some (s.cdr.t0 + s.tbase) else s.boot.gridAt

/-- Has device time reached the next sample instant, whose command has not come yet? -/
def State.tied (s : State) : Bool := match s.nextSample with | some t => decide (t ≤ s.now) | none => false

/-- Does a commit written now take effect only at the sample instant after the next (R40, R124, R148, R191, R199, R238): it falls in
that instant's clock, as device time has reached it (DEDUCED, log entry 51)?  One that waits already keeps its instant. -/
def State.commitTie (s : State) (waits late : Bool) : Bool := if waits then late else s.tied

/-- Let device time run on to the first CK_TIME tick at or after an instant, by whole increments (R370); an instant already passed
changes nothing. -/
def State.runTo (s : State) (ns : Nat) : State :=
  if ns ≤ s.now then s
  else
    let a := s.applyFreeStep.freeRate
    let incr := if a.tb.incrEff = 0 then 1 else a.tb.incrEff
    let n := (ns * nsUnits - a.tb.now.units + incr - 1) / incr
    if ns ≤ a.now then a.showTb
    else (a.modTb fun t => { t with now := ⟨(t.now.units + n * incr) / nsUnits, (t.now.units + n * incr) % nsUnits⟩, remain := slewAfter t.remain t.slew n }).showTb

/-- What a ramp down from a slew term of `v` units removes over the base cycles that follow, `k` of them at most. -/
def rampRemoves (ticks : Nat) : Nat → Nat → Nat
  | 0, _ => 0
  | k + 1, v => if v ≤ 54 then 0 else ticks * (v - 54) + rampRemoves ticks k (v - 54)

/-- The slew term's size at a sample instant in LOCKED: it grows toward the slew rate, holds, and shrinks once the
remainder is no more than the ramp down removes; a residue under one step takes the smaller term that removes it, and one
under half of one unit's removal is dropped (R374). `b` is what remains of the 54 units (R375). -/
def slewTarget (ticks rate v r b : Nat) : Nat :=
  if 2 * r < ticks then v - satN b v
  else if v ≤ 54 ∧ r < 54 * ticks then
    let t := satN 54 ((2 * r + ticks) / (2 * ticks))
    if v ≤ t then satN (v + b) t else v - satN b (v - t)
  else if r ≤ rampRemoves ticks 64 v then v - satN b v
  else if v < rate then satN (v + b) rate else v - satN b (v - rate)

/-- INCR_EFF at a sample instant in LOCKED (R375): the rate-limited increment moves first, by at most 54 units, and the
slew term takes what remains. In station role the ring disciplines the rate. -/
def State.lockedRate (s : State) : State :=
  if !s.locked || s.station then s
  else
    let tgt := s.rdn Reg.PTP_INCR
    let mv := satN 54 (if s.tb.rate < tgt then tgt - s.tb.rate else s.tb.rate - tgt)
    let rate := if s.tb.rate < tgt then s.tb.rate + mv else s.tb.rate - mv
    let ticks := s.tbase / 4
    let r := s.tb.remain.natAbs
    let drop := decide (2 * r < ticks)
    let sz := slewTarget ticks s.slewRate s.tb.slew.natAbs r (54 - mv)
    let neg := decide (s.tb.remain < 0)
    let same := decide (s.tb.slew = 0) || (decide (s.tb.slew < 0) == neg)
    let sl : Int := if same then (if neg then -(sz : Int) else sz)
      else if s.tb.slew < 0 then -((s.tb.slew.natAbs - satN (54 - mv) s.tb.slew.natAbs : Nat) : Int)
      else ((s.tb.slew.natAbs - satN (54 - mv) s.tb.slew.natAbs : Nat) : Int)
    (s.modTb fun t => { t with rate := rate, slew := sl, remain := if drop then 0 else t.remain }).showTb

/-- The step that applies at the sample instant of a cycle, taken out of the waiting ones (R373). -/
def State.takeStep (s : State) (cyc : Nat) : Int × State :=
  ((s.tb.steps.filter (fun p => p.2 ≤ cyc)).foldl (fun a p => a + p.1) 0,
   s.modTb fun t => { t with steps := t.steps.filter (fun p => cyc < p.2) })

/-- The first cycle whose CYCLE frames have not begun to launch (R373). -/
def State.stepCycle (s : State) : Nat := Nat.max (s.cdr.cyc + 1) (s.tb.launched + 1)

/-- PTP_STEP as a signed 64-bit number of ns. -/
def State.stepReg (s : State) : Int := sgn 64 (s.rd64 Reg.PTP_STEP_LO Reg.PTP_STEP_HI)

/-- PTP_CTRL.STEP (R372, R373). In LOCKED a step that is 0 or no whole multiple of T_base is refused; a step still
waiting whose cycle has not begun to launch is replaced. In station role the write is ignored (R372). -/
def State.stepGo (s : State) : State :=
  if s.station then s
  else if !s.locked then (s.setTo F.PTP_CTRL_STEP true).modTb fun t => { t with freeStep := some s.stepReg }
  else if s.stepReg = 0 ∨ s.tbase = 0 ∨ s.stepReg.natAbs % s.tbase ≠ 0 then
    ((s.setTo F.PTP_STATUS_STEP_REFUSED true).setTo F.PTP_CTRL_STEP false).raise3 164 sevNotice srcPtp
      (stepParams s.stepReg).1 (stepParams s.stepReg).2 0
  else
    let kept := s.tb.steps.filter (fun p => p.2 ≤ s.tb.launched)
    (s.setTo F.PTP_CTRL_STEP true).modTb fun t => { t with steps := kept ++ [(s.stepReg, s.stepCycle)] }

/-- STEP (R373). -/
def execStep (_req : Req) (s : State) : Host.Outcome State Fault Refusal := s.gate 10 <| .next s.stepGo

/-- PTP_CTRL.SLEW_GO loads PTP_SLEW, replacing what remains (R374); ignored in station role (R372). -/
def State.slewGo (s : State) : State :=
  if s.station then s
  else (s.modTb fun t => { t with remain := i32 (s.rd Reg.PTP_SLEW) * (nsUnits : Int) }).freeRate.showTb

/-- SLEW_GO (R374). -/
def execSlewGo (_req : Req) (s : State) : Host.Outcome State Fault Refusal := s.gate 10 <| .next s.slewGo

/-- SLEW_DONE (R374): in FREE, a remainder at 0 ends the slew term. -/
def execSlewDone (s : State) : Host.Outcome State Fault Refusal :=
  s.gate 10 <| .next (if s.tb.remain = 0 then s.freeRate.showTb else s)

/-- A written PTP_INCR is clamped to ±500 ppm (R371). -/
def clampIncr (v : Nat) : Nat := if v < 0x3FF7CED9 then 0x3FF7CED9 else satN 0x40083127 v

/-- Write PTP_INCR (R371, R372); ignored in station role. -/
def State.writeIncr (s : State) (v : Nat) : State :=
  if s.station then s else (s.wrn Reg.PTP_INCR (clampIncr v)).freeRate.showTb

/-- PTP_INCR (R371). -/
def execPtpIncr (_req : Req) (v : Word) (s : State) : Host.Outcome State Fault Refusal := s.gate 10 <| .next (s.writeIncr v.toNat)

/-! ### Readings (R376) -/

/-- A requester's latch. -/
def State.latchOf (s : State) (r : Req) : Option ExtLatch := s.tb.latches.find? (fun l => l.who == r.idx)

/-- EXT_VALID as a requester reads it: its latch is at most 1 s old (R376). -/
def State.extValid (s : State) (r : Req) : Bool :=
  match s.latchOf r with
  | none => false
  | some l => decide (l.since ≤ s.now ∧ s.now - l.since ≤ 1000000000)

/-- PTP_TIME_EXT as a requester reads it (R376). -/
def State.timeExt (s : State) (r : Req) : Nat :=
  match s.latchOf r with
  | none => 0
  | some l => l.hi

/-- The value a read of PTP_TIME_NS returns, and the state with the requester's latch taken (R376). -/
def State.readTimeNs (s : State) (r : Req) : Nat × State :=
  (s.now % 2 ^ 32, s.modTb fun t => { t with
    latches := ⟨r.idx, s.now / 2 ^ 32 % 2 ^ 32, s.now⟩ :: t.latches.filter (fun l => l.who != r.idx) })

/-- PTP_TIME_NS (R376). -/
def execPtpTimeNs (req : Req) (s : State) : Host.Outcome State Fault Refusal :=
  s.gateRead 10 { (s.readTimeNs req).2 with readData := (s.readTimeNs req).1 }

/-! ### The transmit timestamp queue (R382, R383) -/

/-- Show the queue's fill. -/
def State.showLevel (s : State) : State := s.put F.PTP_TXTS_CNT_LEVEL s.tb.stamps.length

/-- Push an entry with its stamp, ns of device time; a full queue drops it, counts LOST and raises EV161 (R383). -/
def State.pushStamp (s : State) (tsId port stamp : Nat) : State :=
  if 64 ≤ s.tb.stamps.length then
    (((s.bump F.PTP_TXTS_CNT_LOST 1).setTo F.PTP_STATUS_TS_LOST true).modTb fun t => { t with lostNext := true }).raise
      161 sevWarn srcPtp
  else
    (s.modTb fun t => { t with
      stamps := t.stamps ++ [⟨tsId, port, t.lostNext, stamp % 2 ^ 32, stamp⟩], lostNext := false }).showLevel

/-- PTP_TXTS_W0 as it reads: identifier, port and flags of the head, VALID 0 when the queue is empty (R382). -/
def State.txtsW0 (s : State) : Nat :=
  match s.tb.stamps with
  | [] => 0
  | e :: _ => putBits (putBits (putBits (putBits 0 31 16 e.tsId) 15 14 e.port) 13 13 (b2n e.lostBefore)) 12 12 1

/-- A read of PTP_TXTS_W0 latches the head (R382). -/
def State.readTxts0 (s : State) : Nat × State :=
  (s.txtsW0, s.modTb fun t => { t with headLatched := !t.stamps.isEmpty })

/-- PTP_TXTS_W0 (R382). -/
def execPtpTxtsW0 (_req : Req) (s : State) : Host.Outcome State Fault Refusal :=
  s.gateRead 10 { s.readTxts0.2 with readData := s.readTxts0.1 }

/-- A read of PTP_TXTS_W1 returns the latched head's stamp and pops it; without a latch it returns 0 (R382). -/
def State.readTxts1 (s : State) : Nat × State :=
  if s.tb.headLatched then
    match s.tb.stamps with
    | [] => (0, s)
    | e :: t => (e.stamp, (s.modTb fun b => { b with stamps := t, headLatched := false }).showLevel)
  else (0, s)

/-- PTP_TXTS_W1 (R382). -/
def execPtpTxtsW1 (_req : Req) (s : State) : Host.Outcome State Fault Refusal :=
  s.gateRead 10 { s.readTxts1.2 with readData := s.readTxts1.1 }

/-- The entry of the queue with the oldest stamp, which need not be its head: the ports' latencies differ (R380). -/
def oldestStamp : List TxStamp → Option TxStamp
  | [] => none
  | e :: t =>
    match oldestStamp t with
    | some x => some (if x.since < e.since then x else e)
    | none => some e

/-- TXTS_EXPIRY (R383): the entry of the oldest stamp, still queued 1 s after it, is removed and counted; EV162.  A pop at that instant
takes effect first, so the removal comes at the next tick. -/
def State.expireStamp (s : State) : State :=
  match oldestStamp s.tb.stamps with
  | none => s
  | some e =>
    (((((s.runTo (e.since + 1000000001)).modTb fun b => { b with
        stamps := b.stamps.erase e, headLatched := b.headLatched && b.stamps.head? != some e }).bump F.PTP_TXTS_CNT_EXPIRED 1).setTo
        F.PTP_STATUS_TS_EXPIRED true).showLevel).raise 162 sevInfo srcPtp

/-- TXTS_EXPIRY (R383). -/
def execTxtsExpiry (s : State) : Host.Outcome State Fault Refusal := s.gate 10 <| .next s.expireStamp

end Sys2Proof.Machine
end

