-- ==== Sys2Proof/Machine/Vec.lean ====
section
/-! DEFINITION. Vectors, rotations and linear algebra over binary64 codes, as the formulas of chapters 3 to 6 use them.
Every single operation is IEEE 754 binary64 (R12, R186).  A sum of products of the control system's formulas runs from
left to right, each product and each sum rounded once (DESIGN CHOICE, log entry 5); inside an engine of the Orrery the order
of the operations is the open function `Config.dot`; a transcendental function is an open function of its argument. -/

namespace Sys2Proof.Machine

/-! ### Scalars -/

/-- A sum of products, from left to right. -/
def dotN (ps : List (Nat × Nat)) : Nat :=
  match ps with
  | [] => 0
  | p :: qs => qs.foldl (fun a q => fadd a (fmul q.1 q.2)) (fmul p.1 p.2)

/-- A sum of products in the lanes of an engine: the order of its operations is open. -/
def laneDot (ps : List (Nat × Nat)) : Nat := (Config.dot ps).toNat

/-- Binary64 codes of open results. -/
def codes (xs : List (BitVec 64)) : List Nat := xs.map (·.toNat)

/-- An element of a vector; 0 outside it. -/
def nth (xs : List Nat) (i : Nat) : Nat := xs.getD i 0

/-- `n` elements of a vector from `off` on, each 0 outside it. -/
def slice (xs : List Nat) (off n : Nat) : List Nat := (List.range n).map fun i => nth xs (off + i)

/-- 1 in binary64. -/
def one : Nat := fint 1

/-- −1 in binary64. -/
def negOne : Nat := fint (-1)

/-- Sine. -/
def fsin (x : Nat) : Nat := (Config.sin x).toNat
/-- Cosine. -/
def fcos (x : Nat) : Nat := (Config.cos x).toNat
/-- Tangent. -/
def ftan (x : Nat) : Nat := (Config.tan x).toNat
/-- The direction of the vector (y, x), in (−π, π]. -/
def fatan2 (y x : Nat) : Nat := (Config.atan2 y x).toNat

/-- A power with a whole exponent, by repeated multiplication; the power 0 is 1. -/
def fpow (x : Nat) : Nat → Nat
  | 0 => one
  | k + 1 => fmul (fpow x k) x

/-- A finite code as numerator and denominator; 0 where it is not finite. -/
def fratio (a : Nat) : Int × Nat :=
  match fmt64.read a with
  | .fin x m e => (sgnd x m * ((2 ^ e.toNat : Nat) : Int), 2 ^ (-e).toNat)
  | _ => (0, 1)

/-- x − y in units of 1 ÷ (den · 10⁴⁰), brought into [0, 2π), with 2π in the same units. -/
def angleUnits (x y : Nat) : Int × Nat :=
  let a := fratio x
  let b := fratio y
  let turn := 2 * piNum * (a.2 * b.2)
  (((a.1 * (b.2 : Int) - b.1 * (a.2 : Int)) * (piDen : Int)) % (turn : Int), turn)

/-- An angle brought into [0, 2π), rounded once. -/
def fturn (x : Nat) : Nat :=
  if ffin x then ffrac (angleUnits x 0).1 ((fratio x).2 * piDen) else fmt64.nan

/-- The difference of two angles taken in (−π, π], rounded once. -/
def angleDiff (x y : Nat) : Nat :=
  if ffin x && ffin y then
    let u := angleUnits x y
    ffrac (if (u.2 : Int) < 2 * u.1 then u.1 - (u.2 : Int) else u.1) ((fratio x).2 * (fratio y).2 * piDen)
  else fmt64.nan

/-- The length of a vector. -/
def vnorm (v : List Nat) : Nat := fsqrt (dotN (v.map fun x => (x, x)))

/-- The length of a plane vector. -/
def hypot (x y : Nat) : Nat := vnorm [x, y]

/-! ### Vectors and rotations of three dimensions -/

/-- Scalar product. -/
def vdot (a b : List Nat) : Nat := dotN (a.zip b)

/-- Sum. -/
def v3add (a b : List Nat) : List Nat := (List.range 3).map fun i => fadd (nth a i) (nth b i)

/-- Difference. -/
def v3sub (a b : List Nat) : List Nat := (List.range 3).map fun i => fsub (nth a i) (nth b i)

/-- Multiple. -/
def v3scale (k : Nat) (a : List Nat) : List Nat := (List.range 3).map fun i => fmul k (nth a i)

/-- Cross product. -/
def v3cross (a b : List Nat) : List Nat :=
  let c (i j : Nat) : Nat := dotN [(nth a i, nth b j), (fneg (nth a j), nth b i)]
  [c 1 2, c 2 0, c 0 1]

/-- Matrix, as a list of rows, times vector. -/
def mulMV (m : List (List Nat)) (v : List Nat) : List Nat := m.map fun r => vdot r v

/-- The transpose of a matrix of three columns. -/
def transp (m : List (List Nat)) : List (List Nat) := (List.range 3).map fun j => m.map fun r => nth r j

/-- Product of two 3 × 3 matrices. -/
def mulMM (a b : List (List Nat)) : List (List Nat) := a.map fun r => (transp b).map (vdot r)

/-- Rz. -/
def rotZ (a : Nat) : List (List Nat) := [[fcos a, fneg (fsin a), 0], [fsin a, fcos a, 0], [0, 0, one]]

/-- Ry. -/
def rotY (a : Nat) : List (List Nat) := [[fcos a, 0, fsin a], [0, one, 0], [fneg (fsin a), 0, fcos a]]

/-- Rx. -/
def rotX (a : Nat) : List (List Nat) := [[one, 0, 0], [0, fcos a, fneg (fsin a)], [0, fsin a, fcos a]]

/-- C_nb = Rz(ψ) · Ry(θ) · Rx(φ) of an attitude: heading, roll, pitch (R125). -/
def cnb (att : List Nat) : List (List Nat) := mulMM (mulMM (rotZ (nth att 0)) (rotY (nth att 2))) (rotX (nth att 1))

/-- An element of a matrix. -/
def mAt (m : List (List Nat)) (i j : Nat) : Nat := nth (m.getD i []) j

/-- The attitude of a rotation Rz(ψ) · Ry(θ) · Rx(φ): heading in [0, 2π), roll, pitch. -/
def attOf (m : List (List Nat)) : List Nat :=
  [fturn (fatan2 (mAt m 1 0) (mAt m 0 0)), fatan2 (mAt m 2 1) (mAt m 2 2),
    fatan2 (fneg (mAt m 2 0)) (hypot (mAt m 0 0) (mAt m 1 0))]

/-- The rotation of a quaternion w, x, y, z. -/
def quatMat (q : List Nat) : List (List Nat) :=
  let w := nth q 0
  let x := nth q 1
  let y := nth q 2
  let z := nth q 3
  let two := fint 2
  let diag (a b : Nat) : Nat := fsub one (fmul two (dotN [(a, a), (b, b)]))
  let off (a b c d : Nat) : Nat := fmul two (dotN [(a, b), (c, d)])
  [[diag y z, off x y (fneg w) z, off x z w y], [off x y w z, diag x z, off y z (fneg w) x],
    [off x z (fneg w) y, off y z w x, diag x y]]

/-- The rotation vector of a rotation; 0 where the rotation has no skew part. -/
def rotVec (m : List (List Nat)) : List Nat :=
  let v := [fsub (mAt m 2 1) (mAt m 1 2), fsub (mAt m 0 2) (mAt m 2 0), fsub (mAt m 1 0) (mAt m 0 1)]
  let s := vnorm v
  if fabs s = 0 then [0, 0, 0]
  else v3scale (fdiv (fatan2 s (dotN [(one, mAt m 0 0), (one, mAt m 1 1), (one, mAt m 2 2), (one, negOne)])) s) v

/-- The rotation of a rotation vector. -/
def rotExp (v : List Nat) : List (List Nat) :=
  let a := vnorm v
  if fabs a = 0 then [[one, 0, 0], [0, one, 0], [0, 0, one]]
  else
    let k := v3scale (fdiv one a) v
    let c := fsub one (fcos a)
    let cross : List (List Nat) :=
      [[0, fneg (nth k 2), nth k 1], [nth k 2, 0, fneg (nth k 0)], [fneg (nth k 1), nth k 0, 0]]
    (List.range 3).map fun i => (List.range 3).map fun j =>
      dotN [(if i = j then one else 0, fcos a), (mAt cross i j, fsin a), (fmul c (nth k i), nth k j)]

/-! ### Linear algebra -/

/-- The inverse of a 3 × 3 matrix in row order, by its adjugate. -/
def inverse3 (m : List Nat) : List Nat :=
  let r (i : Nat) : List Nat := slice m (3 * i) 3
  let cs := [v3cross (r 1) (r 2), v3cross (r 2) (r 0), v3cross (r 0) (r 1)]
  let det := vdot (r 0) (v3cross (r 1) (r 2))
  (List.range 3).flatMap fun i => cs.map fun c => fdiv (nth c i) det

/-- The rows of an s × s matrix. -/
def matRows (s : Nat) (m : List Nat) : List (List Nat) := (List.range s).map fun i => (m.drop (s * i)).take s

/-- x less a sum of products, which `dot` forms. -/
def lessDot (dot : List (Nat × Nat) → Nat) (x : Nat) (ps : List (Nat × Nat)) : Nat :=
  dot ((one, x) :: ps.map fun p => (fneg p.1, p.2))

/-- Row `i` of the factor of `m`, without its diagonal, from the rows above it. -/
def cholRow (dot : List (Nat × Nat) → Nat) (m : List (List Nat)) (rows : List (List Nat)) (i : Nat) : List Nat :=
  (List.range i).foldl (fun r j =>
    r ++ [fdiv (lessDot dot (mAt m i j) (r.zip (rows.getD j []))) (mAt rows j j)]) []

/-- The rows of the lower-triangular factor of an n × n matrix; none where a pivot is not positive or not finite (R187). -/
def cholesky (dot : List (Nat × Nat) → Nat) (n : Nat) (m : List (List Nat)) : Option (List (List Nat)) :=
  (List.range n).foldl (fun acc i => acc.bind fun rows =>
    let r := cholRow dot m rows i
    let d := lessDot dot (mAt m i i) (r.zip r)
    if flt 0 d && ffin d then some (rows ++ [r ++ [fsqrt d]]) else none) (some [])

/-- Forward substitution: L x = b for the rows of a lower-triangular matrix. -/
def lowerSolve (dot : List (Nat × Nat) → Nat) (rows : List (List Nat)) (b : List Nat) : List Nat :=
  (List.range rows.length).foldl (fun x i =>
    x ++ [fdiv (lessDot dot (nth b i) ((rows.getD i []).zip x)) (mAt rows i i)]) []

/-- Back substitution: U x = b for the rows of an upper-triangular matrix. -/
def upperSolve (dot : List (Nat × Nat) → Nat) (rows : List (List Nat)) (b : List Nat) : List Nat :=
  (List.range rows.length).foldr (fun i x =>
    fdiv (lessDot dot (nth b i) (((rows.getD i []).drop (i + 1)).zip x)) (mAt rows i i) :: x) []

/-! ### The vessel model (R178, R196) -/

/-- The derivative of the vessel model (R178), with its sums formed by `dot`: M⁻¹, D_L, D_Q, force, state N, E, ψ, u, v, r. -/
def simDeriv (dot : List (Nat × Nat) → Nat) (minv dl dq tau x : List Nat) : List Nat :=
  let c := fcos (nth x 2)
  let n := fsin (nth x 2)
  let nu := slice x 3 3
  let f := (List.range 3).map fun i =>
    lessDot dot (nth tau i) ((((List.range 3).map fun j => nth dl (3 * i + j)).zip nu) ++
      [(fmul (nth dq i) (fabs (nth nu i)), nth nu i)])
  [dot [(c, nth x 3), (fneg n, nth x 4)], dot [(n, nth x 3), (c, nth x 4)], nth x 5] ++
    (matRows 3 minv).map fun r => dot (r.zip f)

/-- A state plus a multiple of a derivative. -/
def simMove (dot : List (Nat × Nat) → Nat) (x : List Nat) (h : Nat) (k : List Nat) : List Nat :=
  (List.range 6).map fun i => dot [(one, nth x i), (h, nth k i)]

/-- One step of classical RK4 of length h (R178). -/
def simStep (dot : List (Nat × Nat) → Nat) (minv dl dq tau : List Nat) (h : Nat) (x : List Nat) : List Nat :=
  let d := simDeriv dot minv dl dq tau
  let half := fdiv h (fint 2)
  let k1 := d x
  let k2 := d (simMove dot x half k1)
  let k3 := d (simMove dot x half k2)
  let k4 := d (simMove dot x h k3)
  simMove dot x (fdiv h (fint 6)) ((List.range 6).map fun i =>
    dot [(one, nth k1 i), (fint 2, nth k2 i), (fint 2, nth k3 i), (one, nth k4 i)])

/-- The transpose of an s × s matrix. -/
def transpose (s : Nat) (m : List (List Nat)) : List (List Nat) := (List.range s).map fun j => m.map fun r => nth r j

/-- One Householder reflection of column `j`, over the rows from `j` on; a column of norm 0 takes the identity (R175).
The sign of the diagonal is open. -/
def reflect (rows : List (List Nat)) (j : Nat) : List (List Nat) :=
  let x := (rows.drop j).map fun r => nth r j
  let norm := fsqrt (laneDot (x.zip x))
  if fabs norm = 0 then rows
  else
    let alpha := if Config.reflectNeg x then fneg norm else norm
    let v := setAt x 0 (fsub (nth x 0) alpha)
    let vv := laneDot (v.zip v)
    if fabs vv = 0 then rows
    else
      let w := (rows.headD []).length
      let t := (List.range w).map fun c => fmul (fdiv (fint 2) vv) (laneDot (v.zip ((rows.drop j).map fun r => nth r c)))
      rows.take j ++ ((rows.drop j).zipIdx.map fun p =>
        (List.range w).map fun c =>
          if c = j then (if p.2 = 0 then alpha else 0) else lessDot laneDot (nth p.1 c) [(nth v p.2, nth t c)])

/-- Householder triangularisation of rows of `w` columns: the upper-triangular block of w − 1 rows (R175). -/
def triangularise (w : Nat) (rows : List (List Nat)) : List (List Nat) :=
  let t := (List.range (w - 1)).foldl reflect rows
  (t ++ List.replicate (w - 1) (List.replicate w 0)).take (w - 1)

end Sys2Proof.Machine
end

