-- ==== Sys2Proof/Machine/Measure.lean ====
section
/-! DEFINITION. The measurement rows of the fusion unit (R117, R121, R125, R128, R129, R136, R140 to R146): the nominal state
at a measurement's own time, the move to CO, predictions, innovations and standard deviations.  The error state is what
must be added to the nominal state (R119).  What no rule gives of a row, its partial derivative by the attitude error, is
an open function (log entry 7). -/

namespace Sys2Proof.Machine

/-! ### Reticle source entries (R121, R122) -/

/-- A slot's Reticle source entry. -/
def State.entry (s : State) (slot : Nat) : List Byte := (s.winBytes (0x62000 + 64 + 64 * slot) 16)

/-- Entry `i` of the reflector catalogue. -/
def State.reflector (s : State) (i : Nat) : List Byte := s.winBytes (0x62000 + 2112 + 16 * i) 4

/-- Is an entry enabled? -/
def entryOn (e : List Byte) : Bool := fieldLe e 0 1 != 0 && bitAt (fieldLe e 2 1) 0

/-- Is it a relative reference (R123)? -/
def entryRel (e : List Byte) : Bool := bitAt (fieldLe e 2 1) 1 || fieldLe e 0 1 == 3 || fieldLe e 0 1 == 4

/-- Is it a GNSS receiver? -/
def entryGnss (e : List Byte) : Bool := fieldLe e 0 1 == 1 || fieldLe e 0 1 == 2

/-- A float32 field in binary64. -/
def f32At (bs : List Byte) (off : Nat) : Nat := f32to64 (fieldLe bs off 4)

/-- `n` float32 fields in binary64. -/
def f32sAt (bs : List Byte) (off n : Nat) : List Nat := (List.range n).map fun i => f32At bs (off + 4 * i)

/-- LEVER. -/
def entLever (e : List Byte) : List Nat := f32sAt e 8 3

/-- The rotation of MOUNT, sensor frame to body frame. -/
def entMount (e : List Byte) : List (List Nat) := quatMat (f32sAt e 20 4)

/-- PARAM `i`. -/
def entParam (e : List Byte) (i : Nat) : Nat := f32At e (44 + 4 * i)

/-- PARAM `i` as a whole number. -/
def entWhole (e : List Byte) (i : Nat) : Nat := (fmt32.toIntScaled (fieldLe e (44 + 4 * i) 4) 1 true).toNat

/-- The receiver index of a GNSS entry. -/
def entRx (e : List Byte) : Nat := entWhole e 0

/-- The standard deviation of a row: the larger of SIG_FLOOR and SIG_SCALE times the producer's value (R121). -/
def entSigma (e : List Byte) (producer : Nat) : Nat := fmax (f32At e 40) (fmul (f32At e 36) producer)

/-! ### WGS 84 and the datum (R148) -/

/-- Semi-major axis of WGS 84, m. -/
def wgsA : Nat := fint 6378137

/-- Square of the first eccentricity, from the flattening 1 ÷ 298.257223563. -/
def wgsE2 : Nat := let f := ffrac 1000000000 298257223563; fmul f (fsub (fint 2) f)

/-- Earth-fixed X, Y, Z of a latitude, a longitude and an ellipsoidal height. -/
def ecefOf (p : List Nat) : List Nat :=
  let sl := fsin (nth p 0)
  let cl := fcos (nth p 0)
  let n := fdiv wgsA (fsqrt (lessDot dotN one [(wgsE2, fmul sl sl)]))
  let r := fmul (fadd n (nth p 2)) cl
  [fmul r (fcos (nth p 1)), fmul r (fsin (nth p 1)), fmul (dotN [(n, fsub one wgsE2), (one, nth p 2)]) sl]

/-- The rows North, East, Down of the earth frame at a datum, in earth-fixed axes. -/
def nedAxes (p : List Nat) : List (List Nat) :=
  let sl := fsin (nth p 0)
  let cl := fcos (nth p 0)
  let so := fsin (nth p 1)
  let co := fcos (nth p 1)
  [[fneg (fmul sl co), fneg (fmul sl so), cl], [fneg so, co, 0], [fneg (fmul cl co), fneg (fmul cl so), fneg sl]]

/-- Latitude, longitude and height of the datum words. -/
def datumLlh (d : List Word) : List Nat :=
  let w (i : Nat) : Nat := ((d[i]?).getD 0).toNat
  [w 0 + 2 ^ 32 * w 1, w 2 + 2 ^ 32 * w 3, f32to64 (w 4)]

/-- An earth-fixed point relative to a datum, N, E, D. -/
def nedOf (d : List Word) (p : List Nat) : List Nat := mulMV (nedAxes (datumLlh d)) (v3sub p (ecefOf (datumLlh d)))

/-- A point relative to a datum in earth-fixed axes. -/
def ecefFrom (d : List Word) (p : List Nat) : List Nat := v3add (ecefOf (datumLlh d)) (mulMV (transp (nedAxes (datumLlh d))) p)

/-- A position relative to a datum, referred to another (R148). -/
def redatumPos (old new : List Word) (p : List Nat) : List Nat := nedOf new (ecefFrom old p)

/-- The datum in force. -/
def State.datum (s : State) : List Word := s.fus.datum

/-! ### The nominal state at an instant (R117) -/

/-- The stored states that bracket an instant: the newest not after it, and the oldest not before it. -/
def State.bracket (s : State) (t : Int) : Nominal × Nominal :=
  let h := s.fus.history
  let a := (h.find? fun x => decide ((x.time : Int) ≤ t)).getD s.fus.nominal
  let b := (h.reverse.find? fun x => decide (t ≤ (x.time : Int))).getD s.fus.nominal
  (a, b)

/-- The nominal state at an instant of the fast grid. -/
def State.nominalAt (s : State) (t : Nat) : Nominal := (s.fus.history.find? fun x => x.time == t).getD s.fus.nominal

/-- Two states interpolated at the part `fr` of the way: position, velocity and rate by component, attitude by its rotation
vector. -/
def lerpState (a b : Nominal) (fr : Nat) : Nominal :=
  let mix (x y : List Nat) : List Nat := (List.range 3).map fun i => dotN [(fsub one fr, nth x i), (fr, nth y i)]
  let ca := cnb a.att
  { a with
    pos := mix a.pos b.pos, vel := mix a.vel b.vel, rate := mix a.rate b.rate
    att := attOf (mulMM ca (rotExp (v3scale fr (rotVec (mulMM (transp ca) (cnb b.att)))))) }

/-- The nominal state at a measurement time. -/
def State.nominalOn (s : State) (t : Int) : Nominal :=
  let b := s.bracket t
  if b.1.time < b.2.time ∧ (b.1.time : Int) ≤ t ∧ t ≤ (b.2.time : Int) then
    lerpState b.1 b.2 (ffrac (t - (b.1.time : Int)) (b.2.time - b.1.time))
  else b.1

/-- The body-to-earth rotation of a state. -/
def Nominal.cnb (x : Nominal) : List (List Nat) := Machine.cnb x.att

/-- The levelled rotation of a state, without its heading: Ry(θ) · Rx(φ). -/
def Nominal.level (x : Nominal) : List (List Nat) := mulMM (rotY (nth x.att 2)) (rotX (nth x.att 1))

/-- A nominal state as codes. -/
def Nominal.codes (x : Nominal) : List Nat := x.pos ++ x.vel ++ x.att ++ x.rate

/-! ### Rows -/

/-- A row from its non-zero columns, elements numbered from 1 as R129 numbers them, innovation and σ. -/
def rowOf (cols : List (Nat × Nat)) (innov sigma : Nat) : List Nat :=
  ((List.range 48).map fun i => ((cols.find? fun c => c.1 == i + 1).map (·.2)).getD 0) ++ [innov, sigma]

/-- The columns of a position direction `g` of a row referred to t_n, `dt` s after the measurement: the position error at
t_m is that at t_n less the velocity error times dt (R117). -/
def posCols (g : List Nat) (dt : Nat) : List (Nat × Nat) :=
  (List.range 3).flatMap fun i => [(1 + i, nth g i), (4 + i, fneg (fmul dt (nth g i)))]

/-- Unit vector along an axis. -/
def axis (i : Nat) : List Nat := (List.range 3).map fun j => if j = i then one else 0

/-- The open partial derivatives of row `k` of a measurement by the error elements `els`. -/
def openCols (r e : List Byte) (x : Nominal) (k : Nat) (els : List Nat) : List (Nat × Nat) :=
  els.map fun el => (el, (Config.rowPartial r e x.codes k el).toNat)

/-- The attitude error elements. -/
def attEls : List Nat := [7, 8, 9]

/-- Seconds from a measurement time to t_n. -/
def State.sinceMeas (s : State) (t : Int) : Nat := ffrac ((s.cdr.t0 : Int) - t) 1000000000

/-- Element `k` of R129 as estimated, from 10 on. -/
def State.elem (s : State) (k : Nat) : Nat := nth s.fus.bias (k - 10)

/-- The first elements of the N, E offsets in a position measurement of an entry: a receiver's fix offset, and that of a
relative reference (R129). -/
def offsetEls (ty : Nat) (e : List Byte) : List Nat :=
  (if ty = 2 then [34 + 2 * entRx e] else []) ++ (if entryRel e && decide (fieldLe e 3 1 ≤ 1) then [45 + 2 * fieldLe e 3 1] else [])

/-- The rows of a CO position N, E (and D) measured at `t`, with the producer's standard deviations. -/
def State.posRows (s : State) (ty : Nat) (r e : List Byte) (x : Nominal) (t : Int) (co sig : List Nat) : List (List Nat) :=
  let ofs := offsetEls ty e
  (List.range sig.length).map fun i =>
    let els := if i < 2 then ofs.map (· + i) else []
    let pred := dotN ((one, nth x.pos i) :: els.map fun k => (one, s.elem k))
    rowOf (posCols (axis i) (s.sinceMeas t) ++ openCols r e x i attEls ++ els.map fun k => (k, one)) (fsub (nth co i) pred)
      (entSigma e (nth sig i))

/-- The CO position of a sensor position (R125): less C_nb · LEVER. -/
def coOf (e : List Byte) (x : Nominal) (p : List Nat) : List Nat := v3sub p (mulMV x.cnb (entLever e))

/-- The producer's standard deviation of a position row whose record gives it in other units: an open value of what the
record gives. -/
def axisSigma (xs : List Nat) : Nat := (Config.axisSigma xs).toNat

/-- The antenna, earth-fixed: CO + C_nb · LEVER (R125). -/
def State.antenna (s : State) (e : List Byte) (x : Nominal) : List Nat :=
  ecefFrom s.datum (v3add x.pos (mulMV x.cnb (entLever e)))

/-- The line of sight to satellite entry `k` of a raw record: unit vector N, E, D, and distance (R112). -/
def State.sight (s : State) (r e : List Byte) (x : Nominal) (k : Nat) : List Nat × Nat :=
  let d := v3sub ((List.range 3).map fun i => fieldLe r (24 + 64 * k + 24 + 8 * i) 8) (s.antenna e x)
  let n := vnorm d
  (mulMV (nedAxes (datumLlh s.datum)) (v3scale (fdiv one n) d), n)

/-- Elevation of a satellite, rad, over the horizontal plane at the datum, whose N, E, D axes the earth frame has (DESIGN
CHOICE, log entry 7: R129 does not say at which point the horizon is taken). -/
def State.satElev (s : State) (r e : List Byte) (x : Nominal) (k : Nat) : Nat :=
  let u := (s.sight r e x k).1
  fatan2 (fneg (nth u 2)) (hypot (nth u 0) (nth u 1))

/-- The row of satellite entry `k`: pseudorange, or range rate (R112, R125, R129).  A range rate u · (v_sat − v_ant) depends
on the position through the line of sight u, by u (u · v) − v over the distance, v the relative velocity; both kinds of row
are referred to t_n (R117). -/
def State.satRow (s : State) (r e : List Byte) (x : Nominal) (t : Int) (k : Nat) (range : Bool) : List Nat :=
  let o := 24 + 64 * k
  let rx := entRx e
  let u := s.sight r e x k
  let g := (List.range 3).map fun i => fneg (nth u.1 i)
  let att := openCols r e x (2 * k + b2n (!range)) attEls
  if range then
    let map := fdiv one (nth g 2)
    let pred := dotN [(one, u.2), (one, s.elem (22 + 2 * rx)), (map, s.elem (30 + rx))]
    rowOf (posCols g (s.sinceMeas t) ++ att ++ [(22 + 2 * rx, one), (30 + rx, map)]) (fsub (fieldLe r (o + 8) 8) pred)
      (entSigma e (f32At r (o + 4)))
  else
    let ant := v3add x.vel (mulMV x.cnb (v3cross x.rate (entLever e)))
    let sat := mulMV (nedAxes (datumLlh s.datum)) (f32sAt r (o + 48) 3)
    let rel := v3sub sat ant
    let pred := dotN [(one, vdot u.1 rel), (one, s.elem (23 + 2 * rx))]
    let across := v3sub (v3scale (vdot u.1 rel) u.1) rel
    let h := v3scale (fdiv one u.2) across
    let dt := s.sinceMeas t
    rowOf (((List.range 3).map fun i => (1 + i, nth h i)) ++
        ((List.range 3).map fun i => (4 + i, fsub (nth g i) (fmul dt (nth h i)))) ++ att ++ [(23 + 2 * rx, one)])
      (fsub (f32At r (o + 16)) pred) (entSigma e (f32At r (o + 20)))

/-- The direction of a wire or riser whose angles in the sensor's x–z and y–z planes are `ax` and `ay`, levelled by roll and
pitch: its slopes forward and to starboard (R136, R146). -/
def levelSlopes (e : List Byte) (x : Nominal) (ax ay : Nat) : Nat × Nat :=
  let d := mulMV x.level (mulMV (entMount e) [ftan ax, ftan ay, one])
  (fdiv (nth d 0) (nth d 2), fdiv (nth d 1) (nth d 2))

/-- The anchor of a taut wire from its head, levelled: forward, starboard and down (R136). -/
def tautVector (r e : List Byte) (x : Nominal) : List Nat :=
  let p0 := entParam e 0
  let m := levelSlopes e x (f32At r 16) (f32At r 20)
  [fmul p0 m.1, fmul p0 m.2, p0]

/-- The length a taut wire should show: √(P0² + x² + y²) (R136). -/
def tautLength (r e : List Byte) (x : Nominal) : Nat := vnorm (tautVector r e x)

/-- The head of a taut wire relative to its anchor, N, E, D. -/
def tautHead (r e : List Byte) (x : Nominal) : List Nat :=
  (mulMV (rotZ (nth x.att 0)) (tautVector r e x)).map fneg

/-- The attitude of a sensor whose MOUNT is that of the entry. -/
def sensorAtt (e : List Byte) (x : Nominal) : List Nat := attOf (mulMM x.cnb (entMount e))

/-- The yaw of MOUNT (R140). -/
def mountYaw (e : List Byte) : Nat := let m := entMount e; fatan2 (mAt m 1 0) (mAt m 0 0)

/-- The rows of a record but a raw one and an optical scan (R113, R125, R129, R140, R141). -/
def State.plainRows (s : State) (r : List Byte) : List (List Nat) :=
  let t := s.measTime r
  let e := s.entry (recSource r)
  let x := s.nominalOn t
  let ty := recType r
  match ty with
  | 0x02 =>
    let p := nedOf s.datum (ecefOf [fieldLe r 16 8, fieldLe r 24 8, f32At r 32])
    s.posRows ty r e x t (coOf e x p) (f32sAt r 36 3)
  | 0x04 =>
    let sg := axisSigma [entParam e 0, f32At r 28]
    s.posRows ty r e x t (coOf e x (tautHead r e x)) [sg, sg]
  | 0x05 =>
    [rowOf (openCols r e x 0 attEls) (angleDiff (fsub (f32At r 16) (mountYaw e)) (nth x.att 0)) (entSigma e (f32At r 24))]
  | 0x06 =>
    let a := sensorAtt e x
    (List.range 2).map fun i =>
      rowOf (openCols r e x i attEls) (angleDiff (f32At r (16 + 4 * i)) (nth a (1 + i))) (entSigma e (f32At r 32))
  | 0x0A => s.posRows ty r e x t (coOf e x [fieldLe r 16 8, fieldLe r 24 8, nth x.pos 2]) (f32sAt r 32 2)
  | _ => []

/-! ### Optical returns (R143, R144) -/

/-- An optical return in the sensor frame: (r cos e cos b, r cos e sin b, −r sin e). -/
def returnVector (raw : List Word) : List Nat :=
  let f (i : Nat) : Nat := f32to64 ((raw[i]?).getD 0).toNat
  let h := fmul (f 0) (fcos (f 2))
  [fmul h (fcos (f 1)), fmul h (fsin (f 1)), fneg (fmul (f 0) (fsin (f 2)))]

/-- A return from CO, N, E, D: through MOUNT, LEVER and the attitude. -/
def returnArm (raw : List Word) (e : List Byte) (x : Nominal) : List Nat :=
  mulMV x.cnb (v3add (entLever e) (mulMV (entMount e) (returnVector raw)))

/-- The earth-frame point of a return (R143). -/
def returnPoint (raw : List Word) (e : List Byte) (x : Nominal) : List Nat := v3add x.pos (returnArm raw e x)

/-- The rows of a return assigned to a bound track, through the stored history at its own time (R144). -/
def State.returnRows (s : State) (refl : Nat) (o : OptReturn) : List (List Nat) :=
  let e := s.entry o.slot
  let x := s.nominalOn o.time
  let co := v3sub (f32sAt (s.reflector refl) 4 3) (returnArm o.raw e x)
  let sg := axisSigma ([f32to64 o.sig.1.toNat, f32to64 o.sig.2.toNat] ++ returnVector o.raw)
  s.posRows 3 (o.raw.flatMap fun w => leBytes 4 w.toNat) e x o.time co [sg, sg]

/-- Horizontal distance of an earth-frame point from a reflector, allowing for the relative offset (R145). -/
def State.reflDistance (s : State) (slot : Nat) (p : Nat × Nat) (refl : Nat) : Nat :=
  let q := f32sAt (s.reflector refl) 4 2
  let ofs (i : Nat) : Nat := dotN ((offsetEls 3 (s.entry slot)).map fun k => (one, s.elem (k + i)))
  hypot (fsub (fadd p.1 (ofs 0)) (nth q 0)) (fsub (fadd p.2 (ofs 1)) (nth q 1))

/-! ### Inertial increments (R128) -/

/-- The part of an increment's interval that lies in (from, to]. -/
def Inc.share (i : Inc) (from' to' : Nat) : Nat :=
  let a := Nat.max i.start from'
  let b := if i.stop ≤ to' then i.stop else to'
  if i.start < i.stop ∧ a < b then ffrac ((b - a : Nat) : Int) (i.stop - i.start) else 0

/-- The angle and velocity increments of a unit over the cycle that ends at t_n, in the body frame; an increment whose
interval spans an end of the cycle counts in proportion to time. -/
def State.cycleIncs (s : State) (slot : Nat) : List Nat :=
  let mine := s.fus.incs.filter fun i => i.slot == slot
  let sum (off : Nat) : List Nat := (List.range 3).map fun j =>
    dotN (mine.map fun i => (i.share (s.cdr.t0 - s.tbase) s.cdr.t0, f32At i.data (off + 4 * j)))
  let m := entMount (s.entry slot)
  mulMV m (sum 16) ++ mulMV m (sum 28)

/-- The six standby rows (R128): the standby unit's increments less those of the propagating unit, against the difference
of their biases over the cycle. -/
def State.standbyRows (s : State) (prop other : Nat) : List (List Nat) :=
  let a := s.cycleIncs prop
  let b := s.cycleIncs other
  let t := ffrac (s.tbase : Nat) 1000000000
  (List.range 6).map fun i =>
    let pred := fmul t (fsub (s.elem (16 + i)) (s.elem (10 + i)))
    rowOf [(10 + i, fneg t), (16 + i, t)] (fsub (fsub (nth b i) (nth a i)) pred) (entSigma (s.entry other) 0)

/-! ### What does not enter the error state (R141, R142, R146) -/

/-- Heave and heave rate of an MRU at CO: the motion that the lever arm's rotation adds is removed (R141). -/
def heaveAtCo (r e : List Byte) (x : Nominal) : Nat × Nat :=
  let l := entLever e
  (fsub (f32At r 24) (fsub (nth (mulMV x.cnb l) 2) (nth l 2)),
    fsub (f32At r 28) (nth (mulMV x.cnb (v3cross x.rate l)) 2))

/-- A wind record as a vector in the body frame, toward where the wind blows from (R142). -/
def windVector (r e : List Byte) : Nat × Nat :=
  let v := mulMV (entMount e) [fmul (f32At r 16) (fcos (f32At r 20)), fmul (f32At r 16) (fsin (f32At r 20)), 0]
  (nth v 0, nth v 1)

/-- Riser upper N, E and lower N, E: the upper angles levelled, both pairs turned to the earth frame (R146). -/
def riserEarth (r e : List Byte) (x : Nominal) : List Nat :=
  let m := levelSlopes e x (f32At r 16) (f32At r 20)
  let low := mulMV (entMount e) [f32At r 24, f32At r 28, 0]
  let turn (v : List Nat) : List Nat := (mulMV (rotZ (nth x.att 0)) v).take 2
  turn [fatan2 m.1 one, fatan2 m.2 one, 0] ++ turn low

/-- Body-frame velocity u, v of a state (R150). -/
def bodyVelocity (x : Nominal) : Nat × Nat := let v := mulMV (transp x.cnb) x.vel; (nth v 0, nth v 1)

end Sys2Proof.Machine
end

