-- ==== Sys2Proof/Machine/Solve.lean ====
section
/-! DEFINITION. The job types of the Orrery (04_orrery_solver.md, R155 to R164, R167, R172 to R187): structures,
delta records, run times, and what each job computes.  Sums of products and factorisations are the open functions of
Config (log entry 5); every single operation is IEEE 754 binary64 (R186). -/

namespace Sys2Proof.Machine

/-! ### Numbers -/

/-- Are all elements finite? -/
def allFinite (xs : List Nat) : Bool := xs.all ffin

/-- The greatest absolute value. -/
def maxAbs (xs : List Nat) : Nat := xs.foldl (fun a x => fmax a (fabs x)) 0

/-- Vectors as bytes, little-endian. -/
def f64Bytes (xs : List Nat) : List Byte := xs.flatMap (leBytes 8)

/-- `n` binary64 values from a byte on. -/
def f64sAt (bs : List Byte) (off n : Nat) : List Nat :=
  (List.range n).map fun i => leNat ((bs.drop (off + 8 * i)).take 8)

/-- `n` 16-bit values from a byte on. -/
def u16sAt (bs : List Byte) (off n : Nat) : List Nat :=
  (List.range n).map fun i => leNat ((bs.drop (off + 2 * i)).take 2)

/-- A NaN. -/
def isNan (a : Nat) : Bool := match fmt64.read a with | .nan => true | _ => false

/-! ### Structures (R155 to R158) -/

/-- An array of a structure, by its code. -/
def Struct.a (st : Struct) (k : Nat) : List Nat := st.arr.getD k []

/-- The footprint before rounding (R156). -/
def footprintRaw (ty n m nnzA nnzP : Nat) : Nat :=
  match ty with
  | 1 => 64 + 10 * (nnzA + nnzP) + 4 * (n + 1) + 8 * n * (n + 1) + 16 * n + 32 * m
  | 2 => 64 + 8 * n * (n + 3) + 8 * m * (n + 2) + 8 * n * n + 8 * n + 24 * m
  | 3 => 64 + 1024 * n + 1024 + 4 * n
  | _ => 64 + 256 + 8 * (3 * ((m + nnzA - 1) / nnzA) + 16)

/-- The footprint, rounded up to a multiple of 64 bytes. -/
def footprint (ty n m nnzA nnzP : Nat) : Nat := (footprintRaw ty n m nnzA nnzP + 63) / 64 * 64

/-- The limits of R156, and a TYPE that R157 allows. -/
def limitsOk (ty n m nnzA nnzP : Nat) : Bool :=
  match ty with
  | 1 => decide (1 ≤ n ∧ n ≤ 160 ∧ 1 ≤ m ∧ m ≤ 512 ∧ nnzA ≤ 4096 ∧ nnzP ≤ 2048)
  | 2 => decide (1 ≤ n ∧ n ≤ 64 ∧ 1 ≤ m ∧ m ≤ 256)
  | 3 => decide (1 ≤ n ∧ n ≤ 64 ∧ m = 128)
  | 4 => decide (n = 6 ∧ 1 ≤ m ∧ m ≤ 4096 ∧ 1 ≤ nnzA ∧ nnzA ≤ 255)
  | _ => false

/-- The lengths of the arrays a structure holds, by code. -/
def arrayLens (ty n m nnzA nnzP : Nat) : List Nat :=
  match ty with
  | 1 => [n, m, m, 0, nnzP, nnzA, n, m, m]
  | 4 => [6, 3, 9, 9, 3, 1]
  | _ => []

/-- The shape block of a structure image (R158). -/
def shapeBlock (img : List Byte) (ty n m nnzA nnzP : Nat) : List Byte :=
  let off := Config.imageOffset ty n m nnzA nnzP
  let part (k len : Nat) : List Byte := (img.drop (off k)).take (2 * len)
  let hdr := (img.drop 4).take 1 ++ (img.drop 8).take 24
  if ty = 1 then hdr ++ part 16 (n + 1) ++ part 17 nnzP ++ part 18 (n + 1) ++ part 19 nnzA else hdr

/-- The checks of R155 on a structure: limits, TYPE, SIZE, and the RHO and SIGMA of a QP-ADMM structure. -/
def structOk (ty n m nnzA nnzP size rho sigma : Nat) : Bool :=
  let pos (x : Nat) : Bool := ffin x && flt 0 x
  limitsOk ty n m nnzA nnzP && decide (size = footprint ty n m nnzA nnzP) && (ty != 1 || (pos rho && pos sigma))

/-- A structure read from its image (R157); none where R155 refuses it. -/
def readStruct (img : List Byte) : Option Struct :=
  let u (off k : Nat) : Nat := leNat ((img.drop off).take k)
  let ty := u 4 1
  let n := u 8 2
  let m := u 10 2
  let nnzA := u 12 2
  let nnzP := u 14 2
  let rho := u 16 8
  let sigma := u 24 8
  if structOk ty n m nnzA nnzP (u 44 4) rho sigma then
    let off := Config.imageOffset ty n m nnzA nnzP
    let lens := arrayLens ty n m nnzA nnzP
    some { ty := ty, state := 1, n := n, m := m, nnzA := nnzA, nnzP := nnzP, rho := rho, sigma := sigma,
           size := footprint ty n m nnzA nnzP, sid := crc32c (shapeBlock img ty n m nnzA nnzP), warmId := u 40 4,
           cycFactor := u 32 8, cycSolution := u 48 8,
           pPtr := u16sAt img (off 16) (n + 1), pIdx := u16sAt img (off 17) nnzP,
           aPtr := u16sAt img (off 18) (n + 1), aIdx := u16sAt img (off 19) nnzA,
           arr := if ty = 2 then [codes (Config.imageFactor n m img)]
                  else (List.range lens.length).map fun k => f64sAt img (off k) (nth lens k),
           factor := [], held := [], fresh := true }
  else none

/-! ### Delta records (R160 to R164) -/

/-- A delta record from its 16 bytes. -/
def readDelta (bs : List Byte) : Delta := ⟨leNat ((bs.drop 7).take 1) / 16, leNat (bs.take 2), leNat ((bs.drop 8).take 8)⟩

/-- `n` delta records from a byte on. -/
def readDeltas (bs : List Byte) (n : Nat) : List Delta := (List.range n).map fun i => readDelta ((bs.drop (16 * i)).take 16)

/-- The number of elements an ARRAY code names, none where it is invalid (R161). -/
def arrayLen (st : Struct) (k : Nat) : Option Nat :=
  match st.ty, k with
  | 1, 0 => some st.n
  | 1, 1 => some st.m
  | 1, 2 => some st.m
  | 1, 3 => some st.m
  | 1, 4 => some st.nnzP
  | 1, 5 => some st.nnzA
  | 1, 6 => some st.n
  | 1, 7 => some st.m
  | 4, 0 => some 6
  | 4, 1 => some 3
  | 4, 2 => some 9
  | 4, 3 => some 9
  | 4, 4 => some 3
  | 4, 5 => some 1
  | _, _ => none

/-- May a record hold an infinite VALUE: l or u (R162)? -/
def mayBeInf (ty k : Nat) : Bool := ty == 1 && (k == 1 || k == 2 || k == 3)

/-- Does a record pass the check of R162? -/
def deltaOk (st : Struct) (d : Delta) : Bool :=
  match arrayLen st d.array with
  | none => false
  | some len => decide (d.index < len) && !isNan d.value && (ffin d.value || mayBeInf st.ty d.array)

/-- Apply a record to the arrays. -/
def applyDelta (ty : Nat) (arr : List (List Nat)) (d : Delta) : List (List Nat) :=
  if ty = 1 ∧ d.array = 3 then
    modAt (modAt arr 1 (fun v => setAt v d.index d.value)) 2 (fun v => setAt v d.index d.value)
  else modAt arr d.array fun v => setAt v d.index d.value

/-- Is a record held aside: P or A of a QP-ADMM structure (R164)? -/
def Delta.heldAside (ty : Nat) (d : Delta) : Bool := ty == 1 && (d.array == 4 || d.array == 5)

/-- Does a record overwrite warm data: ARRAY 6 or 7 of a QP-ADMM structure (R181)? -/
def Delta.warm (ty : Nat) (d : Delta) : Bool := ty == 1 && (d.array == 6 || d.array == 7)

/-- The structure with the records that take effect at once applied, in list order. -/
def Struct.applyNow (st : Struct) (ds : List Delta) : Struct :=
  { st with arr := (ds.filter fun d => !d.heldAside st.ty && !d.warm st.ty).foldl (applyDelta st.ty) st.arr }

/-- Is refactorisation due (R163)? -/
def Struct.refactorDue (st : Struct) (ds : List Delta) (ctrl : Nat) : Bool :=
  st.ty == 1 && (ds.any (·.heldAside st.ty) || bitAt ctrl 2 || st.state == 2 || st.fresh)

/-! ### Run times (R179) -/

/-- ⌈a ÷ b⌉. -/
def ceilDiv (a b : Nat) : Nat := (a + b - 1) / b

/-- C_iter. -/
def Struct.cIter (st : Struct) : Nat :=
  ceilDiv (st.n * st.n) 4 + 12 * st.n + ceilDiv st.nnzA 2 + 3 * st.m + 2 * st.n + 200

/-- C_fac. -/
def Struct.cFac (st : Struct) : Nat := ceilDiv (st.n ^ 3) 12 + 8 * (st.nnzA + st.nnzP) + 20 * st.n

/-- C_res. -/
def Struct.cRes (st : Struct) : Nat := ceilDiv (st.nnzA + st.nnzP) 2 + 2 * (st.n + st.m)

/-- KF A(k). -/
def Struct.kfA (st : Struct) (k : Nat) : Nat := ceilDiv ((k + 1) * st.n * (st.n + 3)) 3 + 147 * st.n

/-- KF C_prop. -/
def Struct.cProp (st : Struct) : Nat := ceilDiv (st.n ^ 3) 6 + st.kfA st.n

/-- PRED of a job on its structure; `chained` for a SIM in a chain. -/
def predOf (st : Struct) (d : JobDesc) (ds : List Delta) (chained : Bool) : Nat :=
  let dn := ds.length
  match d.ty with
  | 1 => 400 + 4 * dn + (if st.refactorDue ds d.ctrl then st.cFac else 0) + d.countA * st.cIter + st.cRes + 64 + st.n
  | 2 =>
    let s := st.n
    let r := st.m
    if bitAt d.ctrl 4 then
      if bitAt d.ctrl 5 then 400 + st.kfA r + s * (s + 3) / 2
      else 400 + st.kfA r + s * (s + 3) + st.kfA s + 4 * (ceilDiv (s * (s + 1)) 8 + 8) + st.cProp + s + s * (s + 1) / 2
    else 400 + r * (ceilDiv (s * (s + 1)) 8 + 12) + 3 * r + 48 + (if bitAt d.ctrl 3 then st.cProp else 0)
  | 3 => 400 + 128 * st.n + d.countA * d.countB * (64 * st.n + 128) + 64 + 2 * st.n
  | 4 => (if chained then 100 else 400 + 4 * dn) + st.m * 358 + 64 + 3 * ceilDiv st.m st.nnzA
  | 14 => 464 + st.size / 8
  | _ => 100

/-! ### What a job leaves -/

/-- STATUS and the rest of a result, and the structure afterwards. -/
structure JobOut where
  /-- STATUS of R169. -/
  status : Nat
  /-- FLAGS of R170. -/
  flags : Nat
  /-- DONE_COUNT. -/
  count : Nat
  /-- RES_PRI. -/
  resPri : Nat
  /-- RES_DUA. -/
  resDua : Nat
  /-- OBJ. -/
  obj : Nat
  /-- Payload. -/
  payload : List Byte
  /-- AUX. -/
  aux : Nat
  /-- The structure afterwards. -/
  st : Struct
  deriving DecidableEq, Repr

/-- DONE. -/
def stDone : Nat := 0x00
/-- DEADLINE_ITER. -/
def stDlIter : Nat := 0x01
/-- DEADLINE_FACTOR. -/
def stDlFactor : Nat := 0x02
/-- NOT_STARTED. -/
def stNotStarted : Nat := 0x03
/-- NUMERIC. -/
def stNumeric : Nat := 0x04
/-- STRUCT_MISMATCH. -/
def stMismatch : Nat := 0x05
/-- DELTA_ERROR. -/
def stDeltaError : Nat := 0x06
/-- BAD_DESCRIPTOR. -/
def stBadDesc : Nat := 0x07
/-- QUEUE_FULL. -/
def stQueueFull : Nat := 0x08
/-- NO_SPACE. -/
def stNoSpace : Nat := 0x09
/-- ABORTED. -/
def stAborted : Nat := 0x0A
/-- CHAIN_SKIPPED. -/
def stChainSkipped : Nat := 0x0B

/-- FLAGS bits of R170 as a number. -/
def flagBits (warmRej refac kept proj fpend prop unres : Bool) : Nat :=
  b2n warmRej + 2 * b2n refac + 4 * b2n kept + 8 * b2n proj + 16 * b2n fpend + 32 * b2n prop + 64 * b2n unres

/-! ### QP-ADMM (R172, R173, R183, R187) -/

/-- The entries (row, column, value) of a matrix in compressed sparse column form. -/
def cscEntries (n : Nat) (ptr idx vals : List Nat) : List (Nat × Nat × Nat) :=
  (List.range n).flatMap fun j =>
    (List.range (nth ptr (j + 1) - nth ptr j)).map fun k => (nth idx (nth ptr j + k), j, nth vals (nth ptr j + k))

/-- The entries of A. -/
def Struct.aEnt (st : Struct) : List (Nat × Nat × Nat) := cscEntries st.n st.aPtr st.aIdx (st.a 5)

/-- The entries of P, both triangles. -/
def Struct.pEnt (st : Struct) : List (Nat × Nat × Nat) :=
  let up := cscEntries st.n st.pPtr st.pIdx (st.a 4)
  up ++ (up.filter fun e => e.1 != e.2.1).map fun e => (e.2.1, e.1, e.2.2)

/-- The products of row i of a matrix with a vector. -/
def rowProds (ents : List (Nat × Nat × Nat)) (x : List Nat) (i : Nat) : List (Nat × Nat) :=
  (ents.filter fun e => e.1 == i).map fun e => (e.2.2, nth x e.2.1)

/-- The products of column j of a matrix with a vector. -/
def colProds (ents : List (Nat × Nat × Nat)) (y : List Nat) (j : Nat) : List (Nat × Nat) :=
  (ents.filter fun e => e.2.1 == j).map fun e => (e.2.2, nth y e.1)

/-- An iterate. -/
structure QpIter where
  /-- x. -/
  x : List Nat
  /-- z. -/
  z : List Nat
  /-- y. -/
  y : List Nat
  deriving DecidableEq, Repr

/-- The rows of K = P + σ I + ρ AᵀA. -/
def Struct.kMatrix (st : Struct) : List (List Nat) :=
  let ae := st.aEnt
  let pe := st.pEnt
  (List.range st.n).map fun i => (List.range st.n).map fun j =>
    let p := (pe.filter fun e => e.1 == i && e.2.1 == j).map fun e => (one, e.2.2)
    let aa := (ae.filter fun e => e.2.1 == i).flatMap fun e =>
      (ae.filter fun f => f.2.1 == j && f.1 == e.1).map fun f => (e.2.2, f.2.2)
    laneDot (p ++ (if i = j then [(st.sigma, one)] else []) ++ [(st.rho, laneDot aa)])

/-- The rows of the factor L: row `i` has i + 1 elements. -/
def Struct.lRows (st : Struct) : List (List Nat) :=
  (List.range st.n).map fun i => (st.factor.drop (i * (i + 1) / 2)).take (i + 1)

/-- The solution of L Lᵀ x = b (R172). -/
def Struct.lSolve (st : Struct) (b : List Nat) : List Nat :=
  upperSolve laneDot (transpose st.n st.lRows) (lowerSolve laneDot st.lRows b)

/-- α = 1.6. -/
def qpAlpha : Nat := ffrac 16 10

/-- One iteration of R172. -/
def Struct.qpStep (st : Struct) (it : QpIter) : QpIter :=
  let ae := st.aEnt
  let l := st.a 1
  let u := st.a 2
  let beta := fsub one qpAlpha
  let t := (List.range st.m).map fun i => laneDot [(st.rho, nth it.z i), (negOne, nth it.y i)]
  let rhs := (List.range st.n).map fun j =>
    laneDot ((st.sigma, nth it.x j) :: (negOne, nth (st.a 0) j) :: colProds ae t j)
  let xt := st.lSolve rhs
  let zt := (List.range st.m).map fun i => laneDot (rowProds ae xt i)
  let x := (List.range st.n).map fun j => laneDot [(qpAlpha, nth xt j), (beta, nth it.x j)]
  let zr := (List.range st.m).map fun i => laneDot [(qpAlpha, nth zt i), (beta, nth it.z i)]
  let z := (List.range st.m).map fun i => fclamp (nth l i) (nth u i) (fadd (nth zr i) (fdiv (nth it.y i) st.rho))
  let y := (List.range st.m).map fun i => laneDot [(one, nth it.y i), (st.rho, fsub (nth zr i) (nth z i))]
  ⟨x, z, y⟩

/-- Up to `k` iterations from `it`: the last finite iterate, how many completed, and whether one was not finite. -/
def Struct.qpRun (st : Struct) : Nat → Nat → QpIter → QpIter × Nat × Bool
  | 0, c, it => (it, c, false)
  | k + 1, c, it =>
    let nx := st.qpStep it
    if allFinite nx.x && allFinite nx.z && allFinite nx.y then st.qpRun k (c + 1) nx else (it, c, true)

/-- The bounds a box row puts on variable j: (l ÷ a, u ÷ a), exchanged when a < 0 (R173). -/
def Struct.boxBounds (st : Struct) (j : Nat) : List (Nat × Nat) :=
  let ae := st.aEnt.filter fun e => fabs e.2.2 != 0
  (List.range st.m).filterMap fun i =>
    match ae.filter (fun e => e.1 == i) with
    | [e] => if e.2.1 = j then
        let b := (fdiv (nth (st.a 1) i) e.2.2, fdiv (nth (st.a 2) i) e.2.2)
        some (if flt e.2.2 0 then (b.2, b.1) else b)
      else none
    | _ => none

/-- The box clip of a vector (R173). -/
def Struct.boxClip (st : Struct) (x : List Nat) : List Nat :=
  (List.range st.n).map fun j =>
    (st.boxBounds j).foldl (fun v b => fmin (fmax v b.1) b.2) (nth x j)

/-- The stored solution, or 0. -/
def Struct.stored (st : Struct) : List Nat := if st.warmId = 0 then List.replicate st.n 0 else st.a 6

/-- The payload of a result that keeps the stored solution: its box clip. -/
def Struct.projected (st : Struct) : List Byte := f64Bytes (st.boxClip st.stored)

/-- The cold start: x = 0, z = clip(0, l, u), y = 0. -/
def Struct.coldStart (st : Struct) : QpIter :=
  ⟨List.replicate st.n 0, (List.range st.m).map fun i => fclamp (nth (st.a 1) i) (nth (st.a 2) i) 0, List.replicate st.m 0⟩

/-- The warm data of a job: that of the structure, or the block at AUX_ADDR, with the identity that produced it (R181). -/
def Struct.warmData (st : Struct) (d : JobDesc) (aux : List Byte) : Nat × QpIter :=
  if d.warmSrc = 0 then (st.warmId, ⟨st.a 6, st.a 8, st.a 7⟩)
  else (leNat (aux.take 4), ⟨f64sAt aux 16 st.n, f64sAt aux (16 + 8 * st.n) st.m, f64sAt aux (16 + 8 * (st.n + st.m)) st.m⟩)

/-- The start of the iterations, and whether a warm start was refused (R181). -/
def Struct.qpStart (st : Struct) (d : JobDesc) (ds : List Delta) (aux : List Byte) : QpIter × Bool :=
  if !bitAt d.ctrl 0 then (st.coldStart, false)
  else
    let w := st.warmData d aux
    if w.1 = st.sid ∧ w.1 ≠ 0 then
      let put (k : Nat) (v : List Nat) := (ds.filter fun r => r.array == k).foldl (fun v r => setAt v r.index r.value) v
      (⟨put 6 w.2.x, w.2.z, put 7 w.2.y⟩, false)
    else (st.coldStart, true)

/-- Residuals and objective of an iterate. -/
def Struct.qpPri (st : Struct) (it : QpIter) : Nat :=
  maxAbs ((List.range st.m).map fun i => laneDot (rowProds st.aEnt it.x i ++ [(negOne, nth it.z i)]))

/-- max |P x + q + Aᵀ y|. -/
def Struct.qpDua (st : Struct) (it : QpIter) : Nat :=
  maxAbs ((List.range st.n).map fun j =>
    laneDot (rowProds st.pEnt it.x j ++ [(one, nth (st.a 0) j)] ++ colProds st.aEnt it.y j))

/-- ½ xᵀP x + qᵀx. -/
def Struct.qpObj (st : Struct) (it : QpIter) : Nat :=
  laneDot ((List.range st.n).flatMap fun j =>
    [(fmul (ffrac 1 2) (nth it.x j), laneDot (rowProds st.pEnt it.x j)), (nth (st.a 0) j, nth it.x j)])

/-- The structure with an iterate stored as warm data (R182). -/
def Struct.keepWarm (st : Struct) (it : QpIter) (cyc : Nat) : Struct :=
  { st with arr := setAt (setAt (setAt st.arr 6 it.x) 8 it.z) 7 it.y, warmId := st.sid, cycSolution := cyc }

/-- Where a deadline found a job: iterations, rounds, steps or rows completed, and whether a due refactorisation or
propagation was complete. -/
structure StopAt where
  /-- Completed counts. -/
  done : Nat
  /-- The refactorisation, the propagation of pass 1, or the absorption of pass 2 was complete. -/
  factored : Bool
  deriving DecidableEq, Repr

/-- The iterations of a QP-ADMM job with its factor in use (R172, R183, R187); `refac`, `fpend`: flags so far. -/
def Struct.qpIterate (st : Struct) (d : JobDesc) (ds : List Delta) (aux : List Byte) (cyc : Nat) (stop : Option StopAt)
    (refac fpend : Bool) : JobOut :=
  let s0 := st.qpStart d ds aux
  let k := match stop with | none => d.countA | some p => if p.done < d.countA then p.done else d.countA
  if stop.isSome ∧ k = 0 then
    ⟨stDlFactor, flagBits s0.2 refac false true fpend false false, 0, 0, 0, 0, st.projected, 0, st⟩
  else
    let r := st.qpRun k 0 s0.1
    if r.2.2 then
      let none' := decide (r.2.1 = 0)
      ⟨stNumeric, flagBits s0.2 refac false none' fpend false false, r.2.1, if none' then 0 else st.qpPri r.1,
        if none' then 0 else st.qpDua r.1, if none' then 0 else st.qpObj r.1,
        if none' then st.projected else f64Bytes r.1.x, 0, st⟩
    else
      ⟨if stop.isSome then stDlIter else stDone, flagBits s0.2 refac false false fpend false false, r.2.1,
        st.qpPri r.1, st.qpDua r.1, st.qpObj r.1, f64Bytes r.1.x, 0, st.keepWarm r.1 cyc⟩

/-- A QP-ADMM job. -/
def Struct.runQp (st : Struct) (d : JobDesc) (ds : List Delta) (aux : List Byte) (cyc : Nat) (stop : Option StopAt) : JobOut :=
  let fpend := !st.held.isEmpty
  let s1 := st.applyNow ds
  if !st.refactorDue ds d.ctrl then s1.qpIterate d ds aux cyc stop false fpend
  else
    let held := st.held ++ ds.filter (·.heldAside st.ty)
    let keep : Struct := { s1 with held := held, state := 2, fresh := false }
    let lost (status : Nat) : JobOut :=
      ⟨status, flagBits false false true true fpend false false, 0, 0, 0, 0, s1.projected, 0, keep⟩
    let early := match stop with | some p => !p.factored | none => false
    if early then lost stDlFactor
    else
      let s2 : Struct := { s1 with arr := held.foldl (applyDelta st.ty) s1.arr }
      match cholesky laneDot st.n s2.kMatrix with
      | none => lost stNumeric
      | some f =>
        let s3 : Struct := { s2 with factor := f.flatten, held := [], state := 1, fresh := false, cycFactor := cyc }
        s3.qpIterate d ds aux cyc stop true fpend

/-! ### KF-QR (R174 to R176, R183, R185, R187) -/

/-- The rows of an input block: s + 2 values each. -/
def kfRows (aux : List Byte) (s r : Nat) : List (List Nat) :=
  (List.range r).map fun i => f64sAt aux (8 * (s + 2) * i) (s + 2)

/-- The row mask of an input block. -/
def kfMask (aux : List Byte) (s r : Nat) : List Bool :=
  ((aux.drop (8 * (s + 2) * r)).take r).map (· == 1)

/-- Φ⁻¹ of an input block, row by row. -/
def kfPhi (aux : List Byte) (s r : Nat) : List Nat := f64sAt aux (8 * (s + 2) * r + r) (s * s)

/-- The noise variances of an input block. -/
def kfNoise (aux : List Byte) (s r : Nat) : List Nat := f64sAt aux (8 * (s + 2) * r + r + 8 * s * s) s

/-- Is every diagonal element of an s × s factor finite and not zero? -/
def diagOk (s : Nat) (u : List Nat) : Bool :=
  (List.range s).all fun i => ffin (nth u (s * i + i)) && fabs (nth u (s * i + i)) != 0

/-- The s × s block and the last column of a triangularised block of s rows and s + 1 columns. -/
def splitTri (s : Nat) (t : List (List Nat)) : List Nat × List Nat := (t.flatMap fun r => slice r 0 s, t.map fun r => nth r s)

/-- Propagation of a factor (R175). -/
def kfPropagate (s : Nat) (u phi q : List Nat) : List Nat :=
  let a := (List.range s).map fun i => (List.range s).map fun j =>
    laneDot ((List.range s).map fun k => (nth u (s * i + k), nth phi (s * k + j)))
  let g := (List.range s).filter fun k => flt 0 (nth q k)
  let top := g.map fun k =>
    (g.map fun k' => if k = k' then fdiv one (fsqrt (nth q k)) else 0) ++ List.replicate (s + 1) 0
  let low := a.map fun row => (g.map fun k => fneg (nth row k)) ++ row ++ [0]
  let w := g.length + s + 1
  let t := triangularise w (top ++ low)
  (t.drop g.length).flatMap fun r => slice r g.length s

/-- Innovation, variance and ν of a row of pass 1 against the factor `u` (R174). -/
def kfRowOut (s : Nat) (u row : List Nat) : List Nat :=
  let e := nth row s
  let sg := nth row (s + 1)
  let w := lowerSolve laneDot (transpose s (matRows s u)) (row.take s)
  let v := laneDot ((w.map fun x => (x, x)) ++ [(sg, sg)])
  [e, v, fdiv e (fsqrt v)]

/-- KF-QR pass 1 (R174).  A row that is not finite ends it NUMERIC with the rows before it completed, also where the
deadline came later (R180).  A propagation that was complete when the deadline came stays; one that ends NUMERIC leaves
the resident factor as it was (R183, R184, R187). -/
def Struct.runKf1 (st : Struct) (d : JobDesc) (aux : List Byte) (cyc : Nat) (stop : Option StopAt) : JobOut :=
  let s := st.n
  let prop := bitAt d.ctrl 3 && (match stop with | none => true | some p => p.factored)
  let u0 := st.a 0
  let u := if prop then kfPropagate s u0 (kfPhi aux s st.m) (kfNoise aux s st.m) else u0
  let k := match stop with | none => st.m | some p => if bitAt d.ctrl 3 && !p.factored then 0 else satN st.m p.done
  let out := ((kfRows aux s st.m).take k).map (kfRowOut s u)
  let good := (out.takeWhile fun o => ffin (nth o 0) && ffin (nth o 1)).length
  let kept : Struct := { st with fresh := false }
  if prop && !diagOk s u then ⟨stNumeric, 0, 0, 0, 0, 0, [], 0, kept⟩
  else if good < k then ⟨stNumeric, 0, good, 0, 0, 0, [], good, kept⟩
  else
    let fl := flagBits false false false false false prop false
    let st1 : Struct := if prop then { kept with arr := setAt st.arr 0 u, cycFactor := cyc } else kept
    if stop.isSome then ⟨stDlFactor, fl, k, 0, 0, 0, [], k, st1⟩
    else ⟨stDone, fl, k, (Config.kfResidual s (kfRows aux s st.m) u).toNat, 0, 0, f64Bytes out.flatten, k, st1⟩

/-- The rows of pass 2: scaled by 1 ÷ σ, masked rows zero, innovation last. -/
def kfScaled (aux : List Byte) (s r : Nat) : List (List Nat) :=
  ((kfRows aux s r).zip (kfMask aux s r)).map fun p =>
    if p.2 then (p.1.take (s + 1)).map fun x => fmul x (fdiv one (nth p.1 (s + 1))) else List.replicate (s + 1) 0

/-- The partner's block, row by row (R175). -/
def kfBlock (aux : List Byte) (s r : Nat) : List Nat := (triangularise (s + 1) (kfScaled aux s r)).flatten

/-- Is every diagonal element of a partner's block finite and not zero?  The partner absorbs its own rows from a zero factor, and a
column whose Householder norm is zero is a failed pivot (R175, R187). -/
def blockOk (s : Nat) (block : List Nat) : Bool :=
  (List.range s).all fun i => ffin (nth block ((s + 1) * i + i)) && fabs (nth block ((s + 1) * i + i)) != 0

/-- KF-QR pass 2, partner: the block goes to the main engine (R175, R187). -/
def Struct.runKf2p (st : Struct) (aux : List Byte) : JobOut :=
  let s := st.n
  if !blockOk s (kfBlock aux s st.m) then ⟨stNumeric, flagBits false false true false false false false, st.m, 0, 0, 0, [], 0, st⟩
  else ⟨stDone, 0, st.m, (Config.kfResidual s (kfScaled aux s st.m) []).toNat, 0, 0, [], 0, st⟩

/-- Iterations, rounds, steps or rows that a job has completed `e` CK_SOLVE cycles after its start, by the terms of R179; `chained`
for a SIM in a chain, whose records went before it. -/
def Struct.doneAt (st : Struct) (d : JobDesc) (ds : List Delta) (e : Nat) (chained : Bool) : Nat :=
  let setup := 400 + 4 * ds.length + (if st.refactorDue ds d.ctrl then st.cFac else 0)
  match d.ty with
  | 1 => satN d.countA ((e - setup) / st.cIter)
  | 2 =>
    if bitAt d.ctrl 4 then (List.range (st.m + 1)).foldl (fun k i => if 400 + st.kfA i ≤ e then i else k) 0
    else satN st.m ((e - 400 - (if bitAt d.ctrl 3 then st.cProp else 0)) / (ceilDiv (st.n * (st.n + 1)) 8 + 12))
  | 3 => satN (d.countA * d.countB) ((e - 400 - 128 * st.n) / (64 * st.n + 128))
  | 4 => satN st.m ((e - (if chained then 100 else 400 + 4 * ds.length)) / 358)
  | _ => 0

/-- CK_SOLVE cycles from the grant of a pass 2 pair until the main job has read the partner's block (R179, R185): setup, the
absorption of its own rows, and s (s + 3) for the block written and read. -/
def Struct.blockRead (st : Struct) : Nat := 400 + st.kfA st.m + st.n * (st.n + 3)

/-- The result of a main pass 2 that ends before completing: FACTOR_KEPT, and every row of its own absorbed. -/
def Struct.kf2End (st : Struct) (status : Nat) : JobOut :=
  ⟨status, flagBits false false true false false false false, st.m, 0, 0, 0, [], 0, st⟩

/-- What the main job of a pass 2 has after its own rows (R175). -/
def Struct.absorbed (st : Struct) (aux : List Byte) : List (List Nat) :=
  triangularise (st.n + 1) ((matRows st.n (st.a 0)).map (· ++ [0]) ++ kfScaled aux st.n st.m)

/-- KF-QR pass 2, main, with the partner's block (R175). -/
def Struct.runKf2 (st : Struct) (d : JobDesc) (aux : List Byte) (block : List Nat) (cyc : Nat) : JobOut :=
  let s := st.n
  let t1 := st.absorbed aux
  let t2 := triangularise (s + 1) (t1 ++ (List.range s).map fun i => slice block ((s + 1) * i) (s + 1))
  let uz := splitTri s t2
  let up := kfPropagate s uz.1 (kfPhi aux s st.m) (kfNoise aux s st.m)
  if !diagOk s (splitTri s t1).1 || !diagOk s uz.1 || !diagOk s up then st.kf2End stNumeric
  else
    let corr := upperSolve laneDot (matRows s uz.1) uz.2
    let sig := [bitsOf d.link 7 0, bitsOf d.link 15 8, bitsOf d.link 23 16].map fun k =>
      let v := upperSolve laneDot (matRows s uz.1) ((List.range s).map fun i => if i = k then one else 0)
      fsqrt (laneDot (v.zip v))
    ⟨stDone, flagBits false false false false false true false, st.m,
      (Config.kfResidual s (kfScaled aux s st.m) (st.a 0)).toNat, 0, 0, f64Bytes (corr ++ sig), 0,
      { st with arr := setAt st.arr 0 up, cycFactor := cyc, fresh := false }⟩

/-! ### LAP (R177, R183, R187) -/

/-- An auction: prices, and the column each row holds. -/
structure Auction where
  /-- Prices of the 128 columns. -/
  price : List Nat
  /-- The column each row holds. -/
  col : List (Option Nat)
  deriving DecidableEq, Repr

/-- A row's bid: the column of least value (lowest on equal), and the increment. -/
def lapBid (cost price : List Nat) (eps : Nat) : Nat × Nat :=
  let v := (List.range 128).map fun j => fadd (nth cost j) (nth price j)
  let j1 := (List.range 128).foldl (fun b j => if flt (nth v j) (nth v b) then j else b) 0
  let j2 := (List.range 128).foldl (fun b j => if j = j1 then b else if b = j1 ∨ flt (nth v j) (nth v b) then j else b) j1
  (j1, fadd (fsub (nth v j2) (nth v j1)) eps)

/-- One round of the auction. -/
def lapRound (cost : List (List Nat)) (eps : Nat) (s : Auction) : Auction :=
  let bids := (List.range cost.length).filterMap fun i =>
    match s.col.getD i none with
    | some _ => none
    | none => some (i, lapBid (cost.getD i []) s.price eps)
  (List.range 128).foldl (fun a j =>
    match bids.filter (fun b => b.2.1 == j) with
    | [] => a
    | b :: bs =>
      let w := bs.foldl (fun w c => if flt w.2.2 c.2.2 then c else w) b
      let freed := a.col.map fun c => if c = some j then none else c
      ⟨setAt a.price j (fadd (nth a.price j) w.2.2), setAt freed w.1 (some j)⟩) s

/-- `k` rounds from round `r` on, `per` rounds a phase: the auction after the last round with finite prices, how many
completed, and whether a price was not finite. -/
def lapRun (cost : List (List Nat)) (eps0 per : Nat) : Nat → Nat → Auction → Auction × Nat × Bool
  | 0, r, s => (s, r, false)
  | k + 1, r, s =>
    let e := r / per
    let s0 : Auction := if r % per = 0 ∧ 0 < e then { s with col := s.col.map fun _ => none } else s
    let nx := lapRound cost (fdiv eps0 (fint (4 ^ e))) s0
    if allFinite nx.price then lapRun cost eps0 per k (r + 1) nx else (s, r, true)

/-- Free rows take column 64 + i where that is free (R177). -/
def lapResolve (s : Auction) : List (Option Nat) :=
  (List.range s.col.length).foldl (fun c i =>
    match c.getD i none with
    | some _ => c
    | none => if c.contains (some (64 + i)) then c else setAt c i (some (64 + i))) s.col

/-- A LAP job. -/
def Struct.runLap (st : Struct) (d : JobDesc) (aux : List Byte) (stop : Option StopAt) : JobOut :=
  let cost := (List.range st.n).map fun i => f64sAt aux (1024 * i) 128
  let total := d.countA * d.countB
  let k := match stop with | none => total | some p => satN total p.done
  let r := lapRun cost d.param0 d.countB k 0 ⟨List.replicate 128 0, List.replicate st.n none⟩
  let res := lapResolve r.1
  let unres := (res.filter (·.isNone)).length
  let pairs := (List.range st.n).filterMap fun i => (res.getD i none).map fun j => (one, nth (cost.getD i []) j)
  let status := if r.2.2 then stNumeric else if stop.isSome then stDlIter else stDone
  ⟨status, flagBits false false false false false false (decide (0 < unres)), r.2.1, 0, 0, laneDot pairs,
    res.flatMap fun c => leBytes 2 (c.getD 0xFFFF), unres, { st with fresh := false }⟩

/-! ### SIM (R178, R167, R183, R187) -/

/-- A run in progress: state, steps taken, MAX_EXC, MAX_DPSI, T_EXCEED, and the trajectory recorded. -/
structure SimRun where
  /-- N, E, ψ, u, v, r. -/
  x : List Nat
  /-- Steps taken. -/
  k : Nat
  /-- MAX_EXC. -/
  exc : Nat
  /-- MAX_DPSI. -/
  dpsi : Nat
  /-- T_EXCEED. -/
  tex : Nat
  /-- Recorded N, E, ψ. -/
  traj : List Nat
  deriving DecidableEq, Repr

/-- One step of a SIM job; none where the state is not finite. -/
def Struct.simNext (st : Struct) (force : List Nat) (h : Nat) (r : SimRun) : Option SimRun :=
  let x := simStep laneDot (st.a 2) (st.a 3) (st.a 4) force h r.x
  if !allFinite x then none
  else
    let x0 := st.a 0
    let k := r.k + 1
    let off := [fsub (nth x 0) (nth x0 0), fsub (nth x 1) (nth x0 1)]
    let dist := fsqrt (laneDot (off.zip off))
    let dp := fabs (angleDiff (nth x 2) (nth x0 2))
    let exc := fmax r.exc dist
    let tex := if r.tex = fint (-1) ∧ flt (nth (st.a 5) 0) exc then fmul (fint k) h else r.tex
    some ⟨x, k, exc, fmax r.dpsi dp, tex, if k % st.nnzA = 0 then r.traj ++ x.take 3 else r.traj⟩

/-- Up to `k` steps; whether one was not finite. -/
def Struct.simLoop (st : Struct) (force : List Nat) (h : Nat) : Nat → SimRun → SimRun × Bool
  | 0, r => (r, false)
  | k + 1, r =>
    match st.simNext force h r with
    | none => (r, true)
    | some r' => st.simLoop force h k r'

/-- A SIM job; `force`: what a chained SIM takes from its QP, to which its own ARRAY 0x1 records are added (R167). -/
def Struct.runSim (st : Struct) (d : JobDesc) (ds : List Delta) (force : Option (List Nat)) (stop : Option StopAt) : JobOut :=
  let s1 := { st.applyNow ds with fresh := false }
  let tau := match force with
    | none => s1.a 1
    | some f => (List.range 3).map fun i =>
        (ds.filter fun r => r.array == 1 && r.index == i).foldl (fun _ r => fadd (nth f i) r.value) (nth f i)
  let k := match stop with | none => st.m | some p => satN st.m p.done
  let r := s1.simLoop tau d.param0 k ⟨s1.a 0, 0, 0, 0, fint (-1), []⟩
  let status := if r.2 then stNumeric else if stop.isSome then stDlIter else stDone
  ⟨status, 0, r.1.k, 0, 0, 0, f64Bytes ([r.1.exc, r.1.dpsi, r.1.tex] ++ r.1.x ++ r.1.traj), 0, s1⟩

/-- The force a chained SIM takes from its QP's solution: (A·x) on rows BAL_ROW to BAL_ROW + 2, the columns SLACK_COL to
SLACK_COL + 2 left out (R167). -/
def Struct.chainForce (st : Struct) (x : List Nat) (link : Nat) : List Nat :=
  let row := bitsOf link 15 0
  let slack := bitsOf link 31 16
  let ents := st.aEnt.filter fun e => !(decide (slack ≤ e.2.1) && decide (e.2.1 ≤ slack + 2))
  (List.range 3).map fun i => laneDot (rowProds ents x (row + i))

end Sys2Proof.Machine
end

