-- ==== Sys2Proof/Machine/Orrery.lean ====
section
/-! DEFINITION. The Orrery's ports, plan and engines (04_orrery_solver.md): posting, release, grant, deadline and
result of jobs, and the resident structures.  Results are put in `ory.done`; what their consumers do with them is in
Jobs. -/

namespace Sys2Proof.Machine

/-- Change the Orrery. -/
def State.modOry (s : State) (f : Orrery → Orrery) : State := { s with ory := f s.ory }

/-- A register of a lane of an engine (R152): binary64, 0 before the first job. -/
def State.laneReg (s : State) (eng lane r : Nat) : BitVec 64 :=
  match s.ory.work.find? (·.1 == eng) with
  | some w => Config.laneReg w.2 lane r
  | none => 0

/-- A byte of the 16 KiB scratch area of an engine (R152): 0 before the first job. -/
def State.scratch (s : State) (eng at' : Nat) : Byte :=
  match s.ory.work.find? (·.1 == eng) with
  | some w => Config.scratch w.2 at'
  | none => 0

/-- Source unit number of the Orrery (R489). -/
def srcOry : Nat := 0x40

/-! ### Instants of the cycle (R51) -/

/-- T_fast in ns. -/
def State.fastNs (s : State) : Nat := 500000 * 2 ^ s.fld F.CDR_PERIOD_FAST

/-- A boundary's offset from the sample instant, ns: its field holds units of 10 µs. -/
def State.ofs (s : State) (f : Fld) : Nat := s.fld f * 10000

/-- Device time of a boundary of the cycle in progress. -/
def State.at (s : State) (f : Fld) : Nat := s.cdr.t0 + s.ofs f

/-- Device time of the sample instant of the cycle that CYC_LO names, nearest the cycle in progress. -/
def State.cycleStart (s : State) (cycLo : Nat) : Nat :=
  ((s.cdr.t0 : Int) + sgn 32 (code 32 ((cycLo : Int) - (s.cdr.cyc : Int))) * (s.tbase : Int)).toNat

/-- The 64-bit CYC that CYC_LO names, nearest the cycle in progress. -/
def State.cycOf (s : State) (cycLo : Nat) : Nat := ((s.cdr.cyc : Int) + sgn 32 (code 32 ((cycLo : Int) - (s.cdr.cyc : Int)))).toNat

/-- The first fast tick after an instant. -/
def State.nextTick (s : State) (t : Nat) : Nat :=
  let f := s.fastNs
  s.cdr.t0 + ((t - s.cdr.t0) / f + 1) * f

/-- The next fast tick, taken in the cycle that starts at `t0` (R165). -/
def State.tickIn (s : State) (t0 : Nat) : Nat :=
  let f := s.fastNs
  let t := Nat.max s.now t0
  t0 + ((satN (s.tbase - 1) (t - t0)) / f + 1) * f

/-- The deadline that a DL_SEL code selects in the cycle that starts at `t0` (R165). -/
def State.dlInstant (s : State) (sel ofs t0 : Nat) : Nat :=
  match sel with
  | 0 => t0 + s.ofs F.CDR_OFS_A_FUSION_DL
  | 1 => t0 + s.ofs F.CDR_OFS_B_SOLVE_DL
  | 2 => s.tickIn t0
  | _ => t0 + ofs

/-! ### The plan (R190 to R192) -/

/-- An entry of the job plan. -/
structure PlanEntry where
  /-- ROLE. -/
  role : Nat
  /-- INDEX. -/
  index : Nat
  /-- ENGINE. -/
  eng : Nat
  /-- SHARED. -/
  shared : Bool
  /-- FAST. -/
  fast : Bool
  /-- RELEASE. -/
  release : Nat
  /-- DEADLINE. -/
  dl : Nat
  /-- DL_OFS. -/
  dlOfs : Nat
  deriving DecidableEq, Repr

/-- An unused entry. -/
def PlanEntry.none : PlanEntry := ⟨0, 0, 0, false, false, 0, 0, 0⟩

/-- The staged plan window. -/
def planStage : Nat := 0x71000

/-- The active plan window. -/
def planAct : Nat := 0x71800

/-- N_ENTRIES of a plan window. -/
def State.planCount (s : State) (win : Nat) : Nat := bitsOf (s.rdn (win + 8)) 15 0

/-- Entry `i` of the active plan. -/
def State.planEntry (s : State) (i : Nat) : PlanEntry :=
  if i < s.planCount planAct ∧ i < 127 then
    let b := planAct + 16 + 16 * i
    let w0 := s.rdn b
    let w1 := s.rdn (b + 4)
    ⟨bitsOf w0 7 0, bitsOf w0 15 8, bitsOf w0 23 16 % 64, bitAt w0 24, bitAt w0 25, bitsOf w1 15 0, bitsOf w1 23 16, s.rdn (b + 8)⟩
  else .none

/-- The entries of the active plan, with their slots. -/
def State.plan (s : State) : List (Nat × PlanEntry) :=
  (List.range (satN 127 (s.planCount planAct))).map fun i => (i, s.planEntry i)

/-- Is it a plan entry of role fusion, primary, scenario or assignment? -/
def PlanEntry.reserved (p : PlanEntry) : Bool := decide (1 ≤ p.role ∧ p.role ≤ 4)

/-- The fields of a staged entry in range (R191). -/
def planEntryOk (bs : List Byte) : Bool :=
  let u (off k : Nat) : Nat := leNat ((bs.drop off).take k)
  let role := u 0 1
  let index := u 1 1
  let fast := bitAt (u 3 1) 1
  decide (role ≤ 6) && decide (index ≤ (if role = 1 then 1 else if role = 3 then 62 else 0)) && decide (u 2 1 ≤ 63) &&
    decide (u 3 1 < 4) && !(fast && decide (0xFFFE ≤ u 4 2)) && decide (u 6 1 ≤ 3) && decide (u 7 1 = 0) && decide (u 12 4 = 0)

/-- Does a plan pass the check of R191? -/
def planOk (bs : List Byte) : Bool :=
  let u (off k : Nat) : Nat := leNat ((bs.drop off).take k)
  let n := u 8 2
  let es := (List.range n).map fun i => (bs.drop (16 + 16 * i)).take 16
  let ri := es.map fun e => (leNat (e.take 1), leNat ((e.drop 1).take 1), leNat ((e.drop 2).take 1))
  let fusion := ri.filter (·.1 == 1)
  let once (p : Nat × Nat × Nat) : Bool := decide ((ri.filter fun q => q.1 == p.1 && q.2.1 == p.2.1).length ≤ 1)
  (bs.take 4 == ([0x4F, 0x50, 0x4C, 0x4E] : List Byte)) && decide (1 ≤ n ∧ n ≤ 127) && decide (u 10 2 = 0) &&
    decide (u 12 4 = crc32c (bs.take 12 ++ (bs.drop 16).take (16 * n))) && es.all planEntryOk &&
    (ri.filter fun p => decide (1 ≤ p.1 ∧ p.1 ≤ 4)).all once &&
    (match fusion with | [a, b] => a.2.2 / 16 == b.2.2 / 16 | _ => true) &&
    (ri.filter fun p => p.1 == 1 || p.1 == 2).all fun p => decide (p.2.2 < 16)

/-- Make a plan active. -/
def State.setPlan (s : State) (bs : List Byte) : State :=
  (s.wrWords planAct (wordsOf 512 (bs ++ List.replicate (2048 - bs.length) 0))).wrn Reg.ORY_PLAN_ID (leNat ((bs.drop 4).take 4))

/-- One entry as bytes. -/
def planEntryBytes (role index eng flags release dl dlOfs : Nat) : List Byte :=
  leBytes 1 role ++ leBytes 1 index ++ leBytes 1 eng ++ leBytes 1 flags ++ leBytes 2 release ++ leBytes 1 dl ++ leBytes 1 0 ++
    leBytes 4 dlOfs ++ leBytes 4 0

/-- The default plan (R192); its check word is that of R190. -/
def defaultPlan : List Byte :=
  let es := planEntryBytes 2 0 0 1 0xFFFF 1 0 ++ planEntryBytes 1 0 1 0 0xFFFE 0 0 ++ planEntryBytes 1 1 2 0 0xFFFE 0 0 ++
    planEntryBytes 4 0 1 0 0xFFFF 1 0 ++
    ((List.range 62).flatMap fun k => planEntryBytes 3 k (k + 2) 0 0xFFFF 1 0) ++ planEntryBytes 3 62 63 0 0xFFFF 1 0 ++
    planEntryBytes 5 0 0 1 0xFFFF 3 0 ++ planEntryBytes 6 0 0 1 0xFFFF 3 0
  let h : List Byte := [0x4F, 0x50, 0x4C, 0x4E] ++ leBytes 4 0 ++ leBytes 2 69 ++ leBytes 2 0
  h ++ leBytes 4 (crc32c (h ++ es)) ++ es

/-- The staged plan is checked and becomes active, or is rejected (R191); a host's PLAN_COMMIT does the same in station role, where R154
gives the plan no entries (DESIGN CHOICE, log entry 36). -/
def State.planCheck (s : State) : State :=
  if !s.ory.commit then s
  else if s.ory.commitLate then s.modOry fun o => { o with commitLate := false }
  else
    let bs := s.winBytes planStage 512
    let a := (s.modOry fun o => { o with commit := false }).setTo F.ORY_CTRL_PLAN_COMMIT false
    (if planOk bs then a.setPlan bs else a.setTo F.ORY_STATUS_PLAN_REJECT true).raise 69 sevNotice srcOry

/-- PLAN_COMMIT. -/
def State.planCommit (s : State) : State :=
  (s.modOry fun o => { o with commit := true, commitLate := s.commitTie o.commit o.commitLate }).setTo F.ORY_CTRL_PLAN_COMMIT true

def execPlanCommit (_req : Req) (s : State) : Host.Outcome State Fault Refusal := s.reach Reg.ORY_CTRL <| .next s.planCommit

/-! ### Structures (R155, R159, R193) -/

/-- The key of a structure slot. -/
def ssKey (eng ss : Nat) : Nat := 4 * eng + ss

/-- The structure in a slot. -/
def State.struct? (s : State) (eng ss : Nat) : Option Struct :=
  (s.ory.structs.find? fun e => e.1 == ssKey eng ss).map (·.2)

/-- Put a structure into a slot, or empty the slot; ORY_SLOT_ID shows the identity. -/
def State.setStruct (s : State) (eng ss : Nat) (st : Option Struct) : State :=
  let k := ssKey eng ss
  let rest := s.ory.structs.filter fun e => e.1 != k
  let a := s.modOry fun o => { o with structs := match st with | none => rest | some x => rest ++ [(k, x)] }
  a.wrn (blockOff Reg.ORY_SLOT_ID (4 * k)) (match st with | some x => if x.state = 3 then 0 else x.sid | none => 0)

/-- Bytes of the structure area that the other slots of an engine take. -/
def State.areaUsed (s : State) (eng ss : Nat) : Nat :=
  ((s.ory.structs.filter fun e => e.1 / 4 == eng && e.1 != ssKey eng ss).map (·.2.size)).sum

/-- Is a quadrant powered and ready? -/
def State.quadOn (s : State) (q : Nat) : Bool := bitAt (s.fld F.ORY_STATUS_Q_ON) q

/-- A double-bit ECC error in a structure (R159). -/
def State.structLost (s : State) (eng ss : Nat) : State :=
  match s.struct? eng ss with
  | none => s
  | some st =>
    let a := s.setStruct eng ss (some { st with state := 3 })
    ((a.setTo F.ORY_STATUS_STRUCT_LOST true).put F.ORY_ECC_LAST_ENGINE eng).raise1 68 sevAlarm srcOry (ssKey eng ss)

def execStructEccLost (eng : Fin 64) (ss : Fin 4) (s : State) : Host.Outcome State Fault Refusal :=
  s.rooted <| .next (s.structLost eng.val ss.val)

/-! ### What the registers show -/

/-- Queue entries a job takes: one for each descriptor, so a chained pair takes two, of which its plan entry reserves one (R153, R154;
DESIGN CHOICE, log entry 36). -/
def Job.entries (j : Job) : Nat := if j.chain.isSome then 2 else 1

/-- Queue entries taken in a quadrant's port. -/
def State.qLevel (s : State) (q : Nat) : Nat := ((s.ory.queue.filter fun j => j.d.eng / 16 == q).map (·.entries)).sum

/-- Show ENG_BUSY, QLEVEL and RUN. -/
def State.showOry (s : State) : State :=
  let busy := s.ory.runs.foldl (fun b r => putBit b r.eng true) 0
  let a := (s.wrn Reg.ORY_ENG_BUSY_LO busy).wrn Reg.ORY_ENG_BUSY_HI (busy / 2 ^ 32)
  let b := a.wrn Reg.ORY_QLEVEL (a.qLevel 0 + 2 ^ 8 * a.qLevel 1 + 2 ^ 16 * a.qLevel 2 + 2 ^ 24 * a.qLevel 3)
  b.setTo F.ORY_STATUS_RUN (b.on F.ORY_CTRL_ENABLE && decide (b.fld F.ORY_STATUS_Q_ON ≠ 0))

/-! ### Results (R168 to R171, R194) -/

/-- SEQ of the next result of a plan slot, and the count after it. -/
def State.takeSeq (s : State) (slot : Nat) : Nat × State :=
  let n := (((s.ory.seqs.find? fun e => e.1 == slot).map (·.2)).getD 0 + 1) % 2 ^ 32
  (n, s.modOry fun o => { o with seqs := (o.seqs.filter fun e => e.1 != slot) ++ [(slot, n)] })

/-- The 64-byte header of a result and its payload (R168). -/
def JobRes.bytes (d : JobDesc) (r : JobRes) : List Byte :=
  leBytes 4 d.tag ++ leBytes 1 r.status ++ leBytes 1 r.flags ++ leBytes 2 r.count ++ leBytes 4 d.cycLo ++ leBytes 4 r.sid ++
    leBytes 4 r.grantOfs ++ leBytes 4 r.pred ++ leBytes 8 r.resPri ++ leBytes 8 r.resDua ++ leBytes 8 r.obj ++
    leBytes 4 r.payload.length ++ leBytes 4 r.aux ++ leBytes 4 0 ++ leBytes 4 r.seq ++ r.payload

/-- Is it a job of a plan entry of a unit: fusion, primary, scenario or assignment? -/
def Job.planJob (j : Job) : Bool := decide (j.cls < 8)

/-- Count a result, and raise the events of R194. -/
def State.countResult (s : State) (j : Job) (status flags : Nat) : State :=
  let p := j.planJob
  let a := if status = stDlIter then ((s.bump F.ORY_CNT_DL_ITER 1).setTo F.ORY_STATUS_DL_ITER true).raiseIf p 71 sevInfo srcOry j.d.slot
    else if status = stDlFactor then ((s.bump F.ORY_CNT_DL_FACTOR 1).setTo F.ORY_STATUS_DL_FACTOR true).raiseIf p 64 sevWarn srcOry j.d.slot
    else if status = stNotStarted then ((s.bump F.ORY_CNT_DL_NOT_STARTED 1).setTo F.ORY_STATUS_NOT_STARTED true).raiseIf p 65 sevWarn srcOry j.d.slot
    else if status = stNumeric then ((s.bump F.ORY_CNT_EXC_NUMERIC 1).setTo F.ORY_STATUS_NUM_EXC true).raise1 66 sevWarn srcOry j.d.slot
    else if status = stAborted then s.bump F.ORY_CNT_EXC_ABORTED 1
    else if status = stQueueFull then s.setTo F.ORY_STATUS_QUEUE_FULL true
    else s
  if bitAt flags 0 then (a.bump F.ORY_CNT_EXC_WARM_REJ 1).raiseIf p 70 sevInfo srcOry j.d.slot else a

/-- Offset of a result in shared SRAM (R168): RESULT_ADDR as the application cluster gives it or the host interface rewrites it
(R474); for a unit of the device no rule gives the place (log entry 36). -/
def Job.resultAt (j : Job) (seq : Nat) : Nat :=
  (match j.src with
    | .app => j.d.resAddr
    | .host _ _ => j.d.resAddr
    | _ => Config.resultAddr j.d.slot seq) % 2 ^ 24

/-- Write a result: the consumer's copy, and the result at RESULT_ADDR in shared SRAM (R168). -/
def State.putResult (s : State) (j : Job) (r : JobRes) : State :=
  let q := s.takeSeq j.d.slot
  let r := { r with seq := q.1 }
  let a := q.2.countResult j r.status r.flags
  let b := a.modOry fun o => { o with done := o.done ++ [(j, r)] }
  { b with mem := { b.mem with sram := writeBytes ramByte b.mem.sram (j.resultAt r.seq) (r.bytes j.d) } }.showOry

/-- A result without a run: no payload. -/
def bareRes (status sid grantOfs pred : Nat) : JobRes := ⟨status, 0, 0, sid, grantOfs, pred, 0, 0, 0, [], 0, 0⟩

/-- The identity resident where a job points. -/
def State.residentId (s : State) (j : Job) : Nat :=
  match s.struct? j.d.eng j.d.ss with
  | some st => if st.state = 3 then 0 else st.sid
  | none => 0

/-- The chained SIM of a job as a job of its own. -/
def Job.simJob (j : Job) : Option Job := j.chain.map fun c => { j with d := c.d, src := c.src, chain := none, dl := c.dl }


/-! ### Posting (R154, R165 to R167) -/

/-- The role of R190 that a submitter's jobs have. -/
def JobSrc.role : JobSrc → Nat
  | .fusion _ => 1
  | .control => 2
  | .scenario _ => 3
  | .assign => 4
  | .app => 5
  | .host _ _ => 6

/-- The class of R36 of a role (R166). -/
def roleClass (role : Nat) : Nat := if role = 4 then 7 else if role = 2 then 5 else if role = 3 then 6 else if role = 1 then 4 else role + 3

/-- A descriptor from its 64 bytes (R165); `ty` is the job type of the command that posts it. -/
def readDesc (ty : Nat) (bs : List Byte) : JobDesc :=
  let u (off k : Nat) : Nat := leNat ((bs.drop off).take k)
  { ty := ty, ctrl := u 1 1, slot := u 2 1, eng := u 3 1 % 64, ss := u 3 1 / 64, sid := u 4 4, countA := u 8 2,
    countB := u 10 2, dlOfs := u 12 4, cycLo := u 16 4, deltaAddr := u 20 4, deltaCount := u 24 2, warmSrc := u 26 1,
    partner := u 27 1, resAddr := u 28 4, auxAddr := u 32 4, tag := u 36 4, param0 := u 40 8, param1 := u 48 8,
    link := u 56 4, rsv := u 60 4, deltas := none, aux := none, img := none }

/-- The counts of a descriptor in range, and its reserved fields 0 (R165, R166).  LINK of a chained QP, which R165 gives as 0 and R242
fills, is not looked at (DEDUCED, log entry 35). -/
def descOk (d : JobDesc) : Bool :=
  let counts := match d.ty with
    | 1 => decide (8 ≤ d.countA ∧ d.countA ≤ 256 ∧ d.countB = 0)
    | 3 => decide (1 ≤ d.countA ∧ d.countA ≤ 8 ∧ 1 ≤ d.countB ∧ d.countB ≤ 64)
    | _ => decide (d.countA = 0 ∧ d.countB = 0)
  let link := match d.ty with
    | 4 => true
    | 1 => bitAt d.ctrl 1 || decide (d.link = 0)
    | 2 => if bitAt d.ctrl 4 then decide (d.link < 2 ^ 24) else decide (d.link = 0)
    | _ => decide (d.link = 0)
  let known := d.ty == 1 || d.ty == 2 || d.ty == 3 || d.ty == 4 || d.ty == 14 || d.ty == 15
  known && counts && link && decide (d.deltaCount ≤ 4096) && decide (d.warmSrc ≤ 1) && decide (d.param1 = 0) && decide (d.rsv = 0)

/-- Is it a job of the application cluster or the host in station role, where the plan is empty and quadrant 0 serves it
(R154)? -/
def State.openJob (s : State) (role : Nat) (d : JobDesc) : Bool :=
  s.station && decide (5 ≤ role) && decide (d.eng < 16) && decide (d.slot < 127)

/-- A descriptor's SLOT names an entry of the role that binds its engine (R166).  In station role there is no entry to name:
any slot number does, which only counts SEQ, and the job has no release instant and no limit but its own (DESIGN CHOICE, log
entry 36). -/
def State.slotOk (s : State) (role : Nat) (d : JobDesc) : Bool :=
  let p := s.planEntry d.slot
  (p.role == role && p.eng == d.eng) || s.openJob role d

/-- CHAIN only on a QP-ADMM descriptor followed by a SIM for the same engine (R167). -/
def chainOk (d : JobDesc) (chain : Option JobDesc) : Bool :=
  match bitAt d.ctrl 1, chain with
  | false, none => true
  | true, some c => d.ty == 1 && c.ty == 4 && c.eng == d.eng && !bitAt c.ctrl 1
  | _, _ => false

/-- A job's deadline: the earlier of its own and its entry's (R190). -/
def State.jobDl (s : State) (d : JobDesc) : Nat :=
  let t0 := s.cycleStart d.cycLo
  let own := s.dlInstant (bitsOf d.ctrl 7 6) d.dlOfs t0
  let p := s.planEntry d.slot
  if p.role = 0 ∨ p.dl = 3 ∧ p.dlOfs = 0 then own else Nat.min own (s.dlInstant p.dl p.dlOfs t0)

/-- Queue entries of a quadrant's port that are not reserved for plan entries (R154). -/
def State.freeEntries (s : State) (q : Nat) : Nat :=
  48 - (s.plan.filter fun e => e.2.reserved && e.2.eng / 16 == q).length

/-- Entries that jobs of the application cluster and the host take. -/
def State.openLevel (s : State) (q : Nat) : Nat :=
  ((s.ory.queue.filter fun j => j.d.eng / 16 == q && decide (8 ≤ j.cls)).map (·.entries)).sum

/-- The delta list of a job (R160). -/
def State.jobDeltas (s : State) (d : JobDesc) : List Delta :=
  match d.deltas with
  | some l => l
  | none => readDeltas (readBytes ramByte s.mem.sram (d.deltaAddr % 2 ^ 24) (16 * d.deltaCount)) d.deltaCount

/-- Bytes of the block a job reads at AUX_ADDR. -/
def auxLen (st : Struct) (d : JobDesc) : Nat :=
  match d.ty with
  | 1 => if d.warmSrc = 1 then 16 + 8 * (st.n + 2 * st.m) else 0
  | 2 => 8 * (st.n + 2) * st.m + st.m + 8 * st.n * st.n + 8 * st.n
  | 3 => 1024 * st.n
  | _ => 0

/-- The block at AUX_ADDR. -/
def State.jobAux (s : State) (st : Struct) (d : JobDesc) : List Byte :=
  match d.aux with
  | some b => b
  | none => readBytes ramByte s.mem.sram (d.auxAddr % 2 ^ 24) (auxLen st d)

/-- The structure image of a LOAD: DDR address DELTA_ADDR × 64 (R165). -/
def State.loadImage (s : State) (d : JobDesc) : List Byte :=
  match d.aux with
  | some b => b
  | none =>
    let a := d.deltaAddr * 64
    let n := leNat (readBytes ramByte s.mem.ddr (a + 44) 4)
    readBytes ramByte s.mem.ddr a (satN 245760 n)

/-- The structure of a LOAD; none where R155 refuses it. -/
def State.loadStruct (s : State) (d : JobDesc) : Option Struct :=
  match d.img with
  | some st => if structOk st.ty st.n st.m st.nnzA st.nnzP st.size st.rho st.sigma then some st else none
  | none => readStruct (s.loadImage d)

/-- A structure for the run time of LOAD and FREE, which name none. -/
def noStruct : Struct := ⟨0, 0, 0, 0, 0, 0, 0, 0, 0, 0, 0, 0, 0, [], [], [], [], [], [], [], false⟩

/-- PRED of a descriptor from the structure as it stands in the slot it names, whether or not it is the one it asks for
(R180). -/
def State.descPred (s : State) (d : JobDesc) (chained : Bool) : Nat :=
  match d.ty with
  | 14 => predOf ((s.loadStruct d).getD noStruct) d [] false
  | 15 => predOf noStruct d [] false
  | _ => predOf ((s.struct? d.eng d.ss).getD noStruct) d (if chained then [] else s.jobDeltas d) chained

/-- A job's own PRED. -/
def State.jobPred (s : State) (j : Job) : Nat := s.descPred j.d false

/-- The length admission takes for a job: with its chained SIM (R167, R188). -/
def State.jobLen (s : State) (j : Job) : Nat :=
  s.jobPred j + (match j.chain with | none => 0 | some c => s.descPred c.d true)

/-- A job that does no work completes with a status, and its chained SIM is skipped, or ends with it (R171); the SIM's PRED is
that of its descriptor in the chain. -/
def State.endEarly (s : State) (j : Job) (status sim grantOfs pred : Nat) : State :=
  let a := s.putResult j (bareRes status (s.residentId j) grantOfs pred)
  match j.simJob with
  | none => a
  | some k => a.putResult k (bareRes sim (a.residentId k) grantOfs (a.descPred k.d true))

/-- Post a job (R154, R166, R167, R193).  A chained SIM whose own descriptor breaks R166 completes BAD_DESCRIPTOR, and the QP
runs alone. -/
def State.postPair (s : State) (src : JobSrc) (d : JobDesc) (chain : Option (JobSrc × JobDesc)) : State :=
  let role := src.role
  let simOk := match chain with | none => true | some c => descOk c.2 && s.slotOk role c.2
  let raw : Job := ⟨d, src, roleClass role, chain.map fun c => ⟨c.2, c.1, some (s.jobDl c.2)⟩, some (s.jobDl d), 0⟩
  let pair : Job := { raw with pred := s.jobPred raw }
  let j : Job := if simOk then pair else { pair with chain := none }
  let badSim (t : State) : State := match pair.simJob with
    | some k => if simOk then t else t.putResult k (bareRes stBadDesc (t.residentId k) 0 (t.descPred k.d true))
    | none => t
  if s.alm.frozen then s
  else if !s.on F.ORY_CTRL_ENABLE then s.endEarly pair stAborted stAborted 0 pair.pred
  else if !descOk d || !s.slotOk role d || !chainOk d (chain.map (·.2)) then s.endEarly pair stBadDesc stChainSkipped 0 pair.pred
  else if !s.quadOn (d.eng / 16) then badSim (s.endEarly j stAborted stAborted 0 j.pred)
  else if 8 ≤ j.cls ∧ s.freeEntries (d.eng / 16) < s.openLevel (d.eng / 16) + j.entries then
    badSim (s.endEarly j stQueueFull stQueueFull 0 j.pred)
  else badSim (s.modOry fun o => { o with queue := o.queue ++ [j] }).showOry

/-- Post a job, with a chained SIM of the same submitter. -/
def State.postJob (s : State) (src : JobSrc) (d : JobDesc) (chain : Option JobDesc) : State :=
  s.postPair src d (chain.map fun c => (src, c))

/-! ### Release (R189) -/

/-- The release instant of an entry in the cycle in progress. -/
def State.releaseAt (s : State) (p : PlanEntry) : Nat :=
  if p.fast then s.nextTick s.now - s.fastNs + p.release * 10000
  else if p.release = 0xFFFF then s.at F.CDR_OFS_A_FUSION_DL + s.ory.solveRel * 10000
  else if p.release = 0xFFFE then s.at F.CDR_OFS_A_INTAKE_CL
  else s.cdr.t0 + p.release * 10000

/-- A plan entry's release instant arrives. -/
def State.release (s : State) (slot : Nat) : State :=
  let p := s.planEntry slot
  if p.role = 0 then s
  else (s.runTo (s.releaseAt p)).modOry fun o => { o with released := (o.released.filter fun k => k != slot) ++ [slot] }

def execJobRelease (slot : Fin 127) (s : State) : Host.Outcome State Fault Refusal := s.rooted <| .next (s.release slot.val)

/-- Is a job released: its entry's release instant has arrived in its cycle? -/
def State.jobReleased (s : State) (j : Job) : Bool :=
  let age := sgn 32 (code 32 ((s.cdr.cyc : Int) - (j.d.cycLo : Int)))
  decide (0 < age) || (age == 0 && (s.ory.released.contains j.d.slot || s.openJob j.src.role j.d))

/-! ### Grant (R188, R189) -/

/-- The run of an engine. -/
def State.runOf (s : State) (eng : Nat) : Option Run := s.ory.runs.find? fun r => r.eng == eng

/-- The depth of the spread as it is applied, at most: while it ramps, the larger of the two (R533, R534). -/
def State.depthNow (s : State) : Nat := if s.pow.ramping then Nat.max s.pow.oldDepth s.pow.newDepth else s.pow.newDepth

/-- DEPTH in the bound of R534, units of 0.1 %: a change that waits counts from the write of CLK_SSC. -/
def State.depth (s : State) : Nat := if s.pow.sscPend then Nat.max s.depthNow s.pow.asked else s.depthNow

/-- The next release instants of an engine's entries of role fusion, primary, scenario and assignment, with SHARED. -/
def State.nextReleases (s : State) (eng : Nat) : List (Nat × Bool) :=
  (s.plan.filter fun e => e.2.reserved && e.2.eng == eng).map fun e =>
    let p := e.2
    let t := s.releaseAt p
    (if s.now < t then t else if p.fast then t + s.fastNs else t + s.tbase, p.shared)

/-- May a job of class 8 or 9 with run time `pred` be granted now (R188)? -/
def State.admits (s : State) (eng pred : Nat) : Bool :=
  match s.nextReleases eng with
  | [] => true
  | r :: rs =>
    let t := rs.foldl (fun a e => Nat.min a e.1) r.1
    let d := 1000 - s.depth
    ((r :: rs).filter fun e => e.1 == t).all (·.2) && decide (s.now * d + pred * 1000 < t * d)

/-- Is it a KF-QR pass 2 job? -/
def Job.pass2 (j : Job) : Bool := j.d.ty == 2 && bitAt j.d.ctrl 4

/-- Are two jobs the main and the partner of a pair? -/
def isPair (a b : Job) : Bool :=
  a.pass2 && b.pass2 && a.cls == b.cls && (bitAt a.d.ctrl 5 != bitAt b.d.ctrl 5) && a.d.cycLo == b.d.cycLo &&
    (if bitAt a.d.ctrl 5 then b.d.partner == a.d.eng else a.d.partner == b.d.eng)

/-- The job that makes a pair with `j`, posted and released. -/
def State.mateOf (s : State) (j : Job) : Option Job := s.ory.queue.find? fun k => isPair j k && s.jobReleased k

/-- Does a job go before another: class, then plan slot (R188)? -/
def Job.before (a b : Job) : Bool := decide (a.cls < b.cls) || (a.cls == b.cls && decide (a.d.slot < b.d.slot))

/-- The first of the jobs in the order of grant; of equals, the earlier posted. -/
def firstJob : List Job → Option Job
  | [] => none
  | j :: js => match firstJob js with
    | none => some j
    | some k => some (if k.before j then k else j)

/-- The jobs an engine may be granted to now: released, complete pairs, admitted; while a complete pair waits on the
engine, only that pair. -/
def State.grantable (s : State) (eng : Nat) : List Job :=
  let js := s.ory.queue.filter fun j => j.d.eng == eng && s.jobReleased j && !s.alm.frozen
  let pairs := js.filter fun j => j.pass2 && (s.mateOf j).isSome
  let may (e : Nat) (j : Job) : Bool := decide (j.cls < 8) || s.admits e (s.jobLen j)
  if pairs.isEmpty then js.filter fun j => !j.pass2 && may eng j
  else pairs.filter fun j => match s.mateOf j with
    | some k => (s.runOf k.d.eng).isNone && may eng j && may k.d.eng k
    | none => false

/-- Take a job out of the queue: the first that equals it. -/
def State.unqueue (s : State) (j : Job) : State := s.modOry fun o => { o with queue := o.queue.erase j }

/-- ns from the sample instant of a job's cycle to now. -/
def State.grantOfs (s : State) (d : JobDesc) : Nat := s.now - s.cycleStart d.cycLo

/-- Does a job find its structure: the slot named holds one that is not lost, of the identity given, and, but for FREE, of
the job's type (R159)?  No rule names the status of a job of another type; the model takes STRUCT_MISMATCH (DESIGN CHOICE, log
entry 36). -/
def State.finds (s : State) (d : JobDesc) : Option Struct :=
  match s.struct? d.eng d.ss with
  | some st => if st.state ≠ 3 ∧ st.sid = d.sid ∧ (st.ty = d.ty ∨ d.ty = 15) then some st else none
  | none => none

/-- The delta list of the SIM chained to a job, as it stands when the pair is granted. -/
def State.simRecords (s : State) (j : Job) : List Delta := (j.chain.map fun c => s.jobDeltas c.d).getD []

/-- The records of a chained SIM are applied during the QP (R179), whatever becomes of the SIM: here at the grant of the pair (DESIGN
CHOICE, log entry 36).  A list that R162 refuses, or one for a structure that is not there, changes nothing. -/
def State.applySim (s : State) (j : Job) : State :=
  match j.chain with
  | none => s
  | some c => match s.finds c.d with
    | none => s
    | some st =>
      let ds := s.jobDeltas c.d
      if ds.all (deltaOk st) then s.setStruct c.d.eng c.d.ss (some (st.applyNow ds)) else s

/-- Grant an engine to a job: it runs, or completes at once (R155, R159, R162, R180); `mate`: the other job of its pair. -/
def State.grantJob (s : State) (j : Job) (mate : Option Job) : State :=
  let a := s.unqueue j
  let d := j.d
  let go := a.grantOfs d
  let start (pred : Nat) (ds : List Delta) (aux : List Byte) (img : Option Struct) : State :=
    (a.modOry fun o => 
      { o.use d.eng with runs := o.runs ++ [⟨d.eng, j, a.now, a.now, pred, ds, aux, none, none, img, mate, a.simRecords j⟩] }).showOry
  match d.ty with
  | 15 => match a.finds d with
    | none => a.endEarly j stMismatch stChainSkipped go (a.jobPred j)
    | some _ => start (predOf noStruct d [] false) [] [] none
  | 14 =>
    match a.loadStruct d with
    | none => a.endEarly j stBadDesc stChainSkipped go (a.jobPred j)
    | some st =>
      if 245760 < a.areaUsed d.eng d.ss + st.size then a.endEarly j stNoSpace stChainSkipped go (predOf st d [] false)
      else start (predOf st d [] false) [] [] (some st)
  | _ =>
    match a.finds d with
    | none => a.endEarly j stMismatch stChainSkipped go (a.jobPred j)
    | some st =>
      let ds := a.jobDeltas d
      if ds.all (deltaOk st) then (start (predOf st d ds false) ds (a.jobAux st d) none).applySim j
      else a.endEarly j stDeltaError stChainSkipped go (predOf st d ds false)

/-! ### Completion (R167, R180, R182 to R185) -/

/-- What a run's job computes. -/
def Run.out (r : Run) (st : Struct) (cyc : Nat) (stop : Option StopAt) : JobOut :=
  let d := r.job.d
  match d.ty with
  | 1 => st.runQp d r.deltas r.aux cyc stop
  | 2 =>
    if bitAt d.ctrl 4 then
      if bitAt d.ctrl 5 then st.runKf2p r.aux
      else match r.block with
        | some b => st.runKf2 d r.aux b cyc
        | none => st.kf2End (if diagOk st.n (splitTri st.n (st.absorbed r.aux)).1 then stDlFactor else stNumeric)
    else st.runKf1 d r.aux cyc stop
  | 3 => st.runLap d r.aux stop
  | _ => st.runSim d r.deltas r.force stop

/-- The result of a run from what it computed; corrected ECC errors set ECC_CORR. -/
def Run.res (r : Run) (s : State) (o : JobOut) (corr : Nat) : JobRes :=
  ⟨o.status, o.flags + 128 * b2n (decide (0 < corr)), o.count, o.st.sid, r.grant - s.cycleStart r.job.d.cycLo, r.pred,
    o.resPri, o.resDua, o.obj, o.payload, o.aux, 0⟩

/-- Take a run off its engine. -/
def State.dropRun (s : State) (eng : Nat) : State :=
  (s.modOry fun o => { o.use eng with runs := o.runs.filter fun r => r.eng != eng }).showOry

/-- The chained SIM starts on the same engine, or is skipped (R167). -/
def State.chainNext (s : State) (r : Run) (qp : JobOut) : State :=
  match r.job.simJob with
  | none => s
  | some k =>
    let go := r.grant - s.cycleStart k.d.cycLo
    if qp.status ≠ stDone ∧ qp.status ≠ stDlIter then s.putResult k (bareRes stChainSkipped (s.residentId k) go (s.descPred k.d true))
    else match s.finds k.d with
      | none => s.putResult k (bareRes stMismatch (s.residentId k) go (s.descPred k.d true))
      | some st =>
        let ds := r.simDeltas
        if !ds.all (deltaOk st) then s.putResult k (bareRes stDeltaError st.sid go (s.descPred k.d true))
        else
          let x := f64sAt qp.payload 0 qp.st.n
          let run : Run := ⟨k.d.eng, k, r.grant, s.now, predOf st k.d ds true, ds, [], none, some (qp.st.chainForce x k.d.link), none, none, []⟩
          (s.modOry fun o => { o.use k.d.eng with runs := o.runs ++ [run] }).showOry

/-- Count corrected ECC errors of an engine. -/
def State.eccSeen (s : State) (eng corr : Nat) : State :=
  if corr = 0 then s else (s.bump F.ORY_ECC_CORR corr).put F.ORY_ECC_LAST_ENGINE eng

/-- The partner of a pass 2 run has written its block: the main run reads it (R175). -/
def State.giveBlock (s : State) (r : Run) (st : Struct) : State :=
  let give (m : Run) : Run := if isPair r.job m.job then { m with block := some (kfBlock r.aux st.n st.m) } else m
  s.modOry fun o => { o with runs := o.runs.map give }

/-- The copy of a completed factor goes to the partner's structure: the slot the partner job names (R175). -/
def State.copyFactor (s : State) (r : Run) (u : List Nat) (cyc : Nat) : State :=
  let slot := match r.mate with | some m => m.d.ss | none => r.job.d.ss
  match s.struct? r.job.d.partner slot with
  | some p => s.setStruct r.job.d.partner slot (some { p with arr := setAt p.arr 0 u, cycFactor := cyc })
  | none => s

/-- A result of a run that ended without a payload: STATUS, FLAGS and DONE_COUNT. -/
def State.plainRes (s : State) (r : Run) (status flags count : Nat) : JobRes :=
  { bareRes status (s.residentId r.job) (r.grant - s.cycleStart r.job.d.cycLo) r.pred with flags := flags, count := count }

/-- A free value of 0 to `n`. -/
def State.freeUpTo (s : State) (n : Nat) : Nat := if n = 0 then 0 else Config.freeValue s.freeCtr % (n + 1)

/-- The instant at which a run of PRED cycles ends: under spread a free value between PRED ns and PRED ÷ (1 − DEPTH) ns after its
start (R180, R534), with the depth in force at the end (DESIGN CHOICE, log entry 36). -/
def State.runEnd (s : State) (r : Run) : Nat := r.start + r.pred + s.freeUpTo (r.pred * s.depth / (1000 - s.depth))

/-- CK_SOLVE cycles that a run has had by now: under spread a free value between those at 1 − DEPTH and at 1 per ns (R534). -/
def State.runCycles (s : State) (r : Run) : Nat := (s.now - r.start) - s.freeUpTo ((s.now - r.start) * s.depth / 1000)

/-- What a run has completed by now, by the run-time terms of R179. -/
def State.doneBy (s : State) (r : Run) : Nat :=
  match s.struct? r.job.d.eng r.job.d.ss with
  | some st => st.doneAt r.job.d r.deltas (s.runCycles r) r.force.isSome
  | none => 0

/-- Single-bit errors corrected during a run that a command without a count of them ends: a free value, counted as every other
(R170; log entry 36). -/
def State.freeEcc (s : State) (eng : Nat) : Nat × State :=
  let n := Config.freeValue s.freeCtr
  (128 * b2n (decide (0 < n)), (s.eccSeen eng n).nextFree)

/-- A pass 2 run that ends before completing, `n` rows absorbed: DEADLINE_FACTOR, FACTOR_KEPT (R183, R185). -/
def State.endPass2 (s : State) (r : Run) (n ecc : Nat) : State :=
  (s.dropRun r.eng).putResult r.job (s.plainRes r stDlFactor (4 + ecc) n)

/-- The other run of a pass 2 pair. -/
def State.mateRun (s : State) (r : Run) : Option Run := s.ory.runs.find? fun m => isPair r.job m.job

/-- The other run of a pair ends with this one (R185): a main run whose partner ended without a block. -/
def State.endMate (s : State) (mate : Option Run) : State :=
  match mate with
  | some m =>
    if (s.runOf m.eng).isSome then
      let e := s.freeEcc m.eng
      (e.2.endPass2 m (e.2.doneBy m) e.1).nextFree
    else s
  | none => s

/-- Both jobs of a pass 2 pair are granted; where one of them ended at its grant, the other ends too, with nothing read
(R185). -/
def State.grantPair (s : State) (j k : Job) : State :=
  let a := (s.grantJob j (some k)).grantJob k (some j)
  match a.runOf j.d.eng, a.runOf k.d.eng with
  | some r, none => a.endPass2 r 0 0
  | none, some r => a.endPass2 r 0 0
  | _, _ => a

/-- A free engine is granted (R188, R189). -/
def State.grant (s : State) (eng : Nat) : State :=
  if (s.runOf eng).isSome ∨ !s.quadOn (eng / 16) then s
  else match firstJob (s.grantable eng) with
    | none => s
    | some j =>
      match (if j.pass2 then s.mateOf j else none) with
      | some k => s.grantPair j k
      | none => s.grantJob j none

/-- Does the deadline of a partner's main job come before the block is fully read (R185)? -/
def State.unread (s : State) (r : Run) (st : Struct) : Bool :=
  match s.mateRun r with
  | some m => match m.job.dl with | some t => decide (t < m.start + st.blockRead) | none => false
  | none => false

/-- What a pass 2 run that computed `o` leaves beside its result: the partner's block goes to the main run, the main's
factor to the partner's structure; a run that did not complete ends its mate (R175, R185). -/
def State.afterPass2 (s : State) (r : Run) (st : Struct) (o : JobOut) : State :=
  if o.status = stDone then
    if bitAt r.job.d.ctrl 5 then s.giveBlock r st else s.copyFactor r (o.st.a 0) o.st.cycFactor
  else s.endMate (s.mateRun r)

/-- A run ends: at PRED, or at a deadline. -/
def State.endRun (s : State) (r : Run) (stop : Option StopAt) (corr : Nat) : State :=
  let d := r.job.d
  let a := (s.dropRun r.eng).eccSeen r.eng corr
  let ecc := 128 * b2n (decide (0 < corr))
  match d.ty with
  | 15 => let b := a.setStruct d.eng d.ss none; b.putResult r.job { b.plainRes r stDone ecc 0 with sid := 0 }
  | 14 => let b := a.setStruct d.eng d.ss r.image; b.putResult r.job (b.plainRes r stDone ecc 0)
  | _ =>
    match a.struct? d.eng d.ss with
    | none => a.putResult r.job (a.plainRes r stMismatch ecc 0)
    | some st =>
      let o := r.out st (s.cycOf d.cycLo) stop
      let b := a.setStruct d.eng d.ss (some (if st.state = 3 then { o.st with state := 3 } else o.st))
      if r.job.pass2 then
        let late := bitAt d.ctrl 5 && o.status == stDone && s.unread r st
        let o' : JobOut := if late then { o with status := stDlFactor, flags := 4 } else o
        (b.putResult r.job (r.res s o' corr)).afterPass2 r st o
      else (b.putResult r.job (r.res s o corr)).chainNext r o

/-- The job on an engine has run for PRED cycles: its result is written (R180, R534). -/
def State.jobResult (s : State) (eng corr : Nat) : State :=
  match s.runOf eng with
  | none => s
  | some r => ((s.runTo (s.runEnd r)).endRun r none corr).nextFree

/-- The job of earliest deadline. -/
def earliestDl : List Job → Option Job
  | [] => none
  | j :: js => match earliestDl js with
    | none => some j
    | some k => some (if k.dl.getD 0 < j.dl.getD 0 then k else j)

/-- A deadline ends a run (R183, R185), in which `corr` errors were corrected (R170).  A pass 2 run whose absorption was complete and failed ends NUMERIC (R180, R187). -/
def State.runDeadline (s : State) (r : Run) (stop : StopAt) (corr : Nat) : State :=
  let t := match r.job.dl with | some t => s.runTo t | none => s
  if r.job.pass2 then
    let a := t.eccSeen r.eng corr
    let ecc := 128 * b2n (decide (0 < corr))
    let st := (a.struct? r.job.d.eng r.job.d.ss).getD noStruct
    let o := (r.out st (s.cycOf r.job.d.cycLo) none).status
    let b := if stop.factored && o == stNumeric then (a.dropRun r.eng).putResult r.job (a.plainRes r stNumeric (4 + ecc) st.m)
      else a.endPass2 r (satN st.m stop.done) ecc
    b.endMate (a.mateRun r)
  else t.endRun r (some stop) corr

/-- A deadline passes before a job was granted (R183). -/
def State.waitDeadline (s : State) (j : Job) : State :=
  let u := s.unqueue j
  let a := match j.dl with | some t => u.runTo t | none => u
  a.endEarly j stNotStarted stChainSkipped 0 j.pred

/-- The deadline of a plan slot's job of earliest deadline arrives (R183); a LOAD or FREE that was granted runs on. -/
def State.jobDeadline (s : State) (slot : Nat) (stop : StopAt) (corr : Nat) : State :=
  let runs := s.ory.runs.filter fun r => r.job.d.slot == slot && r.job.d.ty != 14 && r.job.d.ty != 15
  let waits := s.ory.queue.filter fun j => j.d.slot == slot
  match earliestDl (runs.map (·.job) ++ waits) with
  | none => s
  | some j => match runs.find? fun r => r.job == j with
    | some r => s.runDeadline r stop corr
    | none => s.waitDeadline j

/-- CK_SOLVE cycles from a run's start to the end of its refactorisation, or of the propagation of pass 1 (R179). -/
def Run.factorEnd (r : Run) (st : Struct) : Nat :=
  match r.job.d.ty with
  | 1 => 400 + 4 * r.deltas.length + st.cFac
  | 2 => 400 + st.cProp
  | _ => 0

/-- What an aborted run leaves: the structure, where it changes, and the flags of R170 but those of a payload.  A
refactorisation that was not complete is abandoned as at a deadline, and its records stay held (R164); a pass 2 leaves the
structure as it was. -/
def State.abandoned (s : State) (r : Run) : Option Struct × Nat :=
  match s.struct? r.job.d.eng r.job.d.ss with
  | none => (none, 0)
  | some st =>
    if r.job.pass2 then (none, 4)
    else if 14 ≤ r.job.d.ty ∨ st.state = 3 then (none, 0)
    else
      let stop : StopAt := ⟨0, decide (r.factorEnd st ≤ s.runCycles r)⟩
      let o := r.out st (s.cycOf r.job.d.cycLo) (some stop)
      (some o.st, flagBits (bitAt o.flags 0) (bitAt o.flags 1) (bitAt o.flags 2) false (bitAt o.flags 4) (bitAt o.flags 5) false)

/-- Abort a run (R171). -/
def State.abortRun (s : State) (r : Run) : State :=
  let e := s.freeEcc r.eng
  let u := e.2
  let o := u.abandoned r
  let a := match o.1 with | some st => u.setStruct r.job.d.eng r.job.d.ss (some st) | none => u
  let b := ((a.dropRun r.eng).putResult r.job (u.plainRes r stAborted (o.2 + e.1) (u.doneBy r))).nextFree
  match r.job.simJob with
  | none => b
  | some k => b.putResult k (bareRes stAborted (b.residentId k) (r.grant - s.cycleStart k.d.cycLo) (b.descPred k.d true))

/-- Complete the jobs for which `p` holds ABORTED, queued and running (R171, R193); the other run of a pass 2 pair ends
with it (R185). -/
def State.abortJobs (s : State) (p : Job → Bool) : State :=
  let a := forEach (s.ory.queue.filter p) (fun j t => (t.unqueue j).endEarly j stAborted stAborted 0 j.pred) s
  let mine := a.ory.runs.filter fun r => p r.job
  let b := forEach mine (fun r t => t.abortRun r) a
  forEach mine (fun r t => if r.job.pass2 then t.endMate (a.mateRun r) else t) b

/-- A quadrant powers down: its jobs complete ABORTED, its structures become empty (R193), its engines hold nothing; EV067 and EV017.  `was`: its
domain had power, whether or not it had reported ready. -/
def State.quadDown (s : State) (q : Nat) (was : Bool) : State :=
  if !s.quadOn q && !was then s
  else
    let a := s.abortJobs fun j => j.d.eng / 16 == q
    let b := forEach ((List.range 64).map (64 * q + ·)) (fun k t => if (t.struct? (k / 4) (k % 4)).isSome then t.setStruct (k / 4) (k % 4) none else t) a
    let u := b.modOry fun o => { o with work := o.work.filter fun e => e.1 / 16 != q }
    let c := (u.put F.ORY_STATUS_Q_ON (putBit (b.fld F.ORY_STATUS_Q_ON) q false)).put F.PWR_STATUS_ON
      (putBit (b.fld F.PWR_STATUS_ON) (5 + q) false)
    (c.showOry.raise1 67 sevNotice srcOry q).raise1 17 sevInfo 0x10 q

/-- A quadrant reports ready. -/
def State.quadUp (s : State) (q : Nat) : State :=
  if s.quadOn q then s
  else
    let c := s.put F.ORY_STATUS_Q_ON (putBit (s.fld F.ORY_STATUS_Q_ON) q true)
    (c.showOry.raise1 67 sevNotice srcOry q).raise1 17 sevInfo 0x10 q

/-- HOST_ABORT: every class 9 job completes ABORTED. -/
def State.hostAbort (s : State) : State := (s.abortJobs fun j => j.cls == 9).setTo F.ORY_CTRL_HOST_ABORT false

end Sys2Proof.Machine
end

