-- ==== Sys2Proof/Machine/Vessel.lean ====
section
/-! DEFINITION. The control set's thrusters and the vessel model they drive: the propagation of the nominal state while both
inertial units are lost (R127, R196, R197), and the correction of inertial increments (R126). -/

namespace Sys2Proof.Machine

/-! ### The thrusters of the control set (R196, R197) -/

/-- The active control set. -/
def State.ctlSet (s : State) : List Byte := s.winBytes 0x82000 528

/-- A control set is active: its MAGIC is there. -/
def State.ctlHas (s : State) : Bool := s.rd 0x82000 == (0x534C5443 : Word)

/-- A thruster entry (R197). -/
structure Thr where
  /-- Thruster index. -/
  idx : Nat
  /-- TYPE. -/
  ty : Nat
  /-- SECTION. -/
  sec : Nat
  /-- X. -/
  x : Nat
  /-- Y. -/
  y : Nat
  /-- T_MAX. -/
  tmax : Nat
  /-- P_RATED. -/
  rated : Nat
  /-- P_IDLE. -/
  idle : Nat
  /-- THR_RATE. -/
  rate : Nat
  /-- AZ_RATE. -/
  az : Nat
  /-- Sectors: START and WIDTH, units of π/32,768. -/
  sects : List (Nat × Nat)
  deriving DecidableEq, Repr

/-- Thruster entry `i` of a control set. -/
def thrAt (set : List Byte) (i : Nat) : Thr :=
  let e := (set.drop (128 + 64 * i)).take 64
  ⟨i, fieldLe e 0 1, fieldLe e 1 1, f32At e 4, f32At e 8, f32At e 12, f32At e 16, f32At e 20, f32At e 24, f32At e 28,
    (List.range (satN 8 (fieldLe e 2 1))).map fun k => (fieldLe e (32 + 4 * k) 2, fieldLe e (34 + 4 * k) 2)⟩

/-- Is it an azimuth thruster? -/
def Thr.isAz (t : Thr) : Bool := t.ty == 2

/-- The thrusters of a control set, in index order; TYPE 0 is skipped. -/
def setThrs (set : List Byte) : List Thr :=
  ((List.range (satN 24 (fieldLe set 6 1))).map (thrAt set)).filter fun t => t.ty == 1 || t.ty == 2

/-- The thrusters of the active control set. -/
def State.thrs (s : State) : List Thr := if s.ctlHas then setThrs s.ctlSet else []

/-! ### Inertial increments (R126) -/

/-- Rotation rate of the Earth, rad/s, of WGS 84 (PRESUMED, log entry 45). -/
def earthRate : Nat := ffrac 7292115 100000000000

/-- Normal gravity at a latitude and a height above the ellipsoid, m/s²: Somigliana's formula and its second-order change
with height, with the constants of WGS 84 (PRESUMED, log entry 45). -/
def normalGravity (p : List Nat) : Nat :=
  let s2 := fmul (fsin (nth p 0)) (fsin (nth p 0))
  let g0 := fdiv (fmul (ffrac 97803253359 10000000000) (dotN [(one, one), (ffrac 193185265241 100000000000000, s2)]))
    (fsqrt (lessDot dotN one [(wgsE2, s2)]))
  let f := ffrac 1000000000 298257223563
  let m := ffrac 344978650684 100000000000000
  let h := fdiv (nth p 2) wgsA
  let k := fmul (fint 2) (dotN [(one, one), (f, one), (m, one), (fmul (fint (-2)) f, s2)])
  fmul g0 (dotN [(one, one), (fneg k, h), (fmul (fint 3) h, h)])

/-- The rotation of the earth frame, N, E, D: Earth rate at the latitude of the datum, and transport rate of a velocity there
(R126). -/
def frameRate (p v : List Nat) : List Nat :=
  let sl := fsin (nth p 0)
  let w := lessDot dotN one [(wgsE2, fmul sl sl)]
  let n := fdiv wgsA (fsqrt w)
  let m := fdiv (fmul n (fsub one wgsE2)) w
  let e := fdiv (nth v 1) (fadd n (nth p 2))
  [dotN [(earthRate, fcos (nth p 0)), (e, one)], fneg (fdiv (nth v 0) (fadd m (nth p 2))),
    fneg (dotN [(earthRate, sl), (e, ftan (nth p 0))])]

/-- Part of an increment (bytes, from and to, ns of its interval) as the integration takes it (R126): turned to the body frame
by MOUNT, less the estimated biases, Earth and transport rate removed; the velocity in the earth frame, with gravity added;
and its duration, s. -/
def State.incPart (s : State) (x : Nominal) (e : List Byte) (p : List Byte × Nat × Nat) : List Nat :=
  let d := datumLlh s.datum
  let fr := ffrac ((p.2.2 - p.2.1 : Nat) : Int) (fieldLe p.1 40 4)
  let dt := ffrac ((p.2.2 - p.2.1 : Nat) : Int) 1000000000
  let body (off bias : Nat) : List Nat :=
    v3sub (mulMV (entMount e) (v3scale fr (f32sAt p.1 off 3))) (v3scale dt (slice s.fus.bias bias 3))
  v3sub (body 16 0) (mulMV (transp x.cnb) (v3scale dt (frameRate d x.vel))) ++
    v3add (mulMV x.cnb (body 28 3)) [0, 0, fmul dt (normalGravity d)] ++ [dt]

/-! ### The vessel model (R127) -/

/-- Word `i` of the set last applied: on a standby, of the active unit's set (R127, R307). -/
def State.appliedWord (s : State) (i : Nat) : Word :=
  sget (fun _ => 0) (s.red.base.getD s.cdr.applied) i

/-- The force of a command word on the vessel: T_MAX times THRUST, along ANGLE, or along body y of a tunnel; X, Y and N about
CO (R197, R225). -/
def Thr.forceOf (t : Thr) (w : Nat) : List Nat :=
  let thr := fmul t.tmax (ffrac (sgn 16 (w % 65536)) 32768)
  let ang := ffrac (sgn 16 (w / 65536) * (piNum : Int)) (32768 * piDen)
  let x := if t.isAz then fmul thr (fcos ang) else 0
  let y := if t.isAz then fmul thr (fsin ang) else thr
  [x, y, dotN [(t.x, y), (fneg t.y, x)]]

/-- The force that drives the vessel model: the last applied thrust and the estimated environment force (R127). -/
def State.modelForce (s : State) : List Nat :=
  let fs := s.thrs.map fun t => t.forceOf (s.appliedWord (8 + 2 * t.idx)).toNat
  fs.foldl v3add (slice s.fus.bias 32 3)

/-- RATE of the heading sensor of the lowest slot that gives one (R127). -/
def State.headingRate (s : State) : Option Nat :=
  let ok := (s.fus.hdg.filter fun r => !rateAbsent r (20, 4)).mergeSort fun a b => decide (recSource a ≤ recSource b)
  ok.head?.map fun r => f32At r 20

/-- The vessel model's propagation of a state to a tick, codes in the order of `Nominal.ofCodes`: the equation of R178 with M,
D_L and D_Q of the active control set (R196), one RK4 step, heading by RATE where it is present (R127).  Depth, roll and
pitch, which the model has not, stay; without a control set no force moves it (DESIGN CHOICE, log entry 7). -/
def State.modelStep (s : State) (x : Nominal) (tick : Nat) : List Nat :=
  let dt := ffrac ((tick : Int) - (x.time : Int)) 1000000000
  let minv := if s.ctlHas then inverse3 (f32sAt s.ctlSet 16 9) else List.replicate 9 0
  let uv := (mulMV (transp (rotZ (nth x.att 0))) x.vel).take 2
  let y := simStep dotN minv (f32sAt s.ctlSet 52 9) (f32sAt s.ctlSet 88 3) s.modelForce dt
    ([nth x.pos 0, nth x.pos 1, nth x.att 0] ++ uv ++ [nth x.rate 2])
  let r := s.headingRate
  let psi := match r with | none => nth y 2 | some w => dotN [(one, nth x.att 0), (w, dt)]
  [nth y 0, nth y 1, nth x.pos 2] ++ mulMV (rotZ psi) [nth y 3, nth y 4, 0] ++ [psi, nth x.att 1, nth x.att 2] ++
    [0, 0, r.getD (nth y 5)]

end Sys2Proof.Machine
end

