-- ==== Sys2Proof/Machine/Fusion.lean ====
section
/-! DEFINITION. The fusion unit (03_reference_fusion.md): Reticle set and datum, inertial propagation, the sorting of
records, the rows of the update, gating and voting, publication, and optical tracks. -/

namespace Sys2Proof.Machine

/-! ### States (R147) -/

/-- FSTATE OFF. -/
def fsOff : Nat := 0
/-- INIT. -/
def fsInit : Nat := 1
/-- ALIGNING. -/
def fsAligning : Nat := 2
/-- RUN. -/
def fsRun : Nat := 3
/-- COAST. -/
def fsCoast : Nat := 4

/-- FSTATE. -/
def State.fstate (s : State) : Nat := s.fld F.FUS_STATUS_FSTATE

/-- Set FSTATE. -/
def State.fsGo (s : State) (f : Nat) : State := s.put F.FUS_STATUS_FSTATE f

/-- ALIGNED: RUN or COAST. -/
def State.aligned? (s : State) : Bool := s.fstate == fsRun || s.fstate == fsCoast

/-- A nominal state from codes; the heading is brought into [0, 2π) (R15). -/
def Nominal.ofCodes (t : Nat) (c : List Nat) : Nominal :=
  ⟨t, slice c 0 3, slice c 3 3, [fturn (nth c 6), nth c 7, nth c 8], slice c 9 3⟩

/-- The filter starts anew (R147): INIT. -/
def State.fusInit (s : State) : State :=
  let a := s.modFus fun f => { f with
    bias := List.replicate 39 0, factor := [], sigma := [0, 0, 0], pass := .none, rows := [], used := [], updates := 0
    propFirst := true, ready := false, resetPend := false, history := [], optRows := [], optUsed := [], optLate := [], relSet := [false, false] }
  (a.setTo F.FUS_CTRL_RESET_FILTER false).fsGo fsInit

/-- What the sample instant does to FSTATE: ENABLE in force, and a pending RESET_FILTER. -/
def State.fusSample (s : State) : State :=
  let on := s.eon F.FUS_CTRL_ENABLE
  let a := s.modFus fun f => { f with
    resetPend := false, published := false, contributed := false, due := false, lapDone := false
    sats := f.sats.map fun x => { x with left := x.left - 1 } }
  let b := if s.fus.resetPend then a.setTo F.FUS_CTRL_RESET_FILTER false else a
  if on && b.fstate == fsOff then b.fusInit
  else if !on && b.fstate != fsOff then (b.modFus fun f => { f with pass := .none, rows := [] }).fsGo fsOff
  else if s.fus.resetPend && b.fstate != fsOff then b.fusInit
  else b

def execFusEnable (_req : Req) (s : State) : Host.Outcome State Fault Refusal :=
  s.gate 9 <| .next (s.setTo F.FUS_CTRL_ENABLE true)

def execResetFilter (_req : Req) (s : State) : Host.Outcome State Fault Refusal :=
  s.gate 9 <| .next ((s.modFus fun f => { f with resetPend := true }).setTo F.FUS_CTRL_RESET_FILTER true)

/-! ### The Reticle set and the datum (R120 to R124, R148) -/

/-- Bytes of the Reticle set. -/
def retBytes : Nat := 3136

/-- A finite float32 code times 2^149, its magnitude. -/
def f32Scaled (c : Nat) : Nat := match fmt32.read c with | .fin _ m e => m * 2 ^ (e + 149).toNat | _ => 0

/-- Does a quaternion's norm differ from 1 by more than 10⁻⁴? -/
def quatBad (cs : List Nat) : Bool :=
  let n := (cs.map fun c => f32Scaled c * f32Scaled c).sum * 10000 ^ 2
  !(cs.all fmt32.finite) || decide (n < 9999 ^ 2 * 2 ^ 298) || decide (10001 ^ 2 * 2 ^ 298 < n)

/-- A source entry of a Reticle set: slot, TYPE, enabled, relative, REL_SLOT, receiver index. -/
def retEntry (bs : List Byte) (slot : Nat) : List Byte := (bs.drop (64 + 64 * slot)).take 64

/-- Does a Reticle set pass the check of R123?  REL_SLOT, receiver index and MOUNT are checked of every entry with a TYPE,
enabled or not; N_REFL above 64, outside the range of R120, is refused as well (log entry 45). -/
def reticleOk (bs : List Byte) : Bool :=
  let es := ((List.range 32).map (retEntry bs)).filter fun e => fieldLe e 0 1 != 0
  let rel := (es.filter entryRel).map fun e => fieldLe e 3 1
  let rx := (es.filter entryGnss).map entRx
  (bs.take 4 == ([0x52, 0x54, 0x43, 0x4C] : List Byte)) && decide (fieldLe bs 4 2 = 1) && decide (fieldLe bs 6 2 ≤ 64) &&
    decide (fieldLe bs 60 4 = crc32c (bs.take 60 ++ (bs.drop 64).take 3072)) &&
    decide ((es.filter fun e => entryOn e && entryRel e).length ≤ 2) &&
    rel.all (fun r => decide (r ≤ 1)) && decide rel.Nodup && decide rx.Nodup &&
    es.all fun e => !quatBad ((List.range 4).map fun i => fieldLe e (20 + 4 * i) 4)

/-- Make a Reticle set active. -/
def State.setReticle (s : State) (bs : List Byte) : State :=
  (s.wrWords 0x62000 (wordsOf 784 bs)).wrn Reg.FUS_RET_ID (fieldLe bs 8 4)

/-- RET_COMMIT: the staged Reticle set waits for the sample instant (R124). -/
def State.retCommit (s : State) : State :=
  (s.modFus fun f => { f with retPend := true, retLate := s.commitTie f.retPend f.retLate }).setTo F.FUS_CTRL_RET_COMMIT true

/-- A committed Reticle set is checked at the sample instant (R124). -/
def State.reticleCheck (s : State) : State :=
  if !s.fus.retPend then s
  else if s.fus.retLate then s.modFus fun f => { f with retLate := false }
  else
    let a := (s.modFus fun f => { f with retPend := false }).setTo F.FUS_CTRL_RET_COMMIT false
    let bs := s.winBytes 0x61000 784
    if reticleOk bs then (a.setReticle bs).raise 53 sevNotice srcFus
    else (a.setTo F.FUS_STATUS_RET_REJECT true).raise 53 sevNotice srcFus

def execRetCommit (_req : Req) (s : State) : Host.Outcome State Fault Refusal := s.gate 9 <| .next s.retCommit

/-- What the fusion unit holds by position, referred to another datum; a relative offset moves against the position it is
measured with. -/
def Fusion.redatum (f : Fusion) (d : List Word) : Fusion :=
  let pos (p : List Nat) : List Nat := redatumPos f.datum d p
  let point (p : Nat × Nat) : Nat × Nat := let q := pos [p.1, p.2, 0]; (nth q 0, nth q 1)
  let q := pos f.nominal.pos
  let moved (i : Nat) : Nat :=
    if 35 ≤ i then dotN [(one, nth f.bias i), (one, nth f.nominal.pos ((i - 35) % 2)), (negOne, nth q ((i - 35) % 2))]
    else nth f.bias i
  { f with
    datum := d, nominal := { f.nominal with pos := q }
    history := f.history.map fun x => { x with pos := pos x.pos }
    bias := (List.range 39).map moved
    tracks := f.tracks.map fun t => { t with pos := point t.pos } }

/-- The positions the control engine holds, referred to another datum: the start of its plan, and its target (R148). -/
def Control.redatum (c : Control) (old new : List Word) : Control :=
  let p := redatumPos old new [c.plan.pos.1, c.plan.pos.2, 0]
  let q := redatumPos old new [nth c.target 0, nth c.target 1, 0]
  { c with plan := { c.plan with pos := (nth p 0, nth p 1) }, target := [nth q 0, nth q 1, nth c.target 2] }

/-- DATUM_COMMIT: the written datum waits for the sample instant (R148). -/
def State.datumCommit (s : State) : State :=
  (s.modFus fun f => { f with datumPend := true, datumLate := s.commitTie f.datumPend f.datumLate }).setTo F.FUS_CTRL_DATUM_COMMIT true

/-- A committed datum takes effect at the sample instant: positions are relative to it from then on (R148). -/
def State.datumApply (s : State) : State :=
  if !s.fus.datumPend || s.fus.datumLate then s.modFus fun f => { f with datumNew := false, datumLate := false }
  else
    let d := [Reg.FUS_DATUM_LAT_LO, Reg.FUS_DATUM_LAT_HI, Reg.FUS_DATUM_LON_LO, Reg.FUS_DATUM_LON_HI, Reg.FUS_DATUM_H].map s.rd
    let b := { s with ctl := s.ctl.redatum s.datum d }
    let a := (b.modFus fun f => { f.redatum d with datumPend := false, datumNew := true }).setTo F.FUS_CTRL_DATUM_COMMIT false
    (a.setTo F.FUS_STATUS_DATUM_CHANGED true).raise 53 sevNotice srcFus

def execDatumCommit (_req : Req) (s : State) : Host.Outcome State Fault Refusal := s.gate 9 <| .next s.datumCommit

/-! ### Slot states (FUS_REF_STATE, FUS_AUX_STATE) -/

/-- OFF or no data. -/
def rsOff : Nat := 0
/-- USED. -/
def rsUsed : Nat := 1
/-- REJECTED. -/
def rsRejected : Nat := 2
/-- SUSPECT. -/
def rsSuspect : Nat := 3

/-- The field of a slot's state. -/
def slotFld (slot : Nat) : Fld :=
  if slot < 16 then ⟨Reg.FUS_REF_STATE, 2 * slot + 1, 2 * slot⟩
  else ⟨Reg.FUS_AUX_STATE, 2 * (slot - 16) + 1, 2 * (slot - 16)⟩

/-- Set a slot's state; EV049 on a change. -/
def State.setSlot (s : State) (slot v : Nat) : State :=
  if slot < 30 ∧ s.fld (slotFld slot) ≠ v then (s.put (slotFld slot) v).raise1 49 sevNotice srcFus slot else s

/-! ### Inertial propagation (R126 to R128) -/

/-- The increments of an intake record (R113). -/
def incOf (s : State) (r : FusRec) : Inc :=
  let stop := (s.measTime r.bytes).toNat
  ⟨recSource r.bytes, stop - fieldLe r.bytes 40 4, stop, 0, r.bytes⟩

/-- Cycles by which a record's window precedes the cycle of a sample instant `t0`; negative: the record is held. -/
def windowAge (t0 tb : Nat) (tm : Int) : Int := ((t0 : Int) - tm) / (tb : Int)

/-- The per-slot count register of a slot. -/
def srcFld (f : Fld) (slot : Nat) : Fld := f.plus (4 * slot)

/-- A record older than 8 cycles is discarded (R115). -/
def State.dropStale (r : FusRec) (s : State) : State :=
  (s.bump (srcFld F.FUS_SRC_CNT_STALE (recSource r.bytes)) 1).setTo F.FUS_STATUS_LATE_DROP true

/-- A record of an earlier window is late (R115). -/
def State.countLate (r : FusRec) (s : State) : State := s.bump (srcFld F.FUS_SRC_CNT_LATE (recSource r.bytes)) 1

/-- Take the inertial records measured at or before `upto` out of the queue, for propagation.  They are sorted as R115 says
for the cycle of the sample instant `t0`: a stale one is discarded, a late one counted. -/
def State.takeIncs (s : State) (t0 : Nat) (upto : Int) : State :=
  let mine (r : FusRec) : Bool := recType r.bytes == 7 && decide (s.measTime r.bytes ≤ upto)
  let age (r : FusRec) : Int := windowAge t0 s.tbase (s.measTime r.bytes)
  let taken := s.fus.queue.filter mine
  let use := taken.filter fun r => decide (age r ≤ 8) && bitAt (fieldLe r.bytes 44 4) 0
  let a := (s.modFus fun f => { f with
    queue := f.queue.filter fun r => !mine r, incs := f.incs ++ use.map (incOf s) }).showIntake
  let b := forEach (taken.filter fun r => decide (8 < age r)) State.dropStale a
  forEach (taken.filter fun r => decide (0 < age r ∧ age r ≤ 8)) State.countLate b

/-- The sample instant of the cycle whose INTAKE_CL comes next at a tick: the cycle that sorts a record taken then (R115). -/
def State.sortCycle (s : State) (tick : Nat) : Nat :=
  if tick ≤ s.at F.CDR_OFS_A_INTAKE_CL then s.cdr.t0 else s.cdr.t0 + s.tbase

/-- Is an inertial unit valid? -/
def State.insOk (s : State) (slot : Nat) : Bool := if slot = 28 then s.fus.insOk.1 else s.fus.insOk.2

/-- The unit that should propagate (R127). -/
def State.insWanted (s : State) : Nat :=
  let sel := s.efld F.FUS_CTRL_INS_SEL
  let first := if sel = 2 then 29 else if sel = 1 then 28 else if s.insOk 28 then 28 else 29
  if s.insOk first then first else 57 - first

/-- Show the inertial slots and INS_LOST. -/
def State.showIns (s : State) : State :=
  let lost := !s.insOk 28 && !s.insOk 29
  let code (slot : Nat) : Nat := if !s.insOk slot then rsOff else if s.fus.ins = slot then rsUsed else rsOff
  ((s.setSlot 28 (code 28)).setSlot 29 (code 29)).setTo F.FUS_STATUS_INS_LOST lost

/-- Switch the propagating unit at a fast tick: its biases change places with the standby's (R127). -/
def State.insSwitch (s : State) : State :=
  let lost := !s.insOk 28 && !s.insOk 29
  let w := s.insWanted
  if lost then
    if s.on F.FUS_STATUS_INS_LOST then s else s.showIns.raise 51 sevAlarm srcFus
  else if w = s.fus.ins then s.showIns
  else
    let b := s.fus.bias
    let a := s.modFus fun f => { f with ins := w, bias := (b.drop 6).take 6 ++ b.take 6 ++ b.drop 12 }
    a.showIns.raise 51 sevAlarm srcFus

/-- The part of an increment that ends at or before a tick: used from, used to; none if nothing is left before it. -/
def Inc.part (i : Inc) (tick : Nat) : Option (List Byte × Nat × Nat) :=
  let upto := if i.stop ≤ tick then i.stop - i.start else tick - i.start
  if i.start < tick ∧ i.used < upto then some (i.data, i.used, upto) else none

/-- The increment after a tick. -/
def Inc.after (i : Inc) (tick : Nat) : Inc :=
  if i.start < tick then { i with used := Nat.max i.used (if i.stop ≤ tick then i.stop - i.start else tick - i.start) } else i

/-- Propagate the nominal state to a fast tick and store it (R126, R127).  In every state the increments up to the tick count
as integrated, so that the next tick takes those since this one.  The states of the last 9 base cycles and of the one in
progress stay, so that a record of the oldest late window, and the rows of such a scan in the next cycle, have theirs. -/
def State.insTick (s : State) (tick : Nat) : State :=
  let a := (s.takeIncs (s.sortCycle tick) tick).insSwitch
  let f := a.fus
  let b := a.modFus fun g => { g with
    incs := (g.incs.map (·.after tick)).filter fun i => decide (tick < i.stop + 2 * s.tbase) }
  if s.fstate = fsOff ∨ s.fstate = fsInit then b
  else
    let parts := (f.incs.filter fun i => i.slot == f.ins).filterMap (·.part tick)
    let x := f.nominal
    let c := if a.on F.FUS_STATUS_INS_LOST then a.modelStep x tick
      else
        let e := a.entry f.ins
        codes (Config.strapdown x.codes (parts.map (a.incPart x e)) (entLever e) x.time tick)
    let nx := Nominal.ofCodes tick c
    b.modFus fun g => { g with
      nominal := nx, history := (nx :: g.history).filter fun h => decide (s.cdr.t0 ≤ h.time + 10 * s.tbase) }

/-- An inertial unit has delivered no valid increment for 5 ms (R127). -/
def State.insLose (s : State) (unit : Nat) : State :=
  if !s.insOk (28 + unit) then s
  else
    let seen := if unit = 0 then s.fus.insSeen.1 else s.fus.insSeen.2
    let a := s.runTo (seen + 5000000)
    a.modFus fun f => { f with insOk := if unit = 0 then (false, f.insOk.2) else (f.insOk.1, false) }

def execInertialUnitLost (unit : Fin 2) (s : State) : Host.Outcome State Fault Refusal :=
  s.gate 9 <| .next (s.insLose unit.val)

/-! ### Sorting (R115, R116) -/

/-- Drop the records another of the same slot and window supersedes: the newest is kept (R116). -/
def newestOnly (s : State) (rs : List (FusRec × Nat)) : List (FusRec × Nat) × List FusRec :=
  let beats (a b : FusRec × Nat) : Bool :=
    recSource a.1.bytes == recSource b.1.bytes && a.2 == b.2 && decide (s.measTime b.1.bytes < s.measTime a.1.bytes)
  (rs.filter fun r => !(rs.any fun q => beats q r), (rs.filter fun r => rs.any fun q => beats q r).map (·.1))

/-- The records that an update measures: not the scans, whose rows come with the next update, nor wind and riser (R142, R144,
R146). -/
def measures (r : FusRec) : Bool := recType r.bytes != 3 && recType r.bytes != 8 && recType r.bytes != 9

/-- Sort the queue but the inertial records, which `takeIncs` sorts, at INTAKE_CL (R115): the records of the update with the age of their windows, and the state. -/
def State.fusSort (s : State) : List (FusRec × Nat) × State :=
  let aged := s.fus.queue.map fun r => (r, windowAge s.cdr.t0 s.tbase (s.measTime r.bytes))
  let inert (r : FusRec) : Bool := recType r.bytes == 7
  let keep := (aged.filter fun p => decide (p.2 < 0) || inert p.1).map (·.1)
  let stale := (aged.filter fun p => decide (8 < p.2) && !inert p.1).map (·.1)
  let use := (aged.filter fun p => decide (0 ≤ p.2 ∧ p.2 ≤ 8) && !inert p.1).map fun p => (p.1, p.2.toNat)
  let n := newestOnly s use
  let now := (n.1.filter fun p => p.2 == 0).map (·.1)
  let ofTy (ty : Nat) : List (List Byte) := (now.filter fun r => recType r.bytes == ty).map (·.bytes)
  let a := (s.modFus fun f => { f with
    queue := keep, used := (n.1.map (·.1)).filter measures, mrus := ofTy 6
    scans := now.filter (fun r => recType r.bytes == 3) ++
      (n.1.filter fun p => p.2 != 0 && recType p.1.bytes == 3).map (·.1)
    hdg := if (ofTy 5).isEmpty then f.hdg else ofTy 5 }).showIntake
  let b := forEach stale State.dropStale a
  let c := forEach n.2 (fun r t => t.bump (srcFld F.FUS_SRC_CNT_SUPERSEDED (recSource r.bytes)) 1) b
  (n.1, forEach (n.1.filter fun p => p.2 != 0) (fun p => State.countLate p.1) c)

/-! ### Rows (R128, R130, R131, R140, R141) -/

/-- A row as it stands before pass 1. -/
def mkRow (kind slot ty : Nat) (sat : Nat × Nat) (cn0 : Nat) (range : Bool) (window : Nat) (coef : List Nat) : FusRow :=
  ⟨kind, slot, ty, sat, cn0, range, window, coef, (0, 0, 0), false⟩

/-- The rows of a raw record's satellites, pseudorange before range rate: entry number, system, number, C/N0, and whether
it is a pseudorange (R112). -/
def satRows (r : List Byte) : List (Nat × (Nat × Nat) × Nat × Bool) :=
  (List.range (fieldLe r 17 1)).flatMap fun k =>
    let o := 24 + 64 * k
    let fl := fieldLe r (o + 2) 1
    let sat := (fieldLe r o 1, fieldLe r (o + 1) 1)
    if bitAt fl 2 then []
    else (if bitAt fl 0 then [(k, sat, fieldLe r (o + 3) 1, true)] else []) ++
      (if bitAt fl 1 then [(k, sat, fieldLe r (o + 3) 1, false)] else [])

/-- ELEV_MASK in degrees, at most 60. -/
def State.elevMask (s : State) : Nat := satN 60 (s.efld F.FUS_GATE_ELEV_MASK)

/-- Is a satellite excluded now (R133)? -/
def State.satOut (s : State) (slot sys svid : Nat) : Bool :=
  s.fus.sats.any fun x => x.slot == slot && x.sys == sys && x.svid == svid && x.long

/-- The rows of a raw record (R112, R129, R133): none of an excluded satellite or one below ELEV_MASK. -/
def State.rawRows (s : State) (r : List Byte) (age : Nat) : List FusRow :=
  let slot := recSource r
  let t := s.measTime r
  let e := s.entry slot
  let x := s.nominalOn t
  let mask := ffrac ((s.elevMask : Nat) * piNum) (180 * piDen)
  ((satRows r).filter fun p => !(s.satOut slot p.2.1.1 p.2.1.2) && !flt (s.satElev r e x p.1) mask).map fun p =>
    mkRow (if age = 0 then 5 else 4) slot 1 p.2.1 p.2.2.1 p.2.2.2 age (s.satRow r e x t p.1 p.2.2.2)

/-- The rows a record offers to the update; `age` 0: on time. -/
def State.offerRows (s : State) (r : FusRec) (age : Nat) : List FusRow :=
  let ty := recType r.bytes
  if ty = 1 then s.rawRows r.bytes age
  else
    let kind := if age ≠ 0 then 4 else if ty = 5 ∨ ty = 6 then 0 else if ty = 2 then 3 else 2
    (s.plainRows r.bytes).map fun c => mkRow kind (recSource r.bytes) ty (0, 0) 0 false age c

/-- The middle of sorted values: the median, or the mean of the middle two. -/
def fmedian (xs : List Nat) : Nat :=
  let ys := xs.mergeSort fle
  let n := ys.length
  if n % 2 = 1 then nth ys (n / 2) else fmul (ffrac 1 2) (fadd (nth ys (n / 2 - 1)) (nth ys (n / 2)))

/-- HDG_DEV in rad. -/
def State.hdgDev (s : State) : Nat := ffrac ((s.efld F.FUS_GATE_HDG_DEV : Nat) * piNum) (1800 * piDen)

/-- Heading sensors, or motion reference units, of a cycle (R140, R141): with three or four valid, one measurement of the
medians, and the slots farther than HDG_DEV from them; with fewer, all of them as they are.  The row of the medians has the
variance and the slot of the first record in queue order (DESIGN CHOICE, log entry 45: R140 says 'of one sensor'). -/
def State.medianRule (s : State) (rs : List (Nat × List FusRow)) : List FusRow × List Nat :=
  match rs with
  | (slot, rows) :: _ =>
    if rs.length < 3 then (rs.flatMap (·.2), [])
    else
      let med := (List.range rows.length).map fun i => fmedian (rs.map fun p => nth ((p.2.map (·.coef)).getD i []) 48)
      let far (p : Nat × List FusRow) : Bool :=
        (List.range rows.length).any fun i => flt s.hdgDev (fabs (fsub (nth ((p.2.map (·.coef)).getD i []) 48) (nth med i)))
      ((rows.zip med).map fun p => { p.1 with coef := setAt p.1.coef 48 p.2, slot := slot }, (rs.filter far).map (·.1))
  | [] => ([], [])

/-- The six standby rows, while the standby unit is valid (R128). -/
def State.standby (s : State) : List FusRow :=
  let other := 57 - s.fus.ins
  if s.insOk other ∧ s.insOk s.fus.ins then
    (s.standbyRows s.fus.ins other).map fun c => mkRow 1 other 7 (0, 0) 0 false 0 c
  else []

/-- The age of an optical return's window. -/
def State.returnAge (s : State) (o : OptReturn) : Nat := (windowAge s.cdr.t0 s.tbase o.time).toNat

/-- The rows of the optical returns that were assigned to bound tracks in the last cycle (R144), and of those of an
abandoned update, late up to 8 cycles (R118). -/
def State.opticalRows (s : State) : List FusRow :=
  (s.fus.optRows.flatMap fun p => (s.returnRows p.1 p.2).map fun c => mkRow 2 p.2.slot 3 (0, 0) 0 false 0 c) ++
    (s.fus.optLate.filter fun p => decide (s.returnAge p.2 ≤ 8)).flatMap fun p =>
      (s.returnRows p.1 p.2).map fun c => mkRow 4 p.2.slot 3 (0, 0) 0 false (s.returnAge p.2) c

/-- The satellites of raw rows: their rows, by receiver slot, satellites of highest C/N0 first. -/
def rawSats (rows : List FusRow) : List (Nat × List FusRow) :=
  let keys := (rows.map fun r => (r.slot, r.sat)).eraseDups
  let sats := keys.map fun k => (k.1, rows.filter fun r => r.slot == k.1 && r.sat == k.2)
  sats.mergeSort fun a b => decide (((b.2.map (·.cn0)).headD 0) ≤ ((a.2.map (·.cn0)).headD 0))

/-- Give the rows left over to the receivers in turn, one satellite at a time (R131). -/
def giveLeft : Nat → Nat → List (Nat × List FusRow) → List Nat → List FusRow
  | 0, _, _, _ => []
  | fuel + 1, left, sats, rxs =>
    match rxs with
    | [] => []
    | rx :: rest =>
      match sats.find? (fun p => p.1 == rx) with
      | none => giveLeft fuel left sats rest
      | some p =>
        if p.2.length ≤ left then
          p.2 ++ giveLeft fuel (left - p.2.length) (sats.erase p) (rest ++ [rx])
        else giveLeft fuel left sats rest

/-- The raw rows that fit into `b` rows; `index` gives a slot's receiver index (R131). -/
def shedRaw (index : Nat → Nat) (b : Nat) (rows : List FusRow) : List FusRow :=
  if rows.length ≤ b then rows
  else
    let sats := rawSats rows
    let rxs := ((rows.map (·.slot)).eraseDups).mergeSort fun a c => decide (index a ≤ index c)
    let share := b / (2 * rxs.length)
    let kept := rxs.flatMap fun rx => (sats.filter fun p => p.1 == rx).take share
    let left := rxs.flatMap fun rx => (sats.filter fun p => p.1 == rx).drop share
    let first := kept.flatMap (·.2)
    first ++ giveLeft 512 (b - first.length) left rxs

/-- The rows of the cycle, in the order of R131, with the slots the median rule rejects, and how many rows were shed. -/
def State.fusRows (s : State) (recs : List (FusRec × Nat)) : List FusRow × List Nat × Nat :=
  let offered := recs.map fun p => (p.1, p.2, s.offerRows p.1 p.2)
  let of (ty : Nat) : List (Nat × List FusRow) :=
    (offered.filter fun p => p.2.1 == 0 && recType p.1.bytes == ty).map fun p => (recSource p.1.bytes, p.2.2)
  let hdg := s.medianRule (of 5)
  let mru := s.medianRule (of 6)
  let plain := offered.filter fun p => measures p.1
  let at0 (k : Nat) : List FusRow := (plain.flatMap (·.2.2)).filter fun r => r.kind == k
  let opt := s.opticalRows
  let late := (at0 4 ++ opt.filter fun r => r.kind == 4).mergeSort fun a b => decide (b.window ≤ a.window)
  let fixed := hdg.1 ++ mru.1 ++ s.standby ++ at0 2 ++ (opt.filter fun r => r.kind == 2) ++ at0 3 ++ late
  let raw := at0 5
  let kept := shedRaw (fun slot => entRx (s.entry slot)) (256 - fixed.length) raw
  ((fixed ++ kept).take 256, hdg.2 ++ mru.2, (fixed.length + raw.length) - (satN 256 (fixed.length + kept.length)))

/-! ### The jobs of the update (R130, R175, R176) -/

/-- The plan slot of a role and index. -/
def State.planSlot (s : State) (role index : Nat) : Option (Nat × PlanEntry) :=
  s.plan.find? fun e => e.2.role == role && e.2.index == index

/-- The structure slot of the KF-QR structures. -/
def kfSlot : Nat := 0
/-- The structure slot of the assignment structure. -/
def lapSlot : Nat := 1

/-- A structure image: header and the bytes after it. -/
def structImage (ty n m nnzA nnzP rho sigma : Nat) (body : List Byte) : List Byte :=
  let size := footprint ty n m nnzA nnzP
  leBytes 4 0 ++ leBytes 1 ty ++ leBytes 3 0 ++ leBytes 2 n ++ leBytes 2 m ++ leBytes 2 nnzA ++ leBytes 2 nnzP ++ leBytes 8 rho ++
    leBytes 8 sigma ++ leBytes 8 0 ++ leBytes 4 0 ++ leBytes 4 size ++ leBytes 16 0 ++ body

/-- The image of a fusion structure: 48 error states, 128 rows. -/
def kfImage : List Byte := structImage 2 48 128 0 0 0 0 Config.kfPrior

/-- The image of the assignment structure: 64 rows. -/
def lapImage : List Byte := structImage 3 64 128 0 0 0 0 []

/-- The identity of a structure image. -/
def imageId (img : List Byte) : Nat := ((readStruct img).map (·.sid)).getD 0

/-- A descriptor of a unit of the device, all else 0. -/
def unitDesc (ty slot eng ss sid cyc : Nat) : JobDesc :=
  ⟨ty, 0, slot, eng, ss, sid, 0, 0, 0, cyc % 2 ^ 32, 0, 0, 0, 0, 0, 0, 0, 0, 0, 0, 0, some [], some [], none⟩

/-- The LOAD of a structure image, without a limit of its own: it runs to its end. -/
def loadDesc (slot eng ss cyc : Nat) (img : List Byte) : JobDesc :=
  { unitDesc 14 slot eng ss 0 cyc with ctrl := 0xC0, dlOfs := 2 ^ 32 - 1, aux := some img }

/-- Has a receiver an enabled source? -/
def State.rxOn (s : State) (rx : Nat) : Bool :=
  (List.range 16).any fun i => let e := s.entry i; entryOn e && entryGnss e && entRx e == rx

/-- Has a relative slot an enabled source? -/
def State.relOn (s : State) (k : Nat) : Bool :=
  (List.range 16).any fun i => let e := s.entry i; entryOn e && entryRel e && fieldLe e 3 1 == k

/-- Is element `k` of the error state, from 1, in use: those of a receiver or a relative slot without an enabled source are
held at zero and take no process noise (R129)? -/
def State.elemOn (s : State) (k : Nat) : Bool :=
  if 22 ≤ k ∧ k ≤ 29 then s.rxOn ((k - 22) / 2)
  else if 30 ≤ k ∧ k ≤ 33 then s.rxOn (k - 30)
  else if 34 ≤ k ∧ k ≤ 41 then s.rxOn ((k - 34) / 2)
  else if 45 ≤ k then s.relOn ((k - 45) / 2)
  else true

/-- The input block of a fusion job: its rows filled up with zero rows, the mask, Φ⁻¹ and the noise variances. -/
def State.kfBlockBytes (s : State) (rows : List FusRow) : List Byte :=
  let coef := rows.map (·.coef) ++ List.replicate (128 - rows.length) (List.replicate 50 0)
  let mask := rows.map (fun r => b2n (!r.masked)) ++ List.replicate (128 - rows.length) 0
  let x := s.fus.nominal.codes
  let phi := (List.range 48).flatMap fun i => (List.range 48).map fun j => (Config.kfPhi x i j).toNat
  let noise := (List.range 48).map fun i => if s.elemOn (i + 1) then (Config.kfNoise x i).toNat else 0
  f64Bytes coef.flatten ++ mask.flatMap (leBytes 1) ++ f64Bytes (phi ++ noise)

/-- σ indices of the pass 2 main job: position N and E, and the attitude error about D. -/
def kfLink : Nat := 0 + 1 * 2 ^ 8 + 8 * 2 ^ 16

/-- Post the two jobs of a pass (R130). -/
def State.postPass (s : State) (second : Bool) : State :=
  match s.planSlot 1 0, s.planSlot 1 1 with
  | some p0, some p1 =>
    let sid := imageId kfImage
    let base := 8 * b2n (s.fus.propFirst && !second) + 16 * b2n second
    let d (p : Nat × PlanEntry) (mate : Nat) (main : Bool) (rows : List FusRow) : JobDesc :=
      { unitDesc 2 p.1 p.2.eng kfSlot sid s.cdr.cyc with
        ctrl := base + 32 * b2n (second && !main), partner := mate, link := if second && main then kfLink else 0
        aux := some (s.kfBlockBytes rows) }
    let load (t : State) : State :=
      if t.fus.ready then t
      else
        let a := t.postJob (.fusion 0) (loadDesc p0.1 p0.2.eng kfSlot s.cdr.cyc kfImage) none
        (a.postJob (.fusion 1) (loadDesc p1.1 p1.2.eng kfSlot s.cdr.cyc kfImage) none).modFus fun f => { f with ready := true }
    let a := (load s).modFus fun f => { f with pass := if second then .second 2 else .first 2 }
    let b := a.postJob (.fusion 0) (d p0 p1.2.eng true (s.fus.rows.take 128)) none
    b.postJob (.fusion 1) (d p1 p0.2.eng false (s.fus.rows.drop 128)) none
  | _, _ => s.modFus fun f => { f with pass := .none }

/-- Wind of the cycle (R142): the published vector, and whether two sensors disagree.  Of two sensors of which none or both
are marked preferred, that of the lower slot is published (log entry 45). -/
def State.windOf (s : State) (recs : List FusRec) : Option (Nat × Nat) × Bool :=
  let vs := recs.map fun r =>
    let e := s.entry (recSource r.bytes)
    (bitAt (fieldLe e 2 1) 2, windVector r.bytes e)
  let dir (v : Bool × Nat × Nat) : Nat := fatan2 v.2.2 v.2.1
  let spd (v : Bool × Nat × Nat) : Nat := hypot v.2.1 v.2.2
  match vs with
  | [] => (none, false)
  | [a] => (some a.2, false)
  | [a, b] =>
    let w := if b.1 && !a.1 then b else a
    (some w.2, flt (fint 3) (fabs (fsub (spd a) (spd b))) || flt (ffrac piNum (9 * piDen)) (fabs (angleDiff (dir a) (dir b))))
  | _ => (some (fmedian (vs.map (·.2.1)), fmedian (vs.map (·.2.2))), false)

/-- Records in the order of their slots. -/
def bySlot (rs : List FusRec) : List FusRec := rs.mergeSort fun a b => decide (recSource a.bytes ≤ recSource b.bytes)

/-- The newest riser record of those sorted, if it is newer than the one published (R146). -/
def State.newRiser (s : State) (recs : List FusRec) : Option FusRec :=
  let newest := (recs.filter fun r => recType r.bytes == 9).mergeSort fun a b => decide (s.measTime b.bytes ≤ s.measTime a.bytes)
  match newest.head?, s.fus.riserPub with
  | some r, some t => if t < s.measTime r.bytes then some r else none
  | r, _ => r

/-- What needs no update: wind of the cycle, and the newest riser angles, late ones too (R142, R146).  A cycle that brings no wind record
leaves WIND_VALID 0 in its state record (DESIGN CHOICE, log entry 45). -/
def State.fusAux (s : State) (recs late : List FusRec) : State :=
  let ty (t : Nat) : List FusRec := bySlot (recs.filter fun r => recType r.bytes == t)
  let w := s.windOf (ty 8)
  let riser := s.newRiser (recs ++ late)
  let a := s.modFus fun f => { f with
    wind := w.1.map fun v => (hypot v.1 v.2, fatan2 v.2 v.1)
    riserPub := (riser.map fun r => s.measTime r.bytes).or f.riserPub
    riser := match riser with
      | none => f.riser
      | some r => riserEarth r.bytes (s.entry (recSource r.bytes)) (s.nominalOn (s.measTime r.bytes)) }
  let b := a.setTo F.FUS_STATUS_WIND_DISAGREE w.2
  forEach (List.range 4) (fun i (t : State) =>
    t.setSlot (24 + i) (if (ty 8).any (fun r => recSource r.bytes == 24 + i) then rsUsed else rsOff)) b

/-- Heave of the selected motion reference unit, the first whose record is on time and that the cycle's selection has not
rejected (R141). -/
def State.heaveTake (s : State) : State :=
  let ok := s.fus.mrus.filter fun r => s.fld (slotFld (recSource r)) != rsRejected && s.fld (slotFld (recSource r)) != rsSuspect
  match ok.mergeSort fun a b => decide (recSource a ≤ recSource b) with
  | [] => s
  | r :: _ => s.modFus fun f => { f with heave := heaveAtCo r (s.entry (recSource r)) (s.nominalOn (s.measTime r)) }

/-- The first state (R147): a heading, and a position from the lowest-numbered absolute reference with data.  With no state to test a
heading against, any on-time heading record is one under R140 (DESIGN CHOICE, log entry 45). -/
def State.fusAlign (s : State) (recs : List FusRec) : State :=
  let hdg := bySlot (recs.filter fun r => recType r.bytes == 5)
  let pos := bySlot (recs.filter fun r => [1, 2, 10].contains (recType r.bytes) && !entryRel (s.entry (recSource r.bytes)))
  match hdg, pos with
  | _ :: _, p :: _ =>
    let c := codes (Config.fusInit (hdg.map fun h => (h.bytes, s.entry (recSource h.bytes))) p.bytes (s.entry (recSource p.bytes)) s.datum)
    let x := Nominal.ofCodes s.cdr.t0 c
    (s.modFus fun f => { f with nominal := x, history := [x] }).fsGo fsAligning
  | _, _ => s

/-- The relative offset N, E at which a record agrees with the state (R147). -/
def State.firstOffset (s : State) (r : List Byte) : Nat × Nat :=
  let x := s.nominalOn (s.measTime r)
  if recType r = 3 then
    let o := Config.relOffset r (s.entry (recSource r)) x.codes
    (o.1.toNat, o.2.toNat)
  else
    let rows := s.plainRows r
    (nth (rows.getD 0 []) 48, nth (rows.getD 1 []) 48)

/-- The first measurement of a relative reference after INIT sets its offset so that it agrees (R147): its innovation against
an offset of 0 becomes the offset. -/
def State.relFirst (r : FusRec) (s : State) : State :=
  let e := s.entry (recSource r.bytes)
  let k := fieldLe e 3 1
  if !entryRel e || decide (1 < k) || (s.fus.relSet[k]?).getD true then s
  else
    let z := s.modFus fun f => { f with
      relSet := setAt f.relSet k true, bias := setAt (setAt f.bias (35 + 2 * k) 0) (36 + 2 * k) 0 }
    let o := z.firstOffset r.bytes
    z.modFus fun f => { f with bias := setAt (setAt f.bias (35 + 2 * k) o.1) (36 + 2 * k) o.2 }

/-- The states of heading sensors or motion reference units with data, three or more: rejected are those far from the
median (R140, R141). -/
def State.medianStates (s : State) (recs : List FusRec) (far : List Nat) : State :=
  let f (ty : Nat) (t : State) : State :=
    let slots := (recs.filter fun r => recType r.bytes == ty).map fun r => recSource r.bytes
    if slots.length < 3 then t
    else forEach slots (fun slot (u : State) => u.setSlot slot (if far.contains slot then rsRejected else rsUsed)) t
  f 6 (f 5 s)

/-- INTAKE_CL: sort, and post the update (R115, R130).  The cycle's inertial records are taken for its standby rows, also
those that came after its last tick (R128); a later cycle's are held. -/
def State.fusIntakeCl (s : State) : State :=
  if s.fstate = fsOff then s
  else
    let p := (s.takeIncs s.cdr.t0 s.cdr.t0).fusSort
    let now := (p.1.filter fun r => r.2 == 0).map (·.1)
    let late := (p.1.filter fun r => r.2 != 0).map (·.1)
    let a := p.2.fusAux now late
    if a.fstate = fsInit then a.fusAlign now
    else
      let gone := a.fus.optLate.filter fun p => decide (8 < a.returnAge p.2)
      let a0 := forEach gone (fun p t => (t.bump (srcFld F.FUS_SRC_CNT_STALE p.2.slot) 1).setTo F.FUS_STATUS_LATE_DROP true) a
      let a1 := forEach now State.relFirst a0
      let r := a1.fusRows p.1
      let b := a1.modFus fun f => { f with
        rows := r.1, shed := r.2.2, due := true
        optUsed := f.optLate.filter (fun p => decide (a1.returnAge p.2 ≤ 8)) ++ f.optRows, optRows := [], optLate := [] }
      let c := if 0 < r.2.2 then b.setTo F.FUS_STATUS_ROWS_SHED true else b
      (c.medianStates now r.2.1).postPass false

/-! ### Gating and voting (R133 to R140) -/

/-- GATE_ROW as a number of σ. -/
def State.gateRow (s : State) : Nat := ffrac (s.efld F.FUS_GATE_GATE_ROW : Nat) 16

/-- PFA's code, 0b11 as 0b01. -/
def State.pfa (s : State) : Nat := let p := s.efld F.FUS_GATE_PFA; if p = 3 then 1 else p

/-- G_k at a PFA code (R134): the values the spec tables, and the quantile computed to a hundredth for the other k (DESIGN
CHOICE, log entry 7: the spec does not give the digits the device holds). -/
def gateG (k pfa : Nat) : Nat :=
  let row : List Nat := match k with
    | 1 => [663, 1083, 1514]
    | 2 => [921, 1382, 1842]
    | 3 => [1134, 1627, 2111]
    | 18 => [3481, 4231, 4827]
    | _ => []
  ffrac ((row[pfa]?).getD (chiHundredths k pfa) : Nat) 100

/-- The propagated factor U that pass 1 tested the rows against: that of the main engine's structure. -/
def State.fusFactor (s : State) : List Nat :=
  match s.planSlot 1 0 with
  | some p => ((s.struct? p.2.eng kfSlot).map fun st => st.a 0).getD []
  | none => []

/-- The covariance S = H P Hᵀ + R of the innovations of a set of rows, with P from the factor (R134). -/
def State.innovCov (s : State) (rows : List FusRow) : List (List Nat) :=
  let ut := transpose 48 (matRows 48 s.fusFactor)
  let ws := rows.map fun r => lowerSolve dotN ut (r.coef.take 48)
  ws.zipIdx.map fun a => ws.zipIdx.map fun b =>
    dotN ((a.1.zip b.1) ++ if a.2 = b.2 then
      let sg := nth ((rows.map (·.coef)).getD a.2 []) 49
      [(sg, sg)] else [])

/-- vᵀ S⁻¹ v; not a number where S is not positive. -/
def quadForm (cov : List (List Nat)) (v : List Nat) : Nat :=
  match cholesky dotN v.length cov with
  | none => fmt64.nan
  | some l => let y := lowerSolve dotN l v; vdot y y

/-- d² = innovationᵀ S⁻¹ innovation of a set of rows (R134). -/
def State.dSquared (s : State) (rows : List FusRow) : Nat := quadForm (s.innovCov rows) (rows.map (·.innov.1))

/-- n of a set of rows (R134): √(d² ÷ G_k). -/
def State.refN (s : State) (rows : List FusRow) : Nat := fsqrt (fdiv (s.dSquared rows) (gateG rows.length s.pfa))

/-- Does n pass? -/
def passes (n : Nat) : Bool := fle n one

/-- Mask the rows `p` names. -/
def maskRows (rows : List FusRow) (p : FusRow → Bool) : List FusRow := rows.map fun r => if p r then { r with masked := true } else r

/-- Is a row of a satellite of a receiver? -/
def FusRow.isSat (r : FusRow) (slot : Nat) (sat : Nat × Nat) : Bool := r.ty == 1 && r.slot == slot && r.sat == sat

/-- The unmasked rows of a reference: slot and record type, on time and late (R134: it is tested as a whole). -/
def refRows (rows : List FusRow) (slot ty : Nat) : List FusRow :=
  rows.filter fun r => r.slot == slot && r.ty == ty && !r.masked

/-- The satellite of largest |ν| among rows. -/
def worstSat : List FusRow → Option (Nat × Nat)
  | [] => none
  | r :: rs => some (rs.foldl (fun w c => if flt (fabs w.innov.2.2) (fabs c.innov.2.2) then c else w) r).sat

/-- Remove satellites of a receiver one at a time until it passes, at most `k`; the satellites removed, and whether it
passes (R135). -/
def State.prune (s : State) (slot : Nat) : Nat → List FusRow → List FusRow × List (Nat × Nat) × Bool
  | 0, rows => (rows, [], passes (s.refN (refRows rows slot 1)))
  | k + 1, rows =>
    let live := refRows rows slot 1
    if live.isEmpty ∨ passes (s.refN live) then (rows, [], true)
    else match worstSat live with
      | none => (rows, [], true)
      | some w =>
        let r := s.prune slot k (maskRows rows fun x => x.isSat slot w)
        (r.1, w :: r.2.1, r.2.2)

/-- Count the satellites excluded in this cycle: three in a row exclude for SAT_EXCL_CYC cycles (R133); EV055. -/
def State.countSats (s : State) (out : List (Nat × Nat × Nat)) : State :=
  let keep := s.fus.sats.filterMap fun x =>
    if x.long then some x
    else if out.contains (x.slot, x.sys, x.svid) then some { x with run := x.run + 1 } else none
  let new := (out.filter fun o => !(s.fus.sats.any fun x => x.slot == o.1 && x.sys == o.2.1 && x.svid == o.2.2)).map fun o =>
    (⟨o.1, o.2.1, o.2.2, 1, false, 0⟩ : SatExcl)
  let all := (keep ++ new).map fun x =>
    if !x.long && decide (3 ≤ x.run) then { x with long := true, left := s.efld F.FUS_LIMITS_SAT_EXCL_CYC + 1 } else x
  let fresh := (all.filter fun x => x.long && !(s.fus.sats.any fun y => y.long && y.slot == x.slot && y.sys == x.sys && y.svid == x.svid)).length
  forEach (List.range fresh) (fun _ (t : State) => t.raise 55 sevInfo srcFus) (s.modFus fun f => { f with sats := all })

/-- A satellite's exclusion ends when SAT_EXCL_CYC cycles have passed (R133). -/
def State.satBack (s : State) (slot sys svid : Nat) : State :=
  s.modFus fun f => { f with sats := f.sats.filter fun x => !(x.long && x.left == 0 && x.slot == slot && x.sys == sys && x.svid == svid) }

def execSatExclExpiry (slot : Fin 16) (sys svid : Byte) (s : State) : Host.Outcome State Fault Refusal :=
  s.gate 9 <| .next (s.satBack slot.val sys.toNat svid.toNat)

/-- A reference with data: slot, record type, class, n, and whether it takes part in the vote. -/
structure RefSeen where
  /-- Slot. -/
  slot : Nat
  /-- Record type. -/
  ty : Nat
  /-- Class (R109). -/
  cls : Nat
  /-- Normalised innovation. -/
  n : Nat
  deriving DecidableEq, Repr

/-- What the vote says of a class: of its members of least n, and of the others that pass. -/
inductive ClassVote where
  /-- Used. -/
  | use
  /-- Rejected. -/
  | reject
  /-- SUSPECT. -/
  | suspect
  deriving DecidableEq, Repr

/-- The class of a record type (R109). -/
def classOf (ty : Nat) : Nat := if ty = 3 then 1 else if ty = 4 then 2 else if ty = 10 then 3 else 0

/-- The least n of a class. -/
def classN (refs : List RefSeen) (c : Nat) : Nat :=
  match (refs.filter fun r => r.cls == c).map (·.n) with
  | [] => 0
  | n :: ns => ns.foldl fmin n

/-- The subsets of a list. -/
def subsets : List Nat → List (List Nat)
  | [] => [[]]
  | c :: cs => (subsets cs).flatMap fun t => [c :: t, t]

/-- Does every pair of a set of classes agree? -/
def agreeAll (agree : Nat → Nat → Bool) : List Nat → Bool
  | [] => true
  | c :: cs => cs.all (agree c) && agreeAll agree cs

/-- The two-reference rule (R137): n of one and of the other, RATIO. -/
def twoRule (ratio a b : Nat) : ClassVote × ClassVote :=
  let beats (x y : Nat) : Bool := passes x && !passes y && fle (fmul ratio x) y
  if beats a b then (.use, .reject) else if beats b a then (.reject, .use) else (.suspect, .suspect)

/-- The vote of R137 over the classes taking part; `agree` tests a pair of classes. -/
def voteClasses (ratio : Nat) (agree : Nat → Nat → Bool) (refs : List RefSeen) : List (Nat × ClassVote) :=
  let cs := ((refs.map (·.cls)).eraseDups).mergeSort fun a b => decide (a ≤ b)
  match cs with
  | [] => []
  | [c] => [(c, if passes (classN refs c) then .use else .reject)]
  | [a, b] => let v := twoRule ratio (classN refs a) (classN refs b); [(a, v.1), (b, v.2)]
  | _ =>
    if cs.any fun c => passes (classN refs c) then cs.map fun c => (c, if passes (classN refs c) then .use else .reject)
    else
      let sets := (subsets cs).filter fun t => decide (2 ≤ t.length) && agreeAll agree t
      let top := sets.foldl (fun m t => Nat.max m t.length) 0
      match sets.filter fun t => t.length == top with
      | [t] => cs.map fun c => (c, if t.contains c then .use else .reject)
      | _ => cs.map fun c => (c, .suspect)

/-- RATIO as a number. -/
def State.ratio (s : State) : Nat := ffrac (s.efld F.FUS_GATE_RATIO : Nat) 16

/-- The state a slot takes from its verdicts, and its count of qualifying cycles (R138). -/
def slotNext (prev qual : Nat) (good suspect : Bool) : Nat × Nat :=
  if good then
    if qual = 0 then (rsUsed, 0) else (if prev = rsOff then rsRejected else prev, satN 11 (qual + 1))
  else (if suspect then rsSuspect else rsRejected, 1)

/-- The row pair N, E by which a class measures a position, where it has one pair alone. -/
def nePair (rows : List FusRow) : Option (List FusRow) :=
  let along (i : Nat) : List FusRow := rows.filter fun r => r.ty != 1 && r.coef.take 3 == axis i
  match along 0, along 1 with
  | [n], [e] => some [n, e]
  | _, _ => none

/-- n of the difference of two classes, tested with the summed covariance (R137).  Each innovation is a measured position of
CO less the same predicted one, so that of a pair N, E the positions differ as the innovations do; k is 2.  Where a class has
no single pair, no rule says what its difference is, and n is open (log entry 7). -/
def State.pairN (s : State) (a b : List FusRow) : Nat :=
  match nePair a, nePair b with
  | some p, some q =>
    let d := (p.zip q).map fun x => fsub x.1.innov.1 x.2.innov.1
    let cov := ((s.innovCov p).zip (s.innovCov q)).map fun r => (r.1.zip r.2).map fun x => fadd x.1 x.2
    fsqrt (fdiv (quadForm cov d) (gateG 2 s.pfa))
  | _, _ =>
    let plain (rows : List FusRow) : List (List Nat × Nat × Nat) := rows.map fun x => (x.coef, x.innov.1, x.innov.2.1)
    (Config.pairN (plain a) (plain b)).toNat

/-- The position references of a cycle: verdicts, slot states, and the rows that stay (R137, R138).  The verdict of a class
holds for its members of least n and for those that pass; the others are rejected one by one.  A slot with data whose rows
were all masked before the vote (a taut wire for its geometry, R136) is REJECTED and must qualify, and a receiver's rows and its fix,
two references by R135, share their slot's one state and one qualifying count (DESIGN CHOICE, log entry 45). -/
def State.voteRefs (s : State) (failed : List Nat) : State :=
  let rows := s.fus.rows
  let keys := ((rows.filter fun r => decide (r.slot < 16)).map fun r => (r.slot, r.ty)).eraseDups
  let seen := keys.filterMap fun k =>
    let live := refRows rows k.1 k.2
    if live.isEmpty || (k.2 == 1 && failed.contains k.1) then none
    else some (⟨k.1, k.2, classOf k.2, s.refN live⟩ : RefSeen)
  let speaks (r : RefSeen) : Bool := passes r.n || r.n == classN seen r.cls
  let ofClass (c : Nat) : List FusRow :=
    (seen.filter fun r => r.cls == c && r.n == classN seen c).flatMap fun r => refRows rows r.slot r.ty
  let votes := voteClasses s.ratio (fun a b => passes (s.pairN (ofClass a) (ofClass b))) seen
  let voteOf (c : Nat) : ClassVote := ((votes.find? fun v => v.1 == c).map (·.2)).getD .reject
  let good (slot : Nat) : Bool := seen.any fun r => r.slot == slot && voteOf r.cls == .use && speaks r
  let susp (slot : Nat) : Bool := seen.any fun r => r.slot == slot && voteOf r.cls == .suspect && speaks r
  let slots := (keys.map (·.1)).eraseDups
  let a := forEach (List.range 16) (fun slot (t : State) =>
    if slots.contains slot then
      let n := slotNext (t.fld (slotFld slot)) (nth t.fus.qual slot) (good slot) (susp slot)
      (t.setSlot slot n.1).modFus fun f => { f with qual := setAt f.qual slot n.2 }
    else (t.setSlot slot rsOff).modFus fun f => { f with qual := setAt f.qual slot (satN 1 (nth f.qual slot)) }) s
  let used (r : FusRow) : Bool :=
    nth a.fus.qual r.slot == 0 && a.fld (slotFld r.slot) == rsUsed &&
      seen.any fun q => q.slot == r.slot && q.ty == r.ty && voteOf q.cls == .use && speaks q
  a.modFus fun f => { f with rows := maskRows f.rows fun r => decide (r.slot < 16) && !used r }

/-- A reference has qualified for 10 cycles (R138). -/
def State.requalify (s : State) (slot : Nat) : State :=
  if 11 ≤ nth s.fus.qual slot then
    (s.modFus fun f => { f with qual := setAt f.qual slot 0 }).setSlot slot rsUsed
  else s

def execReferenceRequalify (slot : Fin 16) (s : State) : Host.Outcome State Fault Refusal :=
  s.gate 9 <| .next (s.requalify slot.val)

/-- Heading sensors or motion reference units with two or one valid: the two-reference rule, or their own n (R140). -/
def State.voteAux (s : State) (ty first : Nat) : State :=
  let rows := s.fus.rows.filter fun r => r.ty == ty && r.kind == 0
  let slots := (rows.map (·.slot)).eraseDups
  let n (slot : Nat) : Nat := s.refN (rows.filter fun r => r.slot == slot)
  let code (v : ClassVote) : Nat := match v with | .use => rsUsed | .reject => rsRejected | .suspect => rsSuspect
  let have' := (s.fus.used.filter fun r => recType r.bytes == ty && windowAge s.cdr.t0 s.tbase (s.measTime r.bytes) == 0).map
    fun r => recSource r.bytes
  let set (vs : List (Nat × Nat)) : State :=
    let a := forEach vs (fun v (t : State) => t.setSlot v.1 v.2) s
    a.modFus fun f => { f with rows := maskRows f.rows fun r =>
      r.ty == ty && r.kind == 0 && (vs.any fun v => v.1 == r.slot && v.2 != rsUsed) }
  let b := if 3 ≤ have'.length then s
    else match slots with
      | [a] => set [(a, if passes (n a) then rsUsed else rsRejected)]
      | [a, c] => let v := twoRule s.ratio (n a) (n c); set [(a, code v.1), (c, code v.2)]
      | _ => s
  forEach (List.range 4) (fun i (t : State) => if have'.contains (first + i) then t else t.setSlot (first + i) rsOff) b

/-- Taut wires whose measured length does not fit their angles: the pair of that slot and window is masked (R136). -/
def State.tautMask (s : State) : State :=
  let bad := (s.fus.used.filter fun r => recType r.bytes == 4).filter fun r =>
    let e := s.entry (recSource r.bytes)
    let want := tautLength r.bytes e (s.nominalOn (s.measTime r.bytes))
    flt (entParam e 1) (fabs (fsub (f32At r.bytes 24) want))
  let keys := bad.map fun r => (recSource r.bytes, (windowAge s.cdr.t0 s.tbase (s.measTime r.bytes)).toNat)
  s.modFus fun f => { f with rows := maskRows f.rows fun r => r.ty == 4 && keys.contains (r.slot, r.window) }

/-- REF_COAST_LIMIT; 0 is taken as 1. -/
def State.coastLimit (s : State) : Nat := let l := s.efld F.FUS_LIMITS_REF_COAST_LIMIT; if l = 0 then 1 else l

/-- The coast count has reached REF_COAST_LIMIT (R139, R147). -/
def State.coastOut (s : State) : State :=
  if s.coastLimit ≤ s.fld F.FUS_COAST_CNT_COUNT ∧ !s.on F.FUS_STATUS_REF_DEGRADED then
    let a := (s.setTo F.FUS_STATUS_REF_DEGRADED true).raise 50 sevAlarm srcFus
    if a.fstate = fsRun then a.fsGo fsCoast else a
  else s

/-- FUS_COAST_CNT moves for the cycle, before its record is formed: at REF_COAST_LIMIT REF_DEGRADED is set (R139); a
contribution clears it and ends COAST (R147). -/
def State.coastCount (s : State) : State :=
  if s.fus.contributed then
    let a := s.wrn Reg.FUS_COAST_CNT 0
    let b := if a.fstate = fsCoast then a.fsGo fsRun else a
    if b.on F.FUS_STATUS_REF_DEGRADED then (b.setTo F.FUS_STATUS_REF_DEGRADED false).raise 50 sevAlarm srcFus else b
  else (s.bump F.FUS_COAST_CNT_COUNT 1).coastOut

def execRefCoastLimit (s : State) : Host.Outcome State Fault Refusal :=
  s.gate 9 <| .next s.coastOut

/-- Both pass 1 results are in: gate, vote, and post pass 2 with the masks (R130, R133 to R140).  Late rows of a heading sensor
or motion reference unit are gated one row at a time against G_1 (log entry 45). -/
def State.rowMasks (s : State) : State :=
  let g := s.gateRow
  let rows := s.fus.rows
  let gated := (rows.filter fun r => r.ty == 1 && r.range && flt g (fabs r.innov.2.2)).map fun r => (r.slot, r.sat)
  let a := s.modFus fun f => { f with rows := maskRows f.rows fun r => r.ty == 1 && gated.contains (r.slot, r.sat) }
  let rxs := ((rows.filter fun r => r.ty == 1).map (·.slot)).eraseDups
  let step (acc : List FusRow × List (Nat × Nat × Nat) × List Nat) (rx : Nat) : List FusRow × List (Nat × Nat × Nat) × List Nat :=
    let p := a.prune rx 4 acc.1
    let rows' := if p.2.2 then p.1 else maskRows p.1 fun r => r.ty == 1 && r.slot == rx
    (rows', acc.2.1 ++ p.2.1.map fun w => (rx, w.1, w.2), if p.2.2 then acc.2.2 else acc.2.2 ++ [rx])
  let r := rxs.foldl step (a.fus.rows, gated.eraseDups.map (fun k => (k.1, k.2.1, k.2.2)), [])
  let b := (a.modFus fun f => { f with rows := r.1 }).countSats r.2.1
  let c := (b.tautMask.voteRefs r.2.2).voteAux 5 16
  let d := c.voteAux 6 20
  let late := maskRows d.fus.rows fun x => x.kind == 4 && decide (16 ≤ x.slot) && !passes (d.refN [x])
  let e := d.modFus fun f => { f with rows := late, contributed := late.any fun x => decide (x.slot < 16) && !x.masked }
  let u := (e.fus.rows.filter fun x => !x.masked).length
  ((e.put F.FUS_ROWS_USED u).putSat F.FUS_ROWS_SHED e.fus.shed).postPass true

/-- A pass 1 result (R130): innovation, variance and ν of its rows. -/
def State.pass1Result (s : State) (which : Nat) (r : JobRes) : State :=
  match s.fus.pass with
  | .first left =>
    if r.status ≠ stDone then
      s.modFus fun f => { f with pass := .none, ready := if r.status = stMismatch then false else f.ready }
    else
      let v (i : Nat) : Nat × Nat × Nat :=
        let o := f64sAt r.payload (24 * i) 3
        (nth o 0, nth o 1, nth o 2)
      let put (p : FusRow × Nat) : FusRow :=
        if p.2 / 128 = which then { p.1 with innov := v (p.2 % 128) } else p.1
      let a := s.modFus fun f => { f with rows := f.rows.zipIdx.map put, pass := .first (left - 1) }
      if left ≤ 1 then a.rowMasks else a
  | _ => s

/-! ### Publication (R118, R119, R139, R150) -/

/-- float32 bytes of a binary64 code. -/
def f32b (x : Nat) : List Byte := leBytes 4 (f64to32 x)

/-- Bytes 0 to 251 of the state record (R150).  COASTING shows FSTATE COAST, WIND_VALID that the cycle's own window brought a wind
record, and the counts of rows are those of the last update, also where this cycle has none (DESIGN CHOICE, log entry 45). -/
def State.stateRecord (s : State) (updated : Bool) : List Byte :=
  let f := s.fus
  let x := s.nominalAt s.cdr.t0
  let uv := bodyVelocity x
  let w := f.wind.getD (0, 0)
  let f32s (v : List Nat) (n : Nat) : List Byte := (slice v 0 n).flatMap f32b
  let flags := b2n updated + 2 * b2n s.aligned? + 4 * b2n (decide (s.fstate = fsCoast)) + 8 * b2n (s.on F.FUS_STATUS_REF_DEGRADED) +
    16 * b2n f.datumNew + 32 * b2n (s.on F.FUS_STATUS_INS_LOST) + 64 * b2n (s.on F.FUS_STATUS_RISER_VALID) + 128 * b2n f.wind.isSome
  leBytes 8 s.cdr.cyc ++ leBytes 8 s.cdr.t0 ++ (slice x.pos 0 3).flatMap (leBytes 8) ++ f32s x.vel 3 ++ leBytes 8 (fturn (nth x.att 0)) ++
    f32b (nth x.att 1) ++ f32b (nth x.att 2) ++ f32s x.rate 3 ++ f32b f.heave.1 ++ f32b f.heave.2 ++ f32b uv.1 ++ f32b uv.2 ++
    leBytes 4 0 ++ f32s (slice f.bias 32 3) 3 ++ f32b w.1 ++ f32b w.2 ++ f32s f.sigma 3 ++
    leBytes 4 (s.rdn Reg.FUS_REF_STATE) ++ leBytes 4 (s.rdn Reg.FUS_AUX_STATE) ++ leBytes 4 flags ++ f32s f.riser 4 ++
    leBytes 2 (s.fld F.FUS_ROWS_USED) ++ leBytes 2 (s.fld F.FUS_ROWS_SHED) ++ leBytes 4 (s.rdn Reg.FUS_COAST_CNT) ++ leBytes 84 0

/-- Publish the state record of the cycle: one per base cycle (R118).  Its two buffers in shared SRAM take it in turn, at addresses no
rule gives, and the window shows the one published last (R150; the places are DESIGN CHOICE, log entry 7). -/
def State.publish (s : State) (updated : Bool) : State :=
  let c := s.coastCount.heaveTake
  let r := c.stateRecord updated
  let bs := r ++ leBytes 4 (crc32c r)
  let a := (c.wrWords 0x63000 (wordsOf 64 bs)).sramWrite ((Config.stateRecordAt c.fus.recB) % (2 ^ 24 - 255)) bs
  (a.modFus fun f => { f with published := true, recB := !f.recB, pubCyc := s.cdr.cyc }).wrn Reg.FUS_STATE_CYC_LO s.cdr.cyc

/-- A correction added to a stored state `dt` ns after t_n: position moves with the velocity correction (R119). -/
def correctState (corr : List Nat) (t0 : Nat) (x : Nominal) : Nominal :=
  let dt := ffrac (((x.time : Int) - (t0 : Int))) 1000000000
  let pos := (List.range 3).map fun i => dotN [(one, nth x.pos i), (one, nth corr i), (nth corr (3 + i), dt)]
  let vel := (List.range 3).map fun i => fadd (nth x.vel i) (nth corr (3 + i))
  { x with pos := pos, vel := vel, att := attOf (mulMM (rotExp (slice corr 6 3)) x.cnb) }

/-- The pass 2 main result: the correction is applied and the record published (R118, R119).  σ of horizontal position is the
root of the sum of the squares of σ North and σ East (DESIGN CHOICE, log entry 45: R147 does not say how they make one). -/
def State.pass2Result (s : State) (r : JobRes) : State :=
  match s.fus.pass with
  | .second _ =>
    if r.status ≠ stDone ∨ s.fus.published then s.modFus fun f => { f with pass := .none }
    else
      let corr := f64sAt r.payload 0 48
      let t0 := s.cdr.t0
      let fix (x : Nominal) : Nominal := if t0 ≤ x.time then correctState corr t0 x else x
      let a := s.modFus fun f => { f with
        nominal := fix f.nominal, history := f.history.map fix
        bias := (List.range 39).map fun i => if s.elemOn (10 + i) then fadd (nth f.bias i) (nth corr (9 + i)) else 0
        sigma := f64sAt r.payload (8 * 48) 3, pass := .none, propFirst := false, used := [], optUsed := [], updates := f.updates + 1 }
      let okPos := fle (hypot (nth a.fus.sigma 0) (nth a.fus.sigma 1)) one
      let okHdg := fle (nth a.fus.sigma 2) (ffrac piNum (360 * piDen))
      let b := if a.fstate = fsAligning ∧ okPos ∧ okHdg ∧ 100 ≤ a.fus.updates then a.fsGo fsRun else a
      b.publish true
  | _ => s

/-- FUSION_DL: an update that has not completed is abandoned, and its measurements become late samples (R118). -/
def State.fusDeadline (s : State) : State :=
  if s.fstate = fsOff ∨ s.fus.published then s
  else if !s.fus.due then s.publish false
  else
    let a := s.modFus fun f => { f with
      queue := f.queue ++ f.used, used := [], optLate := f.optUsed, optUsed := [], pass := .none, rows := [], propFirst := true, contributed := false }
    (((a.setTo F.FUS_STATUS_UPDATE_MISSED true).raise 48 sevWarn srcFus).showIntake).publish false

/-! ### Optical targets (R143 to R145) -/

/-- The returns of the cycle's optical scans as earth-frame points (R143), those on time before those of late scans; of more
than 64, the first 64 (log entry 45). -/
def State.optReturns (s : State) : List OptReturn :=
  let x := s.nominalAt s.cdr.t0
  (s.fus.scans.flatMap fun r => (List.range (fieldLe r.bytes 16 1)).map fun k =>
    let raw := (List.range 4).map fun i => w32 (fieldLe r.bytes (32 + 16 * k + 4 * i) 4)
    let e := s.entry (recSource r.bytes)
    let p := returnPoint raw e x
    (⟨recSource r.bytes, s.measTime r.bytes, (nth p 0, nth p 1), slice (codes (Config.returnCov raw e x.codes)) 0 3, raw,
      (w32 (fieldLe r.bytes 20 4), w32 (fieldLe r.bytes 24 4))⟩ : OptReturn)).take 64

/-- TRK_GATE as a number. -/
def State.trkGate (s : State) : Nat := ffrac (s.efld F.FUS_TRK_CFG_TRK_GATE : Nat) 16

/-- The cost that forbids a pair. -/
def costForbid : Nat := fint 1000000000

/-- A track's predicted position and covariance in the cycle: N, E, NN, NE, EE (R143). -/
def Track.predict (t : Track) : List Nat := slice (codes (Config.trackPredict ([t.pos.1, t.pos.2] ++ t.cov))) 0 5

/-- The cost of a return against a track (R143): the squared horizontal distance normalised by the summed covariance. -/
def trackCost (r : OptReturn) (t : Track) : Nat :=
  let p := t.predict
  let dx := fsub r.pos.1 (nth p 0)
  let dy := fsub r.pos.2 (nth p 1)
  let c (i : Nat) : Nat := fadd (nth p (2 + i)) (nth r.cov i)
  let det := dotN [(c 0, c 2), (fneg (c 1), c 1)]
  fdiv (dotN [(fmul (c 2) dx, dx), (fmul (fmul (fint (-2)) (c 1)) dx, dy), (fmul (c 0) dy, dy)]) det

/-- The cost matrix (R143), spare rows as R177 says. -/
def State.costMatrix (s : State) (rets : List OptReturn) : List Nat :=
  let g := s.trkGate
  (List.range 64).flatMap fun i => (List.range 128).map fun j =>
    match rets[i]? with
    | none => if j = 64 + i then 0 else costForbid
    | some r =>
      if j < 64 then
        match s.fus.tracks.find? fun t => t.num == j with
        | none => costForbid
        | some t => let c := trackCost r t; if flt g c then costForbid else c
      else if j = 64 + i then g else costForbid

/-- Post the assignment job (R144). -/
def State.lapPost (s : State) : State :=
  match s.planSlot 4 0 with
  | none => s
  | some p =>
    if s.fstate = fsOff ∨ s.fstate = fsInit then s
    else
      let rets := s.optReturns
      let sh := Config.lapShape
      let d : JobDesc := { unitDesc 3 p.1 p.2.eng lapSlot (imageId lapImage) s.cdr.cyc with
        ctrl := 0x40, countA := 1 + sh.1 % 8, countB := 1 + sh.2.1 % 64, param0 := sh.2.2, aux := some (f64Bytes (s.costMatrix rets)) }
      let a := if s.fus.lapReady then s
        else (s.postJob .assign (loadDesc p.1 p.2.eng lapSlot s.cdr.cyc lapImage) none).modFus fun f => { f with lapReady := true }
      (a.modFus fun f => { f with returns := rets }).postJob .assign d none

/-- Show the counts of tracks. -/
def State.showTracks (s : State) : State :=
  let t := s.fus.tracks
  let a := s.put F.FUS_TRK_STATUS_CONFIRMED (t.filter (·.confirmed)).length
  let b := a.put F.FUS_TRK_STATUS_TENTATIVE (t.filter fun x => !x.confirmed).length
  b.put F.FUS_TRK_STATUS_BOUND (t.filter fun x => x.refl.isSome).length

/-- BIRTH_N and BIRTH_M. -/
def State.birthN (s : State) : Nat := s.efld F.FUS_TRK_CFG_BIRTH_N
/-- BIRTH_M, at most BIRTH_N. -/
def State.birthM (s : State) : Nat := satN s.birthN (s.efld F.FUS_TRK_CFG_BIRTH_M)

/-- A cycle of a track: assigned to a return, or missed. -/
def State.trackStep (s : State) (t : Track) (hit : Option OptReturn) : Track :=
  match hit with
  | some r =>
    let p := codes (Config.trackMove t.predict ([r.pos.1, r.pos.2] ++ r.cov))
    let h := t.hits + 1
    { t with pos := (nth p 0, nth p 1), cov := slice p 2 3, age := t.age + 1, hits := h, misses := 0
             confirmed := t.confirmed || (decide (s.birthM ≤ h) && decide (t.age + 1 ≤ s.birthN)) }
  | none =>
    let p := t.predict
    { t with pos := (nth p 0, nth p 1), cov := slice p 2 3, age := t.age + 1, misses := t.misses + 1 }

/-- The reflectors of a sensor's entry (R121). -/
def State.reflOf (s : State) (slot : Nat) : List Nat :=
  let e := s.entry slot
  ((List.range (entWhole e 1)).map (entWhole e 0 + ·)).filter fun i => decide (i < bitsOf (s.rdn 0x62004) 31 16 ∧ i < 64)

/-- Is a track within REFL_GATE of a reflector? -/
def State.nearRefl (s : State) (t : Track) (i : Nat) : Bool :=
  fle (s.reflDistance t.slot t.pos i) (ffrac (s.efld F.FUS_TRK_CFG_REFL_GATE : Nat) 100)

/-- The reflector a confirmed track is bound to now: the one unbound reflector within reach, if no other confirmed track
of the sensor is within reach of it (R145). -/
def State.bindTo (s : State) (tracks : List Track) (t : Track) : Option Nat :=
  let free := (s.reflOf t.slot).filter fun i => !(tracks.any fun x => x.refl == some i && x.slot == t.slot)
  match free.filter (s.nearRefl t) with
  | [i] => if tracks.any fun x => x.num != t.num && x.confirmed && x.slot == t.slot && s.nearRefl x i then none else some i
  | _ => none

/-- The lowest free track number. -/
def freeNum (tracks : List Track) : Option Nat := (List.range 64).find? fun n => !(tracks.any fun t => t.num == n)

/-- A return that went to its unassigned column is born as a tentative track (R145); the cycle of its birth is the first in
which it was assigned, so with BIRTH_M 1 it is confirmed at once. -/
def State.birth (r : OptReturn) (s : State) : State :=
  match freeNum s.fus.tracks with
  | none => s.setTo F.FUS_STATUS_TRK_FULL true
  | some n => (s.modFus fun f => { f with tracks := f.tracks ++ [⟨n, r.slot, decide (s.birthM ≤ 1), none, r.pos, r.cov, 1, 1, 0⟩] }).raise1 54 sevInfo srcFus n

/-- Bind the confirmed tracks that one reflector is in reach of (R145); EV054 each. -/
def State.bindTracks (s : State) : State :=
  let old := s.fus.tracks
  let bound := old.map fun t => if t.confirmed && t.refl.isNone then { t with refl := s.bindTo old t } else t
  let new := (bound.zip old).filter fun p => p.1.refl != p.2.refl
  forEach new (fun p (t : State) => t.raise1 54 sevInfo srcFus p.1.num) (s.modFus fun f => { f with tracks := bound })

/-- The assignment of the cycle's returns, by row: a column number (R144, R145). -/
def State.trackAssign (s : State) (cols : List Nat) : State :=
  let rets := s.fus.returns
  let hitOf (n : Nat) : Option OptReturn := ((rets.zip cols).find? fun p => p.2 == n).map (·.1)
  let a := s.modFus fun f => { f with tracks := f.tracks.map fun t => s.trackStep t (hitOf t.num), lapDone := true }
  let old := s.fus.tracks.map (·.num)
  let c := (forEach ((rets.zipIdx.zip cols).filter fun p => p.2 == 64 + p.1.2) (fun p => State.birth p.1.1) a).bindTracks
  let rows := (c.fus.tracks.filter fun t => old.contains t.num).filterMap fun t =>
    match t.refl, hitOf t.num with | some i, some r => some (i, r) | _, _ => none
  (c.modFus fun f => { f with optRows := rows }).showTracks

/-- The assignment job has given its result. -/
def State.lapResult (s : State) (r : JobRes) : State :=
  if r.status = stMismatch then s.modFus fun f => { f with lapReady := false }
  else if s.fus.lapDone ∨ !(r.status = stDone ∨ r.status = stDlIter ∨ r.status = stNumeric) then s
  else s.trackAssign (u16sAt r.payload 0 s.fus.returns.length)

/-- SOLVE_DL without a result: every track counts a miss (R144). -/
def State.lapMissed (s : State) : State :=
  if s.fus.lapDone ∨ s.fstate = fsOff ∨ s.fstate = fsInit then s
  else s.modFus fun f => { f with tracks := f.tracks.map fun t => s.trackStep t none, lapDone := true, optRows := [] }

/-- Has a track reached its miss or birth limit (R145)? -/
def State.trackOut (s : State) (t : Track) : Bool :=
  if t.confirmed then decide (s.efld F.FUS_TRK_CFG_DEATH_MISS ≤ t.misses)
  else decide (s.efld F.FUS_TRK_CFG_TENT_MISS ≤ t.misses) || decide (s.birthN ≤ t.age)

/-- Delete a track that reached its limit; EV054. -/
def State.trackDelete (s : State) (n : Nat) : State :=
  match s.fus.tracks.find? fun t => t.num == n with
  | none => s
  | some t =>
    if s.trackOut t then
      ((s.modFus fun f => { f with tracks := f.tracks.filter fun x => x.num != n }).showTracks).raise1 54 sevInfo srcFus n
    else s

def execTrackDelete (n : Fin 64) (s : State) : Host.Outcome State Fault Refusal :=
  s.gate 9 <| .next (s.trackDelete n.val)

/-- The newest riser record has passed 10 cycles of age (R146). -/
def execRiserValidLoss (s : State) : Host.Outcome State Fault Refusal :=
  s.gate 9 <| match s.fus.riserAt with
  | some t => .next ((s.runTo (t + 10 * s.tbase + 1)).setTo F.FUS_STATUS_RISER_VALID false)
  | none => .next s

end Sys2Proof.Machine
end

