-- ==== Sys2Proof/Machine/Motion.lean ====
section
/-! DEFINITION. The motion part of the control engine (05_motion_control_allocation.md): the control set and parameters,
modes, profiles, the control law and the horizon's reference (R196 to R213). -/

namespace Sys2Proof.Machine

/-- Change the control engine. -/
def State.modCtl (s : State) (f : Control → Control) : State := { s with ctl := f s.ctl }

/-- Source unit number of the control engine (R489). -/
def srcCtl : Nat := 0x50

/-! ### The control set (R196 to R199) -/

/-- From a sector to the next: the step of their starts. -/
def sectStep (a b : Nat × Nat) : Nat := (b.1 + 65536 - a.1) % 65536

/-- An angle in units of π/32,768 is at least `deg` degrees. -/
def degAtLeast (units deg : Nat) : Bool := decide (deg * 32768 ≤ units * 180)

/-- Consecutive sectors overlap by at least 5°, each beyond the one before (R198). -/
def sectsChain : List (Nat × Nat) → Bool
  | a :: b :: rest =>
    let d := sectStep a b
    decide (d < a.2) && degAtLeast (a.2 - d) 5 && decide (a.2 < d + b.2) && sectsChain (b :: rest)
  | _ => true

/-- Clockwise reach from the start of sector 0 to the end of the last. -/
def sectSpan : List (Nat × Nat) → Nat
  | a :: b :: rest => sectStep a b + sectSpan (b :: rest)
  | [a] => a.2
  | [] => 0

/-- Do the sectors cover the full circle (R198)? -/
def sectFull (ss : List (Nat × Nat)) : Bool := decide (65536 < sectSpan ss)

/-- The sectors obey R198.  A last sector that overlaps sector 0 ends inside it: where the indices wrap, sector 0 is the one
after the last, and runs clockwise beyond it. -/
def sectsOk (ss : List (Nat × Nat)) : Bool :=
  let r := sectSpan ss
  (ss.all fun k => degAtLeast k.2 10 && decide (k.2 * 180 ≤ 90 * 32768)) && sectsChain ss &&
    (if 65536 < r then degAtLeast (r - 65536) 5 && decide (r - 65536 < (ss.headD (0, 0)).2) else degAtLeast (65536 - r) 1)

/-- A thruster entry obeys R197 and R198. -/
def thrOk (set : List Byte) (i : Nat) : Bool :=
  let e := (set.drop (128 + 64 * i)).take 64
  let t := thrAt set i
  let n := fieldLe e 2 1
  let base := decide (fieldLe e 1 1 ≤ 11) && decide (fieldLe e 3 1 = 0) && ffin t.tmax && flt 0 t.tmax
  if t.ty = 0 then true
  else if t.ty = 1 then base && decide (n = 0) && decide (fieldLe e 28 4 % 2 ^ 31 = 0)
  else if t.ty = 2 then base && decide (1 ≤ n ∧ n ≤ 8) && sectsOk t.sects
  else false

/-- Sections that have thrusters, in order. -/
def thrSections (ts : List Thr) : List Nat := (List.range 12).filter fun k => ts.any fun t => t.sec == k

/-- Rows of the primary structure for `sides`-sided polygons (R215). -/
def rowCount (ts : List Thr) (sides : Nat) : Nat :=
  let az := (ts.filter (·.isAz)).length
  63 + az * (sides + 4) + 2 * (ts.length - az) + 5 * ts.length + (thrSections ts).length

/-- Sides of the thrust polygons (R216). -/
def polySides (set : List Byte) : Nat :=
  let f := fieldLe set 7 1
  if f = 8 ∨ f = 16 then f else if 512 < rowCount (setThrs set) 16 then 8 else 16

/-- A staged control set passes the check of R199, but for the mode. -/
def setOk (set : List Byte) : Bool :=
  let ts := setThrs set
  let n := 63 + 3 * ts.length
  decide (fieldLe set 0 4 = 0x534C5443) && decide (fieldLe set 4 2 = 1) &&
    decide (fieldLe set 12 4 = crc32c (set.take 12 ++ (set.drop 16).take 2096)) &&
    (List.range (satN 24 (fieldLe set 6 1))).all (thrOk set) && decide (n ≤ 160) && decide (rowCount ts (polySides set) ≤ 512)

/-! ### Parameters (R210) -/

/-- Active parameter g, as binary64. -/
def State.par (s : State) (g : Nat) : Nat := f32to64 (s.rdn (0x80200 + 4 * g))

/-- Is a float32 code the nearest to a decimal, or on its inner side? The ranges of R210 are decimals. -/
def inRange (lo hi : Nat) (v : Nat) : Bool := fmt32.le lo v && fmt32.le v hi

/-- A float32 code from a fraction. -/
def f32frac (a b : Nat) : Nat := fmt32.ofFrac a b

/-- Parameter g lies in its range (R210); `tb` is T_base in ns. -/
def parOk (tb : Nat) (g c : Nat) : Bool :=
  let pos := fmt32.lt 0 c
  let nn := fmt32.le 0 c
  let hi (a b : Nat) : Bool := nn && fmt32.le c (f32frac a b)
  fmt32.finite c &&
  (if g ≤ 11 then nn
   else if g = 12 ∨ g = 13 then hi 3 2
   else if g = 14 then inRange (f32frac 1 1) (f32frac 600 1) c
   else if g = 15 ∨ g = 26 ∨ g = 36 then hi 1 1
   else if g ≤ 24 then pos
   else if g = 25 then inRange (f32frac 1 10) (f32frac 2 1) c &&
     (List.range 2001).any fun k => decide (k * tb ≤ 2000000000) && c == f32frac (k * tb) 1000000000
   else if g = 31 ∨ g = 35 ∨ g = 37 then nn
   else if g = 39 then hi 1 2
   else if g = 40 ∨ g = 41 then hi 1 5
   else pos)

/-- The committed parameters become active at the sample instant, or are rejected as a whole (R210).  A change of the weights
that P holds is sent with the next delta list, and so is one of what the horizon's rate rows and W_P take, of which R220's
list is silent (DEDUCED, log entry 45). -/
def State.paramCheck (s : State) : State :=
  if !s.on F.CTL_CTRL_PARAM_COMMIT then s
  else if s.ctl.parLate then s.modCtl fun c => { c with parLate := false }
  else
    let a := s.setTo F.CTL_CTRL_PARAM_COMMIT false
    let v := (List.range 42).map fun g => s.rd (0x80100 + 4 * g)
    if (v.zipIdx).all fun p => parOk s.tbase p.2 p.1.toNat then
      let new (gs : List Nat) : Bool := gs.any fun g => s.rd (0x80100 + 4 * g) != s.rd (0x80200 + 4 * g)
      (a.wrWords 0x80200 v).modCtl fun c => { c with
        wDue := c.wDue || new [26, 27, 28, 29, 30, 32, 33, 34], hzDue := c.hzDue || new [22, 23, 24, 25, 31] }
    else a.setTo F.CTL_STATUS_PARAM_REJECT true

/-- MODE in force. -/
def State.cmode (s : State) : Nat := s.fld F.CTL_MODE_MODE

/-- AXIS_AUTO in force. -/
def State.caxes (s : State) : Nat := s.fld F.CTL_MODE_AXIS_AUTO

/-- Make a control set active (R199): its primary structure is to be rebuilt. -/
def State.setActive (s : State) (set : List Byte) : State :=
  let a := (s.wrWords 0x82000 (wordsOf 528 set)).wrn Reg.CTL_SET_ID (fieldLe set 8 4)
  let b := a.modCtl fun c => { c with loadDue := true, loadSet := true, tau0 := [0, 0, 0], prevSol := none, edges := List.replicate 24 (0, 0) }
  { b with eph := { b.eph with hyps := b.eph.hyps.map fun h => { h with build := true } } }

/-- SET_COMMIT: the staged control set waits for the sample instant (R199). -/
def State.setCommit (s : State) : State :=
  (s.modCtl fun c => { c with setLate := s.commitTie (s.on F.CTL_CTRL_SET_COMMIT) c.setLate }).setTo F.CTL_CTRL_SET_COMMIT true

/-- PARAM_COMMIT: the staged parameters wait for the sample instant (R210). -/
def State.paramCommit (s : State) : State :=
  (s.modCtl fun c => { c with parLate := s.commitTie (s.on F.CTL_CTRL_PARAM_COMMIT) c.parLate }).setTo F.CTL_CTRL_PARAM_COMMIT true

/-- The committed control set is checked (R199). -/
def State.setCheck (s : State) : State :=
  if !s.on F.CTL_CTRL_SET_COMMIT then s
  else if s.ctl.setLate then s.modCtl fun c => { c with setLate := false }
  else
    let a := s.setTo F.CTL_CTRL_SET_COMMIT false
    let set := s.winBytes 0x81000 528
    if s.cmode = 0 ∧ setOk set then a.setActive set else a.setTo F.CTL_STATUS_SET_REJECT true

def execSetCommit (_req : Req) (s : State) : Host.Outcome State Fault Refusal :=
  s.gate 9 <| .next s.setCommit

def execParamCommit (_req : Req) (s : State) : Host.Outcome State Fault Refusal :=
  s.gate 9 <| .next s.paramCommit

/-! ### The published state and the command block (R150, R202) -/

/-- The published record. -/
def State.pub (s : State) : List Byte := s.winBytes 0x63000 64

/-- A binary64 field of the published state. -/
def State.pub64 (s : State) (off : Nat) : Nat := fieldLe s.pub off 8

/-- A float32 field of the published state, as binary64. -/
def State.pub32 (s : State) (off : Nat) : Nat := f32At s.pub off

/-- Flag bit `i` of the published state. -/
def State.pubFlag (s : State) (i : Nat) : Bool := bitAt (fieldLe s.pub 140 4) i

/-- The command block in force; all zero before the first (R58). -/
def State.cmd (s : State) (off n : Nat) : Nat := fieldLe s.cdr.cmdTaken off n

/-- A float32 field of the command block. -/
def State.cmd32 (s : State) (off : Nat) : Nat := f32At s.cdr.cmdTaken off

/-- STATE of a thruster in THR_FB. -/
def State.fbState (s : State) (i : Nat) : Nat := s.cmd (128 + 4 * i) 1 % 4

/-- DERATE of a thruster in percent. -/
def State.fbDerate (s : State) (i : Nat) : Nat := let d := s.cmd (129 + 4 * i) 1; if d = 0 then 100 else d

/-- Measured azimuth of a thruster, units of π/32,768. -/
def State.fbAz (s : State) (i : Nat) : Nat := s.cmd (130 + 4 * i) 2

/-- STATE of a thruster in force. -/
def State.thrState (s : State) (i : Nat) : Nat := bitsOf (s.rdn (blockOff Reg.CTL_THR_STATE (4 * (i / 16)))) (2 * (i % 16) + 1) (2 * (i % 16))

/-- T_base in s. -/
def State.tbSec (s : State) : Nat := ffrac s.tbase 1000000000

/-! ### The last staged set (R214, R224, R225) -/

/-- A word of the last staged set. -/
def State.stagedWord (s : State) (i : Nat) : Nat :=
  match s.red.base with
  | some m => if i < 56 then (sget (fun _ => (0 : Word)) m i).toNat else (sget (fun _ => (0 : Word)) s.cdr.staged i).toNat
  | none => (sget (fun _ => (0 : Word)) s.cdr.staged i).toNat

/-- τ_0 of the last staged set. -/
def State.lastTau (s : State) : List Nat := (List.range 3).map fun c => f32to64 (s.stagedWord (2 + c))

/-- Thrust of a thruster in the last staged set, N. -/
def State.prevThrust (s : State) (t : Thr) : Nat :=
  fmul (ffrac (sgn 16 (bitsOf (s.stagedWord (8 + 2 * t.idx)) 15 0)) 32768) t.tmax

/-- Angle of a thruster in the last staged set, rad. -/
def State.prevAngle (s : State) (t : Thr) : Nat :=
  ffrac (sgn 16 (bitsOf (s.stagedWord (8 + 2 * t.idx)) 31 16) * (piNum : Int)) (32768 * piDen)

/-- F_prev of a thruster: thrust × cos angle, thrust × sin angle. -/
def State.fprev (s : State) (t : Thr) : Nat × Nat :=
  let f := s.prevThrust t
  if t.isAz then (fmul f (fcos (s.prevAngle t)), fmul f (fsin (s.prevAngle t))) else (0, f)

/-! ### Modes (R200, R201, R203, R204) -/

/-- MODE and AXIS_AUTO that the command block asks for. -/
def State.asked (s : State) : Nat × Nat := (s.cmd 0 1, s.cmd 1 1 % 8)

/-- Does the engine refuse the request (R201)? -/
def State.refuses (s : State) : Bool :=
  let m := s.asked.1
  let ax := s.asked.2
  let bad := decide (6 < m) || (decide (m = 0) && decide (ax ≠ 0)) || (decide (2 ≤ m) && decide (ax ≠ 7))
  let noGain := (List.range 3).any fun c => bitAt ax c && !bitAt s.caxes c && decide (s.rdn (0x80200 + 4 * c) % 2 ^ 31 = 0)
  bad || noGain || ((decide (2 ≤ m) || decide (ax ≠ 0)) && !s.pubFlag 1) ||
    (decide (m = 4) && (!s.on F.CHIP_PROFILE_RISER_FOLLOW || !s.pubFlag 6))

/-- An earth-frame vector in the body frame at a heading. -/
def toBody (psi : Nat) (v : Nat × Nat) : Nat × Nat :=
  let c := (fcos psi)
  let n := (fsin psi)
  (fadd (fmul c v.1) (fmul n v.2), fsub (fmul c v.2) (fmul n v.1))

/-- A body-frame vector in the earth frame at a heading. -/
def toEarth (psi : Nat) (v : Nat × Nat) : Nat × Nat :=
  let c := (fcos psi)
  let n := (fsin psi)
  (fsub (fmul c v.1) (fmul n v.2), fadd (fmul n v.1) (fmul c v.2))

/-- The sum of two plane vectors. -/
def vadd (a b : Nat × Nat) : Nat × Nat := (fadd a.1 b.1, fadd a.2 b.2)

/-- The difference of two plane vectors. -/
def vsub (a b : Nat × Nat) : Nat × Nat := (fsub a.1 b.1, fsub a.2 b.2)

/-- A plane vector times a number. -/
def vscale (k : Nat) (a : Nat × Nat) : Nat × Nat := (fmul k a.1, fmul k a.2)

/-- The length of a plane vector. -/
def vlen (a : Nat × Nat) : Nat := (hypot a.1 a.2)

/-! ### Profiles (R205 to R207) -/

/-- ½. -/
def oneHalf : Nat := ffrac 1 2

/-- Zero, of either sign. -/
def isZero (a : Nat) : Bool := fabs a == 0

/-- Position, velocity and acceleration after a time of constant jerk. -/
def jerkStep (p : Nat × Nat × Nat) (j t : Nat) : Nat × Nat × Nat :=
  let t2 := fmul t t
  (dotN [(p.1, one), (p.2.1, t), (fmul oneHalf p.2.2, t2), (fmul (ffrac 1 6) j, fmul t2 t)],
   dotN [(p.2.1, one), (p.2.2, t), (fmul oneHalf j, t2)], fadd p.2.2 (fmul j t))

/-- The state of a motion at time t from its start; it rests after the last phase. -/
def phasesAt : List (Nat × Nat) → Nat × Nat × Nat → Nat → Nat × Nat × Nat
  | [], p, _ => (p.1, 0, 0)
  | (j, d) :: ps, p, t => if flt t d then jerkStep p j t else phasesAt ps (jerkStep p j d) (fsub t d)

/-- Distance, velocity and acceleration of a motion at time t. -/
def Prof.at (p : Prof) (t : Nat) : Nat × Nat × Nat := phasesAt p.phases (0, p.v, p.a) t

/-- The time a motion takes. -/
def Prof.time (p : Prof) : Nat := p.phases.foldl (fun a e => fadd a e.2) 0

/-- The velocity v_d with D(v) = d (R207): of v (v ÷ A + A ÷ J) where that is at least A² ÷ J, of 2 v √(v ÷ J) otherwise. -/
def peakVelocity (d a j : Nat) : Nat :=
  let q := fdiv a j
  let v := fmul (fmul oneHalf a) (fsub (fsqrt (dotN [(q, q), (fint 4, fdiv d a)])) q)
  if fle (fdiv (fmul a a) j) v then v else fcbrt (fmul (fmul (fmul d d) (ffrac 1 4)) j)

/-- The rest-to-rest move of R207 over a distance d > 0. -/
def restPhases (d v a j : Nat) : List (Nat × Nat) :=
  let vd := peakVelocity d a j
  let vp := fmin v vd
  let long := fle (fdiv (fmul a a) j) vp
  let tj := if long then fdiv a j else fsqrt (fdiv vp j)
  let ta := if long then fsub (fdiv vp a) (fdiv a j) else 0
  let dist := if long then fmul vp (fadd (fdiv vp a) (fdiv a j)) else fmul (fmul (fint 2) vp) (fsqrt (fdiv vp j))
  let tc := fdiv (fsub d dist) vp
  [(j, tj), (0, ta), (fneg j, tj), (0, tc), (fneg j, tj), (0, ta), (j, tj)]

/-- The three phases that take a velocity and an acceleration to a velocity `v1` at rest of acceleration, in the least time
under A and J: to the peak acceleration, along it, and back to 0 (R205, R206). -/
def speedPhases (v a v1 lA lJ : Nat) : List (Nat × Nat) :=
  let after := fadd v (fdiv (fmul a (fabs a)) (fmul (fint 2) lJ))
  let up := fle after v1
  let sg (x : Nat) : Nat := if up then x else fneg x
  let a0 := sg a
  let dv := sg (fsub v1 v)
  let peak := fmin lA (fsqrt (fmax 0 (dotN [(lJ, dv), (fmul oneHalf a0, a0)])))
  let high := flt peak a0
  let ramp := fdiv (fabs (fsub (fmul peak peak) (fmul a0 a0))) (fmul (fint 2) lJ)
  let gained := fadd (if high then ramp else if flt (fabs a0) peak then ramp else fneg ramp) (fdiv (fmul peak peak) (fmul (fint 2) lJ))
  let hold := if isZero peak then 0 else fmax 0 (fdiv (fsub dv gained) peak)
  [(sg (if high then fneg lJ else lJ), fdiv (fabs (fsub peak a0)) lJ), (0, hold), (sg (fneg lJ), fdiv peak lJ)]

/-- The state after phases. -/
def phasesEnd (ps : List (Nat × Nat)) (p : Nat × Nat × Nat) : Nat × Nat × Nat := ps.foldl (fun q e => jerkStep q e.1 e.2) p

/-- The plan by way of a velocity `vp`: to it, a cruise of `tc`, and to rest. -/
def viaPhases (v a vp tc lA lJ : Nat) : List (Nat × Nat) :=
  speedPhases v a vp lA lJ ++ [(0, tc)] ++ speedPhases vp 0 0 lA lJ

/-- The greatest code from `lo` up to but not including `hi` for which `p` holds, where it holds up to some code. -/
def lastCode (p : Nat → Bool) : Nat → Nat → Nat → Nat
  | 0, lo, _ => lo
  | k + 1, lo, hi => if p ((lo + hi) / 2) then lastCode p k ((lo + hi) / 2) hi else lastCode p k lo ((lo + hi) / 2)

/-- The velocity left when an acceleration is brought to 0 at once. -/
def settled (v a lJ : Nat) : Nat := fadd v (fdiv (fmul a (fabs a)) (fmul (fint 2) lJ))

/-- The distance of the plan by way of a velocity, without a cruise. -/
def viaFar (v a lA lJ vp : Nat) : Nat := (phasesEnd (viaPhases v a vp 0 lA lJ) (0, v, a)).1

/-- Braking to rest after a deceleration was eased by `x` for the time that takes. -/
def easePhases (v a lA lJ x : Nat) : List (Nat × Nat) :=
  let q := jerkStep (0, v, a) lJ (fdiv x lJ)
  (lJ, fdiv x lJ) :: speedPhases q.2.1 q.2.2 0 lA lJ

/-- The plan over a distance by way of a velocity: to it, the cruise the distance leaves, and to rest; by way of 0, braking and what the
distance leaves as a move from rest. -/
def cruisePhases (v a d vp : Nat) (lim : Nat × Nat × Nat) : List (Nat × Nat) :=
  if isZero vp then
    let brake := speedPhases v a 0 lim.2.1 lim.2.2
    let stop := (phasesEnd brake (0, v, a)).1
    brake ++ (if fle d stop then [] else restPhases (fsub d stop) lim.1 lim.2.1 lim.2.2)
  else viaPhases v a vp (fmax 0 (fdiv (fsub d (viaFar v a lim.2.1 lim.2.2 vp)) vp)) lim.2.1 lim.2.2

/-- The plan by way of the greatest velocity from `lo` to V that does not pass the target. -/
def viaGreatest (v a d lo : Nat) (lim : Nat × Nat × Nat) : List (Nat × Nat) :=
  let ok (vp : Nat) : Bool := fle (viaFar v a lim.2.1 lim.2.2 vp) d
  cruisePhases v a d (if ok lim.1 then lim.1 else lastCode ok 64 lo lim.1) lim

/-- The plan of earliest arrival over a distance that braking does not pass, from a speed whose settled value is at most V
(R206).  The plans by way of a velocity from the settled one up go farther the greater that velocity is, and so do, short of
them, those that ease a deceleration the more it is eased: the farthest that does not pass the target arrives first. -/
def fastestPhases (v a d : Nat) (lim : Nat × Nat × Nat) : List (Nat × Nat) :=
  let lA := lim.2.1
  let lJ := lim.2.2
  let lo := fmin lim.1 (fmax 0 (settled v a lJ))
  if flt d (viaFar v a lA lJ lo) && flt a 0 then
    easePhases v a lA lJ (lastCode (fun x => fle (phasesEnd (easePhases v a lA lJ x) (0, v, a)).1 d) 64 0 (fabs a))
  else viaGreatest v a d lo lim

/-- The plan over a distance d ≥ 0 from a velocity and an acceleration along it (R206): the earliest arrival of those that do
not pass the target.  A speed above V decelerates at the limits to V, where its deceleration has ended, or on to a lower velocity where
the target is too near for that; where even braking passes the target, to rest at the limits and then rest-to-rest back. -/
def movePhases (v a d : Nat) (lim : Nat × Nat × Nat) : List (Nat × Nat) :=
  let brake := speedPhases v a 0 lim.2.1 lim.2.2
  let stop := (phasesEnd brake (0, v, a)).1
  if flt d stop then brake ++ (restPhases (fsub stop d) lim.1 lim.2.1 lim.2.2).map fun p => (fneg p.1, p.2)
  else if flt lim.1 (settled v a lim.2.2) then viaGreatest v a d 0 lim
  else fastestPhases v a d lim

/-- The plan of one line over a signed distance (R206). -/
def planLine (v a d : Nat) (lim : Nat × Nat × Nat) : Prof :=
  if isZero v && isZero a then
    if isZero d then .rest
    else if flt d 0 then ⟨0, 0, (restPhases (fneg d) lim.1 lim.2.1 lim.2.2).map fun p => (fneg p.1, p.2)⟩
    else ⟨0, 0, restPhases d lim.1 lim.2.1 lim.2.2⟩
  else if flt d 0 then ⟨v, a, (movePhases (fneg v) (fneg a) (fneg d) lim).map fun p => (fneg p.1, p.2)⟩
  else ⟨v, a, movePhases v a d lim⟩

/-- The motion across the line, brought to rest (R206). -/
def planAcross (v a : Nat) (lim : Nat × Nat × Nat) : Prof :=
  if isZero v && isZero a then .rest else ⟨v, a, speedPhases v a 0 lim.2.1 lim.2.2⟩

/-- The reference at an instant: position, velocity and acceleration N and E, heading, its rate and acceleration. -/
structure RefState where
  /-- Position. -/
  pos : Nat × Nat
  /-- Velocity. -/
  vel : Nat × Nat
  /-- Acceleration. -/
  acc : Nat × Nat
  /-- Heading, rate, acceleration. -/
  psi : Nat × Nat × Nat
  deriving DecidableEq, Repr

/-- Seconds from an instant to device time `ns`, and `ahead` seconds on. -/
def secFrom (start : Nat) (ns : Int) (ahead : Nat) : Nat := fadd (ffrac (ns - (start : Int)) 1000000000) ahead

/-- The reference state `ahead` seconds after a device time. -/
def MotionPlan.atNs (p : MotionPlan) (ns : Int) (ahead : Nat) : RefState :=
  let l := p.along.at (secFrom p.start ns ahead)
  let c := p.across.at (secFrom p.start ns ahead)
  let side := (fneg p.dir.2, p.dir.1)
  let mix (x y : Nat) : Nat × Nat := vadd (vscale x p.dir) (vscale y side)
  let h := p.turn.at (secFrom p.turnStart ns ahead)
  ⟨vadd p.pos (mix l.1 c.1), mix l.2.1 c.2.1, mix l.2.2 c.2.2, (fadd p.psi h.1, h.2.1, h.2.2)⟩

/-- The reference state at a device time. -/
def State.refAt (s : State) (ns : Nat) : RefState := s.ctl.plan.atNs ns 0

/-- The reference has come to rest at t_n. -/
def State.arrived (s : State) : Bool :=
  let p := s.ctl.plan
  let t := secFrom p.start s.cdr.t0 0
  fle p.along.time t && fle p.across.time t && fle p.turn.time (secFrom p.turnStart s.cdr.t0 0)

/-- The horizontal profile planned anew from a reference state at `start` to a target (R205, R206), with limits V, A, J. -/
def MotionPlan.replan (p : MotionPlan) (start : Nat) (r : RefState) (tgt lim : List Nat) : MotionPlan :=
  let d := vsub (nth tgt 0, nth tgt 1) r.pos
  let len := vlen d
  let dir := if isZero len then (one, 0) else (fdiv d.1 len, fdiv d.2 len)
  let dot (v : Nat × Nat) : Nat := dotN [(v.1, dir.1), (v.2, dir.2)]
  let crs (v : Nat × Nat) : Nat := dotN [(v.2, dir.1), (fneg v.1, dir.2)]
  let lh := (nth lim 0, nth lim 1, nth lim 2)
  { p with start := start, pos := r.pos, dir := dir, along := planLine (dot r.vel) (dot r.acc) len lh, across := planAcross (crs r.vel) (crs r.acc) lh }

/-- The heading profile planned anew; its limits follow the horizontal ones. -/
def MotionPlan.replanTurn (p : MotionPlan) (start : Nat) (r : RefState) (tgt lim : List Nat) : MotionPlan :=
  { p with turnStart := start, psi := r.psi.1
           turn := planLine r.psi.2.1 r.psi.2.2 (angleDiff (nth tgt 2) r.psi.1) (nth lim 3, nth lim 4, nth lim 5) }

/-- The profiles that are to be planned anew, from the reference state at `start`. -/
def MotionPlan.renew (p : MotionPlan) (hor turn : Bool) (start : Nat) (r : RefState) (tgt lim : List Nat) : MotionPlan :=
  let q := if hor then p.replan start r tgt lim else p
  if turn then q.replanTurn start r tgt lim else q

/-! ### Targets by mode (R205, R208) -/

/-- The controlled point less CO: the pivot of WEATHERVANE (R208). -/
def State.pointOfs (s : State) : Nat × Nat :=
  if s.cmode = 5 then
    let px := s.cmd32 96
    vscale (fmul px (fcos (s.pub32 64))) ((fcos (s.pub64 52)), (fsin (s.pub64 52)))
  else (0, 0)

/-- The published position of the controlled point. -/
def State.pointPos (s : State) : Nat × Nat := vadd (s.pub64 16, s.pub64 24) s.pointOfs

/-- Waypoint `k` of the command block: N, E, ψ, SPEED. -/
def State.waypoint (s : State) (k : Nat) : List Nat :=
  [s.cmd (224 + 32 * k) 8, s.cmd (232 + 32 * k) 8, s.cmd (240 + 32 * k) 8, s.cmd32 (248 + 32 * k)]

/-- Waypoints in the list. -/
def State.wpCount (s : State) : Nat := satN 8 (s.cmd 3 1)

/-- The target of RISER_FOLLOW, where the angles are valid (R208). -/
def State.riserTarget (s : State) : Nat × Nat :=
  let w := s.par 36
  let th (c : Nat) : Nat := dotN [(w, s.pub32 (144 + 4 * c)), (fsub one w, s.pub32 (152 + 4 * c))]
  let o := vscale (fneg (s.par 35)) ((ftan (th 0)), (ftan (th 1)))
  let r := s.par 37
  let o' := if flt r (vlen o) then vscale (fdiv r (vlen o)) o else o
  vadd (s.cmd 112 8, s.cmd 120 8) o'

/-- The heading target of WEATHERVANE (R208). -/
def State.vaneTarget (s : State) : Nat :=
  let f := toEarth (s.pub64 52) (s.pub32 100, s.pub32 104)
  let d := (fatan2 (fneg f.2) (fneg f.1))
  if flt (s.par 39) (fabs (angleDiff d (nth s.ctl.target 2))) then d else nth s.ctl.target 2

/-- The targets of the cycle. -/
def State.targets (s : State) : List Nat :=
  let blk := [s.cmd 8 8, s.cmd 16 8, s.cmd 24 8]
  match s.cmode with
  | 3 => if s.wpCount = 0 then s.ctl.target else (s.waypoint (satN (s.wpCount - 1) s.ctl.wp)).take 3
  | 4 => if s.pubFlag 6 then [s.riserTarget.1, s.riserTarget.2, nth blk 2] else [nth s.ctl.target 0, nth s.ctl.target 1, nth blk 2]
  | 5 => [nth blk 0, nth blk 1, s.vaneTarget]
  | _ => blk

/-- The limits of the cycle (R205). -/
def State.limits (s : State) : List Nat :=
  let vh := s.par 16
  let v := match s.cmode with
    | 3 => if s.wpCount = 0 then vh else fmin vh (nth (s.waypoint (satN (s.wpCount - 1) s.ctl.wp)) 3)
    | 4 => s.par 38
    | _ => vh
  [v, s.par 17, s.par 18, s.par 19, s.par 20, s.par 21]

/-- HOLD_HERE of the command block (R204). -/
def State.holdHere (s : State) : Bool := bitAt (s.cmd 2 1) 2

/-- The next leg of AUTO_TRACK begins in the cycle after arrival at its waypoint; entering the mode, or a new WP_GEN, starts
the list (R208).  Rest on the target of HOLD_HERE is no arrival. -/
def State.wpStep (s : State) (modeNew : Bool) : State :=
  let g := s.cmd 104 1
  if s.cmode ≠ 3 then s.modCtl fun c => { c with wpGen := g }
  else if modeNew ∨ g ≠ s.ctl.wpGen then s.modCtl fun c => { c with wp := 0, wpGen := g }
  else if s.arrived ∧ !s.ctl.holding ∧ !s.holdHere ∧ s.ctl.wp + 1 < s.wpCount then s.modCtl fun c => { c with wp := c.wp + 1 }
  else s

/-- RISER_VALID falls in RISER_FOLLOW: EV082 (R208). -/
def State.riserStep (s : State) : State :=
  let ok := s.pubFlag 6
  let a := if s.cmode = 4 ∧ s.ctl.riserOk ∧ !ok then s.raise 82 sevNotice srcCtl else s
  a.modCtl fun c => { c with riserOk := s.cmode != 4 || ok }

/-- Settle the targets and replan each profile whose target or limits changed, or both where the mode did (R206); HOLD_HERE sets the
targets to the current reference (R204). -/
def State.profileStep (s : State) (modeNew : Bool) : State :=
  let a := s.riserStep.wpStep modeNew
  let r := a.refAt a.cdr.t0
  let tgt := if a.holdHere then (if a.ctl.holding then a.ctl.target else [r.pos.1, r.pos.2, r.psi.1]) else a.targets
  let lim := a.limits
  let b := a.modCtl fun c => { c with holding := a.holdHere }
  b.modCtl fun c => { c with
    target := tgt, limits := lim
    plan := c.plan.renew (modeNew || tgt.take 2 != c.target.take 2 || lim.take 3 != c.limits.take 3)
      (modeNew || tgt.drop 2 != c.target.drop 2 || lim.drop 3 != c.limits.drop 3) a.cdr.t0 r tgt lim }

/-! ### The control law (R209 to R213) -/

/-- Errors of the cycle: e_p, e_psi, without injection, and e_v, e_r (R209). -/
def State.errors (s : State) : List Nat × List Nat :=
  let r := s.refAt s.cdr.t0
  let psi := s.pub64 52
  let e := toBody psi (vsub r.pos s.pointPos)
  let v := toBody psi r.vel
  ([e.1, e.2, (angleDiff r.psi.1 psi)],
   [fsub v.1 (s.pub32 88), fsub v.2 (s.pub32 92), fsub r.psi.2.1 (s.pub32 76)])

/-- The errors with a SETPOINT signal added to the reference (R231); that of heading is taken in (−π, π] after it. -/
def State.injected (s : State) (e : List Nat) (add : Nat → Nat) : List Nat :=
  let psi := (s.refAt s.cdr.t0).psi.1
  [fadd (nth e 0) (add 0), fadd (nth e 1) (add 1), angleDiff (fadd psi (add 2)) (s.pub64 52)]

/-- The dead band of TAM (R209). -/
def State.tamBand (s : State) (e : List Nat) : List Nat :=
  if s.cmode ≠ 6 then e
  else
    let m := vlen (nth e 0, nth e 1)
    let r := s.cmd32 100
    if fle m r then [0, 0, nth e 2]
    else let k := fdiv (fsub m r) m; [fmul (nth e 0) k, fmul (nth e 1) k, nth e 2]

/-- τ_env of axis c. -/
def State.tauEnv (s : State) (c : Nat) : Nat := fneg (fmul (s.par 12) (s.pub32 (100 + 4 * c)))

/-- C_c(γ): the WIND table, by 10°, interpolated linearly (R196, R209). -/
def windCoef (table : List Nat) (c g : Nat) : Nat :=
  let x := fmul (fturn g) (ffrac (18 * piDen) piNum)
  let k := ffloor x
  let fr := fsub x (fint (k : Nat))
  dotN [(fsub one fr, nth table (3 * (k % 36) + c)), (fr, nth table (3 * ((k + 1) % 36) + c))]

/-- w of axis c: V² × C(γ). -/
def State.wind (s : State) (c : Nat) : Nat :=
  let v := s.pub32 112
  fmul (fmul v v) (windCoef (f32sAt s.ctlSet 1664 108) c (s.pub32 116))

/-- w_lp moves by one step, or is frozen while WIND_VALID is 0 (R209). -/
def State.windStep (s : State) : State :=
  if !s.pubFlag 7 then s
  else s.modCtl fun k => { k with windLp := (List.range 3).map fun c => (Config.lowPass (nth k.windLp c) (s.wind c) s.tbSec (s.par 14)).toNat }

/-- τ_wind of axis c. -/
def State.tauWind (s : State) (c : Nat) : Nat :=
  if s.pubFlag 7 then fneg (fmul (s.par 13) (fsub (s.wind c) (nth s.ctl.windLp c))) else 0

/-- A Collimation run is RUNNING. -/
def State.colRuns (s : State) : Bool := s.fld F.CTL_COL_STATUS_STATE == 2

/-- POINT of the run; 0b11 is treated as 0b00 (R231). -/
def State.colPoint (s : State) : Nat := s.fld F.CTL_COL_CFG_POINT % 3

/-- What the run adds to axis c at a point. -/
def State.colAdd (s : State) (point c : Nat) : Nat :=
  if s.colRuns ∧ s.colPoint = point ∧ s.fld F.CTL_COL_CFG_TARGET = c then s.ctl.u else 0

/-- Was the previous used solution saturated on the axis, with integrating widening the gap (R212)? -/
def State.saturated (s : State) (c e : Nat) : Bool :=
  match s.ctl.prevSol with
  | none => false
  | some p =>
    let gap := fsub (nth p.1 c) (nth p.2 c)
    let kie := fmul (s.par (6 + c)) e
    let neg (x : Nat) : Bool := decide (fmt64.sign ≤ x)
    flt (fmul (s.par 15) (s.par (9 + c))) (fabs gap) && !isZero kie && neg kie == neg gap

/-- Is the integrator of axis c frozen (R212)? -/
def State.frozenAxis (s : State) (c e : Nat) : Bool :=
  !bitAt s.caxes c || s.cmode == 6 || s.cmode == 0 || decide (s.stagedWord 1 / 2 ^ 28 ≠ 0) ||
    (s.colRuns && decide (s.colPoint < 2) && decide (s.fld F.CTL_COL_CFG_TARGET = c)) || s.saturated c e

/-- I_c clamped so that |KI_c × I_c| ≤ ICL_c, and whether the clamp binds (R211). -/
def clampInt (ki icl i : Nat) : Nat × Bool :=
  let m := fmul ki i
  if flt icl (fabs m) then ((if flt m 0 then fneg (fdiv icl ki) else fdiv icl ki), true) else (i, false)

/-- The integrators move, unless frozen (R211); INT_RESET sets them to 0. -/
def State.integrate (s : State) (e : List Nat) : State :=
  let reset := bitAt (s.cmd 2 1) 0
  let one' (c : Nat) : Nat × Bool :=
    let i := nth s.ctl.integ c
    if reset then (0, false)
    else if s.frozenAxis c (nth e c) then (i, s.ctl.clamped.getD c false && bitAt s.caxes c)
    else clampInt (s.par (6 + c)) (s.par (9 + c)) (fadd i (fmul (nth e c) s.tbSec))
  let r := (List.range 3).map one'
  let began := (List.range 3).any fun c => (r.getD c (0, false)).2 && !s.ctl.clamped.getD c false
  let a := (s.modCtl fun k => { k with integ := r.map (·.1), clamped := r.map (·.2) }).setTo F.CTL_STATUS_INT_CLAMP (r.any (·.2))
  if began then a.raise 83 sevInfo srcCtl else a

/-- τ_fb of axis c but for the integrator's term (R209). -/
def State.tauBase (s : State) (c : Nat) (e ev : List Nat) : Nat :=
  if s.cmode = 0 then 0
  else if bitAt s.caxes c then
    dotN [(s.par c, nth e c), (s.par (3 + c), nth ev c), (one, s.tauEnv c), (one, s.tauWind c)]
  else if bitAt (s.cmd 2 1) 1 then fadd (s.cmd32 (32 + 4 * c)) (s.tauEnv c)
  else s.cmd32 (32 + 4 * c)

/-- The integrator's term: auto axes. -/
def State.tauInt (s : State) (c : Nat) : Nat :=
  if bitAt s.caxes c then fmul (s.par (6 + c)) (nth s.ctl.integ c) else 0

/-- The integrator of an axis that becomes auto, preloaded so that τ_fb equals the τ_0 of the last staged set (R204). -/
def State.preload (s : State) (became : Nat) (e ev : List Nat) : State :=
  let tb := s.lastTau
  let f (c : Nat) : Nat :=
    if !bitAt became c then nth s.ctl.integ c
    else if isZero (s.par (6 + c)) then 0
    else (clampInt (s.par (6 + c)) (s.par (9 + c)) (fdiv (fsub (nth tb c) (s.tauBase c e ev)) (s.par (6 + c)))).1
  s.modCtl fun k => { k with integ := (List.range 3).map f }

/-- τ_ff of step k: M a_r + D_L v_r in the body frame at the planned heading (R213). -/
def State.tauFf (s : State) (k : Nat) : List Nat :=
  let r := s.ctl.plan.atNs (s.at F.CDR_OFS_C_OUT_OFFSET) (fmul (fint k) (s.par 25))
  let a := toBody r.psi.1 r.acc
  let v := toBody r.psi.1 r.vel
  let m := f32sAt s.ctlSet 16 9
  let d := f32sAt s.ctlSet 52 9
  let av := [a.1, a.2, r.psi.2.2]
  let vv := [v.1, v.2, r.psi.2.1]
  (List.range 3).map fun c => dotN ((List.range 3).flatMap fun j => [(nth m (3 * c + j), nth av j), (nth d (3 * c + j), nth vv j)])

/-- τ_ref of the cycle, index 3k + c (R203, R213, R231). -/
def State.horizon (s : State) (fb : List Nat) : List Nat :=
  (List.range 20).flatMap fun k =>
    let ff := s.tauFf k
    (List.range 3).map fun c =>
      if s.cmode = 0 then 0
      else
        let v := if !bitAt s.caxes c then nth fb c
          else if s.on F.CTL_STATUS_FORCE_HOLD then nth s.lastTau c
          else fadd (nth fb c) (nth ff c)
        fadd v (s.colAdd 1 c)

/-! ### FUSION_DL (R195, R200 to R213) -/

/-- An axis becomes auto: its reference is set from the published state, with acceleration 0 (R204).  `became` has the
axes. -/
def State.takeRef (s : State) (became : Nat) (wasAuto : Nat) : State :=
  let r := s.refAt s.cdr.t0
  let psi := s.pub64 52
  let pub : Nat × Nat := s.pointPos
  let vel : Nat × Nat := (s.pub32 40, s.pub32 44)
  let keep (old new : Nat × Nat) : Nat × Nat :=
    if wasAuto % 4 = 0 ∧ became % 4 ≠ 0 then new
    else
      let d := toBody psi (vsub new old)
      vadd old (toEarth psi (if bitAt became 0 then d.1 else 0, if bitAt became 1 then d.2 else 0))
  let hor := bitAt became 0 || bitAt became 1
  let r1 : RefState := if hor then { r with pos := keep r.pos pub, vel := keep r.vel vel, acc := keep r.acc (0, 0) } else r
  let r2 : RefState := if bitAt became 2 then { r1 with psi := (psi, s.pub32 76, 0) } else r1
  s.modCtl fun c => { c with plan := c.plan.renew hor (bitAt became 2) s.cdr.t0 r2 c.target c.limits }

/-- A mode or axis request is settled (R200, R201, R203); whether it was accepted, and the axes that became auto. -/
def State.modeStep (s : State) : State × Bool × Nat :=
  if s.asked = (s.cmode, s.caxes) then (s, false, 0)
  else if s.refuses then ((s.setTo F.CTL_STATUS_MODE_REFUSED true).raise 82 sevNotice srcCtl, false, 0)
  else
    let was := s.caxes
    let became := (BitVec.ofNat 3 s.asked.2 &&& ~~~(BitVec.ofNat 3 was)).toNat
    let leave := decide (s.cmode = 0)
    let a := ((s.put F.CTL_MODE_MODE s.asked.1).put F.CTL_MODE_AXIS_AUTO s.asked.2).raise 82 sevNotice srcCtl
    let b := if a.on F.CTL_STATUS_FORCE_HOLD then (a.setTo F.CTL_STATUS_FORCE_HOLD false).raise 86 sevAlarm srcCtl else a
    let c := b.modCtl fun k => { k with tau0 := if leave then [0, 0, 0] else k.tau0, wp := 0 }
    (c.takeRef became was, true, became)

/-- Force hold begins: the published state is not aligned while an axis is auto (R203). -/
def State.forceHold (s : State) : State :=
  if !s.pubFlag 1 ∧ s.caxes ≠ 0 ∧ !s.on F.CTL_STATUS_FORCE_HOLD then
    (s.setTo F.CTL_STATUS_FORCE_HOLD true).raise 86 sevAlarm srcCtl
  else s

/-! ### The sector a thruster stands in (R222) -/

/-- The selected sector of a thruster, as CTL_SECTOR shows it. -/
def State.sector (s : State) (i : Nat) : Nat := bitsOf (s.rdn (blockOff Reg.CTL_SECTOR (4 * (i / 8)))) (4 * (i % 8) + 3) (4 * (i % 8))

/-- Select a sector. -/
def State.setSector (s : State) (i k : Nat) : State :=
  let off := blockOff Reg.CTL_SECTOR (4 * (i / 8))
  s.wrn off (putBits (s.rdn off) (4 * (i % 8) + 3) (4 * (i % 8)) k)

/-- Does a sector contain an angle? -/
def inSector (k : Nat × Nat) (az : Nat) : Bool := decide ((az + 65536 - k.1) % 65536 ≤ k.2)

/-- Distance round the circle. -/
def circDist (a b : Nat) : Nat := let d := (a + 65536 - b) % 65536; if d ≤ 32768 then d else 65536 - d

/-- The first position of the least number. -/
def argMin : List Nat → Nat
  | [] => 0
  | x :: xs => if xs.all fun y => decide (x ≤ y) then 0 else argMin xs + 1

/-- The sector for a measured azimuth: the lowest that contains it, or the one whose edge is nearest (R222). -/
def sectorFor (ss : List (Nat × Nat)) (az : Nat) : Nat :=
  match (ss.zipIdx).find? fun k => inSector k.1 az with
  | some k => k.2
  | none => argMin (ss.map fun k => Nat.min (circDist az k.1) (circDist az ((k.1 + k.2) % 65536)))

/-- The states of the thrusters are taken from THR_FB: EV085 for each change; one that becomes available outside its
selected sector takes its sector again (R221, R222). -/
def State.thrStep (s : State) : State :=
  forEach s.thrs (fun t a =>
    let old := a.thrState t.idx
    let new := a.fbState t.idx
    let off := blockOff Reg.CTL_THR_STATE (4 * (t.idx / 16))
    let dr := nth a.ctl.derates t.idx
    let b := if dr ≠ a.fbDerate t.idx then
        a.modCtl fun c => { c with derates := setAt c.derates t.idx (a.fbDerate t.idx), polyDue := c.polyDue ++ [t.idx] }
      else a
    if old = new then b
    else
      let w := putBits (b.rdn off) (2 * (t.idx % 16) + 1) (2 * (t.idx % 16)) new
      let c := ((b.wrn off w).raise1 85 sevNotice srcCtl t.idx).modCtl fun c => { c with powDue := c.powDue ++ [t.idx] }
      if new = 0 ∧ t.isAz ∧ !inSector (t.sects.getD (c.sector t.idx) (0, 0)) (c.fbAz t.idx) then
        ((c.setSector t.idx (sectorFor t.sects (c.fbAz t.idx))).raise1 84 sevInfo srcCtl t.idx).modCtl fun k =>
          { k with sectDue := k.sectDue ++ [t.idx], edges := setAt k.edges t.idx (0, 0) }
      else c) s

/-! ### The Collimation run (R229 to R232) -/

/-- CTL_COL_CYC. -/
def State.colCyc (s : State) : Nat := s.rd64 Reg.CTL_COL_CYC_LO Reg.CTL_COL_CYC_HI

/-- Enter a state of the run, with its cause. -/
def State.colGo (s : State) (st reason : Nat) : State :=
  ((s.put F.CTL_COL_STATUS_STATE st).put F.CTL_COL_STATUS_REASON reason).setTo F.CTL_STATUS_COLLIM (st == 2)

/-- The run aborts: u becomes 0 in that cycle (R232). -/
def State.colAbort (s : State) (reason : Nat) : State :=
  ((s.colGo 4 reason).modCtl fun c => { c with u := 0 }).raise 87 sevNotice srcCtl

/-- START: arms a run at CTL_COL_CYC, if that is in the future (R229). -/
def State.colStart (s : State) : State :=
  let st := s.fld F.CTL_COL_STATUS_STATE
  if st ≠ 1 ∧ st ≠ 2 ∧ s.cdr.cyc < s.colCyc then
    ((s.colGo 1 0).put F.CTL_COL_STATUS_SAMPLES 0).modCtl fun c => { c with capture := true, psi0 := none, u := 0, lfsr := 0x7FF }
  else s

def execCollimationStart (_req : Req) (s : State) : Host.Outcome State Fault Refusal :=
  s.gate 9 <| .next s.colStart

/-- STOP: aborts an ARMED or RUNNING run (R229). -/
def State.colStop (s : State) : State :=
  let st := s.fld F.CTL_COL_STATUS_STATE
  if st = 1 ∨ st = 2 then s.colAbort 6 else s

def execCollimationStop (_req : Req) (s : State) : Host.Outcome State Fault Refusal :=
  s.gate 9 <| .next s.colStop

/-- DUR cycles have passed (R229). -/
def State.colDone (s : State) : State :=
  if s.colRuns ∧ s.colCyc + s.fld F.CTL_COL_DUR_DUR ≤ s.cdr.cyc then
    ((s.colGo 3 0).modCtl fun c => { c with u := 0 }).raise 87 sevNotice srcCtl
  else s

def execCollimationDone (s : State) : Host.Outcome State Fault Refusal :=
  s.gate 9 <| .next s.colDone

/-- The conditions to start a run (R232). -/
def State.colMay (s : State) : Bool :=
  (s.colPoint == 2 || bitAt s.caxes (s.fld F.CTL_COL_CFG_TARGET)) && s.pubFlag 1 && !s.pubFlag 3 &&
    !s.on F.CTL_STATUS_SOLVER_LOST && !s.on F.CTL_STATUS_FORCE_HOLD

/-- At the sample instant of CTL_COL_CYC an armed run starts, or aborts (R229). -/
def State.colArm (s : State) : State :=
  if s.fld F.CTL_COL_STATUS_STATE ≠ 1 ∨ s.cdr.cyc ≠ s.colCyc then s
  else if s.colMay then (s.colGo 2 0).raise 87 sevNotice srcCtl
  else s.colAbort 1

/-- P1, of which 0 is taken as 1. -/
def State.colP1 (s : State) : Nat := let p := s.fld F.CTL_COL_TIME_P1; if p = 0 then 1 else p

/-- The PRBS register after a shift: taps x¹¹ + x⁹ + 1. -/
def lfsrNext (r : Nat) : Nat := (2 * r + (if bitAt r 10 != bitAt r 8 then 1 else 0)) % 2048

/-- SWEEP at cycle j (R230). -/
def State.sweep (s : State) (a j : Nat) : Nat :=
  let dur := s.fld F.CTL_COL_DUR_DUR
  let r := ffrac s.colP1 (s.fld F.CTL_COL_TIME_P2)
  let lr := (Config.ln r).toNat
  let t := fmul (fint dur) s.tbSec
  let f1 := fdiv one (fmul (fint s.colP1) s.tbSec)
  let x := fmul (ffrac j dur) lr
  fmul a (fsin (fdiv (fmul (fmul (fmul f2pi f1) t) (fsub (Config.exp x).toNat one)) lr))

/-- u(j) of the cycle (R230); the PRBS register shifts every P1 cycles. -/
def State.colShape (s : State) : State :=
  if !s.colRuns ∨ s.colCyc + s.fld F.CTL_COL_DUR_DUR ≤ s.cdr.cyc then s.modCtl fun c => { c with u := 0 }
  else
    let j := s.cdr.cyc - s.colCyc
    let a := f32to64 (s.rdn Reg.CTL_COL_AMP)
    let p1 := s.colP1
    match s.fld F.CTL_COL_CFG_SHAPE with
    | 1 => s.modCtl fun c => { c with u := if j < p1 then a else if j < 2 * p1 then fneg a else 0 }
    | 2 => s.modCtl fun c =>
        let r := if j = 0 then 0x7FF else if j % p1 = 0 then lfsrNext c.lfsr else c.lfsr
        { c with lfsr := r, u := if bitAt r 10 then a else fneg a }
    | 3 => s.modCtl fun c => { c with u := s.sweep a j }
    | _ => s.modCtl fun c => { c with u := a }

/-- The signal of the cycle: nothing is injected while a fallback is staged, `fb` (R254). -/
def State.colSignal (s : State) (fb : Bool) : State :=
  let a := s.colShape
  if fb then a.modCtl fun c => { c with u := 0 } else a

/-- The solver was lost in this cycle: a run aborts (R232). -/
def State.colLost (s : State) : State := if s.colRuns then s.colAbort 5 else s

/-- The abort conditions of R232, in the order of their REASON codes. -/
def State.colCheck (s : State) (e : List Nat) (modeNew : Bool) : State :=
  if !s.colRuns then s
  else
    let lim (f : Fld) (d : Nat) : Nat := let v := s.fld f; ffrac (if v = 0 then 1 else v) d
    let psi := fdiv (fmul (lim F.CTL_COL_ABORT_ABORT_PSI 100) fpi) (fint 180)
    if flt (lim F.CTL_COL_ABORT_ABORT_R 100) (vlen (nth e 0, nth e 1)) then s.colAbort 2
    else if flt psi (fabs (nth e 2)) then s.colAbort 3
    else if modeNew then s.colAbort 4
    else if s.on F.CTL_STATUS_SOLVER_LOST || s.on F.CTL_STATUS_FORCE_HOLD || s.pubFlag 3 then s.colAbort 5
    else s

/-- On a standby the last staged set is the mirrored one, whatever its SOURCE: a held set repeats the τ_0 of the set it
holds (R228), so its τ_0 bounds the next one (R214, R306, R307). -/
def State.baseTau (s : State) : State :=
  let src := s.stagedWord 1 / 2 ^ 28
  if s.red.base.isSome && !s.ctl.loadDue && src != 3 then s.modCtl fun c => { c with tau0 := s.lastTau } else s

/-- FUSION_DL: the engine takes the published state and the command block, and computes the demand (R195, R200 to R213);
`fb`: Ephemeris is about to stage a fallback (R254). -/
def State.ctlFusion (s : State) (fb : Bool) : State :=
  if !s.on F.CTL_CTRL_ENABLE then s
  else
    let m := s.baseTau.modeStep
    let a := (m.1.forceHold.thrStep).profileStep (m.2.1 && m.1.cmode != s.cmode)
    let er := a.errors
    let b := ((a.colCheck er.1 m.2.1).colSignal fb).modCtl fun c => { c with psi0 := if a.cdr.cyc = a.colCyc then some (a.pub64 52) else c.psi0 }
    let e := b.tamBand (b.injected er.1 (b.colAdd 0))
    let c := (b.windStep.preload m.2.2 e er.2).integrate e
    let fb := (List.range 3).map fun k => fadd (c.tauBase k e er.2) (c.tauInt k)
    c.modCtl fun k => { k with tauRef := c.horizon fb, err := e }

end Sys2Proof.Machine
end

