-- ==== Sys2Proof/Machine/Alloc.lean ====
section
/-! DEFINITION. The allocation problem of the control engine (R214 to R228, R233): the structures it builds, the delta
lists of a cycle, the conversion of a solution, and the control-engine region of the staging buffer. -/

namespace Sys2Proof.Machine

/-! ### Rows of the allocation (R215 to R219, R240) -/

/-- A row of the primary or of a scenario structure. -/
inductive RowTag where
  /-- Horizon row of step k, axis c (R214). -/
  | tau (k c : Nat)
  /-- Force balance of axis c. -/
  | bal (c : Nat)
  /-- Side j of thruster i's polygon (R216). -/
  | poly (i j : Nat)
  /-- Edge e of thruster i's selected sector: 0 counter-clockwise, 1 clockwise (R217). -/
  | sect (i e : Nat)
  /-- Fx or Fy (c = 0 or 1) of a tunnel. -/
  | tunnel (i c : Nat)
  /-- Rate row of an azimuth thruster's Fx or Fy. -/
  | rate (i c : Nat)
  /-- Power piece j (R218). -/
  | power (i j : Nat)
  /-- Section power (R219). -/
  | busSec (k : Nat)
  /-- p_i ≥ 0. -/
  | pos (i : Nat)
  deriving DecidableEq, Repr

/-- The rows in the order of R215, without the horizon. -/
def allocTags (ts : List Thr) (sides : Nat) : List RowTag :=
  let az := ts.filter (·.isAz)
  let tn := ts.filter fun t => !t.isAz
  let bal : List RowTag := (List.range 3).map RowTag.bal
  let poly : List RowTag := az.flatMap fun t => (List.range sides).map (RowTag.poly t.idx)
  let sect : List RowTag := az.flatMap fun t => [RowTag.sect t.idx 0, RowTag.sect t.idx 1]
  let tun : List RowTag := tn.flatMap fun t => [RowTag.tunnel t.idx 0, RowTag.tunnel t.idx 1]
  let rate : List RowTag := az.flatMap fun t => [RowTag.rate t.idx 0, RowTag.rate t.idx 1]
  let pow : List RowTag := ts.flatMap fun t => (List.range 4).map (RowTag.power t.idx)
  let sec : List RowTag := (thrSections ts).map RowTag.busSec
  let pos : List RowTag := ts.map fun t => RowTag.pos t.idx
  List.flatten [bal, poly, sect, tun, rate, pow, sec, pos]

/-- The rows of the primary structure. -/
def primaryTags (ts : List Thr) (sides : Nat) : List RowTag :=
  ((List.range 20).flatMap fun k => (List.range 3).map (.tau k)) ++ allocTags ts sides

/-- +∞. -/
def finf : Nat := fmt64.inf
/-- −∞. -/
def fninf : Nat := fneg fmt64.inf

/-- The thruster of an index. -/
def thrOf (ts : List Thr) (i : Nat) : Thr := (ts.find? fun t => t.idx == i).getD (thrAt [] i)

/-- The place of a thruster among those that count. -/
def thrPos (ts : List Thr) (i : Nat) : Nat := ts.findIdx fun t => t.idx == i

/-- An angle in units of π/32,768 as radians. -/
def unitRad (u : Int) : Nat := ffrac (u * (piNum : Int)) (32768 * piDen)

/-- P(q · T_MAX) of R218. -/
def Thr.pow (t : Thr) (q : Nat) : Nat := fadd t.idle (fmul (fsub t.rated t.idle) (fmul q (fsqrt q)))

/-- Slope and intercept of chord j (R218). -/
def Thr.chord (t : Thr) (j : Nat) : Nat × Nat :=
  let d := if t.isAz then 4 else 2
  let q1 := ffrac j d
  let q2 := ffrac (j + 1) d
  let a := fdiv (fsub (t.pow q2) (t.pow q1)) (fmul (fsub q2 q1) t.tmax)
  (a, fsub (t.pow q1) (fmul a (fmul q1 t.tmax)))

/-- The selected sector of a thruster: START and WIDTH. -/
def State.selSect (s : State) (t : Thr) : Nat × Nat := t.sects.getD (s.sector t.idx) (0, 0)

/-- Coefficients of Fx, Fy of a sector row (R217) or of a power piece (R218) in the selected sector. -/
def State.sectCoef (s : State) (t : Thr) (tag : RowTag) : Nat × Nat :=
  let k := s.selSect t
  let cos (u : Int) : Nat := (fcos (unitRad u))
  let sin (u : Int) : Nat := (fsin (unitRad u))
  let lo := sgn 16 k.1
  let hi := lo + (k.2 : Int)
  match tag with
  | .sect _ 0 => (fneg (sin lo), cos lo)
  | .sect _ _ => (sin hi, fneg (cos hi))
  | .power _ j =>
    let mid := ffrac ((2 * lo + (k.2 : Int)) * (piNum : Int)) (65536 * piDen)
    let w := ffrac ((k.2 : Int) * (piNum : Int)) (65536 * piDen)
    let f := fdiv (t.chord j).1 (fcos w)
    (fmul f (fcos mid), fmul f (fsin mid))
  | _ => (0, 0)

/-- θ_j of an S-sided polygon. -/
def polyAngle (sides j : Nat) : Nat := ffrac (((2 * j + 1) * piNum : Nat)) (sides * piDen)

/-- The coefficients of a row, by column; `base` is the column of the first force, `tau` whether the horizon is in the
problem (R215, R240).  A balance term whose coefficient is 0 is left out. -/
def State.rowCoef (s : State) (ts : List Thr) (sides base : Nat) (tau : Bool) (tag : RowTag) : List (Nat × Nat) :=
  let fx (i : Nat) : Nat := base + 2 * thrPos ts i
  let p (i : Nat) : Nat := base + 2 * ts.length + thrPos ts i
  let slack := base + 3 * ts.length
  let sg (v : Nat) : Nat := if tau then fneg v else v
  match tag with
  | .tau 0 c => [(c, one)]
  | .tau k c => [(3 * (k - 1) + c, negOne), (3 * k + c, one)]
  | .bal c =>
    let term (t : Thr) : List (Nat × Nat) :=
      match c with
      | 0 => [(fx t.idx, sg one)]
      | 1 => [(fx t.idx + 1, sg one)]
      | _ => [(fx t.idx, sg (fneg t.y)), (fx t.idx + 1, sg t.x)]
    (if tau then [(c, one)] else []) ++ ((ts.flatMap term).filter fun e => !isZero e.2) ++ [(slack + c, sg one)]
  | .poly i j => [(fx i, (fcos (polyAngle sides j))), (fx i + 1, (fsin (polyAngle sides j)))]
  | .sect i e => let k := s.sectCoef (thrOf ts i) (.sect i e); [(fx i, k.1), (fx i + 1, k.2)]
  | .tunnel i c => [(fx i + c, one)]
  | .rate i c => [(fx i + c, one)]
  | .power i j =>
    let t := thrOf ts i
    if t.isAz then let k := s.sectCoef t (.power i j); [(fx i, k.1), (fx i + 1, k.2), (p i, negOne)]
    else [(fx i + 1, if j < 2 then (t.chord j).1 else fneg (t.chord (j - 2)).1), (p i, negOne)]
  | .busSec k => (ts.filter fun t => t.sec == k).map fun t => (p t.idx, one)
  | .pos i => [(p i, one)]

/-- DERATE of a thruster as a fraction. -/
def State.derate (s : State) (i : Nat) : Nat := ffrac (s.fbDerate i) 100

/-- T_eff. -/
def State.teff (s : State) (t : Thr) : Nat := fmul t.tmax (s.derate t.idx)

/-- THR_RATE × T_base. -/
def State.thrDelta (s : State) (t : Thr) : Nat := fmul t.rate s.tbSec

/-- SEC_AVAIL_k; negative values are taken as 0. -/
def State.secAvail (s : State) (k : Nat) : Nat := fmax 0 (s.cmd32 (48 + 4 * k))

/-- Bound −b_j of a power row (R218). -/
def Thr.powUpper (t : Thr) (j : Nat) : Nat := fneg (t.chord (if t.isAz then j else j % 2)).2

/-- Bound of a power row by the thruster's STATE (R218, R221). -/
def State.powBound (s : State) (t : Thr) (j : Nat) : Nat :=
  if s.thrState t.idx = 1 ∨ s.thrState t.idx = 3 then finf else t.powUpper j

/-- Bound of a polygon row (R216). -/
def State.polyBound (s : State) (t : Thr) (sides : Nat) : Nat :=
  fmul (s.teff t) (fcos (ffrac piNum (sides * piDen)))

/-- Rate bounds of component c of a thruster (R221). -/
def State.rateBounds (s : State) (t : Thr) (c : Nat) : Nat × Nat :=
  let f := if c = 0 then (s.fprev t).1 else (s.fprev t).2
  let d := s.thrDelta t
  match s.thrState t.idx with
  | 0 => if t.isAz then (fsub f d, fadd f d) else (fmax (fneg (s.teff t)) (fsub f d), fmin (s.teff t) (fadd f d))
  | 2 => (f, f)
  | _ => (0, 0)

/-- TAU_RATE_c. -/
def State.tauRate (s : State) (c : Nat) : Nat := s.par (22 + c)

/-- The bounds of a row of the primary structure (R214 to R221). -/
def State.primaryBounds (s : State) (ts : List Thr) (sides : Nat) (tag : RowTag) : Nat × Nat :=
  match tag with
  | .tau 0 c => let d := fmul (s.tauRate c) s.tbSec; let t := nth s.ctl.tau0 c; (fsub t d, fadd t d)
  | .tau _ c => let d := fmul (s.tauRate c) (s.par 25); (fneg d, d)
  | .bal _ => (0, 0)
  | .poly i _ => (fninf, s.polyBound (thrOf ts i) sides)
  | .sect _ _ => (0, finf)
  | .tunnel i c => if c = 0 then (0, 0) else s.rateBounds (thrOf ts i) 1
  | .rate i c => s.rateBounds (thrOf ts i) c
  | .power i j => (fninf, s.powBound (thrOf ts i) j)
  | .busSec k => (fninf, s.secAvail k)
  | .pos _ => (0, finf)

/-- The variables of the allocation alone: forces, powers, slacks. -/
def allocVars (ts : List Thr) : Nat := 3 * ts.length + 3

/-- Diagonal of P over the allocation variables: W_F, stored zeros, W_S_c (R215). -/
def State.allocP (s : State) (ts : List Thr) : List Nat :=
  List.replicate (2 * ts.length) (s.par 30) ++ List.replicate ts.length 0 ++ (List.range 3).map fun c => s.par (32 + c)

/-- q over the allocation variables: W_P in the power entries. -/
def State.allocQ (s : State) (ts : List Thr) : List Nat :=
  List.replicate (2 * ts.length) 0 ++ List.replicate ts.length (s.par 31) ++ [0, 0, 0]

/-- W_TRK_c × GAMMA^k. -/
def State.trkW (s : State) (k c : Nat) : Nat := fmul (s.par (27 + c)) (fpow (s.par 26) k)

/-- q of the horizon (R214). -/
def State.tauQ (s : State) : List Nat :=
  (List.range 60).map fun i => fneg (fmul (s.trkW (i / 3) (i % 3)) (nth s.ctl.tauRef i))

/-! ### Structures (R156 to R159) -/

/-- The entries of rows in column order: row, column, value. -/
def cscOrder (n : Nat) (rows : List (List (Nat × Nat))) : List (Nat × Nat × Nat) :=
  let es := (rows.zipIdx).flatMap fun r => r.1.map fun e => (r.2, e.1, e.2)
  (List.range n).flatMap fun j => es.filter fun e => e.2.1 == j

/-- Column pointers of entries in column order. -/
def cscPtr (n : Nat) (es : List (Nat × Nat × Nat)) : List Nat :=
  (List.range (n + 1)).map fun j => (es.filter fun e => decide (e.2.1 < j)).length

/-- The identity of a structure: the CRC-32C of its shape block (R158). -/
def shapeId (ty n m nnzA nnzP rho sigma : Nat) (idx : List Nat) : Nat :=
  crc32c (leBytes 1 ty ++ leBytes 2 n ++ leBytes 2 m ++ leBytes 2 nnzA ++ leBytes 2 nnzP ++ leBytes 8 rho ++ leBytes 8 sigma ++
    idx.flatMap (leBytes 2))

/-- A QP-ADMM structure with diagonal P, as a unit of the device builds it. -/
def qpStruct (p q : List Nat) (rows : List (List (Nat × Nat))) (bnd : List (Nat × Nat)) (rho sigma : Nat) : Struct :=
  let n := p.length
  let m := rows.length
  let es := cscOrder n rows
  let pp := List.range (n + 1)
  let pi := List.range n
  let ap := cscPtr n es
  let ai := es.map (·.1)
  let k := es.length
  ⟨1, 1, n, m, k, n, rho, sigma, footprint 1 n m k n, shapeId 1 n m k n rho sigma (pp ++ pi ++ ap ++ ai), 0, 0, 0, pp, pi, ap, ai,
    [q, bnd.map (·.1), bnd.map (·.2), [], p, es.map (·.2.2), List.replicate n 0, List.replicate m 0, List.replicate m 0],
    [], [], true⟩

/-- ρ and σ of the control set. -/
def State.rhoSigma (s : State) : Nat × Nat := (fieldLe s.ctlSet 100 8, fieldLe s.ctlSet 108 8)

/-- The primary structure from the active control set (R215). -/
def State.primaryStruct (s : State) : Struct :=
  let ts := s.thrs
  let sides := polySides s.ctlSet
  let tags := primaryTags ts sides
  qpStruct (((List.range 60).map fun i => s.trkW (i / 3) (i % 3)) ++ s.allocP ts) (s.tauQ ++ s.allocQ ts)
    (tags.map (s.rowCoef ts sides 60 true)) (tags.map (s.primaryBounds ts sides)) s.rhoSigma.1 s.rhoSigma.2

/-- At a structure build each azimuth thruster takes the sector of its measured azimuth (R222). -/
def State.takeSectors (s : State) : State :=
  let ts := s.thrs
  let blank := ((s.wrn Reg.CTL_SECTOR 0xFFFFFFFF).wrn (Reg.CTL_SECTOR + 4) 0xFFFFFFFF).wrn (Reg.CTL_SECTOR + 8) 0xFFFFFFFF
  forEach (ts.filter (·.isAz)) (fun t a => a.setSector t.idx (sectorFor t.sects (a.fbAz t.idx))) blank

/-! ### Delta lists (R220, R221) -/

/-- The place of an A entry in column order. -/
def aPlace (rows : List (List (Nat × Nat))) (n r c : Nat) : Nat :=
  (cscOrder n rows).findIdx fun e => e.1 == r && e.2.1 == c

/-- Records that set l and u of a row. -/
def boundRecs (tags : List RowTag) (tag : RowTag) (b : Nat × Nat) : List Delta :=
  let r := tags.findIdx (· == tag)
  [⟨1, r, b.1⟩, ⟨2, r, b.2⟩]

/-- The record that sets u of a row. -/
def upperRec (tags : List RowTag) (tag : RowTag) (u : Nat) : List Delta := [⟨2, tags.findIdx (· == tag), u⟩]

/-- The records of changes of sector, DERATE and STATE, for a structure with these rows (R218, R220, R242). -/
def State.changeRecs (s : State) (ts : List Thr) (sides base : Nat) (tau : Bool) (tags : List RowTag)
    (sect poly pow : List Nat) : List Delta :=
  let rows := tags.map (s.rowCoef ts sides base tau)
  let n := base + allocVars ts
  let coefs (tag : RowTag) : List Delta :=
    let r := tags.findIdx (· == tag)
    ((s.rowCoef ts sides base tau tag).take 2).map fun e => ⟨5, aPlace rows n r e.1, e.2⟩
  (sect.eraseDups.flatMap fun i => (([.sect i 0, .sect i 1] : List RowTag) ++ (List.range 4).map (RowTag.power i)).flatMap coefs) ++
    (poly.eraseDups.flatMap fun i => if (thrOf ts i).isAz then
      (List.range sides).flatMap fun j => upperRec tags (.poly i j) (s.polyBound (thrOf ts i) sides) else []) ++
    (pow.eraseDups.flatMap fun i => (List.range 4).flatMap fun j => upperRec tags (.power i j) (s.powBound (thrOf ts i) j))

/-- The delta list of the primary job (R220). -/
def State.primaryDeltas (s : State) : List Delta :=
  let ts := s.thrs
  let sides := polySides s.ctlSet
  let tags := primaryTags ts sides
  let both (tag : RowTag) : List Delta := boundRecs tags tag (s.primaryBounds ts sides tag)
  let w := if s.ctl.wDue then
      (((List.range 60).map fun i => s.trkW (i / 3) (i % 3)) ++ s.allocP ts).zipIdx.map fun p => (⟨4, p.2, p.1⟩ : Delta)
    else []
  let h := if s.ctl.hzDue then
      ((s.allocQ ts).zipIdx.map fun p => (⟨0, 60 + p.2, p.1⟩ : Delta)) ++
        (List.range 57).flatMap fun i => both (.tau (1 + i / 3) (i % 3))
    else []
  (s.tauQ.zipIdx.map fun p => ⟨0, p.2, p.1⟩) ++ (List.range 3).flatMap (fun c => both (.tau 0 c)) ++
    (ts.flatMap fun t => if t.isAz then both (.rate t.idx 0) ++ both (.rate t.idx 1) else both (.tunnel t.idx 1)) ++
    ((thrSections ts).flatMap fun k => upperRec tags (.busSec k) (s.secAvail k)) ++
    s.changeRecs ts sides 60 true tags s.ctl.sectDue s.ctl.polyDue s.ctl.powDue ++ w ++ h

/-! ### The primary job (R195, R199) -/

/-- The structure slot of the primary structure. -/
def primarySlot : Nat := 0

/-- FUSION_DL + 12 µs. -/
def State.postAt (s : State) : Nat := s.at F.CDR_OFS_A_FUSION_DL + 12000

/-- Post the primary descriptor, or the LOAD of a rebuilt structure in place of the cycle's QP.  The cycle of the LOAD that
follows an accepted set is staged as in STANDBY (R199); that of a LOAD after a mismatch or a failed LOAD is a miss (R223). -/
def State.primaryPost (s : State) : State :=
  match s.planSlot 2 0 with
  | none => s
  | some p =>
    if !s.on F.CTL_CTRL_ENABLE ∨ !s.ctlHas then s
    else if s.ctl.loadDue then
      let a := s.takeSectors
      let st := a.primaryStruct
      let d : JobDesc := { loadDesc p.1 p.2.eng primarySlot a.cdr.cyc [] with img := some st }
      let b := a.modCtl fun c => { c with loadDue := false, loadSet := false, loadCyc := c.loadSet, sectDue := [], polyDue := [], powDue := [], wDue := false, hzDue := false }
      b.postJob .control d none
    else
      let d : JobDesc := { unitDesc 1 p.1 p.2.eng primarySlot s.primaryStruct.sid s.cdr.cyc with
        ctrl := 0x41, countA := fieldLe s.ctlSet 116 2, deltas := some s.primaryDeltas, deltaCount := s.primaryDeltas.length }
      (s.modCtl fun c => { c with sectDue := [], polyDue := [], powDue := [], wDue := false, hzDue := false }).postJob .control d none

/-! ### From solution to staged words (R224, R225) -/

/-- Which rate row the conversion clips to (R224, R251). -/
def State.convBounds (s : State) (fb : Bool) (t : Thr) (c : Nat) : Nat × Nat :=
  if fb then
    let f := if c = 0 then (s.fprev t).1 else (s.fprev t).2
    let d := s.thrDelta t
    (fmax (fneg (s.teff t)) (fmin 0 (fsub f d)), fmin (s.teff t) (fmax 0 (fadd f d)))
  else s.rateBounds t c

/-- The nearest point of a sector (R224). -/
def State.toSector (s : State) (t : Thr) (f : Nat × Nat) : Nat × Nat :=
  let k := s.selSect t
  let a := s.sectCoef t (.sect 0 0)
  let b := s.sectCoef t (.sect 0 1)
  let dot (u v : Nat × Nat) : Nat := dotN [(u.1, v.1), (u.2, v.2)]
  if fle 0 (dot a f) && fle 0 (dot b f) then f
  else
    let ray (u : Int) : Nat × Nat := ((fcos (unitRad u)), (fsin (unitRad u)))
    let lo := ray (sgn 16 k.1)
    let hi := ray (sgn 16 k.1 + (k.2 : Int))
    let tl := fmax 0 (dot lo f)
    let th := fmax 0 (dot hi f)
    if flt tl th then vscale th hi else vscale tl lo

/-- cos θ_j Fx + sin θ_j Fy over the sides of the polygon. -/
def sideValues (sides : Nat) (f : Nat × Nat) : List Nat :=
  (List.range sides).map fun j =>
    dotN [((fcos (polyAngle sides j)), f.1), ((fsin (polyAngle sides j)), f.2)]

/-- Scale a force down onto the polygon where it lies outside. -/
def State.toPolygon (s : State) (t : Thr) (sides : Nat) (f : Nat × Nat) : Nat × Nat :=
  let r := s.polyBound t sides
  let m := (sideValues sides f).foldl fmax 0
  if flt r m then vscale (fdiv r m) f else f

/-- Scale a force toward the previous one until it is inside the polygon. -/
def State.towardPrev (s : State) (t : Thr) (sides : Nat) (f : Nat × Nat) : Nat × Nat :=
  let r := s.polyBound t sides
  let p := s.fprev t
  let k := ((sideValues sides f).zip (sideValues sides p)).foldl (fun a g =>
    if flt r g.1 then fmin a (fmax 0 (fdiv (fsub r g.2) (fsub g.1 g.2))) else a) one
  if k = one then f else vadd p (vscale k (vsub f p))

/-- The last clockwise edge of a thruster's sectors, from the first counter-clockwise one, units of π/32,768. -/
def Thr.span (t : Thr) : Nat :=
  let first := t.sects.getD 0 (0, 0)
  let last := t.sects.getD (t.sects.length - 1) (0, 0)
  (last.1 + 65536 - first.1) % 65536 + last.2

/-- The allowed direction nearest to an angle: itself, or the edge of the forbidden direction that it lies nearer to (R198,
R224). -/
def Thr.allowed (t : Thr) (sol : Nat) : Nat :=
  if sectFull t.sects then sol
  else
    let first := sgn 16 (t.sects.getD 0 (0, 0)).1
    let o := fturn (fsub sol (unitRad first))
    if fle o (unitRad (t.span : Nat)) then sol
    else if flt (fsub o (unitRad (t.span : Nat))) (fsub f2pi o) then unitRad (first + (t.span : Nat)) else unitRad first

/-- How far, counter-clockwise, a thruster of a set with a forbidden direction turns from an angle to an allowed one, through allowed
directions only (R224): from an angle inside the forbidden direction it goes out over the nearer edge, and on from there (DESIGN
CHOICE, log entry 45). -/
def Thr.turn (t : Thr) (goal prev : Nat) : Nat :=
  let orig := unitRad (sgn 16 (t.sects.getD 0 (0, 0)).1)
  let span := unitRad (t.span : Nat)
  let g := fmin (fturn (fsub goal orig)) span
  let p := fturn (fsub prev orig)
  if flt span p && !flt (fsub p span) (fsub f2pi p) then fadd g (fsub f2pi p) else fsub g p

/-- The angle a thruster turns to: toward `sol` by at most AZ_RATE × T_base, through allowed directions only; a direction
inside the forbidden one is approached up to its nearer edge. -/
def State.turnTo (s : State) (t : Thr) (sol : Nat) : Nat :=
  let prev := s.prevAngle t
  let lim := fmul t.az s.tbSec
  let goal := t.allowed sol
  let d := if sectFull t.sects then angleDiff goal prev else t.turn goal prev
  if fle (fabs d) lim then goal else fadd prev (if flt d 0 then fneg lim else lim)

/-- Thrust and angle of a thruster from a solution's force (R224); `fb` for a fallback. -/
def State.convThr (s : State) (fb : Bool) (sides : Nat) (t : Thr) (f : Nat × Nat) : Nat × Nat :=
  match s.thrState t.idx with
  | 0 =>
    if t.isAz then
      let g := s.toPolygon t sides (s.toSector t f)
      let cl (c v : Nat) : Nat := let b := s.convBounds fb t c; fclamp b.1 b.2 v
      let h := s.towardPrev t sides (cl 0 g.1, cl 1 g.2)
      let m := vlen h
      let sol := if flt m (fmul (s.par 40) t.tmax) then s.prevAngle t else (fatan2 h.2 h.1)
      let phi := s.turnTo t sol
      (fmul m (fmax 0 (fcos (fsub sol phi))), phi)
    else let b := s.convBounds fb t 1; (fclamp b.1 b.2 f.2, unitRad 16384)
  | 2 => (s.prevThrust t, s.prevAngle t)
  | _ => (0, s.prevAngle t)

/-- THRUSTER injection of a Collimation run: a fraction of T_MAX, then clipped to rate row and polygon (R231). -/
def State.injectThr (s : State) (sides : Nat) (t : Thr) (v : Nat × Nat) : Nat × Nat :=
  if !(s.colRuns && s.colPoint == 2 && s.fld F.CTL_COL_CFG_TARGET == t.idx) then v
  else
    let f := fadd v.1 (fmul s.ctl.u t.tmax)
    if t.isAz then
      let c := (fcos v.2)
      let n := (fsin v.2)
      let cl (k x : Nat) : Nat := let b := s.rateBounds t k; fclamp b.1 b.2 x
      let h := s.toPolygon t sides (cl 0 (fmul f c), cl 1 (fmul f n))
      (dotN [(h.1, c), (h.2, n)], v.2)
    else let b := s.rateBounds t 1; (fclamp b.1 b.2 f, v.2)

/-- CMD of a thruster: ANGLE and THRUST, rounded to nearest, ties to even; THRUST saturates (R225). -/
def cmdWord (t : Thr) (v : Nat × Nat) : Word :=
  let ang := fmt64.toIntScaled (fdiv v.2 fpi) 32768 true
  let thr := clampI (-32768) 32767 (fmt64.toIntScaled (fdiv v.1 t.tmax) 32768 true)
  w32 (code 16 ang * 65536 + code 16 thr)

/-- FLAGS of a thruster (R225). -/
def State.thrFlags (s : State) (t : Thr) (active : Bool) (p : Nat) : Word :=
  let st := s.thrState t.idx
  let act := active && s.cmode != 0 && (st == 0 || st == 2)
  let kw := satN 65535 (fmt64.toIntScaled (fdiv p (fint 1000)) 1 true).toNat
  w32 (b2n act * 2 ^ 31 + b2n (st == 2) * 2 ^ 30 + b2n (st == 2) * 2 ^ 29 + (if t.isAz then s.sector t.idx else 15) * 2 ^ 24 + kw)

/-- SOURCE codes of word 1. -/
def srcPrimary : Nat := 0
/-- Held. -/
def srcHeld : Nat := 1
/-- Fallback. -/
def srcFallback : Nat := 2
/-- None: INIT or DIAGNOSTIC (R308). -/
def srcNone : Nat := 3

/-- Word 1 of the region. -/
def State.word1 (s : State) (source : Nat) (miss : Bool) : Word :=
  w32 (source * 2 ^ 28 + s.cmode * 2 ^ 24 + s.caxes * 2 ^ 21 + b2n miss * 2 ^ 20 + b2n s.colRuns * 2 ^ 19 +
    b2n (s.on F.CTL_STATUS_FORCE_HOLD) * 2 ^ 18)

/-- Words 2 to 55 of the region from a solution: τ_0, slack, thrusters' forces and powers; `lost` names thrusters staged
as lost (R224, R225, R251). -/
def State.convWords (s : State) (fb : Bool) (lost : List Nat) (tau slack : List Nat) (force : Thr → Nat × Nat) (p : Thr → Nat) : List Word :=
  let sides := polySides s.ctlSet
  let ts := s.thrs
  let thr (i : Nat) : List Word :=
    match ts.find? fun t => t.idx == i with
    | none => [0, 0]
    | some t =>
      if lost.contains i then [cmdWord t (0, s.prevAngle t), s.thrFlags t false 0]
      else
        let v := s.convThr fb sides t (force t)
        let v' := if fb then v else s.injectThr sides t v
        [cmdWord t v', s.thrFlags t true (p t)]
  (tau.map fun x => w32 (f64to32 x)) ++ (slack.map fun x => w32 (f64to32 x)) ++ (List.range 24).flatMap thr

/-! ### The primary result (R222, R223, R228) -/

/-- The direction of a solution counts toward an edge: 1 counter-clockwise, 2 clockwise, 0 none (R222). -/
def State.edgeOf (s : State) (t : Thr) (f : Nat × Nat) : Nat :=
  let k := s.sector t.idx
  let n := t.sects.length
  let full := sectFull t.sects
  let sel := s.selSect t
  let phi := (fatan2 f.2 f.1)
  let near (u : Int) : Bool := fle (fabs (angleDiff phi (unitRad u))) (s.par 41)
  if flt (vlen f) (fmul (s.par 40) t.tmax) then 0
  else if near (sgn 16 sel.1) && (full || decide (0 < k)) then 1
  else if near (sgn 16 sel.1 + (sel.2 : Int)) && (full || decide (k + 1 < n)) then 2
  else 0

/-- The sector across an edge. -/
def sectAcross (n k e : Nat) : Nat := if e = 1 then (k + n - 1) % n else (k + 1) % n

/-- SECTOR_DWELL. -/
def State.dwell (s : State) : Nat := let d := s.fld F.CTL_MISS_SECTOR_DWELL; if d = 0 then 1 else d

/-- A thruster whose count toward an edge has reached SECTOR_DWELL takes the sector across it in the next cycle, where its
measured azimuth lies in it (R222). -/
def State.sectReach (s : State) (t : Thr) : State :=
  let c := s.ctl.edges.getD t.idx (0, 0)
  let nk := sectAcross t.sects.length (s.sector t.idx) c.1
  if c.1 ≠ 0 ∧ s.dwell ≤ c.2 ∧ inSector (t.sects.getD nk (0, 0)) (s.fbAz t.idx) then
    let a := s.modCtl fun c => { c with nextSect := c.nextSect ++ [(t.idx, nk)], edges := setAt c.edges t.idx (0, 0) }
    ((a.bump F.CTL_CNT_SECT 1).setTo F.CTL_STATUS_SECT_SWITCH true).raise1 84 sevInfo srcCtl t.idx
  else s

/-- After a used solution, count its direction toward an edge and decide on a change of sector (R222). -/
def State.sectDecide (s : State) (t : Thr) (f : Nat × Nat) : State :=
  let e := s.edgeOf t f
  let old := s.ctl.edges.getD t.idx (0, 0)
  let cnt := if e = 0 then 0 else if old.1 = e then old.2 + 1 else 1
  (s.modCtl fun c => { c with edges := setAt c.edges t.idx (e, cnt) }).sectReach t

/-- The sectors chosen in the last cycle become the selected ones. -/
def State.sectApply (s : State) : State :=
  (forEach s.ctl.nextSect (fun p a => (a.setSector p.1 p.2).modCtl fun c => { c with sectDue := c.sectDue ++ [p.1] }) s).modCtl
    fun c => { c with nextSect := [] }

/-- A result of the primary job (R223): a new DONE or DEADLINE_ITER result of this cycle, before SOLVE_DL, is used. -/
def State.primaryResult (s : State) (d : JobDesc) (r : JobRes) : State :=
  let a := s.modCtl fun c => { c with lastSeq := r.seq }
  if d.ty = 14 then (if r.status = stDone then a else a.modCtl fun c => { c with loadDue := true })
  else if r.status = stMismatch then a.modCtl fun c => { c with loadDue := true }
  else if s.ctl.lastSeq = r.seq ∨ d.cycLo ≠ s.cdr.cyc % 2 ^ 32 ∨ s.ctl.closed ∨ s.at F.CDR_OFS_B_SOLVE_DL ≤ s.now ∨ (r.status ≠ stDone ∧ r.status ≠ stDlIter) then a
  else
    let ts := s.thrs
    let x := f64sAt r.payload 0 (60 + allocVars ts)
    let sl := (List.range 3).map fun c => nth x (60 + 3 * ts.length + c)
    let force (t : Thr) : Nat × Nat := (nth x (60 + 2 * thrPos ts t.idx), nth x (61 + 2 * thrPos ts t.idx))
    let p (t : Thr) : Nat := nth x (60 + 2 * ts.length + thrPos ts t.idx)
    let w := a.convWords false [] (x.take 3) sl force p
    let sol := ((List.range 3).map fun c => nth s.ctl.tauRef c, (List.range 3).map fun c => fsub (nth x c) (nth sl c))
    let b := a.modCtl fun c => { c with conv := some w, prevSol := some sol }
    let c := if r.status = stDlIter then (b.setTo F.CTL_STATUS_ITER_USED true).bump F.CTL_CNT_ITER 1 else b
    forEach (ts.filter (·.isAz)) (fun t a => a.sectDecide t (force t)) c

/-! ### SOLVE_DL (R226 to R228) -/

/-- Write words of the staging buffer from an index on. -/
def State.bufWords (s : State) (i : Nat) (ws : List Word) : State :=
  { s with cdr := { s.cdr with buf := (ws.zipIdx).foldl (fun b p => sset (fun _ => (0 : Word)) b (i + p.2) p.1) s.cdr.buf } }

/-- The unit is in INIT or DIAGNOSTIC: RSTATE 0 or 3. -/
def State.noSource (s : State) : Bool := s.fld F.RDN_STATUS_RSTATE == 0 || s.fld F.RDN_STATUS_RSTATE == 3

/-- Stage a set: words 0 and 1, and words 2 to 55 where they are new. -/
def State.stageRegion (s : State) (source : Nat) (miss : Bool) (ws : List Word) : State :=
  let src := if s.noSource then srcNone else source
  (s.bufWords 0 [w32 s.cdr.cyc, s.word1 src miss]).bufWords 2 ws

/-- MISS_LIMIT. -/
def State.missLimit (s : State) : Nat := let l := s.fld F.CTL_MISS_MISS_LIMIT; if l = 0 then 1 else l

/-- MISS_RUN has reached MISS_LIMIT: SOLVER_LOST (R227), which aborts a Collimation run in that cycle (R232). -/
def State.solverLost (s : State) : State :=
  if s.missLimit ≤ s.fld F.CTL_MISS_MISS_RUN ∧ !s.on F.CTL_STATUS_SOLVER_LOST then
    ((s.setTo F.CTL_STATUS_SOLVER_LOST true).raise 81 sevAlarm srcCtl).colLost
  else s

def execSolverLost (s : State) : Host.Outcome State Fault Refusal := s.gate 9 <| .next s.solverLost

/-- A used result ends the run of misses (R227). -/
def State.solverBack (s : State) : State :=
  let a := s.put F.CTL_MISS_MISS_RUN 0
  if a.on F.CTL_STATUS_SOLVER_LOST then (a.setTo F.CTL_STATUS_SOLVER_LOST false).raise 81 sevAlarm srcCtl else a

/-- A miss (R226, R227). -/
def State.countMiss (s : State) : State :=
  ((((s.setTo F.CTL_STATUS_DEADLINE_MISS true).bump F.CTL_MISS_MISS_RUN 1).bump F.CTL_CNT_MISS 1).raise 80 sevWarn srcCtl).solverLost

/-- Words 2 to 55 of a cycle staged as in STANDBY (R199): no thrust, angles as before. -/
def State.idleWords (s : State) : List Word := s.convWords false (s.thrs.map (·.idx)) [0, 0, 0] [0, 0, 0] (fun _ => (0, 0)) (fun _ => 0)

/-- The control-engine region is written: a fallback goes before a used solution and before a hold (R228). -/
def State.controlRegion (s : State) (fb : Option (List Word)) : State :=
  let a := if !s.on F.CTL_CTRL_ENABLE then s
    else
      let b := match s.ctl.conv with
        | some _ => s.solverBack
        | none => if s.ctl.loadCyc then s else s.countMiss
      match fb, s.ctl.conv with
      | some w, _ => b.stageRegion srcFallback s.ctl.conv.isNone w
      | none, some w => b.stageRegion srcPrimary false w
      | none, none => if s.ctl.loadCyc then b.stageRegion srcPrimary false s.idleWords else b.stageRegion srcHeld true []
  (a.bufWords 56 (List.replicate 8 0)).modCtl fun c => { c with
    closed := true, loadCyc := false
    edges := if c.conv.isSome then c.edges else List.replicate 24 (0, 0) }

/-! ### Capture (R233) -/

/-- The signal of a channel code (R233). -/
def State.colSignalOf (s : State) (fb : Bool) (ch : Nat) : Nat :=
  let w (i : Nat) : Nat := f32to64 (sget (fun _ => (0 : Word)) s.cdr.buf i).toNat
  if ch = 0 then 0
  else if ch = 1 then (if fb then 0 else s.ctl.u)
  else if ch ≤ 4 then nth s.ctl.err (ch - 2)
  else if ch = 5 then s.pub32 88
  else if ch = 6 then s.pub32 92
  else if ch = 7 then s.pub32 76
  else if ch ≤ 10 then nth s.ctl.tauRef (ch - 8)
  else if ch ≤ 13 then fsub (w (2 + (ch - 11))) (w (5 + (ch - 11)))
  else if ch = 14 then match s.ctl.psi0 with
    | some p => (angleDiff (s.pub64 52) p)
    | none => Config.freeValue s.freeCtr
  else
    let t := thrOf s.thrs (s.fld F.CTL_COL_CFG_TARGET)
    fmul (ffrac (sgn 16 (sget (fun _ => (0 : Word)) s.cdr.buf (8 + 2 * t.idx)).toNat) 32768) t.tmax

/-- Samples of a run: min(4,096, PRE + DUR). -/
def State.colSamples (s : State) : Nat := satN 4096 (s.fld F.CTL_COL_CFG_PRE + s.fld F.CTL_COL_DUR_DUR)

/-- Record the sample of the cycle in DDR (R233). -/
def State.colCapture (s : State) (fb : Bool) : State :=
  let first := (s.colCyc : Int) - (s.fld F.CTL_COL_CFG_PRE : Int)
  let k := (s.cdr.cyc : Int) - first
  if !s.ctl.capture ∨ k < 0 then s
  else if (s.colSamples : Int) ≤ k then s.modCtl fun c => { c with capture := false }
  else
    let base := s.rd64 Reg.CTL_COL_BUF_LO Reg.CTL_COL_BUF_HI / 4096 * 4096 + 32 * k.toNat
    let free := (List.range 8).any fun c => decide (bitsOf (s.rdn Reg.CTL_COL_CH) (4 * c + 3) (4 * c) = 14) && s.ctl.psi0.isNone
    let ws := (List.range 8).map fun c => w32 (f64to32 (s.colSignalOf fb (bitsOf (s.rdn Reg.CTL_COL_CH) (4 * c + 3) (4 * c))))
    let ok := (decide (base + 32 ≤ s.mem.ddrBytes) && s.domOn 11)
    let a := if ok then { s with mem := { s.mem with ddr := writeWords ramByte s.mem.ddr base ws } } else s
    (if free then a.nextFree else a).put F.CTL_COL_STATUS_SAMPLES (satN 4096 (k.toNat + 1))

/-- The sample instant clears what belongs to the last cycle. -/
def State.ctlCycle (s : State) : State :=
  s.sectApply.modCtl fun c => { c with conv := none, closed := false, loadCyc := false }

end Sys2Proof.Machine
end

