-- ==== Sys2Proof/Machine/Almanac.lean ====
section
/-! DEFINITION. The Almanac's commands: release, the software port, reading the ring, the flash log and the flash
queue (15_almanac_plate_capture.md, R490 to R497). -/

namespace Sys2Proof.Machine

/-- Device time reaches TIME + 2 µs of the first held record, and it is released; where a step of device time came first, that step
has released all that was held, and what it began waits its own 2 µs (R490). -/
def State.almRelease (s : State) : State :=
  match s.alm.held with
  | [] => s
  | h :: _ =>
    let a := if h.epoch = s.alm.epoch then s.runTo (h.body.time + 2000) else s
    if a.alm.epoch = s.alm.epoch then a.releaseHead else a

/-- ALMANAC_RELEASE (R490). -/
def execAlmanacRelease (s : State) : Host.Outcome State Fault Refusal := s.gate 9 <| .next s.almRelease

/-! ### Software records (R491) -/

/-- A field of a requester's own copy of a register. -/
def State.fldOf (s : State) (r : Req) (f : Fld) : Nat := s.fld ⟨regKey r f.off, f.hi, f.lo⟩

/-- Write a field of a requester's own copy. -/
def State.putOf (s : State) (r : Req) (f : Fld) (v : Nat) : State := s.put ⟨regKey r f.off, f.hi, f.lo⟩ v

/-- Write a word of a requester's own copy. -/
def State.wrOf (s : State) (r : Req) (off v : Nat) : State := s.wrn (regKey r off) v

/-- A word of a requester's own copy. -/
def State.rdOf (s : State) (r : Req) (off : Nat) : Nat := s.rdn (regKey r off)

/-- The record a requester's software port holds (R491). -/
def State.swRecord (s : State) (r : Req) : AlmRec :=
  ⟨s.fldOf r F.ALM_SW_HDR_CODE, s.fldOf r F.ALM_SW_HDR_SEV, 16 + s.fldOf r F.ALM_SW_HDR_CLASS % 16, r.idx, s.devTime,
   s.cycHolding, w32 (s.rdOf r Reg.ALM_SW_P), w32 (s.rdOf r (Reg.ALM_SW_P + 4)), w32 (s.rdOf r (Reg.ALM_SW_P + 8)), 0⟩

/-- ALM_SW_HDR.GO: write a software detail record; a CODE index below 0x10 is refused (R491). -/
def State.swGo (s : State) (r : Req) : State :=
  let a := s.putOf r F.ALM_SW_HDR_GO 0
  if s.fldOf r F.ALM_SW_HDR_CODE % 256 < 0x10 then a.setTo F.ALM_EVENTS_SW_REFUSED true else a.offer (s.swRecord r)

/-- ALM_SW_GO (R491). -/
def execAlmSwGo (req : Req) (s : State) : Host.Outcome State Fault Refusal :=
  s.gate 9 <| .next (s.swGo req)

/-! ### Reading the ring (R494) -/

/-- Is a read of this requester in progress? -/
def State.reading (s : State) (r : Req) : Bool := s.alm.reads.any fun p => p.1 == r.idx

/-- ALM_RD_CTRL.GO: start a read; while one is in progress a further GO is ignored (R494). -/
def State.rdGo (s : State) (r : Req) : State :=
  if s.reading r then s
  else ((((s.putOf r F.ALM_RD_CTRL_GO 1).putOf r F.ALM_RD_CTRL_READY 0).putOf r F.ALM_RD_CTRL_EMPTY 0).modAlm
    fun a => { a with reads := (r.idx, s.rdOf r Reg.ALM_RD_SEQ) :: a.reads })

/-- ALM_READ (R494). -/
def execAlmRead (req : Req) (s : State) : Host.Outcome State Fault Refusal :=
  s.gate 9 <| .next (s.rdGo req)

/-- The record of least SEQ greater than S. -/
def nextAfter (ring : List RingRec) (q : Nat) : Option RingRec := ring.find? fun e => decide (q < e.seq)

/-- Put eight words in a requester's ALM_RD_DATA. -/
def State.putData (s : State) (r : Req) (ws : List Word) : State :=
  forEach (List.range 8) (fun i t => t.wrOf r (blockOff Reg.ALM_RD_DATA (4 * i)) (ws.getD i 0).toNat) s

/-- READY: the port holds the record of least SEQ greater than S, or EMPTY and zeros (R494). -/
def State.rdReady (s : State) (r : Req) : State :=
  match s.alm.reads.find? (fun p => p.1 == r.idx) with
  | none => s
  | some p =>
    let a := ((s.putOf r F.ALM_RD_CTRL_GO 0).putOf r F.ALM_RD_CTRL_READY 1).modAlm fun a => { a with
      reads := a.reads.filter fun q => q.1 != r.idx }
    match nextAfter s.alm.ring p.2 with
    | some e => (a.putData r (wordsOf 8 e.body.bytes)).wrOf r Reg.ALM_RD_SEQ_OUT e.seq
    | none => (a.putData r []).putOf r F.ALM_RD_CTRL_EMPTY 1

/-- ALM_READ_READY (R494). -/
def execAlmReadReady (req : Req) (s : State) : Host.Outcome State Fault Refusal :=
  s.gate 9 <| .next (s.rdReady req)

/-! ### The flash and its log (R495, R496) -/

/-- Write bytes to the flash. -/
def State.flashWrite (s : State) (addr : Nat) (bs : List Byte) : State :=
  { s with mem := { s.mem with flash := writeBytes flashByte s.mem.flash addr bs } }

/-- Erase the 4 KiB sector at a flash offset: its listed bytes go. -/
def State.flashErase (s : State) (addr : Nat) : State :=
  { s with mem := { s.mem with flash := s.mem.flash.filter fun c => decide (c.1 < addr) || decide (addr + 4096 ≤ c.1) } }

/-- Is a record final for the log: TIME + REPEAT_WINDOW has passed, or a later epoch has begun (R490, R496)? -/
def State.final (s : State) (e : RingRec) : Bool :=
  decide (e.epoch < s.alm.epoch) || decide (e.body.time + s.repeatWindow ≤ s.now)

/-- The records already on their way to flash. -/
def State.flushing (s : State) : List Nat :=
  (match s.alm.flashCur with | some (.log _ _ _ q) => q | _ => []) ++ s.alm.flashLog

/-- The unflushed final records, in SEQ order. -/
def State.toFlush (s : State) : List RingRec :=
  s.alm.ring.filter fun e => !e.flushed && s.final e && !s.flushing.contains e.seq

/-- BEHIND: unflushed final records, 0 with no log (R493). -/
def State.behind (s : State) : Nat :=
  if s.alm.logRegion.isSome then satN 65535 (s.alm.ring.filter fun e => !e.flushed && s.final e).length else 0

/-- ALM_STATUS as it reads. -/
def State.almStatus (s : State) : Nat := b2n (decide (ringSlots ≤ s.alm.ring.length)) * 2 ^ 31 + s.behind

/-- The header of a log sector (R495). -/
def logHeader (seq first unflushed time : Nat) : List Byte :=
  let h := [0x41, 0x4C, 0x4D, 0x53] ++ leBytes 2 1 ++ leBytes 2 0 ++ leBytes 4 seq ++ leBytes 4 first ++
    leBytes 4 unflushed ++ leBytes 8 time
  h ++ leBytes 4 (crc32c h)

/-- Does a flash sector begin with a valid log header? -/
def isLogSector (flash : List Host.Cell) (addr : Nat) : Bool :=
  let h := readBytes flashByte flash addr 32
  leNat (h.take 4) == 0x534D4C41 && leNat (h.drop 28) == crc32c (h.take 28)

/-- The sector after the open one, round the region. -/
def nextSector (region : Nat × Nat) : Option Nat → Nat
  | none => region.1
  | some a => if a + 4096 < region.1 + region.2 then a + 4096 else region.1

/-- Must the log open a sector before it takes another record: none is open, or 127 records are in it? -/
def State.logFull (s : State) : Bool := s.alm.logSector.isNone || decide (127 ≤ s.alm.logFill)

/-- Start the log's next sector operation with the records that wait, as many as its sector takes: an append to the open sector, or
the opening of the next, erased first, its header and its records; EV242 where the oldest sector gives way (R495, R496). -/
def State.startLog (s : State) (region : Nat × Nat) (es : List RingRec) : State :=
  let opens := s.logFull
  let fill := if opens then 0 else s.alm.logFill
  let addr := if opens then nextSector region s.alm.logSector else s.alm.logSector.getD region.1
  let now := es.take (127 - fill)
  let recs := now.flatMap fun e => e.body.bytes
  let head := if opens then logHeader (s.alm.logSeq + 1) ((es.head?.map (·.seq)).getD 0) s.alm.logUnflushed s.devTime else []
  let a := s.modAlm fun x => { x with
    flashCur := some (.log (if opens then addr else addr + 32 + 32 * fill) (head ++ recs) opens (now.map (·.seq)))
    flashLog := (es.drop (127 - fill)).map (·.seq), lastHost := false, logSector := some addr, logFill := fill
    headUnflushed := s.alm.logUnflushed }
  if opens && isLogSector s.mem.flash addr then a.raise 242 sevInfo srcAlm else a

/-! ### The flash queue (R497) -/

/-- The records that wait for the log and that the ring still holds. -/
def State.logWaits (s : State) : List RingRec :=
  if s.alm.logRegion.isNone then [] else s.alm.flashLog.filterMap fun q => s.alm.ring.find? fun e => e.seq == q && !e.flushed

/-- Start the next sector operation, where none is in progress; when both kinds wait, they alternate (R497). -/
def State.flashKick (s : State) : State :=
  if s.alm.flashCur.isSome then s
  else
    let log (t : State) : State := t.startLog (t.alm.logRegion.getD (0, 0)) s.logWaits
    match s.logWaits, s.alm.flashHost with
    | [], [] => s.modAlm fun a => { a with flashLog := [] }
    | _ :: _, [] => log s
    | ls, h :: hs =>
      if s.alm.lastHost && !ls.isEmpty then log s
      else s.modAlm fun a => { a with flashCur := some h, flashHost := hs, lastHost := true }

/-- Queue a sector operation of the host. -/
def State.flashPush (s : State) (op : FlashOp) : State :=
  (s.modAlm fun a => { a with flashHost := a.flashHost ++ [op] }).flashKick

/-- The housekeeping phase's flush: at most FLUSH_MAX records, 0 taken as 1, join those that wait (R496). -/
def State.almFlush (s : State) : State :=
  if s.alm.logRegion.isSome && s.on F.ALM_CFG_FLUSH_EN then
    let m := s.fld F.ALM_CFG_FLUSH_MAX
    (s.modAlm fun a => { a with flashLog := a.flashLog ++ (s.toFlush.take (if m = 0 then 1 else m)).map (·.seq) }).flashKick
  else s

/-- A flush operation ended: its records are in the log, and an opened sector counts; or the sector is skipped, with its SECTOR_SEQ and
its count of UNFLUSHED where it could not be opened, and its records go to the next one first (R495, R497). -/
def State.logDone (s : State) (ok : Bool) (addr : Nat) (bs : List Byte) (erase : Bool) (seqs : List Nat) : State :=
  if ok then
    ((if erase then s.flashErase addr else s).flashWrite addr bs).modAlm fun a => { a with
      ring := a.ring.map fun e => if seqs.contains e.seq then { e with flushed := true } else e
      logFill := a.logFill + seqs.length, logSeq := a.logSeq + b2n erase
      logUnflushed := if erase then a.logUnflushed - a.headUnflushed else a.logUnflushed }
  else
    ((s.setTo F.ALM_EVENTS_FLUSH_ERR true).modAlm fun a => { a with
      logFill := 127, flashLog := seqs ++ a.flashLog }).raise 241 sevAlarm srcAlm

end Sys2Proof.Machine
end

