-- ==== Sys2Proof/Machine/Guard.lean ====
section
/-! DEFINITION. The Rhauf guard (07_rhauf_guard_safety.md): its image, its states and causes, its checks of the staged
set, and its heartbeats.  What a change of the guard does elsewhere in the device is in GuardCmds. -/

namespace Sys2Proof.Machine

/-- Change the guard. -/
def State.modGrd (s : State) (f : Guard → Guard) : State := { s with grd := f s.grd }

/-- Source unit number of the guard's mirror logic (R489). -/
def srcGrd : Nat := 0x70

/-! ### The parameter image (R268 to R273) -/

/-- Bytes of the parameter image. -/
def grdImageLen : Nat := 688

/-- A little-endian field of the guard image. -/
def imgField (img : List Byte) (off n : Nat) : Nat := leNat ((img.drop off).take n)

/-- Are the bytes from `off` on, `n` of them, all zero? -/
def imgZero (img : List Byte) (off n : Nat) : Bool := ((img.drop off).take n).all (· == 0)

/-- A field of the guard image the port has taken. -/
def State.grdImg (s : State) (off n : Nat) : Nat := imgField s.grd.image off n

/-- An accepted image is loaded: IMAGE reads unconfirmed or confirmed. -/
def State.grdLoaded (s : State) : Bool := decide (2 ≤ s.fld F.GRD_STATUS_IMAGE)

/-- A thruster entry's fields in range (R269). -/
def thrEntryOk (img : List Byte) (i : Nat) : Bool :=
  let b := 64 + 20 * i
  let kind := imgField img b 1
  let present := bitAt (imgField img 36 4) i
  let n := imgField img 6 1
  decide (kind ≤ 2) && imgZero img (b + 1) 1 && decide (imgField img (b + 2) 2 ≤ 32767) &&
    decide (imgField img (b + 4) 2 ≤ 32767) && decide (imgField img (b + 6) 2 ≤ 32767) && imgZero img (b + 18) 2 &&
    (decide (kind ≠ 0) == present) && (decide (i < n) || imgZero img b 20)

/-- A word check's fields in range (R270, R271). -/
def wordCheckOk (img : List Byte) (k : Nat) : Bool :=
  let b := 544 + 8 * k
  let w := imgField img b 2
  let lsb := imgField img (b + 2) 1
  let shape := imgField img (b + 3) 1
  let width := shape % 32
  let lo := if bitAt shape 7 then sgn 16 (imgField img (b + 4) 2) else imgField img (b + 4) 2
  let hi := if bitAt shape 7 then sgn 16 (imgField img (b + 6) 2) else imgField img (b + 6) 2
  if w = 0 then imgZero img (b + 2) 6
  else decide (256 ≤ w ∧ w ≤ 2047) && decide (lsb ≤ 31) && decide (1 ≤ width ∧ width ≤ 16) &&
    decide (shape / 32 % 4 = 0) && decide (lsb + width ≤ 32) && decide (lo ≤ hi)

/-- The check value CV of an image (R272). -/
def imageCv (img : List Byte) : Nat := crc32c (img.take 680)

/-- Does the guard accept the image (R271)? -/
def imageOk (img : List Byte) : Bool :=
  (img.take 4 == ([0x47, 0x52, 0x44, 0x50] : List Byte)) && decide (imgField img 4 2 = 1) &&
    decide (imgField img 680 4 = imageCv img) &&
    decide (1 ≤ imgField img 6 1 ∧ imgField img 6 1 ≤ 24) && decide (imgField img 7 1 < 8) &&
    decide (1 ≤ imgField img 12 1 ∧ imgField img 12 1 ≤ 100) && decide (imgField img 13 1 ≤ 2) &&
    decide (imgField img 14 1 ≤ 4) && decide (imgField img 15 1 ≤ 15) && decide (imgField img 16 2 ≤ 300) &&
    decide (imgField img 18 1 ≤ 15) && imgZero img 19 1 && imgZero img 40 24 && imgZero img 672 8 &&
    decide (imgField img 36 4 < 2 ^ imgField img 6 1) &&
    (List.range 24).all (thrEntryOk img) && (List.range 16).all (wordCheckOk img)

/-- Is the image confirmed: CONFIRM equals CV (R273)? -/
def imageConfirmed (img : List Byte) : Bool := decide (imgField img 684 4 = imageCv img)

/-- EDS_EN of the loaded image (R45). -/
def State.edsEn (s : State) : Bool := s.grdLoaded && bitAt (s.grdImg 7 1) 0

/-- LOCAL_HOLD_MASK of the loaded image. -/
def State.localHoldMask (s : State) : Nat := if s.grdLoaded then s.grdImg 20 8 else 0

/-- LOCAL_HOLD_LEVEL of the loaded image. -/
def State.localHoldLevel (s : State) : Nat := if s.grdLoaded then s.grdImg 28 8 else 0

/-- T_base of the image, ns. -/
def State.grdTbase (s : State) : Nat := s.grdImg 12 1 * 1000000

/-- T_fast of the image, ns. -/
def State.grdTfast (s : State) : Nat := 500000 * 2 ^ s.grdImg 13 1

/-- WH_LIMIT of the image; 0 is taken as 2. -/
def State.whLimit (s : State) : Nat := if s.grdImg 14 1 = 0 then 2 else s.grdImg 14 1

/-- DEG_LIMIT of the image, s; 0 is taken as 30. -/
def State.degLimit (s : State) : Nat := if s.grdImg 16 2 = 0 then 30 else s.grdImg 16 2

/-! ### States and causes (R262, R265, R266, R281) -/

/-- GSTATE LOAD. -/
def gLoad : Nat := 0
/-- GSTATE NO_IMAGE. -/
def gNoImage : Nat := 1
/-- GSTATE FAULT. -/
def gFault : Nat := 2
/-- GSTATE SAFE. -/
def gSafe : Nat := 3
/-- GSTATE ARMED. -/
def gArmed : Nat := 4
/-- GSTATE DEGRADED. -/
def gDegraded : Nat := 5
/-- GSTATE TRIPPED. -/
def gTripped : Nat := 6

/-- GSTATE. -/
def State.gstate (s : State) : Nat := s.fld F.GRD_STATUS_GSTATE

/-- Does the guard hold (R262)? A guard without its supply reads as hold (R263). -/
def State.grdHolds (s : State) : Bool :=
  !s.grd.powered || !(s.gstate == gArmed || s.gstate == gDegraded) || s.grd.withheld

/-- Claim enable (R266, R263). -/
def State.grdClaimEn (s : State) : Bool :=
  s.grd.powered && ((s.gstate == gArmed && s.fld F.GRD_STATUS_IMAGE == 3) || (s.gstate == gDegraded && s.grd.degClaim))

/-- Show HOLD, claim enable and the readback levels in the mirror. Each GUARD_HOLD pin is low while the guard holds
(R261), and rests low at its pull-down without supply (R263) and without VDDIO_A (R549). -/
def State.grdShow (s : State) : State :=
  let drive := !s.grdHolds
  (((s.setTo F.GRD_STATUS_HOLD s.grdHolds).setTo F.GRD_STATUS_CLAIM_EN s.grdClaimEn).setTo F.GRD_STATUS_HOLD0_FB
    (s.grd.powered && s.railOk 4 && (drive != s.grd.bad0))).setTo F.GRD_STATUS_HOLD1_FB
    (s.grd.powered && s.railOk 4 && (drive != s.grd.bad1))

/-- INTLK is released: a guard that is DEGRADED does not give the claim again (R266, R287). -/
def State.claimFalls (s : State) : State := (s.modGrd fun g => { g with degClaim := false }).grdShow

/-- Does the unit hold INTLK: claim enable on and the claim driver on (R294)? -/
def State.holdsIntlk (s : State) : Bool := s.grdClaimEn && s.red.out

/-- Change GSTATE. EV116 when ARMED is reached or left, EV118 when NO_IMAGE or FAULT is entered (R291); a change to
DEGRADED notes whether the unit holds INTLK (R266). -/
def State.grdGo (s : State) (g : Nat) : State :=
  let old := s.gstate
  let a := s.modGrd fun d => { d with degClaim := decide (g = gDegraded) && s.holdsIntlk }
  let b := (a.put F.GRD_STATUS_GSTATE g).grdShow
  let c := if (old == gArmed) != (g == gArmed) then b.raise 116 sevNotice srcGrd else b
  if (g = gNoImage ∨ g = gFault) ∧ old ≠ g then c.raise 118 sevSafety srcGrd else c

/-- The lowest set bit of a cause mask. -/
def firstBit (m : Nat) : Nat := (setBits 11 m).headD 0xF

/-- The guard trips: TRIPPED, with EV112 (R265, R291). -/
def State.grdTrip (s : State) : State :=
  let e := (s.bump F.GRD_CNT_TRIPS 1).modGrd fun d => { d with qualify := 0 }
  (e.grdGo gTripped).raise1 112 sevSafety srcGrd (e.rdn Reg.GRD_CAUSE)

/-- A trip cause that occurs is latched in every state (R281); in SAFE, ARMED or DEGRADED it trips the guard (R265). -/
def State.grdLatch (s : State) (m : Nat) : State :=
  let a := s.modGrd fun d => { d with latched := d.latched ||| m }
  let b := a.put F.GRD_CAUSE_CAUSE (a.fld F.GRD_CAUSE_CAUSE ||| m)
  let c := if b.fld F.GRD_CAUSE_FIRST = 0xF then b.put F.GRD_CAUSE_FIRST (firstBit m) else b
  if s.gstate = gSafe ∨ s.gstate = gArmed ∨ s.gstate = gDegraded then c.grdTrip else c

/-- A trip cause becomes present and is latched (R281). -/
def State.grdCause (s : State) (i : Nat) : State :=
  if !s.grd.powered then s else (s.modGrd fun d => { d with present := d.present ||| 2 ^ i }).grdLatch (2 ^ i)

/-- Enter SAFE: the reference set clears, and from TRIPPED so does what GRD_CAUSE shows; a cause latched before, in LOAD, trips
at once (R265, R281).  A cycle released before the trip and not withdrawn still applies (R284). -/
def State.grdEnterSafe (s : State) : State :=
  let a := s.modGrd fun d => { d with refSet := none, prevRef := none, qualify := 0 }
  let b := if s.gstate = gTripped then (a.put F.GRD_CAUSE_CAUSE 0).put F.GRD_CAUSE_FIRST 0xF else a
  let c := ((b.put F.GRD_STATUS_WH_RUN 0).wrn Reg.GRD_REL_CYC 0).grdGo gSafe
  if s.grd.latched = 0 then c else c.grdTrip

/-- TRIPPED ends when every latched cause is cleared and none is present (R265). -/
def State.grdUntrip (s : State) : State :=
  if s.gstate = gTripped ∧ s.grd.latched = 0 ∧ s.grd.present = 0 then s.grdEnterSafe else s

/-- A cause is no longer present; one that clears itself is cleared (R281). -/
def State.grdAbsent (s : State) (i : Nat) : State :=
  let self := i == 2 || i == 3 || i == 4
  let a := s.modGrd fun d => { d with
    present := putBit d.present i false, latched := if self then putBit d.latched i false else d.latched }
  a.grdUntrip

/-- A degraded cause, latched until guard power-up (R286): EV114; the first starts DEG_LIMIT (R287); ARMED becomes
DEGRADED, which trips where DEG_LIMIT has run out. -/
def State.grdDegrade (s : State) (i : Nat) : State :=
  if !s.grd.powered || bitAt (s.rdn Reg.GRD_DEG) i then s
  else
    let a := (s.wrn Reg.GRD_DEG (putBit (s.rdn Reg.GRD_DEG) i true)).modGrd fun d => { d with
      degStart := match d.degStart with | none => some (s.now : Int) | some t => some t }
    let b := a.raise1 114 sevSafety srcGrd (a.rdn Reg.GRD_DEG)
    if b.gstate = gArmed then b.grdGo gDegraded else b

/-- DEG_LIMIT has run since the first degraded cause (R265, R287). -/
def State.degOver (s : State) : Bool :=
  match s.grd.degStart with | none => false | some t => decide (t + s.degLimit * 1000000000 ≤ (s.now : Int))

/-- ARMED, or DEGRADED if a degraded cause is latched, with DEG_EXPIRY where DEG_LIMIT has run out (R265, R287). -/
def State.grdArm (s : State) : State :=
  if s.rdn Reg.GRD_DEG = 0 then s.grdGo gArmed
  else
    let a := s.grdGo gDegraded
    if a.degOver then a.grdCause 9 else a

/-- DEG_LEFT as it reads: the rest of DEG_LIMIT in units of 0.1 s, 0 when not degraded. -/
def State.degLeft (s : State) : Nat :=
  match s.grd.degStart with
  | none => 0
  | some t => if s.gstate = gDegraded then satN 4095 (s.degLimit * 10 - ((s.now : Int) - t).toNat / 100000000) else 0

/-! ### The checks of R275 -/

/-- A word of a set; an unwritten word reads 0. -/
def setWord (m : List (Nat × Word)) (i : Nat) : Word := sget (fun _ => 0) m i

/-- THRUST of a CMD word. -/
def cmdThrust (w : Word) : Int := sgn 16 w.toNat

/-- ANGLE of a CMD word. -/
def cmdAngle (w : Word) : Int := sgn 16 (w.toNat / 2 ^ 16)

/-- Does the angle lie in a band that runs clockwise for `width` from `start`, edges included? -/
def inBand (angle : Int) (start width : Nat) : Bool :=
  width != 0 && decide (code 16 (angle - sgn 16 start) ≤ width)

/-- The angle change from `b` to `a` in (−π, π], its size. -/
def angleChange (a b : Int) : Nat := (let d := code 16 (a - b); if d ≤ 32768 then d else 65536 - d)

/-- A limit times m, at most 32,767. -/
def rateLimit (lim m : Nat) : Nat := satN 32767 (lim * m)

/-- The violations of one thruster, as WHY bits (R275). -/
def thrWhy (img : List Byte) (set : List (Nat × Word)) (ref : Option (List (Nat × Word))) (m i : Nat) : Nat :=
  let b := 64 + 20 * i
  let present := bitAt (imgField img 36 4) i
  let az := imgField img b 1 == 2
  let cmd := setWord set (8 + 2 * i)
  let flags := (setWord set (9 + 2 * i)).toNat
  let t := cmdThrust cmd
  let a := cmdAngle cmd
  let src := (setWord set 1).toNat / 2 ^ 28
  if !present then (if cmd ≠ 0 ∨ bitAt flags 31 then 2 else 0)
  else
    let mag := decide (t.natAbs > imgField img (b + 2) 2) || (az && decide (t < 0))
    let band := if az then decide (t ≠ 0) && (inBand a (imgField img (b + 10) 2) (imgField img (b + 12) 2) ||
        inBand a (imgField img (b + 14) 2) (imgField img (b + 16) 2)) else decide (a ≠ 16384)
    let idle := !bitAt flags 31 && decide (t ≠ 0)
    match ref with
    | none => 32 * b2n mag + 16 * b2n band + 2 * b2n idle
    | some r =>
      let rc := setWord r (8 + 2 * i)
      let rt := (cmdThrust rc).natAbs
      let rate := decide (t.natAbs > rt + rateLimit (imgField img (b + 4) 2) m) ||
        decide (t.natAbs + rateLimit (imgField img (b + 6) 2) m < rt)
      let arate := az && decide (angleChange a (cmdAngle rc) > rateLimit (imgField img (b + 8) 2) m)
      let frozen := bitAt flags 30 && decide (cmd ≠ rc)
      let woke := decide (src = 2) && bitAt flags 31 && !bitAt (setWord r (9 + 2 * i)).toNat 31
      32 * b2n mag + 16 * b2n band + 8 * b2n rate + 4 * b2n arate + 2 * b2n (idle || frozen || woke)

/-- Does a word check find its field outside [MIN, MAX] (R270, R275)? -/
def wordCheckBad (img : List Byte) (set : List (Nat × Word)) (k : Nat) : Bool :=
  let b := 544 + 8 * k
  let w := imgField img b 2
  let lsb := imgField img (b + 2) 1
  let shape := imgField img (b + 3) 1
  let width := shape % 32
  let signed := bitAt shape 7
  let raw := bitsOf (setWord set w).toNat (lsb + width - 1) lsb
  let v : Int := if signed then sgn width raw else raw
  let lo : Int := if signed then sgn 16 (imgField img (b + 4) 2) else imgField img (b + 4) 2
  let hi : Int := if signed then sgn 16 (imgField img (b + 6) 2) else imgField img (b + 6) 2
  w != 0 && (decide (v < lo) || decide (hi < v))

/-- What the checks of R275 find. -/
structure Verdict where
  /-- WHY bits [5:0]: magnitude, band, thrust rate, angle rate, set consistency, word check. -/
  why : Nat
  /-- The first thruster in violation, 0x1F for none. -/
  thr : Nat
  /-- The first word check in violation, 0 for none. -/
  wchk : Nat
  deriving DecidableEq, Repr

/-- The difference of the word-0 CYC values, at most 255 (R275). -/
def setGap (set : List (Nat × Word)) (ref : Option (List (Nat × Word))) : Nat :=
  match ref with
  | none => 0
  | some r => satN 255 ((setWord set 0) - (setWord r 0)).toNat

/-- The checks of R275 on a frozen set. -/
def checkSet (img : List Byte) (set : List (Nat × Word)) (ref : Option (List (Nat × Word))) (hbLo : Nat) : Verdict :=
  let m := setGap set ref
  let ws := (List.range 24).map fun i => (i, thrWhy img set ref m i)
  let bad := ws.filter fun p => p.2 != 0
  let wcs := (List.range 16).filter (wordCheckBad img set)
  let src := (setWord set 1).toNat / 2 ^ 28
  let cons := decide (src > 3) || decide ((setWord set 0).toNat % 256 ≠ hbLo)
  let all := bad.foldl (fun a p => a ||| p.2) 0
  ⟨all ||| 2 * b2n cons ||| b2n (!wcs.isEmpty), match bad with | [] => 0x1F | p :: _ => p.1, wcs.headD 0⟩

/-! ### Heartbeats (R279, R280) -/

/-- CYC_LO of a heartbeat word (R87). -/
def beatLo (w : Word) : Nat := wbits w 23 16

/-- Is PATTERN right for the word's CYC_LO? -/
def beatPattern (w : Word) : Bool := wbits w 31 24 == (if beatLo w % 2 = 0 then 0xA5 else 0x5A)

/-- Does a heartbeat at guard time `t` meet a window after the last accepted one (R279)? -/
def beatOk (tb : Nat) (last : Beat) (w : Word) (t : Nat) : Bool :=
  let dt := t - last.time
  let k := (2 * dt + tb) / (2 * tb)
  let off := if dt < k * tb then k * tb - dt else dt - k * tb
  decide (last.time ≤ t ∧ 1 ≤ k ∧ 4 * off ≤ tb) && decide (beatLo w = (beatLo last.word + k) % 256) && beatPattern w

/-- The supervisor's two words (R280). -/
def svWord0 : Word := 0x0F0FF0F0
/-- The other. -/
def svWord1 : Word := 0xF0F00F0F

/-- Does a supervisor word after the last one meet R280? -/
def svOk (tf : Nat) (last : Beat) (w : Word) (t : Nat) : Bool :=
  (w == svWord0 || w == svWord1) && w != last.word && decide (tf ≤ 2 * (t - last.time))

/-- Does the pair of words meet R280 between themselves (R281, SV_HB)? -/
def svPair (tf : Nat) (last : Beat) (w : Word) (t : Nat) : Bool :=
  svOk tf last w t && (last.word == svWord0 || last.word == svWord1) && decide (2 * (t - last.time) ≤ 5 * tf)

/-- The guard runs: it has left LOAD for SAFE and has its supply. -/
def State.grdRuns (s : State) : Bool :=
  s.grd.powered && (s.gstate == gSafe || s.gstate == gArmed || s.gstate == gDegraded || s.gstate == gTripped)

/-- A Clock Drive heartbeat reaches the guard (R279). -/
def State.grdBeat (s : State) (w : Word) (t : Nat) : State :=
  if !s.grdRuns then s
  else
    let good := match s.grd.beat with | none => true | some b => beatOk s.grdTbase b w t
    if good then
      let a := (s.modGrd fun d => { d with beat := some ⟨w, t⟩, beatAt := s.now }).wr Reg.GRD_HB w
      if bitAt a.grd.present 2 then a.grdAbsent 2 else a
    else s.grdCause 2

/-- A supervisor heartbeat reaches the guard (R280, R281); a supervisor that has stopped writing it sends none (R499, R535). -/
def State.grdSvBeat (s : State) (w : Word) (t : Nat) : State :=
  if !s.grdRuns || s.pow.svStopped then s
  else
    let a := s.modGrd fun d => { d with sv := some ⟨w, t⟩ }
    match s.grd.sv with
    | none => if w = svWord0 ∨ w = svWord1 then a else a.grdCause 4
    | some l =>
      if !svOk s.grdTfast l w t then a.grdCause 4
      else if svPair s.grdTfast l w t ∧ bitAt a.grd.present 4 then a.grdAbsent 4 else a

/-! ### The decision (R277, R278) -/

/-- The cycle has a staged set (R60). -/
def State.stagedNow (s : State) : Bool := s.cdr.stagedCyc == some s.cdr.cyc

/-- The heartbeat of the cycle: the one accepted since the last decision, and by 30 ns after STAGE_DL (R277). -/
def State.cycBeat (s : State) : Option Word :=
  match s.grd.beat with
  | some b => if s.grd.decideAt < s.grd.beatAt ∧ s.grd.beatAt ≤ (s.cdr.stageTime : Int) + 30 then some b.word else none
  | none => none

/-- CYC_LO of staged word 0. -/
def State.stagedLo (s : State) : Nat := (setWord s.cdr.staged 0).toNat % 256

/-- The cycle's own heartbeat, whose CYC_LO equals that of staged word 0 (R277). -/
def State.ownBeat (s : State) : Option Word := s.cycBeat.filter fun w => beatLo w == s.stagedLo

/-- The CYC_LO the guard expects: the last accepted one plus the periods since (R279). -/
def State.expectLo (s : State) : Nat :=
  match s.grd.beat with
  | none => 0
  | some b => (beatLo b.word + (2 * ((s.now : Int) - s.grd.beatAt).toNat + s.grdTbase) / (2 * (if s.grdTbase = 0 then 1 else s.grdTbase))) % 256

/-- The verdict on the cycle, with WHY's eight bits, against its heartbeat or, with none accepted, against word 0 itself; `disagree` names checks in which only one bank sees a violation
(R276). -/
def State.grdVerdict (s : State) (disagree : Nat) : Verdict :=
  let check (lo : Nat) (add : Nat) : Verdict :=
    let v := checkSet s.grd.image s.cdr.staged s.grd.refSet lo
    { v with why := (v.why ||| disagree) + add }
  match s.ownBeat with
  | none => if s.stagedNow then check ((s.cycBeat.map beatLo).getD s.stagedLo) 128 else ⟨128, 0x1F, 0⟩
  | some w => if s.stagedNow then check (beatLo w) (64 * b2n (!bitAt w.toNat 15)) else ⟨128, 0x1F, 0⟩

/-- Release the cycle: its set becomes the reference set (R275, R277). -/
def State.grdRelease (s : State) : State :=
  let a := s.modGrd fun d => { d with
    refSet := some s.cdr.staged, prevRef := d.refSet, released := true, withheld := false }
  ((a.wr Reg.GRD_REL_CYC (setWord s.cdr.staged 0)).put F.GRD_STATUS_WH_RUN 0).grdShow

/-- Withhold the cycle: GRD_WH, the counts, EV113, and the trip of R278. -/
def State.grdWithhold (s : State) (v : Verdict) : State :=
  let lo := if 128 ≤ v.why then s.expectLo else s.stagedLo
  let wh := putBits (putBits (putBits (putBits 0 31 24 lo) 23 19 v.thr) 15 8 v.why) 7 4 v.wchk
  let a := (s.wrn Reg.GRD_WH wh).bump F.GRD_CNT_WITHHELD 1
  let b := (a.bump F.GRD_STATUS_WH_RUN 1).modGrd fun d => { d with withheld := true }
  let c := b.grdShow.raise1 113 sevAlarm srcGrd wh
  if s.whLimit ≤ s.fld F.GRD_STATUS_WH_RUN + 1 then c.grdCause 3 else c

/-- Are both heartbeats valid (R265)? -/
def State.svValid (s : State) : Bool := s.grd.sv.isSome && !bitAt s.grd.present 4

/-- The decision on the cycle (R277): a qualifying cycle in SAFE counts, and the 8th arms the guard (R265); ARMED and
DEGRADED release or withhold; in TRIPPED a cycle that would have been released ends WH_LIMIT (R281).  The decision is
final: it is made once in a cycle. -/
def State.grdDecide (s : State) (disagree : Nat) : State :=
  if !s.grdRuns then s
  else
    let b := if disagree = 0 then s else s.grdDegrade 0
    let v := b.grdVerdict disagree
    let good := v.why == 0
    if b.gstate = gSafe then
      if good && b.svValid then
        if 7 ≤ b.grd.qualify then (b.modGrd fun d => { d with qualify := 0 }).grdArm
        else b.modGrd fun d => { d with qualify := d.qualify + 1 }
      else b.modGrd fun d => { d with qualify := 0 }
    else if b.gstate = gTripped then
      if good && bitAt b.grd.present 3 then b.grdAbsent 3 else b
    else if good then b.grdRelease
    else b.grdWithhold v

/-- The released cycle is withdrawn: the reference set is the one before it (R275, R284). -/
def State.grdWithdrawn (s : State) : State :=
  if s.grd.released then
    let a := s.modGrd fun d => { d with refSet := d.prevRef, prevRef := none, released := false }
    a.wr Reg.GRD_REL_CYC (match a.grd.refSet with | none => 0 | some r => setWord r 0)
  else s

/-! ### Power-up and the image (R265, R271) -/

/-- Guard power-up: every field of the mirror and the load port start anew; the input levels and the readback stay, and are
causes at once (R265, R281, R286).  A cycle released before and not withdrawn still applies, everywhere (R284). -/
def State.grdPowerUp (s : State) (slew : Fin 4) : State :=
  let a := s.modGrd fun d => { Guard.init with
    slew := slew, eds := d.eds, gt := d.gt, bad0 := d.bad0, bad1 := d.bad1, released := d.released, decided := d.decided, decideAt := d.decideAt }
  let b := forEach (List.range 10) (fun i (t : State) => t.wr (blockOff Reg.GRD_STATUS (4 * i)) (regReset (blockOff Reg.GRD_STATUS (4 * i)))) a
  let c := b.wrWords 0xB1000 (List.replicate 172 0)
  let e := ((c.setTo F.GRD_STATUS_EDS_ACT c.grd.eds).setTo F.GRD_STATUS_GT_ACT c.grd.gt).setTo F.CHIP_PROFILE_EDS_IN_EN false
  let f := (if (s.gstate == gArmed) then e.raise 116 sevNotice srcGrd else e).grdShow
  let g := if f.grd.gt then f.grdCause 1 else f
  if f.grd.bad0 && f.grd.bad1 then g.grdCause 5 else if f.grd.bad0 || f.grd.bad1 then g.grdDegrade 1 else g

/-- The guard judges the complete image (R271), and runs BIST; `fail` holds the FAIL bits of GRD_BIST. -/
def State.grdJudge (s : State) (fail : Nat) : State :=
  let img := s.grd.image
  if !imageOk img then
    let a := s.put F.GRD_STATUS_IMAGE 1
    (a.raise2 117 sevNotice srcGrd (a.rdn Reg.GRD_CV) 1).grdGo gNoImage
  else
    let im := if imageConfirmed img then 3 else 2
    let a := (s.put F.GRD_STATUS_IMAGE im).wrWords 0xB1000 (wordsOf 172 img)
    let b := (a.wrn Reg.GRD_CV (imageCv img)).wrn Reg.GRD_IMAGE_ID (imgField img 8 4)
    let c := (b.setTo F.CHIP_PROFILE_EDS_IN_EN b.edsEn).raise2 117 sevNotice srcGrd (imageCv img) im
    let d := ((c.setTo F.GRD_BIST_DONE true).setTo F.GRD_BIST_PASS (decide (fail = 0))).put F.GRD_BIST_FAIL fail
    let e := if d.edsEn && d.grd.eds then d.grdCause 0 else d
    if fail ≠ 0 then e.grdGo gFault else e.grdEnterSafe

/-- Bytes reach the load port: it takes them in LOAD, up to the 688th, and judges the image then (R268). -/
def State.grdTake (s : State) (bytes : List Byte) (fail : Nat) : State :=
  if s.gstate ≠ gLoad ∨ !s.grd.powered then s
  else
    let a := s.modGrd fun d => { d with image := (d.image ++ bytes).take grdImageLen }
    if a.grd.image.length = grdImageLen then a.grdJudge fail else a

/-! ### Inputs (R281 to R283, R286) -/

/-- EDS_FILT (`off` 15) or GT_FILT (`off` 18) of the loaded image, ns; none without one (R268, R283). -/
def State.grdFilt (s : State) (off : Nat) : Nat := if s.grdLoaded then 10 * s.grdImg off 1 else 0

/-- EDS_IN goes active (R283): EV119; with EDS_EN of a loaded image it is a trip cause (R281), at once or once it outlasts its
filter. -/
def State.grdEds (s : State) : State :=
  let a := (s.modGrd fun d => { d with eds := true }).setTo F.GRD_STATUS_EDS_ACT true
  let b := a.raise 119 sevSafety srcGrd
  if !s.edsEn then b
  else if s.grdFilt 15 = 0 then b.grdCause 0
  else b.modGrd fun d => { d with edsAt := some (s.now + s.grdFilt 15 : Nat) }

/-- GUARD_TRIP goes active (R281), a cause at once or once it outlasts its filter (R283). -/
def State.grdGt (s : State) : State :=
  let a := (s.modGrd fun d => { d with gt := true }).setTo F.GRD_STATUS_GT_ACT true
  if s.grdFilt 18 = 0 then a.grdCause 1 else a.modGrd fun d => { d with gtAt := some (s.now + s.grdFilt 18 : Nat) }

/-- The cause of EDS_IN, or of GUARD_TRIP, is taken: the input has outlasted its filter (R283). -/
def State.grdInput (s : State) (gt : Bool) : State :=
  if gt then (s.modGrd fun d => { d with gtAt := none }).grdCause 1 else (s.modGrd fun d => { d with edsAt := none }).grdCause 0

/-- Has an input outlasted its filter by now? -/
def State.inputDue (s : State) (at' : Option Int) : Bool :=
  match at' with
  | some t => decide (t ≤ (s.now : Int))
  | none => false

/-- The inputs that have outlasted their filters by now are causes (R283). -/
def State.grdInputs (s : State) : State :=
  let a := if s.inputDue s.grd.edsAt then s.grdInput false else s
  if s.inputDue s.grd.gtAt then a.grdInput true else a

/-- An input that is active stays so: device time runs to the end of its filter, and its cause is taken (R283). -/
def State.grdStays (s : State) (gt : Bool) : State :=
  match (if gt then s.grd.gtAt else s.grd.edsAt) with
  | some t => (s.runTo t.toNat).grdInput gt
  | none => s

/-- GUARD_RST is released after `low` ns of guard time low (R282): it clears the latched EDS, GT and HOLD_FB causes that
are absent. -/
def State.grdRst (s : State) (low : Nat) : State :=
  if !s.grd.powered ∨ low < 1000000 then s
  else
    let b := s.grdInputs
    let keep := (b.grd.present &&& 0x23) ||| (0x7FF - 0x23)
    let a := (b.modGrd fun d => { d with latched := d.latched &&& keep }).raise 115 sevNotice srcGrd
    a.grdUntrip

/-- The readback of the GUARD_HOLD pins (R281, R286): one mismatch is a degraded cause, two are a trip cause. -/
def State.grdReadback (s : State) (bad0 bad1 : Bool) : State :=
  let a := (s.modGrd fun d => { d with bad0 := bad0, bad1 := bad1 }).grdShow
  if bad0 && bad1 then (a.grdCause 5).grdShow
  else
    let b := if bitAt a.grd.present 5 then a.grdAbsent 5 else a
    if bad0 || bad1 then (b.grdDegrade 1).grdShow else b.grdShow

end Sys2Proof.Machine
end

