-- ==== Sys2Proof/Machine/Dio.lean ====
section
/-! DEFINITION. The discrete pins (12_can_serial_discrete.md, R432 to R435): edges and latches, ownership, and the level
each pin is driven to (R264, R293). -/

namespace Sys2Proof.Machine

/-- RSTATE INIT. -/
def rInit : Nat := 0
/-- RSTATE STANDBY. -/
def rStandby : Nat := 1
/-- RSTATE ACTIVE. -/
def rActive : Nat := 2
/-- RSTATE DIAGNOSTIC. -/
def rDiagnostic : Nat := 3

/-- RSTATE (R292). -/
def State.rstate (s : State) : Nat := s.fld F.RDN_STATUS_RSTATE

/-- Is the unit ACTIVE? -/
def State.isActive (s : State) : Bool := s.rstate == rActive

/-- Source unit number of the discrete pins (R489). -/
def srcDio : Nat := 0xD8

/-- Change a pin. -/
def State.modPin (s : State) (p : Nat) (f : Pin → Pin) : State :=
  { s with dio := { s.dio with pins := modAt s.dio.pins p f } }

/-- A pin. -/
def State.pin (s : State) (p : Nat) : Pin := s.dio.pins.getD p .init

/-- A field of DIO_CFG of pin `p`. -/
def State.dioCfg (s : State) (f : Fld) (p : Nat) : Nat := s.fld (f.plus (4 * p))

/-- Bit `p` of a pair of LO and HI registers. -/
def State.pairBit (s : State) (lo : Nat) (p : Nat) : Bool := bitAt (s.rdn (blockOff lo (4 * (p / 32)))) (p % 32)

/-- Bit `p` of DIO_CLAIM or DIO_OUT, whose HI register follows the LO register. -/
def State.setPair (s : State) (lo p : Nat) (b : Bool) : State :=
  let k := blockOff lo (4 * (p / 32))
  s.wrn k (putBit (s.rdn k) (p % 32) b)

/-- Is pin `p` staged (R434)? -/
def State.dioStaged (s : State) (p : Nat) : Bool := s.on F.DIO_MAP_MAP_EN && s.pairBit Reg.DIO_STAGE_MASK_LO p

/-- The claims on a pin: guard, staged words, DIO_CLAIM, load-shed request (R434, R435). -/
def State.pinClaims (s : State) (p : Nat) : List PinOwner :=
  (if s.grd.powered && s.grdHolds && bitAt s.localHoldMask p then [⟨1, srcGrd⟩] else []) ++
  (if s.dioStaged p then [⟨3, 0x20⟩] else []) ++
  (if s.pairBit Reg.DIO_CLAIM_LO p then (match (s.pin p).claim with | some o => [o] | none => []) else []) ++
  (if s.eon F.EPH_LS_CFG_LS_EN && s.efld F.EPH_LS_CFG_LS_PIN == p then [⟨6, 0x60⟩] else [])

/-- Does claimant `a` win over `b` (R36, R37, R435)? -/
def PinOwner.beats (a b : PinOwner) : Bool := decide (a.cls < b.cls) || (a.cls == b.cls && decide (a.idx < b.idx))

/-- The winner among claims. -/
def pinWinner : List PinOwner → Option PinOwner
  | [] => none
  | o :: os => match pinWinner os with
    | none => some o
    | some b => if b.beats o then some b else some o

/-- Settle one pin: its owner, DIO_OWNER, and EV211 where the owner changed (R435). -/
def State.settlePin (p : Nat) (s : State) : State :=
  let o := pinWinner (s.pinClaims p)
  if o = (s.pin p).owner then s
  else
    let a := s.modPin p fun d => { d with owner := o }
    let b := a.put ⟨blockOff Reg.DIO_OWNER (4 * (p / 8)), 4 * (p % 8) + 3, 4 * (p % 8)⟩ (match o with | none => 0 | some w => w.cls)
    b.raise1 211 sevNotice srcDio p

/-- Is LS_PIN owned by another block while the request is in use (R257)? -/
def State.lsLost (s : State) : Bool :=
  s.eon F.EPH_LS_CFG_LS_EN && (match (s.pin (s.efld F.EPH_LS_CFG_LS_PIN)).owner with | some o => o.cls != 6 | none => false)

/-- Settle every pin, in pin-number order, and show a lost load-shed pin. -/
def State.dioSettle (s : State) : State :=
  let a := forEach (List.range 64) State.settlePin s
  if a.lsLost then a.setTo F.EPH_STATUS_LS_PIN_LOST true else a

/-- The value the owner gives a pin, before INV; none where it gives none. -/
def State.pinValue (s : State) (p : Nat) : Option Bool :=
  match (s.pin p).owner with
  | none => none
  | some o =>
    if o.cls = 3 ∧ o.idx = 0x20 then some (s.pin p).staged
    else if o.cls = 6 then (if s.dio.lsOut then some (s.eon F.EPH_LS_CFG_LS_POL) else none)
    else some (s.pairBit Reg.DIO_OUT_LO p)

/-- A pin's output stage by DIR for an electrical level: push-pull drives it, open drain only low. -/
def State.pinLevel (s : State) (p : Nat) (e : Bool) : Option Bool :=
  match s.dioCfg F.DIO_CFG_DIR p with
  | 1 => some e
  | 2 => if e then none else some false
  | _ => none

/-- A pin's output stage by DIR and INV for a value. -/
def State.pinStage (s : State) (p : Nat) (v : Bool) : Option Bool := s.pinLevel p (v != (s.dioCfg F.DIO_CFG_INV p == 1))

/-- May the unit's role drive discrete outputs (R293)? -/
def State.roleDrives (s : State) : Bool :=
  if s.station then s.fld F.XL_SELF_SSTATE != 0 else s.isActive

/-- The station is in INIT, SYNC, READY or SAFE: its outputs take the safe state (R293). -/
def State.stationSafe (s : State) : Bool :=
  s.station && (s.fld F.XL_SELF_SSTATE == 1 || s.fld F.XL_SELF_SSTATE == 2 || s.fld F.XL_SELF_SSTATE == 3 ||
    s.fld F.XL_SELF_SSTATE == 6)

/-- The electrical level a pin is driven to, none for high impedance (R264, R263, R293, R434). -/
def State.pinDrive (s : State) (p : Nat) : Option Bool :=
  if bitAt s.localHoldMask p && !s.grd.powered then none
  else if s.grd.powered && s.grdHolds && bitAt s.localHoldMask p then some (bitAt s.localHoldLevel p)
  else if s.stationSafe then (match s.xl.stn.safeLevels.find? (·.1 == p) with | none => none | some l => s.pinLevel p l.2)
  else if s.roleDrives then (match s.pinValue p with | none => none | some v => s.pinStage p v)
  else none

/-! ### Edges and latches (R432, R433, R81, R82) -/

/-- A filtered edge on a pin (R433): the level after INV, the stamp with the filter delay removed, and the counts. -/
def State.dioEdge (s : State) (p : Nat) (raw : Bool) : State :=
  let lv := raw != (s.dioCfg F.DIO_CFG_INV p == 1)
  if lv = (s.pin p).level then s
  else
    let e := s.dioCfg F.DIO_CFG_EDGE p
    let hit := e == 3 || (e == 1 && lv) || (e == 2 && !lv)
    let st := (s.devTime - 4 * s.dioCfg F.DIO_CFG_FILT p) % 2 ^ 32
    (s.modPin p fun d => { d with
      level := lv, edges := (d.edges + 1) % 256, toward := if lv then (d.toward.1, true) else (true, d.toward.2), stamp := st
      count := if hit then (d.count + 1) % 2 ^ 32 else d.count }).setPair Reg.DIO_IN_LO p lv

/-- A write of DIO_CFG over `old` that changes INV turns the level of the pin over, without an edge (R433, log entry 45). -/
def State.invChange (s old : State) (p : Nat) : State :=
  if old.dioCfg F.DIO_CFG_INV p = s.dioCfg F.DIO_CFG_INV p then s
  else (s.modPin p fun d => { d with level := !d.level }).setPair Reg.DIO_IN_LO p (!(s.pin p).level)

/-- DIO_EDGE (R433). -/
def execDioEdge (pin : Fin 64) (level : Bool) (s : State) : Host.Outcome State Fault Refusal :=
  s.gate 9 <| .next (s.dioEdge pin.val level)

/-- The latch of a pin as DIO_LATA lays it out. -/
def Pin.latA (d : Pin) : Word := w32 (d.edges * 2 ^ 24 + b2n d.level)

/-- Latch one pin at the sample instant (R433); the edge count starts anew, and the edges captured stay for R248. -/
def State.latchPin (p : Nat) (s : State) : State :=
  let d := s.pin p
  let a := ((s.wr (blockOff Reg.DIO_LATA (8 * p)) d.latA).wrn (blockOff Reg.DIO_LATB (8 * p)) d.stamp).wrn
    (blockOff Reg.DIO_CNTR (4 * p)) d.count
  a.modPin p fun x => { x with edges := 0, toward := (false, false), latched := x.toward }

/-- DIO_LATCH (R433). -/
def State.dioLatch (s : State) : State := forEach (List.range 64) State.latchPin s

/-- FAST_LATCH of the discrete pins: the block core 1 reads (R433). -/
def State.dioFastLatch (s : State) : State :=
  { s with dio := { s.dio with fast := s.dio.pins.map fun d => (d.latA, w32 d.stamp) } }

/-! ### Direct claims and outputs (R434, R435) -/

/-- A write of DIO_CLAIM: its set bits claim their pins with the writer's class and index (R435). -/
def State.writeClaim (s : State) (req : Req) (hi : Bool) (mask : Nat) : State :=
  let base := if hi then 32 else 0
  let a := s.wrn (blockOff Reg.DIO_CLAIM_LO (b2n hi * 4)) mask
  let b := forEach (List.range 32) (fun i (t : State) => t.modPin (base + i) fun d =>
    { d with claim := if bitAt mask i then some ⟨req.cls, req.idx⟩ else none }) a
  b.dioSettle

/-- DIO_CLAIM (R435). -/
def execDioClaim (req : Req) (hi : Bool) (mask : Word) (s : State) : Host.Outcome State Fault Refusal :=
  s.gate 9 <| .next (s.writeClaim req hi mask.toNat)

/-- A write of DIO_OUT (R434). -/
def State.writeDioOut (s : State) (hi : Bool) (v : Nat) : State := s.wrn (blockOff Reg.DIO_OUT_LO (b2n hi * 4)) v

/-- DIO_OUT (R434).  FAST past its budget changes no directly attached output any more (R83, log entry 13). -/
def execDioOut (req : Req) (hi : Bool) (v : Word) (s : State) : Host.Outcome State Fault Refusal :=
  s.gate 9 <| .next (if req = .cyc 1 ∧ s.cdr.servoHeld then s else s.writeDioOut hi v.toNat)

/-- A word of a staged set that DIO_MAP names. -/
def State.doWord (s : State) (set : List (Nat × Word)) (p : Nat) : Word :=
  setWord set (if p < 32 then s.fld F.DIO_MAP_DO_WORD0 else s.fld F.DIO_MAP_DO_WORD1)

/-- STAGED_DIO_APPLY: the staged pins take the values of the set (R434). -/
def State.applyStagedDio (s : State) (set : List (Nat × Word)) : State :=
  forEach (List.range 64) (fun p (t : State) =>
    if t.dioStaged p then t.modPin p fun d => { d with staged := bitAt (t.doWord set p).toNat (p % 32) } else t) s

end Sys2Proof.Machine
end

