-- ==== Sys2Proof/Machine/Ephemeris.lean ====
section
/-! DEFINITION. Ephemeris (06_ephemeris_power.md): the hypothesis table, the scenario pairs, the latches, the selection of
a fallback, the load-shed request and its staged words. -/

namespace Sys2Proof.Machine

/-- Change Ephemeris. -/
def State.modEph (s : State) (f : Eph → Eph) : State := { s with eph := f s.eph }

/-- Change hypothesis h. -/
def State.modHyp (s : State) (h : Nat) (f : Hyp → Hyp) : State := s.modEph fun e => { e with hyps := modAt e.hyps h f }

/-- Hypothesis h. -/
def State.hyp (s : State) (h : Nat) : Hyp := s.eph.hyps.getD h .init

/-- Source unit number of Ephemeris (R489). -/
def srcEph : Nat := 0x60

/-- The hypotheses. -/
def hypIdx : List Nat := List.range 63

/-! ### The table (R236 to R238) -/

/-- The active table. -/
def State.ephTable (s : State) : List Byte := s.winBytes 0x92000 260

/-- An entry of a table (R237). -/
structure HypEntry where
  /-- KIND. -/
  kind : Nat
  /-- FLAGS. -/
  flags : Nat
  /-- TRIG_SRC. -/
  src : Nat
  /-- TRIG_CFG. -/
  cfg : Nat
  /-- THR_MASK. -/
  thr : Nat
  /-- SEC_MASK. -/
  sec : Nat
  /-- GEN_MASK. -/
  gen : Nat
  /-- CLASS_MASK. -/
  cls : Nat
  /-- MEMBER_MASK. -/
  mem : Nat
  /-- Bytes 14 and 15. -/
  rsv : Nat
  deriving DecidableEq, Repr

/-- Entry h of a table. -/
def hypEntry (t : List Byte) (h : Nat) : HypEntry :=
  let e := (t.drop (32 + 16 * h)).take 16
  ⟨fieldLe e 0 1, fieldLe e 1 1, fieldLe e 2 1, fieldLe e 3 1, fieldLe e 4 4, fieldLe e 8 2, fieldLe e 10 2, fieldLe e 12 1,
    fieldLe e 13 1, fieldLe e 14 2⟩

/-- TRIG_KIND. -/
def HypEntry.trig (e : HypEntry) : Nat := bitsOf e.cfg 7 6

/-- FAILED_LEVEL. -/
def HypEntry.failed (e : HypEntry) : Bool := bitAt e.cfg 0

/-- An entry obeys R237. -/
def HypEntry.ok (e : HypEntry) : Bool :=
  decide (e.kind ≤ 6) && decide (e.flags < 16) && decide (e.src < 64) && e.trig != 3 && decide (bitsOf e.cfg 5 1 = 0) &&
    decide (e.thr < 2 ^ 24) && decide (e.sec < 2 ^ 12) && decide (e.gen < 2 ^ 12) && decide (e.cls < 16) && decide (e.mem < 8) &&
    decide (e.rsv = 0)

/-- GEN_SECTION of a generator. -/
def genSection (t : List Byte) (g : Nat) : Nat := fieldLe t (12 + g) 1

/-- A table passes the check of R238 against a control set's thrusters, but for the latches. -/
def tableOk (t : List Byte) (ts : List Thr) : Bool :=
  let names (e : HypEntry) : Bool :=
    (setBits 24 e.thr).all (fun i => ts.any fun x => x.idx == i) && (setBits 12 e.gen).all fun g => genSection t g != 0xFF
  decide (fieldLe t 0 4 = 0x54485045) && decide (fieldLe t 4 2 = 1) &&
    decide (fieldLe t 28 4 = crc32c (t.take 28 ++ (t.drop 32).take 1008)) &&
    (hypIdx.map (hypEntry t)).all fun e => e.ok && names e

/-- Make a table active: every stored fallback is cleared, every structure rebuilt (R238). -/
def State.setTable (s : State) (t : List Byte) : State :=
  let a := (s.wrWords 0x92000 (wordsOf 260 t)).wrn Reg.EPH_TABLE_ID (fieldLe t 8 4)
  a.modEph fun e => { e with hyps := List.replicate 63 .init }

/-- The bytes of an entry that Ephemeris builds itself. -/
def autoEntry (kind cfg thr sec : Nat) : List Byte :=
  leBytes 1 kind ++ leBytes 1 3 ++ leBytes 1 0 ++ leBytes 1 cfg ++ leBytes 4 thr ++ leBytes 2 sec ++ leBytes 6 0

/-- The table Ephemeris builds from the active control set (R238). -/
def autoTable (ts : List Thr) : List Byte :=
  let es := (ts.map fun t => autoEntry 1 0x80 (2 ^ t.idx) 0) ++ (thrSections ts).map fun k => autoEntry 2 0x40 0 (2 ^ k)
  let body := es.flatten ++ List.replicate (1008 - 16 * es.length) 0
  let hdr := leBytes 4 0x54485045 ++ leBytes 2 1 ++ leBytes 1 es.length ++ leBytes 1 0 ++ leBytes 4 0 ++ List.replicate 12 0xFF ++ leBytes 4 0
  hdr ++ leBytes 4 (crc32c (hdr ++ body)) ++ body

/-- A table is active. -/
def State.ephHas (s : State) : Bool := s.rd 0x92000 == (0x54485045 : Word)

/-- With a control set and no table given, Ephemeris builds one (R238). -/
def State.ephAuto (s : State) : State :=
  if s.ctlHas ∧ !s.ephHas ∧ !s.eph.given then s.setTable (autoTable s.thrs) else s

/-- Is a hypothesis latched? -/
def HypState.isLatched : HypState → Bool
  | .latched _ _ => true
  | _ => false

/-- TABLE_COMMIT: the staged table waits for the sample instant (R238). -/
def State.tableCommit (s : State) : State :=
  (s.modEph fun e => { e with tabLate := s.commitTie (s.on F.EPH_CTRL_TABLE_COMMIT) e.tabLate }).setTo F.EPH_CTRL_TABLE_COMMIT true

/-- The committed table is checked at the sample instant (R238). -/
def State.tableCheck (s : State) : State :=
  if !s.on F.EPH_CTRL_TABLE_COMMIT then s.ephAuto
  else if s.eph.tabLate then (s.modEph fun e => { e with tabLate := false }).ephAuto
  else
    let a := s.setTo F.EPH_CTRL_TABLE_COMMIT false
    let t := a.winBytes 0x91000 260
    if a.ctlHas && tableOk t a.thrs && !(a.eph.hyps.any fun h => h.st.isLatched) then
      ((a.setTable t).modEph fun e => { e with given := true }).raise 104 sevNotice srcEph
    else ((a.setTo F.EPH_STATUS_TABLE_REJECT true).raise 104 sevNotice srcEph).ephAuto

def execTableCommit (_req : Req) (s : State) : Host.Outcome State Fault Refusal :=
  s.gate 9 <| .next s.tableCommit

/-- Entry h of the active table. -/
def State.hypEntryOf (s : State) (h : Nat) : HypEntry := hypEntry s.ephTable h

/-- N_HYP. -/
def State.nHyp (s : State) : Nat := if s.ephHas then fieldLe s.ephTable 6 1 else 0

/-- A hypothesis is enabled: in use, with EN. -/
def State.hypOn (s : State) (h : Nat) : Bool :=
  let e := s.hypEntryOf h
  decide (h < s.nHyp) && e.kind != 0 && bitAt e.flags 0

/-- The lost set of masks: thrusters named, and those whose SECTION is named (R237). -/
def State.lostSet (s : State) (thr sec : Nat) : List Nat :=
  (s.thrs.filter fun t => bitAt thr t.idx || bitAt sec t.sec).map (·.idx)

/-- GEN_AVAIL of a generator. -/
def State.genAvail (s : State) (g : Nat) : Nat := f32At s.eph.input (4 * g)

/-- A_k after the loss of sections and generators (R243). -/
def State.postLoss (s : State) (sec gen k : Nat) : Nat :=
  if bitAt sec k then 0
  else
    let gs := (setBits 12 gen).filter fun g => genSection s.ephTable g == k
    fmax 0 (gs.foldl (fun a g => fsub a (s.genAvail g)) (s.secAvail k))

/-! ### Latches (R248, R249) -/

/-- Show the LATCHED mask. -/
def State.showLatch (s : State) : State :=
  let m := hypIdx.foldl (fun m h => putBit m h (s.hyp h).st.isLatched) 0
  (s.wrn Reg.EPH_LATCH_LO m).wrn Reg.EPH_LATCH_HI (m / 2 ^ 32)

/-- FB_ACK_LIMIT in force. -/
def State.ackLimit (s : State) : Nat := let l := s.efld F.EPH_LIMITS_FB_ACK_LIMIT; if l = 0 then 1 else l

/-- A hypothesis has been latched for FB_ACK_LIMIT cycles. -/
def State.overdue (s : State) (h : Nat) : Bool :=
  match (s.hyp h).st with
  | .latched _ c => decide (c + s.ackLimit ≤ s.cdr.cyc)
  | _ => false

/-- An ARMED hypothesis with EN becomes LATCHED (R248). -/
def State.latch (s : State) (h : Nat) (by_ : TrigBy) : State :=
  match (s.hyp h).st with
  | .armed =>
    if s.hypOn h then
      let a := (s.modHyp h fun x => { x with st := .latched by_ s.cdr.cyc }).modEph fun e => { e with fresh := true }
      ((a.bump F.EPH_CNT_TRIGGERS 1).showLatch).raise1 96 sevAlarm srcEph h
    else s
  | _ => s

/-- A RELEASED hypothesis is armed again. -/
def State.rearm (s : State) (h : Nat) : State := s.modHyp h fun x => { x with st := .armed }

/-- An edge of a pin toward a level was captured since the last sample instant, or the latched level is that (R81, R248). -/
def State.pinFailed (s : State) (p : Nat) (lv : Bool) : Bool :=
  let w := s.rdn (blockOff Reg.DIO_LATA (8 * p))
  bitAt w 0 == lv || (if lv then (s.pin p).latched.2 else (s.pin p).latched.1)

/-- Local inputs latch and re-arm hypotheses at the sample instant (R248, R249). -/
def State.pinTriggers (s : State) : State :=
  forEach (List.range s.nHyp) (fun h a =>
    let e := a.hypEntryOf h
    match (a.hyp h).st with
    | .armed => if e.trig = 0 ∧ a.pinFailed e.src e.failed then a.latch h .pin else a
    | .released .pin => if bitAt (a.rdn (blockOff Reg.DIO_LATA (8 * e.src))) 0 ≠ e.failed then a.rearm h else a
    | _ => a) s

/-- Ring losses latch and re-arm hypotheses at INTAKE_CL: `lost` and `back` say which thrusters the rings declare lost and
which stations are in service (R248, R249). -/
def State.ringTriggers (s : State) (lost back : Nat → Bool) : State :=
  forEach (List.range s.nHyp) (fun h a =>
    let e := a.hypEntryOf h
    match setBits 24 e.thr, (a.hyp h).st with
    | [i], .armed => if e.trig = 2 ∧ lost i then a.latch h .ring else a
    | [i], .released .ring => if back i then a.rearm h else a
    | _, _ => a) s

/-- Hypothesis h is released by ACK (R249). -/
def State.ack (s : State) (h : Nat) : State :=
  match (s.hyp h).st with
  | .latched b _ =>
    let a := (s.modHyp h fun x => { x with st := .released b }).showLatch
    (a.setTo F.EPH_STATUS_ACK_OVERDUE (hypIdx.any a.overdue)).raise1 99 sevNotice srcEph h
  | _ => s

/-- The input block is taken at FUSION_DL, or the previous one kept (R239). -/
def State.inputTake (s : State) : State :=
  let b := s.cdr.inpTaken ++ List.replicate (256 - s.cdr.inpTaken.length) 0
  let gens := (List.range 12).map fun g => fieldLe b (4 * g) 4
  let d := fieldLe b 64 4
  if gens.all (fun c => fmt32.finite c && !fmt32.lt c 0) && fmt32.finite d then
    s.modEph fun e => { e with input := b, drift := if fmt32.lt 0 d then f32to64 d else e.drift }
  else s.setTo F.EPH_STATUS_INPUT_BAD true

/-- FUSION_DL: the input block, acknowledgements and program triggers (R239, R248, R249). -/
def State.ephFusion (s : State) : State :=
  let a := (s.inputTake).setTo F.EPH_STATUS_DR_MODE (s.pubFlag 3)
  forEach hypIdx (fun h t =>
    let trig := bitAt (fieldLe t.eph.input 56 8) h
    match (t.hyp h).st with
    | .latched _ _ => if bitAt (fieldLe t.eph.input 48 8) h then t.ack h else t
    | .released .program => if trig then t else t.rearm h
    | .armed => if trig then t.latch h .program else t
    | _ => t) a

/-- A hypothesis has been latched FB_ACK_LIMIT cycles after its trigger (R249). -/
def execAckOverdue (h : Fin 63) (s : State) : Host.Outcome State Fault Refusal :=
  s.gate 9 <| .next (if s.overdue h.val then (s.setTo F.EPH_STATUS_ACK_OVERDUE true).raise1 100 sevAlarm srcEph h.val else s)

/-! ### Scenario structures and pairs (R240 to R244) -/

/-- The plan entry of hypothesis h, with its slot. -/
def State.scnEntry (s : State) (h : Nat) : Option (Nat × PlanEntry) := s.planSlot 3 h

/-- The structure slots of the QP and the SIM on the entry's engine (R240). -/
def State.scnSlots (s : State) (p : Nat × PlanEntry) : Nat × Nat :=
  if s.plan.any fun e => e.2.role == 3 && e.2.eng == p.2.eng && decide (e.1 < p.1) then (0, 1) else (2, 3)

/-- The bounds of a row of scenario h (R241, R242). -/
def State.scnBounds (s : State) (h : Nat) (ts : List Thr) (sides : Nat) (tag : RowTag) : Nat × Nat :=
  let e := s.hypEntryOf h
  let lost := s.lostSet e.thr e.sec
  let force (i c : Nat) : Nat × Nat :=
    let t := thrOf ts i
    let f := if c = 0 then (s.fprev t).1 else (s.fprev t).2
    if lost.contains i ∨ s.thrState i = 1 ∨ s.thrState i = 3 then (0, 0)
    else if s.thrState i = 2 then (f, f)
    else (fneg (s.teff t), s.teff t)
  match tag with
  | .bal c => let d := nth s.ctl.tauRef c; (d, d)
  | .tunnel i c => if c = 0 then (0, 0) else force i 1
  | .rate i c => force i c
  | .power i j => (fninf, if lost.contains i then finf else (thrOf ts i).powUpper j)
  | .busSec k => (fninf, s.postLoss e.sec e.gen k)
  | _ => s.primaryBounds ts sides tag

/-- The QP-ADMM structure of scenario h (R240). -/
def State.scnQp (s : State) (h : Nat) : Struct :=
  let ts := s.thrs
  let sides := polySides s.ctlSet
  let tags := allocTags ts sides
  qpStruct (s.allocP ts) (s.allocQ ts) (tags.map (s.rowCoef ts sides 0 false)) (tags.map (s.scnBounds h ts sides))
    s.rhoSigma.1 s.rhoSigma.2

/-- The SIM structure of every scenario: 600 steps of 0.1 s, DECIM 10, M⁻¹, D_L and D_Q of the control set (R240). -/
def State.scnSim (s : State) : Struct :=
  let inv := inverse3 (f32sAt s.ctlSet 16 9)
  ⟨4, 1, 6, 600, 10, 0, 0, 0, footprint 4 6 600 10 0, shapeId 4 6 600 10 0 0 0 [], 0, 0, 0, [], [], [], [],
    [List.replicate 6 0, [0, 0, 0], inv, f32sAt s.ctlSet 52 9, f32sAt s.ctlSet 88 3, [s.eph.drift]], [], [], true⟩

/-- SCN_ITER in force. -/
def State.scnIter (s : State) : Nat := let k := s.efld F.EPH_CFG_SCN_ITER; if 8 ≤ k ∧ k ≤ 256 then k else 40

/-- The delta list of scenario h's QP (R242). -/
def State.scnDeltas (s : State) (h : Nat) (sect poly : List Nat) : List Delta :=
  let ts := s.thrs
  let sides := polySides s.ctlSet
  let tags := allocTags ts sides
  let b (tag : RowTag) : Nat × Nat := s.scnBounds h ts sides tag
  let bal := (List.range 3).map fun c => (⟨3, c, (b (.bal c)).1⟩ : Delta)
  let thr := ts.flatMap fun t =>
    if t.isAz then boundRecs tags (.rate t.idx 0) (b (.rate t.idx 0)) ++ boundRecs tags (.rate t.idx 1) (b (.rate t.idx 1))
    else boundRecs tags (.tunnel t.idx 1) (b (.tunnel t.idx 1))
  let sec := (thrSections ts).flatMap fun k => upperRec tags (.busSec k) (b (.busSec k)).2
  bal ++ thr ++ sec ++ s.changeRecs ts sides 0 false tags sect poly []

/-- ENV_UNC in force, as a factor 1 + ENV_UNC. -/
def State.envFactor (s : State) : Nat := ffrac ((100 + satN 100 (s.efld F.EPH_CFG_ENV_UNC) : Nat)) 100

/-- The 10 records of scenario h's SIM (R244). -/
def State.simDeltas (s : State) (h : Nat) : List Delta :=
  let x0 := [s.pub64 16, s.pub64 24, s.pub64 52, s.pub32 88, s.pub32 92, s.pub32 76]
  let dr := bitAt (s.hypEntryOf h).flags 3 || s.pubFlag 3
  let env := (List.range 3).map fun c => let e := s.pub32 (100 + 4 * c); if dr then fmul s.envFactor e else e
  (x0.zipIdx.map fun p => ⟨0, p.2, p.1⟩) ++ (env.zipIdx.map fun p => ⟨1, p.2, p.1⟩) ++ [⟨5, 0, s.eph.drift⟩]

/-- Post the two LOADs of hypothesis h. -/
def State.scnLoad (s : State) (h : Nat) (p : Nat × PlanEntry) : State :=
  let k := s.scnSlots p
  let d (ss : Nat) (st : Struct) : JobDesc := { loadDesc p.1 p.2.eng ss s.cdr.cyc [] with img := some st }
  let a := (s.postJob (.scenario h) (d k.1 (s.scnQp h)) none).postJob (.scenario h) (d k.2 s.scnSim) none
  a.modHyp h fun x => { x with build := false, now := { Scenario.none with loading := true } }

/-- Post the chained pair of hypothesis h (R242).  LINK stands on the QP, as R242 says, and on the SIM, where R165 has it and the chain
reads it (DEDUCED, log entry 35). -/
def State.scnPair (s : State) (h : Nat) (p : Nat × PlanEntry) (sect poly : List Nat) : State :=
  let k := s.scnSlots p
  let ds := s.scnDeltas h sect poly
  let n := allocVars s.thrs
  let qp : JobDesc := { unitDesc 1 p.1 p.2.eng k.1 (s.scnQp h).sid s.cdr.cyc with
    ctrl := 0x43, countA := s.scnIter, deltas := some ds, deltaCount := ds.length, link := (n - 3) * 65536 }
  let sim : JobDesc := { unitDesc 4 p.1 p.2.eng k.2 s.scnSim.sid s.cdr.cyc with
    ctrl := 0x40, deltas := some (s.simDeltas h), deltaCount := 10, param0 := ffrac 1 10, link := (n - 3) * 65536 }
  (s.modHyp h fun x => { x with now := { Scenario.none with posted := true } }).postJob (.scenario h) qp (some sim)

/-- Ephemeris posts its jobs at FUSION_DL + 12 µs (R240, R242); `sect`, `poly`: the changes of the cycle. -/
def State.scnPost (s : State) (sect poly : List Nat) : State :=
  let clear := s.modEph fun e => { e with hyps := e.hyps.map fun h => { h with now := .none } }
  let a := forEach hypIdx (fun h t =>
    match t.scnEntry h with
    | none => t
    | some p =>
      if !t.quadOn (p.2.eng / 16) then t.modHyp h fun x => { x with build := true }
      else if !(t.eon F.EPH_CTRL_ENABLE && t.hypOn h && t.ctlHas) then t
      else if (t.hyp h).build then t.scnLoad h p
      else t.scnPair h p sect poly) clear
  a.setTo F.EPH_STATUS_RUN (a.eph.hyps.any fun h => h.now.posted || h.now.loading)

/-! ### Results (R245 to R247) -/

/-- CAP of slack and demand (R245). -/
def capability (tau slack : List Nat) : Nat :=
  let axes := (List.range 3).filter fun c => !isZero (nth tau c)
  axes.foldl (fun a c => fmin a (fmax 0 (fsub one (fdiv (fabs (nth slack c)) (fabs (nth tau c)))))) one

/-- Σ F_i of a scenario's solution: A·x on the balance rows without the slack. -/
def State.sumForce (s : State) (x : List Nat) : List Nat :=
  let ts := s.thrs
  let sides := polySides s.ctlSet
  (List.range 3).map fun c =>
    dotN (((s.rowCoef ts sides 0 false (.bal c)).filter fun e => decide (e.1 < 3 * ts.length)).map fun e => (e.2, nth x e.1))

/-- A result of scenario h. -/
def State.scnResult (s : State) (h : Nat) (d : JobDesc) (r : JobRes) : State :=
  let timely := decide (d.cycLo = s.cdr.cyc % 2 ^ 32) && !s.ctl.closed
  let note (f : Scenario → Scenario) : State := if timely then s.modHyp h fun x => { x with now := f x.now } else s
  if d.ty = 14 then
    if r.status = stDone then s else (note fun n => { n with qp := some r.status }).modHyp h fun x => { x with build := true }
  else if d.ty = 1 then
    let n := 3 * s.thrs.length
    let x := f64sAt r.payload 0 (n + 3)
    let slack := x.drop n
    let a := note fun w => { w with qp := some r.status, cap := capability (s.ctl.tauRef.take 3) slack }
    if r.status = stDone ∨ r.status = stDlIter then
      a.modHyp h fun y => { y with fb := some ⟨x, s.sumForce x, slack, s.cycOf d.cycLo, r.status == stDlIter⟩ }
    else if r.status = stMismatch then a.modHyp h fun y => { y with build := true }
    else a
  else
    let a := note fun w => { w with sim := some r.status, out := f64sAt r.payload 0 3 }
    if r.status = stMismatch then a.modHyp h fun y => { y with build := true } else a

/-- The STATE code of hypothesis h (R246): the lowest that applies. -/
def State.hypCode (s : State) (h : Nat) : Nat :=
  let w := (s.hyp h).now
  let is (l : List Nat) : Bool := l.any fun c => w.qp == some c || w.sim == some c
  if !s.hypOn h || !s.eon F.EPH_CTRL_ENABLE || !s.ctlHas then 1
  else match s.scnEntry h with
    | none => 2
    | some p =>
      if !s.quadOn (p.2.eng / 16) || is [stAborted] then 3
      else if w.loading then 6
      else if is [stNotStarted, stDlFactor] || w.sim == some stDlIter then 4
      else if is [stNumeric, stDeltaError] then 5
      else if is [stMismatch, stNoSpace, stBadDesc, stQueueFull] then 6
      else if w.qp.isSome && w.sim == some stDone then 0
      else 4

/-- FB_MAX_AGE in force. -/
def State.fbMaxAge (s : State) : Nat := let l := s.efld F.EPH_LIMITS_FB_MAX_AGE; if l = 0 then 1 else l

/-- The usable fallback of hypothesis h (R247). -/
def State.usable (s : State) (h : Nat) : Option Fallback :=
  match (s.hyp h).fb with
  | some f => if s.cdr.cyc ≤ f.cyc + s.fbMaxAge then some f else none
  | none => none

/-! ### Selection (R250, R251) -/

/-- The masks of the LATCHED hypotheses together: lost thrusters, sections, generators. -/
def State.unionMasks (s : State) : List Nat × Nat × Nat :=
  let ls := hypIdx.filter fun h => (s.hyp h).st.isLatched
  let f (g : HypEntry → Nat) : Nat := ls.foldl (fun m h => m ||| g (s.hypEntryOf h)) 0
  (s.lostSet (f (·.thr)) (f (·.sec)), f (·.sec), f (·.gen))

/-- Hypothesis h may stage a fallback: enabled, FB set, a usable fallback. -/
def State.fbReady (s : State) (h : Nat) : Bool := s.hypOn h && bitAt (s.hypEntryOf h).flags 1 && (s.usable h).isSome

/-- Σ A_k of hypothesis h. -/
def State.sumAvail (s : State) (h : Nat) : Nat :=
  let e := s.hypEntryOf h
  (List.range 12).foldl (fun a k => fadd a (s.postLoss e.sec e.gen k)) 0

/-- Does hypothesis a go before b in step 3 of R250? -/
def State.fbBefore (s : State) (a b : Nat) : Bool :=
  let n (h : Nat) : Nat := (s.lostSet (s.hypEntryOf h).thr (s.hypEntryOf h).sec).length
  decide (n b < n a) || (n a == n b && (flt (s.sumAvail a) (s.sumAvail b) || (!flt (s.sumAvail b) (s.sumAvail a) && decide (a ≤ b))))

/-- The hypothesis whose fallback is selected, and PARTIAL (R250). -/
def State.selectFb (s : State) : Option Nat × Bool :=
  let u := s.unionMasks
  let same (h : Nat) : Bool :=
    let e := s.hypEntryOf h
    s.lostSet e.thr e.sec == u.1 && e.sec == u.2.1 && e.gen == u.2.2
  match hypIdx.find? fun h => s.fbReady h && same h with
  | some h => (some h, false)
  | none =>
    let ls := hypIdx.filter fun h => (s.hyp h).st.isLatched
    let c := ls.filter s.fbReady
    (c.find? fun h => c.all fun g => s.fbBefore h g, decide (1 < ls.length) && !c.isEmpty)

/-- Words 2 to 55 of a fallback (R251). -/
def State.fbWords (s : State) (f : Fallback) : List Word :=
  let ts := s.thrs
  let force (t : Thr) : Nat × Nat := (nth f.x (2 * thrPos ts t.idx), nth f.x (2 * thrPos ts t.idx + 1))
  s.convWords true s.unionMasks.1 f.force f.slack force fun t => nth f.x (2 * ts.length + thrPos ts t.idx)

/-- D_k, W (R255): the powers of the last staged set less A_k over the union. -/
def State.deficitOf (s : State) (k : Nat) : Nat :=
  let u := s.unionMasks
  let p := ((s.thrs.filter fun t => t.sec == k).map fun t => s.stagedWord (9 + 2 * t.idx) % 65536).sum
  fsub (fmul (fint p) (fint 1000)) (s.postLoss u.2.1 u.2.2 k)

/-- A fallback is about to be staged in the cycle: one is selected, and it may be staged (R251, R254). -/
def State.fbComes (s : State) : Bool := s.selectFb.1.isSome && s.cmode != 0 && s.eon F.EPH_CTRL_FB_EN

/-- In the first cycle of a latch, the load-shed request where a deficit exceeds LS_THRESH (R255). -/
def State.loadShed (s : State) : State :=
  let d := (List.range 12).map s.deficitOf
  let lim := fint (s.efld F.EPH_LS_CFG_LS_THRESH * 10000 : Nat)
  let ls := hypIdx.any fun h => (s.hyp h).st.isLatched && bitAt (s.hypEntryOf h).flags 2
  if s.eph.fresh && ls && d.any (flt lim) then
    s.modEph fun e => { e with lsDue := true, deficit := d.map fun x => (fmt64.toIntScaled (fmax 0 (fdiv x (fint 1000))) 1 true).toNat }
  else s

/-- LS_HOLD in force. -/
def State.lsHold (s : State) : Nat := let l := s.efld F.EPH_LS_CFG_LS_HOLD; if l = 0 then 1 else l

/-! ### SOLVE_DL (R245, R246, R250, R251, R259) -/

/-- A hypothesis of the cycle exceeds DRIFT_LIMIT. -/
def Scenario.exceeds (w : Scenario) : Bool := fle 0 (nth w.out 2)

/-- Words 128 + 2h and 129 + 2h (R259). -/
def State.hypWords (s : State) (h : Nat) : List Word :=
  let c := s.hypCode h
  let w := (s.hyp h).now
  if c ≠ 0 then [0, w32 (c * 2 ^ 28 + 0x00FFF000)]
  else
    let r (x k : Nat) : Nat := (fmt64.toIntScaled (fmax 0 x) k true).toNat
    let tx := if w.exceeds then satN 0xFFE (r (nth w.out 2) 10) else 0xFFF
    let deg := fdiv (fmul (nth w.out 1) (fint 1800)) fpi
    [w32 (satN 65535 (r (nth w.out 0) 100) * 65536 + satN 65535 (r w.cap 65536)), w32 (tx * 4096 + satN 4095 (r deg 1))]

/-- The entry of hypothesis h in the result window. -/
def State.hypResult (s : State) (h : Nat) : List Word :=
  let c := s.hypCode h
  let w := (s.hyp h).now
  let f (x : Nat) : Word := w32 (f64to32 x)
  let age := match s.usable h with | some b => s.cdr.cyc - b.cyc | none => 0xFFFFFFFF
  (if c = 0 then [f (nth w.out 0), f (nth w.out 1), f (nth w.out 2), f w.cap, w32 s.cdr.cyc] else [0, 0, f negOne, 0, 0]) ++
    [w32 c, w32 age, 0]

/-- A mask of hypotheses as two words. -/
def maskWords (hs : List Nat) : List Word :=
  let m := hs.foldl (fun m h => putBit m h true) 0
  [w32 m, w32 (m / 2 ^ 32)]

/-- The outputs of the cycle's hypotheses: result window, masks, EV102 and EV103 (R246, R260). -/
def State.showHyps (s : State) : State :=
  let ev := hypIdx.filter fun h => s.hypCode h == 0
  let ex := ev.filter fun h => (s.hyp h).now.exceeds
  let th := hypIdx.filter fun h => s.hypCode h == 3
  let a := s.wrWords 0x93000 (hypIdx.flatMap s.hypResult)
  let b := (a.wrWords Reg.EPH_EVAL_LO (maskWords ev)).wrWords Reg.EPH_THROT_LO (maskWords th)
  let moved := hypIdx.filter fun h => s.eph.exceed.contains h != ex.contains h
  let c := forEach moved (fun h t => t.raise1 102 sevWarn srcEph h) b
  let d := if th = s.eph.throt then c else c.raise 103 sevWarn srcEph
  d.modEph fun e => { e with exceed := ex, throt := th }

/-- Ephemeris at SOLVE_DL: the results of the cycle, the selection, and the words of the fallback to stage (R250, R251);
HYP, PARTIAL and the fallback selected. -/
def State.ephSolve (s : State) : State × Option (List Word) × Option (Nat × Fallback) × Bool :=
  let a := s.showHyps
  if !(a.eph.hyps.any fun h => h.st.isLatched) then (a, none, none, false)
  else
    let b := a.loadShed
    let sel := b.selectFb
    match sel.1.bind fun h => (b.usable h).map fun f => (h, f) with
    | none => (((b.setTo F.EPH_STATUS_NO_FALLBACK true).bump F.EPH_CNT_NO_FB 1).raise 98 sevAlarm srcEph, none, none, false)
    | some hf =>
      let stage := b.cmode != 0 && b.eon F.EPH_CTRL_FB_EN
      (b, if stage then some (b.fbWords hf.2) else none, some hf, sel.2)

/-- Words 64 to 255 (R259). -/
def State.ephWords (s : State) (staged : Bool) (sel : Option (Nat × Fallback)) (part : Bool) : State :=
  let e := s.eph
  let w64 := match sel with
    | none => 0x3F * 2 ^ 26 + b2n e.fresh * 2 ^ 23
    | some hf => hf.1 * 2 ^ 26 + b2n staged * 2 ^ 25 + b2n part * 2 ^ 24 + b2n e.fresh * 2 ^ 23 + b2n hf.2.iter * 2 ^ 22 +
        satN 65535 (s.cdr.cyc - hf.2.cyc)
  let w65 := match sel with | none => 0 | some hf => hf.2.cyc % 2 ^ 32
  let act := s.on F.EPH_STATUS_LS_ACTIVE
  let left := if e.lsDue then s.lsHold else if act then e.lsEnd - s.cdr.cyc else 0
  let ev := hypIdx.filter fun h => s.hypCode h == 0
  let la := hypIdx.filter fun h => (s.hyp h).st.isLatched
  let ws : List Word := [w32 w64, w32 w65] ++ e.deficit.map w32 ++ [w32 (satN 65535 left * 65536 + b2n (act || e.lsDue)), 0] ++
    maskWords ev ++ maskWords (ev.filter fun h => (s.hyp h).now.exceeds) ++ maskWords la ++ List.replicate 42 0 ++
    hypIdx.flatMap s.hypWords ++ [0, 0]
  s.bufWords 64 ws

/-- What EPH_STATUS, EPH_FB, EPH_CNT and CTL_STATUS show of a staged set (R225, R259). -/
def State.stagedShow (s : State) : State :=
  let word (i : Nat) : Nat := (sget (fun _ => (0 : Word)) s.cdr.staged i).toNat
  let src := word 1 / 2 ^ 28
  let w := word 64
  let fb := bitAt w 25
  let a := ((s.put F.CTL_STATUS_SOURCE src).wrn Reg.EPH_FB w).setTo F.EPH_STATUS_FB_ACTIVE fb
  if s.cdr.stagedCyc ≠ some s.cdr.cyc then s
  else if fb then (a.put F.EPH_STATUS_FB_HYP (w / 2 ^ 26)).bump F.EPH_CNT_FB_CYCLES 1 else a

/-! ### The output instant (R256) -/

/-- LS_HOLD cycles have passed, and no new deficit restarts them: the request is released (R256). -/
def State.lsRelease (s : State) : State :=
  if s.on F.EPH_STATUS_LS_ACTIVE ∧ s.eph.lsEnd ≤ s.cdr.cyc ∧ !s.eph.lsDue then
    let c := (s.setTo F.EPH_STATUS_LS_ACTIVE false).raise 101 sevAlarm srcEph
    { c with dio := { c.dio with lsOut := false } }.dioSettle
  else s

/-- LS_HOLD_EXPIRY: the release falls on the output instant of its cycle (R256). -/
def execLsHoldExpiry (s : State) : Host.Outcome State Fault Refusal :=
  s.gate 9 <| .next <|
    if s.on F.EPH_STATUS_LS_ACTIVE ∧ s.eph.lsEnd ≤ s.cdr.cyc then (s.runTo (s.at F.CDR_OFS_C_OUT_OFFSET)).lsRelease else s

/-- EV097 for a fallback staged in the first cycle of a latch, and the load-shed request asserted or released (R256, R260). -/
def State.ephOut (s : State) : State :=
  let a := if s.eph.fresh ∧ s.cdr.stagedCyc = some s.cdr.cyc ∧ bitAt (s.stagedWord 64) 25 then s.raise 97 sevAlarm srcEph else s
  if !a.eph.lsDue then a.lsRelease.dioSettle
  else
    let b := a.modEph fun e => { e with lsDue := false, lsEnd := a.cdr.cyc + a.lsHold }
    if b.on F.EPH_STATUS_LS_ACTIVE then b
    else
      let c := (b.setTo F.EPH_STATUS_LS_ACTIVE true).raise 101 sevAlarm srcEph
      { c with dio := { c.dio with lsOut := true } }.dioSettle


/-- A stored fallback is older than FB_MAX_AGE: it is no longer usable (R247). -/
def State.fbExpire (s : State) (h : Nat) : State :=
  match (s.hyp h).fb with
  | some f => if f.cyc + s.fbMaxAge < s.cdr.cyc then s.modHyp h fun x => { x with fb := none } else s
  | none => s

def execFallbackExpiry (h : Fin 63) (s : State) : Host.Outcome State Fault Refusal :=
  s.gate 9 <| .next (s.fbExpire h.val)

end Sys2Proof.Machine
end

