-- ==== Sys2Proof/Machine/HostIf.lean ====
section
/-! DEFINITION. The host interface's rings, doorbells, fetch, completion and notification (14_host_interface.md, R462
to R473, R478 to R482). -/

namespace Sys2Proof.Machine

/-- Source unit number of the host interface (R489). -/
def srcHif : Nat := 0xE0

/-- Change the host interface. -/
def State.modHif (s : State) (f : HostIf → HostIf) : State := { s with hif := f s.hif }

/-- Ring k. -/
def State.hring (s : State) (k : Nat) : Ring := s.hif.rings.getD k .init

/-- Change ring k. -/
def State.modRing (s : State) (k : Nat) (f : Ring → Ring) : State :=
  s.modHif fun h => { h with rings := modAt h.rings k f }

/-- A field of ring k's registers (R566). -/
def rf (f : Fld) (k : Nat) : Fld := f.plus (0x40 * k)

/-- STATE of ring k: 0 DISABLED, 1 RUN, 2 DRAIN. -/
def State.ringState (s : State) (k : Nat) : Nat := s.fld (rf F.HIF_Rk_STATUS_STATE k)

/-- Entries of SQ k. -/
def State.sqSize (s : State) (k : Nat) : Nat := s.fld (rf F.HIF_Rk_SIZE_SQ_SIZE k) + 1

/-- Entries of CQ k. -/
def State.cqSize (s : State) (k : Nat) : Nat := s.fld (rf F.HIF_Rk_SIZE_CQ_SIZE k) + 1

/-- SQ HEAD of ring k. -/
def State.sqHead (s : State) (k : Nat) : Nat := s.fld (rf F.HIF_Rk_STATUS_SQ_HEAD k)

/-- CQ TAIL of ring k. -/
def State.cqTail (s : State) (k : Nat) : Nat := s.fld (rf F.HIF_Rk_STATUS_CQ_TAIL k)

/-- The host address of SQ k's base. -/
def State.sqBase (s : State) (k : Nat) : Nat := s.rd64 (Reg.HIF_Rk_SQ_LO + 0x40 * k) (Reg.HIF_Rk_SQ_HI + 0x40 * k)

/-- The host address of CQ k's base. -/
def State.cqBase (s : State) (k : Nat) : Nat := s.rd64 (Reg.HIF_Rk_CQ_LO + 0x40 * k) (Reg.HIF_Rk_CQ_HI + 0x40 * k)

/-- The endpoint's identity and limits (R460, R461): the revision from CHIP_ID[15:8], the subsystem IDs from the configuration
image, the serial number from the fused UID; in SEALED no debug window is assigned. -/
def State.pcieId (s : State) : PcieId :=
  { vendor := 0x1F4B, device := 0x9410, classCode := 0x0B4000, revision := bitsOf (s.rdn Reg.CHIP_ID) 15 8
    subsys := s.boot.sys.subsys, serial := s.boot.fuses.uid, vectors := 64, functions := 1, options := (false, false, false, false)
    widths := [1, 2, 4], speeds := [1, 2, 3, 4], reversal := (true, true), states := [0, 3], aspm := (false, false), intPin := 0, maxPayload := 512, maxReads := 128
    tagBits := 8, timeoutRanges := [(50, 10000), (16000, 55000)], timeout := 10000
    bars := (0x200000, 0x10000, if s.fld F.BOOT_STATUS_LC = 2 then 0 else 0x1000000) }

/-- All four pointers of ring k at 0, CQ phase 1 (R463); its completions since the last message still count (R479). -/
def State.zeroRing (s : State) (k : Nat) : State :=
  (((s.put (rf F.HIF_Rk_STATUS_SQ_HEAD k) 0).put (rf F.HIF_Rk_STATUS_CQ_TAIL k) 0).put (rf F.HIF_Rk_STATUS_PHASE k) 1).modRing
    k fun r => { r with sqTail := 0, cqHead := 0 }

/-- Are ring k's bases and sizes valid (R462, R463)? -/
def State.ringCfgOk (s : State) (k : Nat) : Bool :=
  s.sqBase k % 4096 == 0 && s.cqBase k % 4096 == 0 && decide (2 ≤ s.sqSize k) && decide (2 ≤ s.cqSize k)

/-- EN written 1 (R463, R484). -/
def State.ringOn (s : State) (k : Nat) : State :=
  if s.variant = .si then s
  else if s.ringState k = 0 then
    if s.ringCfgOk k && !s.on F.HIF_LINK_RECOVERING then
      (((s.zeroRing k).put (rf F.HIF_Rk_STATUS_STATE k) 1).setTo (rf F.HIF_Rk_CTRL_EN k) true).raise 227 sevNotice srcHif
    else s.setTo F.HIF_STATUS_CFG_BAD true
  else s

/-- RING_ENABLE (R463). -/
def execRingEnable (_req : Req) (k : Fin 16) (s : State) : Host.Outcome State Fault Refusal :=
  s.gate 10 <| .next (s.ringOn k.val)

/-- Show how many descriptors of ring k are in flight. -/
def State.showFlight (s : State) (k : Nat) : State := s.put (rf F.HIF_Rk_CNT_INFLIGHT k) (s.hring k).flight.length

/-- The end of DRAIN: every submitted descriptor has its completion written (R463). -/
def State.drainEnd (s : State) (k : Nat) : State :=
  if s.ringState k = 2 ∧ (s.hring k).flight = [] ∧ s.sqHead k = (s.hring k).sqTail then
    (((s.zeroRing k).put (rf F.HIF_Rk_STATUS_STATE k) 0).setTo (rf F.HIF_Rk_CTRL_EN k) false).raise 227 sevNotice srcHif
  else s

/-! ### Doorbells (R469, R470) -/

/-- A discarded doorbell (R470). -/
def State.badDoorbell (s : State) (k : Nat) : State :=
  (((s.setTo F.HIF_STATUS_DB_ERR true).put F.HIF_STATUS_DB_RING k).bump F.HIF_CNT_DB_ERR 1).raise1 226 sevWarn srcHif k

/-- Distance from `h` to `t` round a queue of `n`. -/
def ringDist (n h t : Nat) : Nat := (t + n - h % n) % n

/-- An SQ_TAIL doorbell (R470). -/
def State.sqDoor (s : State) (k t : Nat) : State :=
  if s.variant = .si then s
  else if t = (s.hring k).sqTail then s
  else if s.ringState k = 1 ∧ t < s.sqSize k ∧
      ringDist (s.sqSize k) (s.sqHead k) (s.hring k).sqTail ≤ ringDist (s.sqSize k) (s.sqHead k) t then
    s.modRing k fun r => { r with sqTail := t, readFrom := s.now }
  else s.badDoorbell k

/-- SQ_TAIL (R470). -/
def execSqTail (k : Fin 16) (t : Word) (s : State) : Host.Outcome State Fault Refusal :=
  s.gate 10 <| .next (s.sqDoor k.val t.toNat)

/-- A CQ_HEAD doorbell (R470). -/
def State.cqDoor (s : State) (k h : Nat) : State :=
  if s.variant = .si then s
  else if h = (s.hring k).cqHead then s
  else if s.ringState k = 1 ∧ h < s.cqSize k ∧
      ringDist (s.cqSize k) (s.hring k).cqHead h ≤ ringDist (s.cqSize k) (s.hring k).cqHead (s.cqTail k) then
    s.modRing k fun r => { r with cqHead := h }
  else s.badDoorbell k

/-- CQ_HEAD (R470). -/
def execCqHead (k : Fin 16) (h : Word) (s : State) : Host.Outcome State Fault Refusal :=
  s.gate 10 <| .next (s.cqDoor k.val h.toNat)

/-! ### Fetch (R471 to R473, R481) -/

/-- 32 bytes of zeros, INFO where an opcode has none (R466). -/
def noInfo : List Byte := List.replicate 32 0

/-- A submission entry as the device takes it in (R464); in DRAIN it completes ABORTED_DISABLED (R483), and an unknown
OPCODE completes BAD_OPCODE. -/
def parseEntry (uid idx : Nat) (draining : Bool) (b : List Byte) : HostDesc :=
  let op := leNat (b.take 1)
  let st := if draining then 7 else if 6 < op then 1 else 0
  ⟨uid, idx, leNat ((b.drop 2).take 2), op, leNat ((b.drop 1).take 1), leNat ((b.drop 8).take 8),
   leNat ((b.drop 16).take 4) + 2 ^ 32 * leNat ((b.drop 4).take 4 ++ (b.drop 20).take 4), (b.drop 24).take 40,
   if st = 0 then .fetched else .ended, st, 0, noInfo⟩

/-- The entry that could not be fetched (R481). -/
def lostEntry (uid idx : Nat) : HostDesc := ⟨uid, idx, 0xFFFF, 0xFF, 0, 0, 0, [], .ended, 3, 0, noInfo⟩

/-- Has ring k an entry to fetch, and room for it (R472)? -/
def State.wantsFetch (s : State) (k : Nat) : Bool :=
  s.ringState k != 0 && s.sqHead k != (s.hring k).sqTail && decide ((s.hring k).flight.length < 64) && (s.hring k).retry.isNone

/-- The ring whose turn to fetch it is: the rings with work share the fetches round-robin (R38, R472). -/
def State.fetchTurn (s : State) : Option Nat :=
  ((List.range 16).map fun i => (s.hif.lastFetch + 1 + i) % 16).find? s.wantsFetch

/-- May ring k fetch its next entry (R472, R482)? -/
def State.mayFetch (s : State) (k : Nat) : Bool := s.mayPost && s.fetchTurn == some k

/-- Take an entry in: it joins the ring's descriptors in flight, and SQ HEAD advances (R471). -/
def State.takeEntry (s : State) (k : Nat) (d : HostDesc) : State :=
  ((s.modRing k fun r => { r with flight := r.flight ++ [d], retry := none, taken := r.taken + 1 }).put (rf F.HIF_Rk_STATUS_SQ_HEAD k)
    ((s.sqHead k + 1) % s.sqSize k)).showFlight k

/-- A host read failed for the first time; it will be retried 10 µs later (R481). -/
def State.readFailed (s : State) (k : Nat) (r : HostRead) : State :=
  s.modRing k fun q => { q with retry := some r, retryAt := s.now }

/-- The requests of a read of ring k go to the host, relaxed ordering on data where the host enables it (R460). -/
def State.sendRead (s : State) (k : Nat) (r : HostRead) : State :=
  let go (t : State) (a n : Nat) (relaxed : Bool) : State := (t.modHif fun h => { h with
    reads := h.reads ++ (splitAt hostReadSize n a n).map fun c => ⟨c.1, c.2, relaxed⟩ }).modRing k fun q => { q with readFrom := s.now }
  match r with
  | .fetch => go s (s.sqBase k + 64 * s.sqHead k) 64 false
  | .data i => match (s.hring k).flight.find? (·.uid == i) with
    | some d => go s d.addr d.len Config.pcieControl.2.2
    | none => s

/-- Fetch the next entry of ring k, in its turn (R472). -/
def State.fetchEntry (s : State) (k : Nat) (e : HostData) : State :=
  if s.mayFetch k then
    let t := (s.sendRead k .fetch).modHif fun h => { h with lastFetch := k }
    match e with
    | some b => t.takeEntry k (parseEntry (s.hring k).taken (s.sqHead k) (s.ringState k == 2) b)
    | none => t.readFailed k .fetch
  else s

/-! ### Dispatch and end (R473) -/

/-- The first descriptor of ring k not yet dispatched, where it may be: one with FENCE waits for every earlier completion. -/
def State.nextDispatch (s : State) (k : Nat) : Option HostDesc :=
  match (s.hring k).flight.find? (fun d => decide (d.phase = .fetched)) with
  | none => none
  | some d =>
    if bitAt d.flags 0 && ((s.hring k).flight.head?.map (·.uid)) != some d.uid then none else some d

/-- Change the descriptor of ring k with a number. -/
def State.modDesc (s : State) (k uid : Nat) (f : HostDesc → HostDesc) : State :=
  s.modRing k fun r => { r with flight := r.flight.map fun d => if d.uid = uid then f d else d }

/-- A descriptor of the old link has ended inside the device; RECOVERING falls with the last one (R484). -/
def State.oldEnded (s : State) : State :=
  (s.modHif fun h => { h with oldLink := h.oldLink - 1 }).setTo F.HIF_LINK_RECOVERING (decide (2 ≤ s.hif.oldLink))

/-- A descriptor ends with STATUS, DETAIL and INFO; its completion waits its turn (R473). One of the old link completes
nothing (R484). -/
def State.endDesc (s : State) (k uid status detail : Nat) (info : List Byte) : State :=
  if (s.hring k).flight.any fun d => d.uid == uid then
    s.modDesc k uid fun d => if d.phase = .ended then d else { d with phase := .ended, status, detail, info }
  else s.oldEnded

/-- The event that goes with a completion, raised behind it so that its message cannot reach the host first (R480): EV229
for NOT_ACTIVE and ABORTED_ROLE (R477), EV225 with ring and SQ index for DMA_ERROR (R481). -/
def State.completionEvent (s : State) (k : Nat) (d : HostDesc) : State :=
  if d.status = 5 ∨ d.status = 6 then s.raise 229 sevNotice srcHif
  else if d.status = 3 then s.raise2 225 sevWarn srcHif k d.sqIdx
  else s

/-- A descriptor is dispatched and runs. -/
def State.runDesc (s : State) (k uid : Nat) : State := s.modDesc k uid fun d => { d with phase := .running }

/-- INFO of an operation that moved `n` bytes (R466). -/
def movedInfo (n : Nat) : List Byte := leBytes 4 n ++ List.replicate 28 0

/-- Reserved fields of an entry that must be 0: bytes 4–7 and 20–23, FLAGS 7:1, and PARAM from byte `from24` on. -/
def HostDesc.clean (d : HostDesc) (used : Nat) : Bool :=
  decide (d.len < 2 ^ 32) && decide (d.flags < 2) && (d.param.drop used).all (· == 0)

/-- A number in PARAM: `n` bytes from entry byte `a` on. -/
def HostDesc.par (d : HostDesc) (a n : Nat) : Nat := leNat ((d.param.drop (a - 24)).take n)

/-- The NOP opcode: it completes DONE; ADDR and LEN must be 0 (R465). -/
def State.hostNop (s : State) (k : Nat) : State :=
  match s.nextDispatch k with
  | none => s
  | some d =>
    if d.opcode = 0 then
      s.endDesc k d.uid (if d.clean 0 && d.addr == 0 && d.len == 0 then 0 else 2) 0 noInfo
    else s

/-- COPY_OUT: DDR to host memory (R476). -/
def State.copyOut (s : State) (k : Nat) : State :=
  match s.nextDispatch k with
  | none => s
  | some d =>
    if d.opcode = 2 then
      if !(d.clean 8 && d.len % 4 == 0 && decide (d.len ≤ 2 ^ 24) && decide (d.par 24 8 + d.len ≤ s.mem.ddrBytes)) then
        s.endDesc k d.uid 2 0 noInfo
      else
        (s.postData d.addr (readBytes ramByte s.mem.ddr (d.par 24 8) d.len)).endDesc k d.uid 0 0 (movedInfo d.len)
    else s

/-! ### Completions (R466, R468, R472, R479) -/

/-- The 64 bytes of a completion entry (R466). -/
def completionBytes (s : State) (k : Nat) (d : HostDesc) : List Byte :=
  leBytes 2 d.cid ++ leBytes 2 d.sqIdx ++ leBytes 2 (s.sqHead k) ++ leBytes 1 d.status ++ leBytes 1 d.detail ++
    leBytes 1 d.opcode ++ leBytes 1 (s.fld (rf F.HIF_Rk_STATUS_PHASE k)) ++ List.replicate 6 0 ++ leBytes 8 s.cdr.cyc ++
    leBytes 8 s.now ++ d.info

/-- Send CQ k's message, and restart its count (R479). -/
def State.cqMessage (s : State) (k : Nat) : State :=
  (s.modRing k fun r => { r with irqCount := 0 }).message (s.fld (rf F.HIF_Rk_CTRL_VECTOR k))

/-- THRESH of ring k; 0 is taken as 1. -/
def State.thresh (s : State) (k : Nat) : Nat :=
  let t := s.fld (rf F.HIF_Rk_CTRL_THRESH k)
  if t = 0 then 1 else t

/-- Send CQ k's message where it may and THRESH completions have been written since the last one (R479). -/
def State.threshMessage (s : State) (k : Nat) : State :=
  if s.on (rf F.HIF_Rk_CTRL_IRQ_EN k) && decide (s.thresh k ≤ (s.hring k).irqCount) then s.cqMessage k else s

/-- Count a completion, and send the message at THRESH (R479). -/
def State.countIrq (s : State) (k : Nat) : State :=
  (s.modRing k fun r =>
    { r with irqCount := r.irqCount + 1, irqSince := if r.irqCount = 0 then s.now else r.irqSince }).threshMessage k

/-- Has CQ k room for an entry (R472)? -/
def State.cqRoom (s : State) (k : Nat) : Bool := (s.cqTail k + 1) % s.cqSize k != (s.hring k).cqHead

/-- Advance CQ TAIL; PHASE alternates each time the tail wraps to 0 (R468). -/
def State.advanceCq (s : State) (k : Nat) : State :=
  let t := (s.cqTail k + 1) % s.cqSize k
  let a := s.put (rf F.HIF_Rk_STATUS_CQ_TAIL k) t
  if t = 0 then a.put (rf F.HIF_Rk_STATUS_PHASE k) (1 - s.fld (rf F.HIF_Rk_STATUS_PHASE k)) else a

/-- Write the completion of ring k's oldest descriptor, once it has ended, the CQ has room and requests may start
(R472, R473, R482). -/
def State.completeHead (s : State) (k : Nat) : State :=
  match (s.hring k).flight with
  | [] => s
  | d :: t =>
    if d.phase = .ended ∧ s.cqRoom k = true ∧ s.mayPost = true ∧ s.ringState k ≠ 0 then
      let a := s.post (.write (s.cqBase k + 64 * s.cqTail k) (completionBytes s k d))
      let b := ((a.modRing k fun r => { r with flight := t }).advanceCq k).bump (rf F.HIF_Rk_CNT_COMPLETIONS k) 1
      (((b.showFlight k).countIrq k).completionEvent k d).drainEnd k
    else s

/-- COMPLETION_WRITE (R473). -/
def execCompletionWrite (k : Fin 16) (s : State) : Host.Outcome State Fault Refusal :=
  s.gate 10 <| .next (s.completeHead k.val)

/-- CQ_TIMER (R479): TIMER µs after the first completion since the last message, the message is sent. -/
def State.cqTimer (s : State) (k : Nat) : State :=
  let t := s.fld (rf F.HIF_Rk_CTRL_TIMER k)
  if s.on (rf F.HIF_Rk_CTRL_IRQ_EN k) && decide (t ≠ 0) && decide ((s.hring k).irqCount ≠ 0) then
    (s.runTo ((s.hring k).irqSince + 1000 * t)).cqMessage k
  else s

/-- CQ_TIMER (R479). -/
def execCqTimer (k : Fin 16) (s : State) : Host.Outcome State Fault Refusal :=
  s.gate 10 <| .next (s.cqTimer k.val)

/-! ### Failed reads (R481) -/

/-- An uncorrectable error is reported through AER, as the host has configured it: AER_UNCORR and EV230 (R481, R485). -/
def State.aerReport (s : State) : State :=
  if Config.aerReports then (s.setTo F.HIF_STATUS_AER_UNCORR true).raise 230 sevAlarm srcHif else s

/-- The second failure of a read: DMA_ERROR, and the report through AER; EV225 follows its completion (R480, R481). -/
def State.dmaError (s : State) (k : Nat) (r : HostRead) : State :=
  let a := ((s.setTo F.HIF_STATUS_DMA_ERR true).bump F.HIF_CNT_DMA_ERR 1).aerReport
  match r with
  | .fetch => a.takeEntry k (lostEntry (s.hring k).taken (s.sqHead k))
  | .data i =>
    let d := (s.hring k).flight.find? (·.uid == i)
    (a.modRing k fun q => { q with retry := none }).endDesc k i 3 0 ((d.map (·.info)).getD noInfo)

/-- Does an opcode read data from host memory? -/
def readsHost (op : Nat) : Bool := op == 1 || op == 3 || op == 4 || op == 6

/-- The read of ring k in progress, while requests may start: its next entry's fetch, or the data of the descriptor to dispatch
next.  One read of a ring is outstanding at most, so that the rings together never hold the 128 of R472. -/
def State.readInProgress (s : State) (k : Nat) : Option HostRead :=
  match s.nextDispatch k with
  | some d => if readsHost d.opcode && s.mayPost then some (.data d.uid) else none
  | none => if s.mayFetch k then some .fetch else none

/-- COMPLETION_TIMEOUT (R481): the read in progress fails, once the completion timeout has passed; where it was the retry, which starts
10 µs after the failure and only while requests may (R482), DMA_ERROR follows.  The timeout is the default of R460 (log entry 29). -/
def State.hostTimeout (s : State) (k : Nat) : State :=
  let wait := 1000 * s.pcieId.timeout
  match (s.hring k).retry with
  | some r =>
    if s.mayPost then
      let a := (s.runTo ((s.hring k).retryAt + 10000)).sendRead k r
      ((a.runTo ((s.hring k).retryAt + 10000 + wait)).bump F.HIF_CNT_RETRIES 1).dmaError k r
    else s
  | none => match s.readInProgress k with
    | some r => ((s.sendRead k r).runTo ((s.hring k).readFrom + wait)).readFailed k r
    | none => s

/-! ### Events, vectors and the link (R478, R482, R485) -/

/-- A W1C of HIF_EV_PEND: a bit hardware sets in the same clock stays set (R40); a host W1C that leaves a group's summary
at 1 sends its message (R478). -/
def State.clearPend (s : State) (r : Req) (i mask hwSet : Nat) : State :=
  if s.variant = .si then s
  else
    let key := blockOff Reg.HIF_EV_PEND (4 * i)
    let a := s.wr key (s.rd key &&& ~~~(w32 mask &&& ~~~(w32 hwSet)))
    let tell := fun (g half : Nat) (t : State) =>
      if decide (r = .host) && decide (bitsOf mask (16 * half + 15) (16 * half) ≠ 0) && t.summary g then t.notifyGroup g else t
    tell (2 * i + 1) 1 (tell (2 * i) 0 a)

/-- HIF_EV_PEND_CLEAR (R478). -/
def execHifEvPendClear (req : Req) (i : Fin 8) (mask : Word) (hwSet : Nat) (s : State) : Host.Outcome State Fault Refusal :=
  s.gate 10 <| .next (s.clearPend req i.val mask.toNat hwSet)

/-- Unmask a vector: its pending message is sent (R478). -/
def State.unmask (s : State) (v : Nat) : State :=
  if s.variant = .si then s
  else
    let a := s.wrn (msixCtrl v) (putBit (s.rdn (msixCtrl v)) 0 false)
    if s.on (pbaFld v) then (a.setTo (pbaFld v) false).post (.message v) else a

/-- MSIX_UNMASK (R478). -/
def execMsixUnmask (v : Fin 64) (s : State) : Host.Outcome State Fault Refusal :=
  s.gate 10 <| .next (s.unmask v.val)

/-- PCIE_LINK_CHANGE (R459, R485): HIF_LINK shows the link; EV224 carries it where the link went up or down.  No link comes up at a speed
or width that the endpoint does not support (R460). -/
def State.pcieLink (s : State) (up : Bool) (speed width : Nat) : State :=
  if s.variant = .si || (up && !(s.pcieId.speeds.contains speed && s.pcieId.widths.contains width)) then s
  else
    let a := ((s.setTo F.HIF_LINK_UP up).put F.HIF_LINK_SPEED (if up then speed else 0)).put F.HIF_LINK_WIDTH
      (if up then width else 0)
    if s.on F.HIF_LINK_UP = up then a else a.raise1 224 sevWarn srcHif (a.rdn Reg.HIF_LINK)

/-- PCIE_LINK_CHANGE (R459). -/
def execPcieLinkChange (up : Bool) (speed width : Fin 5) (s : State) : Host.Outcome State Fault Refusal :=
  s.gate 10 <| .next (s.pcieLink up speed.val width.val)

/-- Is host work pending (R482)? -/
def State.hostWork (s : State) : Bool :=
  !s.hif.posted.isEmpty || (List.range 16).any fun k =>
    s.ringState k != 0 && (!(s.hring k).flight.isEmpty || s.sqHead k != (s.hring k).sqTail)

/-- BUS_MASTER_CHANGE (R482): requests stop, or resume in their order; EV231 where work was pending. -/
def State.busMaster (s : State) (bme d3 : Bool) : State :=
  if s.variant = .si then s
  else
    let a := ((s.setTo F.HIF_LINK_BME bme).setTo F.HIF_LINK_D3HOT d3)
    if a.mayPost then a.drainPosted
    else if s.mayPost && s.hostWork then a.raise 231 sevWarn srcHif else a

/-- BUS_MASTER_CHANGE (R482). -/
def execBusMasterChange (bme d3hot : Bool) (s : State) : Host.Outcome State Fault Refusal :=
  s.gate 10 <| .next (s.busMaster bme d3hot)

end Sys2Proof.Machine
end

