-- ==== Sys2Proof/Machine/Jobs.lean ====
section
/-! DEFINITION. The Orrery's commands (04_orrery_solver.md), and what the consumer of a result does with it. -/

namespace Sys2Proof.Machine

/-! ### Results and their consumers (R118, R130, R144, R223, R245, R474) -/

/-- The host interface copies a result to RES_ADDR, up to RES_MAX bytes, and the descriptor completes (R466, R474). -/
def State.hostResult (s : State) (k uid : Nat) (d : JobDesc) (r : JobRes) : State :=
  match (s.hring k).flight.find? fun x => x.uid == uid && decide (x.phase = .running) && x.opcode == 1 with
  | none => s
  | some x =>
    let bs := (r.bytes d).take (x.par 32 4)
    (s.postData (x.par 24 8) bs).endDesc k uid 0 r.status (leBytes 4 d.tag ++ leBytes 4 bs.length ++ List.replicate 24 0)

/-- A result of the fusion unit's jobs; a LOAD that fails is posted anew with the next update. -/
def State.fusionResult (s : State) (which : Nat) (d : JobDesc) (r : JobRes) : State :=
  if d.ty = 14 then (if r.status = stDone then s else s.modFus fun f => { f with ready := false })
  else if bitAt d.ctrl 4 then (if which = 0 then s.pass2Result r else s)
  else s.pass1Result which r

/-- A result of the assignment job. -/
def State.assignResult (s : State) (d : JobDesc) (r : JobRes) : State :=
  if d.ty = 14 then (if r.status = stDone then s else s.modFus fun f => { f with lapReady := false }) else s.lapResult r

/-- The consumer of a result acts on it. -/
def State.consume (s : State) (j : Job) (r : JobRes) : State :=
  match j.src with
  | .fusion w => s.fusionResult w j.d r
  | .assign => s.assignResult j.d r
  | .control => s.primaryResult j.d r
  | .scenario k => s.scnResult k j.d r
  | .app => s
  | .host k i => s.hostResult k i j.d r

/-- Consumers act on the results in the order in which they were written, `n` of them at most. -/
def State.drainJobs : Nat → State → State
  | 0, s => s
  | n + 1, s => match s.ory.done with
    | [] => s
    | x :: xs => State.drainJobs n ((s.modOry fun o => { o with done := xs }).consume x.1 x.2)

/-- Every consumer acts on the results written. -/
def State.drainDone (s : State) : State := s.drainJobs (s.ory.done.length + 256)

/-! ### Posting by the application cluster (R154, R165 to R167, R172 to R178) -/

/-- Post a descriptor of the application cluster, with the SIM that follows it: chained where CHAIN is set. -/
def State.appPost (s : State) (ty : Nat) (desc : List Byte) (chain : Option (List Byte)) : State :=
  let d := readDesc ty desc
  let sim := chain.map (readDesc 4)
  let a := if bitAt d.ctrl 1 then s.postJob .app d sim
    else match sim with
      | none => s.postJob .app d none
      | some c => (s.postJob .app d none).postJob .app c none
  a.drainDone

/-- QP_ADMM (R172). -/
def execQpAdmm (_req : Req) (desc : List Byte) (chain : Option (List Byte)) (s : State) : Host.Outcome State Fault Refusal :=
  s.gate 3 <| .next (s.appPost 1 desc chain)

/-- KF_QR (R174). -/
def execKfQr (_req : Req) (desc : List Byte) (s : State) : Host.Outcome State Fault Refusal :=
  s.gate 3 <| .next (s.appPost 2 desc none)

/-- LAP (R177). -/
def execLap (_req : Req) (desc : List Byte) (s : State) : Host.Outcome State Fault Refusal :=
  s.gate 3 <| .next (s.appPost 3 desc none)

/-- SIM (R178). -/
def execSim (_req : Req) (desc : List Byte) (s : State) : Host.Outcome State Fault Refusal :=
  s.gate 3 <| .next (s.appPost 4 desc none)

/-- LOAD (R155). -/
def execLoad (_req : Req) (desc : List Byte) (s : State) : Host.Outcome State Fault Refusal :=
  s.gate 3 <| .next (s.appPost 14 desc none)

/-- FREE (R155). -/
def execFree (_req : Req) (desc : List Byte) (s : State) : Host.Outcome State Fault Refusal :=
  s.gate 3 <| .next (s.appPost 15 desc none)

/-! ### Grant, result, deadline, abort (R171, R180, R183, R188) -/

/-- ENGINE_GRANT (R188). -/
def execEngineGrant (eng : Fin 64) (s : State) : Host.Outcome State Fault Refusal := s.rooted <| .next (s.grant eng.val).drainDone

/-- JOB_RESULT (R180): `corr` single-bit errors were corrected during the run. -/
def execJobResult (eng : Fin 64) (corr : Nat) (s : State) : Host.Outcome State Fault Refusal :=
  s.rooted <| .next (s.jobResult eng.val corr).drainDone

/-- JOB_DEADLINE (R183): how far the job had come, and whether its refactorisation was complete. -/
def execJobDeadline (slot : Fin 127) (done : Progress) (factored : Bool) (s : State) : Host.Outcome State Fault Refusal :=
  s.rooted <| .next (s.jobDeadline slot.val ⟨done.done, factored⟩ done.corr).drainDone

/-- HOST_ABORT (R171). -/
def execHostAbort (_req : Req) (s : State) : Host.Outcome State Fault Refusal :=
  s.reach Reg.ORY_CTRL <| .next s.hostAbort.drainDone

/-- SECTOR_SWITCH (R222): a thruster's count has reached SECTOR_DWELL. -/
def execSectorSwitch (thr : Fin 24) (s : State) : Host.Outcome State Fault Refusal :=
  s.gate 9 <| .next (match s.thrs.find? fun t => t.idx == thr.val && t.isAz with
    | some t => s.sectReach t
    | none => s)

end Sys2Proof.Machine
end

