-- ==== Sys2Proof/Machine/Meridian.lean ====
section
/-! DEFINITION. Meridian (11_meridian_backup.md): the supply switch and the lockout, the calendar with its shift and its
temperature compensation, the alarm, the event inputs, and PWR_ON_REQ. -/

namespace Sys2Proof.Machine

/-- Change Meridian. -/
def State.modMer (s : State) (f : Meridian → Meridian) : State := { s with mer := f s.mer }

/-- Source unit number of Meridian (R489). -/
def srcMer : Nat := 0xB0

/-- Main power is present: VDD_AON is valid and feeds the domain. -/
def State.mainPower (s : State) : Bool := s.mer.aonValid && !s.mer.onVbat

/-- Raise a Meridian event; one met on VBAT, where the Almanac has no power, is kept for the next device start (R411, log entry 49). -/
def State.merEvent (s : State) (n sev p0 p1 : Nat) : State :=
  if s.mainPower then s.raise2 n sev srcMer p0 p1 else s.modMer fun m => { m with kept := m.kept ++ [(n, sev, p0)] }

/-- The same for an event that is raised while main power is present alone (R404, R407). -/
def State.merEventMain (s : State) (n sev : Nat) : State := if s.mainPower then s.merEvent n sev 0 0 else s

/-- A write meets the lockout: it is discarded and counted (R392). -/
def State.lockedOut (s : State) : State := s.bump F.MER_LOCK_CNT_LOCKOUT 1

/-- What PD_AON and the fabric read of retained SRAM: zeros under lockout (R392). -/
def State.retRead (s : State) (off n : Nat) : List Byte :=
  if s.mer.lockout then List.replicate n 0 else readBytes ramByte s.mem.retained off n

/-- Bytes go into retained SRAM. -/
def State.retStore (s : State) (off : Nat) (bs : List Byte) : State :=
  { s with mem := { s.mem with retained := writeBytes ramByte s.mem.retained off bs } }

/-- What the device's own blocks write to retained SRAM, a word at a time: under lockout every word is discarded and counted (R392,
R396). -/
def State.retPut (s : State) (off : Nat) (bs : List Byte) : State :=
  if s.mer.lockout then s.bump F.MER_LOCK_CNT_LOCKOUT ((bs.length + 3) / 4)
  else s.retStore off bs

/-- TIME_LOST as PD_AON and the fabric read it (R392). -/
def State.lostRead (s : State) : Bool := !s.mer.lockout && s.on F.MER_STATUS_TIME_LOST

/-- The lockout cuts a run of the copy engine short: the words that it has not written by now keep what they held, and each is a write
discarded (R392, R396). -/
def State.cutCopy (s : State) : State :=
  match s.cdr.copyRun with
  | none => s
  | some r =>
    let n := (s.now - r.start + 79) / 80 * 4
    if r.old.length ≤ n then s
    else
      let a := (s.retStore (r.off + n) (r.old.drop n)).bump F.MER_LOCK_CNT_LOCKOUT ((r.old.length - n + 3) / 4)
      { a with cdr := { a.cdr with copyRun := none } }

/-- The lockout ends: the words of a run under way that are due from now on are written, and are not discarded after all (R392, R396;
log entry 49). -/
def State.resumeCopy (s : State) : State :=
  match s.cdr.copyRun with
  | none => s
  | some r =>
    let n := (s.now - r.start + 79) / 80 * 4
    let k := s.fld F.MER_LOCK_CNT_LOCKOUT
    if !r.locked then s
    else
      let a := s.retStore (r.off + n) (r.new.drop n)
      let b := if k = F.MER_LOCK_CNT_LOCKOUT.max then a else a.put F.MER_LOCK_CNT_LOCKOUT (k - (r.new.length - n + 3) / 4)
      { b with cdr := { b.cdr with copyRun := some { r with locked := false } } }

/-! ### The calendar (R398) -/

/-- A second of the calendar. -/
structure Cal where
  /-- Years since 2000. -/
  year : Nat
  /-- Month, 1 to 12. -/
  month : Nat
  /-- Day, 1 to 31. -/
  day : Nat
  /-- Hour. -/
  hour : Nat
  /-- Minute. -/
  min : Nat
  /-- Second. -/
  sec : Nat
  deriving DecidableEq, Repr

/-- Is 2000 + y a leap year? 2100 is not (R398). -/
def leapYear (y : Nat) : Bool := y % 4 == 0 && y != 100

/-- Days of a month. -/
def monthDays (y m : Nat) : Nat :=
  if m = 2 then (if leapYear y then 29 else 28) else if m = 4 ∨ m = 6 ∨ m = 9 ∨ m = 11 then 30 else 31

/-- Days from 2000-01-01 to the first of a year. -/
def yearDays (y : Nat) : Nat := 365 * y + (y + 3) / 4 - b2n (decide (100 < y))

/-- Days from 2000-01-01 to a date. -/
def dayNumber (y m d : Nat) : Nat := yearDays y + ((List.range (m - 1)).map fun i => monthDays y (i + 1)).sum + (d - 1)

/-- WEEKDAY: 0 Monday to 6 Sunday; 2000-01-01 was a Saturday. -/
def weekday (y m d : Nat) : Nat := (dayNumber y m d + 5) % 7

/-- The date exists and is in the calendar's range. -/
def dateOk (y m d : Nat) : Bool := decide (y ≤ 199 ∧ 1 ≤ m ∧ m ≤ 12 ∧ 1 ≤ d ∧ d ≤ monthDays y m)

/-- The calendar as the registers hold it. -/
def State.cal (s : State) : Cal :=
  ⟨s.fld F.MER_DATE_YEAR, s.fld F.MER_DATE_MONTH, s.fld F.MER_DATE_DAY, s.fld F.MER_TIME_HOUR, s.fld F.MER_TIME_MIN,
    s.fld F.MER_TIME_SEC⟩

/-- MER_TIME of a second. -/
def Cal.timeWord (c : Cal) : Nat := c.hour * 2 ^ 16 + c.min * 2 ^ 8 + c.sec

/-- MER_DATE of a second. -/
def Cal.dateWord (c : Cal) : Nat := c.year * 2 ^ 16 + weekday c.year c.month c.day * 2 ^ 12 + c.month * 2 ^ 8 + c.day

/-- Put the calendar into its registers. -/
def State.putCal (s : State) (c : Cal) : State := (s.wrn Reg.MER_TIME c.timeWord).wrn Reg.MER_DATE c.dateWord

/-- The next day; after 2199-12-31 comes 2000-01-01. -/
def Cal.nextDay (c : Cal) : Cal :=
  if c.day < monthDays c.year c.month then { c with day := c.day + 1 }
  else if c.month < 12 then { c with day := 1, month := c.month + 1 }
  else { c with day := 1, month := 1, year := if c.year < 199 then c.year + 1 else 0 }

/-- The next second. -/
def Cal.next (c : Cal) : Cal :=
  if c.sec < 59 then { c with sec := c.sec + 1 }
  else if c.min < 59 then { c with sec := 0, min := c.min + 1 }
  else if c.hour < 23 then { c with sec := 0, min := 0, hour := c.hour + 1 }
  else ({ c with sec := 0, min := 0, hour := 0 } : Cal).nextDay

/-- Is it the last second before the calendar goes on from 2000 (R398)? -/
def Cal.last (c : Cal) : Bool := c == ⟨199, 12, 31, 23, 59, 59⟩

/-- Let SUBSEC run on to a count within the second; a halted calendar, or a count already passed, changes nothing. -/
def State.merTo (s : State) (sub : Nat) : State :=
  if s.on F.MER_STATUS_HALTED ∨ sub ≤ s.fld F.MER_SUBSEC_SUBSEC then s else s.put F.MER_SUBSEC_SUBSEC sub

/-! ### PWR_ON_REQ (R408 to R410) -/

/-- The unit is ACTIVE: RDN_STATUS.RSTATE. -/
def State.merActive (s : State) : Bool := s.fld F.RDN_STATUS_RSTATE == 2

/-- The sequence in force ends: the pin is released, CYCLE and SLEEP clear. -/
def State.pwrEnd (s : State) : State :=
  let a := s.modMer fun m => { m with low := false, seq := .none, offRun := false }
  (a.setTo F.MER_PWR_CYCLE false).setTo F.MER_PWR_SLEEP false

/-- Start a Cycle or a Sleep; refused while ACTIVE (R410). One in force goes on (DESIGN CHOICE). -/
def State.pwrStart (s : State) (seq : PwrSeq) (f : Fld) : State :=
  if s.merActive then ((s.setTo f false).setTo F.MER_STATUS_CMD_REFUSED true).merEvent 182 sevNotice 0 0
  else if s.mer.seq ≠ .none then s
  else
    let a := s.modMer fun m => { m with
      low := true, seq := seq, offRun := false, reason := s.fld F.MER_PWR_REASON
      wake := if seq = .cycle then 4 else m.wake }
    (a.setTo f true).merEvent 182 sevNotice 0 0

/-- An enabled wake source fires: it ends a Sleep, or is recorded in WAKE_SRC while OFF_TIME runs (R409, R410). -/
def State.merWake (s : State) (src : Nat) : State :=
  match s.mer.seq with
  | .sleep => (s.modMer fun m => { m with wake := src }).pwrEnd
  | .cycle => if s.mer.offRun then s.modMer fun m => { m with wake := src } else s
  | _ => s

/-! ### The alarm (R404) -/

/-- Does the alarm match a second? -/
def State.alarmMatch (s : State) (c : Cal) : Bool :=
  s.on F.MER_ALARM_EN && (!s.on F.MER_ALARM_M_DAY || s.fld F.MER_ALARM_DAY == c.day) &&
    (!s.on F.MER_ALARM_M_HOUR || s.fld F.MER_ALARM_HOUR == c.hour) &&
    (!s.on F.MER_ALARM_M_MIN || s.fld F.MER_ALARM_MIN == c.min) &&
    (!s.on F.MER_ALARM_M_SEC || s.fld F.MER_ALARM_SEC == c.sec)

/-- The calendar enters the next second, and the alarm compares it. -/
def State.enterSecond (s : State) : State :=
  let c := s.cal
  let a := (if c.last then s.setTo F.MER_STATUS_ROLLOVER true else s).putCal c.next
  if a.alarmMatch c.next then
    let b := (a.setTo F.MER_ALARM_FLAG true).merEventMain 179 sevInfo
    if b.on F.MER_PWR_WAKE_ALARM then b.merWake 1 else b
  else a

/-- The calendar enters `n` seconds, one after another. -/
def State.enterSeconds : Nat → State → State
  | 0, s => s
  | n + 1, s => State.enterSeconds n s.enterSecond

/-! ### Wrap, shift and compensation (R398, R401 to R403) -/

/-- c_k: the compensation ticks of second `k` of a window with N = `n` (R403). -/
def compTicks (n : Int) (k : Nat) : Int := ((k : Int) + 1) * n / 128 - (k : Int) * n / 128

/-- The prescaler wraps: the ticks of a pending shift and of the compensation are applied as one shift (R402); a
negative sum has delayed this wrap, a positive one carries SUBSEC and whole seconds on (R401). -/
def State.merWrap (s : State) : State :=
  let k := s.mer.winSec
  let c := if s.on F.MER_CTRL_COMP_EN ∧ k < 128 then compTicks s.mer.winN k else 0
  let a := s.modMer fun m => { m with winSec := k + 1 }
  if s.on F.MER_STATUS_HALTED then a
  else
    let t := c + s.mer.shift.getD 0
    let adv := 1 + (if 0 < t then t.toNat / 32768 else 0)
    let b := State.enterSeconds adv (a.put F.MER_SUBSEC_SUBSEC (if 0 < t then t.toNat % 32768 else 0))
    match s.mer.shift with
    | none => b
    | some _ =>
      let d := (b.modMer fun m => { m with shift := none }).setTo F.MER_STATUS_SHIFT_PEND false
      (d.setTo F.MER_CTRL_SHIFT_GO false).merEvent 181 sevNotice 0 0

def execPrescalerWrap (s : State) : Host.Outcome State Fault Refusal := .next s.merWrap

/-- E × 10 of the curve at a temperature, ppb: linear between the points 10 °C apart (R403, R536). -/
def curveTenth (pt : Nat → Int) (t : Int) : Int :=
  let u := clampI (-40) 120 t + 40
  let k := (u / 10).toNat
  if 16 ≤ k then 10 * pt 16 else 10 * pt k + (u % 10) * (pt (k + 1) - pt k)

/-- A point of the crystal's curve. -/
def State.merTc (s : State) (k : Nat) : Int := i32 (s.rd (Reg.MER_TC + 4 * k))

/-- A compensation window starts (R403). Without COMP_EN no ticks are applied in it. -/
def State.compWindow (s : State) (temp : Int) : State :=
  if s.on F.MER_CTRL_COMP_EN then
    let t := clampI (-40) 120 temp
    let raw := -(divRneI (curveTenth s.merTc t * 4194304) 10000000000)
    let n := clampI (-1023) 1023 raw
    let a := s.modMer fun m => { m with winSec := 0, winN := n }
    let b := (a.put F.MER_TEMP_TEMP (code 8 t)).put F.MER_TEMP_CORR (code 11 n)
    b.setTo F.MER_STATUS_COMP_SAT (n != raw)
  else
    let a := (s.modMer fun m => { m with winSec := 0, winN := 0 }).put F.MER_TEMP_CORR 0
    a.setTo F.MER_STATUS_COMP_SAT false

def execCompensationWindow (temp : BitVec 8) (s : State) : Host.Outcome State Fault Refusal := .next (s.compWindow temp.toInt)

/-! ### Setting (R400 to R402) -/

/-- Counting resumes. -/
def State.calResume (s : State) : State :=
  (s.modMer fun m => { m with resume := false }).setTo F.MER_STATUS_HALTED false

/-- MER_CTRL.HALT is written when SUBSEC stands at `sub`; `atWrap`: it is taken at the edge of a wrap (R400, R402). -/
def State.merHalt (s : State) (halt : Bool) (sub : Nat) (atWrap : Bool) : State :=
  let a := s.setTo F.MER_CTRL_HALT halt
  if halt then
    let b := ((a.merTo sub).setTo F.MER_STATUS_HALTED true).modMer fun m => { m with resume := false }
    if atWrap ∧ b.mer.shift.isSome then
      let c := (b.modMer fun m => { m with shift := none }).setTo F.MER_STATUS_SHIFT_PEND false
      (c.setTo F.MER_CTRL_SHIFT_GO false).setTo F.MER_STATUS_SHIFT_CANCELLED true
    else b
  else if !a.on F.MER_STATUS_HALTED then a
  else if a.on F.MER_CTRL_REL_EVI0 then a.modMer fun m => { m with resume := true }
  else a.calResume

def execHalt (_req : Req) (halt : Bool) (sub : Fin 32768) (atWrap : Bool) (s : State) : Host.Outcome State Fault Refusal :=
  s.reach Reg.MER_CTRL <| .next (if s.mer.lockout then s.lockedOut else s.merHalt halt sub.val atWrap)

/-- A write is refused: WR_REFUSED. -/
def State.wrRefused (s : State) : State := s.setTo F.MER_STATUS_WR_REFUSED true

/-- A write of MER_SUBSEC (0), MER_TIME (1) or MER_DATE (2): taken only while HALTED and in range (R400). -/
def State.calWrite (s : State) (which v : Nat) : State :=
  if !s.on F.MER_STATUS_HALTED then s.wrRefused
  else if which = 0 then (s.put F.MER_SUBSEC_SUBSEC v).merEvent 181 sevNotice 0 0
  else if which = 1 then
    if bitsOf v 20 16 ≤ 23 ∧ bitsOf v 13 8 ≤ 59 ∧ bitsOf v 5 0 ≤ 59 then
      (s.putCal { s.cal with hour := bitsOf v 20 16, min := bitsOf v 13 8, sec := bitsOf v 5 0 }).merEvent 181 sevNotice 0 0
    else s.wrRefused
  else if dateOk (bitsOf v 23 16) (bitsOf v 11 8) (bitsOf v 4 0) then
    (s.putCal { s.cal with year := bitsOf v 23 16, month := bitsOf v 11 8, day := bitsOf v 4 0 }).merEvent 181 sevNotice 0 0
  else s.wrRefused

/-- The register a calendar write names. -/
def calReg (which : Nat) : Nat := Reg.MER_SUBSEC + 4 * which

def execCalendarWrite (_req : Req) (which : Fin 3) (v : Word) (s : State) : Host.Outcome State Fault Refusal :=
  s.reach Reg.MER_CTRL <| if s.mer.lockout then .next s.lockedOut
  else match regRow? (calReg which.val) with
    | some r => if reservedBits r v.toNat then .fault .reservedWrite else .next (s.calWrite which.val v.toNat)
    | none => .next s

/-- SHIFT_GO: the shift waits for the next wrap, in place of an earlier one; refused while HALT is 1 or out of range. -/
def State.shiftGo (s : State) : State :=
  let t := sgn 17 (s.fld F.MER_SHIFT_TICKS)
  if s.on F.MER_CTRL_HALT ∨ t < -32768 ∨ 32768 < t then
    (s.setTo F.MER_CTRL_SHIFT_GO s.mer.shift.isSome).wrRefused
  else ((s.modMer fun m => { m with shift := some t }).setTo F.MER_CTRL_SHIFT_GO true).setTo F.MER_STATUS_SHIFT_PEND true

def execShiftGo (_req : Req) (s : State) : Host.Outcome State Fault Refusal :=
  s.reach Reg.MER_CTRL <| .next (if s.mer.lockout then s.lockedOut else s.shiftGo)

/-! ### Reading (R399) -/

/-- MER_TIME and MER_DATE as a requester reads them: its shadows. -/
def State.merShadow (s : State) (r : Req) : Nat × Nat :=
  match s.mer.shadows.find? (fun d => d.who == r.idx) with
  | some d => (d.time, d.date)
  | none => ((regReset Reg.MER_TIME).toNat, (regReset Reg.MER_DATE).toNat)

/-- A read of MER_SUBSEC latches the requester's shadows. -/
def State.subsecRead (s : State) (r : Req) : Nat × State :=
  (s.fld F.MER_SUBSEC_SUBSEC, s.modMer fun m => { m with
    shadows := ⟨r.idx, s.rdn Reg.MER_TIME, s.rdn Reg.MER_DATE⟩ :: m.shadows.filter (fun d => d.who != r.idx) })

def execMerSubsecRead (req : Req) (sub : Fin 32768) (s : State) : Host.Outcome State Fault Refusal :=
  if s.mer.lockout || !s.blockOn Reg.MER_SUBSEC then .next { s with readData := 0 }
  else
    let p := (s.merTo sub.val).subsecRead req
    .next { p.2 with readData := p.1 }

/-! ### Event inputs (R405 to R407) -/

/-- EDGES of an input. -/
def State.eviEdges (s : State) (i : Nat) : Nat := bitsOf (s.rdn Reg.MER_EVI_CFG) (8 * i + 3) (8 * i + 2)

/-- FILT of an input, ticks. -/
def State.eviFilt (s : State) (i : Nat) : Nat := bitsOf (s.rdn Reg.MER_EVI_CFG) (8 * i + 7) (8 * i + 4)

/-- Show LEVEL. -/
def State.showFifo (s : State) : State := s.put F.MER_EVF_CNT_LEVEL s.mer.fifo.length

/-- DT: device time less (FILT + 1) × 30,517.578 ns, its low 32 bits (R405). -/
def State.eviDt (s : State) (i : Nat) : Nat :=
  code 32 (((s.devTime : Int) * 1000 - ((s.eviFilt i : Int) + 1) * 30517578 + 500) / 1000)

/-- Push an entry (R405, R407). -/
def State.eviPush (s : State) (i : Nat) (rise : Bool) : State :=
  if 32 ≤ s.mer.fifo.length then
    let a := (s.bump F.MER_EVF_CNT_LOST 1).modMer fun m => { m with lostNext := true }
    a.merEvent 180 sevWarn 0 0
  else
    let main := s.mainPower && !s.mer.lockout
    let c := s.cal
    let w0 := b2n main * 2 ^ 30 + b2n s.mer.lostNext * 2 ^ 29 + b2n rise * 2 ^ 28 + i * 2 ^ 26 + c.year * 2 ^ 16 +
      c.month * 2 ^ 12 + c.day * 2 ^ 7 + c.hour
    let w1 := c.min * 2 ^ 26 + c.sec * 2 ^ 20 + s.fld F.MER_SUBSEC_SUBSEC
    let a := s.modMer fun m => { m with
      fifo := m.fifo ++ [⟨w0, w1, if main then s.eviDt i else 0⟩], lostNext := false }
    if s.mer.fifo.isEmpty then a.showFifo.merEventMain 184 sevInfo else a.showFifo

/-- An input has held a new level long enough, SUBSEC at `sub`: the edge is taken if EDGES selects it (R405); it resumes
a calendar that waits for EVI0 (R400), and wakes (R409). -/
def State.eviEdge (s : State) (i : Nat) (rise : Bool) (sub : Nat) : State :=
  if !bitAt (s.eviEdges i) (if rise then 0 else 1) then s
  else
    let a := (s.merTo sub).eviPush i rise
    let b := if i = 0 ∧ a.mer.resume then a.calResume else a
    if bitAt (b.fld F.MER_PWR_WAKE_EVI) i then b.merWake 2 else b

def execEventInputEdge (input : Fin 4) (rise : Bool) (sub : Fin 32768) (s : State) : Host.Outcome State Fault Refusal :=
  .next (s.eviEdge input.val rise sub.val)

/-- A read of MER_EVF0 latches the head entry (R407). -/
def State.evf0Read (s : State) : Nat × State :=
  match s.mer.fifo with
  | [] => (0, ((s.modMer fun m => { m with latched := false }).wrn Reg.MER_EVF0 0).wrn Reg.MER_EVF1 0)
  | e :: _ =>
    let w := 2 ^ 31 + e.w0
    (w, ((s.modMer fun m => { m with latched := true }).wrn Reg.MER_EVF0 w).wrn Reg.MER_EVF1 e.w1)

def execMerEvf0Read (_req : Req) (s : State) : Host.Outcome State Fault Refusal :=
  if s.mer.lockout || !s.blockOn Reg.MER_EVF0 then .next { s with readData := 0 } else .next { s.evf0Read.2 with readData := s.evf0Read.1 }

/-- A read of MER_EVF2 returns the last word of the latched entry and pops it; with no entry latched it returns 0. -/
def State.evf2Read (s : State) : Nat × State :=
  match s.mer.latched, s.mer.fifo with
  | true, e :: t => (e.w2, (s.modMer fun m => { m with latched := false, fifo := t }).showFifo)
  | _, _ => (0, s)

def execMerEvf2Read (_req : Req) (s : State) : Host.Outcome State Fault Refusal :=
  if s.mer.lockout || !s.blockOn Reg.MER_EVF2 then .next { s with readData := 0 } else .next { s.evf2Read.2 with readData := s.evf2Read.1 }

/-! ### TIME_LOST (R394, R395) -/

/-- Is a register battery-backed: every MER_ register but MER_LOCK_CNT (R397)? -/
def batteryReg (key : Nat) : Bool := key / 0x10000 == 0xE && key != Reg.MER_LOCK_CNT

/-- Every battery-backed field takes its reset value, the calendar restarts, TIME_LOST is set (R395); BAT_LOW goes on
showing its comparator (R389). -/
def State.merLost (s : State) : State :=
  let m := s.mer
  let a : State := { s with
    regs := s.regs.filter (fun e => !batteryReg e.1)
    mem := { s.mem with retained := [] }
    mer := { Meridian.init with
      aonValid := m.aonValid, onVbat := m.onVbat, lockout := m.lockout, cleanFrom := m.cleanFrom, wasOnVbat := m.wasOnVbat
      fastFell := m.fastFell } }
  a.setTo F.MER_STATUS_BAT_LOW (s.on F.MER_STATUS_BAT_LOW)

/-- VBAT falls through the retention level, which makes it not valid (R390); `close`: within 100 ns of VDD_AON becoming
valid (R394). -/
def State.vbatFall (s : State) (close : Bool) : State :=
  if s.mer.onVbat ∨ !s.mer.aonValid ∨ close then s.merLost.modMer fun m => { m with onVbat := false } else s

def execTimeLost (close : Bool) (s : State) : Host.Outcome State Fault Refusal := .next (s.vbatFall close)

/-- The domain powers up from no supply: on VBAT, or on VDD_AON, whose device start follows (R390, R394). -/
def State.merPowerUp (s : State) (vbat : Bool) : State :=
  if s.mer.aonValid ∨ s.mer.onVbat then s else s.merLost.modMer fun m => { m with onVbat := vbat, lockout := true }

def execMeridianPowerUp (vbat : Bool) (s : State) : Host.Outcome State Fault Refusal := .next (s.merPowerUp vbat)

/-- Writing 1 to TIME_LOST clears it and sets RET_VALID (R395). -/
def State.timeLostClear (s : State) : State := (s.setTo F.MER_STATUS_TIME_LOST false).setTo F.MER_STATUS_RET_VALID true

def execTimeLostClear (_req : Req) (s : State) : Host.Outcome State Fault Refusal :=
  s.reach Reg.MER_STATUS <| .next (if s.mer.lockout then s.lockedOut else s.timeLostClear)

/-! ### Supplies (R389 to R393) -/

def execBatLow (low : Bool) (s : State) : Host.Outcome State Fault Refusal :=
  .next (if s.on F.MER_STATUS_BAT_LOW == low then s
    else (s.setTo F.MER_STATUS_BAT_LOW low).merEvent 178 sevWarn (b2n low) 0)

/-- VDD_AON falls through its warning level: the lockout is asserted, and is released no sooner than 2 ms after VDD_AON is above that
level again (R391, R393). -/
def State.aonWarning (s : State) : State :=
  let a := if s.mer.lockout then s else s.cutCopy
  a.modMer fun m => { m with lockout := true, aboveWarn := false }

/-- VDD_AON is above its warning level again: the 2 ms count from here (R393). -/
def State.aonAbove (s : State) : State :=
  if s.mer.aboveWarn then s else s.modMer fun m => { m with aboveWarn := true, cleanFrom := s.now }

/-- VDD_AON_WARNING (R391). -/
def execVddAonWarning (s : State) : Host.Outcome State Fault Refusal := .next s.aonWarning

/-- The switch takes VBAT where that is valid and records the calendar (R391); OFF_TIME of a Cycle starts, a brown-out
restart begins (R409). Without VBAT the domain loses its supply, and the pin is released (R410). -/
def State.takeVbat (s : State) (vbat : Bool) (sub : Nat) : State :=
  let a := (s.merTo sub).modMer fun m => { m with aonValid := false, lockout := true, onVbat := vbat, wasOnVbat := vbat || m.wasOnVbat }
  if !vbat then a.pwrEnd
  else
    let b := (a.wrn Reg.MER_SW_TIME (a.rdn Reg.MER_TIME)).wrn Reg.MER_SW_DATE (a.rdn Reg.MER_DATE)
    match b.mer.seq with
    | .cycle => b.modMer fun m => { m with offRun := true }
    | .none =>
      if b.on F.MER_PWR_BO_EN then
        (b.modMer fun m => { m with low := true, seq := .brownOut, offRun := true, wake := 3 }).merEvent 182 sevNotice 0 0
      else b
    | _ => b

/-! ### The sequences (R409, R410) -/

def execSleep (_req : Req) (s : State) : Host.Outcome State Fault Refusal :=
  s.reach Reg.MER_PWR <| .next (if s.mer.lockout then s.lockedOut else s.pwrStart .sleep F.MER_PWR_SLEEP)

/-- OFF_TIME passes: the pin is released. -/
def execOffTimeExpiry (s : State) : Host.Outcome State Fault Refusal := .next (if s.mer.offRun then s.pwrEnd else s)

/-- No switch to VBAT within 1 s of a Cycle or Sleep: the pin is released, PWR_IGNORED is set. -/
def execPwrIgnored (s : State) : Host.Outcome State Fault Refusal :=
  .next (if (s.mer.seq = .cycle ∨ s.mer.seq = .sleep) ∧ !s.mer.onVbat then s.pwrEnd.setTo F.MER_STATUS_PWR_IGNORED true else s)

end Sys2Proof.Machine
end

