-- ==== Sys2Proof/Machine/Power.lean ====
section
/-! DEFINITION. Power domains, clocks and temperature (17_power_clocks_thermal_emc.md). -/

namespace Sys2Proof.Machine

/-- Change the power controller. -/
def State.modPow (s : State) (f : Power → Power) : State := { s with pow := f s.pow }

/-- Source unit number of the power controller (R545). -/
def srcPow : Nat := 0x10
/-- Source unit number of the thermal block. -/
def srcThm : Nat := 0x11

/-! ### Domains and rails (R526 to R531) -/

/-- Set a domain's ON bit. -/
def State.setDom (s : State) (d : Nat) (b : Bool) : State := s.put F.PWR_STATUS_ON (putBit (s.fld F.PWR_STATUS_ON) d b)

/-- Forget the registers of some blocks, by the block number of their offset; they read their reset value. -/
def State.dropBlocks (s : State) (bs : List Nat) : State :=
  { s with regs := s.regs.filter fun e => !bs.contains (e.1 % barSize / 0x10000), eff := s.eff.filter fun e => !bs.contains (e.1 / 0x10000) }

/-- The copy engine stops with its domain: the words of a run that are not written keep what they held (R396, R527). -/
def State.dropCopy (s : State) : State :=
  match s.cdr.copyRun with
  | none => s
  | some r =>
    let n := (s.now - r.start + 79) / 80 * 4
    s.retStore (r.off + n) (r.old.drop n)

/-- PD_FAB loses its power, and with it the cycle sequencer, which goes on without PD_CYC and not without this domain (R86, R527; log entry
18); what the supervisor holds of a capture stays (R498). -/
def State.loseFab (s : State) : State :=
  let b := s.dropCopy.dropBlocks [0x05, 0x06, 0x08, 0x09, 0x0A, 0x0F, 0x10, 0x11, 0x13]
  State.claimFalls { b with
    cdr := .init, boot := { b.boot with gridAt := none }
    fus := .init, ctl := .init, eph := .init, red := .init, can := List.replicate 4 .init, uart := List.replicate 8 .init
    dio := .init, sdf := List.replicate 32 .init
    alm := { Almanac.init with
      epoch := b.alm.epoch, frozen := b.alm.frozen, plate := b.alm.plate, logRegion := b.alm.logRegion, plateArea := b.alm.plateArea }
    mem := { b.mem with sram := [] } }

/-- PD_SER loses its power: what measures device time for the rest of the device goes on, and no grid does (R527; log entry 18). -/
def State.loseSer (s : State) : State :=
  let a := s.newEpoch
  let b := a.dropBlocks [0x0C, 0x0D, 0x12]
  { b with
    xl := .init, eth := List.replicate 4 .init, hif := .init, tb := { TimeBase.init with now := b.tb.now }
    cdr := { b.cdr with grid := false }, boot := { b.boot with gridAt := none } }

/-- A switched domain loses its power: its state is lost (R527).  The loss of PD_CYC leaves a section running, as the sequencer
sees it (R85); of the program the Clock Drive keeps the image it was loaded from, whose header it reads (log entry 28). -/
def State.loseDomain (s : State) (d : Nat) : State :=
  if !s.domOn d then s
  else
    let a := s.setDom d false
    match d with
    | 3 => { a with boot := { a.boot with appRuns := false } }
    | 4 => { a with cdr := { a.cdr with
        half0 := { a.cdr.half0 with data0 := [], data1 := [] }, half1 := { a.cdr.half1 with data0 := [], data1 := [] } } }
    | 5 => (a.quadDown 0 true).drainDone
    | 6 => (a.quadDown 1 true).drainDone
    | 7 => (a.quadDown 2 true).drainDone
    | 8 => (a.quadDown 3 true).drainDone
    | 9 => a.loseFab
    | 10 => a.loseSer
    | 11 => { a with mem := { a.mem with ddr := [] } }
    | _ => a

/-- The domains a rail feeds, in the order in which they are switched off (R526, R529); rails by their RAIL_OK bit. -/
def railDomains (rail : Nat) : List Nat :=
  match rail with
  | 1 => [3, 4, 11, 9]
  | 2 => [8, 7, 6, 5]
  | 6 => [10]
  | 7 => [10]
  | 8 => [11]
  | _ => []

/-- VDDIO_A or VDDIO_B fails, or a clock does: the supervisor stops writing its heartbeat, and 100 ms later it issues a
Meridian Cycle (R535, R549). -/
def State.svStop (s : State) : State := s.modPow fun p => { p with
  svStopped := true, cycleDue := !p.svStopped || p.cycleDue, cycleFrom := if p.svStopped then p.cycleFrom else s.now }

/-- A rail becomes valid or invalid: its RAIL_OK bit, and EV016. -/
def State.setRail (s : State) (rail : Nat) (ok : Bool) : State :=
  (s.put F.PWR_STATUS_RAIL_OK (putBit (s.fld F.PWR_STATUS_RAIL_OK) rail ok)).raise1 16 sevAlarm srcPow rail

/-- The same, where it changes. -/
def State.railSeen (s : State) (rail : Nat) (ok : Bool) : State := if s.railOk rail = ok then s else s.setRail rail ok

/-- The guard gets its supply, or loses it: PD_GUARD follows VDD_GUARD (R526). -/
def State.grdPower (s : State) (on : Bool) : State := (s.modGrd fun g => { g with powered := on }).setDom 2 on

/-- A rail leaves its valid window (R530, R549): its domains are off, also those that wait to be powered.  VDD_AON is covered by
Meridian, VDD_GUARD is passive, and without VDDIO_A the GUARD_HOLD pins read low. -/
def State.railLost (s : State) (rail : Nat) : State :=
  if rail = 0 ∨ (!s.railOk rail ∧ ¬(rail = 3 ∧ s.grd.powered)) then s
  else
    let ds := railDomains rail
    let a := (ds.foldl State.loseDomain (s.setRail rail false)).modPow fun p => { p with queue := p.queue.filter (!ds.contains ·) }
    let b := if rail = 3 then (a.grdPower false).grdShow else if rail = 4 then a.grdShow else a
    if rail = 4 ∨ rail = 5 then b.svStop else b

def execIoRailInvalid (b : Bool) (s : State) : Host.Outcome State Fault Refusal := .next (s.railLost (4 + b2n b))

def execRailValid (rail : Fin 9) (s : State) : Host.Outcome State Fault Refusal :=
  .next (if rail.val = 0 ∨ s.railOk rail.val then s else if rail.val = 4 then (s.setRail 4 true).grdShow else s.setRail rail.val true)

/-- The first domain of the queue reports ready (R529): a quadrant shows in Q_ON at the next sample instant. -/
def State.domainReady (s : State) : State :=
  match s.pow.queue with
  | [] => s
  | d :: ds => (s.setDom d true).modPow fun p => { p with queue := ds }

def execDomainReady (s : State) : Host.Outcome State Fault Refusal := s.rooted <| .next s.domainReady

/-! ### Quadrants and throttle at the sample instant (R531, R540) -/

/-- The throttle step. -/
def State.thStep (s : State) : Nat := s.fld F.THM_STATUS_STEP

/-- Is quadrant q to be off: requested, or held off by the throttle? -/
def State.quadHeld (s : State) (q : Nat) : Bool :=
  bitAt (s.rdn Reg.PWR_ORR_CTRL) q || (decide (1 ≤ s.thStep) && q == 3) || (decide (2 ≤ s.thStep) && q == 2)

/-- A quadrant is switched at the sample instant (R531). -/
def State.quadStep (q : Nat) (s : State) : State :=
  if s.quadHeld q then
    let a := s.modPow fun p => { p with queue := p.queue.filter (· != 5 + q) }
    (a.setDom (5 + q) false).quadDown q (s.domOn (5 + q))
  else if s.domOn (5 + q) then s.quadUp q
  else if s.railOk 2 ∧ s.variant = .ci ∧ !s.pow.queue.contains (5 + q) ∧ s.pow.shutAt.isNone then
    s.modPow fun p => { p with queue := p.queue ++ [5 + q] }
  else s

/-- QUADRANT_SWITCH; quadrant 0, which is not switched, reports ready here after stage POWER. -/
def State.quadSwitch (s : State) : State := (((if s.domOn 5 then s.quadUp 0 else s).quadStep 1).quadStep 2).quadStep 3

def execOffReq (_req : Req) (v : Fin 8) (s : State) : Host.Outcome State Fault Refusal :=
  s.reach Reg.PWR_ORR_CTRL <| .next (s.put F.PWR_ORR_CTRL_OFF_REQ v.val)

/-- Whole seconds spent at steps 1 and 2 count in THM_CNT. -/
def State.thCount (s : State) : State :=
  let n := (s.now - s.pow.stepFrom) / 1000000000
  let a := match s.thStep with
    | 1 => s.bump F.THM_CNT_STEP1_S n
    | 2 => s.bump F.THM_CNT_STEP2_S n
    | _ => s
  a.modPow fun p => { p with stepFrom := p.stepFrom + n * 1000000000 }

/-- A pending change of the throttle step is applied (R540). -/
def State.throttleStep (s : State) : State :=
  let a := s.thCount
  match a.pow.stepDue with
  | none => a
  | some n =>
    let b := a.modPow fun p => { p with stepDue := none, stepFrom := a.now }
    if n = b.thStep then b else (b.put F.THM_STATUS_STEP n).raise1 20 sevAlarm srcThm n

/-! ### Temperature (R537 to R542) -/

/-- DWELL in ns. -/
def State.dwellNs (s : State) : Nat := let d := s.fld F.THM_CFG_DWELL; (if d = 0 then 1 else d) * 1000000000

/-- The level of a mean, units of 0.125 °C, from the level before (R539). -/
def levelOf (old : Nat) (m : Int) : Nat :=
  if 1000 ≤ m ∨ (3 ≤ old ∧ 960 ≤ m) then 3
  else if 920 ≤ m ∨ (2 ≤ old ∧ 880 ≤ m) then 2
  else if 840 ≤ m ∨ (1 ≤ old ∧ 800 ≤ m) then 1
  else 0

/-- The counts of DWELL start or end with the mean (R540); below 110 °C none that raises the step, and no rise of it, waits (R563). -/
def State.dwellCheck (s : State) (m : Int) : State :=
  if s.pow.faultStep then s
  else if 920 ≤ m then
    if s.pow.dwellFrom.isSome ∧ !s.pow.dwellDown then s
    else s.modPow fun p => { p with dwellFrom := some s.now, dwellDown := false, stepDue := some (satN 2 (s.thStep + 1)) }
  else if m < 880 then
    let due := s.pow.stepDue.filter (decide <| · ≤ s.thStep)
    if s.thStep = 0 then s.modPow fun p => { p with dwellFrom := none, stepDue := due }
    else if s.pow.dwellFrom.isSome ∧ s.pow.dwellDown then s
    else s.modPow fun p => { p with dwellFrom := some s.now, dwellDown := true, stepDue := due }
  else s.modPow fun p => { p with dwellFrom := none }

/-- DWELL has passed above 115 °C or below 110 °C: a step change is due (R540). -/
def State.dwellExpiry (s : State) : State :=
  match s.pow.dwellFrom with
  | none => s
  | some t =>
    let a := s.runTo (t + s.dwellNs)
    let n := if s.pow.dwellDown then a.thStep - 1 else satN 2 (a.thStep + 1)
    a.modPow fun p => { p with
      stepDue := some n, dwellFrom := if p.dwellDown && n == 0 then none else some (t + s.dwellNs) }

def execThrottleDwell (s : State) : Host.Outcome State Fault Refusal := s.rooted <| .next s.dwellExpiry

/-! ### Powering down (R529) -/

/-- The order of R529, reversed. -/
def downOrder : List Nat := [8, 7, 6, 5, 3, 4, 10, 11, 9]

/-- A domain that is on takes 10 µs to power down. -/
def State.domainDown (s : State) (d : Nat) : State := if s.domOn d then (s.runTo (s.now + 10000)).loseDomain d else s

/-- Every switched domain powers down, one after another, and none waits to be powered (R529). -/
def State.domainsDown (s : State) : State := (downOrder.foldl State.domainDown s).modPow fun p => { p with queue := [] }

/-- A Cycle is commanded; one that starts powers the domains down (R409, R529).  They go with the command (DESIGN CHOICE, log entry
53). -/
def State.cycleGo (s : State) : State :=
  let a := s.pwrStart .cycle F.MER_PWR_CYCLE
  if a.mer.seq = .cycle ∧ s.mer.seq ≠ .cycle then a.domainsDown else a

/-- The supervisor issues a Cycle with a REASON (R409). -/
def State.merCycle (s : State) (reason : Nat) : State :=
  if s.mer.lockout then s.lockedOut else (s.put F.MER_PWR_REASON reason).cycleGo

def execCycle (_req : Req) (s : State) : Host.Outcome State Fault Refusal :=
  s.reach Reg.MER_PWR <| .next (if s.mer.lockout then s.lockedOut else s.cycleGo)

/-- The mean reaches 125 °C: the guard trips with cause THERMAL (R542). -/
def State.shutRequest (s : State) : State :=
  if s.pow.shutAt.isSome then s
  else ((s.modPow fun p => { p with shutAt := some s.now }).grdCause 10).raise 21 sevSafety srcThm

/-- The mean falls below 120 °C after a shut-down: the supervisor issues a Meridian Cycle with REASON 0x3 (R542). -/
def State.shutEnd (s : State) (level : Nat) : State :=
  if s.pow.shutAt.isSome ∧ level < 3 ∧ !s.domOn 9 ∧ !s.svDead then s.merCycle 3 else s

/-- A new mean: TEMP, THM_MAX, the level and what follows from it. -/
def State.newMean (s : State) (m : Int) : State :=
  let a := s.put F.THM_STATUS_TEMP (code 12 m)
  let b := if sgn 12 (a.fld F.THM_MAX_TEMP) < m then a.put F.THM_MAX_TEMP (code 12 m) else a
  let old := b.fld F.THM_STATUS_LEVEL
  let lv := levelOf old m
  let c := b.put F.THM_STATUS_LEVEL lv
  let d := if decide (1 ≤ old) != decide (1 ≤ lv) then c.raise 19 sevWarn srcThm else c
  let e := d.dwellCheck m
  let f := if 1000 ≤ m then e.shutRequest else e
  f.shutEnd lv

/-- A conversion out of range, or an open or shorted diode (R537, R540). -/
def State.sensorFault (s : State) : State :=
  let a := s.modPow fun p => { p with stepDue := some 2, dwellFrom := none, faultStep := true }
  if a.on F.THM_STATUS_SENSOR_FAULT then a else (a.setTo F.THM_STATUS_SENSOR_FAULT true).raise 22 sevAlarm srcThm

/-- A conversion of the diode, units of 0.125 °C; none for an open or shorted diode (R537). -/
def State.tempConv (s : State) (v : Option Int) : State :=
  match v with
  | none => s.sensorFault
  | some t =>
    if t < -480 ∨ 1280 < t then s.sensorFault
    else
      let a := if s.on F.THM_STATUS_SENSOR_FAULT then (s.setTo F.THM_STATUS_SENSOR_FAULT false).raise 22 sevAlarm srcThm else s
      let l := (t :: a.pow.convs).take 8
      (a.modPow fun p => { p with convs := l, faultStep := false }).newMean (divRneI l.sum l.length)

/-- 1 ms after the request every switched domain powers down (R542). -/
def State.shutDown (s : State) : State :=
  match s.pow.shutAt with
  | none => s
  | some t => (s.runTo (t + 1000000)).domainsDown

def execShutdownPowerDown (s : State) : Host.Outcome State Fault Refusal := s.rooted <| .next s.shutDown

/-! ### Clocks (R533 to R536) -/

/-- The depth CLK_SSC asks for: 0 with EN 0; values above 10 are treated as 10. -/
def State.sscDepth (s : State) : Nat := if s.on F.CLK_SSC_EN then satN 10 (s.fld F.CLK_SSC_DEPTH) else 0

/-- A write of CLK_SSC: a change of depth is pending (R533, R534). -/
def State.writeSsc (s : State) (v : Nat) : State :=
  let a := s.wrAcc Reg.CLK_SSC v 0
  a.modPow fun p => { p with sscPend := true, asked := a.sscDepth }

def execClkSsc (_req : Req) (v : Word) (s : State) : Host.Outcome State Fault Refusal :=
  s.reach Reg.CLK_SSC <| if v.toNat &&& 0x7FFFFFF0 ≠ 0 then .fault .reservedWrite else .next (s.writeSsc v.toNat)

/-- At the sample instant a new depth starts its ramp (R533); one that a write took back changes nothing. -/
def State.spreadChange (s : State) : State :=
  if !s.pow.sscPend then s
  else
    let a := s.modPow fun p => { p with sscPend := false }
    if s.pow.asked = s.pow.newDepth then a
    else
      let b := a.modPow fun p => { p with oldDepth := s.depthNow, newDepth := p.asked, ramping := true, rampFrom := s.now }
      (if 0 < b.pow.newDepth then b.setTo F.CLK_STATUS_SSC_ACTIVE true else b).raise 23 sevNotice srcPow

/-- The ramp ends 1 ms after it started (R533, R534). -/
def State.rampEnd (s : State) : State :=
  if !s.pow.ramping then s
  else
    let a := (s.runTo (s.pow.rampFrom + 1000000)).modPow fun p => { p with ramping := false, oldDepth := p.newDepth }
    a.setTo F.CLK_STATUS_SSC_ACTIVE (decide (0 < a.pow.newDepth))

def execSpreadRampEnd (s : State) : Host.Outcome State Fault Refusal := s.rooted <| .next s.rampEnd

/-- What fails the supervision of R535. -/
def clockFld (which : Nat) : Fld :=
  match which with
  | 0 => F.CLK_STATUS_REF_OK
  | 1 => F.CLK_STATUS_MAIN_LOCK
  | _ => F.CLK_STATUS_TIME_LOCK

/-- The root stops, and everything that runs from it: no sample instant follows, and nothing but the guard and Meridian goes on until the
supply is cycled (R535; log entry 18). -/
def State.rootStop (s : State) : State :=
  { s with
    pow := { s.pow with svStopped := true, svDead := true, cycleDue := false }
    cdr := { s.cdr with grid := false }, boot := { s.boot with gridAt := none, waitFrom := none } }

/-- A clock fails (R535); `stops` where the root itself stops, and the supervisor with it.  While the supervisor runs, also with
its heartbeat stopped, it writes EV018. -/
def State.clockFail (s : State) (which : Nat) (stops : Bool) : State :=
  let a := (s.setTo (clockFld which) false).setTo F.CLK_STATUS_LOCK_LOST true
  if stops then a.rootStop
  else (if a.svDead then a else a.raise 18 sevAlarm srcPow).svStop

def execClockFailure (which : Fin 3) (stops : Bool) (s : State) : Host.Outcome State Fault Refusal :=
  .next (s.clockFail which.val (stops && which.val == 0))

/-- 100 ms later the supervisor issues a Meridian Cycle with REASON 0x4 (R535, R549). -/
def execSupervisorCycleDelay (s : State) : Host.Outcome State Fault Refusal :=
  .next (if s.pow.cycleDue then ((s.runTo (s.pow.cycleFrom + 100000000)).modPow fun p => { p with cycleDue := false }).merCycle 4 else s)

/-- A point of the root crystal's curve, ppb. -/
def State.clkTc (s : State) (k : Nat) : Int := i32 (s.rd (Reg.CLK_TC + 4 * k))

/-- The curve at a temperature in units of 0.125 °C, to the nearest ppb (R536). -/
def State.refError (s : State) (t : Int) : Int :=
  let u := (clampI (-320) 960 t + 320).toNat
  if 1280 ≤ u then s.clkTc 16
  else divRneI (s.clkTc (u / 80) * 80 + (u % 80 : Nat) * (s.clkTc (u / 80 + 1) - s.clkTc (u / 80))) 80

/-- REF_COMPENSATION (R536): the correction moves by at most 5 ppb toward the negative of the curve; with COMP_EN 0 it stays as it
is (DESIGN CHOICE, log entry 18). -/
def State.refComp (s : State) : State :=
  if s.on F.CLK_STATUS_REF_MODE then s.put F.CLK_REF_APPLIED 0
  else if !s.on F.CLK_REF_COMP_EN then s
  else
    let raw := -(s.refError (sgn 12 (s.fld F.THM_TEMP_SI_TEMP)))
    let tgt := clampI (-50000) 50000 raw
    let cur := sgn 17 (s.fld F.CLK_REF_APPLIED)
    let a := s.put F.CLK_REF_APPLIED (code 17 (cur + clampI (-5) 5 (tgt - cur)))
    if raw = tgt then a.setTo F.CLK_STATUS_COMP_SAT false
    else if a.on F.CLK_STATUS_COMP_SAT then a
    else (a.setTo F.CLK_STATUS_COMP_SAT true).raise 24 sevWarn srcPow

/-- THM_TEMP_LATCH (R538). -/
def State.tempLatch (s : State) : State := s.put F.THM_TEMP_SI_TEMP (s.fld F.THM_STATUS_TEMP)

end Sys2Proof.Machine
end

