-- ==== Sys2Proof/Machine/Ethernet.lean ====
section
/-! DEFINITION. The Ethernet ports (10_ethernet_ptp.md, R361 to R369, R379 to R388). -/

namespace Sys2Proof.Machine

/-- Port p's state. -/
def State.port (s : State) (p : Nat) : EthPort := s.eth.getD p .init

/-- Change port p. -/
def State.modPort (s : State) (p : Nat) (f : EthPort → EthPort) : State := { s with eth := modAt s.eth p f }

/-- A field of port p's registers (R566). -/
def pf (f : Fld) (p : Nat) : Fld := f.plus (0x40 * p)

/-- Source unit number of port p (R489). -/
def srcEth (p : Nat) : Nat := 0xA0 + p

/-! ### The rings in memory (R364 to R367) -/

/-- Read `n` bytes at an offset from a ring's base or a frame's BUF. -/
def State.fabRead (s : State) (base off n : Nat) : List Byte :=
  match Config.fabricMap base with
  | (true, a) => readBytes ramByte s.mem.ddr (a % (s.mem.ddrBytes - 0x4000) + off) n
  | (false, a) => readBytes ramByte s.mem.sram (a % (2 ^ 24 - 0x4000) + off) n

/-- Write bytes at an offset from a ring's base or a frame's BUF; DDR without power takes nothing. -/
def State.fabWrite (s : State) (base off : Nat) (bs : List Byte) : State :=
  match Config.fabricMap base with
  | (true, a) =>
    if s.domOn 11 then { s with mem := { s.mem with ddr := writeBytes ramByte s.mem.ddr (a % (s.mem.ddrBytes - 0x4000) + off) bs } } else s
  | (false, a) => { s with mem := { s.mem with sram := writeBytes ramByte s.mem.sram (a % (2 ^ 24 - 0x4000) + off) bs } }

/-- The base of port p's receive ring. -/
def State.rxBase (s : State) (p : Nat) : Nat := s.rdn (Reg.ETH_Pp_RXBASE + 0x40 * p) * 64

/-- The base of port p's transmit ring (`ring` 0) or launch ring 1. -/
def State.txBase (s : State) (p ring : Nat) : Nat :=
  s.rdn ((if ring = 0 then Reg.ETH_Pp_TXBASE else Reg.ETH_Pp_LQBASE) + 0x40 * p) * 64

/-- STATUS codes of R365. -/
def TxStatus.code : TxStatus → Nat
  | .pending => 0
  | .sent => 1
  | .cancelled => 2
  | .late => 3
  | .bad => 4
  | .aborted => 5
  | .sentDelayed => 6

/-- The 32 bytes of a descriptor that software hands over, STATUS pending (R365). -/
def txBytes (d : TxDesc) : List Byte :=
  leBytes 8 d.buf ++ leBytes 2 d.len ++ [BitVec.ofNat 8 (b2n d.tsReq + 2 * b2n d.oneStep + 4 * b2n d.pdelay), 0] ++ leBytes 2 d.tsId ++
    [0, 0] ++ leBytes 8 d.launch ++ leBytes 4 d.t2 ++ leBytes 4 d.tag

/-- What software has stored before it hands entries over: their frames at BUF, and their descriptors in the ring. -/
def State.storeDescs (s : State) (p ring : Nat) (es : List TxEntry) : State :=
  forEach es (fun e x => (x.fabWrite e.desc.buf 0 e.desc.frame).fabWrite (x.txBase p ring) (32 * e.index) (txBytes e.desc)) s

/-- The device writes the completion of a transmit or launch descriptor: its STATUS (R365, R367). -/
def State.writeStatus (s : State) (p : Nat) (d : EthDone) : State :=
  match d with
  | .tx ring i st => s.fabWrite (s.txBase p ring) (32 * i + 11) [BitVec.ofNat 8 st.code]
  | _ => s

/-! ### Received frames -/

/-- Bytes [a, a + n) of a frame, in network order. -/
def fieldAt (fr : List Byte) (a n : Nat) : Nat := beNat ((fr.drop a).take n)

/-- Does the frame carry a VLAN tag? -/
def hasVlan (fr : List Byte) : Bool := fieldAt fr 12 2 == 0x8100

/-- Where the EtherType lies. -/
def typeAt (fr : List Byte) : Nat := if hasVlan fr then 16 else 12

/-- The EtherType. -/
def etherType (fr : List Byte) : Nat := fieldAt fr (typeAt fr) 2

/-- Where the payload lies. -/
def l3At (fr : List Byte) : Nat := typeAt fr + 2

/-- Is the frame IPv4 carrying UDP? -/
def isUdp (fr : List Byte) : Bool :=
  etherType fr == 0x0800 && fieldAt fr (l3At fr) 1 / 16 == 4 && fieldAt fr (l3At fr + 9) 1 == 17

/-- Length of the IPv4 header. -/
def ihl (fr : List Byte) : Nat := fieldAt fr (l3At fr) 1 % 16 * 4

/-- Where the UDP header lies. -/
def udpAt (fr : List Byte) : Nat := l3At fr + ihl fr

/-- UDP destination port. -/
def udpPort (fr : List Byte) : Nat := fieldAt fr (udpAt fr + 2) 2

/-- IPv4 destination address. -/
def ipDst (fr : List Byte) : Nat := fieldAt fr (l3At fr + 16) 4

/-- The one's-complement sum of 16-bit words, an odd byte padded with zero. -/
def sum16 : List Byte → Nat
  | [] => 0
  | [a] => a.toNat * 256
  | a :: b :: t => a.toNat * 256 + b.toNat + sum16 t

/-- Fold the carries of a one's-complement sum. -/
def fold16 (n : Nat) : Nat :=
  let a := n % 65536 + n / 65536
  let b := a % 65536 + a / 65536
  b % 65536 + b / 65536

/-- Is the IPv4 header checksum correct? -/
def ipSumOk (fr : List Byte) : Bool := fold16 (sum16 ((fr.drop (l3At fr)).take (ihl fr))) == 0xFFFF

/-- Is the UDP checksum 0 or correct? -/
def udpSumOk (fr : List Byte) : Bool :=
  let len := fieldAt fr (udpAt fr + 4) 2
  let pseudo := sum16 ((fr.drop (l3At fr + 12)).take 8) + 17 + len
  fieldAt fr (udpAt fr + 6) 2 == 0 || fold16 (pseudo + sum16 ((fr.drop (udpAt fr)).take len)) == 0xFFFF

/-- The six bytes an IEC 61162-450 datagram begins with. -/
def udpbc : Nat := 0x556450624300

/-- Does the frame pass the tests of R368 beside address and port? -/
def good450 (fr : List Byte) : Bool :=
  ihl fr == 20 && fieldAt fr (l3At fr + 6) 2 % 0x4000 == 0 && ipSumOk fr && udpSumOk fr &&
    decide (14 ≤ fieldAt fr (udpAt fr + 4) 2) && fieldAt fr (udpAt fr + 8) 6 == udpbc

/-- Is filter entry k enabled, and does it name port p? -/
def State.f450On (s : State) (k p : Nat) : Bool :=
  s.on (F.ETH_F450_CFG_EN.plus (8 * k)) && bitAt (s.fld (F.ETH_F450_CFG_PORTS.plus (8 * k))) p

/-- Does the frame meet the address and the port of entry k? -/
def State.f450Addr (s : State) (k : Nat) (fr : List Byte) : Bool :=
  isUdp fr && ipDst fr == s.rdn (Reg.ETH_F450_ADDR + 8 * k) && udpPort fr == s.fld (F.ETH_F450_CFG_UDP.plus (8 * k))

/-- The entries whose address and port the frame meets, lowest first. -/
def State.f450Hits (s : State) (p : Nat) (fr : List Byte) : List Nat :=
  (List.range 16).filter fun k => s.f450On k p && s.f450Addr k fr

/-- The multicast MAC address of entry k: 01-00-5E and the low 23 bits of ADDR_k (R368). -/
def State.f450Mac (s : State) (k : Nat) : Nat := 0x01005E000000 + s.rdn (Reg.ETH_F450_ADDR + 8 * k) % 2 ^ 23

/-- The port's own MAC address. -/
def State.portMac (s : State) (p : Nat) : Nat :=
  s.rdn (Reg.ETH_Pp_MAC_HI + 0x40 * p) % 65536 * 2 ^ 32 + s.rdn (Reg.ETH_Pp_MAC_LO + 0x40 * p)

/-- The PTP multicast addresses of R363. -/
def ptpMacs : List Nat := [0x011B19000000, 0x0180C200000E, 0x01005E000181, 0x01005E00006B]

/-- Does port p accept a frame with this destination (R363)? -/
def State.accepts (s : State) (p : Nat) (fr : List Byte) : Bool :=
  let d := fieldAt fr 0 6
  d == s.portMac p || d == 0xFFFFFFFFFFFF ||
    (List.range 16).any (fun k => s.f450On k p && d == s.f450Mac k) ||
    (s.on (pf F.ETH_Pp_CFG_PTP_EN p) && ptpMacs.contains d) ||
    (s.on (pf F.ETH_Pp_CFG_PROMISC_MC p) && bitAt (fieldAt fr 0 1) 0)

/-- Is the frame marked PTP_EVENT (R379)? -/
def ptpEvent (fr : List Byte) : Bool :=
  (etherType fr == 0x88F7 && decide (fieldAt fr (l3At fr) 1 % 16 < 4)) ||
    (isUdp fr && udpPort fr == 319 && decide (fieldAt fr (udpAt fr + 8) 1 % 16 < 4))

/-- The delayAsymmetry of port p. -/
def State.asym (s : State) (p : Nat) : Int := i32 (s.rd (Reg.ETH_Pp_ASYM + 0x40 * p))

/-- ns on the wire of n bytes at a speed code of ETH_Pp_STATUS.SPEED. -/
def ethWireNs (speed n : Nat) : Nat :=
  match speed with
  | 0 => n * 800
  | 1 => n * 80
  | 2 => n * 8
  | _ => (n * 8 + 9) / 10

/-- The stamp of a frame of `n` bytes received whole: its first bit after the start-of-frame delimiter, before the frame and its
FCS, moved to the reference plane (R379, R380; DEDUCED, log entry 48). -/
def State.rxStamp (s : State) (p n : Nat) : Nat :=
  code 32 ((s.now : Int) - ethWireNs (s.fld (pf F.ETH_Pp_STATUS_SPEED p)) (n + 4) - s.fld (pf F.ETH_Pp_LAT_INGRESS_LAT p) - s.asym p)

/-- A transmit stamp at the reference plane (R380). -/
def State.txStamp (s : State) (p : Nat) : Nat :=
  code 64 ((s.now : Int) + s.fld (pf F.ETH_Pp_LAT_EGRESS_LAT p) - s.asym p)

/-- Does port p receive: its mode is not 0, its link is up and RX_EN is 1? -/
def State.rxRuns (s : State) (p : Nat) : Bool :=
  s.fld (pf F.ETH_Pp_CFG_MODE p) != 0 && s.on (pf F.ETH_Pp_STATUS_LINK p) && s.on (pf F.ETH_Pp_CFG_RX_EN p)

/-- Does port p transmit? -/
def State.txRuns (s : State) (p : Nat) : Bool :=
  s.fld (pf F.ETH_Pp_CFG_MODE p) != 0 && s.on (pf F.ETH_Pp_STATUS_LINK p) && s.on (pf F.ETH_Pp_CFG_TX_EN p)

/-- A pause frame: MAC control, type 0x8808, with opcode 0x0001 (PRESUMED from IEEE 802.3, log entry 48). -/
def isPause (fr : List Byte) : Bool := etherType fr == 0x8808 && fieldAt fr (l3At fr) 2 == 1

/-- Deliver an accepted frame to the receive ring, its bytes at BUF and the completion in the descriptor, or drop it on a full ring
(R366). -/
def State.deliver (s : State) (p : Nat) (fr : List Byte) (filter : Nat) : State :=
  let cons := s.fld (pf F.ETH_Pp_CONS_RX p)
  if cons = s.fld (pf F.ETH_Pp_PROD_RX p) then
    (s.bump (pf F.ETH_Pp_CNT_RX_OVR p) 1).raise1 166 sevWarn (srcEth p) p
  else
    let flags := b2n (ptpEvent fr) + 2 * b2n (decide (filter ≠ 0xFF)) + 4 * b2n (hasVlan fr)
    let ts := s.rxStamp p fr.length
    let a := s.fabWrite (leNat (s.fabRead (s.rxBase p) (16 * cons) 8)) 0 fr
    let b := a.fabWrite (s.rxBase p) (16 * cons + 8) (leBytes 2 fr.length ++ [BitVec.ofNat 8 flags, BitVec.ofNat 8 filter] ++ leBytes 4 ts)
    (b.modPort p fun e => { e with done := e.done ++ [.rx cons fr.length flags filter ts fr] }).put (pf F.ETH_Pp_CONS_RX p) (cons + 1)

/-- A frame arrives at port p (R362, R363, R366, R368). -/
def State.rxFrame (s : State) (p : Nat) (fr : List Byte) (fcsOk : Bool) : State :=
  if !s.rxRuns p then s
  else if 1518 < fr.length then s.bump (pf F.ETH_Pp_CNT_OVERSIZE p) 1
  else if !fcsOk then s.bump (pf F.ETH_Pp_CNT_FCS_ERR p) 1
  else if isPause fr then s
  else if !s.accepts p fr then s
  else match s.f450Hits p fr with
    | [] => s.deliver p fr 0xFF
    | k :: _ => if good450 fr then s.deliver p fr k else s.bump (pf F.ETH_Pp_CNT_BAD_450 p) 1

/-! ### Transmit and launch rings -/

/-- Write the completions of the entries that have ended, in ring order (R367): what is left, the completions, and how
many. -/
def drainEntries (ring : Nat) : List TxEntry → List TxEntry × List EthDone
  | [] => ([], [])
  | e :: t =>
    if e.status = .pending then (e :: t, [])
    else
      let r := drainEntries ring t
      (r.1, .tx ring e.index e.status :: r.2)

/-- Write the completions of port p's transmit ring in ring order, and advance its consumer index. -/
def State.drainTx (s : State) (p : Nat) : State :=
  let r := drainEntries 0 (s.port p).tx
  (forEach r.2 (fun d x => x.writeStatus p d) (s.modPort p fun e => { e with tx := r.1, done := e.done ++ r.2 })).put (pf F.ETH_Pp_CONS_TX p)
    (s.fld (pf F.ETH_Pp_CONS_TX p) + r.2.length)

/-- The same for launch ring 1. -/
def State.drainLq (s : State) (p : Nat) : State :=
  let r := drainEntries 1 (s.port p).lq
  (forEach r.2 (fun d x => x.writeStatus p d) (s.modPort p fun e => { e with lq := r.1, done := e.done ++ r.2 })).put (pf F.ETH_Pp_CONS_LQ p)
    (s.fld (pf F.ETH_Pp_CONS_LQ p) + r.2.length)

/-- LEN in range (R365, R367). -/
def txLenOk (d : TxDesc) : Bool := decide (60 ≤ d.len) && decide (d.len ≤ 1518)

/-- The descriptor with the LEN bytes that lie at BUF. -/
def txCut (d : TxDesc) : TxDesc := { d with frame := (d.frame ++ List.replicate d.len 0).take d.len }

/-- Entries taken from index `i` on, LEN out of range completing BAD. -/
def takeTx : Nat → List TxDesc → List TxEntry
  | _, [] => []
  | i, d :: t => ⟨i % 256, txCut d, false, false, if txLenOk d then .pending else .bad⟩ :: takeTx (i + 1) t

/-- STATUS of a launch descriptor when it is posted (R385). -/
def launchStatus (now last : Nat) (d : TxDesc) : TxStatus :=
  if !txLenOk d then .bad
  else if d.launch < now + 1000 then .late
  else if now + 1000000000 < d.launch then .bad
  else if d.launch < last then .bad
  else .pending

/-- Launch entries taken from index `i` on. -/
def takeLq (now : Nat) : Nat → Nat → List TxDesc → List TxEntry
  | _, _, [] => []
  | last, i, d :: t => ⟨i % 256, txCut d, false, false, launchStatus now last d⟩ :: takeLq now d.launch (i + 1) t

/-- May a producer index advance to `n`: it does not overtake the consumer (R364)? -/
def prodOk (cons old n : Nat) : Bool := decide ((old + 256 - cons) % 256 ≤ (n + 256 - cons) % 256)

/-- Advance the receive ring's producer index (R364). -/
def State.prodRx (s : State) (p n : Nat) : State :=
  if prodOk (s.fld (pf F.ETH_Pp_CONS_RX p)) (s.fld (pf F.ETH_Pp_PROD_RX p)) n then s.put (pf F.ETH_Pp_PROD_RX p) n
  else s

/-- Advance the transmit ring's producer index and take its entries (R364). -/
def State.prodTx (s : State) (p n : Nat) (ds : List TxDesc) : State :=
  let old := s.fld (pf F.ETH_Pp_PROD_TX p)
  if prodOk (s.fld (pf F.ETH_Pp_CONS_TX p)) old n then
    let new := takeTx old (ds.take ((n + 256 - old) % 256))
    (((s.storeDescs p 0 new).modPort p fun e => { e with tx := e.tx ++ new }).put (pf F.ETH_Pp_PROD_TX p) n).drainTx p
  else s

/-- Advance launch ring 1's producer index and take its entries (R364, R385). -/
def State.prodLq (s : State) (p n : Nat) (ds : List TxDesc) : State :=
  let old := s.fld (pf F.ETH_Pp_PROD_LQ p)
  if prodOk (s.fld (pf F.ETH_Pp_CONS_LQ p)) old n then
    let new := takeLq s.now (s.port p).lastLaunch.1 old (ds.take ((n + 256 - old) % 256))
    let a := ((s.storeDescs p 1 new).modPort p fun e => { e with
      lq := e.lq ++ new, lastLaunch := (match new.getLast? with | some x => x.desc.launch | none => e.lastLaunch.1, e.lastLaunch.2) }).put
      (pf F.ETH_Pp_PROD_LQ p) n
    (forEach new (fun x t => if x.status = .pending then t else t.raise1 163 sevWarn (srcEth p) p) a).drainLq p
  else s

/-- ETH_PROD (R364). -/
def execEthProd (_req : Req) (port : Fin 4) (rx tx lq : Fin 256) (txd lqd : List TxDesc) (s : State) :
    Host.Outcome State Fault Refusal :=
  s.gate 10 <| .next (((s.prodRx port.val rx.val).prodTx port.val tx.val txd).prodLq port.val lq.val lqd)

/-- Replace the bytes [a, a + length) of a frame. -/
def patch (fr : List Byte) (a : Nat) (bs : List Byte) : List Byte := fr.take a ++ bs ++ fr.drop (a + bs.length)

/-- Where the PTP message of a frame lies, none where it carries none. -/
def ptpAt (fr : List Byte) : Option Nat :=
  if etherType fr == 0x88F7 then some (l3At fr)
  else if isUdp fr && (udpPort fr == 319 || udpPort fr == 320) then some (udpAt fr + 8) else none

/-- One-step insertion (R381): the egress time into a Sync's originTimestamp, or t3 − T2 added to the correctionField of
a Pdelay_Resp; the UDP checksum becomes 0.  Any other frame goes out unchanged. -/
def oneStep (d : TxDesc) (stamp : Nat) : List Byte :=
  match d.oneStep, ptpAt d.frame with
  | true, some a =>
    let ty := fieldAt d.frame a 1 % 16
    let zero := fun fr => if isUdp fr then patch fr (udpAt fr + 6) [0, 0] else fr
    if ty = 0 then
      zero (patch d.frame (a + 34) (beBytes 6 (stamp / 1000000000) ++ beBytes 4 (stamp % 1000000000)))
    else if ty = 3 ∧ d.pdelay = true then
      let t := (stamp + 2 ^ 32 - d.t2 % 2 ^ 32) % 2 ^ 32
      zero (patch d.frame (a + 8) (beBytes 8 ((fieldAt d.frame (a + 8) 8 + t * 2 ^ 16) % 2 ^ 64)))
    else d.frame
  | _, _ => d.frame

/-- A frame with the FCS that the MAC appends (R362). -/
def withFcs (fr : List Byte) : List Byte := fr ++ leBytes 4 (ethFcs fr)

/-- Put a frame on the wire of port p: insertion, the transmit stamp where requested, and the time the wire is busy. -/
def State.sendFrame (s : State) (p : Nat) (d : TxDesc) : State :=
  let st := s.txStamp p
  let a := s.modPort p fun e => { e with
    wire := e.wire ++ [withFcs (oneStep d st)]
    busyUntil := s.now + ethWireNs (s.fld (pf F.ETH_Pp_STATUS_SPEED p)) (d.frame.length + 4) }
  if d.tsReq then a.pushStamp d.tsId p st else a

/-- When the timestamp point of a launch frame leaves port p, for it to leave the reference plane at LAUNCH_TIME (R380, R384). -/
def State.leaveAt (s : State) (p launch : Nat) : Nat := launch - s.fld (pf F.ETH_Pp_LAT_EGRESS_LAT p)

/-- May port p start an ordinary frame of `n` bytes: it ends before every committed launch leaves (R384)? -/
def State.mayStart (s : State) (p n : Nat) : Bool :=
  ((s.port p).lq0 ++ (s.port p).lq).all fun e =>
    !(decide (e.status = .pending) && e.committed) ||
      decide (s.now + ethWireNs (s.fld (pf F.ETH_Pp_STATUS_SPEED p)) (n + 4) < s.leaveAt p e.desc.launch)

/-- TRANSMIT_DONE (R367): the oldest pending frame of the transmit ring is sent as soon as the wire is free; one that would not end
before a committed launch waits for it (R384). -/
def State.txDone (u : State) (p : Nat) : State :=
  let s := u.runTo (u.port p).busyUntil
  match (u.port p).tx with
  | [] => u
  | e :: _ =>
    if !u.txRuns p then u
    else if s.mayStart p e.desc.frame.length then
      ((s.sendFrame p e.desc).modPort p fun q => { q with tx := modAt q.tx 0 fun x => { x with status := .sent } }).drainTx p
    else u

/-- TRANSMIT_DONE (R367). -/
def execTransmitDone (port : Fin 4) (s : State) : Host.Outcome State Fault Refusal :=
  s.gate 10 <| .next (s.txDone port.val)

/-- Commit the first entry that waits for its commit point (R384). -/
def commitFirst : List TxEntry → List TxEntry
  | [] => []
  | e :: t => if e.status = .pending ∧ e.committed = false then { e with committed := true } :: t else e :: commitFirst t

/-- LAUNCH_TIME of the first entry that waits for its commit point. -/
def nextCommit (es : List TxEntry) : Option Nat :=
  (es.find? fun e => decide (e.status = .pending) && !e.committed).map (·.desc.launch)

/-- LAUNCH_COMMIT (R384): device time reaches the commit point, and the frame is fetched into the port. -/
def State.launchCommit (s : State) (p ring : Nat) : State :=
  let es := if ring = 0 then (s.port p).lq0 else (s.port p).lq
  match nextCommit es with
  | none => s
  | some l =>
    if !s.txRuns p then s
    else (s.runTo (l - 1000)).modPort p fun q =>
      if ring = 0 then { q with lq0 := commitFirst q.lq0 } else { q with lq := commitFirst q.lq }

/-- LAUNCH_COMMIT (R384). -/
def execLaunchCommit (port : Fin 4) (ring : Fin 2) (s : State) : Host.Outcome State Fault Refusal :=
  s.gate 10 <| .next (s.launchCommit port.val ring.val)

/-- Mark the first committed pending entry. -/
def markFirst (st : TxStatus) : List TxEntry → List TxEntry
  | [] => []
  | e :: t => if e.status = .pending ∧ e.committed = true then { e with status := st } :: t else e :: markFirst st t

/-- The first committed frame of a launch ring. -/
def State.nextLaunch (s : State) (p ring : Nat) : Option TxEntry :=
  (if ring = 0 then (s.port p).lq0 else (s.port p).lq).find? fun e => decide (e.status = .pending) && e.committed

/-- The first pending frame of a launch ring, committed or not. -/
def State.nextPending (s : State) (p ring : Nat) : Option TxEntry :=
  (if ring = 0 then (s.port p).lq0 else (s.port p).lq).find? fun e => decide (e.status = .pending)

/-- The CK_TIME clock at which device time reaches `t`, counted from the counter's present tick by its increment (R370). -/
def State.clockAt (s : State) (t : Nat) : Int :=
  -(((s.tb.now.units : Int) - t * nsUnits) / (if s.tb.incrEff = 0 then 1 else s.tb.incrEff : Nat))

/-- Is the commit point of frame `o`, 1 µs before its LAUNCH_TIME, in an earlier clock of CK_TIME than that of `e`, or in the same one
with `o` on ring 0 (R384, R386)? -/
def State.commitsFirst (s : State) (o e : TxEntry) (ro : Nat) : Bool :=
  let co := s.clockAt (o.desc.launch - 1000)
  let ce := s.clockAt (e.desc.launch - 1000)
  decide (co < ce) || (co == ce && ro == 0)

/-- The first committed frame of the ring leaves the reference plane at LAUNCH_TIME, or as soon as the port is free after a frame it
collides with; then it completes SENT_DELAYED (R384, R386). -/
def State.departOne (s : State) (p ring : Nat) : State :=
  match s.nextLaunch p ring with
  | none => s
  | some e =>
    if !s.txRuns p then s else
    let l := s.leaveAt p e.desc.launch
    let t := Nat.max l (s.port p).busyUntil
    let late := decide (l < (s.port p).busyUntil)
    let a := ((s.runTo t).sendFrame p e.desc)
    let b := a.raiseIf late 163 sevWarn (srcEth p) p
    if ring = 0 then b.modPort p fun q => { q with lq0 := (markFirst .sent q.lq0).filter fun x => decide (x.status = .pending) }
    else (b.modPort p fun q => { q with lq := markFirst (if late then .sentDelayed else .sent) q.lq }).drainLq p

/-- The frames of launch ring `ro` whose commit point comes before that of `e`, a frame of the other ring, go out first, `n` of them at
most (R386). -/
def State.departBefore (p ro : Nat) (e : TxEntry) : Nat → State → State
  | 0, s => s
  | n + 1, s =>
    match s.nextPending p ro with
    | none => s
    | some o =>
      if s.commitsFirst o e ro then
        State.departBefore p ro e n ((if o.committed then s else s.launchCommit p ro).departOne p ro)
      else s

/-- LAUNCH_DEPART (R384, R386): the frames of the other ring whose commit point came first have gone before. -/
def State.launchDepart (s : State) (p ring : Nat) : State :=
  match s.nextLaunch p ring with
  | none => s
  | some e =>
    (State.departBefore p (1 - ring) e ((s.port p).lq0.length + (s.port p).lq.length) s).departOne p ring

/-- LAUNCH_DEPART (R384). -/
def execLaunchDepart (port : Fin 4) (ring : Fin 2) (s : State) : Host.Outcome State Fault Refusal :=
  s.gate 10 <| .next (s.launchDepart port.val ring.val)

/-- RESULT of a cancel at device time `now` (R387): 1 CANCELLED, 2 TOO_LATE from the commit point on, 3 NOT_FOUND. -/
def cancelResult (now : Nat) (e : EthPort) (idx : Nat) : Nat :=
  match e.lq.find? (fun x => x.index == idx) with
  | some x =>
    if x.status = .pending then (if x.committed ∨ x.desc.launch ≤ now + 1000 then 2 else 1)
    else if x.status = .sent ∨ x.status = .sentDelayed then 2 else 3
  | none =>
    match (e.done.reverse.find? fun d => match d with | .tx 1 i _ => i == idx | _ => false) with
    | some (.tx _ _ st) => if st = .sent ∨ st = .sentDelayed then 2 else 3
    | _ => 3

/-- Cancel a descriptor of launch ring 1 (R387). -/
def State.lqCancel (s : State) (p idx : Nat) : State :=
  let r := cancelResult s.now (s.port p) idx
  let a := (((s.put F.ETH_LQ_CANCEL_PORT p).put F.ETH_LQ_CANCEL_INDEX idx).put F.ETH_LQ_CANCEL_RESULT r).setTo
    F.ETH_LQ_CANCEL_GO false
  if r = 1 then
    (a.modPort p fun q => { q with
      lq := q.lq.map fun x => if x.index = idx then { x with status := .cancelled } else x }).drainLq p
  else a

/-- ETH_LQ_CANCEL (R387). -/
def execEthLqCancel (_req : Req) (port : Fin 4) (index : Fin 256) (s : State) : Host.Outcome State Fault Refusal :=
  s.gate 10 <| .next (s.lqCancel port.val index.val)

/-- A pending entry completes ABORTED. -/
def TxEntry.abort (e : TxEntry) : TxEntry := if e.status = .pending then { e with status := .aborted } else e

/-- Abort the pending descriptors of port p's transmit and launch rings, in ring order (R367). -/
def State.abortTx (s : State) (p : Nat) : State :=
  ((s.modPort p fun q => { q with tx := q.tx.map (·.abort), lq := q.lq.map (·.abort), lq0 := [] }).drainTx p).drainLq p

/-- Abort the pending descriptors of port p's receive ring, in ring order (R367). -/
def State.abortRx (s : State) (p : Nat) : State :=
  let c := s.fld (pf F.ETH_Pp_CONS_RX p)
  let n := (s.fld (pf F.ETH_Pp_PROD_RX p) + 256 - c) % 256
  (s.modPort p fun q => { q with done := q.done ++ (List.range n).map fun i => .rxAborted ((c + i) % 256) }).put
    (pf F.ETH_Pp_CONS_RX p) (c + n)

/-- The SPEED that a port's mode gives: 10 Gbit/s or 1 Gbit/s, and in MODE 3 what the PHY's control word says, of the three rates that
MODE has (R361). -/
def State.linkSpeed (s : State) (p speed : Nat) : Nat :=
  match s.fld (pf F.ETH_Pp_CFG_MODE p) with
  | 1 => 3
  | 2 => 2
  | _ => Nat.min speed 2

/-- ETH_LINK_CHANGE (R388, R367). -/
def State.ethLink (s : State) (p : Nat) (up : Bool) (speed : Nat) : State :=
  let a := ((s.setTo (pf F.ETH_Pp_STATUS_LINK p) up).setTo (pf F.ETH_Pp_STATUS_LINK_CHG p) true)
  let b := if up then a.put (pf F.ETH_Pp_STATUS_SPEED p) (s.linkSpeed p speed) else (a.abortTx p).abortRx p
  b.raise1 160 sevWarn (srcEth p) p

/-- ETH_LINK_CHANGE (R388): a change to the state the link already has is none, and a port of mode 0 is off (R361). -/
def execEthLinkChange (port : Fin 4) (up : Bool) (speed : Fin 4) (s : State) : Host.Outcome State Fault Refusal :=
  s.gate 10 <| .next (if s.on (pf F.ETH_Pp_STATUS_LINK port.val) = up ∨ s.fld (pf F.ETH_Pp_CFG_MODE port.val) = 0 then s else s.ethLink port.val up speed.val)

/-- A write of TX_EN and RX_EN; a falling enable aborts the pending descriptors (R367). -/
def State.portEnable (s : State) (p : Nat) (tx rx : Bool) : State :=
  let a := (s.setTo (pf F.ETH_Pp_CFG_TX_EN p) tx).setTo (pf F.ETH_Pp_CFG_RX_EN p) rx
  let b := if s.on (pf F.ETH_Pp_CFG_TX_EN p) && !tx then a.abortTx p else a
  if s.on (pf F.ETH_Pp_CFG_RX_EN p) && !rx then b.abortRx p else b

/-- ETH_PORT_ENABLE (R367). -/
def execEthPortEnable (_req : Req) (port : Fin 4) (txEn rxEn : Bool) (s : State) : Host.Outcome State Fault Refusal :=
  s.gate 10 <| .next (s.portEnable port.val txEn rxEn)

/-- Post a mirror record on launch ring 0 of port p for a launch instant (R304); one more than 1 s ahead, or earlier than the one before
it, is refused with EV163 (R385, R388), and R385's LATE is not for it (log entry 45); a port that does not transmit drops it (R388). -/
def State.postLaunch0 (s : State) (p : Nat) (frame : List Byte) (launch : Nat) : State :=
  if !s.txRuns p then s
  else
    let d : TxDesc := ⟨0, frame, frame.length, false, false, false, 0, launch, 0, 0⟩
    let bad := decide (s.now + 1000000000 < launch ∨ launch < (s.port p).lastLaunch.2)
    let a := s.modPort p fun q => { q with
      lq0 := if bad then q.lq0 else q.lq0 ++ [⟨0, d, false, false, .pending⟩]
      lastLaunch := (q.lastLaunch.1, launch) }
    a.raiseIf bad 163 sevWarn (srcEth p) p

/-- The frames of one record with their launch instants: the first at `t`, each later one when the frame before it has ended (R304,
DEDUCED, log entry 45). -/
def launchSlots (speed : Nat) : Nat → List (List Byte) → List (List Byte × Nat)
  | _, [] => []
  | t, f :: fs => (f, t) :: launchSlots speed (t + ethWireNs speed (f.length + 4)) fs

end Sys2Proof.Machine
end

