-- ==== Sys2Proof/Machine/Crypto.lean ====
section
/-! DEFINITION. The digest and the signature check that R507 and R508 name: SHA-384 (FIPS 180-4) and ECDSA on P-384 (FIPS 186-4,
SEC 2).  The spec names the algorithms; their constants and steps are PRESUMED from those standards (log entry 10). -/

namespace Sys2Proof.Machine

/-! ### SHA-384 -/

/-- Round constants 0 to 19 of SHA-384. -/
def shaK0 : List (BitVec 64) :=
  [0x428A2F98D728AE22, 0x7137449123EF65CD, 0xB5C0FBCFEC4D3B2F, 0xE9B5DBA58189DBBC,
   0x3956C25BF348B538, 0x59F111F1B605D019, 0x923F82A4AF194F9B, 0xAB1C5ED5DA6D8118,
   0xD807AA98A3030242, 0x12835B0145706FBE, 0x243185BE4EE4B28C, 0x550C7DC3D5FFB4E2,
   0x72BE5D74F27B896F, 0x80DEB1FE3B1696B1, 0x9BDC06A725C71235, 0xC19BF174CF692694,
   0xE49B69C19EF14AD2, 0xEFBE4786384F25E3, 0x0FC19DC68B8CD5B5, 0x240CA1CC77AC9C65]

/-- Round constants 20 to 39 of SHA-384. -/
def shaK1 : List (BitVec 64) :=
  [0x2DE92C6F592B0275, 0x4A7484AA6EA6E483, 0x5CB0A9DCBD41FBD4, 0x76F988DA831153B5,
   0x983E5152EE66DFAB, 0xA831C66D2DB43210, 0xB00327C898FB213F, 0xBF597FC7BEEF0EE4,
   0xC6E00BF33DA88FC2, 0xD5A79147930AA725, 0x06CA6351E003826F, 0x142929670A0E6E70,
   0x27B70A8546D22FFC, 0x2E1B21385C26C926, 0x4D2C6DFC5AC42AED, 0x53380D139D95B3DF,
   0x650A73548BAF63DE, 0x766A0ABB3C77B2A8, 0x81C2C92E47EDAEE6, 0x92722C851482353B]

/-- Round constants 40 to 59 of SHA-384. -/
def shaK2 : List (BitVec 64) :=
  [0xA2BFE8A14CF10364, 0xA81A664BBC423001, 0xC24B8B70D0F89791, 0xC76C51A30654BE30,
   0xD192E819D6EF5218, 0xD69906245565A910, 0xF40E35855771202A, 0x106AA07032BBD1B8,
   0x19A4C116B8D2D0C8, 0x1E376C085141AB53, 0x2748774CDF8EEB99, 0x34B0BCB5E19B48A8,
   0x391C0CB3C5C95A63, 0x4ED8AA4AE3418ACB, 0x5B9CCA4F7763E373, 0x682E6FF3D6B2B8A3,
   0x748F82EE5DEFB2FC, 0x78A5636F43172F60, 0x84C87814A1F0AB72, 0x8CC702081A6439EC]

/-- Round constants 60 to 79 of SHA-384. -/
def shaK3 : List (BitVec 64) :=
  [0x90BEFFFA23631E28, 0xA4506CEBDE82BDE9, 0xBEF9A3F7B2C67915, 0xC67178F2E372532B,
   0xCA273ECEEA26619C, 0xD186B8C721C0C207, 0xEADA7DD6CDE0EB1E, 0xF57D4F7FEE6ED178,
   0x06F067AA72176FBA, 0x0A637DC5A2C898A6, 0x113F9804BEF90DAE, 0x1B710B35131C471B,
   0x28DB77F523047D84, 0x32CAAB7B40C72493, 0x3C9EBE0A15C9BEBC, 0x431D67C49C100D4C,
   0x4CC5D4BECB3E42B6, 0x597F299CFC657E2A, 0x5FCB6FAB3AD6FAEC, 0x6C44198C4A475817]

/-- The 80 round constants. -/
def shaK : List (BitVec 64) := shaK0 ++ shaK1 ++ shaK2 ++ shaK3

/-- The eight working words. -/
structure Sha where
  /-- Word a. -/
  a : BitVec 64
  /-- Word b. -/
  b : BitVec 64
  /-- Word c. -/
  c : BitVec 64
  /-- Word d. -/
  d : BitVec 64
  /-- Word e. -/
  e : BitVec 64
  /-- Word f. -/
  f : BitVec 64
  /-- Word g. -/
  g : BitVec 64
  /-- Word h. -/
  h : BitVec 64
  deriving DecidableEq, Repr

/-- The initial hash value of SHA-384. -/
def Sha.init : Sha :=
  ⟨0xCBBB9D5DC1059ED8, 0x629A292A367CD507, 0x9159015A3070DD17, 0x152FECD8F70E5939,
   0x67332667FFC00B31, 0x8EB44A8768581511, 0xDB0C2E0D64F98FA7, 0x47B5481DBEFA4FA4⟩

/-- The message schedule's next `n` words, newest first. -/
def shaExpand : Nat → List (BitVec 64) → List (BitVec 64)
  | 0, ws => ws
  | n + 1, ws =>
    let w (i : Nat) : BitVec 64 := ws.getD i 0
    let s0 := (w 14).rotateRight 1 ^^^ (w 14).rotateRight 8 ^^^ (w 14 >>> 7)
    let s1 := (w 1).rotateRight 19 ^^^ (w 1).rotateRight 61 ^^^ (w 1 >>> 6)
    shaExpand n ((s1 + w 6 + s0 + w 15) :: ws)

/-- One round, with its constant and its word of the schedule. -/
def Sha.round (s : Sha) (kw : BitVec 64 × BitVec 64) : Sha :=
  let s1 := s.e.rotateRight 14 ^^^ s.e.rotateRight 18 ^^^ s.e.rotateRight 41
  let t1 := s.h + s1 + ((s.e &&& s.f) ^^^ (~~~s.e &&& s.g)) + kw.1 + kw.2
  let s0 := s.a.rotateRight 28 ^^^ s.a.rotateRight 34 ^^^ s.a.rotateRight 39
  let t2 := s0 + ((s.a &&& s.b) ^^^ (s.a &&& s.c) ^^^ (s.b &&& s.c))
  ⟨t1 + t2, s.a, s.b, s.c, s.d + t1, s.e, s.f, s.g⟩

/-- One block of 128 bytes. -/
def Sha.block (s : Sha) (bs : List Byte) : Sha :=
  let ws := (List.range 16).map fun i => BitVec.ofNat 64 (beNat ((bs.drop (8 * i)).take 8))
  let r := (shaK.zip (shaExpand 64 ws.reverse).reverse).foldl Sha.round s
  ⟨s.a + r.a, s.b + r.b, s.c + r.c, s.d + r.d, s.e + r.e, s.f + r.f, s.g + r.g, s.h + r.h⟩

/-- The SHA-384 digest of bytes (R507, R508). -/
def sha384 (m : List Byte) : List Byte :=
  let p := m ++ [0x80] ++ List.replicate ((239 - m.length % 128) % 128) 0 ++ beBytes 16 (8 * m.length)
  let r := (List.range (p.length / 128)).foldl (fun s i => s.block ((p.drop (128 * i)).take 128)) Sha.init
  [r.a, r.b, r.c, r.d, r.e, r.f].flatMap fun w => beBytes 8 w.toNat

/-! ### ECDSA on P-384 -/

/-- The prime of the field. -/
def p384 : Nat := 2 ^ 384 - 2 ^ 128 - 2 ^ 96 + 2 ^ 32 - 1

/-- The order of the base point. -/
def n384 : Nat := 0xFFFFFFFFFFFFFFFFFFFFFFFFFFFFFFFFFFFFFFFFFFFFFFFFC7634D81F4372DDF581A0DB248B0A77AECEC196ACCC52973

/-- The curve's b; its a is −3. -/
def b384 : Nat := 0xB3312FA7E23EE7E4988E056BE3F82D19181D9C6EFE8141120314088F5013875AC656398D8A2ED19D2A85C8EDD3EC2AEF

/-- A point in Jacobian coordinates; z = 0 is the point at infinity. -/
structure EcPoint where
  /-- X. -/
  x : Nat
  /-- Y. -/
  y : Nat
  /-- Z. -/
  z : Nat
  deriving DecidableEq, Repr

/-- The base point. -/
def g384 : EcPoint :=
  ⟨0xAA87CA22BE8B05378EB1C71EF320AD746E1D3B628BA79B9859F741E082542A385502F25DBF55296C3A545E3872760AB7,
   0x3617DE4A96262C6F5D9E98BF9292DC29F8F41DBD289A147CE9DA3113B5F0B8C00A60B1CE1D7E819D7A431D7C90EA0E5F, 1⟩

/-- Subtraction in the field. -/
def subP (a b : Nat) : Nat := (a + (p384 - b % p384)) % p384

/-- Twice a point. -/
def EcPoint.double (q : EcPoint) : EcPoint :=
  let yy := q.y * q.y % p384
  let s := 4 * q.x * yy % p384
  let zz := q.z * q.z % p384
  let m := 3 * subP q.x zz * (q.x + zz) % p384
  let x := subP (m * m) (2 * s)
  ⟨x, subP (m * subP s x) (8 * yy * yy), 2 * q.y * q.z % p384⟩

/-- The sum of two points. -/
def EcPoint.add (a b : EcPoint) : EcPoint :=
  if a.z = 0 then b
  else if b.z = 0 then a
  else
    let za := a.z * a.z % p384
    let zb := b.z * b.z % p384
    let u1 := a.x * zb % p384
    let u2 := b.x * za % p384
    let s1 := a.y * zb * b.z % p384
    let s2 := b.y * za * a.z % p384
    if u1 = u2 then (if s1 = s2 then a.double else ⟨1, 1, 0⟩)
    else
      let h := subP u2 u1
      let r := subP s2 s1
      let hh := h * h % p384
      let v := u1 * hh % p384
      let x := subP (r * r) (h * hh + 2 * v)
      ⟨x, subP (r * subP v x) (s1 * h * hh), h * a.z * b.z % p384⟩

/-- A multiple of a point, by the bits of the number from the highest down. -/
def EcPoint.mul (q : EcPoint) (k : Nat) : EcPoint :=
  (List.range 384).foldl (fun a i => let d := a.double; if k.testBit (383 - i) then d.add q else d) ⟨1, 1, 0⟩

/-- The inverse modulo a prime of at most 384 bits, as the power m − 2. -/
def invMod (m a : Nat) : Nat :=
  (List.range 384).foldl (fun r i => let q := r * r % m; if (m - 2).testBit (383 - i) then q * a % m else q) 1

/-- A public key: an uncompressed point of the curve at the start of its entry (R506). -/
def ecKey (key : List Byte) : Option EcPoint :=
  let x := beNat ((key.drop 1).take 48)
  let y := beNat ((key.drop 49).take 48)
  if leNat (key.take 1) = 4 ∧ x < p384 ∧ y < p384 ∧ y * y % p384 = subP (x * x * x + b384) (3 * x) then some ⟨x, y, 1⟩ else none

/-- The ECDSA check: does R followed by S sign the digest under the key (R507)? -/
def ecdsaOk (key digest rs : List Byte) : Bool :=
  let r := beNat (rs.take 48)
  let s := beNat ((rs.drop 48).take 48)
  match ecKey key with
  | none => false
  | some q =>
    if r = 0 ∨ n384 ≤ r ∨ s = 0 ∨ n384 ≤ s then false
    else
      let w := invMod n384 s
      let t := (g384.mul (beNat digest * w % n384)).add (q.mul (r * w % n384))
      t.z != 0 && t.x * invMod p384 (t.z * t.z % p384) % p384 % n384 == r

end Sys2Proof.Machine
end

