-- ==== Sys2Proof/Machine/Sign.lean ====
section
/-! DEFINITION. The flash directory and signatures (R504 to R509, R521). -/

namespace Sys2Proof.Machine

/-- Change boot's state. -/
def State.modBoot (s : State) (f : Boot → Boot) : State := { s with boot := f s.boot }

/-- Source unit number of boot (R489). -/
def srcBoot : Nat := 0x01

/-- Read bytes of the flash. -/
def State.flashBytes (s : State) (a n : Nat) : List Byte := readBytes flashByte s.mem.flash a n

/-- Are `n` bytes from a flash offset inside the flash (R504)? -/
def State.inFlash (s : State) (a n : Nat) : Bool := decide (a + n ≤ s.mem.flashSize)

/-- A directory copy: its header and entries, if valid (R505). -/
def State.dirAt (s : State) (a : Nat) : Option (List (List Byte)) :=
  let h := s.flashBytes a 32
  let n := fieldLe h 6 1
  let es := s.flashBytes (a + 32) (32 * n)
  if fieldLe h 0 4 = 0x52445848 ∧ fieldLe h 4 2 = 1 ∧ 1 ≤ n ∧ n ≤ 32 ∧ (h.drop 7).take 21 = List.replicate 21 0 ∧
      fieldLe h 28 4 = crc32cFrom (crc32c (h.take 28)) es then
    some ((List.range n).map fun i => (es.drop (32 * i)).take 32)
  else none

/-- The directory in use: copy 0 if valid, copy 1 otherwise; with the copy's number. -/
def State.directory (s : State) : Option (List (List Byte) × Nat) :=
  match s.dirAt 0 with
  | some d => some (d, 0)
  | none => (s.dirAt 0x10000).map fun d => (d, 1)

/-- The entry of a type. -/
def dirEntry (d : List (List Byte)) (ty : Nat) : Option (List Byte) := d.find? fun e => fieldLe e 0 1 == ty

/-- The slots of an entry in the order they are tried: the offset of each, none where there is no slot, and whether it is
slot B (R505, R509). -/
def slotsOf (e : List Byte) : List (Option Nat × Bool) :=
  let o (i : Nat) : Option Nat := if fieldLe e i 4 = 0xFFFFFFFF then none else some (fieldLe e i 4)
  if bitAt (fieldLe e 1 1) 0 then [(o 8, true), (o 4, false)] else [(o 4, false), (o 8, true)]

/-- The life-cycle state of a device start: 0 BLANK to 4 DECOMMISSIONED (R520). -/
def lcOf (fuses : Nat) : Nat :=
  if bitAt fuses 3 then 4 else if bitAt fuses 2 then 3 else if bitAt fuses 1 then 2 else if bitAt fuses 0 then 1 else 0

/-- Are signatures enforced (R521)? -/
def State.sigEnforced (s : State) : Bool := s.lc != 0

/-- The key-store entry of a user slot, 128 bytes (R506). -/
def State.userKey (s : State) (k : Nat) : List Byte :=
  match s.directory with
  | some d => match dirEntry d.1 6 with
    | some e => s.flashBytes (fieldLe e 4 4 + 128 * k) 128
    | none => []
  | none => []

/-- Is a user key accepted (R508)? -/
def State.keyOk (s : State) (k : Nat) : Bool :=
  decide (k < 4) && bitAt s.boot.fuses.present k && !bitAt s.boot.fuses.revoked k &&
    decide (sha384 (s.userKey k) = s.boot.fuses.digests.getD k [])

/-- Does a signature block verify over bytes, for an image of a type, in the life-cycle state in force (R507, R508)? -/
def State.sigOk (s : State) (ty : Nat) (bytes block : List Byte) : Bool :=
  let slot := fieldLe block 4 1
  let dg := sha384 bytes
  let rs := (block.drop 16).take 96
  block.length == 112 && fieldLe block 0 4 == 0x50474953 && fieldLe block 5 1 == ty &&
    (if slot = 0xF then s.lc == 3 && ecdsaOk Config.vendorKey dg rs
     else (s.lc == 1 || s.lc == 2 || s.lc == 0) && s.keyOk slot && ecdsaOk (s.userKey slot) dg rs)

/-- May an image be used: its signature verifies, or signatures are not enforced (R509, R521)? -/
def State.sigPass (s : State) (ty : Nat) (bytes block : List Byte) : Bool := !s.sigEnforced || s.sigOk ty bytes block

end Sys2Proof.Machine
end

