-- ==== Sys2Proof/Machine/Program.lean ====
section
/-! DEFINITION. The function-block image, the retained copies in Meridian, the load checks and the migration of an online
change (R62 to R73, R90 to R93, R97 to R103). -/

namespace Sys2Proof.Machine

/-- Change the Clock Drive. -/
def State.modCdr (s : State) (f : ClockDrive → ClockDrive) : State := { s with cdr := f s.cdr }

/-- Source unit number of the Clock Drive (R489). -/
def srcCdr : Nat := 0x20

/-- The active half (R70). -/
def State.half (s : State) : Half := if s.on F.CDR_STATUS_ACTIVE_HALF then s.cdr.half1 else s.cdr.half0

/-- The inactive half. -/
def State.spare (s : State) : Half := if s.on F.CDR_STATUS_ACTIVE_HALF then s.cdr.half0 else s.cdr.half1

/-- Put the active half. -/
def State.setHalf (s : State) (h : Half) : State :=
  if s.on F.CDR_STATUS_ACTIVE_HALF then s.modCdr fun c => { c with half1 := h } else s.modCdr fun c => { c with half0 := h }

/-- Put the inactive half. -/
def State.setSpare (s : State) (h : Half) : State :=
  if s.on F.CDR_STATUS_ACTIVE_HALF then s.modCdr fun c => { c with half0 := h } else s.modCdr fun c => { c with half1 := h }

/-- Instance data of a core in a half. -/
def Half.data (h : Half) (core : Nat) : List Host.Cell := if core = 0 then h.data0 else h.data1

/-- The half with new instance data of a core. -/
def Half.withData (h : Half) (core : Nat) (d : List Host.Cell) : Half :=
  if core = 0 then { h with data0 := d } else { h with data1 := d }

/-! ### The image (R62 to R69) -/

/-- Bytes of the header. -/
def imgHdr : Nat := 128
/-- IMAGE_LEN. -/
def iLen (img : List Byte) : Nat := fieldLe img 8 4
/-- PROGRAM_ID. -/
def iProg (img : List Byte) : Nat := fieldLe img 12 4
/-- VERSION. -/
def iVer (img : List Byte) : Nat := fieldLe img 16 4
/-- PARENT_VERSION. -/
def iParent (img : List Byte) : Nat := fieldLe img 20 4
/-- DATA_SIZE of a core. -/
def iData (img : List Byte) (core : Nat) : Nat := fieldLe img (56 + 4 * core) 4
/-- SIG_EXPECT. -/
def iSig (img : List Byte) : Nat := fieldLe img 96 4
/-- INIT_BUDGET of the initialisation entries, µs. -/
def iInitBudget (img : List Byte) : Nat := fieldLe img 100 4
/-- The core address of a code offset: the active code half appears at 0x1000_0000 (R70). -/
def codeAt (offset : Nat) : Nat := 0x10000000 + offset
/-- The core address of an entry of the header (R62). -/
def iEntry (img : List Byte) (field : Nat) : Nat := codeAt (fieldLe img field 4)
/-- FAST_WCET, µs. -/
def iWcet (img : List Byte) : Nat := fieldLe img 104 4

/-- `n` table entries of 16 bytes from an offset. -/
def rows16 (img : List Byte) (off n : Nat) : List (List Byte) := (List.range n).map fun i => (img.drop (off + 16 * i)).take 16

/-- The code sections (R64). -/
def iSections (img : List Byte) : List (List Byte) := rows16 img (fieldLe img 32 4) (fieldLe img 26 2)
/-- The block types (R65). -/
def iTypes (img : List Byte) : List (List Byte) := rows16 img (fieldLe img 36 4) (fieldLe img 24 2)
/-- The instances (R66). -/
def iInsts (img : List Byte) : List (List Byte) := rows16 img (fieldLe img 40 4) (fieldLe img 28 4)
/-- The migration entries (R69). -/
def iMigr (img : List Byte) : List (List Byte) :=
  if fieldLe img 48 4 = 0 then [] else rows16 img (fieldLe img 48 4) (fieldLe img 52 4)

/-- The instance of an INST_ID. -/
def instOf (img : List Byte) (id : Nat) : Option (List Byte) := (iInsts img).find? fun e => fieldLe e 0 2 == id

/-- The type of an instance. -/
def typeOf (img inst : List Byte) : List Byte := ((iTypes img)[fieldLe inst 2 2]?).getD []

/-- DATA_OFFSET of an instance. -/
def instOff (inst : List Byte) : Nat := fieldLe inst 8 4
/-- DATA_SIZE of an instance. -/
def instSize (inst : List Byte) : Nat := fieldLe inst 12 4
/-- CORE of an instance. -/
def instCore (inst : List Byte) : Nat := fieldLe inst 4 1

/-- The retained granules in retain-map order, core 0 first: core and granule (R67). -/
def iRetained (img : List Byte) : List (Nat × Nat) :=
  let g (core base : Nat) : List (Nat × Nat) :=
    ((List.range (iData img core / 8)).filter fun i => bitAt (fieldLe img (base + i / 8) 1) (i % 8)).map fun i => (core, i)
  let b := fieldLe img 44 4
  g 0 b ++ g 1 (b + iData img 0 / 64)

/-- The sections of a core whose KIND meets a test: load offset and bytes. -/
def iLoads (img : List Byte) (core : Nat) (kind : Nat → Bool) : List (Nat × List Byte) :=
  ((iSections img).filter fun e => fieldLe e 0 1 == core && kind (fieldLe e 1 1)).map fun e =>
    (fieldLe e 4 4, (img.drop (fieldLe e 12 4)).take (fieldLe e 8 4))

/-- The kind-2 sections of a core. -/
def iInitial (img : List Byte) (core : Nat) : List (Nat × List Byte) := iLoads img core (· == 2)

/-- A memory with the bytes of sections at their load offsets. -/
def loadAll (ps : List (Nat × List Byte)) : List Host.Cell := ps.foldl (fun m p => writeBytes ramByte m p.1 p.2) []

/-- The code half of a core, by offset: the sections of kinds 0 and 1 of the image it was loaded from (R64, R70). -/
def Half.code (h : Half) (core : Nat) : List Host.Cell := loadAll (iLoads h.image core (· < 2))

/-! ### Retained copies (R90, R91) -/

/-- The retained copy of the cycle: header and granules (R90). -/
def State.retainedCopy (s : State) : List Byte :=
  let h := s.half
  let gs := (iRetained h.image).flatMap fun g => readBytes ramByte (h.data g.1) (8 * g.2) 8
  let hd := leBytes 4 (iProg h.image) ++ leBytes 4 (iVer h.image) ++ leBytes 8 s.cdr.cyc ++ leBytes 8 s.cdr.pt ++
    leBytes 2 gs.length ++ leBytes 2 0
  hd ++ leBytes 4 (crc32cFrom (crc32c hd) gs) ++ gs

/-- Offset of a copy in Meridian retained SRAM. -/
def copyOff (b : Bool) : Nat := if b then 0x1820 else 0

/-- The copy of a cycle whose POST staged in time goes to Meridian, the two copies in turn, that at 0x0000 first after a device start
(DESIGN CHOICE, log entry 28); a lockout that follows cuts it short, and of one begun under lockout the words due after the release are
written (R90, R396). -/
def State.copyRetained (s : State) : State :=
  if s.cdr.stagedCyc != some s.cdr.cyc || s.fld F.CDR_STATUS_STATE != 3 then s
  else
    let off := copyOff s.cdr.copyB
    let bs := s.retainedCopy
    (s.retPut off bs).modCdr fun c => { c with copyB := !c.copyB, copyRun := some ⟨s.now, off, readBytes ramByte s.mem.retained off bs.length, bs, s.mer.lockout⟩ }

/-- The bytes of a Meridian copy with a correct CRC. -/
def State.merCopy (s : State) (b : Bool) : Option (List Byte) :=
  let h := s.retRead (copyOff b) 32
  let gs := s.retRead (copyOff b + 32) (Nat.min 6144 (fieldLe h 24 2))
  if fieldLe h 28 4 = crc32cFrom (crc32c (h.take 28)) gs ∧ fieldLe h 24 2 ≤ 6144 then some (h ++ gs) else none

/-- The valid copy of higher CYC. -/
def State.newestCopy (s : State) : Option (List Byte) :=
  match s.merCopy false, s.merCopy true with
  | some a, some b => some (if fieldLe a 8 8 < fieldLe b 8 8 then b else a)
  | some a, none => some a
  | none, b => b

/-- Why a warm restart is denied (R91): 0 where it is allowed. -/
def State.warmDeny (s : State) (img : List Byte) : Nat :=
  if s.lostRead then 1
  else match s.newestCopy with
    | none => 2
    | some c => if fieldLe c 0 4 = iProg img ∧ fieldLe c 4 4 = iVer img then 0 else 3

/-- Both Meridian copies become invalid (R92): every byte of their headers is written 0xFF, which no CRC matches (DESIGN CHOICE, log
entry 28). -/
def State.dropCopies (s : State) : State :=
  let z := List.replicate 32 (0xFF : Byte)
  (s.retPut 0 z).retPut 0x1820 z

/-- Restore granules from a copy's data, in retain-map order. -/
def putGranules (h : Half) (bytes : List Byte) : Half :=
  ((iRetained h.image).zipIdx).foldl (fun h g =>
    h.withData g.1.1 (writeBytes ramByte (h.data g.1.1) (8 * g.1.2) ((bytes.drop (8 * g.2)).take 8))) h

/-- The data halves of a cold start: zero, then the kind-2 sections (R92). -/
def coldData (h : Half) : Half :=
  { h with data0 := loadAll (iInitial h.image 0), data1 := loadAll (iInitial h.image 1) }

/-! ### Load checks (R57, R68, R97, R100) -/

/-- FAST_BUDGET in µs. -/
def State.fastBudget (s : State) : Nat := s.fld F.CDR_BUDGET_FAST_BUDGET * 10

/-- The window's length in ns as the prediction takes it: FAST runs for the full FAST_BUDGET (R99, R100). -/
def State.windowLen (s : State) : Nat :=
  let sw := s.ofs F.CDR_OFS_C_SWITCH
  let tick := sw / s.fastNs * s.fastNs
  let open_ := Nat.max sw (tick + s.fastBudget * 1000)
  Nat.min (Nat.min 200000 (tick + s.fastNs - open_)) (s.tbase - open_)

/-- ACTION of a migration entry. -/
def mAct (e : List Byte) : Nat := fieldLe e 4 1
/-- NEW_ID. -/
def mNew (e : List Byte) : Nat := fieldLe e 0 2
/-- OLD_ID. -/
def mOld (e : List Byte) : Nat := fieldLe e 2 2

/-- The kind-2 bytes that fall into an instance: offset and byte. -/
def instInit (img inst : List Byte) : List (Nat × Byte) :=
  (iInitial img (instCore inst)).flatMap fun p =>
    ((p.2.zipIdx).map fun b => (p.1 + b.2, b.1)).filter fun q => decide (instOff inst ≤ q.1 ∧ q.1 < instOff inst + instSize inst)

/-- Bytes a core copies for a migration entry. -/
def mBytes (old new e : List Byte) : Nat :=
  let o := ((instOf old (mOld e)).map instSize).getD 0
  let n := ((instOf new (mNew e)).map instSize).getD 0
  match mAct e with
  | 0 => o
  | 1 => ((instOf new (mNew e)).map fun i => (instInit new i).length).getD 0
  | 2 => o
  | 3 => n
  | _ => 0

/-- The core a migration entry runs on: that of the new instance, or of the dropped one. -/
def mCore (old new e : List Byte) : Nat :=
  match instOf new (mNew e) with
  | some i => instCore i
  | none => ((instOf old (mOld e)).map instCore).getD 0

/-- Code offset of the routine a migration entry runs: the initialisation routine of a NEW instance's type (R65), none where
INIT_OFFSET is 0, or ROUTINE of a CONVERT (R69). -/
def mRoutine (new e : List Byte) : Option Nat :=
  if mAct e = 1 then
    match (instOf new (mNew e)).map fun i => fieldLe (typeOf new i) 8 4 with
    | some 0 => none
    | r => r
  else if mAct e = 5 then some (fieldLe e 8 4)
  else none

/-- A routine that a core runs in a migration: where it enters, and what it finds in a0 and a1. -/
structure Routine where
  /-- Core address of the routine. -/
  entry : Nat
  /-- a0 and a1 of a CONVERT; no rule gives an initialisation routine arguments. -/
  args : Option (Nat × Nat)
  deriving DecidableEq, Repr

/-- The core address of an instance's data, in the half it belongs to (R66, R70). -/
def dataAt (img : List Byte) (id : Nat) : Nat := 0x20000000 + ((instOf img id).map instOff).getD 0

/-- a0 = the old data address and a1 = the new data address of a CONVERT (R98).  Each is the address the data has while its half is
the active one, as the inactive half has no other (DESIGN CHOICE, log entry 28). -/
def convertArgs (old new e : List Byte) : Option (Nat × Nat) :=
  if mAct e = 5 then some (dataAt old (mOld e), dataAt new (mNew e)) else none

/-- The routines a core runs in a migration, in the order of the map (R65, R69, R98). -/
def routines (old new : List Byte) (core : Nat) : List Routine :=
  ((iMigr new).filter fun e => mCore old new e == core).filterMap fun e =>
    (mRoutine new e).map fun r => ⟨codeAt r, convertArgs old new e⟩

/-- The predicted duration on one core, ns (R100); bytes over 16 per ns are rounded up to a whole ns (DESIGN CHOICE, log entry
28). -/
def predictCore (old new : List Byte) (core : Nat) : Nat :=
  let es := (iMigr new).filter fun e => mCore old new e == core
  let bytes := (es.map (mBytes old new)).sum
  let us := (es.map fun e => if mAct e = 1 then ((instOf new (mNew e)).map fun i => fieldLe (typeOf new i) 12 2).getD 0
    else if mAct e = 5 then fieldLe e 6 2 else 0).sum
  20000 + (bytes + 15) / 16 + us * 1000

/-- The predicted duration of the switch, ns. -/
def predictNs (old new : List Byte) : Nat := Nat.max (predictCore old new 0) (predictCore old new 1)

/-- Does the image have MAGIC and FORMAT (check 0x01)? -/
def imgMagic (img : List Byte) : Bool := fieldLe img 0 4 == 0x42464443 && fieldLe img 4 2 == 1

/-- Is HDR_CRC correct (check 0x02)? -/
def imgHdrOk (img : List Byte) : Bool := fieldLe img 124 4 == crc32c (img.take 124)

/-- Is the image CRC correct (R63, check 0x03)? -/
def imgCrcOk (img : List Byte) : Bool :=
  decide (132 ≤ iLen img) && img.length == iLen img && fieldLe img (iLen img - 4) 4 == crc32c (img.take (iLen img - 4))

/-- Do code sections and data sizes fit (check 0x07)? -/
def imgFits (img : List Byte) : Bool :=
  (iSections img).all (fun e => decide (fieldLe e 0 1 < 2) &&
    (if fieldLe e 1 1 = 2 then decide (fieldLe e 4 4 + fieldLe e 8 4 ≤ 0x80000) else decide (fieldLe e 4 4 + fieldLe e 8 4 ≤ 0x40000))) &&
    decide (iData img 0 ≤ 0x80000) && decide (iData img 1 ≤ 0x80000)

/-- Are the header's lengths and counts in the ranges of R62? -/
def imgShape (img : List Byte) : Bool :=
  fieldLe img 6 2 == 128 && iLen img % 8 == 0 && iVer img != 0 && decide (1 ≤ fieldLe img 24 2 ∧ fieldLe img 24 2 ≤ 1024) &&
    decide (1 ≤ fieldLe img 26 2 ∧ fieldLe img 26 2 ≤ 64) && decide (1 ≤ fieldLe img 28 4 ∧ fieldLe img 28 4 ≤ 16384) &&
    iData img 0 % 64 == 0 && iData img 1 % 64 == 0

/-- Are the entries of the section, type and instance tables as R64 to R66 give them? -/
def imgTables (img : List Byte) : Bool :=
  (iSections img).all (fun e => decide (fieldLe e 1 1 < 3) && fieldLe e 8 4 % 8 == 0 && decide (fieldLe e 12 4 + fieldLe e 8 4 ≤ iLen img)) &&
    (iTypes img).all (fun e => fieldLe e 4 4 % 8 == 0) &&
    (iInsts img).all (fun e => fieldLe e 0 2 != 0 && decide (fieldLe e 2 2 < fieldLe img 24 2) && decide (fieldLe e 4 1 < 2) &&
      decide (fieldLe e 5 1 < 4) && instOff e % 8 == 0 && instSize e == fieldLe (typeOf img e) 4 4) &&
    decide ((iInsts img).map fun e => fieldLe e 0 2).Nodup

/-- Does the migration map name every running and every new instance once (check 0x0A)? -/
def mapComplete (old new : List Byte) : Bool :=
  let ids (l : List Nat) : List Nat := l.filter (· != 0)
  let olds := ids ((iMigr new).map mOld)
  let news := ids ((iMigr new).map mNew)
  let want (img : List Byte) : List Nat := (iInsts img).map fun e => fieldLe e 0 2
  decide olds.Nodup && decide news.Nodup && (want old).all olds.contains && (want new).all news.contains &&
    olds.all (want old).contains && news.all (want new).contains

/-- Do KEEP, GROW and SHRINK pair like types (check 0x0B)? -/
def mapPairs (old new : List Byte) : Bool :=
  (iMigr new).all fun e =>
    if mAct e = 0 ∨ mAct e = 2 ∨ mAct e = 3 then
      match instOf old (mOld e), instOf new (mNew e) with
      | some o, some n =>
        let a := typeOf old o
        let b := typeOf new n
        fieldLe a 0 2 == fieldLe b 0 2 && (mAct e != 0 || (fieldLe a 14 2 == fieldLe b 14 2 && instSize o == instSize n))
      | _, _ => false
    else true

/-- The first load check that fails, in the order of the codes; 0 where all pass (R97). -/
def State.loadReject (s : State) (img sig : List Byte) : Nat :=
  let old := s.half.image
  if !imgMagic img then 0x01
  else if !imgHdrOk img then 0x02
  else if !imgCrcOk img then 0x03
  else if !s.sigPass 5 img sig then 0x04
  else if iProg img ≠ s.rdn Reg.CDR_PROG_ID then 0x05
  else if iParent img ≠ s.rdn Reg.CDR_PROG_VER then 0x06
  else if !imgFits img then 0x07
  else if 768 < (iRetained img).length then 0x08
  else if s.fastBudget < iWcet img then 0x09
  else if !mapComplete old img then 0x0A
  else if !mapPairs old img then 0x0B
  else if s.windowLen < predictNs old img then 0x0C
  else 0

/-- May boot use a function-block image: its format checks (R62 to R68) and FAST_WCET (R57)? -/
def State.bootImageOk (s : State) (img : List Byte) : Bool :=
  imgMagic img && imgHdrOk img && imgShape img && imgCrcOk img && imgTables img && imgFits img && decide ((iRetained img).length ≤ 768) &&
    decide (iWcet img ≤ s.fastBudget)

/-! ### Migration and rollback (R98, R102, R103) -/

/-- Copy `n` bytes of instance data. -/
def copyData (from_ : List Host.Cell) (a n : Nat) (dst : List Host.Cell) (b : Nat) : List Host.Cell :=
  writeBytes ramByte dst b (readBytes ramByte from_ a n)

/-- Carry out one migration entry from the old half into the new one; NEW data starts as its kind-2 data (R98). -/
def migrate (old : Half) (new : Half) (e : List Byte) : Half :=
  match instOf new.image (mNew e) with
  | none => new
  | some n =>
    let core := instCore n
    let fresh := writeBytes ramByte (new.data core) (instOff n) (List.replicate (instSize n) 0)
    match mAct e, instOf old.image (mOld e) with
    | 0, some o => new.withData core (copyData (old.data (instCore o)) (instOff o) (instSize o) (new.data core) (instOff n))
    | 2, some o => new.withData core (copyData (old.data (instCore o)) (instOff o) (instSize o) fresh (instOff n))
    | 3, some o => new.withData core (copyData (old.data (instCore o)) (instOff o) (instSize n) (new.data core) (instOff n))
    | 1, _ => new.withData core ((instInit new.image n).foldl (fun m p => sset ramByte m p.1 p.2) fresh)
    | _, _ => new

/-- What the routines of a migration store on a core: nothing where it runs none (R65, R69, R98). -/
def migrStores (old new : List Byte) (core : Nat) (stores : List (Nat × Byte)) : List (Nat × Byte) :=
  if routines old new core = [] then [] else stores

/-- Every entry of the new image's map, then what the initialisation and migrate routines wrote. -/
def migrateAll (old new : Half) (stores : List (Nat × Byte) × List (Nat × Byte)) : Half :=
  let h := (iMigr new.image).foldl (migrate old) { new with data0 := [], data1 := [] }
  { h with
    data0 := (migrStores old.image new.image 0 stores.1).foldl (fun m p => sset ramByte m p.1 p.2) h.data0
    data1 := (migrStores old.image new.image 1 stores.2).foldl (fun m p => sset ramByte m p.1 p.2) h.data1 }

/-- Copy the current data of one entry back into the old half, which holds its data as at the switch (R102). -/
def migrateBack (new : Half) (old : Half) (e : List Byte) : Half :=
  match instOf old.image (mOld e), instOf new.image (mNew e) with
  | some o, some n =>
    let core := instCore o
    let back (k : Nat) (dst : List Host.Cell) : Half :=
      old.withData core (copyData (new.data (instCore n)) (instOff n) k dst (instOff o))
    match mAct e with
    | 0 => back (instSize o) (old.data core)
    | 2 => back (instSize o) (old.data core)
    | 3 => back (instSize n) (writeBytes ramByte (old.data core) (instOff o) (List.replicate (instSize o) 0))
    | _ => old
  | _, _ => old

/-- Does a rollback restore data as at the switch: an instance was DROP or CONVERT (R102)? -/
def restoresStale (img : List Byte) : Bool := (iMigr img).any fun e => mAct e == 4 || mAct e == 5

end Sys2Proof.Machine
end

