-- ==== Sys2Proof/Machine/Xonlink.lean ====
section
/-! DEFINITION. The Xonlink rings of a controller, and what every node does with a frame (R321 to R343, R347 to R355). -/

namespace Sys2Proof.Machine

/-- Change the Xonlink ports. -/
def State.modXl (s : State) (f : Xl → Xl) : State := { s with xl := f s.xl }

/-- Source unit number of a ring (R489). -/
def srcXl (r : Nat) : Nat := 0x90 + r

/-- Ring r. -/
def State.xring (s : State) (r : Nat) : XlRing := s.xl.rings.getD r .init

/-- Change ring r. -/
def State.modXring (s : State) (r : Nat) (f : XlRing → XlRing) : State := s.modXl fun x => { x with rings := modAt x.rings r f }

/-- Port XPp. -/
def State.xport (s : State) (p : Nat) : XlPort := s.xl.ports.getD p .init

/-- Change port XPp. -/
def State.modXport (s : State) (p : Nat) (f : XlPort → XlPort) : State :=
  s.modXl fun x => { x with ports := modAt x.ports p f }

/-- A field of the registers of ring r. -/
def xf (f : Fld) (r : Nat) : Fld := f.plus (4 * r)

/-- A field of a station's status word. -/
def stf (f : Fld) (r stn : Nat) : Fld := f.plus (1024 * r + 4 * stn)

/-- Does port XPp have link? -/
def State.xLink (s : State) (p : Nat) : Bool := bitAt (s.fld F.XL_STATUS_LINK) p

/-- Is port XPp wrapped (R351)? -/
def State.xWrap (s : State) (p : Nat) : Bool := bitAt (s.fld F.XL_STATUS_WRAP) p

/-- Set a port's WRAP bit. -/
def State.setWrap (s : State) (p : Nat) (b : Bool) : State := s.put F.XL_STATUS_WRAP (putBit (s.fld F.XL_STATUS_WRAP) p b)

/-- Is ring r running? -/
def State.xRun (s : State) (r : Nat) : Bool := bitAt (s.fld F.XL_STATUS_RUN) r

/-- The segment of ring r (R324). -/
def State.xSeg (s : State) (r : Nat) : Nat := if s.station then s.fld F.XL_SELF_SEGMENT else s.fld (xf F.XL_RING0_CFG_SEGMENT r)

/-- The rank of the unit. -/
def State.rank (s : State) : Nat := s.fld F.RDN_STATUS_RANK

/-- This device's UID. -/
def State.uid (s : State) : Nat := s.rd64 Reg.XL_UID_LO Reg.XL_UID_HI

/-! ### The ring table (R342, R343) -/

/-- N_STN. -/
def tblN (t : List Byte) : Nat := fieldLe t 7 1
/-- N_IN. -/
def tblNIn (t : List Byte) : Nat := fieldLe t 8 1
/-- N_OUT. -/
def tblNOut (t : List Byte) : Nat := fieldLe t 9 1
/-- LOOP_MAX, ns. -/
def tblLoopMax (t : List Byte) : Nat := fieldLe t 12 4
/-- IN_OFS, units of 10 µs; 0 is treated as 20. -/
def tblInOfs (t : List Byte) : Nat := if fieldLe t 10 2 = 0 then 20 else fieldLe t 10 2
/-- HOLD_LIMIT; 0 is treated as 50. -/
def tblHold (t : List Byte) : Nat := if fieldLe t 6 1 = 0 then 50 else fieldLe t 6 1

/-- The station entries. -/
def tblEntries (t : List Byte) : List (List Byte) := (List.range (tblN t)).map fun i => (t.drop (32 + 16 * i)).take 16

/-- STN. -/
def eStn (e : List Byte) : Nat := fieldLe e 0 1
/-- THR. -/
def eThr (e : List Byte) : Nat := fieldLe e 1 1
/-- The INPUT frame of the slot. -/
def eInFrame (e : List Byte) : Nat := fieldLe e 2 1 % 16
/-- RESUME_AUTO. -/
def eAuto (e : List Byte) : Bool := bitAt (fieldLe e 2 1) 4
/-- The OUTPUT frame of the slot. -/
def eOutFrame (e : List Byte) : Nat := fieldLe e 3 1 % 16
/-- NO_OUT. -/
def eNoOut (e : List Byte) : Bool := bitAt (fieldLe e 3 1) 4
/-- IN_POS. -/
def eInPos (e : List Byte) : Nat := fieldLe e 4 2
/-- IN_LEN. -/
def eInLen (e : List Byte) : Nat := fieldLe e 6 2
/-- OUT_POS. -/
def eOutPos (e : List Byte) : Nat := fieldLe e 8 2

/-- The staging word indices a MAP field names. -/
def mapWords (m : Nat) : List Nat := (List.range (m % 32 + 1)).map (· + m / 32)

/-- The staging words of a station's output slot: MAP0, then MAP1. -/
def eWords (e : List Byte) : List Nat :=
  mapWords (fieldLe e 10 2) ++ (if bitAt (fieldLe e 14 1) 0 then mapWords (fieldLe e 12 2) else [])

/-- Bytes of a station's output slot. -/
def eOutLen (e : List Byte) : Nat := 8 + 4 * (eWords e).length

/-- Bytes of the payload of INPUT frame i: up to the end of its last slot. -/
def inLen (t : List Byte) (i : Nat) : Nat :=
  (tblEntries t).foldl (fun n e => if eInFrame e = i then Nat.max n (eInPos e + eInLen e) else n) 0

/-- Bytes of the payload of OUTPUT frame i. -/
def outLen (t : List Byte) (i : Nat) : Nat :=
  (tblEntries t).foldl (fun n e => if eOutFrame e = i && !eNoOut e then Nat.max n (eOutPos e + eOutLen e) else n) 0

/-- The entry of a station. -/
def entryOf (t : List Byte) (stn : Nat) : Option (List Byte) := (tblEntries t).find? fun e => eStn e == stn

/-- Is a station entry in range (R343)? -/
def entryOk (e : List Byte) : Bool :=
  decide (1 ≤ eStn e ∧ eStn e ≤ 254) && decide (eThr e < 24 ∨ eThr e = 0xFF) &&
    decide (fieldLe e 2 1 < 32) && decide (fieldLe e 3 1 < 32) && decide (eInPos e % 4 = 0) &&
    decide (16 ≤ eInLen e ∧ eInLen e ≤ 1024 ∧ eInLen e % 4 = 0) && decide (eOutPos e % 4 = 0) &&
    (eWords e).all (· < 2048) && decide (fieldLe e 14 1 < 2) && decide (fieldLe e 15 1 = 0)

/-- Is a list without repeats? -/
def noDup (l : List Nat) : Bool := l.eraseDups.length == l.length

/-- The section's own rules of R342 and R343. -/
def tblOk (t : List Byte) : Bool :=
  fieldLe t 0 4 == 0x47524C58 && decide (fieldLe t 4 1 < 16) && decide (fieldLe t 5 1 = 1 ∨ fieldLe t 5 1 = 2) &&
    decide (fieldLe t 6 1 = 0 ∨ 3 ≤ fieldLe t 6 1) && decide (1 ≤ tblN t ∧ tblN t ≤ 254) &&
    decide (1 ≤ tblNIn t ∧ tblNIn t ≤ 16) && decide (1 ≤ tblNOut t ∧ tblNOut t ≤ 16) &&
    decide (2 ≤ tblInOfs t ∧ tblInOfs t ≤ 100) && decide (1 ≤ tblLoopMax t ∧ tblLoopMax t ≤ 500000) &&
    decide (fieldLe t 16 2 ≤ 100) && ((t.drop 18).take 10).all (· == 0) && t.length == 32 + 16 * tblN t &&
    fieldLe t 28 4 == crc32cFrom (crc32c (t.take 28)) (t.drop 32) && (tblEntries t).all entryOk &&
    noDup (((tblEntries t).map eThr).filter (· < 24))

/-! ### Ring timing (R338, R339, R341) -/

/-- Time of one byte, units of 0.1 ns (R321). -/
def byteTime (t : List Byte) : Nat := if fieldLe t 5 1 = 2 then 32 else 80

/-- Wire time of frames sent back to back, ns: preamble, addresses, header, payload and FCS of each, 12 idle bytes
between two. -/
def wireNs (t : List Byte) (payloads : List Nat) : Nat :=
  ((payloads.foldl (fun n p => n + 58 + Nat.max 14 p) 0 + 12 * (payloads.length - 1)) * byteTime t + 9) / 10

/-- Wire time of one launcher's INPUT frames in one direction, ns. -/
def inWire (t : List Byte) : Nat := wireNs t ((List.range (tblNIn t)).map (inLen t))

/-- Wire time of the OUTPUT frames of one direction, ns. -/
def outWire (t : List Byte) : Nat := wireNs t ((List.range (tblNOut t)).map (outLen t))

/-- STAGGER, µs. -/
def stagger (t : List Byte) : Nat := (inWire t + tblLoopMax t + 999) / 1000 + 1

/-- The greatest of a field over the rings that have a table. -/
def State.ringMax (s : State) (f : List Byte → Nat) : Nat :=
  s.xl.rings.foldl (fun n r => if r.table.isEmpty then n else Nat.max n (f r.table)) 0

/-- WD_LEAD in force, units of 10 µs (R338). -/
def State.wdLead (s : State) : Nat :=
  Nat.max (s.ringMax fun t => fieldLe t 16 2) ((s.ringMax tblLoopMax + 50000 + 9999) / 10000)

/-- The withdraw limit as an offset from the sample instant, ns. -/
def State.wdLimit (s : State) : Nat :=
  if (s.xring 0).table.isEmpty && (s.xring 1).table.isEmpty then s.fld F.CDR_OFS_C_OUT_OFFSET * 10000
  else s.fld F.XL_WD_WD_LIMIT * 10000

/-- Must the timing of a ring be refused (R341)? -/
def State.ringRefused (s : State) (t : List Byte) : Bool :=
  let lead := s.wdLead * 10000
  let out := s.ofs F.CDR_OFS_C_OUT_OFFSET
  let stg := s.ofs F.CDR_OFS_B_STAGE_DL
  let bad (e : List Byte) : Bool := decide (1468 < eInPos e + eInLen e) || (!eNoOut e && decide (1468 < eOutPos e + eOutLen e))
  decide (out - stg < lead + 100000) || decide (out < lead + 13000 + stg + 1000 + outWire t) ||
    decide (s.ofs F.CDR_OFS_A_INTAKE_CL < tblInOfs t * 10000 + 2 * stagger t * 1000 + inWire t + 2 * tblLoopMax t + 10000) ||
    (tblEntries t).any bad

/-- A station of the table before anything was heard of it. -/
def StnSeen.new (stn : Nat) : StnSeen := ⟨stn, none, false, none, none, false, false, 0, false⟩

/-- Put a ring's table into its registers; a ring whose timing R341 refuses stays in INIT with CFG_REFUSED and EV149,
any other runs. -/
def State.startRing (s : State) (r : Nat) : State :=
  let t := (s.xring r).table
  if t.isEmpty then s
  else
    let a := (s.put (xf F.XL_RING0_CFG_SEGMENT r) (fieldLe t 4 1)).put (xf F.XL_RING0_CFG_PHY r) (fieldLe t 5 1)
    let b := ((a.put (xf F.XL_RING0_CFG_HOLD_LIMIT r) (tblHold t)).put (xf F.XL_RING0_CFG_N_STN r) (tblN t)).put
      (xf F.XL_RING0_CFG_IN_OFS r) (tblInOfs t)
    let c := b.put (xf F.XL_RING0_TIME_STAGGER r) (stagger t)
    if s.ringRefused t then
      (c.put F.XL_STATUS_CFG_REFUSED (putBit (c.fld F.XL_STATUS_CFG_REFUSED) r true)).raise 149 sevAlarm (srcXl r)
    else
      let d := c.put F.XL_STATUS_RUN (putBit (c.fld F.XL_STATUS_RUN) r true)
      (tblEntries t).foldl (fun s e => s.put (stf F.XL_STN_STATUS_VIEW r (eStn e)) 1)
        (d.modXring r fun x => { x with stns := (tblEntries t).map fun e => .new (eStn e) })

/-- Take the ring tables of the configuration image: WD_LEAD and the withdraw limit first, then each ring (R338, R341). -/
def State.xlConfig (s : State) (t0 t1 : List Byte) : State :=
  let a := (s.modXring 0 fun x => { x with table := t0 }).modXring 1 fun x => { x with table := t1 }
  if t0.isEmpty && t1.isEmpty then a
  else
    let b := a.put F.XL_WD_WD_LEAD a.wdLead
    ((b.put F.XL_WD_WD_LIMIT (b.fld F.CDR_OFS_C_OUT_OFFSET - a.wdLead)).startRing 0).startRing 1

/-! ### Frames (R325 to R328) -/

/-- A field of the Xonlink header, `n` bytes from byte `off`. -/
def hf (frame : List Byte) (off n : Nat) : Nat := fieldLe frame (14 + off) n

/-- KIND. -/
def fKind (frame : List Byte) : Nat := hf frame 0 1 % 16
/-- SRC's rank. -/
def fRank (frame : List Byte) : Nat := hf frame 2 2 / 2 ^ 14
/-- The sender's node address. -/
def fNode (frame : List Byte) : Nat := hf frame 2 2 % 2 ^ 12
/-- CYC. -/
def fCyc (frame : List Byte) : Nat := hf frame 8 8
/-- INSTANT. -/
def fInstant (frame : List Byte) : Nat := hf frame 16 8
/-- The payload. -/
def fPayload (frame : List Byte) : List Byte := frame.drop 46

/-- Bytes `new` put into a payload at `pos`. -/
def putBytes (bs : List Byte) (pos : Nat) (new : List Byte) : List Byte := bs.take pos ++ new ++ bs.drop (pos + new.length)

/-- HDR_CHECK of the first 30 header bytes, with HOPS and CORR taken as 0. -/
def hdrCheck (h : List Byte) : Nat := crc16 (putBytes (putBytes (h.take 30) 7 [0]) 24 [0, 0, 0, 0])

/-- Is the frame a Xonlink frame with a whole header? -/
def isXl (frame : List Byte) : Bool := decide (46 ≤ frame.length) && beNat ((frame.drop 12).take 2) == 0x88C7

/-- Is HDR_CHECK right? -/
def hdrOk (frame : List Byte) : Bool := hf frame 30 2 == hdrCheck (frame.drop 14)

/-- A frame of this node on port p. -/
def State.xlFrame (s : State) (p kind flags dst index cyc instant : Nat) (payload : List Byte) : List Byte :=
  let node := s.xSeg (p / 2) * 256 + (if s.station then s.fld F.XL_SELF_STN else 0)
  let h := [BitVec.ofNat 8 (16 + kind), BitVec.ofNat 8 flags] ++ leBytes 2 ((if s.station then 0 else s.rank) * 2 ^ 14 + node) ++
    leBytes 2 dst ++ [BitVec.ofNat 8 index, 0] ++ leBytes 8 cyc ++ leBytes 8 instant ++ leBytes 4 0 ++ leBytes 2 payload.length
  [0x03, 0x58, 0x4C, 0, 0, if kind = 5 ∨ kind = 6 then 2 else 1] ++ beBytes 6 (Config.xlMac p).toNat ++ [0x88, 0xC7] ++ h ++
    leBytes 2 (hdrCheck h) ++ payload

/-- The end of a frame on the wire and of the 12 idle bytes behind it. -/
def State.xlEnds (s : State) (e : XlSent) : Nat :=
  e.time + ((Nat.max 60 e.frame.length + 24) * byteTime (s.xring (e.port / 2)).table + 9) / 10

/-- The first instant from `t` on at which no frame passes out of port p (R332). -/
def State.xlFree (s : State) (p t : Nat) : Nat :=
  let live := s.xl.wire.filter fun e => e.port == p && decide (t < s.xlEnds e)
  live.foldl (fun u _ => live.foldl (fun v e => if e.time ≤ v then Nat.max v (s.xlEnds e) else v) u) t

/-- A frame of this node's own leaves port p at device time `t`. -/
def State.xlSend (s : State) (p t : Nat) (frame : List Byte) : State :=
  s.modXl fun x => { x with wire := x.wire ++ [⟨p, frame, false, t, true⟩] }

/-- Does the node use the link at port p: it has link, its delay is measured, and the port is not wrapped (R335, R351, R352)? -/
def State.xUsable (s : State) (p : Nat) : Bool := s.xLink p && (s.xport p).delay.isSome && !s.xWrap p

/-- A launch on a port that the node uses, at `t`, or once the frame that passes out of the port then has ended, with its 12 idle bytes
(R332); frames launched together follow one another so (R339). -/
def State.xlPut (s : State) (p t : Nat) (frame : List Byte) : State :=
  if s.xUsable p then s.xlSend p (s.xlFree p t) frame else s

/-- Launch a frame at `t` on both ports of ring r: east on the even port, west on the odd one (R322, R339). -/
def State.xlLaunchAt (s : State) (t r kind flags index cyc instant : Nat) (payload : List Byte) : State :=
  let dst := s.xSeg r * 256 + 255
  (s.xlPut (2 * r) t (s.xlFrame (2 * r) kind flags dst index cyc instant payload)).xlPut (2 * r + 1) t
    (s.xlFrame (2 * r + 1) kind (flags + 1) dst index cyc instant payload)

/-- Launch a frame now. -/
def State.xlLaunch (s : State) (r kind flags index cyc instant : Nat) (payload : List Byte) : State :=
  s.xlLaunchAt s.now r kind flags index cyc instant payload

/-- The first instant from `t` on that lies in a housekeeping phase, from OUT_OFFSET to the next sample instant (R51, R339); before
the grid there are no phases. -/
def State.houseAt (s : State) (t : Nat) : Nat :=
  let o := s.at F.CDR_OFS_C_OUT_OFFSET
  if !s.cdr.grid then t else if t < o then o else if t < s.cdr.t0 + s.tbase then t else o + s.tbase

/-! ### Forwarding (R332 to R334, R351) -/

/-- Does a node forward what comes in at port p: it uses the link, and it is a station past RESET or a controller whose ring has a
table; a ring whose configuration was refused stays in INIT, which forwards (R335, R341, R344). -/
def State.xReady (s : State) (p : Nat) : Bool :=
  s.xUsable p && (if s.station then decide (p < 2) && s.fld F.XL_SELF_SSTATE != 0 else !(s.xring (p / 2)).table.isEmpty)

/-- The frame as it leaves: HOPS counted, CORR raised on CYCLE frames, WRAPPED where it is turned, its new payload. -/
def forwarded (frame payload : List Byte) (corr : Nat) (turned : Bool) : List Byte :=
  let h := (frame.drop 14).take 30
  let fl := if turned then putBit (fieldLe h 1 1) 1 true else fieldLe h 1 1
  let c := if fKind frame = 1 then fieldLe h 24 4 + corr else fieldLe h 24 4
  let h2 := putBytes (putBytes (putBytes h 1 [BitVec.ofNat 8 fl]) 7 [BitVec.ofNat 8 (fieldLe h 7 1 + 1)]) 24 (leBytes 4 c)
  frame.take 14 ++ h2 ++ leBytes 2 (hdrCheck h2) ++ payload

/-- The instant at which a forwarded frame leaves port q: now, or once the own frame that is being sent there has ended, and the frames
forwarded before it (R332). -/
def State.xlHold (s : State) (q : Nat) : Nat :=
  s.xl.wire.foldl (fun u e => if e.port == q && (!e.own || decide (e.time ≤ s.now)) then Nat.max u (s.xlEnds e) else u) s.now

/-- A frame that leaves at `u` instead: a DELAY_REQ carries its launch time, and a DELAY_RESP its own as t3 (R335). -/
def XlSent.leaves (e : XlSent) (u : Nat) : XlSent :=
  let f := e.frame
  let h := putBytes ((f.drop 14).take 30) 16 (leBytes 8 u)
  { e with
    time := u
    frame := if fKind f = 5 then f.take 14 ++ h ++ leBytes 2 (hdrCheck h) ++ f.drop 46
      else if fKind f = 6 then putBytes f 54 (leBytes 8 u) else f }

/-- The frames of the node's own that are still to leave port p wait for one that passes out of it until `u`, and for each other (R332). -/
def State.xlWait (s : State) (p : Nat) : Nat → List XlSent → List XlSent
  | _, [] => []
  | u, e :: es =>
    if e.port = p ∧ e.own ∧ s.now < e.time ∧ e.time < u then e.leaves u :: s.xlWait p (s.xlEnds (e.leaves u)) es
    else e :: s.xlWait p u es

/-- The launch time of the DELAY_REQ that port p waits for an answer to, as its frame leaves (R335). -/
def reqTime (wire : List XlSent) (p : Nat) (t1 : Option Nat) : Option Nat :=
  t1.map fun t => ((wire.reverse.find? fun e => e.port == p && e.own && fKind e.frame == 5).map (·.time)).getD t

/-- Send a forwarded frame out of the other port; where the node does not use that one it turns the frame back (R335, R351).  It is held
while the node sends a frame of its own there, which counts in CORR (R332). -/
def State.xlForward (s : State) (p : Nat) (frame payload : List Byte) (corr : Nat) (bad : Bool) : State :=
  let turn := !s.xUsable (if p % 2 = 0 then p + 1 else p - 1)
  let q := if turn then p else if p % 2 = 0 then p + 1 else p - 1
  let t := s.xlHold q
  let e : XlSent := ⟨q, forwarded frame payload (corr + 16 * (t - s.now)) turn, bad, t, false⟩
  let w := s.xlWait q (s.xlEnds e) s.xl.wire
  (s.modXport q fun x => { x with t1 := reqTime w q x.t1 }).modXl fun x => { x with wire := w ++ [e] }

/-- Is the frame this controller's own? -/
def State.xlOwn (s : State) (r : Nat) (frame : List Byte) : Bool :=
  !s.station && fRank frame == s.rank && fNode frame == s.xSeg r * 256

/-- Count a frame of another segment, or of an unknown kind (R324, R327). -/
def State.xlForeign (s : State) (r : Nat) : State := s.bump (xf F.XL_CNT0_FOREIGN r) 1

/-- A frame of another segment, or of an unknown kind. -/
def State.isForeign (s : State) (r : Nat) (frame : List Byte) : Bool :=
  fNode frame / 256 != s.xSeg r || fKind frame == 0 || decide (7 < fKind frame)

/-- Count an FCS error first found here (R333). -/
def State.xlFcs (s : State) (r : Nat) (fcs : XlFcs) : State := if fcs = .wrong then s.bump (xf F.XL_CNT0_FCS_ERR r) 1 else s

/-- A frame passes the node: `act` gives its new payload and what the node does with it.  A frame of its own that comes back is not
forwarded: the rows of the returns act on those of INPUT, OUTPUT and MGMT, and an FCS error of a CYCLE or WITHDRAW frame counts here
(R333). -/
def State.xlPass (s : State) (p : Nat) (frame : List Byte) (fcs : XlFcs) (kind corr : Nat)
    (act : State → List Byte × State) : State :=
  if !s.xReady p || !isXl frame || !hdrOk frame then s
  else if s.isForeign (p / 2) frame then s.xlForeign (p / 2)
  else if fKind frame ≠ kind then s
  else if s.xlOwn (p / 2) frame then (if kind = 1 ∨ kind = 4 then s.xlFcs (p / 2) fcs else s)
  else
    let r := act (s.xlFcs (p / 2) fcs)
    r.2.xlForward p frame r.1 corr (fcs != .ok)

/-! ### Link delays, wrap and unwrap (R335, R341, R351, R352) -/

/-- Send a DELAY_REQ on port p, in the housekeeping phase, once no frame passes out of the port (R332, R335, R339). -/
def State.delayReq (s : State) (p : Nat) : State :=
  let t := s.xlFree p (s.houseAt s.now)
  (s.modXport p fun x => { x with t1 := some t, reqCyc := some s.cdr.cyc }).xlSend p t
    (s.xlFrame p 5 (p % 2) (s.xSeg (p / 2) * 256 + 255) 0 s.cdr.cyc t [])

/-- Is a measurement of the link at port p due: none has succeeded yet, or 100 base cycles have passed (R335)? -/
def State.delayDue (s : State) (p : Nat) : Bool :=
  s.xLink p && ((s.xport p).delay.isNone || (match (s.xport p).reqCyc with | some c => decide (c + 100 ≤ s.cdr.cyc) | none => true))

/-- The loop delay of a ring was measured: LOOP, and LOOP_OVER with EV150 past LOOP_MAX (R341). -/
def State.loopSeen (s : State) (r : Nat) (loop : Option Nat) : State :=
  match loop with
  | none => s
  | some ns =>
    let a := s.putSat (xf F.XL_RING0_TIME_LOOP r) (ns / 10)
    if !(s.xring r).table.isEmpty && decide (tblLoopMax (s.xring r).table < ns) then
      (a.setTo F.XL_STATUS_LOOP_OVER true).raise 150 sevWarn (srcXl r)
    else a

/-- LINK_DELAY_MEASURE (R335): DELAY_REQ on every port where a measurement is due, and the loop delays measured. -/
def State.linkMeasure (s : State) (loop0 loop1 : Option Nat) : State :=
  ((forEach (List.range 4) (fun p s => if s.delayDue p then s.delayReq p else s) s).loopSeen 0 loop0).loopSeen 1 loop1

/-- LINK_DELAY_MEASURE (R335). -/
def execLinkDelayMeasure (loop0 loop1 : Option Nat) (s : State) : Host.Outcome State Fault Refusal :=
  s.gate 10 <| .next (s.linkMeasure loop0 loop1)

/-- Does a DELAY frame of this kind reach port p? -/
def State.delayOk (s : State) (p : Nat) (frame : List Byte) (fcs : XlFcs) (kind : Nat) : Bool :=
  s.xLink p && isXl frame && hdrOk frame && fKind frame == kind && fcs == .ok && (!s.station || decide (p < 2))

/-- A neighbour's DELAY_REQ is answered with its receive time and the transmit time, `turn` ns later but in the housekeeping
phase, once no frame passes out of the port (R332, R335). -/
def State.delayAnswer (s : State) (p : Nat) (frame : List Byte) (fcs : XlFcs) (turn : Nat) : State :=
  if fKind frame = 5 ∧ fNode frame / 256 ≠ s.xSeg (p / 2) ∧ s.xLink p then s.xlForeign (p / 2)
  else if s.delayOk p frame fcs 5 then
    let t := s.xlFree p (s.houseAt (s.now + turn))
    s.xlSend p t (s.xlFrame p 6 (p % 2) (fNode frame) 0 s.cdr.cyc 0 (leBytes 8 s.now ++ leBytes 8 t))
  else s.xlFcs (p / 2) fcs

/-- DELAY_REQ (R335). -/
def execDelayReq (port : Fin 4) (frame : List Byte) (fcs : XlFcs) (turn : Nat) (s : State) : Host.Outcome State Fault Refusal :=
  s.gate 10 <| .next (s.delayAnswer port.val frame fcs turn)

/-- A station in INIT enters SYNC once the delays of both its links are measured (R344), unless its ring's configuration was refused
(R341). -/
def State.stnMeasured (s : State) : State :=
  if s.station && s.fld F.XL_SELF_SSTATE == 1 && !bitAt (s.fld F.XL_STATUS_CFG_REFUSED) 0 && (s.xport 0).delay.isSome && (s.xport 1).delay.isSome then
    (s.put F.XL_SELF_SSTATE 2).modXl fun x => { x with stn := { x.stn with good := 0 } }
  else s

/-- A DELAY_RESP gives the link delay ((t4 − t1) − (t3 − t2)) ÷ 2 (R335). -/
def State.delayTake (s : State) (p : Nat) (frame : List Byte) (fcs : XlFcs) : State :=
  if fKind frame = 6 ∧ fNode frame / 256 ≠ s.xSeg (p / 2) ∧ s.xLink p then s.xlForeign (p / 2)
  else if s.delayOk p frame fcs 6 then
    match (s.xport p).t1 with
    | none => s
    | some t1 =>
      let b := fPayload frame
      let d : Int := (((s.now : Int) - t1) - ((fieldLe b 8 8 : Int) - fieldLe b 0 8)) / 2
      (s.modXport p fun x => { x with delay := some d.toNat, t1 := none }).stnMeasured
  else s.xlFcs (p / 2) fcs

/-- DELAY_RESP (R335). -/
def execDelayResp (port : Fin 4) (frame : List Byte) (fcs : XlFcs) (s : State) : Host.Outcome State Fault Refusal :=
  s.gate 10 <| .next (s.delayTake port.val frame fcs)

/-- A ring port loses link: the node wraps the ring there (R351), EV144 (R352). -/
def State.portLoss (s : State) (p : Nat) : State :=
  if !s.xLink p then s
  else
    let a := s.put F.XL_STATUS_LINK (putBit (s.fld F.XL_STATUS_LINK) p false)
    let b := a.modXport p fun _ => .init
    if s.xWrap p then b else (b.setWrap p true).raise 144 sevWarn (srcXl (p / 2))

/-- PORT_LINK_LOSS (R351). -/
def execPortLinkLoss (port : Fin 4) (s : State) : Host.Outcome State Fault Refusal :=
  s.gate 10 <| .next (s.portLoss port.val)

/-- A ring port gains link: its delay is measured (R335), and its 100 ms begin (R352); XP2 and XP3 of a station are off
(R357). -/
def State.portUp (s : State) (p : Nat) : State :=
  if s.xLink p || (s.station && decide (2 ≤ p)) then s
  else
    let a := s.put F.XL_STATUS_LINK (putBit (s.fld F.XL_STATUS_LINK) p true)
    (a.modXport p fun _ => ⟨none, s.now, none, false, none⟩).delayReq p

/-- PORT_LINK_UP (R335). -/
def execPortLinkUp (port : Fin 4) (s : State) : Host.Outcome State Fault Refusal :=
  s.gate 10 <| .next (s.portUp port.val)

/-- A wrapped port has held link for 100 ms and may unwrap (R352). -/
def State.portHeld (s : State) (p : Nat) : State :=
  if s.xLink p && s.xWrap p then
    (s.runTo ((s.xport p).linkSince + 100000000)).modXport p fun x => { x with held := true }
  else s

/-- PORT_LINK_HELD (R352). -/
def execPortLinkHeld (port : Fin 4) (s : State) : Host.Outcome State Fault Refusal :=
  s.gate 10 <| .next (s.portHeld port.val)

/-- In the housekeeping phase a port that held link and measured its delay unwraps; EV144 (R352). -/
def State.portUnwrap (s : State) : State :=
  forEach (List.range 4) (fun p s =>
    if (s.xport p).held && (s.xport p).delay.isSome && s.xWrap p then
      ((s.setWrap p false).modXport p fun x => { x with held := false }).raise 144 sevWarn (srcXl (p / 2))
    else s) s

/-! ### Launches of a controller (R338 to R340, R343, R347) -/

/-- May the unit launch CYCLE and INPUT frames on ring r: a running ring, STANDBY or ACTIVE (R339)? -/
def State.mayLaunch (s : State) (r : Nat) : Bool :=
  !s.station && s.xRun r && (s.rstate == rStandby || s.isActive)

/-- The payload of a CYCLE frame (R328); `step` is the step in base cycles, where one applies. -/
def State.cyclePayload (s : State) (r : Nat) (step : Option Int) : List Byte :=
  leBytes 4 (s.fld F.CDR_PERIOD_BASE_MS * 1000) ++ leBytes 4 (s.fld F.CDR_OFS_C_OUT_OFFSET * 10) ++
    [BitVec.ofNat 8 (s.fld (xf F.XL_RING0_CFG_HOLD_LIMIT r)), BitVec.ofNat 8 (s.xSeg r), if step.isSome then 1 else 0, 0] ++
    leBytes 4 (code 32 (step.getD 0))

/-- The next cycle's CYCLE frame is launched WD_LEAD + 2 r µs before its sample instant (R339). -/
def State.cycleLaunch (s : State) (r : Nat) : State :=
  if !s.mayLaunch r then s
  else
    let next := s.cdr.t0 + s.tbase
    let a := s.runTo (next - s.fld F.XL_WD_WD_LEAD * 10000 - 2000 * s.rank)
    let n := a.cdr.cyc + 1
    let step := (a.tb.steps.find? fun x => x.2 == n).map fun x => x.1 / ((Nat.max 1 a.tbase : Nat) : Int)
    (a.modTb fun b => { b with launched := Nat.max b.launched n }).xlLaunch r 1 0 0 n next (a.cyclePayload r step)

/-- CYCLE_LAUNCH (R339). -/
def execCycleLaunch (ring : Fin 2) (s : State) : Host.Outcome State Fault Refusal :=
  s.gate 10 <| .next (s.cycleLaunch ring.val)

/-- The INPUT frames of the cycle are launched with zeroed slots at IN_OFS + r × STAGGER (R329, R339). -/
def State.inputLaunch (s : State) (r : Nat) : State :=
  if !s.mayLaunch r then s
  else
    let t := (s.xring r).table
    let a := s.runTo (s.cdr.t0 + s.fld (xf F.XL_RING0_CFG_IN_OFS r) * 10000 + s.rank * s.fld (xf F.XL_RING0_TIME_STAGGER r) * 1000)
    forEach (List.range (tblNIn t)) (fun i s => s.xlLaunch r 2 0 i s.cdr.cyc s.cdr.t0 (List.replicate (inLen t i) 0)) a

/-- INPUT_LAUNCH (R339). -/
def execInputLaunch (ring : Fin 2) (s : State) : Host.Outcome State Fault Refusal :=
  s.gate 10 <| .next (s.inputLaunch ring.val)

/-- What ring r has seen of a station. -/
def State.stnSeen (s : State) (r stn : Nat) : StnSeen :=
  ((s.xring r).stns.find? (·.stn == stn)).getD (.new stn)

/-- Change what ring r keeps of a station. -/
def State.modStn (s : State) (r stn : Nat) (f : StnSeen → StnSeen) : State :=
  s.modXring r fun x => { x with stns := x.stns.map fun e => if e.stn = stn then f e else e }

/-- Does a station's slot carry RESUME (R347)? -/
def State.slotResume (s : State) (r : Nat) (e : List Byte) : Bool :=
  let st := s.fld (stf F.XL_STN_STATUS_SSTATE r (eStn e))
  (st == 3 || st == 6) && (eAuto e || (s.stnSeen r (eStn e)).resume)

/-- A station's output slot (R330, R343, R354). -/
def State.outSlot (s : State) (r : Nat) (e : List Byte) : List Byte :=
  let ws := eWords e
  let fl := b2n (!(s.stnSeen r (eStn e)).dup) + 2 * b2n (s.slotResume r e)
  [BitVec.ofNat 8 fl, 0] ++ leBytes 2 ws.length ++ leBytes 4 0 ++ bytesOf (ws.map (setWord s.cdr.staged))

/-- The payload of OUTPUT frame i. -/
def State.outPayload (s : State) (r i : Nat) : List Byte :=
  let t := (s.xring r).table
  (tblEntries t).foldl (fun b e => if eOutFrame e = i && !eNoOut e then putBytes b (eOutPos e) (s.outSlot r e) else b)
    (List.replicate (outLen t i) 0)

/-- Ring r launches its OUTPUT frames; a RESUME they carry is no longer pending, and every ACK starts anew. -/
def State.outputRing (s : State) (r : Nat) : State :=
  if !s.xRun r then s
  else
    let t := (s.xring r).table
    let inst := s.at F.CDR_OFS_C_OUT_OFFSET
    let a := forEach (List.range (tblNOut t)) (fun i x => x.xlLaunch r 3 0 i x.cdr.cyc inst (s.outPayload r i)) s
    (tblEntries t).foldl (fun x e =>
      let y := x.setTo (stf F.XL_STN_STATUS_ACK r (eStn e)) false
      if s.slotResume r e && !eNoOut e then y.modStn r (eStn e) fun q => { q with resume := false } else y) a

/-- OUTPUT_LAUNCH (R293, R339): the released cycle of a unit that was ACTIVE at STAGE_DL is launched; nothing but WITHDRAW
from 13 µs before the withdraw limit on. -/
def State.outputLaunch (s : State) : State :=
  if s.station || !s.red.activeAtStage || !s.grd.released || decide (s.cdr.t0 + s.wdLimit ≤ s.now + 13000) then s
  else ((s.outputRing 0).outputRing 1).modXl fun x => { x with launched := true }

/-- One ring sends three copies of WITHDRAW 2 µs apart, the later two with REPEAT (R326, R339). -/
def State.withdrawRing (s : State) (r : Nat) : State :=
  if !s.xRun r then s
  else
    let inst := s.at F.CDR_OFS_C_OUT_OFFSET
    let copy (x : State) (k : Nat) : State := x.xlLaunchAt (s.now + 2000 * k) r 4 (if k = 0 then 0 else 4) 0 s.cdr.cyc inst []
    (copy (copy (copy s 0) 1) 2).bump (xf F.XL_CNT0_WITHDRAWS r) 1

/-- WITHDRAW_SEND (R284, R340): up to the withdraw limit the launched cycle is withdrawn on every ring; EV148. -/
def State.xlWithdraw (s : State) : State :=
  if s.xl.launched && decide (s.now ≤ s.cdr.t0 + s.wdLimit) then
    let a := (((s.withdrawRing 0).withdrawRing 1).setTo F.XL_STATUS_WITHDRAWN true).raise 148 sevAlarm (srcXl 0)
    (a.modXl fun x => { x with launched := false }).grdWithdrawn
  else s

/-! ### Returned frames (R348 to R350) -/

/-- Does a returned frame of this kind belong to this unit and cycle? -/
def State.xlReturned (s : State) (r : Nat) (frame : List Byte) (fcs : XlFcs) (kind : Nat) : Bool :=
  !s.station && s.xRun r && isXl frame && hdrOk frame && fcs == .ok && fKind frame == kind && s.xlOwn r frame

/-- Count an FCS error of a returned frame. -/
def State.xlReturnFcs (s : State) (r : Nat) (fcs : XlFcs) : State := if s.station then s else s.xlFcs r fcs

/-- The fusion records a slot announces with REC_LEN at the start of its payload (R329). -/
def slotRecs : Nat → List Byte → List (List Byte)
  | 0, _ => []
  | n + 1, bs =>
    let k := recLength bs
    if bs.length < k ∨ k < 16 then [] else bs.take k :: slotRecs n (bs.drop k)

/-- The records of a whole slot. -/
def recsOf (slot : List Byte) : List (List Byte) := slotRecs 64 ((slot.drop 16).take (fieldLe slot 12 2))

/-- A returned copy of one station's slot, from a frame with the given FLAGS (R329, R348): recorded by direction, its records queued, its bytes put into the
input area where the other copy has not brought them; the inputs of a DUPLICATE station are discarded (R354). -/
def State.slotReturn (s : State) (r flags : Nat) (payload : List Byte) (e : List Byte) : State :=
  let b := (payload.drop (eInPos e)).take (eInLen e)
  let c : SlotCopy := ⟨fieldLe b 0 8, fieldLe b 8 1, fieldLe b 9 1, fieldLe b 11 1, recsOf b, bitAt flags 1⟩
  if !bitAt c.flags 0 then s
  else
    let q := s.stnSeen r (eStn e)
    let first := q.east.isNone && q.west.isNone
    let a := s.modStn r (eStn e) fun x => if bitAt flags 0 then { x with west := some c } else { x with east := some c }
    let d := if first && !q.dup then a.modXring r fun x => { x with
        inputs := sput (eInFrame e)
          (putBytes (((x.inputs.find? (·.1 == eInFrame e)).map (·.2)).getD (List.replicate (inLen x.table (eInFrame e)) 0))
            (eInPos e) b) x.inputs } else a
    if bitAt c.flags 2 && !bitAt c.flags 1 && !q.dup then forEach c.recs (fun rec x => x.intake rec) d else d

/-- A launcher receives its INPUT frame back (R348, R349). -/
def State.inputReturn (s : State) (r : Nat) (frame : List Byte) (fcs : XlFcs) : State :=
  if s.xlReturned r frame fcs 2 && fCyc frame == s.cdr.cyc then
    (tblEntries (s.xring r).table).foldl (fun x e =>
      if eInFrame e = hf frame 6 1 then x.slotReturn r (hf frame 1 1) (fPayload frame) e else x) s
  else s.xlReturnFcs r fcs

/-- INPUT_RETURN (R348). -/
def execInputReturn (ring : Fin 2) (frame : List Byte) (fcs : XlFcs) (s : State) : Host.Outcome State Fault Refusal :=
  s.gate 10 <| .next (s.inputReturn ring.val frame fcs)

/-- The ACTIVE unit receives its OUTPUT frame back: ACK of each station's slot, and its COLLIDE (R350, R354). -/
def State.outputReturn (s : State) (r : Nat) (frame : List Byte) (fcs : XlFcs) : State :=
  if s.xlReturned r frame fcs 3 && s.isActive then
    (tblEntries (s.xring r).table).foldl (fun x e =>
      if eOutFrame e = hf frame 6 1 && !eNoOut e then
        let fl := fieldLe (fPayload frame) (eOutPos e) 1
        let y := if bitAt fl 2 then x.setTo (stf F.XL_STN_STATUS_ACK r (eStn e)) true else x
        if bitAt fl 3 then y.modStn r (eStn e) fun q => { q with outCollide := true } else y
      else x) s
  else s.xlReturnFcs r fcs

/-- OUTPUT_RETURN (R350). -/
def execOutputReturn (ring : Fin 2) (frame : List Byte) (fcs : XlFcs) (s : State) : Host.Outcome State Fault Refusal :=
  s.gate 10 <| .next (s.outputReturn ring.val frame fcs)

/-! ### STATION_VIEW and DUPLICATE_MARK (R348, R354, R355) -/

/-- The copies of a station's slot in this cycle. -/
def StnSeen.copies (q : StnSeen) : List SlotCopy := q.east.toList ++ q.west.toList

/-- Do the cycle's copies collide, or carry different UIDs (R354)? -/
def StnSeen.collides (q : StnSeen) : Bool :=
  q.outCollide || q.copies.any (fun c => bitAt c.flags 1) ||
    (match q.east, q.west with | some a, some b => a.uid != b.uid | _, _ => false)

/-- The copy that reports a station of a recorded UID. -/
def StnSeen.report (q : StnSeen) (uid : Option Nat) : Option SlotCopy := q.copies.find? fun c => !bitAt c.flags 1 && uid == some c.uid

/-- A copy that makes IN_OK for a recorded UID (R348). -/
def StnSeen.okCopy (q : StnSeen) (uid : Option Nat) : Option SlotCopy :=
  q.copies.find? fun c => bitAt c.flags 2 && !bitAt c.flags 1 && uid == some c.uid

/-- The VIEW of R348, in its order of precedence. -/
def viewOf (dup seen ok : Bool) (miss limit sstate hold : Nat) : Nat :=
  if dup then 5
  else if !seen then 1
  else if limit ≤ miss ∨ sstate = 6 then 4
  else if !ok ∨ 1 ≤ hold then 3
  else if sstate = 4 ∨ sstate = 3 ∨ sstate = 5 then 2
  else 3

/-- DUPLICATE is set: XL_DUP and both UIDs show it, and EV146 is raised (R354). -/
def State.dupShow (s : State) (r : Nat) (q : StnSeen) : State :=
  let e := (q.east.map (·.uid)).getD 0
  let w := (q.west.map (·.uid)).getD 0
  (((s.put F.XL_DUP_NODE (s.xSeg r * 256 + q.stn)).wr64 0xC0060 0xC0064 e).wr64 0xC0068 0xC006C w).raise 146 sevAlarm (srcXl r)

/-- The UID after the cycle: a new one that does not collide is recorded (R355). -/
def StnSeen.newUid (q : StnSeen) : Option Nat :=
  if q.collides then q.uid else match q.copies with | c :: _ => some c.uid | [] => q.uid

/-- The fusion records that this cycle's copies of a station's slot brought. -/
def StnSeen.recs (q : StnSeen) : List (List Byte) := q.copies.flatMap (·.recs)

/-- Did both copies come back this cycle on an unwrapped ring: no port of this unit is wrapped, and no node turned one of the
frames (R351, R355)? -/
def State.unwrappedCopies (s : State) (r : Nat) (q : StnSeen) : Bool :=
  q.east.isSome && q.west.isSome && !s.xWrap (2 * r) && !s.xWrap (2 * r + 1) && q.copies.all fun c => !c.wrapped

/-- Judge one station at INTAKE_CL (R348, R354, R355); of one that becomes DUPLICATE the records taken in the cycle are discarded
too. -/
def State.judgeStn (r : Nat) (stn : Nat) (s : State) : State :=
  let q := s.stnSeen r stn
  let col := q.collides
  let uid := q.newUid
  let changed := q.uid.isSome && uid != q.uid
  let dup := q.dup || col
  let ok := (q.okCopy uid).isSome
  let sw (f : Fld) : Fld := stf f r stn
  let miss := if ok then 0 else satN 255 (s.fld (sw F.XL_STN_STATUS_MISS_RUN) + 1)
  let rep := q.report uid
  let sst := match rep with | some c => c.sstate % 16 | none => s.fld (sw F.XL_STN_STATUS_SSTATE)
  let hold := match rep with | some c => c.holdCnt | none => s.fld (sw F.XL_STN_STATUS_HOLD_CNT)
  let seen := q.seen || ok
  let old := s.fld (sw F.XL_STN_STATUS_VIEW)
  let view := viewOf dup seen ok miss (s.fld (xf F.XL_RING0_CFG_HOLD_LIMIT r)) sst hold
  let clean := if col then 0 else if s.unwrappedCopies r q then (if changed then 1 else q.clean + 1) else 0
  let a := s.modStn r stn fun x => { x with uid, seen, dup, clean, east := none, west := none, outCollide := false }
  let b := ((((a.put (sw F.XL_STN_STATUS_VIEW) view).put (sw F.XL_STN_STATUS_SSTATE) sst).setTo (sw F.XL_STN_STATUS_IN_OK) ok).setTo
    (sw F.XL_STN_STATUS_E_SEEN) q.east.isSome).setTo (sw F.XL_STN_STATUS_W_SEEN) q.west.isSome
  let c := (b.put (sw F.XL_STN_STATUS_HOLD_CNT) hold).put (sw F.XL_STN_STATUS_MISS_RUN) miss
  let d := if s.isActive then c else c.setTo (sw F.XL_STN_STATUS_ACK) false
  let e := if col && !q.dup then (d.discard q.recs).dupShow r q else d
  let f := if changed then (e.setTo (sw F.XL_STN_STATUS_UID_CHANGED) true).raise 151 sevNotice (srcXl r) else e
  let g := f.raiseIf (old != view) 145 sevNotice (srcXl r) (s.xSeg r * 256 + stn)
  if view = 4 ∧ old ≠ 4 then g.raise 147 sevAlarm (srcXl r) else g

/-- Show LOST_ANY and DUP_ANY. -/
def State.showViews (s : State) : State :=
  let has (v : Nat) : Bool := (List.range 2).any fun r =>
    (s.xring r).stns.any fun q => s.fld (stf F.XL_STN_STATUS_VIEW r q.stn) == v
  (s.setTo F.XL_STATUS_LOST_ANY (has 4)).setTo F.XL_STATUS_DUP_ANY (has 5)

/-- Payloads by frame index without the slots of the DUPLICATE stations (R354). -/
def XlRing.cleanInputs (x : XlRing) : List (Nat × List Byte) :=
  let dups := (tblEntries x.table).filter fun e => x.stns.any fun q => q.stn == eStn e && q.dup
  x.inputs.map fun f => (f.1, (dups.filter fun e => eInFrame e == f.1).foldl (fun b e =>
    putBytes b (eInPos e) (List.replicate (eInLen e) 0)) f.2)

/-- The input image of ring r freezes at INTAKE_CL (R354, R359). -/
def State.freezeImage (s : State) (r : Nat) : State :=
  s.modXring r fun x => { x with
    imageStatus := x.stns.map fun q => (q.stn, s.rd (Reg.XL_STN_STATUS + 1024 * r + 4 * q.stn))
    imageData := x.cleanInputs, inputs := [] }

/-- Judge the stations of one ring. -/
def State.judgeRing (s : State) (r : Nat) : State :=
  if !s.xRun r || s.station then s
  else (forEach ((s.xring r).stns.map (·.stn)) (State.judgeStn r) s).freezeImage r

/-- STATION_VIEW of both rings. -/
def State.stationViews (s : State) : State := ((s.judgeRing 0).judgeRing 1).showViews

/-- The thrusters whose station has VIEW `v` (R349). -/
def State.thrWithView (s : State) (v : Nat) : List Nat :=
  (List.range 2).flatMap fun r => ((tblEntries (s.xring r).table).filter fun e =>
    decide (eThr e < 24) && s.xRun r && s.fld (stf F.XL_STN_STATUS_VIEW r (eStn e)) == v).map eThr

/-- DUPLICATE ends (R355): EV146; the next INTAKE_CL forms the VIEW. -/
def State.dupEnd (s : State) (r stn : Nat) : State :=
  if (s.stnSeen r stn).dup then
    (s.modStn r stn fun q => { q with dup := false, clean := 0 }).raise 146 sevAlarm (srcXl r)
  else s

/-- DUPLICATE_CLEAR_COUNT (R355): 16 clean cycles on an unwrapped ring clear DUPLICATE. -/
def execDuplicateClearCount (ring : Fin 2) (stn : Byte) (s : State) : Host.Outcome State Fault Refusal :=
  s.gate 10 <| .next (if 16 ≤ (s.stnSeen ring.val stn.toNat).clean then s.dupEnd ring.val stn.toNat else s)

/-! ### XL_STN_CMD and MGMT frames (R331, R347, R355, R477) -/

/-- A station command ends: RESULT, GO cleared, and the STN_CMD descriptor that carried it completes. -/
def State.stnCmdEnd (s : State) (c : StnCmd) (result : Nat) : State :=
  let a := ((s.put F.XL_STN_CMD_RESULT result).setTo F.XL_STN_CMD_GO false).modXl fun x => { x with cmd := none }
  let info := if c.op = 1 ∧ result = 1 then (s.winBytes 0xC0040 8) else noInfo
  match c.carrier with
  | some d => a.endDesc d.1 d.2 0 result info
  | none => a

/-- Begin a station command: RESUME and DUP_CLEAR act at once, READ_ID and IDENTIFY wait for their MGMT frame. -/
def State.stnCmdBegin (s : State) (c : StnCmd) : State :=
  let a := ((((s.put F.XL_STN_CMD_OP c.op).put F.XL_STN_CMD_RING c.ring).put F.XL_STN_CMD_STN c.stn).setTo
    F.XL_STN_CMD_GO true).modXl fun x => { x with cmd := some c }
  match c.op with
  | 4 =>
    ((a.dupEnd c.ring c.stn).setTo (stf F.XL_STN_STATUS_UID_CHANGED c.ring c.stn) false).stnCmdEnd c 1
  | 3 =>
    if !s.isActive then a.stnCmdEnd c 4
    else (a.modStn c.ring c.stn fun q => { q with resume := true }).stnCmdEnd c 1
  | 1 => if !s.isActive then a.stnCmdEnd c 4 else a
  | 2 => if !s.isActive then a.stnCmdEnd c 4 else a
  | _ => a.stnCmdEnd c 2

/-- A write of XL_STN_CMD with GO: ignored while a command runs. -/
def State.stnCmdGo (s : State) (op ring stn : Nat) : State :=
  if s.xl.cmd.isSome then s else s.stnCmdBegin ⟨op, ring, stn, none, none⟩

/-- READ_ID (R331). -/
def execReadId (_req : Req) (ring : Fin 2) (stn : Byte) (s : State) : Host.Outcome State Fault Refusal :=
  s.gate 10 <| .next (s.stnCmdGo 1 ring.val stn.toNat)

/-- IDENTIFY (R331). -/
def execIdentify (_req : Req) (ring : Fin 2) (stn : Byte) (s : State) : Host.Outcome State Fault Refusal :=
  s.gate 10 <| .next (s.stnCmdGo 2 ring.val stn.toNat)

/-- RESUME (R347). -/
def execResume (_req : Req) (ring : Fin 2) (stn : Byte) (s : State) : Host.Outcome State Fault Refusal :=
  s.gate 10 <| .next (s.stnCmdGo 3 ring.val stn.toNat)

/-- DUP_CLEAR (R355). -/
def execDupClear (_req : Req) (ring : Fin 2) (stn : Byte) (s : State) : Host.Outcome State Fault Refusal :=
  s.gate 10 <| .next (s.stnCmdGo 4 ring.val stn.toNat)

/-- MGMT_SEND (R331): the ACTIVE member sends the command's MGMT frame at OUT_OFFSET + 100 µs; on a ring that does not run none
leaves, and the command ends without a reply. -/
def State.mgmtSend (s : State) : State :=
  match s.xl.cmd with
  | some c =>
    if c.sent.isSome || !s.isActive then s
    else
      let a := if s.xRun c.ring then
          s.xlLaunchAt (s.at F.CDR_OFS_C_OUT_OFFSET + 100000) c.ring 7 0 0 s.cdr.cyc 0
            ([BitVec.ofNat 8 c.op, BitVec.ofNat 8 c.stn, 0, 0] ++ List.replicate 44 0)
        else s
      a.modXl fun x => { x with cmd := some { c with sent := some s.cdr.cyc } }
  | none => s

/-- The ACTIVE member receives its MGMT frame back whole (R331). -/
def State.mgmtReturn (s : State) (r : Nat) (frame : List Byte) (fcs : XlFcs) : State :=
  match s.xl.cmd with
  | none => s.xlReturnFcs r fcs
  | some c =>
    if s.xlReturned r frame fcs 7 && s.isActive && c.sent.isSome && c.ring == r then
      let b := fPayload frame
      if fieldLe b 0 1 ≠ c.op ∨ fieldLe b 1 1 ≠ c.stn then s
      else if fieldLe b 2 1 = 1 then
        (if c.op = 1 then s.wrWords 0xC0040 (wordsOf 8 (b.drop 4)) else s).stnCmdEnd c 1
      else if fieldLe b 2 1 = 2 then s.stnCmdEnd c 2
      else s
    else s.xlReturnFcs r fcs

/-- MGMT_RETURN (R331). -/
def execMgmtReturn (ring : Fin 2) (frame : List Byte) (fcs : XlFcs) (s : State) : Host.Outcome State Fault Refusal :=
  s.gate 10 <| .next (s.mgmtReturn ring.val frame fcs)

/-- STN_CMD_TIMEOUT (R331): no reply within 2 cycles. -/
def execStnCmdTimeout (s : State) : Host.Outcome State Fault Refusal :=
  s.gate 10 <| .next (match s.xl.cmd with
    | some c => (match c.sent with | some n => if n + 2 ≤ s.cdr.cyc then s.stnCmdEnd c 3 else s | none => s)
    | none => s)

/-- The unit leaves ACTIVE: a station command that waits ends, and the descriptor that carried it is ABORTED_ROLE (R477). -/
def State.stnCmdRole (s : State) : State :=
  match s.xl.cmd with
  | some c =>
    let a := s.stnCmdEnd { c with carrier := none } 4
    match c.carrier with
    | some d => a.endDesc d.1 d.2 6 0 noInfo
    | none => a
  | none => s

end Sys2Proof.Machine
end

