-- ==== Sys2Proof/Machine/Redundancy.lean ====
section
/-! DEFINITION. The redundancy manager (08_redundancy_takeover.md): roles, the interlock, the mirror link, shadow compare,
fitness, handover and rehearsal (R292 to R319). -/

namespace Sys2Proof.Machine

/-- Change the redundancy manager. -/
def State.modRed (s : State) (f : Rdn → Rdn) : State := { s with red := f s.red }

/-- Source unit number of the redundancy manager (R489). -/
def srcRdn : Nat := 0x80

/-- GRP_SIZE. -/
def State.grpSize (s : State) : Nat := s.fld F.RDN_STATUS_GRP_SIZE

/-- The partners: line (0 for INTLK_IN0) and rank (R294, R295). -/
def State.partners (s : State) : List (Nat × Nat) :=
  let r := s.rank
  if s.grpSize = 3 then [(0, (r + 1) % 3), (1, (r + 2) % 3)] else if s.grpSize = 2 then [(0, 1 - r)] else []

/-- The level of a partner line. -/
def lineOf (l : Lines) (i : Nat) : Bool := if i = 0 then l.in0 else l.in1

/-- The partner lines in use that read claimed. -/
def State.claimedBy (s : State) (l : Lines) : List (Nat × Nat) := s.partners.filter fun p => lineOf l p.1

/-- Show the lines. -/
def State.showLines (s : State) (l : Lines) : State :=
  ((s.setTo F.RDN_STATUS_OWN_LINE l.own).setTo F.RDN_STATUS_IN0 l.in0).setTo F.RDN_STATUS_IN1 l.in1

/-- The lines as last read. -/
def State.seenLines (s : State) : Lines :=
  ⟨s.on F.RDN_STATUS_OWN_LINE, s.on F.RDN_STATUS_IN0, s.on F.RDN_STATUS_IN1⟩

/-! ### Fitness (R310, R312) -/

/-- CMP_LIMIT in force; 0 is treated as 1. -/
def State.cmpLimit (s : State) : Nat := Nat.max 1 (s.efld F.RDN_CMP_CFG_CMP_LIMIT)

/-- F3: the identities equal those of the last state record. -/
def State.sameIds (s : State) : Bool :=
  match s.red.last with
  | none => false
  | some r => r.epoch == s.rdn Reg.RDN_EPOCH && r.progId == s.rdn Reg.CDR_PROG_ID && r.version == s.rdn Reg.CDR_PROG_VER &&
      r.guardCv == s.rdn Reg.GRD_CV && r.setId == s.rdn Reg.CTL_SET_ID

/-- Device time at which HOLDOFF ends. -/
def State.holdoffEnd (s : State) : Nat := s.red.entered + s.efld F.RDN_CFG_HOLDOFF * 1000000000

/-- Seconds of HOLDOFF that are left, rounded up. -/
def State.holdoffLeft (s : State) : Nat := (s.holdoffEnd - s.now + 999999999) / 1000000000

/-- The waiver of R312 is in force. -/
def State.waived (s : State) : Bool := s.on F.RDN_FIT_WAIVED

/-- Which of F1 to F8 hold. -/
def State.fitConds (s : State) : List Bool :=
  [s.grdClaimEn, !s.on F.BOOT_STATUS_CFG_DEFAULTED && !s.on F.CDR_STATUS_TIMING_DEFAULTED, s.sameIds || s.waived,
    decide (Nat.max 1 (s.efld F.RDN_CFG_REVERT_SYNC) ≤ s.fld F.RDN_TRACK_TRACK_RUN) || s.waived,
    decide (s.holdoffEnd ≤ s.now) || s.waived,
    s.fld F.CDR_STATUS_STATE == 3 && s.pubFlag 1 && !s.on F.CTL_STATUS_SOLVER_LOST,
    decide (s.red.lineErr.1 < 3) && decide (s.red.lineErr.2 < 3),
    (decide (s.fld F.RDN_TRACK_FRAME_GAP < 3) && decide (s.fld F.RDN_TRACK_MISS_RUN < s.cmpLimit)) || s.waived]

/-- FAIL: bit k − 1 set where Fk fails. -/
def State.failMask (s : State) : Nat := (s.fitConds.zipIdx).foldl (fun m c => putBit m c.2 (!c.1)) 0

/-- FIT: a standby that meets every condition (R310). -/
def State.isFit (s : State) : Bool := s.rstate == rStandby && s.failMask == 0

/-- Fitness is evaluated: RDN_FIT, CLAIM_EN and FIT, with EV131 where FIT changes (R310, R320). -/
def State.refit (s : State) : State :=
  let a := ((s.put F.RDN_FIT_FAIL s.failMask).put F.RDN_FIT_HOLDOFF_LEFT
    (if s.rstate = rStandby then s.holdoffLeft else 0)).setTo F.RDN_STATUS_CLAIM_EN s.grdClaimEn
  let b := a.setTo F.RDN_STATUS_FIT s.isFit
  b.raiseIf (s.on F.RDN_STATUS_FIT != s.isFit) 131 sevWarn srcRdn (b.rdn Reg.RDN_FIT)

/-- HOLDOFF_EXPIRY (R310, F5). -/
def execHoldoffExpiry (s : State) : Host.Outcome State Fault Refusal :=
  s.gate 9 <| .next (if s.rstate = rStandby then (s.runTo s.holdoffEnd).refit else s)

/-- FIRST_START_WAIVER (R312): 500 consecutive cycles in STANDBY without a partner claim or a state record waive F3, F4, F5
and F8. -/
def execFirstStartWaiver (s : State) : Host.Outcome State Fault Refusal :=
  s.gate 9 <| .next (if s.rstate = rStandby ∧ !s.red.heard ∧ 500 ≤ s.red.quiet then (s.setTo F.RDN_FIT_WAIVED true).refit else s)

/-- A partner claim or a state record was heard: the waiver ends (R312). -/
def State.hear (s : State) : State := (s.modRed fun r => { r with heard := true }).setTo F.RDN_FIT_WAIVED false

/-- A partner is seen to claim, at whatever reading: a waiver in force ends (R312). -/
def State.partnerSeen (s : State) (claims : Bool) : State := if claims && s.waived then s.hear.refit else s

/-! ### Roles (R292, R293, R314) -/

/-- RSTATE changes: EV128, and what the role drives follows (R293). -/
def State.setRstate (s : State) (r : Nat) : State :=
  ((s.put F.RDN_STATUS_RSTATE r).raise1 128 sevAlarm srcRdn r).dioSettle

/-- Entering STANDBY starts HOLDOFF, and the count of R312 anew. -/
def State.standbyEntered (s : State) : State :=
  (s.modRed fun r => { r with entered := s.now, heard := false, quiet := 0 }).setTo F.RDN_FIT_WAIVED false

/-- The claim driver releases INTLK_OUT. -/
def State.dropLine (s : State) : State :=
  (s.modRed fun r => { r with out := false }).claimFalls.setTo F.RDN_STATUS_OWN_LINE false

/-- The unit leaves ACTIVE for `role`: a cycle launched is withdrawn up to the withdraw limit, INTLK is released, and what
needs the role ends (R292, R293, R477). -/
def State.leaveActive (s : State) (role : Nat) : State :=
  if !s.isActive then s
  else
    let a := (s.xlWithdraw.dropLine.setRstate role).stnCmdRole
    (if role = rStandby then a.standbyEntered else a).refit

/-- KIND of a claim: 1 first start, 2 takeover, 3 handover, 4 revert (R314 to R316). -/
def State.claimKind (s : State) : Nat :=
  match s.red.last with
  | none => 1
  | some r => if r.handover && r.rank != s.rank then (if r.revert then 4 else 3) else 2

/-- A claim completes: RDN_LAST, the counts, EV129 or EV130, and ACTIVE (R298, R314, R320). -/
def State.becomeActive (s : State) : State :=
  let k := s.claimKind
  let prev := (s.red.last.map (·.rank)).getD 0
  let gap := (s.red.last.map fun r => s.cdr.cyc - r.cyc - 1).getD 0
  let a := ((s.wr64 Reg.RDN_LAST_LO Reg.RDN_LAST_HI s.cdr.cyc).put F.RDN_LAST_INFO_KIND k).put F.RDN_LAST_INFO_PREV_RANK prev
  let b := ((a.putSat F.RDN_LAST_INFO_GAP gap).bump F.RDN_CNT_CLAIMS 1).bump F.RDN_CNT_GAPS (if k = 2 then gap else 0)
  let c := if k = 2 then b.raise 129 sevAlarm srcRdn else if k = 1 then b else b.raise 130 sevNotice srcRdn
  (c.setRstate rActive).refit

/-! ### Claiming the interlock (R298 to R301) -/

/-- At the rank slot the partner lines are sampled; a FIT standby drives INTLK_OUT low where all used partner lines have
read released for 10 µs (`free`) and STANDBY_ONLY is 0 (R298); the sample counts toward R312. -/
def State.claimSample (s : State) (l : Lines) (free : Bool) : State :=
  if s.station then s
  else
    let a := (s.runTo (s.at F.CDR_OFS_A_INTAKE_CL + 20000 * s.rank)).showLines l
    if a.rstate ≠ rStandby then a
    else
      let claimed := !(a.claimedBy l).isEmpty
      let b := if claimed then a.hear else a.modRed fun r => { r with quiet := r.quiet + 1 }
      let c := b.refit
      if c.isFit && (free || s.partners.isEmpty) && !claimed && !c.eon F.RDN_CTRL_STANDBY_ONLY then
        (c.modRed fun r => { r with out := true, claimAt := c.now }).grdShow
      else c

/-- CLAIM_SAMPLE (R298). -/
def execClaimSample (lines : Lines) (free : Bool) (s : State) : Host.Outcome State Fault Refusal :=
  s.gate 9 <| .next (s.claimSample lines free)

/-- 2 µs after its claim the unit reads back (R298), and a partner claim seen there ends a waiver (R312): `tie` says that the partner's line fell in the same CK_FAB clock, which
the lower rank wins (R299). -/
def State.claimRead (s : State) (l : Lines) (tie : Bool) : State :=
  if s.rstate ≠ rStandby || !s.red.out then s
  else
    let rivals := s.claimedBy l
    let a := ((s.runTo (s.red.claimAt + 2000)).showLines l).partnerSeen !rivals.isEmpty
    if !l.own then ((a.dropLine.setTo F.RDN_STATUS_CLAIM_FAIL true).raise 134 sevSafety srcRdn)
    else if rivals.isEmpty || (tie && rivals.all fun p => decide (s.rank < p.2)) then a.becomeActive
    else a.dropLine

/-- CLAIM_READBACK (R298, R299). -/
def execClaimReadback (lines : Lines) (tie : Bool) (s : State) : Host.Outcome State Fault Refusal :=
  s.gate 9 <| .next (s.claimRead lines tie)

/-- Of two units that claim, the one of higher rank leaves ACTIVE: CONTENTION, EV134 (R300); within 2 µs of the own claim
R298 decides instead. -/
def State.contend (s : State) (partner : Nat) : State :=
  if s.isActive && decide (partner < s.rank) && decide (s.red.claimAt + 2000 < s.now) then
    ((s.setTo F.RDN_STATUS_CONTENTION true).raise 134 sevSafety srcRdn).leaveActive rStandby
  else s

/-- Is the time inside the window in which a partner's rehearsal pulse is ignored (R317)? -/
def State.inRehWindow (s : State) : Bool :=
  decide (s.at F.CDR_OFS_A_INTAKE_CL + 90000 ≤ s.now ∧ s.now ≤ s.at F.CDR_OFS_A_INTAKE_CL + 110000)

/-- A partner line reads claimed, or (`frame`) its compare record says ACTIVE: contention (R300), but for a partner's
rehearsal pulse, which only counts as REH_SEEN (R317). -/
def State.partnerClaim (s : State) (line : Nat) (frame : Bool) : State :=
  match s.partners.find? (·.1 == line) with
  | none => s
  | some p =>
    let a := if frame then s else s.showLines { s.seenLines with
      in0 := line == 0 || s.seenLines.in0, in1 := line == 1 || s.seenLines.in1 }
    if !frame && (if line = 0 then s.red.rehNow.1 else s.red.rehNow.2) && s.inRehWindow then
      s.modRed fun r => { r with rehSeen := true }
    else (a.partnerSeen true).contend p.2

/-- PARTNER_CLAIM (R300). -/
def execPartnerClaim (second frame : Bool) (s : State) : Host.Outcome State Fault Refusal :=
  s.gate 9 <| .next (s.partnerClaim (b2n second) frame)

/-- OWN_LINE_RELEASED (R301): the ACTIVE unit's own line reads released for 1 µs; EV134. -/
def execOwnLineReleased (s : State) : Host.Outcome State Fault Refusal :=
  s.gate 9 <| .next (if s.isActive then ((s.setTo F.RDN_STATUS_OWN_LINE false).raise 134 sevSafety srcRdn).leaveActive rStandby else s)

/-! ### Mirror records (R302 to R305) -/

/-- CMP_PRG in force. -/
def State.cmpPrg (s : State) : Nat := satN 1792 (s.efld F.RDN_CMP_CFG_CMP_PRG)

/-- REVERT_REQ: a FIT standby of lower rank than the active unit's (R316). -/
def State.revertReq (s : State) : Bool :=
  s.on F.RDN_STATUS_FIT && s.eon F.RDN_CFG_REVERT && (match s.red.last with | some r => decide (s.rank < r.rank) | none => false)

/-- RDN_REH_CYC in force. -/
def State.rehCyc (s : State) : Nat := s.efld F.RDN_REH_CYC_LO_REH_CYC + 2 ^ 32 * s.efld F.RDN_REH_CYC_HI_REH_CYC

/-- The records of this cycle announce a rehearsal for the next one (R317). -/
def State.rehAnnounced (s : State) : Bool := s.rstate == rStandby && s.on F.RDN_CTRL_REHEARSE && s.rehCyc == s.cdr.cyc + 1

/-- A record: header and body with the CRC over both (R303). -/
def State.record (s : State) (kind : Nat) (noSet : Bool) (body : List Byte) : List Byte :=
  let l := s.red.lines
  let fl := b2n (s.on F.RDN_STATUS_FIT) + 2 * b2n s.red.handing + 4 * b2n s.revertReq + 8 * b2n s.rehAnnounced + 16 * b2n noSet +
    32 * b2n l.1 + 64 * b2n l.2.1 + 128 * b2n l.2.2
  let h := [0x4D, 0x52, 0x4C, 0x4B, BitVec.ofNat 8 kind, BitVec.ofNat 8 s.rank, BitVec.ofNat 8 fl, BitVec.ofNat 8 s.rstate] ++
    leBytes 8 s.cdr.cyc ++ leBytes 8 s.cdr.pt ++ leBytes 8 (code 64 s.cdr.ptAdj) ++ leBytes 4 (s.rdn Reg.RDN_EPOCH) ++
    leBytes 4 (s.rdn Reg.CDR_PROG_ID) ++ leBytes 4 (s.rdn Reg.CDR_PROG_VER) ++ leBytes 4 (s.rdn Reg.GRD_CV) ++
    leBytes 4 (s.rdn Reg.CTL_SET_ID) ++ leBytes 2 (64 + body.length) ++ [BitVec.ofNat 8 s.gstate, BitVec.ofNat 8 (b2n s.red.rehSeen)] ++
    [0, 0, 0, 0]
  h ++ leBytes 4 (crc32c (h ++ [0, 0, 0, 0] ++ body)) ++ body

/-- A frame filled up with zeros to the 60 bytes that make 64 with its FCS (R362; the zeros PRESUMED from IEEE 802.3, log entry 45). -/
def padFrame (fr : List Byte) : List Byte := fr ++ List.replicate (60 - fr.length) 0

/-- The Ethernet frames of a record on port p (R302). -/
def State.mirFrames (s : State) (p : Nat) (rec : List Byte) : List (List Byte) :=
  let n := (rec.length + 1439) / 1440
  (List.range n).map fun i =>
    let part := (rec.drop (1440 * i)).take 1440
    padFrame <| beBytes 6 (Config.partnerMac p).toNat ++ beBytes 6 (s.portMac p) ++ [0x88, 0xB5] ++ leBytes 4 (fieldLe rec 8 8) ++
      [rec.getD 4 0, BitVec.ofNat 8 i, BitVec.ofNat 8 n, 0] ++ leBytes 2 part.length ++ List.replicate 6 0 ++ part

/-- The mirror ports in use: the port of each partner. -/
def State.mirPorts (s : State) : List Nat := s.partners.map fun p => if p.1 = 0 then s.red.ports.1 else s.red.ports.2

/-- Post a record on launch ring 0 of every mirror port (R304). -/
def State.sendRecord (s : State) (rec : List Byte) (at_ : Nat) : State :=
  forEach s.mirPorts (fun p s =>
    forEach (launchSlots (s.fld (pf F.ETH_Pp_STATUS_SPEED p)) at_ (s.mirFrames p rec)) (fun f s => s.postLaunch0 p f.1 f.2) s) s

/-- Staged words in a range as bytes. -/
def State.stagedBytes (s : State) (a n : Nat) : List Byte := bytesOf ((List.range n).map fun i => setWord s.cdr.staged (a + i))

/-- The program region that shadow compare covers (R308). -/
def State.prgCrc (s : State) : Nat := crc32c (s.stagedBytes 256 s.cmpPrg)

/-- At STAGE_DL + 100 ns a member sends its compare record; without a set, or ACTIVE in a withheld cycle, NO_SET (R304). -/
def State.compareSend (s : State) : State :=
  if s.rstate ≠ rStandby ∧ !s.isActive then s
  else
    let noSet := !s.stagedNow || (s.isActive && !s.grd.released)
    let body := if noSet then [] else s.stagedBytes 0 56 ++ s.stagedBytes 64 22 ++ leBytes 4 s.prgCrc
    s.sendRecord (s.record 2 noSet body) (s.at F.CDR_OFS_B_STAGE_DL + 100)

/-- The control block (R305). -/
def State.controlBlock (s : State) : List Byte :=
  let r := s.refAt s.cdr.t0
  let q (xs : List Nat) : List Byte := f64Bytes xs
  let az (i : Nat) : Bool := s.thrs.any fun t => t.idx == i && t.isAz
  q s.ctl.integ ++ q [r.pos.1, r.pos.2, r.vel.1, r.vel.2, r.acc.1, r.acc.2] ++ q [r.psi.1, r.psi.2.1, r.psi.2.2] ++ q s.ctl.windLp ++
    [BitVec.ofNat 8 s.ctl.wp, BitVec.ofNat 8 s.ctl.wpGen, 0, 0] ++
    leBytes 4 (if s.colRuns then s.cdr.cyc - s.colCyc else 0xFFFFFFFF) ++
    ((List.range 24).map fun i => BitVec.ofNat 8 (if az i then s.sector i else 0xF)) ++
    ((List.range 24).map fun i => BitVec.ofNat 8 (s.ctl.edges.getD i (0, 0)).2) ++ List.replicate 80 0

/-- From OUT_OFFSET + 10 µs the unit that was ACTIVE at STAGE_DL sends the state record of a cycle its guard released and
did not withdraw (R304), also where it left ACTIVE after the withdraw limit, so that the cycle counts as commanded (R314);
the unit's own set is then the last commanded one. -/
def State.stateSend (s : State) : State :=
  if !s.red.activeAtStage || !s.grd.released then s
  else
    let a := s.sendRecord (s.record 1 false (s.controlBlock ++ s.stagedBytes 0 56 ++ s.retainedCopy)) (s.at F.CDR_OFS_C_OUT_OFFSET + 10000)
    a.modRed fun r => { r with
      last := some ⟨s.rank, s.cdr.cyc, s.red.handing, false, s.rdn Reg.RDN_EPOCH, s.rdn Reg.CDR_PROG_ID, s.rdn Reg.CDR_PROG_VER,
        s.rdn Reg.GRD_CV, s.rdn Reg.CTL_SET_ID⟩
      lastAt := s.now }

/-! ### Reception (R302, R304, R306, R308) -/

/-- Is the frame a mirror frame? -/
def isMirror (fr : List Byte) : Bool := etherType fr == 0x88B5

/-- The fragment a mirror frame on port p carries, if it is one (R302). -/
def fragOf (p : Nat) (fr : List Byte) : Option MirFrag :=
  let b := fr.drop (l3At fr)
  let n := fieldLe b 8 2
  if fieldLe b 5 1 < fieldLe b 6 1 ∧ fieldLe b 6 1 ≤ 8 ∧ n ≤ 1440 ∧ 16 + n ≤ b.length then
    some ⟨p, fieldLe b 0 4, fieldLe b 4 1, fieldLe b 5 1, fieldLe b 6 1, (b.drop 16).take n⟩
  else none

/-- A frame arrives at port p: a mirror frame on a mirror port goes to the redundancy manager, any other to R363. -/
def State.ethFrame (s : State) (p : Nat) (fr : List Byte) (fcsOk : Bool) : State :=
  if isMirror fr && !s.station && s.mirPorts.contains p && s.rxRuns p && fcsOk && s.accepts p fr && decide (fr.length ≤ 1518) then
    match fragOf p fr with
    | some f => s.modRed fun r => { r with frags := r.frags ++ [f] }
    | none => s
  else s.rxFrame p fr fcsOk

/-- ETH_RX_FRAME (R363, R302). -/
def execEthRxFrame (port : Fin 4) (frame : List Byte) (fcsOk : Bool) (s : State) : Host.Outcome State Fault Refusal :=
  s.gate 10 <| .next (s.ethFrame port.val frame fcsOk)

/-- Do two fragments belong to one record? -/
def MirFrag.with_ (a b : MirFrag) : Bool := a.port == b.port && a.cycLo == b.cycLo && a.kind == b.kind && a.count == b.count

/-- The bytes of the record a fragment belongs to, once all of them are there. -/
def assemble (fs : List MirFrag) (f : MirFrag) : Option (List Byte) :=
  let parts := (List.range f.count).map fun i => fs.find? fun g => g.with_ f && g.index == i
  if parts.all (·.isSome) then some (parts.flatMap fun g => (g.map (·.bytes)).getD []) else none

/-- The first whole record of a kind that port p holds. -/
def State.wholeRecord (s : State) (p kind : Nat) : Option (MirFrag × List Byte) :=
  (s.red.frags.filter fun f => f.port == p && f.kind == kind).findSome? fun f => (assemble s.red.frags f).map fun b => (f, b)

/-- Is a record valid: MAGIC, KIND, LENGTH and CRC, and its sender a partner (R302, R303)? -/
def State.recordOk (s : State) (kind : Nat) (b : List Byte) : Bool :=
  decide (64 ≤ b.length) && fieldLe b 0 4 == 0x4B4C524D && fieldLe b 4 1 == kind && fieldLe b 52 2 == b.length &&
    fieldLe b 60 4 == crc32c (b.take 60 ++ [0, 0, 0, 0] ++ b.drop 64) && (s.partners.any fun p => p.2 == fieldLe b 5 1)

/-- A record missed its deadline: MIR_LATE, EV133 (R304). -/
def State.mirLate (s : State) : State := (s.setTo F.RDN_STATUS_MIR_LATE true).raise 133 sevWarn srcRdn

/-- The run index of a state record of cycle `cyc` (R306): a run of the standby, armed as R234 says, counts from the record's
CYC on, its PRBS register with it.  STATE moves by R229's table alone. -/
def State.takeRun (s : State) (cyc idx : Nat) : State :=
  if idx = 0xFFFFFFFF ∨ !s.colRuns then s
  else
    let a := s.wr64 Reg.CTL_COL_CYC_LO Reg.CTL_COL_CYC_HI (cyc - idx)
    a.modCtl fun c => { c with lfsr := (List.range (idx / a.colP1)).foldl (fun r _ => lfsrNext r) 0x7FF }

/-- The control block of the state record of cycle `cyc` goes to the control engine (R306). -/
def State.takeControl (s : State) (cyc : Nat) (b : List Byte) : State :=
  let q (a n : Nat) : List Nat := f64sAt b a n
  let h := q 24 6
  let y := q 72 3
  let r : RefState := ⟨(nth h 0, nth h 1), (nth h 2, nth h 3), (nth h 4, nth h 5), (nth y 0, nth y 1, nth y 2)⟩
  let a := s.modCtl fun c => { c with
    integ := q 0 3, windLp := q 96 3, wp := fieldLe b 120 1, wpGen := fieldLe b 121 1
    plan := c.plan.renew true true s.cdr.t0 r c.target c.limits
    edges := (List.range 24).map fun i => ((c.edges.getD i (0, 0)).1, fieldLe b (152 + i) 1) }
  let d := forEach (a.thrs.filter (·.isAz)) (fun t x =>
    let k := fieldLe b (128 + t.idx) 1
    if k < t.sects.length ∧ k ≠ x.sector t.idx then
      (x.setSector t.idx k).modCtl fun c => { c with sectDue := c.sectDue ++ [t.idx] }
    else x) a
  d.takeRun cyc (fieldLe b 124 4)

/-- The words of a set given as bytes from word `a` on. -/
def wordsAt (b : List Byte) (n a : Nat) : List (Nat × Word) :=
  ((wordsOf n b).zipIdx).foldl (fun m p => sset (fun _ => (0 : Word)) m (a + p.2) p.1) []

/-- What the unit keeps of a state record. -/
def stateRec (b : List Byte) (revert : Bool) : StateRec :=
  ⟨fieldLe b 5 1, fieldLe b 8 8, bitAt (fieldLe b 6 1) 1, revert, fieldLe b 32 4, fieldLe b 36 4, fieldLe b 40 4, fieldLe b 44 4,
    fieldLe b 48 4⟩

/-- A standby takes the mirrored items of a valid state record (R306, R307). -/
def State.adopt (s : State) (b : List Byte) : State :=
  let body := b.drop 64
  let words := wordsAt (body.drop 256) 56 0
  let src := (setWord words 1).toNat / 2 ^ 28
  let a := s.takeControl (fieldLe b 8 8) (body.take 256)
  let own := (s.cdr.cyc, s.cdr.pt, s.cdr.ptAdj)
  let got : Nat × Nat × Int := (fieldLe b 8 8, fieldLe b 16 8, sgn 64 (fieldLe b 24 8))
  let c := a.modCtl fun c => { c with
    tau0 := if src ≠ srcNone then (List.range 3).map fun k => f32to64 (setWord words (2 + k)).toNat else c.tau0 }
  c.modRed fun r => { r with
    base := some words, retained := body.drop 480, gotState := true
    resync := if got = own then none else some got }

/-- A whole state record arrives (R306); DIAGNOSTIC takes nothing, INIT only what R95 needs. -/
def State.stateTake (s : State) (b : List Byte) : State :=
  let a := s.hear.modRed fun r => { r with last := some (stateRec b s.revertReq), lastAt := s.now }
  (if s.rstate = rStandby then a.adopt b else a).refit

/-- STATE_RECORD_RECEIVE (R302, R306): a record that fails its checks is discarded.  One past SWITCH is late, and so is one
that comes before the OUT_OFFSET from which this cycle's are sent: it is of an earlier cycle (R304). -/
def State.stateReceive (s : State) (p : Nat) : State :=
  match s.wholeRecord p 1 with
  | none => s
  | some fb =>
    let a := s.modRed fun r => { r with frags := r.frags.filter fun g => !g.with_ fb.1 }
    if !a.recordOk 1 fb.2 || a.rstate = rDiagnostic || a.isActive then a
    else if a.cdr.grid && decide (a.at F.CDR_OFS_C_SWITCH < a.now ∨ a.now < a.at F.CDR_OFS_C_OUT_OFFSET) then a.mirLate
    else a.stateTake fb.2

/-- STATE_RECORD_RECEIVE (R306). -/
def execStateRecordReceive (port : Fin 4) (s : State) : Host.Outcome State Fault Refusal :=
  s.gate 9 <| .next (s.stateReceive port.val)

/-! ### Shadow compare (R308) -/

/-- Do the τ_0 words agree? -/
def State.tauAgrees (s : State) (own got : Nat → Word) : Bool :=
  (List.range 3).all fun c =>
    fle (fabs (fsub (f32to64 (own (2 + c)).toNat) (f32to64 (got (2 + c)).toNat))) (fmul (s.tauRate c) s.tbSec)

/-- Does thruster i's command agree? -/
def State.cmdAgrees (s : State) (own got : Nat → Word) (i : Nat) : Bool :=
  let lim : Nat := 8 * s.efld F.RDN_CMP_CFG_CMP_THR
  let a := own (8 + 2 * i)
  let b := got (8 + 2 * i)
  let big := decide (lim ≤ (cmdThrust a).natAbs) || decide (lim ≤ (cmdThrust b).natAbs)
  decide ((cmdThrust a - cmdThrust b).natAbs ≤ lim) &&
    (!big || decide (angleChange (cmdAngle a) (cmdAngle b) ≤ 8 * s.efld F.RDN_CMP_CFG_CMP_ANG)) &&
    decide (bitsOf (own (9 + 2 * i)).toNat 31 24 = bitsOf (got (9 + 2 * i)).toNat 31 24)

/-- Does a set agree with a record's words and program CRC (R308)? -/
def State.setAgrees (s : State) (got : Nat → Word) (crc : Nat) : Bool :=
  let own := setWord s.cdr.staged
  own 0 == got 0 && bitsOf (own 1).toNat 31 18 == bitsOf (got 1).toNat 31 18 && s.tauAgrees own got &&
    (List.range 24).all (s.cmdAgrees own got) && bitsOf (own 64).toNat 31 25 == bitsOf (got 64).toNat 31 25 &&
    own 84 == got 84 && own 85 == got 85 && (s.cmpPrg == 0 || s.prgCrc == crc)

/-- The verdict on a compare record of the ACTIVE unit. -/
def State.verdictOn (s : State) (b : List Byte) : Option Bool :=
  if bitAt (fieldLe b 6 1) 4 ∨ fieldLe b 7 1 ≠ rActive ∨ fieldLe b 8 8 ≠ s.cdr.cyc ∨ s.rstate ≠ rStandby then none
  else if !s.stagedNow then some false
  else
    let body := b.drop 64
    let lo := wordsAt body 56 0
    let hi := wordsAt (body.drop 224) 22 64
    some (s.setAgrees (fun i => if i < 56 then setWord lo i else setWord hi i) (fieldLe body 312 4))

/-- Change what this cycle's records told of the partner at a line. -/
def State.modPartner (s : State) (line : Nat) (f : PartnerNow → PartnerNow) : State :=
  s.modRed fun r => if line = 0 then { r with now0 := f r.now0 } else { r with now1 := f r.now1 }

/-- The registers of the partner at a line. -/
def State.showPartner (s : State) (line : Nat) (b : List Byte) : State :=
  let off (f : Fld) : Fld := f.plus (4 * line)
  let fl := fieldLe b 6 1
  ((((s.put (off F.RDN_PARTNER0_RSTATE) (fieldLe b 7 1)).put (off F.RDN_PARTNER0_GSTATE) (fieldLe b 54 1)).setTo
    (off F.RDN_PARTNER0_FIT) (bitAt fl 0)).setTo (off F.RDN_PARTNER0_REVERT_REQ) (bitAt fl 2)).put (off F.RDN_PARTNER0_AGE) 0

/-- F7: the partner's OWN_LINE flag against this unit's reading of the line at STAGE_DL; the third disagreement in a row sets
LINE_FAULT and raises EV134. -/
def State.lineCheck (s : State) (line : Nat) (own : Bool) : State :=
  let read := if line = 0 then s.red.lines.2.1 else s.red.lines.2.2
  let old := if line = 0 then s.red.lineErr.1 else s.red.lineErr.2
  let n := if read = own then 0 else satN 3 (old + 1)
  let a := s.modRed fun r => { r with lineErr := if line = 0 then (n, r.lineErr.2) else (r.lineErr.1, n) }
  if n = 3 ∧ old < 3 then (a.setTo F.RDN_STATUS_LINE_FAULT true).raise 134 sevSafety srcRdn else a

/-- A valid compare record of the partner at a line (R300, R303, R308). -/
def State.compareTake (s : State) (line : Nat) (b : List Byte) : State :=
  let fl := fieldLe b 6 1
  let v := s.verdictOn b
  let a := (s.showPartner line b).modPartner line fun _ => ⟨true, bitAt fl 0, bitAt fl 2, bitAt (fieldLe b 55 1) 0, bitAt fl 4⟩
  let c := a.modRed fun r => { r with
    rehNext := if line = 0 then (bitAt fl 3, r.rehNext.2) else (r.rehNext.1, bitAt fl 3)
    verdict := match v with | some x => some x | none => r.verdict }
  let d := (c.lineCheck line (bitAt fl 5)).refit
  if fieldLe b 7 1 = rActive then (d.partnerSeen true).contend (fieldLe b 5 1) else d

/-- COMPARE_RECORD_RECEIVE (R302, R308): one past OUT_OFFSET, or before the STAGE_DL from which this cycle's are sent, is late
(R304). -/
def State.compareReceive (s : State) (p : Nat) : State :=
  match s.wholeRecord p 2 with
  | none => s
  | some fb =>
    let a := s.modRed fun r => { r with frags := r.frags.filter fun g => !g.with_ fb.1 }
    if !a.recordOk 2 fb.2 || (a.rstate ≠ rStandby && !a.isActive) then a
    else if a.cdr.grid && decide (a.at F.CDR_OFS_C_OUT_OFFSET < a.now ∨ a.now < a.at F.CDR_OFS_B_STAGE_DL) then a.mirLate
    else match s.partners.find? (·.2 == fieldLe fb.2 5 1) with
      | some q => a.compareTake q.1 fb.2
      | none => a

/-- COMPARE_RECORD_RECEIVE (R308). -/
def execCompareRecordReceive (port : Fin 4) (s : State) : Host.Outcome State Fault Refusal :=
  s.gate 9 <| .next (s.compareReceive port.val)

/-- RSTATE of the partner at a line, from its last valid record. -/
def State.partnerState (s : State) (line : Nat) : Nat := s.fld (F.RDN_PARTNER0_RSTATE.plus (4 * line))

/-- Did a record of the cycle that a partner owes not come in?  A compare record is owed by a partner last known in STANDBY
or ACTIVE, a state record by one last known ACTIVE whose compare record of the cycle does not say NO_SET (R304). -/
def State.recordMissing (s : State) (compare : Bool) (line : Nat) : Bool :=
  let n := if line = 0 then s.red.now0 else s.red.now1
  let r := s.partnerState line
  if compare then (s.rstate == rStandby || s.isActive) && (r == rStandby || r == rActive) && !n.fresh
  else s.rstate == rStandby && r == rActive && !(n.fresh && n.noSet) && !s.red.gotState

/-- MIRROR_DEADLINE (R304): the deadline of a kind passes; what is incomplete is discarded, and a record that did not come in
counts as missing, with MIR_LATE. -/
def State.mirDeadline (s : State) (compare : Bool) : State :=
  let a := s.runTo (if compare then s.at F.CDR_OFS_C_OUT_OFFSET else s.at F.CDR_OFS_C_SWITCH)
  let b := a.modRed fun r => { r with frags := r.frags.filter fun f => f.kind != (if compare then 2 else 1) }
  if s.partners.any fun p => s.recordMissing compare p.1 then b.mirLate else b

/-- MIRROR_DEADLINE (R304). -/
def execMirrorDeadline (compare : Bool) (s : State) : Host.Outcome State Fault Refusal :=
  s.gate 9 <| .next (s.mirDeadline compare)

/-! ### The tracking counts (R311) -/

/-- FRAME_GAP after the cycle. -/
def State.nextGap (s : State) : Nat := if s.red.gotState then 0 else satN 255 (s.fld F.RDN_TRACK_FRAME_GAP + 1)

/-- MISS_RUN after the cycle. -/
def State.nextMiss (s : State) : Nat :=
  match s.red.verdict with
  | some true => 0
  | some false => satN 255 (s.fld F.RDN_TRACK_MISS_RUN + 1)
  | none => s.fld F.RDN_TRACK_MISS_RUN

/-- TRACK_RUN after the cycle. -/
def State.nextTrack (s : State) : Nat :=
  if 3 ≤ s.nextGap ∨ s.cmpLimit ≤ s.nextMiss ∨ !s.sameIds ∨ s.red.resynced then 0
  else if s.red.gotState ∧ s.red.verdict = some true then satN 65535 (s.fld F.RDN_TRACK_TRACK_RUN + 1)
  else s.fld F.RDN_TRACK_TRACK_RUN

/-- At the sample instant a controller's counts move for the cycle just ended; EV132 and EV133 where a limit is reached; a
mismatched cycle counts in RDN_CNT (R311, R320). -/
def State.trackCounts (s : State) : State :=
  if s.station then s
  else
    let a := ((s.put F.RDN_TRACK_FRAME_GAP s.nextGap).put F.RDN_TRACK_MISS_RUN s.nextMiss).put F.RDN_TRACK_TRACK_RUN s.nextTrack
    let b := if s.red.verdict = some false then a.bump F.RDN_CNT_MISMATCH 1 else a
    let c := if s.cmpLimit ≤ s.nextMiss ∧ s.fld F.RDN_TRACK_MISS_RUN < s.cmpLimit then b.raise 132 sevWarn srcRdn else b
    if 3 ≤ s.nextGap ∧ s.fld F.RDN_TRACK_FRAME_GAP < 3 then c.raise 133 sevWarn srcRdn else c

/-- A new cycle of the mirror link: the counts, the ages of the partners' records, and what lasts one cycle. -/
def State.rdnSample (s : State) : State :=
  let a := s.trackCounts
  let age (f : Fld) (x : State) : State := x.putSat f (x.fld f + 1)
  let b := age F.RDN_PARTNER1_AGE (age F.RDN_PARTNER0_AGE a)
  (b.modRed fun r => { r with
    gotState := false, verdict := none, resynced := false, now0 := .none, now1 := .none, rehSeen := false
    rehNow := r.rehNext, rehNext := (false, false), handing := false }).refit

/-! ### Handover and revert (R315, R316) -/

/-- A FIT partner's compare record of this cycle. -/
def State.fitPartners (s : State) : List (Nat × Nat) :=
  s.partners.filter fun p => let n := if p.1 = 0 then s.red.now0 else s.red.now1; n.fresh && n.fit

/-- Revertive return applies: a FIT lower-ranked standby asks for it (R316). -/
def State.reverts (s : State) : Bool :=
  s.eon F.RDN_CFG_REVERT && s.fitPartners.any fun p =>
    decide (p.2 < s.rank) && (if p.1 = 0 then s.red.now0 else s.red.now1).revert

/-- A cause of R315 is present; `refOk` says that a FIT partner reports REF_DEGRADED 0. -/
def State.handCause (s : State) (refOk : Bool) : Bool :=
  s.gstate == gDegraded || s.on F.CTL_STATUS_SOLVER_LOST || (s.on F.FUS_STATUS_REF_DEGRADED && refOk) || s.on F.RDN_CTRL_HANDOVER

/-- The decision of the cycle, which its state record carries: hand over, or refuse a HANDOVER request without a FIT partner
(R315). -/
def State.handDecide (s : State) (refOk : Bool) : State :=
  if !s.isActive then s
  else if (s.handCause refOk && !s.fitPartners.isEmpty) || s.reverts then s.modRed fun r => { r with handing := true }
  else if s.on F.RDN_CTRL_HANDOVER then (s.setTo F.RDN_STATUS_HANDOVER_REFUSED true).setTo F.RDN_CTRL_HANDOVER false
  else s

/-- A standby goes to DIAGNOSTIC (R292). -/
def State.standbyDiag (s : State) : State := ((s.dropLine.setRstate rDiagnostic).modRed fun r => { r with base := none }).refit

/-- SWITCH of the cycle: a DIAG written while ACTIVE takes the unit to DIAGNOSTIC, also where it has become a standby since; a
handover releases INTLK, EV130 (R292, R315). -/
def State.roleSwitch (s : State) : State :=
  if s.on F.RDN_CTRL_DIAG then
    (if s.isActive then s.leaveActive rDiagnostic else if s.rstate = rStandby then s.standbyDiag else s).setTo F.RDN_CTRL_DIAG false
  else if s.isActive && s.red.handing then
    ((s.raise 130 sevNotice srcRdn).leaveActive rStandby).setTo F.RDN_CTRL_HANDOVER false
  else if !s.isActive then s.setTo F.RDN_CTRL_HANDOVER false
  else s

/-- A write of RDN_CTRL.DIAG (R292): at once from STANDBY, at SWITCH from ACTIVE. -/
def State.diagGo (s : State) : State :=
  if s.station then s
  else if s.rstate = rStandby then s.standbyDiag
  else if s.isActive then s.setTo F.RDN_CTRL_DIAG true
  else s

/-- DIAG (R292). -/
def execDiag (_req : Req) (s : State) : Host.Outcome State Fault Refusal :=
  s.gate 9 <| .next s.diagGo

/-- HANDOVER (R315): the request waits for the decision of the cycle. -/
def execHandover (_req : Req) (s : State) : Host.Outcome State Fault Refusal :=
  s.gate 9 <| .next (s.setTo F.RDN_CTRL_HANDOVER true)

/-! ### Rehearsal (R317) -/

/-- REHEARSE (R317). -/
def execRehearse (_req : Req) (s : State) : Host.Outcome State Fault Refusal :=
  s.gate 9 <| .next (s.setTo F.RDN_CTRL_REHEARSE true)

/-- The result of a rehearsal: RDN_REH_STATUS, REH_DONE, EV135. -/
def State.rehResult (s : State) (result : Nat) (p : Bool × Bool × Bool) (frames : Bool) : State :=
  let v := result * 2 ^ 28 + 32 * b2n frames + 16 * b2n s.red.now1.rehSeen + 8 * b2n s.red.now0.rehSeen + 4 * b2n p.1 +
    2 * b2n p.2.1 + b2n p.2.2
  let a := ((s.wrn Reg.RDN_REH_STATUS v).setTo F.RDN_STATUS_REH_DONE true).setTo F.RDN_CTRL_REHEARSE false
  (a.modRed fun r => { r with rehPulse := none }).raise1 135 sevNotice srcRdn v

/-- REHEARSAL_PULSE (R317, steps 1 to 3): at INTAKE_CL + 100 µs of RDN_REH_CYC the standby checks the partner lines; with
exactly one claimed it pulses its line for 2 µs and reads it back, after which the pad reads released; otherwise the
rehearsal is abandoned without a pulse, and the pad shows what it reads. -/
def State.rehGo (s : State) (l : Lines) : State :=
  if s.rstate ≠ rStandby || !s.on F.RDN_CTRL_REHEARSE || s.rehCyc ≠ s.cdr.cyc then s
  else
    let seen := s.claimedBy l
    let one := seen.length == 1
    let a := ((s.runTo (s.at F.CDR_OFS_A_INTAKE_CL + 100000)).showLines (if one then { l with own := false } else l)).partnerSeen !seen.isEmpty
    let p := (l.own, a.grdClaimEn, a.on F.RDN_STATUS_FIT)
    if !one then a.rehResult 3 (false, p.2) false
    else a.modRed fun r => { r with rehPulse := some p }

/-- REHEARSAL_PULSE (R317): `lines` is the reading during the pulse. -/
def execRehearsalPulse (lines : Lines) (s : State) : Host.Outcome State Fault Refusal :=
  s.gate 9 <| .next (s.rehGo lines)

/-- Does one word of an output frame agree, by the tolerances of R308? -/
def State.wordAgrees (s : State) (w : Nat) (a b : Word) : Bool :=
  let at_ (x : Word) (i : Nat) : Word := if i = w then x else 0
  if w = 0 then a == b
  else if w = 1 then bitsOf a.toNat 31 18 == bitsOf b.toNat 31 18
  else if w < 5 then s.tauAgrees (at_ a) (at_ b)
  else if w < 8 then true
  else if w < 56 then s.cmdAgrees (at_ a) (at_ b) ((w - 8) / 2)
  else if w = 64 then bitsOf a.toNat 31 25 == bitsOf b.toNat 31 25
  else if w = 84 ∨ w = 85 then a == b
  else decide (w < 256 ∨ 256 + s.cmpPrg ≤ w) || a == b

/-- Do the words of a station's slot in the active unit's frame that passed agree with the own set? -/
def State.slotAgrees (s : State) (r : Nat) (e : List Byte) : Bool :=
  match (s.xring r).passing.find? (·.1 == eOutFrame e) with
  | none => false
  | some f => (((eWords e).zipIdx).all fun w =>
      s.wordAgrees w.1 (setWord s.cdr.staged w.1) (w32 (fieldLe f.2 (eOutPos e + 8 + 4 * w.2) 4)))

/-- Did the own output frames match the active unit's (R317, step 5)? -/
def State.framesMatch (s : State) : Bool :=
  s.stagedNow && (List.range 2).all fun r =>
    !s.xRun r || (tblEntries (s.xring r).table).all fun e => eNoOut e || s.slotAgrees r e

/-- The result of a pulsed rehearsal, once the partners' records and the output frames of the cycle are in (R317). -/
def State.rehFinish (s : State) : State :=
  match s.red.rehPulse with
  | none => s
  | some p =>
    let seen := s.partners.all fun q => if q.1 = 0 then s.red.now0.rehSeen else s.red.now1.rehSeen
    let fr := s.framesMatch
    s.rehResult (if p.1 && p.2.1 && p.2.2 && fr && seen then 1 else 2) p fr

end Sys2Proof.Machine
end

