-- ==== Sys2Proof/Machine/GuardCmds.lean ====
section
/-! DEFINITION. The events of the guard and what each does in the device: the withdraw request, the claim, the discrete
outputs and the cycle release (07_rhauf_guard_safety.md, R261 to R267, R276 to R287). -/

namespace Sys2Proof.Machine

/-- INTLK when claim enable falls: an active unit goes to standby, a claim in progress is released (R266, R267, R292). -/
def State.claimFell (s : State) : State :=
  if s.isActive then s.leaveActive rStandby else if s.red.out then s.dropLine else s

/-- What a change of the guard from `old` does in the device: a trip raises the withdraw request (R284), the claim follows
claim enable (R292), and the pins of LOCAL_HOLD_MASK follow the hold (R264). -/
def State.afterGuard (s old : State) : State :=
  let a := if s.gstate = gTripped ∧ old.gstate ≠ gTripped then s.xlWithdraw else s
  let b := if old.grdClaimEn && !a.grdClaimEn then a.claimFell else a
  let c := if (old.grdHolds, old.localHoldMask, old.grd.powered) = (b.grdHolds, b.localHoldMask, b.grd.powered) then b else b.dioSettle
  if old.grdClaimEn = c.grdClaimEn then c else c.refit

/-! ### Power-up and the image (R265 to R271) -/

/-- GUARD_POWER_UP (R265); the slew straps are read (R543). -/
def execGuardPowerUp (slew : Fin 4) (s : State) : Host.Outcome State Fault Refusal :=
  .next ((((s.setRail 3 true).setDom 2 true).grdPowerUp slew).afterGuard s)

/-- GUARD_IMAGE_LOAD (R271): bytes reach the load port; `bistFail` is what BIST finds in FAIL. -/
def execGuardImageLoad (bytes : List Byte) (bistFail : Byte) (s : State) : Host.Outcome State Fault Refusal :=
  .next ((s.grdTake bytes bistFail.toNat).afterGuard s)

/-- GUARD_LOAD_TIMEOUT (R265): without a complete image 100 ms after guard power-up, NO_IMAGE. -/
def execGuardLoadTimeout (s : State) : Host.Outcome State Fault Refusal :=
  .next (if s.grd.powered ∧ s.gstate = gLoad then (s.grdGo gNoImage).afterGuard s else s)

/-! ### Heartbeats and the decision (R277 to R280) -/

/-- HEARTBEAT_ARRIVAL (R279): at `guardTime` ns of guard time. -/
def execHeartbeatArrival (word : Word) (guardTime : Nat) (s : State) : Host.Outcome State Fault Refusal :=
  .next ((s.grdBeat word guardTime).afterGuard s)

/-- HB_WINDOW_CLOSE (R279): the close of a window changes nothing; its cycle has been withheld at its decision instant. -/
def execHbWindowClose (s : State) : Host.Outcome State Fault Refusal := .next s

/-- The decision, 3 CK_GUARD periods of 10 ns after STAGE_DL, and the launch of a released cycle (R277, R293). -/
def State.guardDecision (s : State) (disagree : Nat) : State :=
  let a := s.runTo (s.cdr.stageTime + 30)
  let b := ((a.grdInputs.grdDecide disagree).modGrd fun d => { d with decided := true, decideAt := a.now }).afterGuard a
  let c := if b.grd.released then b.outputLaunch else b
  if c.red.activeAtStage then c.compareSend else c

/-- GUARD_DECISION (R277): made once in a cycle; `disagree` holds the checks of WHY [5:0] that only one bank finds violated
(R276). -/
def execGuardDecision (disagree : Fin 64) (s : State) : Host.Outcome State Fault Refusal :=
  .next (if s.cdr.grid ∧ !s.grd.decided then s.guardDecision disagree.val else s)

/-- SUPERVISOR_HEARTBEAT (R280). -/
def execSupervisorHeartbeat (word : Word) (guardTime : Nat) (s : State) : Host.Outcome State Fault Refusal :=
  .next ((s.grdSvBeat word guardTime).afterGuard s)

/-- SV_HB_TIMEOUT (R280): the first write sets the phase, so none is missed before it. -/
def execSvHbTimeout (s : State) : Host.Outcome State Fault Refusal :=
  .next (if s.grdRuns && s.grd.sv.isSome then (s.grdCause 4).afterGuard s else s)

/-! ### Inputs and diagnostics (R281 to R283, R286, R287) -/

/-- EDS_IN (R283): the input goes active; where it is active and its filter runs, it stays so to the filter's end (log entry
45). -/
def execEdsIn (s : State) : Host.Outcome State Fault Refusal :=
  .next ((if s.grd.eds then s.grdStays false else s.grdEds).afterGuard s)

/-- EDS_IN_RELEASED (R281); an input that was shorter than its filter leaves no cause (R283). -/
def execEdsInReleased (s : State) : Host.Outcome State Fault Refusal :=
  let a := s.grdInputs.modGrd fun d => { d with eds := false, edsAt := none }
  .next (((a.setTo F.GRD_STATUS_EDS_ACT false).grdAbsent 0).afterGuard s)

/-- GUARD_TRIP (R281, R283), as EDS_IN. -/
def execGuardTrip (s : State) : Host.Outcome State Fault Refusal :=
  .next ((if s.grd.gt then s.grdStays true else s.grdGt).afterGuard s)

/-- GUARD_TRIP_RELEASED (R281), as EDS_IN_RELEASED. -/
def execGuardTripReleased (s : State) : Host.Outcome State Fault Refusal :=
  let a := s.grdInputs.modGrd fun d => { d with gt := false, gtAt := none }
  .next (((a.setTo F.GRD_STATUS_GT_ACT false).grdAbsent 1).afterGuard s)

/-- GUARD_RST (R282): released after `lowTime` ns of guard time low. -/
def execGuardRst (lowTime : Nat) (s : State) : Host.Outcome State Fault Refusal := .next ((s.grdRst lowTime).afterGuard s)

/-- HOLD_FB (R286): which pads differ from their drive. -/
def execHoldFb (bad0 bad1 : Bool) (s : State) : Host.Outcome State Fault Refusal :=
  .next ((s.grdReadback bad0 bad1).afterGuard s)

/-- HOLD_READBACK_RESTORED (R281). -/
def execHoldReadbackRestored (s : State) : Host.Outcome State Fault Refusal :=
  .next ((s.grdReadback false false).afterGuard s)

/-- CLOCK_MONITOR (R281): CK_GUARD periods over 32 periods of CK_BKP. -/
def execClockMonitor (count : Nat) (s : State) : Host.Outcome State Fault Refusal :=
  .next (if count < 89844 ∨ 105469 < count then (s.grdCause 7).afterGuard s else s)

/-- VDD_GUARD at a level in mV: outside 0.90 to 1.10 V it trips, and the rail monitor finds it invalid; outside 0.95 to 1.05 V it degrades
(R281, R286, R547). -/
def State.grdSupply (s : State) (mV : Nat) : State :=
  let out := decide (mV < 900 ∨ 1100 < mV)
  let a := if s.grd.powered then s.railSeen 3 (!out) else s
  if out then a.grdCause 8 else if mV < 950 ∨ 1050 < mV then a.grdDegrade 3 else a

/-- VDD_GUARD_BAND (R286). -/
def execVddGuardBand (mV : Nat) (s : State) : Host.Outcome State Fault Refusal := .next ((s.grdSupply mV).afterGuard s)

/-- CKBKP_MISSING (R286). -/
def execCkbkpMissing (s : State) : Host.Outcome State Fault Refusal := .next ((s.grdDegrade 2).afterGuard s)

/-- PARAM_MISMATCH (R281). -/
def execParamMismatch (s : State) : Host.Outcome State Fault Refusal := .next ((s.grdCause 6).afterGuard s)

/-- DEG_LIMIT runs out: DEG_EXPIRY while DEGRADED (R265, R287). -/
def State.degExpire (s : State) : State :=
  match s.grd.degStart with
  | none => s
  | some t =>
    let a := s.runTo (t + s.degLimit * 1000000000).toNat
    if a.gstate = gDegraded then a.grdCause 9 else a

/-- DEG_LIMIT_EXPIRY (R287). -/
def execDegLimitExpiry (s : State) : Host.Outcome State Fault Refusal := .next (s.degExpire.afterGuard s)

/-- VDD_GUARD_LOST (R263): the guard's outputs go high impedance and read as hold. -/
def execVddGuardLost (s : State) : Host.Outcome State Fault Refusal := .next ((s.railLost 3).afterGuard s)

/-! ### Conditions elsewhere that reach the guard (R530, R542) -/

/-- RAIL_INVALID (R530): a rail leaves its valid window. -/
def execRailInvalid (rail : Fin 9) (s : State) : Host.Outcome State Fault Refusal := .next ((s.railLost rail.val).afterGuard s)

/-- TEMP_CONVERSION (R537): a conversion, in units of 0.125 °C; none for an open or shorted diode. -/
def execTempConversion (value : Option (BitVec 12)) (s : State) : Host.Outcome State Fault Refusal :=
  s.rooted <| .next ((s.tempConv (value.map (·.toInt))).afterGuard s)

end Sys2Proof.Machine
end

