-- ==== Sys2Proof/Machine/Can.lean ====
section
/-! DEFINITION. The CAN FD controllers (12_can_serial_discrete.md, R412 to R423, R436). -/

namespace Sys2Proof.Machine

/-- Controller c's state. -/
def State.canOf (s : State) (c : Nat) : Can := s.can.getD c .init

/-- Change controller c's state. -/
def State.modCan (s : State) (c : Nat) (f : Can → Can) : State := { s with can := modAt s.can c f }

/-- A field of controller c (R566). -/
def cf (f : Fld) (c : Nat) : Fld := f.plus (0x4000 * c)

/-- A field of word 0 of object k of controller c (R414). -/
def of (f : Fld) (c k : Nat) : Fld := f.plus (0x4000 * c + 80 * k)

/-- The offset of word w of object k of controller c (R414). -/
def objWord (c k w : Nat) : Nat := blockOff Reg.CAN_OBJ_CFG (0x4000 * c + 80 * k + 4 * w)

/-- Source unit number of controller c (R489). -/
def srcCan (c : Nat) : Nat := 0xC0 + c

/-- The data length of a DLC: a classical frame holds at most 8 bytes. -/
def dlcLen (fdf : Bool) (d : Nat) : Nat :=
  if d ≤ 8 then d
  else if !fdf then 8
  else match d with
    | 9 => 12
    | 10 => 16
    | 11 => 20
    | 12 => 24
    | 13 => 32
    | 14 => 48
    | _ => 64

/-- LAST: 3 + ⌈length ÷ 4⌉ (R414). -/
def lastWord (fdf : Bool) (d : Nat) : Nat := 3 + (dlcLen fdf d + 3) / 4

/-- STATE of a controller on the bus from its error counts (R420): 0 active, 1 passive, 2 bus-off. -/
def errState (tec rec : Nat) : Nat := if 255 < tec then 2 else if 128 ≤ tec ∨ 128 ≤ rec then 1 else 0

/-- Does object k receive? -/
def State.isRx (s : State) (c k : Nat) : Bool := s.fld (of F.CAN_OBJ_CFG_DIR c k) == 1

/-- Is object k pending? -/
def State.isPending (s : State) (c k : Nat) : Bool := s.fld (of F.CAN_OBJ_CFG_TXRES c k) == 1

/-- The bit of object k in CAN_TXREQ. -/
def txreqBit (c k : Nat) : Fld := ⟨blockOff Reg.CAN_TXREQ (0x4000 * c + 4 * (k / 32)), k % 32, k % 32⟩

/-- The bit of object k in CAN_NEWDAT. -/
def newdatBit (c k : Nat) : Fld := ⟨blockOff Reg.CAN_NEWDAT (0x4000 * c + 4 * (k / 32)), k % 32, k % 32⟩

/-- Set or clear NEWDAT of object k, in its word 0 and in CAN_NEWDAT. -/
def State.setNewdat (s : State) (c k : Nat) (b : Bool) : State :=
  (s.setTo (of F.CAN_OBJ_CFG_NEWDAT c k) b).setTo (newdatBit c k) b

/-- Object k completes with a TXRES other than pending. -/
def State.txComplete (s : State) (c k res : Nat) : State :=
  ((s.put (of F.CAN_OBJ_CFG_TXRES c k) res).setTo (txreqBit c k) false).modCan c fun q => { q with
    attempts := q.attempts.filter (fun a => a.1 != k), fresh := q.fresh.map (·.filter (· != k)), cancelWait := if q.cancelWait = some k then none else q.cancelWait }

/-- RESULT of a cancel (R419): 1 CANCELLED, 2 TOO_LATE, 3 NOT_PENDING; GO clears. -/
def State.cancelRes (s : State) (c r : Nat) : State :=
  (s.put (cf F.CAN_CANCEL_RESULT c) r).setTo (cf F.CAN_CANCEL_GO c) false

/-- Show TEC and REC, and the STATE that follows from them; a change of STATE raises EV192 (R420). -/
def State.canCounts (s : State) (c : Nat) : State :=
  let q := s.canOf c
  let a := (s.putSat (cf F.CAN_STATUS_TEC c) q.tec).putSat (cf F.CAN_STATUS_REC c) q.recv
  let st := errState q.tec q.recv
  if s.fld (cf F.CAN_STATUS_STATE c) = st then a
  else (a.put (cf F.CAN_STATUS_STATE c) st).raise1 192 sevWarn (srcCan c) c

/-- Recovery from bus-off begins (R421). -/
def State.canRecover (s : State) (c : Nat) : State :=
  if s.fld (cf F.CAN_STATUS_STATE c) = 2 then
    (s.setTo (cf F.CAN_STATUS_RECOVERING c) true).setTo (cf F.CAN_CTRL_RECOVER c) false
  else s.setTo (cf F.CAN_CTRL_RECOVER c) false

/-- Entry to bus-off: every pending object completes bus-off, in object order, and with AUTO_BO recovery begins (R421). -/
def State.enterBusOff (s : State) (c : Nat) : State :=
  let a := forEach (List.range 128) (fun k t => if t.isPending c k then t.txComplete c k 5 else t) s
  let b := (a.setTo (cf F.CAN_STATUS_BUS_OFF_SEEN c) true).bump (cf F.CAN_CNT_BUSOFF c) 1
  if b.on (cf F.CAN_CTRL_AUTO_BO c) then b.canRecover c else b

/-- Change the error counts, and what follows (R420, R421). -/
def State.canError (s : State) (c : Nat) (f : Can → Can) : State :=
  let a := (s.modCan c f).canCounts c
  if s.fld (cf F.CAN_STATUS_STATE c) ≠ 2 ∧ a.fld (cf F.CAN_STATUS_STATE c) = 2 then a.enterBusOff c else a

/-- REC after a frame received without error, as ISO 11898-1 counts it: from above 127 it becomes a value of 119 to 127
that ISO leaves open. -/
def recGood (rec free : Nat) : Nat := if 127 < rec then 119 + free % 9 else rec - 1

/-- Is controller c on the bus, and not in bus-off? -/
def State.canLive (s : State) (c : Nat) : Bool := decide (s.fld (cf F.CAN_STATUS_STATE c) < 2)

/-- Does object k take a received frame (R415)? -/
def State.canMatch (s : State) (c k : Nat) (f : CanFrame) : Bool :=
  s.isRx c k && s.on (of F.CAN_OBJ_CFG_IDE c k) == f.ide && s.on (of F.CAN_OBJ_CFG_FDF c k) == f.fdf &&
    decide ((f.id ^^^ s.rd (objWord c k 1)) &&& s.rd (objWord c k 2) = 0)

/-- Store a frame in object k: data words, then TS, then CFG with NEWDAT = 1 (R415).  A remote frame has no data; the bytes
of the last data word above the length are a free value (log entry 41). -/
def State.canStore (s : State) (c k : Nat) (f : CanFrame) : State :=
  let l := if f.rtr then 0 else dlcLen f.fdf f.dlc.val
  let n := (l + 3) / 4
  let ws := wordsOf n (f.data.take l ++ leBytes (4 * n - l) (Config.freeValue s.freeCtr))
  let a := forEach (List.range n) (fun i t => t.wr (objWord c k (4 + i)) (ws.getD i 0)) s.nextFree
  let b := a.wr (objWord c k 3) f.ts
  let d := ((b.put (of F.CAN_OBJ_CFG_DLC c k) f.dlc.val).put (of F.CAN_OBJ_CFG_LAST c k) (lastWord f.fdf f.dlc.val)).setTo
    (of F.CAN_OBJ_CFG_ESI c k) f.esi
  (d.setTo (of F.CAN_OBJ_CFG_RTR c k) f.rtr).setNewdat c k true

/-- A frame is lost on object k (R416). -/
def State.canLost (s : State) (c k : Nat) : State :=
  (((s.setTo (of F.CAN_OBJ_CFG_MSGLOST c k) true).setTo (cf F.CAN_STATUS_MSGLOST c) true).bump
    (cf F.CAN_CNT_LOST c) 1).raise2 194 sevWarn (srcCan c) c k

/-- A matching frame reaches object k: stored, or, while it is locked, put in its shadow (R416). -/
def State.canTake (s : State) (c k : Nat) (f : CanFrame) : State :=
  if s.on (of F.CAN_OBJ_CFG_LOCK c k) then
    if (s.canOf c).shadows.any (fun p => p.1 == k) then
      (if s.on (of F.CAN_OBJ_CFG_OVW c k) then
        s.modCan c fun q => { q with shadows := (k, f) :: q.shadows.filter (fun p => p.1 != k) } else s).canLost c k
    else s.modCan c fun q => { q with shadows := (k, f) :: q.shadows }
  else s.canStore c k f

/-- The bus was taken until now: whichever pending object is first in arbitration order may be the next on the wire (R418). -/
def State.canTried (s : State) (c : Nat) : State := s.modCan c fun q => { q with fresh := [] }

/-- CAN_FRAME_RECEIVED (R415); a remote frame is a classical one (R412). -/
def State.canReceive (u : State) (c : Nat) (f0 : CanFrame) : State :=
  let f := { f0 with rtr := f0.rtr && !f0.fdf }
  if !u.canLive c || (f.fdf && !u.on (cf F.CAN_CTRL_FD_EN c)) then u
  else
    let s := u.canTried c
    let a := match (List.range 128).find? (fun k => s.canMatch c k f) with
      | some k => s.canTake c k f
      | none => s.bump (cf F.CAN_CNT_NOMATCH c) 1
    let v := Config.freeValue a.freeCtr
    a.nextFree.canError c fun q => { q with recv := recGood q.recv v }

/-- CAN_FRAME_RECEIVED (R415). -/
def execCanFrameReceived (c : Fin 4) (f : CanFrame) (s : State) : Host.Outcome State Fault Refusal :=
  s.gate 9 <| .next (s.canReceive c.val f)

/-- Where an object's frame stands in arbitration: its bits up to the last arbitration bit as one number, lowest first (R418; the order
of the bits is that of ISO 11898-1). -/
def State.canPrio (s : State) (c k : Nat) : Nat :=
  let id := (s.rd (objWord c k 1)).toNat
  let rtr := b2n (s.on (of F.CAN_OBJ_CFG_RTR c k) && !s.on (of F.CAN_OBJ_CFG_FDF c k))
  if s.on (of F.CAN_OBJ_CFG_IDE c k) then id / 2 ^ 18 % 2 ^ 11 * 2 ^ 21 + 2 ^ 20 + 2 ^ 19 + id % 2 ^ 18 * 2 + rtr
  else id / 2 ^ 18 % 2 ^ 11 * 2 ^ 21 + rtr * 2 ^ 20

/-- Does object k go before object j: by its identifier, and on equal ones by its number (R418)? -/
def State.canBefore (s : State) (c k j : Nat) : Bool :=
  decide (s.canPrio c k < s.canPrio c j) || (s.canPrio c k == s.canPrio c j && decide (k ≤ j))

/-- Can the frame on the wire be that of object k: it is pending, and at some instant since the bus was last heard it was the first of
those pending, in a controller that sends (R418)?  The objects of one write became pending together. -/
def State.canOnWire (s : State) (c k : Nat) : Bool :=
  let fresh := (s.canOf c).fresh
  let later := (if fresh.any (·.contains k) then (fresh.dropWhile fun b => !b.contains k).drop 1 else fresh).flatten
  s.isPending c k && s.canLive c && s.fld (cf F.CAN_CTRL_MODE c) % 2 == 0 &&
    (List.range 128).all fun j => !s.isPending c j || later.contains j || s.canBefore c k j

/-- The frame of object k as it is sent: an FD frame where FD_EN allows it, with its bit rate switched where BRS_EN does, ESI in an FD
frame of an error passive controller, and a remote frame as a classical one (R412, log entry 41). -/
def State.canFrameOf (s : State) (c k : Nat) : CanSent :=
  let fdf := s.on (of F.CAN_OBJ_CFG_FDF c k) && s.on (cf F.CAN_CTRL_FD_EN c)
  let rtr := s.on (of F.CAN_OBJ_CFG_RTR c k) && !s.on (of F.CAN_OBJ_CFG_FDF c k)
  let dlc := s.fld (of F.CAN_OBJ_CFG_DLC c k)
  let ws := (List.range 16).map fun i => s.rd (objWord c k (4 + i))
  { ide := s.on (of F.CAN_OBJ_CFG_IDE c k), fdf, rtr, id := s.rd (objWord c k 1), dlc
    brs := fdf && s.on (of F.CAN_OBJ_CFG_BRS c k) && s.on (cf F.CAN_CTRL_BRS_EN c)
    esi := fdf && s.fld (cf F.CAN_STATUS_STATE c) == 1
    data := if rtr then [] else (bytesOf ws).take (dlcLen fdf dlc) }

/-- No attempt follows the one on the wire (R419). -/
def State.canLast (s : State) (c k : Nat) : State :=
  s.modCan c fun q => { q with attempts := (k, some 0) :: q.attempts.filter (fun a => a.1 != k) }

/-- The frame has won arbitration: a cancel that waited was too late, and no attempt follows (R419). -/
def State.cancelLate (s : State) (c k : Nat) : State :=
  if (s.canOf c).cancelWait = some k then (s.cancelRes c 2).canLast c k else s

/-- CAN_TX_DONE (R418): the object's frame has been sent in full; TEC falls by 1. -/
def State.canSent (s : State) (c k : Nat) : State :=
  if s.canOnWire c k then
    let a := (s.canTried c).modCan c fun q => { q with wire := q.wire ++ [s.canFrameOf c k] }
    ((a.cancelLate c k).txComplete c k 2).canError c fun q => { q with tec := q.tec - 1 }
  else s

/-- CAN_TX_DONE (R418). -/
def execCanTxDone (c : Fin 4) (obj : Fin 128) (s : State) : Host.Outcome State Fault Refusal :=
  s.gate 9 <| .next (s.canSent c.val obj.val)

/-- A frame is to be sent again: one further attempt is used, and without one the object fails (R418). -/
def State.canAgain (s : State) (c k : Nat) : State :=
  match (s.canOf c).attempts.find? (fun a => a.1 == k) with
  | some (_, some 0) =>
    ((s.txComplete c k 4).setTo (cf F.CAN_STATUS_TX_FAIL c) true).raise2 195 sevWarn (srcCan c) c k
  | some (_, some (n + 1)) =>
    s.modCan c fun q => { q with attempts := (k, some n) :: q.attempts.filter (fun a => a.1 != k) }
  | _ => s

/-- An attempt ends before arbitration was won: a waiting cancel takes effect, or the frame is sent again (R418, R419). -/
def State.canLostTry (s : State) (c k : Nat) : State :=
  if (s.canOf c).cancelWait = some k then (s.cancelRes c 1).txComplete c k 3 else s.canAgain c k

/-- CAN_ARBITRATION_LOST (R418). -/
def execCanArbitrationLost (c : Fin 4) (obj : Fin 128) (s : State) : Host.Outcome State Fault Refusal :=
  s.gate 9 <| .next (if s.canOnWire c.val obj.val then (s.canTried c.val).canLostTry c.val obj.val else s)

/-- A bus error while the frame of object k is sent (R418 to R420, R422). -/
def State.canTxError (s : State) (c k : Nat) (won bit counted : Bool) : State :=
  if s.canOnWire c k then
    let t := s.canTried c
    let a := if won && bit then (t.setTo (cf F.CAN_STATUS_CONFLICT c) true).raise1 197 sevWarn (srcCan c) c else t
    let b := if won then (a.cancelLate c k).canAgain c k else a.canLostTry c k
    b.canError c fun q => { q with tec := q.tec + (if counted then 8 else 0) }
  else s

/-- CAN_ERROR (R420). -/
def execCanError (c : Fin 4) (err : CanErr) (s : State) : Host.Outcome State Fault Refusal :=
  s.gate 9 <| .next (if !s.canLive c.val then s
    else match err with
    | .tx k won bit counted => s.canTxError c.val k.val won bit counted
    | .txFurther => s.canError c.val fun q => { q with tec := q.tec + 8 }
    | .rx => (s.canTried c.val).canError c.val fun q => { q with recv := q.recv + 1 }
    | .rxDominant => s.canError c.val fun q => { q with recv := q.recv + 8 })

/-- CAN_RECOVERY_DONE (R421): TEC and REC become 0, the controller is error active, EV193. -/
def State.canRecovered (s : State) (c : Nat) : State :=
  if s.on (cf F.CAN_STATUS_RECOVERING c) then
    (((s.setTo (cf F.CAN_STATUS_RECOVERING c) false).modCan c fun q => { q with tec := 0, recv := 0, fresh := [] }).canCounts c).raise1
      193 sevNotice (srcCan c) c
  else s

/-- CAN_RECOVERY_DONE (R421). -/
def execCanRecoveryDone (c : Fin 4) (s : State) : Host.Outcome State Fault Refusal :=
  s.gate 9 <| .next (s.canRecovered c.val)

/-- The lock of object k is released; a waiting shadow frame moves in with NEWDAT = 1 (R416). -/
def State.canUnlock (s : State) (c k : Nat) : State :=
  let a := (s.setTo (of F.CAN_OBJ_CFG_LOCK c k) false).modCan c fun q => { q with
    locks := q.locks.filter (fun p => p.1 != k), shadows := q.shadows.filter (fun p => p.1 != k) }
  match (s.canOf c).shadows.find? (fun p => p.1 == k) with
  | some p => a.canStore c k p.2
  | none => a

/-- CAN_LOCK_TIMEOUT (R417): a lock held for 1 ms of device time is released; LOCK_TMO and EV196. -/
def State.canLockTmo (s : State) (c k : Nat) : State :=
  match (s.canOf c).locks.find? (fun p => p.1 == k) with
  | some p =>
    (((s.runTo (p.2 + 1000000)).canUnlock c k).setTo (cf F.CAN_STATUS_LOCK_TMO c) true).raise2 196 sevWarn (srcCan c) c k
  | none => s

/-- CAN_LOCK_TIMEOUT (R417). -/
def execCanLockTimeout (c : Fin 4) (obj : Fin 128) (s : State) : Host.Outcome State Fault Refusal :=
  s.gate 9 <| .next (s.canLockTmo c.val obj.val)

/-- Object k becomes pending, with its further attempts; a pending object, and one that does not transmit, is left as it
is (R418). -/
def State.canPend (s : State) (c k : Nat) : State :=
  if s.isPending c k || s.fld (of F.CAN_OBJ_CFG_DIR c k) != 2 then s
  else
    let n := s.fld (of F.CAN_OBJ_CFG_RETRY c k)
    ((s.put (of F.CAN_OBJ_CFG_TXRES c k) 1).setTo (txreqBit c k) true).modCan c fun q => { q with
      attempts := (k, if n = 15 then none else some n) :: q.attempts.filter (fun a => a.1 != k) }

/-- A write of CAN_TXREQ (R418): the objects it names become pending together. -/
def State.canTxreq (s : State) (c r mask : Nat) : State :=
  let ks := (setBits 32 mask).map (32 * r + ·)
  let new := ks.filter fun k => !s.isPending c k && s.fld (of F.CAN_OBJ_CFG_DIR c k) == 2
  let a := forEach ks (fun k t => t.canPend c k) s
  if new.isEmpty then a else a.modCan c fun q => { q with fresh := q.fresh ++ [new] }

/-- CAN_TXREQ (R418). -/
def execCanTxreq (_req : Req) (c r : Fin 4) (mask : Word) (s : State) : Host.Outcome State Fault Refusal :=
  s.gate 9 <| .next (s.canTxreq c.val r.val mask.toNat)

/-- A cancel (R419); an object whose frame cannot be on the wire has sent no start of frame. -/
def State.canCancel (s : State) (c k : Nat) (pos : CanPos) : State :=
  let a := (s.put (cf F.CAN_CANCEL_OBJ c) k).setTo (cf F.CAN_CANCEL_GO c) true
  if !s.isPending c k then a.cancelRes c 3
  else match if s.canOnWire c k then pos else .idle with
    | .idle => (a.cancelRes c 1).txComplete c k 3
    | .arbitration => a.modCan c fun q => { q with cancelWait := some k }
    | .won => (a.cancelRes c 2).canLast c k

/-- CAN_CANCEL (R419). -/
def execCanCancel (_req : Req) (c : Fin 4) (obj : Fin 128) (pos : CanPos) (s : State) : Host.Outcome State Fault Refusal :=
  s.gate 9 <| .next (s.canCancel c.val obj.val pos)

/-- RECOVER (R421). -/
def execRecover (_req : Req) (c : Fin 4) (s : State) : Host.Outcome State Fault Refusal :=
  s.gate 9 <| .next (s.canRecover c.val)

/-- Are the timing fields in range (R413)? -/
def State.canTimingOk (s : State) (c : Nat) : Bool :=
  decide (1 ≤ s.fld (cf F.CAN_NBT_TSEG1 c)) && decide (s.fld (cf F.CAN_NBT_SJW c) ≤ s.fld (cf F.CAN_NBT_TSEG2 c)) &&
    decide (s.fld (cf F.CAN_DBT_SJW c) ≤ s.fld (cf F.CAN_DBT_TSEG2 c))

/-- A write of EN (R413), which with TEC above 255 enters bus-off (R420, R421): refused with CFG_BAD while a timing field breaks its range. -/
def State.canEnable (s : State) (c : Nat) (en : Bool) : State :=
  if en = s.on (cf F.CAN_CTRL_EN c) then s
  else if en then
    if s.canTimingOk c then
      let a := ((s.canTried c).setTo (cf F.CAN_CTRL_EN c) true).canCounts c
      if a.fld (cf F.CAN_STATUS_STATE c) = 2 then a.enterBusOff c else a
    else s.setTo (cf F.CAN_STATUS_CFG_BAD c) true
  else
    (((s.setTo (cf F.CAN_CTRL_EN c) false).setTo (cf F.CAN_STATUS_RECOVERING c) false).put
      (cf F.CAN_STATUS_STATE c) 3).raise1 192 sevWarn (srcCan c) c

/-- CAN_ENABLE (R413). -/
def execCanEnable (_req : Req) (c : Fin 4) (en : Bool) (s : State) : Host.Outcome State Fault Refusal :=
  s.gate 9 <| .next (s.canEnable c.val en)

/-- A read of word 0: a receive object that holds NEWDAT becomes locked (R416); a lock already held stays (R417). -/
def State.canRead0 (s : State) (c k : Nat) : Nat × State :=
  (s.rdn (objWord c k 0),
   if s.isRx c k && s.on (of F.CAN_OBJ_CFG_NEWDAT c k) && !s.on (of F.CAN_OBJ_CFG_LOCK c k) then
     (s.setTo (of F.CAN_OBJ_CFG_LOCK c k) true).modCan c fun q => { q with locks := (k, s.now) :: q.locks }
   else s)

/-- CAN_WORD0_READ (R416). -/
def execCanWord0Read (_req : Req) (c : Fin 4) (obj : Fin 128) (s : State) : Host.Outcome State Fault Refusal :=
  s.gateRead 9 { (s.canRead0 c.val obj.val).2 with readData := (s.canRead0 c.val obj.val).1 }

/-- A read of word LAST of a receive object clears LOCK and NEWDAT and moves in any shadow frame (R416). -/
def State.canReadLast (s : State) (c k : Nat) : Nat × State :=
  (s.rdn (objWord c k (s.fld (of F.CAN_OBJ_CFG_LAST c k))),
   if s.isRx c k then (s.setNewdat c k false).canUnlock c k else s)

/-- CAN_LAST_READ (R416). -/
def execCanLastRead (_req : Req) (c : Fin 4) (obj : Fin 128) (s : State) : Host.Outcome State Fault Refusal :=
  s.gateRead 9 { (s.canReadLast c.val obj.val).2 with readData := (s.canReadLast c.val obj.val).1 }

end Sys2Proof.Machine
end

