-- ==== Sys2Proof/Machine/Debug.lean ====
section
/-! DEFINITION. The debug module of RISC-V External Debug Support 0.13.2 and its harts (R521, R567; log entry 26). -/

namespace Sys2Proof.Machine

/-- Change the debug module. -/
def State.modDbg (s : State) (f : DebugMod → DebugMod) : State := { s with boot := { s.boot with dbg := f s.boot.dbg } }

/-! ### The harts (R567) -/

/-- The hart that dmcontrol selects. -/
def State.dmHart (s : State) : Nat := s.boot.dbg.hartsel

/-- Is a hart one of the seven? -/
def isHart (h : Nat) : Bool := decide (h < 7)

/-- Is a hart available: powered, clocked and not held in reset?  0 to 3 are the application cores, 4 and 5 the cycle cores, 6 the
supervisor core. -/
def State.hartAvail (s : State) (h : Nat) : Bool :=
  isHart h && !s.boot.dbg.ndmreset && (if h < 4 then s.domOn 3 else if h < 6 then s.domOn 4 else !s.svDead)

/-- Is a hart halted? -/
def State.hartHalted (s : State) (h : Nat) : Bool := s.hartAvail h && s.boot.dbg.halted.contains h

/-- A list with an element, or without it. -/
def mark (b : Bool) (h : Nat) (l : List Nat) : List Nat := if b then h :: l.filter (· != h) else l.filter (· != h)

/-! ### What the registers read -/

/-- dmstatus: version 2, authenticated, and the state of the hart selected, which is every hart selected. -/
def State.dmStatus (s : State) : Nat :=
  let h := s.dmHart
  let d := s.boot.dbg
  let pair (b : Bool) (at0 : Nat) : Nat := b2n b * (3 * 2 ^ at0)
  2 + 2 ^ 7 + pair (s.hartHalted h) 8 + pair (s.hartAvail h && !d.halted.contains h) 10 + pair (isHart h && !s.hartAvail h) 12 +
    pair (!isHart h) 14 + pair (isHart h && d.resumed.contains h) 16 + pair (isHart h && d.haveReset.contains h) 18

/-- dmcontrol: hartsel, ndmreset and dmactive. -/
def DebugMod.control (d : DebugMod) : Nat :=
  d.hartsel % 2 ^ 10 * 2 ^ 16 + d.hartsel / 2 ^ 10 * 2 ^ 6 + 2 * b2n d.ndmreset + b2n d.active

/-- The number of data registers that are there: at least two, which a 64-bit access needs. -/
def dmDataCount : Nat := 2 + Config.dmDataCount % 11

/-- The debug module register at a DMI address (R567). -/
def State.dmRead (s : State) (a : Nat) : Nat :=
  let d := s.boot.dbg
  if a = 0x10 then d.control
  else if a = 0x11 then s.dmStatus
  else if a = 0x12 then (if isHart s.dmHart then (Config.hartInfo s.dmHart).toNat &&& 0x00F1FFFF else 0)
  else if a = 0x16 then d.cmderr * 2 ^ 8 + dmDataCount
  else if a = 0x40 then (if s.dmHart < 32 then ((List.range 7).map fun h => b2n (s.hartHalted h) * 2 ^ h).sum else 0)
  else if 4 ≤ a ∧ a < 4 + dmDataCount then d.data.getD (a - 4) 0
  else 0

/-! ### dmcontrol -/

/-- A running hart with its halt request set halts. -/
def State.haltAsked (s : State) : State :=
  s.modDbg fun d => { d with
    halted := (List.range 7).filter fun h => d.halted.contains h || (d.haltReq.contains h && s.hartAvail h) }

/-- The hart selected resumes, if it is halted: its registers are its own again. -/
def State.dmResume (s : State) : State :=
  let h := s.dmHart
  s.modDbg fun d => { d with
    resumed := mark (s.hartHalted h) h d.resumed, halted := mark false h d.halted, regs := d.regs.filter fun e => e.1.1 != h }

/-- ndmreset: every hart is held in reset while it is 1, and comes out of it running, with havereset set.  The rest of the device starts
anew with its supply only (DESIGN CHOICE, log entry 26). -/
def State.dmReset (s : State) (b : Bool) : State :=
  if b then s.modDbg fun d => { d with ndmreset := true, halted := [], resumed := [], haveReset := List.range 7, regs := [] }
  else s.modDbg fun d => { d with ndmreset := false }

/-- A write of dmcontrol: with dmactive 0 the module takes its reset values; otherwise hartsel selects first, and what follows is for the
hart selected. -/
def State.dmControl (s : State) (v : Nat) : State :=
  if !bitAt v 0 then s.modDbg fun d => { DebugMod.init with halted := d.halted, haveReset := d.haveReset, regs := d.regs }
  else if !s.boot.dbg.active then s.modDbg fun d => { d with active := true }
  else
    let a := s.modDbg fun d => { d with hartsel := bitsOf v 25 16 + 2 ^ 10 * bitsOf v 15 6 }
    let h := a.dmHart
    let b := a.modDbg fun d => { d with
      haltReq := if isHart h then mark (bitAt v 31) h d.haltReq else d.haltReq
      haveReset := if bitAt v 28 then mark false h d.haveReset else d.haveReset }
    let c := if bitAt v 30 && !bitAt v 31 && isHart h then b.dmResume else b
    (if c.boot.dbg.ndmreset = bitAt v 1 then c else c.dmReset (bitAt v 1)).haltAsked

/-! ### Abstract commands -/

/-- The value of a register of a halted hart: as it was read or written since the hart halted, and a free value otherwise, as no rule says
what a core's registers hold. -/
def State.hartReg (s : State) (h r : Nat) : Nat :=
  if r = 0x1000 then 0
  else match s.boot.dbg.regs.find? fun e => e.1 == (h, r) with
    | some e => e.2
    | none => (Config.hartReg s.freeCtr).toNat

/-- The least aarsize a hart's registers do not have: the supervisor core's are of 32 bits, the others' of 64. -/
def hartSize (h : Nat) : Nat := if h = 6 then 3 else 4

/-- Access Register between data0, or data0 and data1, and a register of the hart selected. -/
def State.dmAccess (s : State) (r size : Nat) (write : Bool) : State :=
  let h := s.dmHart
  let old := s.hartReg h r
  let arg := if size = 2 then s.boot.dbg.data.getD 0 0 else s.boot.dbg.data.getD 0 0 + 2 ^ 32 * s.boot.dbg.data.getD 1 0
  let v := if !write then old else if r = 0x1000 then 0 else arg
  (s.modDbg fun d => { d with
    regs := ((h, r), v) :: d.regs.filter (fun e => e.1 != (h, r))
    data := if write then d.data
      else if size = 2 then d.data.set 0 (v % 2 ^ 32) else (d.data.set 0 (v % 2 ^ 32)).set 1 (v / 2 ^ 32 % 2 ^ 32) }).nextFree

/-- A write of command: cmderr keeps a command that failed; only Access Register is there, without a program buffer; the hart must be
halted. -/
def State.dmCommand (s : State) (v : Nat) : State :=
  let size := bitsOf v 22 20
  let r := bitsOf v 15 0
  let there := (decide (0x1000 ≤ r) && decide (r < 0x1020)) || Config.dmSupports s.dmHart r
  let err (n : Nat) : State := s.modDbg fun d => { d with cmderr := n }
  if s.boot.dbg.cmderr ≠ 0 then s
  else if bitsOf v 31 24 ≠ 0 ∨ bitAt v 19 ∨ bitAt v 18 then err 2
  else if !s.hartHalted s.dmHart then err 4
  else if !bitAt v 17 then s
  else if size < 2 ∨ hartSize s.dmHart ≤ size ∨ !there then err 2
  else s.dmAccess r size (bitAt v 16)

/-- A write of the debug module register at a DMI address (R567): with dmactive 0 only dmcontrol takes writes. -/
def State.dmWrite (s : State) (a v : Nat) : State :=
  if a = 0x10 then s.dmControl v
  else if !s.boot.dbg.active then s
  else if a = 0x16 then s.modDbg fun d => { d with cmderr := d.cmderr &&& (7 - bitsOf v 10 8) }
  else if a = 0x17 then s.dmCommand v
  else if 4 ≤ a ∧ a < 4 + dmDataCount then s.modDbg fun d => { d with data := d.data.set (a - 4) (v % 2 ^ 32) }
  else s

/-! ### The IEEE 1149.1 port (R521) -/

/-- Kinds of IEEE 1149.1 instructions. -/
inductive JtagInstr where
  /-- BYPASS. -/
  | bypass
  /-- IDCODE. -/
  | idcode
  /-- SAMPLE/PRELOAD. -/
  | sample
  /-- The access to the debug module. -/
  | debug
  /-- Any other. -/
  | other
  deriving DecidableEq, Repr

/-- The instruction that the port loads when it is asked for one: BYPASS for one that the life-cycle state does not allow. -/
def State.jtagLoads (s : State) (i : JtagInstr) : JtagInstr :=
  if s.lc = 2 then (if i = .idcode ∨ i = .sample then i else .bypass)
  else if s.lc = 4 then (if i = .idcode then i else .bypass)
  else i

/-- Is core debug through the port open? -/
def State.jtagOpen (s : State) : Bool := !s.svDead && s.jtagLoads .debug == .debug

end Sys2Proof.Machine
end

