-- ==== Sys2Proof/Machine/Sdf.lean ====
section
/-! DEFINITION. The sigma-delta chains (13_sigma_delta_filters.md): the filter arithmetic, enabling and refusal, bank
changes and fades, coefficient writes, settling, buffers and latches. -/

namespace Sys2Proof.Machine

/-- Source unit number of the sigma-delta chains (R489). -/
def srcSdf : Nat := 0xD9

/-- Change a chain. -/
def State.modChain (s : State) (c : Nat) (f : Chain → Chain) : State := { s with sdf := modAt s.sdf c f }

/-- A chain. -/
def State.chain (s : State) (c : Nat) : Chain := s.sdf.getD c .init

/-- A field of channel `c`. -/
def chFld (f : Fld) (c : Nat) : Fld := f.plus (0x40 * c)

/-- A field of channel `c`, read. -/
def State.ch (s : State) (f : Fld) (c : Nat) : Nat := s.fld (chFld f c)

/-- Is channel `c` enabled? -/
def State.sdfOn (s : State) (c : Nat) : Bool := bitAt (s.rdn Reg.SDF_EN) c

/-- Is group `g` in OUT mode? -/
def State.sdmOut (s : State) (g : Nat) : Bool := s.on (F.SDF_CLK_DIR.plus (4 * g))

/-- MDIV2 in force: a value outside 25 to 100 is 50. -/
def State.mdiv2 (s : State) (g : Nat) : Nat :=
  let m := s.fld (F.SDF_CLK_MDIV2.plus (4 * g))
  if m < 25 ∨ 100 < m then 50 else m

/-- Is the group's clock lost (R440)? -/
def State.clkLost (s : State) (g : Nat) : Bool := bitAt (s.fld F.SDF_STATUS_CLK_LOST) g

/-- The sinc order N. -/
def State.sincN (s : State) (c : Nat) : Nat := if s.ch F.SDF_CHc_CFG_ORDER c = 1 then 5 else 3

/-- R. -/
def State.sincR (s : State) (c : Nat) : Nat := s.ch F.SDF_CHc_CFG_R c

/-- Decimation of a STAGE code; a bypassed stage has 1. -/
def stageD (code : Nat) : Nat := if code = 3 then 4 else if code = 2 then 2 else 1

/-- STAGE1 and STAGE2. -/
def State.stage (s : State) (c i : Nat) : Nat := s.ch (if i = 1 then F.SDF_CHc_CFG_STAGE1 else F.SDF_CHc_CFG_STAGE2) c

/-- The register FIR1 or FIR2 of a channel, as the shift of a FIR1 field. -/
def firFld (f : Fld) (c i : Nat) : Fld := f.plus (0x40 * c + 4 * (i - 1))

/-- The stage's state. -/
def Chain.fir (k : Chain) (i : Nat) : FirStage := if i = 1 then k.fir1 else k.fir2

/-- Change a stage. -/
def State.modFir (s : State) (c i : Nat) (f : FirStage → FirStage) : State :=
  s.modChain c fun k => if i = 1 then { k with fir1 := f k.fir1 } else { k with fir2 := f k.fir2 }

/-! ### Arithmetic (R441 to R443, R449) -/

/-- Saturate to Q1.23 (R442), with the saturation flag. -/
def sat23 (v : Int) : Int × Bool :=
  if v < -8388608 then (-8388608, true) else if 8388607 < v then (8388607, true) else (v, false)

/-- The sums of `r` neighbours. -/
def windowSums (r : Nat) (xs : List Int) : List Int :=
  (List.range (xs.length + 1 - r)).map fun i => ((xs.drop i).take r).foldl (· + ·) 0

/-- `windowSums` N times over. -/
def sincSums (r : Nat) : Nat → List Int → List Int
  | 0, xs => xs
  | n + 1, xs => sincSums r n (windowSums r xs)

/-- The sinc stage: order N, decimation R, normalised by R^N (R441), rounded as a FIR stage rounds (DEDUCED, log entry 41). -/
def sincValue (n r : Nat) (bits : List Bool) : Int × Bool :=
  let w := n * (r - 1) + 1
  let xs := (bits.take w).map fun b => if b then (1 : Int) else -1
  let v := (sincSums r n (xs ++ List.replicate (w - xs.length) 0)).headD 0
  sat23 (divRneI (v * 2 ^ 23) (r ^ n))

/-- Tap `t` of a set (R446); the linear-phase sets 0 to 2 are symmetric (R447, R448). -/
def State.tap (s : State) (set t : Nat) : Int :=
  if set < 3 then sgn 24 (Config.firRom set (Nat.min t (63 - t))).toNat
  else if set < 6 then sgn 24 (Config.firRom set t).toNat
  else if set < 8 then 0
  else sgn 24 (s.rdn (blockOff 0x118000 (0x100 * set + 4 * t)))

/-- The 64 taps of a set. -/
def State.taps (s : State) (set : Nat) : List Int := (List.range 64).map (s.tap set)

/-- The sum of products of a FIR stage, rounded to nearest, ties to even, and saturated (R442). -/
def firSum (taps line : List Int) : Int × Bool :=
  sat23 (divRneI ((List.zipWith (· * ·) taps line).foldl (· + ·) 0) (2 ^ 23))

/-- What a stage's output brings. -/
structure StageOut where
  /-- The value. -/
  value : Int
  /-- A saturation took place. -/
  sat : Bool
  /-- The stage afterwards. -/
  stage : FirStage
  /-- A fade started with this output. -/
  began : Bool
  /-- A fade completed with this output. -/
  ended : Bool
  /-- The output belongs to a fade. -/
  fading : Bool
  deriving DecidableEq, Repr

/-- One output of a filtering stage from its D inputs, oldest first (R449, R450); a fade keeps the XFADE it started with. -/
def runFir (tapsA tapsB : List Int) (sel : Bool) (xfade : Nat) (st0 : FirStage) (xs : List Int) : StageOut :=
  let st := { st0 with after := st0.after - 1 }
  let line := (xs.reverse ++ st.line).take 64
  let old := firSum (if st.act then tapsB else tapsA) line
  let new := firSum (if st.act then tapsA else tapsB) line
  let start := st.fade.isNone && sel != st.act && st.armed && st0.after == 0
  let f : Nat × Nat := st.fade.getD (0, xfade)
  let j := f.1 + 1
  if st.fade.isSome || start then
    let y := sat23 (divRneI (((f.2 : Int) - (j : Int)) * old.1 + (j : Int) * new.1) f.2)
    let fin := decide (f.2 ≤ j)
    ⟨y.1, y.2 || old.2 || new.2,
      { st with line := line, act := if fin then !st.act else st.act, fade := if fin then none else some (j, f.2) },
      start, fin, true⟩
  else ⟨old.1, old.2, { st with line := line }, false, false, false⟩

/-- One output of a stage of channel `c`: filter, or bypass (R441). -/
def State.runStage (s : State) (c i : Nat) (st : FirStage) (xs : List Int) : StageOut :=
  let sel := s.on (firFld F.SDF_CHc_FIR1_SEL c i)
  if s.stage c i = 0 then ⟨xs.getLastD 0, false, { st with act := sel, fade := none, after := 0 }, false, false, false⟩
  else runFir (s.taps (s.fld (firFld F.SDF_CHc_FIR1_SET_A c i))) (s.taps (s.fld (firFld F.SDF_CHc_FIR1_SET_B c i))) sel
    (s.fld (firFld F.SDF_CHc_FIR1_XFADE c i) + 1) st xs

/-- The sinc outputs of `k` groups of R new bits, oldest first; and the bitstream after them, as far back as a later PHASE reaches. -/
def sincRun (n r phase : Nat) : Nat → List Bool → List Bool → List (Int × Bool) × List Bool
  | 0, hist, _ => ([], hist)
  | k + 1, hist, bits =>
    let h := ((bits.take r).reverse ++ hist).take (256 + n * (r - 1))
    let (ys, h') := sincRun n r phase k h (bits.drop r)
    (sincValue n r (h.drop phase) :: ys, h')

/-- Stage-1 outputs of groups of D1 inputs, with the flags joined. -/
def State.runStage1 (s : State) (c d : Nat) : Nat → FirStage → List Int → List Int × StageOut
  | 0, st, _ => ([], ⟨0, false, st, false, false, false⟩)
  | k + 1, st, xs =>
    let o := s.runStage c 1 st (xs.take d)
    let (ys, p) := s.runStage1 c d k o.stage (xs.drop d)
    (o.value :: ys, ⟨o.value, o.sat || p.sat, p.stage, o.began || p.began, o.ended || p.ended, o.fading || p.fading⟩)

/-- The correction stage with the latched temperature, rounded as a FIR stage rounds (R441, R443; DEDUCED, log entry 41). -/
def State.correct (s : State) (c : Nat) (x : Int) : Int × Bool :=
  let g := sgn 24 (s.ch F.SDF_CHc_SCALE_GAIN c)
  let t := sgn 12 (s.fld F.THM_TEMP_SI_TEMP)
  let tc := sgn 16 (s.ch F.SDF_CHc_TC_TC c)
  let ofs := sgn 24 (s.ch F.SDF_CHc_OFS_OFFSET c)
  sat23 (divRneI (g * (80000000 + tc * (t - 200)) * (x - ofs)) (2 ^ 22 * 80000000))

/-! ### What the registers show (R444, R448, R453, R456) -/

/-- T_out in ns, for a group in OUT mode. -/
def State.tOut (s : State) (c : Nat) : Nat :=
  s.sincR c * stageD (s.stage c 1) * stageD (s.stage c 2) * s.mdiv2 (c / 8) * 2

/-- T_fast in ns. -/
def State.tfast (s : State) : Nat := 500000 * 2 ^ s.fld F.CDR_PERIOD_FAST

/-- Is the channel aligned (R456)? -/
def State.aligned (s : State) (c : Nat) : Bool :=
  s.sdmOut (c / 8) && decide (s.tOut c ≠ 0) && decide (s.fld F.CDR_PERIOD_BASE_MS * 1000000 % s.tOut c = 0) &&
    decide (s.tfast % s.tOut c = 0)

/-- The automatic settling length (R453). -/
def State.settleAuto (s : State) (c : Nat) : Nat :=
  let r := s.sincR c
  let d1 := stageD (s.stage c 1)
  let d2 := stageD (s.stage c 2)
  let n := s.sincN c * (r - 1) + (if s.stage c 1 = 0 then 0 else 63 * r) + (if s.stage c 2 = 0 then 0 else 63 * r * d1) + 1
  if r = 0 then 0 else (n + r * d1 * d2 - 1) / (r * d1 * d2)

/-- S in use (R452). -/
def State.settleLen (s : State) (c : Nat) : Nat :=
  let l := s.ch F.SDF_CHc_SETTLE_SETTLE_LEN c
  if l = 0 then s.settleAuto c else l

/-- A row of the table of factory sets (R447). -/
structure FactoryRow where
  /-- The decimation the set is for. -/
  d : Nat
  /-- Its phase is minimum; else it is linear. -/
  minimum : Bool
  /-- It corrects the sinc stage's droop. -/
  droop : Bool
  /-- Passband ripple, thousandths of a dB. -/
  ripple : Nat
  /-- Attenuation of the stop band, dB; none where the set has no stop band. -/
  stop : Option Nat
  /-- Group delay at DC, tenths of an input sample. -/
  delay : Nat
  deriving DecidableEq, Repr

/-- The table of factory sets 0 to 5 (R447). -/
def factoryRows : List FactoryRow :=
  [⟨2, false, false, 5, some 90, 315⟩, ⟨4, false, false, 5, some 85, 315⟩, ⟨1, false, true, 20, none, 315⟩,
   ⟨2, true, false, 50, some 80, 74⟩, ⟨4, true, false, 50, some 75, 98⟩, ⟨1, true, true, 50, none, 31⟩]

/-- The group delay of a set, tenths of an input sample (R447, R448). -/
def State.setDelay (s : State) (set : Nat) : Nat :=
  match factoryRows[set]? with
  | some r => r.delay
  | none =>
  if set < 8 then Config.emptySetDelay
  else if s.taps set = (s.taps set).reverse then 315 else 0

/-- The set of the bank SEL names. -/
def State.selSet (s : State) (c i : Nat) : Nat :=
  s.fld (firFld (if s.on (firFld F.SDF_CHc_FIR1_SEL c i) then F.SDF_CHc_FIR1_SET_B else F.SDF_CHc_FIR1_SET_A) c i)

/-- GD in units of a twentieth of a modulator clock (R448). -/
def State.gd20 (s : State) (c : Nat) : Nat :=
  let r := s.sincR c
  20 * s.ch F.SDF_CHc_CFG_PHASE c + 10 * s.sincN c * (r - 1) +
    (if s.stage c 1 = 0 then 0 else 2 * r * s.setDelay (s.selSet c 1)) +
    (if s.stage c 2 = 0 then 0 else 2 * r * stageD (s.stage c 1) * s.setDelay (s.selSet c 2))

/-- GD × T_mod in ns, rounded to nearest (R448); in IN mode T_mod is that of the measured frequency. -/
def State.gdNs (s : State) (c : Nat) : Nat :=
  let g := c / 8
  if s.sdmOut g then divRne (s.gd20 c * s.mdiv2 g * 2) 20
  else
    let f := s.fld (F.SDF_CLK_FREQ.plus (4 * g))
    if f = 0 then 0 else divRne (s.gd20 c * 1000000) (20 * f)

/-- Show what follows from a channel's configuration. -/
def State.showChan (c : Nat) (s : State) : State :=
  let a := s.put (chFld F.SDF_CHc_SETTLE_S_USED c) (s.settleLen c)
  (a.wrn (blockOff Reg.SDF_CHc_GD (0x40 * c)) (a.gdNs c)).setTo (chFld F.SDF_CHc_STAT_ALIGNED c) (a.aligned c)

/-- The load of the enabled channels as a fraction of MAC/s: numerator and denominator (R444). -/
def State.sdfLoad (s : State) (en : Nat) : Nat × Nat :=
  (setBits 32 en).foldl (fun (q : Nat × Nat) c =>
    let fm := if s.sdmOut (c / 8) then (500000000, s.mdiv2 (c / 8)) else (20000000, 1)
    let d1 := stageD (s.stage c 1)
    let d2 := stageD (s.stage c 2)
    let k := (if s.stage c 1 = 0 then 0 else d2) + (if s.stage c 2 = 0 then 0 else 1)
    let den := fm.2 * s.sincR c * d1 * d2
    if den = 0 then q else (q.1 * den + 128 * fm.1 * k * q.2, q.2 * den)) (0, 1)

/-- Is L above 1.0 × 10⁹ MAC/s? -/
def State.overLoad (s : State) (en : Nat) : Bool := decide ((s.sdfLoad en).1 > 1000000000 * (s.sdfLoad en).2)

/-- Group `g` has T_base and T_fast on the grids of its enabled channels (SDF_STATUS). -/
def State.groupAligned (s : State) (g : Nat) : Bool :=
  s.sdmOut g && (List.range 8).all fun i => !s.sdfOn (8 * g + i) || s.aligned (8 * g + i)

/-- Show the load, the alignment and the clock frequencies driven. -/
def State.showSdf (s : State) : State :=
  let l := s.sdfLoad (s.rdn Reg.SDF_EN)
  let a := s.put F.SDF_STATUS_LOAD (l.1 / (l.2 * 1000000))
  let b := forEach (List.range 4) (fun g (t : State) =>
    (t.setTo ⟨Reg.SDF_STATUS, 12 + g, 12 + g⟩ (t.groupAligned g)) |> fun u =>
      if u.sdmOut g then u.put (F.SDF_CLK_FREQ.plus (4 * g)) (500000 / u.mdiv2 g) else u) a
  forEach (List.range 32) State.showChan b

/-- A settling event (R452): the count starts anew at S. -/
def State.settle (c : Nat) (s : State) : State := s.put (chFld F.SDF_CHc_STAT_SETTLE_LEFT c) (s.settleLen c)

/-! ### Commands -/

/-- Saturation, fades and settling of an output completed at `t`, then its word (R442, R449, R452, R454, R455). -/
def State.sdfDeliver (s : State) (c t : Nat) (v : Int) (sat : Bool) (o1 o2 : StageOut) : State :=
  let a := if o1.began || o2.began then s.settle c else s
  let left := a.ch F.SDF_CHc_STAT_SETTLE_LEFT c
  let fading := o1.fading || o2.fading
  let word := code 24 v * 256 + 8 * b2n (s.aligned c && t % s.tOut c == 0) + 4 * b2n fading + 2 * b2n sat + b2n (left != 0)
  let idx := a.ch F.SDF_CHc_STAT_WIDX c
  let b := (a.wrn (blockOff 0x114000 (0x100 * c + 4 * idx)) word).put (chFld F.SDF_CHc_STAT_WIDX c) ((idx + 1) % 64)
  let d := (b.put (chFld F.SDF_CHc_STAT_SETTLE_LEFT c) (left - 1)).modChain c fun k => { k with
    fir1 := o1.stage, fir2 := o2.stage, last := some (w32 word, t), begun := t, fresh := true, freshFast := true }
  let e := (d.setTo (firFld F.SDF_CHc_FIR1_FADING c 1) o1.stage.fade.isSome).setTo (firFld F.SDF_CHc_FIR1_FADING c 2)
    o2.stage.fade.isSome
  let f := [o1.began, o2.began, o1.ended, o2.ended].foldl (fun x b => x.raiseIf b 218 sevNotice srcSdf c) e
  if sat then (f.setTo (chFld F.SDF_CHc_STAT_SAT c) true).raise1 219 sevInfo srcSdf c else f

/-- T_mod of a group in OUT mode, ns (R439). -/
def State.tMod (s : State) (g : Nat) : Nat := s.mdiv2 g * 2

/-- The half-period of CK_TIME nearest to an instant of device time, counted from the counter's present tick (R439). -/
def State.halfOf (s : State) (ns : Nat) : Int :=
  let h := Nat.max 1 s.tb.incrEff
  (4 * ((ns * nsUnits : Nat) - (s.tb.now.units : Int)) + h) / (2 * h : Nat)

/-- Device time at the end of a half-period of CK_TIME, ns. -/
def State.halfAt (s : State) (j : Int) : Nat := (((s.tb.now.units : Int) + j * s.tb.incrEff / 2) / (nsUnits : Int)).toNat

/-- The half-period that the last edge of CK_TIME at or before an instant begins. -/
def State.halfIn (s : State) (ns : Nat) : Int :=
  2 * ((ns * nsUnits : Nat) - (s.tb.now.units : Int)) / (Nat.max 1 s.tb.incrEff : Nat)

/-- The half-periods at which rising edge k of SDM_CLKg and the falling edge after it stand: those nearest to k × T_mod and to its high
phase later, which for an odd MDIV2 is 2 ns longer than the low one (R438, R439). -/
def State.sdmEdges (s : State) (g k : Nat) : Int × Int :=
  (s.halfOf (k * s.tMod g), s.halfOf (k * s.tMod g + (s.mdiv2 g + 1) / 2 * 2))

/-- The level of SDM_CLKg in OUT mode at an instant: high from a rising edge to the falling one (R438, R439). -/
def State.sdmClk (s : State) (g t : Nat) : Bool :=
  let k := t / s.tMod g
  s.sdmOut g && [k - 1, k, k + 1].any fun i => decide ((s.sdmEdges g i).1 ≤ s.halfIn t ∧ s.halfIn t < (s.sdmEdges g i).2)

/-- The bit of channel `c` in a clock of its group: the level of the data pin that SRC names, at the edge that EDGE names (R438); `p` is
the group's eight pins at the rising edge and at the falling one. -/
def State.sdmBit (s : State) (c : Nat) (p : Byte × Byte) : Bool :=
  (if s.on (F.SDF_CLK_EDGE.plus (4 * (c / 8))) then p.2 else p.1).getLsbD (s.ch F.SDF_CHc_CFG_SRC c % 8)

/-- The instant at which channel `c` completes its next output, at least T_out after it began: in OUT mode a whole k × T_mod, on an
aligned channel a whole multiple of T_out (R439, R456); in IN mode now. -/
def State.sdfInstant (s : State) (c : Nat) : Nat :=
  if !s.sdmOut (c / 8) then s.now
  else
    let d := if s.aligned c then s.tOut c else s.tMod (c / 8)
    (Nat.max s.now ((s.chain c).begun + s.tOut c) + d - 1) / d * d

/-- A chain completes an output from R × D1 × D2 new bits, oldest first, which `clks` brought on the group's data pins; another count
completes none (R438 to R441, R455, R456).  Device time reaches the edge of the last one; a step that waits for the next tick comes first
(R372). -/
def State.sdfOutput (u0 : State) (c : Nat) (clks : List (Byte × Byte)) : State :=
  let d1 := stageD (u0.stage c 1)
  let d2 := stageD (u0.stage c 2)
  if !u0.sdfOn c || (u0.clkLost (c / 8) && !u0.sdmOut (c / 8)) || clks.length != u0.sincR c * d1 * d2 then u0
  else
    let u := u0.applyFreeStep
    let t := u.sdfInstant c
    let s := u.runTo (if u.sdmOut (c / 8) then u.halfAt (u.halfOf t) else t)
    let k := s.chain c
    let (ys, hist) := sincRun (s.sincN c) (s.sincR c) (s.ch F.SDF_CHc_CFG_PHASE c) (d1 * d2) k.bits (clks.map (s.sdmBit c))
    let (zs, o1) := s.runStage1 c d1 d2 k.fir1 (ys.map (·.1))
    let o2 := s.runStage c 2 k.fir2 zs
    let y := s.correct c o2.value
    (s.modChain c fun x => { x with bits := hist }).sdfDeliver c t y.1
      (ys.any (·.2) || o1.sat || o2.sat || y.2) o1 o2

/-- SDF_OUTPUT (R455). -/
def execSdfOutput (c : Fin 32) (clks : List (Byte × Byte)) (s : State) : Host.Outcome State Fault Refusal :=
  s.gate 9 <| .next (s.sdfOutput c.val clks)

/-- SDM_CLOCK_LOST (R440): no edge for 1 µs in IN mode. -/
def execSdmClockLost (g : Fin 4) (s : State) : Host.Outcome State Fault Refusal :=
  s.gate 9 <| .next (if s.sdmOut g.val || s.clkLost g.val then s
    else
      let a := s.put F.SDF_STATUS_CLK_LOST (putBit (s.fld F.SDF_STATUS_CLK_LOST) g.val true)
      let b := forEach (List.range 8) (fun i (t : State) =>
        t.setTo (chFld F.SDF_CHc_STAT_CLK_LOST_SEEN (8 * g.val + i)) true) a
      b.raise1 216 sevWarn srcSdf g.val)

/-- SDM_CLOCK_RESTORED (R440): 64 edges inside 5 to 20 MHz, measured as `khz`; a settling event where the clock was lost. -/
def execSdmClockRestored (g : Fin 4) (khz : Nat) (s : State) : Host.Outcome State Fault Refusal :=
  s.gate 9 <| .next (if s.sdmOut g.val || decide (khz < 5000 ∨ 20000 < khz) then s
    else
      let a := (s.put F.SDF_STATUS_CLK_LOST (putBit (s.fld F.SDF_STATUS_CLK_LOST) g.val false)).put
        (F.SDF_CLK_FREQ.plus (4 * g.val)) khz
      let b := forEach (List.range 8) (fun i (t : State) => (t.showChan (8 * g.val + i)) |> fun u =>
        if u.sdfOn (8 * g.val + i) then (u.modChain (8 * g.val + i) fun k => { k with begun := s.now }).settle (8 * g.val + i) else u) a
      if s.clkLost g.val then b.raise1 216 sevWarn srcSdf g.val
      else forEach (List.range 8) (fun i (t : State) => t.showChan (8 * g.val + i)) (s.put (F.SDF_CLK_FREQ.plus (4 * g.val)) khz))

/-- Is a field of the channel outside its range (R444)? -/
def State.chanBad (s : State) (c : Nat) : Bool :=
  decide (s.sincR c < 8 ∨ 256 < s.sincR c) || s.ch F.SDF_CHc_CFG_SRC c / 8 != c / 8

/-- Enable one channel, or refuse it (R444). -/
def State.sdfEnable (c : Nat) (s : State) : State :=
  let en := s.rdn Reg.SDF_EN
  if s.chanBad c then (s.setTo (chFld F.SDF_CHc_STAT_CFG_BAD c) true).raise1 217 sevWarn srcSdf c
  else if s.overLoad (putBit en c true) then (s.setTo F.SDF_STATUS_LOAD_REFUSED true).raise1 217 sevWarn srcSdf c
  else
    let a := s.wrn Reg.SDF_EN (putBit en c true)
    (a.modChain c fun k => { k with
      bits := [], begun := s.now, fir1 := { k.fir1 with line := [] }, fir2 := { k.fir2 with line := [] } }).settle c

/-- While a channel is off no fade runs and SEL's bank is the active one (log entry 41). -/
def State.sdfRest (c : Nat) (s : State) : State :=
  let st := fun (i : Nat) (f : FirStage) => { f with act := s.on (firFld F.SDF_CHc_FIR1_SEL c i), fade := none }
  let a := s.modChain c fun k => { k with fir1 := st 1 k.fir1, fir2 := st 2 k.fir2 }
  (a.setTo (firFld F.SDF_CHc_FIR1_FADING c 1) false).setTo (firFld F.SDF_CHc_FIR1_FADING c 2) false

/-- A write of SDF_EN (R444): channels named 0 go off, then the others come on in channel order. -/
def State.writeSdfEn (s : State) (v : Nat) : State :=
  let old := s.rdn Reg.SDF_EN
  let a := forEach ((setBits 32 old).filter fun c => !bitAt v c) State.sdfRest (s.wr Reg.SDF_EN (w32 old &&& w32 v))
  (forEach ((setBits 32 v).filter fun c => !bitAt old c) State.sdfEnable a).showSdf

/-- SDF_EN (R444). -/
def execSdfEn (_req : Req) (v : Word) (s : State) : Host.Outcome State Fault Refusal :=
  s.gate 9 <| .next (s.writeSdfEn v.toNat)

/-- The outputs of stage 1 of channel `c` that have come within the chain's running output; an output of stage 2 is the chain's own
(R450). -/
def State.stageDone (s : State) (c i : Nat) : Nat :=
  let t1 := if s.sdmOut (c / 8) then s.sincR c * stageD (s.stage c 1) * s.tMod (c / 8)
    else s.sincR c * stageD (s.stage c 1) * 1000000 / Nat.max 1 (s.fld (F.SDF_CLK_FREQ.plus (4 * (c / 8))))
  if i = 1 ∧ stageD (s.stage c 2) ≠ 1 ∧ t1 ≠ 0 then Nat.min (stageD (s.stage c 2)) ((s.now - (s.chain c).begun) / t1) else 0

/-- A write of FIR1 or FIR2 (R449, R450), whose RSV bits are ignored (R9, log entry 44): a SEL change during a fade is discarded,
the register's other fields take the write; otherwise the change is scheduled, on a bypassed stage it is a settling event at once (R452),
and on a channel that is off it is in force at once. -/
def State.writeFir (s : State) (c i v : Nat) : State :=
  let r := blockOff Reg.SDF_CHc_FIR1 (0x40 * c + 4 * (i - 1))
  let sel := bitAt v 31
  let old := s.on (firFld F.SDF_CHc_FIR1_SEL c i)
  if ((s.chain c).fir i).fade.isSome ∧ sel ≠ old then ((s.wrAcc r (putBit v 31 old) 0).setTo F.SDF_STATUS_XF_BUSY true).showChan c
  else
    let a := s.wrAcc r v 0
    let b := if sel ≠ old then a.modFir c i fun f => { f with armed := !bitAt v 30, after := a.stageDone c i } else a
    let d := if sel ≠ old ∧ s.sdfOn c ∧ s.stage c i = 0 then b.settle c else b
    (if d.sdfOn c then d else d.sdfRest c).showChan c

/-- FIR_SEL (R450). -/
def execFirSel (_req : Req) (c : Fin 32) (second : Bool) (v : Word) (s : State) : Host.Outcome State Fault Refusal :=
  s.gate 9 <| .next (s.writeFir c.val (if second then 2 else 1) v.toNat)

/-- Is a set named by the active bank of a stage of channel `c` that is on, or by either bank of a fading stage (R451)?  The
active bank is SEL's; one that filters until its fade starts counts too. -/
def State.setUsedBy (s : State) (set c : Nat) : Bool :=
  [1, 2].any fun i =>
    let a := s.fld (firFld F.SDF_CHc_FIR1_SET_A c i)
    let b := s.fld (firFld F.SDF_CHc_FIR1_SET_B c i)
    s.sdfOn c && s.stage c i != 0 &&
      ((if ((s.chain c).fir i).act then b else a) == set || (if s.on (firFld F.SDF_CHc_FIR1_SEL c i) then b else a) == set)

/-- A coefficient write (R446, R451): sets 0 to 7 are read-only; bits [31:24] read as the sign extension. -/
def State.writeCoef (s : State) (set tap v : Nat) : State :=
  if set < 8 then s
  else match (List.range 32).find? (s.setUsedBy set) with
  | some c => (s.setTo F.SDF_STATUS_COEF_BUSY true).raise1 220 sevInfo srcSdf c
  | none => (s.wrn (blockOff 0x118000 (0x100 * set + 4 * tap)) (code 32 (sgn 24 v))).showSdf

/-- COEFFICIENT_WRITE (R451). -/
def execCoefficientWrite (_req : Req) (set : Fin 32) (tap : Fin 64) (v : Word) (s : State) :
    Host.Outcome State Fault Refusal :=
  s.gate 9 <| .next (s.writeCoef set.val tap.val v.toNat)

/-- A write of SDF_CHc_CFG (R445): while the channel is enabled a change of ORDER, R or a stage is discarded and sets
CFG_BAD, and so does a SRC of another clock group (R438, R444); SRC and PHASE take effect, and a change of either starts settling.  RSV bits are ignored (R9, log entry 44). -/
def State.writeSdfCfg (s : State) (c v : Nat) : State :=
  let r := blockOff Reg.SDF_CHc_CFG (0x40 * c)
  let old := s.rdn r
  let fixed := 0xF80001FF + (if bitsOf v 26 22 / 8 = c / 8 then 0 else 0x07C00000)
  if !s.sdfOn c then (s.wrAcc r v 0).showSdf
  else
    let clash := decide (w32 (old ^^^ v) &&& w32 fixed ≠ 0)
    let nv := ((w32 old &&& w32 fixed) ||| (w32 v &&& ~~~(w32 fixed))).toNat
    let a := if clash then (s.setTo (chFld F.SDF_CHc_STAT_CFG_BAD c) true).raise1 217 sevWarn srcSdf c else s
    let b := a.wrAcc r nv 0
    (if b.rdn r ≠ old then b.settle c else b).showSdf

/-- SDF_CFG_WRITE (R445). -/
def execSdfCfgWrite (_req : Req) (c : Fin 32) (v : Word) (s : State) : Host.Outcome State Fault Refusal :=
  s.gate 9 <| .next (s.writeSdfCfg c.val v.toNat)

/-- A write of SDF_CLKg: DIR only while the group's channels are disabled; a driven clock is not lost. -/
def State.writeSdmClk (s : State) (g v : Nat) : State :=
  let r := blockOff Reg.SDF_CLK (4 * g)
  let busy := (List.range 8).any fun i => s.sdfOn (8 * g + i)
  let nv := if busy then putBit v 31 (s.sdmOut g) else v
  let a := s.wrAcc r nv 0
  (if a.sdmOut g then a.put F.SDF_STATUS_CLK_LOST (putBit (a.fld F.SDF_STATUS_CLK_LOST) g false) else a).showSdf

/-! ### Latches (R457) -/

/-- The latched pair of a chain: its newest output, STALE where none completed since the last latch. -/
def Chain.latch (k : Chain) (fresh : Bool) : Word × Nat :=
  match k.last with
  | none => (w32 16, 0)
  | some (w, t) => (if fresh then w else w ||| w32 16, t)

/-- SDF_LATCH of one channel at the sample instant; a SEL change under AT_SI may start now (R450). -/
def State.latchChan (c : Nat) (s : State) : State :=
  let k := s.chain c
  let l := k.latch k.fresh
  let a := (s.wr (blockOff Reg.SDF_CHc_LAT (0x40 * c)) l.1).wrn (blockOff Reg.SDF_CHc_LATT (0x40 * c)) l.2
  a.modChain c fun x => { x with
    fresh := false
    fir1 := { x.fir1 with armed := true, after := if x.fir1.armed then x.fir1.after else s.stageDone c 1 }
    fir2 := { x.fir2 with armed := true } }

/-- SDF_LATCH (R457); what follows from the cycle's periods is shown anew. -/
def State.sdfLatch (s : State) : State := (forEach (List.range 32) State.latchChan s).showSdf

/-- FAST_LATCH of the chains (R457). -/
def State.sdfFastLatch (s : State) : State :=
  { s with sdf := s.sdf.map fun k => { k with
    fast := ((k.latch k.freshFast).1, w32 (k.latch k.freshFast).2), freshFast := false } }

end Sys2Proof.Machine
end

