-- ==== Sys2Proof/Machine/RegRead.lean ====
section
/-! DEFINITION. The value a read of BAR0 returns, without the side effect some reads have (R8, R565). -/

namespace Sys2Proof.Machine

/-- Offset of Meridian retained SRAM in BAR0. -/
def retBase : Nat := 0xE4000

/-- Is the offset inside the retained SRAM window? -/
def inRetained (off : Nat) : Bool := decide (retBase ≤ off ∧ off < retBase + 0x4000)

/-- Is the offset a register of Meridian's or a word of retained SRAM (R392)?  A reserved offset is neither (R565). -/
def inMeridian (off : Nat) : Bool :=
  (off / 0x10000 == 0xE) && off != Reg.MER_LOCK_CNT && (inRetained off || (regRow? off).isSome)

/-- Is the offset that of a debug module register? -/
def inDebug (off : Nat) : Bool := decide (Reg.DBG_DMI ≤ off ∧ off < Reg.DBG_DMI + 512)

/-- The word of a register, as requester `r` reads it; registers of a value that the device forms when it is read (R376,
R382, R399, R446, R492). -/
def State.regValue (s : State) (r : Req) (off : Nat) : Nat :=
  if off = Reg.CHIP_VARIANT then s.chipVariant
  else if off = Reg.ALM_STATUS then s.almStatus
  else if off = Reg.PTP_TIME_NS then s.now % 2 ^ 32
  else if off = Reg.PTP_TIME_EXT then s.timeExt r
  else if off = Reg.PTP_STATUS then putBit (s.rdn off) F.PTP_STATUS_EXT_VALID.lo (s.extValid r)
  else if off = Reg.PTP_TXTS_W0 then s.txtsW0
  else if off = Reg.PTP_TXTS_W1 then (s.readTxts1).1
  else if off = Reg.GRD_STATUS then putBits (s.rdn off) F.GRD_STATUS_DEG_LEFT.hi F.GRD_STATUS_DEG_LEFT.lo s.degLeft
  else if off = Reg.MER_TIME then (s.merShadow r).1
  else if off = Reg.MER_DATE then (s.merShadow r).2
  else if off = Reg.MER_EVF0 then s.evf0Read.1
  else if off = Reg.MER_EVF2 then s.evf2Read.1
  else if off = Reg.CDR_CYC_LO then s.cdr.cyc % 2 ^ 32
  else if off = Reg.CDR_PT_LO then s.cdr.pt % 2 ^ 32
  else if off = Reg.CDR_PT_ADJ_LO then code 32 s.cdr.ptAdj
  else if inDebug off then s.dmRead ((off - Reg.DBG_DMI) / 4)
  else if 0x118000 ≤ off ∧ off < 0x11A000 then code 32 (s.tap ((off - 0x118000) / 0x100) ((off - 0x118000) % 0x100 / 4))
  else s.rdn (regKey r off)

/-- A debug module register that SEALED hides: every one but dmstatus, DMI address 0x11 (R521). -/
def State.dbgHidden (s : State) (off : Nat) : Bool :=
  inDebug off && s.lc == 2 && off != Reg.DBG_DMI + 4 * 0x11

/-- What a read of an aligned word of BAR0 returns (R8, R392, R527, R565): write-only and reserved bits read 0, and so does all
of Meridian under lockout and every block that does not answer. -/
def State.regRead (s : State) (r : Req) (off : Nat) : Nat :=
  if s.mer.lockout && inMeridian off then 0
  else if !s.blockOn off then 0
  else if s.dbgHidden off then 0
  else if inRetained off then (readWord ramByte s.mem.retained (off - retBase)).toNat
  else match regRow? off with
    | none => 0
    | some row => (BitVec.ofNat 32 (s.regValue r off) &&& ~~~(BitVec.ofNat 32 (row.wo ||| row.rsv))).toNat

/-- Registers whose read has a side effect beside RC bits: they latch or pop. -/
def latchingReg (off : Nat) : Bool :=
  [Reg.PTP_TIME_NS, Reg.PTP_TXTS_W0, Reg.PTP_TXTS_W1, Reg.MER_SUBSEC, Reg.MER_EVF0, Reg.MER_EVF2, Reg.CDR_CYC_LO, Reg.CDR_PT_LO,
    Reg.CDR_PT_ADJ_LO, Reg.FUS_STATE_CYC_LO].contains off

/-- Has a read of a word of a message object a side effect: of word 0 and of the LAST word of a receive object (R416)? -/
def State.objActs (s : State) (off : Nat) : Bool :=
  let c := (off - 0xF0000) / 0x4000
  let k := (off % 0x4000 - 0x1000) / 80
  let w := (off % 0x4000 - 0x1000) % 80 / 4
  decide (0xF1000 ≤ off ∧ off < 0x100000 ∧ 0x1000 ≤ off % 0x4000 ∧ off % 0x4000 < 0x3800) && s.isRx c k &&
    (w == 0 || w == s.fld (of F.CAN_OBJ_CFG_LAST c k))

/-- Does a read of the offset have a side effect? -/
def State.readActs (s : State) (off : Nat) : Bool :=
  latchingReg off || s.objActs off ||
    (match regRow? off with | some row => decide (row.rc ≠ 0) | none => false)

end Sys2Proof.Machine
end

