-- ==== Sys2Proof/Machine/Plate.lean ====
section
/-! DEFINITION. Plate capture (15_almanac_plate_capture.md, R498 to R502). -/

namespace Sys2Proof.Machine

/-! ### The dump (R500, R501) -/

/-- A block of the dump: header, data, CRC-32C, padded with zeros to a multiple of 8 bytes (R501). -/
def plateBlock (ty src : Nat) (data : List Byte) : List Byte :=
  let b := leBytes 2 ty ++ leBytes 2 0 ++ leBytes 4 data.length ++ leBytes 8 src ++ data
  let c := b ++ leBytes 4 (crc32c b)
  c ++ List.replicate ((8 - c.length % 8) % 8) 0

/-- Block data the model does not hold: free bytes (log entry 12). -/
def State.freeBlock (s : State) (k n : Nat) : List Byte := (List.range n).map (Config.plateByte s.freeCtr k)

/-- The 64-byte header of a resident structure (R157). -/
def Struct.header (st : Struct) : List Byte :=
  leBytes 4 st.sid ++ leBytes 1 st.ty ++ leBytes 1 st.state ++ leBytes 2 0 ++ leBytes 2 st.n ++ leBytes 2 st.m ++ leBytes 2 st.nnzA ++
    leBytes 2 st.nnzP ++ leBytes 8 st.rho ++ leBytes 8 st.sigma ++ leBytes 8 st.cycFactor ++ leBytes 4 st.warmId ++ leBytes 4 st.size ++
    leBytes 8 st.cycSolution ++ leBytes 8 0

/-- What a structure holds in engine SRAM, as its image has it: where each part begins in it, and the part's bytes (R157, R158). -/
def Struct.parts (st : Struct) : List (Nat × List Byte) :=
  let off := Config.imageOffset st.ty st.n st.m st.nnzA st.nnzP
  (0, st.header) :: (off 16, st.pPtr.flatMap (leBytes 2)) :: (off 17, st.pIdx.flatMap (leBytes 2)) ::
    (off 18, st.aPtr.flatMap (leBytes 2)) :: (off 19, st.aIdx.flatMap (leBytes 2)) ::
    (if st.ty = 2 then [] else (List.range st.arr.length).map fun k => (off k, (st.arr.getD k []).flatMap (leBytes 8)))

/-- A byte of the structure area of an engine: one of a resident structure, or none that the model holds. -/
def State.structByte (s : State) (eng i : Nat) : Option Byte :=
  (List.range 4).findSome? fun ss =>
    let b := Config.structAt eng ss
    (s.struct? eng ss).bind fun st => if i < b then none else
      st.parts.findSome? fun p => if b + p.1 ≤ i then p.2[i - b - p.1]? else none

/-- The engine SRAM of a quadrant as the dump has it: of each of 16 engines the structure area, at places that no rule gives, then the
scratch area (R152, R501, log entry 12). -/
def State.engineSram (s : State) (q : Nat) : List Byte :=
  (List.range 0x400000).map fun i =>
    let eng := 16 * q + i / 0x40000
    let at0 := i % 0x40000
    if at0 < 245760 then (s.structByte eng at0).getD (Config.plateByte s.freeCtr (16 + q) i) else s.scratch eng (at0 - 245760)

/-- The program memories of a cycle core: both code halves, then both data halves (R70; the order in the block is a DESIGN CHOICE,
log entry 12). -/
def State.coreMemory (s : State) (core : Nat) : List Byte :=
  ([s.cdr.half0, s.cdr.half1].flatMap fun h => readBytes ramByte (h.code core) 0 0x40000) ++
    [s.cdr.half0, s.cdr.half1].flatMap fun h => readBytes ramByte (h.data core) 0 0x80000

/-- A register as the dump has it: one whose read has a side effect reads 0. -/
def State.dumpReg (s : State) (i : Nat) : Word := if s.readActs (4 * i) then 0 else w32 (s.regRead .sup (4 * i))

/-- The Almanac ring as the dump has it: each record followed by its SEQ. -/
def State.dumpRing (s : State) : List Byte := s.alm.ring.flatMap fun e => e.body.bytes ++ leBytes 4 e.seq

/-- The blocks of a dump, in type order; the HXZ9410-SI takes the first three (R499). -/
def State.plateBlocks (s : State) : List (List Byte) :=
  let src (ty q : Nat) : Nat := (Config.plateSource ty q).toNat
  let low := [plateBlock 1 (src 1 0) (bytesOf ((List.range 0x80000).map s.dumpReg)), plateBlock 2 (src 2 0) s.dumpRing,
    plateBlock 3 (src 3 0) (s.coreMemory 0 ++ s.coreMemory 1)]
  match s.variant with
  | .si => low
  | .ci =>
    low ++ [plateBlock 4 (src 4 0) (readBytes ramByte s.mem.sram 0 0x1000000)] ++
      (((List.range 4).filter fun q => s.domOn (5 + q)).map fun q => plateBlock 5 (src 5 q) (s.engineSram q)) ++
      [plateBlock 6 (src 6 0) (s.freeBlock 6 0x201000)]

/-- The blocks that fit behind the header, in type order until the next one does not fit. -/
def fitting (room : Nat) : List (List Byte) → List (List Byte)
  | [] => []
  | b :: bs => if b.length ≤ room then b :: fitting (room - b.length) bs else []

/-- The 64-byte header (R500). -/
def State.plateHeader (s : State) (reason n len : Nat) (truncated stepFail : Bool) : List Byte :=
  let h := leBytes 4 0x01544C50 ++ leBytes 8 s.cdr.cyc ++ leBytes 8 s.devTime ++ leBytes 2 reason ++ leBytes 2 n ++ leBytes 4 len ++
    leBytes 4 (s.rdn Reg.CHIP_ID) ++ leBytes 8 s.boot.fuses.uid ++ leBytes 1 (b2n truncated + 2 * b2n stepFail) ++
    leBytes 1 (s.fld F.RDN_STATUS_RSTATE) ++ List.replicate 18 0
  h ++ leBytes 4 (crc32c h)

/-- The dump that fits into `room` bytes. -/
def State.plateDump (s : State) (reason room : Nat) : List Byte :=
  let all := s.plateBlocks
  let bs := fitting (room - 64) all
  let body := bs.flatten
  s.plateHeader reason bs.length (64 + body.length) (decide (bs.length < all.length)) false ++ body

/-! ### The capture (R498, R499) -/

/-- Bytes of the Plate region. -/
def plateBytes : Nat := 0x4000000

/-- Where the Plate region of DDR begins: its top 64 MiB. -/
def State.plateBase (s : State) : Nat := s.mem.ddrBytes - plateBytes

/-- The flash Plate area without its contents. -/
def State.eraseArea (s : State) : State :=
  match s.alm.plateArea with
  | none => s
  | some a => { s with mem := { s.mem with
      flash := s.mem.flash.filter fun c => decide (c.1 < a.1) || decide (a.1 + a.2 ≤ c.1) } }

/-- Steps 1 to 3: the FATAL record; the supervisor heartbeat, the cycle cores, the application cluster, the Orrery ports and
the Almanac intake stop.  What the intake held by then reaches the ring before the ring is copied: the intake holds a record for
2 µs only (R490; DEDUCED, log entry 12). -/
def State.plateStop (s : State) (reason : Nat) : State :=
  let a := (s.raise1 245 sevFatal srcAlm reason).releaseAll
  let b := { a with
    boot := { a.boot with appRuns := false }, pow := { a.pow with svStopped := true }, alm := { a.alm with frozen := true } }
  let c := b.modCdr fun c => { c with
    stopped := true, pre := .idle, post := .idle, fast := .idle, slow := .idle, waiting := none, rollback := none, initLeft := [] }
  if c.fld F.CDR_STATUS_STATE = 4 then c else c.put F.CDR_STATUS_STATE 0

/-- Step 7: a Meridian Cycle with REASON 2, and the capture has ended. -/
def State.plateEnd (s : State) : State := (s.modAlm fun a => { a with plate := .done }).merCycle 2

/-- Steps 4 and 5: the dump goes to the Plate region of DDR, or, in the HXZ9410-SI, to flash; what has no place to go is
skipped. -/
def State.plateWrite (s : State) (reason : Nat) : State :=
  let area := (s.alm.plateArea.map (·.2)).getD plateBytes
  let a := s.nextFree
  match s.variant, s.alm.plateArea with
  | .ci, _ =>
    if s.domOn 11 then
      { a with mem := { a.mem with
        ddr := writeBytes ramByte a.mem.ddr s.plateBase (s.plateDump reason (Nat.min (Nat.min plateBytes s.mem.ddrBytes) area)) } }
    else s
  | .si, some p => a.eraseArea.flashWrite p.1 (s.plateDump reason area)
  | .si, none => s

/-- A fatal error: the capture by the supervisor, while it runs, or NESTED while one is under way (R498, R499, R502).  Step 6 begins
with the erasure of the flash Plate area, so that it holds no valid header until the copy is complete. -/
def State.plateFatal (s : State) (reason : Nat) : State :=
  match s.alm.plate with
  | .done => s
  | .copying => s.bump F.ALM_PLATE_STATUS_NESTED 1
  | .idle =>
    if s.svDead then s
    else
      let a := s.plateStop reason
      if s.on F.ALM_PLATE_STATUS_PRESENT ∧ s.on F.ALM_PLATE_CTRL_KEEP_FIRST then a.plateEnd
      else
        let b := a.plateWrite reason
        if s.alm.plateArea.isNone then b.plateEnd
        else (if s.variant = .ci then b.eraseArea else b).modAlm fun x => { x with plate := .copying }

/-- FABRIC_TIMEOUT (R498): a fabric request unanswered for 1 ms. -/
def execFabricTimeout (s : State) : Host.Outcome State Fault Refusal := .next (s.plateFatal 2)

/-- SRAM_DOUBLE_ECC (R498). -/
def execSramDoubleEcc (s : State) : Host.Outcome State Fault Refusal := .next (s.plateFatal 3)

/-- Does a DDR address lie in a range marked critical? -/
def State.isCritical (s : State) (addr : Nat) : Bool := s.boot.critical.any fun r => decide (r.1 ≤ addr ∧ addr < r.1 + r.2)

/-- DDR_UNCORRECTABLE (R498): fatal in a range marked critical. -/
def execDdrUncorrectable (addr : Nat) (s : State) : Host.Outcome State Fault Refusal :=
  .next (if s.isCritical addr then s.plateFatal 4 else s)

/-- CORES_TRAPPED (R498): all four application cores stopped in a trap. -/
def execCoresTrapped (s : State) : Host.Outcome State Fault Refusal := .next (if s.boot.appRuns then s.plateFatal 5 else s)

/-- ALM_PLATE_CTRL.TRIGGER: refused in SEALED unless the configuration image allows it (R498). -/
def State.plateTrigger (s : State) : State :=
  if s.fld F.BOOT_STATUS_LC = 2 ∧ !s.boot.sys.plateSealed then s.setTo F.ALM_PLATE_CTRL_TRIGGER false
  else (s.setTo F.ALM_PLATE_CTRL_TRIGGER false).plateFatal 6

/-- TRIGGER (R498). -/
def execTrigger (_req : Req) (s : State) : Host.Outcome State Fault Refusal :=
  s.gate 9 <| .next s.plateTrigger

/-! ### The flash copy (R499, R502) -/

/-- A header with STEP_FAIL set. -/
def markFailed (h : List Byte) : List Byte :=
  let b := h.take 40 ++ [BitVec.ofNat 8 (putBit (leNat ((h.drop 40).take 1)) 1 true)] ++ (h.drop 41).take 19
  b ++ leBytes 4 (crc32c b)

/-- Step 6 ends: the flash Plate area holds the dump, its header written last and marked where the step failed. -/
def State.plateCopy (s : State) (ok : Bool) : State :=
  match s.alm.plateArea with
  | none => s
  | some p =>
    let d := match s.variant with
      | .ci => readBytes ramByte s.mem.ddr s.plateBase (Nat.min p.2 (leNat (readBytes ramByte s.mem.ddr (s.plateBase + 24) 4)))
      | .si => readBytes flashByte s.mem.flash p.1 64
    let h := if ok then d.take 64 else markFailed (d.take 64)
    match s.variant with
    | .ci => if s.domOn 11 then (s.eraseArea.flashWrite p.1 (h ++ d.drop 64)) else s
    | .si => s.flashWrite p.1 h

/-- PLATE_COPY_DONE (R499): steps 6 and 7. -/
def execPlateCopyDone (ok : Bool) (s : State) : Host.Outcome State Fault Refusal :=
  .next (if s.alm.plate = .copying then (s.plateCopy ok).plateEnd else s)

/-- ALM_PLATE_CTRL.RELEASE: the flash copy is erased, PRESENT clears and EV244 is raised (R502). -/
def State.plateRelease (s : State) : State :=
  ((s.eraseArea.setTo F.ALM_PLATE_CTRL_RELEASE false).setTo F.ALM_PLATE_STATUS_PRESENT false).raise 244 sevNotice srcAlm

/-- RELEASE (R502). -/
def execReleasePlate (_req : Req) (s : State) : Host.Outcome State Fault Refusal :=
  s.gate 9 <| .next s.plateRelease

/-- A flash Plate copy whose header is valid: its bytes (R502). -/
def State.flashPlate (s : State) : Option (List Byte) :=
  match s.alm.plateArea with
  | none => none
  | some p =>
    let h := readBytes flashByte s.mem.flash p.1 64
    if leNat (h.take 4) = 0x01544C50 ∧ leNat (h.drop 60) = crc32c (h.take 60) then
      some (readBytes flashByte s.mem.flash p.1 (Nat.min p.2 (leNat ((h.drop 24).take 4))))
    else none

/-- Boot's stage PLATE_RESTORE: a valid flash copy goes to the DDR Plate region; PRESENT, TRUNCATED, REASON, EV243 (R502). -/
def State.plateRestore (s : State) : State :=
  match s.flashPlate with
  | none => s
  | some d =>
    let r := leNat ((d.drop 20).take 2)
    let a := if s.variant = .ci ∧ s.domOn 11 then
      { s with mem := { s.mem with ddr := writeBytes ramByte s.mem.ddr s.plateBase d } } else s
    (((a.setTo F.ALM_PLATE_STATUS_PRESENT true).put F.ALM_PLATE_STATUS_TRUNCATED (leNat ((d.drop 40).take 1))).put
      F.ALM_PLATE_STATUS_REASON r).raise1 243 sevAlarm srcAlm r

end Sys2Proof.Machine
end

