-- ==== Sys2Proof/Machine/Life.lean ====
section
/-! DEFINITION. The end of boot's stage TIME and the life-cycle commands (16_boot_config_lifecycle.md, R518, R520 to R524). -/

namespace Sys2Proof.Machine

/-! ### The grid (R518) -/

/-- The first whole multiple of T_base that is at least 1 ms from now. -/
def State.gridFrom (s : State) : Nat :=
  let b := if s.tbase = 0 then 1 else s.tbase
  (s.now + 1000000 + b - 1) / b * b

/-- The wait of stage TIME ends: the grid is scheduled (R518), where the sequencer and the time base have power (R528). -/
def State.gridStart (s : State) : State :=
  s.modBoot fun b => { b with waitFrom := none, gridAt := if s.domOn 9 && s.domOn 10 then some s.gridFrom else none }

/-- A write of BOOT_CTRL.TIME_READY: it ends the wait, and is cleared when the grid starts (R518). -/
def State.timeReady (s : State) : State :=
  let a := s.setTo F.BOOT_CTRL_TIME_READY true
  if a.boot.waitFrom.isSome then a.gridStart else a

/-- TIME_READY (R518). -/
def execTimeReady (_req : Req) (s : State) : Host.Outcome State Fault Refusal :=
  s.reach Reg.BOOT_CTRL <| .next s.timeReady

/-- GRID_WAIT passes: TIME_UNSYNC, EV004, and the grid starts (R518). -/
def State.gridTimeout (s : State) : State :=
  match s.boot.waitFrom with
  | none => s
  | some t =>
    let a := s.runTo (t + s.boot.sys.gridWait * 1000000000)
    ((a.setTo F.BOOT_STATUS_TIME_UNSYNC true).raise 4 sevWarn srcBoot).gridStart

/-- GRID_WAIT_EXPIRY (R518). -/
def execGridWaitExpiry (s : State) : Host.Outcome State Fault Refusal := s.rooted <| .next s.gridTimeout

/-! ### Life-cycle commands (R522 to R524) -/

/-- Bytes of a command's data: in DDR, or in shared SRAM on the HXZ9410-SI (R522). -/
def State.lcData (s : State) (n : Nat) : List Byte :=
  let a := s.rd64 Reg.BOOT_LC_ADDR_LO Reg.BOOT_LC_ADDR_HI
  match s.variant with
  | .ci => readBytes ramByte s.mem.ddr a n
  | .si => readBytes ramByte s.mem.sram a n

/-- Is a return authorisation valid for this start of this device (R523)? -/
def State.returnOk (s : State) (d : List Byte) : Bool :=
  let sb := (d.drop 64).take 112
  d.length == 176 && fieldLe d 0 4 == 0x414E5452 && fieldLe d 4 8 == s.boot.fuses.uid && fieldLe d 12 4 == s.rdn Reg.BOOT_LC_NONCE &&
    ((d.drop 16).take 48).all (· == 0) && fieldLe sb 0 4 == 0x50474953 && fieldLe sb 4 1 == 0xF &&
    ecdsaOk Config.vendorKey (sha384 (d.take 64)) ((sb.drop 16).take 96)

/-- The user keys that would be left usable, as a mask. -/
def State.keysLeft (s : State) (keys : Nat) : Nat :=
  (setBits 4 (s.boot.fuses.present)).foldl (fun m k =>
    if bitAt s.boot.fuses.revoked k || bitAt keys k then m else m + 2 ^ k) 0

/-- Is the state in force in the command's From column (R522)? -/
def State.lcFrom (s : State) (op : Nat) : Bool :=
  match op with
  | 1 => s.lc == 0
  | 2 => s.lc == 1
  | 3 => s.lc == 1 || s.lc == 2
  | 4 => s.lc != 4
  | 5 => s.lc == 1 || s.lc == 2
  | _ => false

/-- Does the command pass every check of R522? -/
def State.lcAllowed (s : State) (op confirm keys : Nat) : Bool :=
  s.lcFrom op && confirm == xorN op 0x5A && !s.isActive && (op != 3 || s.returnOk (s.lcData 176)) &&
    (op != 5 || s.keysLeft keys != 0)

/-- Erase bytes of the flash. -/
def State.flashClear (s : State) (a n : Nat) : State :=
  { s with mem := { s.mem with flash := s.mem.flash.filter fun c => decide (c.1 < a) || decide (a + n ≤ c.1) } }

/-- Erase the slots of a directory entry. -/
def State.eraseEntry (s : State) (e : List Byte) : State :=
  (slotsOf e).foldl (fun t o => match o.1 with | some a => t.flashClear a (fieldLe e 12 4) | none => t) s

/-- Step 2 of RETURN: the slots of types 0x02 to 0x05 and 0x07, the key store, the log and the Plate area (R524). -/
def State.eraseUser (s : State) : State :=
  let d := (s.directory.map (·.1)).getD []
  let a := (d.filter fun e => decide (2 ≤ fieldLe e 0 1 ∧ fieldLe e 0 1 ≤ 7)).foldl State.eraseEntry s
  let b := match a.alm.logRegion with | some p => a.flashClear p.1 p.2 | none => a
  match b.alm.plateArea with | some p => b.flashClear p.1 p.2 | none => b

/-- The fuses of a mask that are blown; those of a failed verify are free (R522). -/
def State.blown (s : State) (ok : Bool) (m : Nat) : Nat := if ok then m else m &&& Config.fuseBits s.freeCtr

/-- The same of the second fuses of the life-cycle pairs (R520). -/
def State.blownMate (s : State) (ok : Bool) (m : Nat) : Nat := if ok then m else m &&& Config.fuseMates s.freeCtr

/-- Blow the fuses a command names, life-cycle bit last; BOOT_KEYS shows the key slots (R520, R522, R524). -/
def State.blow (s : State) (ok : Bool) (revoke bit : Nat) (digests : Option (List Byte)) : State :=
  let slot (d : List Byte) (k : Nat) : List Byte := if ok then (d.drop (48 * k)).take 48 else Config.fuseDigest s.freeCtr k
  let a := s.modBoot fun b => { b with fuses := { b.fuses with
    digests := match digests with | some d => (List.range 4).map (slot d) | none => b.fuses.digests
    present := match digests with | some d => s.blown ok (fieldLe d 192 1 % 16) | none => b.fuses.present
    revoked := b.fuses.revoked ||| s.blown ok revoke, lc := b.fuses.lc ||| s.blown ok bit
    lcMate := b.fuses.lcMate ||| s.blownMate ok bit } }
  let c := (a.put F.BOOT_KEYS_REVOKED a.boot.fuses.revoked).put F.BOOT_KEYS_PRESENT a.boot.fuses.present
  if ok then c else c.nextFree

/-- RETURN: the user keys are revoked, then the user's data erased, then L3 blown; `steps` of these three are done (R524). -/
def State.lcReturn (s : State) (ok : Bool) (steps : Nat) : State :=
  let a := if 1 ≤ steps then s.blow ok 0xF 0 none else s
  let b := if 2 ≤ steps then a.eraseUser else a
  if 3 ≤ steps then b.blow ok 0 4 none else b

/-- What an allowed command does (R522, R524). -/
def State.lcAct (s : State) (op keys : Nat) (ok : Bool) (steps : Nat) : State :=
  match op with
  | 1 => s.blow ok 0 1 (some (s.lcData 193))
  | 2 => s.blow ok 0 2 none
  | 3 => s.lcReturn ok steps
  | 4 => s.blow ok 0xF 8 none
  | 5 => s.blow ok keys 0 none
  | _ => s

/-- A life-cycle command: RESULT, EV005, and GO clears (R522); `ok` says that the fuses verify.  A RETURN whose power fails after `steps`
of its three steps stays under way until then (R524). -/
def State.lcCommand (s : State) (op confirm keys : Nat) (ok : Bool) (steps : Nat) : State :=
  let a := ((s.put F.BOOT_LC_CMD_OP op).put F.BOOT_LC_CMD_CONFIRM confirm).put F.BOOT_LC_CMD_KEYS keys
  let may := s.lcAllowed op confirm keys
  let r := if !may then 2 else if ok then 1 else 3
  let b := if may then a.lcAct op keys ok steps else a
  if may ∧ op = 3 ∧ steps < 3 then b.setTo F.BOOT_LC_CMD_GO true
  else (b.put F.BOOT_LC_CMD_RESULT r).raise2 5 sevNotice srcBoot op r

/-- May this party command a transition?  On the HXZ9410-SI only a cycle core, or the IEEE 1149.1 debug port while that is open, writes
BOOT_LC_CMD (R522). -/
def State.lcMay (s : State) (p : Port) : Bool :=
  match p with
  | .jtag => s.jtagOpen
  | .req r => s.variant == .ci || r == .cyc 0 || r == .cyc 1

/-- The row of a life-cycle command: nothing where BOOT_LC_CMD does not answer, where the party has no access, or while a command runs
(R521, R522). -/
def State.lcRow (s : State) (p : Port) (op : Nat) (confirm : Byte) (keys : Nat) (ok : Bool) (steps : Nat) :
    Host.Outcome State Fault Refusal :=
  s.reach Reg.BOOT_LC_CMD <| .next (if s.lcMay p && !s.on F.BOOT_LC_CMD_GO then s.lcCommand op confirm.toNat keys ok steps else s)

/-- PROVISION (R522). -/
def execProvision (port : Port) (confirm : Byte) (ok : Bool) (s : State) : Host.Outcome State Fault Refusal :=
  s.lcRow port 1 confirm 0 ok 3

/-- SEAL (R522). -/
def execSeal (port : Port) (confirm : Byte) (ok : Bool) (s : State) : Host.Outcome State Fault Refusal :=
  s.lcRow port 2 confirm 0 ok 3

/-- RETURN (R524). -/
def execReturnLc (port : Port) (confirm : Byte) (run : ReturnRun) (s : State) : Host.Outcome State Fault Refusal :=
  s.lcRow port 3 confirm 0 run.ok run.steps.val

/-- DECOMMISSION (R522). -/
def execDecommission (port : Port) (confirm : Byte) (ok : Bool) (s : State) : Host.Outcome State Fault Refusal :=
  s.lcRow port 4 confirm 0 ok 3

/-- REVOKE (R522): `keys` names the slots. -/
def execRevoke (port : Port) (confirm : Byte) (keys : Fin 16) (ok : Bool) (s : State) : Host.Outcome State Fault Refusal :=
  s.lcRow port 5 confirm keys.val ok 3

end Sys2Proof.Machine
end

