-- ==== Sys2Proof/Machine/Sections.lean ====
section
/-! DEFINITION. The Clock Drive's program: cycle faults, restarts, online change and the cores' commands
(02_clock_drive.md, R55 to R105).  The phase boundaries are in Cycle. -/

namespace Sys2Proof.Machine

/-! ### Online change: states and windows (R96, R99 to R105) -/

/-- CDR_OC_STATUS.STATE. -/
def State.ocState (s : State) : Nat := s.fld F.CDR_OC_STATUS_STATE

/-- INFO of an OC_LOAD completion (R466). -/
def State.ocInfo (s : State) : List Byte :=
  leBytes 1 (s.fld F.CDR_OC_STATUS_REJECT) ++ leBytes 1 (s.fld F.CDR_OC_STATUS_STALE_RESTORED) ++ List.replicate 6 0 ++
    leBytes 8 s.cdr.switchCyc ++ List.replicate 16 0

/-- The online-change state changes: EV039 (R106). -/
def State.ocGo (s : State) (st : Nat) : State :=
  let a := s.put F.CDR_OC_STATUS_STATE st
  a.raise1 39 sevNotice srcCdr (a.rdn Reg.CDR_OC_STATUS)

/-- STATE returns to IDLE with a RESULT: the inactive halves are free, and the OC_LOAD that carried the load completes
(R104, R475). -/
def State.ocIdle (s : State) (result : Nat) : State :=
  let a := ((s.put F.CDR_OC_STATUS_RESULT result).setSpare .empty).modCdr fun c => { c with
    loading := [], loadSig := [], rollback := none, trial := 0, carrier := none }
  let b := a.ocGo 0
  match s.cdr.carrier with
  | some d => b.endDesc d.1 d.2 0 result b.ocInfo
  | none => b

/-- CANCEL, a restart or the host interface ends a load in LOADING, READY or ARMED (R96). -/
def State.ocCancel (s : State) : State :=
  if s.ocState = 1 ∨ s.ocState = 2 ∨ s.ocState = 3 then
    (s.modCdr fun c => { c with window := none }).ocIdle 6
  else s

/-- A rollback is to run in the next switch window (R102).  A cycle fault's takes the place of one that a host or a restart
request left waiting, and RESULT then reads the fault's code; a restart request leaves the code of a rollback that already waits (DESIGN CHOICE,
log entry 28). -/
def State.rollBack (s : State) (r : Rollback) : State :=
  if s.ocState = 4 then s.modCdr fun c => { c with rollback := some (if r = .fault then r else c.rollback.getD r) } else s

/-- A condition of the trial: with AUTO_ROLLBACK it rolls back (R96). -/
def State.autoBack (s : State) (r : Rollback) : State := if s.on F.CDR_OC_CTRL_AUTO_ROLLBACK then s.rollBack r else s

/-- What a restart request does to an online change (R96, R105). -/
def State.ocRestart (s : State) : State := (s.rollBack .restart).ocCancel

/-- The active halves exchange. -/
def State.exchangeHalves (s : State) : State :=
  let a := s.setTo F.CDR_STATUS_ACTIVE_HALF (!s.on F.CDR_STATUS_ACTIVE_HALF)
  (a.wrn Reg.CDR_PROG_ID (iProg a.half.image)).wrn Reg.CDR_PROG_VER (iVer a.half.image)

/-- The switch to the new program becomes effective (R98, R99); a SLOW run of the old program ends there (DESIGN CHOICE, log
entry 28). -/
def State.switchNow (s : State) (stores : List (Nat × Byte) × List (Nat × Byte)) : State :=
  let a := (s.setSpare (migrateAll s.half s.spare stores)).exchangeHalves
  (a.modCdr fun c => { c with slow := .idle, trial := 0, switchCyc := s.cdr.cyc }).ocGo 4

/-- The old half with the data the rollback gives it (R102, R103). -/
def State.rolledData (s : State) (r : Rollback) : Half :=
  if r = .fault then s.spare else (iMigr s.half.image).foldl (migrateBack s.half) s.spare

/-- A rollback becomes effective; after one of a cycle fault the cores restart in the old program (R102, R103). -/
def State.rollNow (s : State) (r : Rollback) : State :=
  let stale := r == .fault || restoresStale s.half.image
  let a := ((s.setSpare (s.rolledData r)).exchangeHalves).setTo F.CDR_OC_STATUS_STALE_RESTORED stale
  let b := a.modCdr fun c => { c with
    slow := .idle, stopped := if r = .fault then false else c.stopped
    startAt := if r = .fault then some a.now else c.startAt }
  b.ocIdle (if r = .host ∨ r = .restart then 2 else 3)

/-- The switch named by CDR_OC_CYC is due in this cycle. -/
def State.switchDue (s : State) : Bool :=
  s.ocState == 3 && s.cdr.cyc == s.rd64 Reg.CDR_OC_CYC_LO Reg.CDR_OC_CYC_HI

/-- The window is open: where the migration completes inside it, the switch or the rollback is effective (R99, R102).  A
core that still runs PRE or POST migrates nothing. -/
def State.runWindow (s : State) : State :=
  match s.cdr.window with
  | none => s
  | some w =>
    if !w.opened || s.cdr.pre.running || s.cdr.post.running then s
    else match w.stores, s.cdr.rollback with
      | none, _ => s
      | some _, some r => if s.alm.frozen then s else s.rollNow r
      | some m, none => if s.switchDue then s.switchNow m else s

/-- The window opens, unless nothing waits for it.  A FAST run that a cycle fault stops does not end, so a window that waits for its
end does not open in that cycle, and a rollback goes to the next (DESIGN CHOICE, log entry 28). -/
def State.openWindow (s : State) : State :=
  match s.cdr.window with
  | none => s
  | some w =>
    if w.opened then s
    else if s.cdr.rollback.isSome || s.switchDue then
      (s.modCdr fun c => { c with window := some { w with opened := true, openAt := s.now } }).runWindow
    else s.modCdr fun c => { c with window := none }

/-- SWITCH of the cycle: the window opens at once, or at the end of a FAST run (R99). -/
def State.windowAt (s : State) (m : Option (List (Nat × Byte) × List (Nat × Byte))) : State :=
  if s.ocState = 3 ∨ s.ocState = 4 then
    let a := s.modCdr fun c => { c with window := some ⟨false, s.now, m⟩ }
    if s.cdr.fast.running then a else a.openWindow
  else s

/-- The window closes: an armed switch that has not completed is abandoned, a rollback waits for the next window, and a
restart request that came in acts on what is left (R96, R99, R105). -/
def State.closeWindow (s : State) : State :=
  match s.cdr.window with
  | none => s
  | some _ =>
    let due := s.switchDue
    let a := s.modCdr fun c => { c with window := none }
    let b := if due then a.ocIdle 5 else a
    if b.cdr.waiting.isSome then b.ocRestart else b

/-- Is the window open? -/
def State.windowOpen (s : State) : Bool := match s.cdr.window with | some w => w.opened | none => false

/-- Device time of the next fast tick of the grid. -/
def State.tickAt (s : State) : Nat :=
  if s.cdr.ticks * s.fastNs < s.tbase then s.cdr.t0 + s.cdr.ticks * s.fastNs else s.cdr.t0 + s.tbase

/-- SWITCH_WINDOW_CLOSE (R99): 200 µs after the window opened, or at the next fast tick. -/
def execSwitchWindowClose (s : State) : Host.Outcome State Fault Refusal :=
  s.gate 9 <| .next (match s.cdr.window with
    | some w => if w.opened then (s.runTo (Nat.min (w.openAt + 200000) s.tickAt)).closeWindow else s
    | none => s)

/-! ### Cycle faults (R84 to R86, R94) -/

/-- Both cores stop.  A block that PRE wrote in time is still taken (R58); a set whose POST had finished before a cycle fault is
not staged, as no heartbeat word follows (R86; DESIGN CHOICE, log entry 28). -/
def State.stopCores (s : State) : State :=
  (s.modCdr fun c => { c with
    stopped := true, startAt := none, pre := .idle, post := .idle, fast := .idle, slow := .idle, postDone := false, initLeft := [] }).put
    F.CDR_STATUS_STATE 0

/-- What follows a cycle fault: state FAULT after two in a row during initialisation, a rollback in a trial, a restart
otherwise, which waits while the switch window is open (R86, R89, R94, R103, R105).  The restart is warm if R91 allows it, as
R89 gives for every other cause; its table does not list cause 0x7, an initialisation entry past its budget (DESIGN CHOICE, log
entry 28).  A request that waits already keeps its type and cause (DESIGN CHOICE, log entry 28). -/
def State.afterFault (s : State) (initFaults cause : Nat) : State :=
  if 2 ≤ initFaults then
    ((s.put F.CDR_STATUS_STATE 4).modCdr fun c => { c with waiting := none }).raise 43 sevAlarm srcCdr |>.plateFatal 1
  else if s.ocState = 4 ∧ s.on F.CDR_OC_CTRL_AUTO_ROLLBACK then s.rollBack .fault
  else
    let a := s.modCdr fun c => { c with waiting := some (c.waiting.getD ⟨false, cause⟩) }
    if a.windowOpen then a else a.ocRestart

/-- A cycle fault of a cause, coded as CDR_RESTART_INFO.CAUSE (R86). -/
def State.cycleFault (s : State) (cause : Nat) : State :=
  if s.cdr.stopped && s.cdr.initLeft.isEmpty then s
  else
    let init := !s.cdr.initLeft.isEmpty
    let n := if init then s.cdr.initFaults + 1 else 0
    let a := (s.stopCores.setTo F.CDR_STATUS_CYCLE_FAULT true).modCdr fun c => { c with initFaults := n }
    (a.raise2 32 sevAlarm srcCdr (a.rdn Reg.CDR_STATUS) cause).afterFault n cause

/-- SECTION_WATCHDOG (R85): PRE, POST or FAST still runs T_base after it started. -/
def State.watchdog (s : State) (sec : Fin 4) : State :=
  let x := match sec with | 0 => s.cdr.pre | 1 => s.cdr.post | 2 => s.cdr.fast | 3 => Section.idle
  if x.running then (s.runTo (x.start + s.tbase)).cycleFault 3 else s

/-- SECTION_WATCHDOG (R85). -/
def execSectionWatchdog (sec : Fin 4) (s : State) : Host.Outcome State Fault Refusal := s.gate 9 <| .next (s.watchdog sec)

/-- CORE_FAULT (R85): an illegal instruction or an access fault, a double-bit ECC error in code, or one in data. -/
def execCoreFault (kind : Fin 3) (s : State) : Host.Outcome State Fault Refusal := s.gate 4 <| .next (s.cycleFault (4 + kind.val))

/-- ECC_CORRECTED (R73): EV041. -/
def execEccCorrected (s : State) : Host.Outcome State Fault Refusal :=
  s.gate 4 <| .next ((s.setTo F.CDR_STATUS_ECC_CORR true).raise 41 sevInfo srcCdr)

/-- OVR_LIMIT (R84): as many consecutive base cycles have overrun. -/
def execOvrLimit (s : State) : Host.Outcome State Fault Refusal :=
  s.gate 9 <| .next (if s.fld F.CDR_BUDGET_OVR_LIMIT < s.fld F.CDR_STATUS_OVR_RUN then s.cycleFault 2 else s)

/-- FAST_OVR_LIMIT (R84): as many consecutive fast ticks were skipped. -/
def execFastOvrLimit (s : State) : Host.Outcome State Fault Refusal :=
  s.gate 9 <| .next (if 1 ≤ s.cdr.fastSkips ∧ s.fld F.CDR_BUDGET_FAST_OVR_LIMIT ≤ s.cdr.fastSkips then s.cycleFault 2 else s)

/-- The cycle counts as an overrun, once (R83, R84): EV033; in a trial it rolls back (R96). -/
def State.overrun (s : State) : State :=
  if s.cdr.ovr then s
  else
    let a := ((s.modCdr fun c => { c with ovr := true }).bump F.CDR_STATUS_OVR_RUN 1).bump F.CDR_OVR_CNT_BASE 1
    (a.raise1 33 sevWarn srcCdr (a.rdn Reg.CDR_STATUS)).autoBack .auto

/-- PRE has missed a deadline (R83). -/
def State.preLate (s : State) : State :=
  let a := s.setTo F.CDR_STATUS_PRE_LATE true
  a.raise1 33 sevWarn srcCdr (a.rdn Reg.CDR_STATUS)

/-! ### Restarts (R89 to R94) -/

/-- The data halves a restart starts from, and the reason a warm one is denied (R91 to R93). -/
def State.startData (s : State) (cold : Bool) : Half × Nat :=
  if cold then (coldData s.half, 0)
  else match s.warmDeny s.half.image, s.newestCopy with
    | 0, some c => (putGranules (coldData s.half) (c.drop 32), 0)
    | d, _ => (coldData s.half, d)

/-- The core addresses of ENT_COLD0 and ENT_COLD1, or of ENT_WARM0 and ENT_WARM1 (R62, R92, R93). -/
def State.initEntries (s : State) (cold : Bool) : Nat × Nat :=
  let img := s.half.image
  if cold then (iEntry img 76, iEntry img 92) else (iEntry img 72, iEntry img 88)

/-- A restart begins: the cores stop, the data is made ready and the initialisation entries start, each bounded by INIT_BUDGET
(R92 to R94). -/
def State.restartBegin (s : State) (r : Restart) : State :=
  let d := s.startData r.cold
  let cold := r.cold || d.2 != 0
  let a := (s.stopCores.setHalf d.1).modCdr fun c => { c with
    waiting := none, initLeft := [0, 1], initStart := s.now, initEntry := s.initEntries cold, sig := 0, written := [] }
  let b := ((a.setTo F.CDR_STATUS_CYCLE_FAULT false).setTo F.CDR_CTRL_RESTART false).put F.CDR_STATUS_STATE (if cold then 1 else 2)
  let e := ((b.put F.CDR_RESTART_INFO_TYPE (if cold then 1 else 2)).put F.CDR_RESTART_INFO_CAUSE r.cause).put F.CDR_RESTART_INFO_DENY d.2
  let f := e.bump F.CDR_RESTART_INFO_COUNT 1
  let g := f.raise1 37 sevNotice srcCdr (f.rdn Reg.CDR_RESTART_INFO)
  if d.2 = 0 then g else (g.setTo F.CDR_STATUS_WARM_DENIED true).raise1 38 sevWarn srcCdr d.2

/-- Write what a routine stored at core addresses: its core's instance data, the blocks that PRE and FAST fill, and the exchange
area (R71, R72, R202, R239, R359).  The block being written keeps what was stored there before, by a late PRE, POST or an
initialisation entry too: R58 does not say what the other buffer holds (DESIGN CHOICE, log entry 28). -/
def State.coreStore (s : State) (core : Nat) (p : Nat × Byte) : State :=
  if 0x20000000 ≤ p.1 ∧ p.1 < 0x20080000 then
    s.setHalf (s.half.withData core (sset ramByte (s.half.data core) (p.1 - 0x20000000) p.2))
  else if core = 0 ∧ 0x2FFFE000 ≤ p.1 ∧ p.1 < 0x2FFFE200 then
    s.modCdr fun c => { c with cmdNew := setAt c.cmdNew (p.1 - 0x2FFFE000) p.2 }
  else if core = 0 ∧ 0x2FFFE200 ≤ p.1 ∧ p.1 < 0x2FFFE300 then
    s.modCdr fun c => { c with inpNew := setAt c.inpNew (p.1 - 0x2FFFE200) p.2 }
  else if Config.exchangeBase ≤ p.1 ∧ p.1 < Config.exchangeBase + 4096 then
    s.modCdr fun c => { c with exWrite := sset ramByte c.exWrite (p.1 - Config.exchangeBase) p.2 }
  else s

/-- The section that runs on a core. -/
def State.section (s : State) (core : Nat) : Section :=
  if core = 0 then (if s.cdr.pre.running then s.cdr.pre else s.cdr.post)
  else (if s.cdr.fast.running then s.cdr.fast else s.cdr.slow)

/-- The 64-bit count that a core reads at a core address: PT of its section's cycle, PT of its fast tick, CYC of its section's
cycle; an initialisation entry or a routine of a switch, which is no section, reads those of the cycle (R75). -/
def State.coreTime (s : State) (core a : Nat) : Nat :=
  let x := s.section core
  if a = 0x2FFFF000 then (if x.running then x.pt else s.cdr.pt)
  else if a = 0x2FFFF008 then s.cdr.fastPt
  else if a = 0x2FFFF010 then (if x.running then x.cyc else s.cdr.cyc)
  else 0

/-- Every store of a routine, in order. -/
def State.coreStores (s : State) (core : Nat) (ps : List (Nat × Byte)) : State := forEach ps (fun p t => t.coreStore core p) s

/-- The last initialisation entry ended: the overrun counts clear, a cold start invalidates the Meridian copies, and PRE may
start 50 µs later (R92, R93).  The overrun counts are the two consecutive counts of R84; CDR_OVR_CNT goes on (DESIGN CHOICE, log
entry 28). -/
def State.initEnd (s : State) : State :=
  let a := if s.fld F.CDR_STATUS_STATE = 1 then s.dropCopies else s
  (a.put F.CDR_STATUS_OVR_RUN 0).modCdr fun c => { c with
    stopped := false, fastSkips := 0, initFaults := 0, startAt := some (s.now + 50000), ovr := false }

/-- INIT_ENTRY_DONE (R92, R93). -/
def State.initDone (s : State) (core : Nat) (stores : List (Nat × Byte)) : State :=
  if s.cdr.initLeft.contains core then
    let a := (s.coreStores core stores).modCdr fun c => { c with initLeft := c.initLeft.filter (· != core) }
    if a.cdr.initLeft.isEmpty then a.initEnd else a
  else s

/-- INIT_ENTRY_DONE (R92). -/
def execInitEntryDone (core : Fin 2) (stores : List (Nat × Byte)) (s : State) : Host.Outcome State Fault Refusal :=
  s.gate 4 <| .next (s.initDone core.val stores)

/-- An initialisation entry runs past INIT_BUDGET (R62, R94): cause 7. -/
def State.initLate (s : State) : State :=
  if s.cdr.initLeft.isEmpty then s else (s.runTo (s.cdr.initStart + iInitBudget s.half.image * 1000)).cycleFault 7

/-- INIT_BUDGET_EXPIRY (R94). -/
def execInitBudgetExpiry (s : State) : Host.Outcome State Fault Refusal := s.gate 9 <| .next s.initLate

/-- A write of CDR_CTRL.RESTART (R89, R94, R105): while the switch window is open, online change goes on until it closes. -/
def State.restartReq (s : State) (cold : Bool) : State :=
  let a := ((s.setTo F.CDR_CTRL_RESTART true).setTo F.CDR_CTRL_RESTART_TYPE cold).modCdr fun c => { c with
    waiting := some ⟨cold, 1⟩, initFaults := 0 }
  if s.windowOpen then a else a.ocRestart

/-- RESTART (R89). -/
def execRestart (_req : Req) (cold : Bool) (s : State) : Host.Outcome State Fault Refusal := s.gate 9 <| .next (s.restartReq cold)

/-- PROGRAM_STOP (R89): CDR_CTRL.STOP takes effect at the next INTAKE_CL. -/
def execProgramStop (_req : Req) (b : Bool) (s : State) : Host.Outcome State Fault Refusal := s.gate 9 <| .next (s.setTo F.CDR_CTRL_STOP b)

/-! ### What the cores do (R55 to R61, R72, R85, R88) -/

/-- PRE or POST runs. -/
def State.core0Runs (s : State) : Bool := s.cdr.pre.running || s.cdr.post.running

/-- FAST's input payload on a station (R359). -/
def State.payloadStore (s : State) (ps : List (Nat × Byte)) : State :=
  let bs := ps.filter fun p => decide (0x2FFFE400 ≤ p.1 ∧ p.1 < 0x2FFFE800)
  { s with xl := { s.xl with stn := { s.xl.stn with
      payload := bs.foldl (fun b p => setAt (b ++ List.replicate (p.1 - 0x2FFFE400 + 1 - b.length) 0) (p.1 - 0x2FFFE400) p.2) s.xl.stn.payload } } }

/-- A core reports the end of its section; `stores` is what the section wrote at core addresses (R85).  SLOW runs only while
FAST is idle (R56). -/
def State.sectionEnd (s : State) (sec : Fin 4) (stores : List (Nat × Byte)) : State :=
  match sec with
  | 0 => if s.cdr.pre.running then
      (s.coreStores 0 stores).modCdr fun c => { c with preDone := c.pre.cyc == c.cyc, pre := .idle }
    else s
  | 1 => if s.cdr.post.running then
      (s.coreStores 0 stores).modCdr fun c => { c with postDone := c.post.cyc == c.cyc, post := .idle }
    else s
  | 2 => if s.cdr.fast.running then
      (((s.coreStores 1 stores).payloadStore stores).modCdr fun c => { c with fast := .idle, servoHeld := false }).openWindow
    else s
  | 3 => if s.cdr.slow.running && !s.cdr.fast.running && !s.windowOpen then
      (s.coreStores 1 stores).modCdr fun c => { c with slow := .idle }
    else s

/-- SECTION_END (R85). -/
def execSectionEnd (sec : Fin 4) (stores : List (Nat × Byte)) (s : State) : Host.Outcome State Fault Refusal :=
  s.gate 4 <| .next (s.sectionEnd sec stores)

/-- A core may write the program region: it runs a section. -/
def State.mayStage (s : State) (core : Nat) : Bool :=
  s.cdr.stageOpen && (if core = 0 then s.core0Runs else s.cdr.fast.running || s.cdr.slow.running)

/-- A write of a staging word by a core; the control-engine region, and the program region outside the window of R60, take
none (R59, R60).  `other` is what the other core writes to the same word in the same clock: core 1's value stays (R61). -/
def State.stageWrite (s : State) (core index : Nat) (v : Word) (other : Option Word) : State :=
  if index < 256 ∨ 2048 ≤ index ∨ !s.mayStage core then s
  else
    let both := other.isSome && s.mayStage (1 - core)
    let w := if both && core == 0 then other.getD v else v
    let post := s.cdr.post.running && (core == 0 || both)
    let a := s.modCdr fun c => { c with
      buf := sset (fun _ => (0 : Word)) c.buf index w
      written := if post && !c.written.contains index then c.written ++ [index] else c.written }
    if both then (a.setTo F.CDR_STATUS_STAGE_CONFLICT true).raise2 40 sevWarn srcCdr index w.toNat else a

/-- STAGING_WRITE (R60). -/
def execStagingWrite (core : Fin 2) (index : Fin 2048) (value : Word) (other : Option Word) (s : State) :
    Host.Outcome State Fault Refusal :=
  s.gate 4 <| .next (s.stageWrite core.val index.val value other)

/-- CHECKPOINT_WRITE (R88): the value goes into the signature. -/
def execCheckpointWrite (value : Word) (s : State) : Host.Outcome State Fault Refusal :=
  s.gate 4 <| .next (if s.core0Runs then s.modCdr fun c => { c with sig := crc32cFrom c.sig (leBytes 4 value.toNat) } else s)

/-- CDR_CYC_LO_READ (R34): the read latches CDR_CYC_HI. -/
def State.readCyc (s : State) : State :=
  { s with readData := s.cdr.cyc % 2 ^ 32 }.wrn Reg.CDR_CYC_HI (s.cdr.cyc / 2 ^ 32)

/-- CDR_CYC_LO_READ. -/
def execCdrCycLoRead (_req : Req) (s : State) : Host.Outcome State Fault Refusal := s.gateRead 9 s.readCyc

/-- CDR_PT_LO_READ (R74): the read latches CDR_PT_HI. -/
def State.readPt (s : State) : State :=
  { s with readData := s.cdr.pt % 2 ^ 32 }.wrn Reg.CDR_PT_HI (s.cdr.pt / 2 ^ 32)

/-- CDR_PT_LO_READ. -/
def execCdrPtLoRead (_req : Req) (s : State) : Host.Outcome State Fault Refusal := s.gateRead 9 s.readPt

/-- CDR_PT_ADJ_LO_READ (R78): the read latches CDR_PT_ADJ_HI. -/
def State.readPtAdj (s : State) : State :=
  { s with readData := code 32 s.cdr.ptAdj }.wrn Reg.CDR_PT_ADJ_HI (code 64 s.cdr.ptAdj / 2 ^ 32)

/-- CDR_PT_ADJ_LO_READ. -/
def execCdrPtAdjLoRead (_req : Req) (s : State) : Host.Outcome State Fault Refusal := s.gateRead 9 s.readPtAdj

/-! ### The commands of online change (R96, R97) -/

/-- The image at an address of DDR, as far as its header names it, and the signature block behind it. -/
def State.imageAt (s : State) (a : Nat) : List Byte × List Byte :=
  let h := readBytes ramByte s.mem.ddr a imgHdr
  if imgMagic h && imgHdrOk h && decide (a + iLen h ≤ s.mem.ddrBytes) then
    (readBytes ramByte s.mem.ddr a (iLen h), readBytes ramByte s.mem.ddr (a + iLen h) 112)
  else (h, [])

/-- LOAD: IDLE becomes LOADING (R96).  RESULT, REJECT, STALE_RESTORED and PREDICTED of the last change clear at once (DESIGN
CHOICE, log entry 28). -/
def State.ocLoad (s : State) : State :=
  if s.ocState ≠ 0 then s
  else
    let i := s.imageAt (s.rd64 Reg.CDR_OC_SRC_LO Reg.CDR_OC_SRC_HI)
    let a := (s.wrn Reg.CDR_OC_STATUS 0).modCdr fun c => { c with loading := i.1, loadSig := i.2, switchCyc := 0 }
    a.ocGo 1

/-- ONLINE_CHANGE_LOAD (R96). -/
def execOnlineChangeLoad (_req : Req) (s : State) : Host.Outcome State Fault Refusal := s.gate 9 <| .next s.ocLoad

/-- SWITCH: READY becomes ARMED, or stays with RESULT switch late where CDR_OC_CYC is not in the future (R96). -/
def State.ocSwitch (s : State) : State :=
  if s.ocState ≠ 2 then s
  else if s.cdr.cyc < s.rd64 Reg.CDR_OC_CYC_LO Reg.CDR_OC_CYC_HI then s.ocGo 3
  else s.put F.CDR_OC_STATUS_RESULT 7

/-- ONLINE_CHANGE_SWITCH (R96). -/
def execOnlineChangeSwitch (_req : Req) (s : State) : Host.Outcome State Fault Refusal := s.gate 9 <| .next s.ocSwitch

/-- SWITCH_CYC of the OC_LOAD that carries the load, 0 where none does (R475). -/
def State.carrierCyc (s : State) : Nat :=
  match s.cdr.carrier with
  | none => 0
  | some c => (((s.hring c.1).flight.find? (·.uid == c.2)).map fun d => d.par 32 8).getD 0

/-- The load checks finish (R97): READY with the predicted duration, or IDLE with the code; an OC_LOAD arms its switch
(R475).  PREDICTED is rounded up to whole microseconds and stays at 255 (DESIGN CHOICE, log entry 28). -/
def State.ocChecked (s : State) : State :=
  if s.ocState ≠ 1 then s
  else
    let img := s.cdr.loading
    let rej := s.loadReject img s.cdr.loadSig
    let us := satN 255 ((predictNs s.half.image img + 999) / 1000)
    if rej = 0 then
      let a := ((s.put F.CDR_OC_STATUS_PREDICTED us).setSpare ⟨img, [], []⟩).ocGo 2
      if s.carrierCyc = 0 then a else (a.wr64 Reg.CDR_OC_CYC_LO Reg.CDR_OC_CYC_HI s.carrierCyc).ocSwitch
    else
      let a := s.put F.CDR_OC_STATUS_REJECT rej
      (if rej = 0x0C then a.put F.CDR_OC_STATUS_PREDICTED us else a).ocIdle 4

/-- LOAD_CHECKS_DONE (R97). -/
def execLoadChecksDone (s : State) : Host.Outcome State Fault Refusal := s.gate 9 <| .next s.ocChecked

/-- COMMIT ends the trial (R96, R104); a rollback that waits for its window goes on. -/
def State.ocCommit (s : State) : State := if s.ocState = 4 ∧ s.cdr.rollback.isNone then s.ocIdle 1 else s

/-- ONLINE_CHANGE_COMMIT (R104). -/
def execOnlineChangeCommit (_req : Req) (s : State) : Host.Outcome State Fault Refusal := s.gate 9 <| .next s.ocCommit

/-- ONLINE_CHANGE_ROLLBACK (R102). -/
def execOnlineChangeRollback (_req : Req) (s : State) : Host.Outcome State Fault Refusal := s.gate 9 <| .next (s.rollBack .host)

/-- ONLINE_CHANGE_CANCEL (R96). -/
def execOnlineChangeCancel (_req : Req) (s : State) : Host.Outcome State Fault Refusal := s.gate 9 <| .next s.ocCancel

/-- TRIAL_LEN; 0 is taken as 1. -/
def State.trialLen (s : State) : Nat := let n := s.fld F.CDR_OC_CTRL_TRIAL_LEN; if n = 0 then 1 else n

/-- TRIAL_LEN_EXPIRY (R96): TRIAL_LEN cycles passed without fault, and AUTO_COMMIT commits. -/
def execTrialLenExpiry (s : State) : Host.Outcome State Fault Refusal :=
  s.gate 9 <| .next (if s.on F.CDR_OC_CTRL_AUTO_COMMIT ∧ s.trialLen ≤ s.cdr.trial then s.ocCommit else s)

end Sys2Proof.Machine
end

