-- ==== Sys2Proof/Machine/HostDispatch.lean ====
section
/-! DEFINITION. The host interface's opcodes that work on other blocks (R474 to R477), the end of a ring and of the link
(R483, R484), and the flash queue's results (R497). -/

namespace Sys2Proof.Machine

/-- The descriptor of ring k that may be dispatched now, if it has this opcode and its read is not waiting for a retry. -/
def State.dispatchOf (s : State) (k op : Nat) : Option HostDesc :=
  if (s.hring k).retry.isSome then none
  else match s.nextDispatch k with
    | some d => if d.opcode = op then some d else none
    | none => none

/-! ### ORY_JOB (R474) -/

/-- Bytes of the host area: lists and blocks in shared SRAM, images in DDR. -/
def areaBytes (load : Bool) : Nat := if load then 0x800000 else 0x40000

/-- The jobs that a job holds, with who posted each: its own, and a chained SIM. -/
def Job.posts (j : Job) : List (JobSrc × Nat) := (j.src, j.d.ty) :: (j.chain.map fun c => (c.src, c.d.ty)).toList

/-- The host's jobs whose payloads lie in the host area: queued, running, chained behind either, and the QP-ADMM jobs that wait
for a SIM. -/
def State.hostPosts (s : State) : List (JobSrc × Nat) :=
  (s.ory.queue ++ s.ory.runs.map (·.job)).flatMap Job.posts ++
    (List.range 16).filterMap fun k => (s.hring k).chained.map fun c => (.host k c.1, c.2.ty)

/-- Bytes of a payload area that the host's jobs take. -/
def State.areaTaken (s : State) (load : Bool) : Nat :=
  (s.hostPosts.map fun j =>
    match j.1 with
    | .host k i => if (j.2 == 14) == load then (((s.hring k).flight.find? (·.uid == i)).map (·.len - 64)).getD 0 else 0
    | _ => 0).sum

/-- Where a part of the host area begins (R474): an offset in shared SRAM, or in DDR for LOAD images. -/
def State.areaBase (s : State) (load : Bool) : Nat :=
  64 * (Config.hostBase load % (((if load then s.mem.ddrBytes else 0x1000000) - areaBytes load) / 64 + 1))

/-- Where the host interface puts the next payload of `n` bytes: inside its area, at a place the spec leaves open (log entry 29). -/
def State.payloadAt (s : State) (load : Bool) (n : Nat) : Nat :=
  s.areaBase load + 64 * (Config.hostArea (2 * s.freeCtr) % ((areaBytes load - n) / 64 + 1))

/-- Bytes of the largest result, a SIM of 4,096 steps with DECIM 1: 98,440 (R159, R168), as whole blocks of 64. -/
def resultMost : Nat := 98496

/-- Where the host interface has the next result written: inside its area of shared SRAM, likewise. -/
def State.hostResultAt (s : State) : Nat :=
  s.areaBase false + 64 * (Config.hostArea (2 * s.freeCtr + 1) % ((areaBytes false - resultMost) / 64 + 1))

/-- The descriptor as it is posted: DELTA_ADDR, AUX_ADDR and RESULT_ADDR point into the host area, and its lists and blocks are
the payload's, followed by what the area holds behind it (R474).  The delta records of a KF-QR or LAP descriptor, which R161 gives none,
are not read: DELTA_COUNT is ignored there (DESIGN CHOICE, log entry 36). -/
def State.hostDesc (s : State) (b : List Byte) : JobDesc :=
  let d := { readDesc (leNat (b.take 1)) b with resAddr := s.hostResultAt }
  let n := b.length - 64
  if d.ty = 14 then { d with deltaAddr := s.payloadAt true n / 64, aux := some (b.drop 64) }
  else
    let at0 := s.payloadAt false n
    let p := b.drop 64 ++ readBytes ramByte s.mem.sram (at0 + n) (0x40000 - n)
    if d.ty = 1 ∨ d.ty = 4 then
      { d with deltaAddr := at0, auxAddr := at0 + 16 * d.deltaCount, deltas := some (readDeltas p d.deltaCount)
               aux := some (p.drop (16 * d.deltaCount)) }
    else { d with auxAddr := at0, deltas := some [], aux := some p }

/-- Post the jobs of a descriptor of ring k: a QP-ADMM job with CHAIN waits for the ring's next descriptor; the pair is
posted where that is a SIM, and otherwise the waiting job completes BAD_DESCRIPTOR by itself (R167). -/
def State.hostPost (s : State) (k uid : Nat) (j : JobDesc) : State :=
  let post (t : State) : State :=
    if j.ty = 1 ∧ bitAt j.ctrl 1 then t.modRing k fun r => { r with chained := some (uid, j) }
    else t.postJob (.host k uid) j none
  match (s.hring k).chained with
  | none => post s
  | some c =>
    let a := s.modRing k fun r => { r with chained := none }
    if j.ty = 4 ∧ uid = c.1 + 1 then a.postPair (.host k c.1) c.2 (some (.host k uid, j))
    else post (a.postJob (.host k c.1) c.2 none)

/-- A QP-ADMM job that waits for a SIM is posted alone: what follows it on its ring is no job. -/
def State.hostUnchain (s : State) (k : Nat) : State :=
  match (s.hring k).chained with
  | none => s
  | some c => ((s.modRing k fun r => { r with chained := none }).postJob (.host k c.1) c.2 none).drainDone

/-- The descriptor after a QP-ADMM job that waits for a SIM has ended without being one: the job is posted alone (R167). -/
def State.chainSettle (s : State) (k : Nat) : State :=
  match (s.hring k).chained with
  | none => s
  | some c => if (s.hring k).flight.any fun d => d.uid == c.1 + 1 && decide (d.phase = .ended) then s.hostUnchain k else s

/-- DESCRIPTOR_FETCH (R472). -/
def execDescriptorFetch (k : Fin 16) (entry : HostData) (s : State) : Host.Outcome State Fault Refusal :=
  s.gate 10 <| .next ((s.fetchEntry k.val entry).chainSettle k.val)

/-- COMPLETION_TIMEOUT (R481). -/
def execCompletionTimeout (k : Fin 16) (s : State) : Host.Outcome State Fault Refusal :=
  s.gate 10 <| .next ((s.hostTimeout k.val).chainSettle k.val)

/-- NOP (R465). -/
def execNop (k : Fin 16) (s : State) : Host.Outcome State Fault Refusal :=
  s.gate 10 <| .next ((s.hostUnchain k.val).hostNop k.val)

/-- COPY_OUT (R476). -/
def execCopyOut (k : Fin 16) (s : State) : Host.Outcome State Fault Refusal :=
  s.gate 10 <| .next ((s.hostUnchain k.val).copyOut k.val)

/-- A payload is copied into the host area (R474). -/
def State.hostPayload (s : State) (load : Bool) (bs : List Byte) : State :=
  let a := s.payloadAt load bs.length
  if load then { s with mem := { s.mem with ddr := writeBytes ramByte s.mem.ddr a bs } }
  else { s with mem := { s.mem with sram := writeBytes ramByte s.mem.sram a bs } }

/-- An ORY_JOB whose data has been read: BAD_PARAM where the payload is larger than its area; without room in the area it
waits; otherwise it is posted (R474). -/
def State.oryJob (s : State) (k : Nat) (d : HostDesc) (b : List Byte) : State :=
  let load := leNat (b.take 1) == 14
  let n := d.len - 64
  if areaBytes load < n then (s.hostUnchain k).endDesc k d.uid 2 0 noInfo
  else if areaBytes load < s.areaTaken load + n then s
  else ((((s.runDesc k d.uid).hostPayload load ((b.take d.len).drop 64)).hostPost k d.uid (s.hostDesc (b.take d.len))).nextFree.drainDone).chainSettle k

/-! ### COPY_IN and FLASH_WRITE (R476, R521) -/

/-- COPY_IN whose data has been read. -/
def State.copyIn (s : State) (k : Nat) (d : HostDesc) (b : List Byte) : State :=
  let bs := b.take d.len
  ({ s with mem := { s.mem with ddr := writeBytes ramByte s.mem.ddr (d.par 24 8) bs } }).endDesc k d.uid 0 0 (movedInfo bs.length)

/-- The flash sectors the host may write in the life-cycle state: the directory copies and the slots (R521). -/
def State.hostRegions (s : State) : List (Nat × Nat) :=
  let may (ty : Nat) : Bool := decide (1 ≤ ty ∧ ty ≤ 7) && (s.lc != 2 || ty != 6)
  let slots := match s.directory with
    | none => []
    | some d => (d.1.filter fun e => may (fieldLe e 0 1)).flatMap fun e =>
        ([fieldLe e 4 4, fieldLe e 8 4].filter (· != 0xFFFFFFFF)).map fun o => (o, fieldLe e 12 4)
  if s.lc = 4 then [] else [(0, 4096), (0x10000, 4096)] ++ slots

/-- Does a flash sector lie in a region? -/
def inRegion (a : Nat) (r : Nat × Nat) : Bool := decide (r.1 ≤ a ∧ a + 4096 ≤ r.1 + r.2)

/-- May the host write a flash sector? Never the Almanac log or the Plate area. -/
def State.hostMayWrite (s : State) (a : Nat) : Bool :=
  let hit (r : Option (Nat × Nat)) : Bool := match r with
    | none => false
    | some r => decide (a < r.1 + r.2 ∧ r.1 < a + 4096)
  s.inFlash a 4096 && s.hostRegions.any (inRegion a) && !hit s.alm.logRegion && !hit s.alm.plateArea

/-- FLASH_WRITE whose data has been read: its sectors join the flash queue in order (R476, R497). -/
def State.flashOps (s : State) (k : Nat) (d : HostDesc) (b : List Byte) : State :=
  let n := d.len / 4096
  if n = 0 then s.endDesc k d.uid 0 0 (movedInfo 0)
  else
    forEach (List.range n) (fun i t =>
      t.flashPush (.host k d.uid (d.par 24 8 + 4096 * i) ((b.drop (4096 * i)).take 4096) (i + 1 == n))) (s.runDesc k d.uid)

/-- One sector of a FLASH_WRITE ended; a failure ends the descriptor with the bytes moved before it (R476, R497). -/
def State.hostSector (s : State) (ok : Bool) (k uid addr : Nat) (bs : List Byte) (last : Bool) : State :=
  let start := (((s.hring k).flight.find? (·.uid == uid)).map fun d => d.par 24 8).getD addr
  if ok then
    let a := (s.flashErase addr).flashWrite addr bs
    if last then a.endDesc k uid 0 0 (movedInfo (addr + bs.length - start)) else a
  else
    let a := ((s.setTo F.ALM_EVENTS_FLUSH_ERR true).raise 241 sevAlarm srcAlm).modAlm fun x => { x with
      flashHost := x.flashHost.filter fun o => match o with | .host k2 i2 _ _ _ => k2 != k || i2 != uid | _ => true }
    a.endDesc k uid 0 0 (movedInfo (addr - start))

/-- FLASH_SECTOR_DONE (R497): the sector operation in progress completes, or fails after its retry, and the next starts. -/
def State.sectorDone (s : State) (ok : Bool) : State :=
  match s.alm.flashCur with
  | none => s
  | some op =>
    let a := s.modAlm fun x => { x with flashCur := none }
    (match op with
      | .log addr bs erase seqs => a.logDone ok addr bs erase seqs
      | .host k uid addr bs last => a.hostSector ok k uid addr bs last).flashKick

/-- FLASH_SECTOR_DONE (R497). -/
def execFlashSectorDone (ok : Bool) (s : State) : Host.Outcome State Fault Refusal :=
  s.gate 9 <| .next (s.sectorDone ok)

/-! ### OC_LOAD and STN_CMD (R475, R477) -/

/-- OC_LOAD whose image has been read (R475); a LEN that is not the image's IMAGE_LEN is wrong (R465, R467). -/
def State.ocJob (s : State) (k : Nat) (d : HostDesc) (b : List Byte) : State :=
  if iLen b ≠ d.len then s.endDesc k d.uid 2 0 noInfo else
  let r := s.runDesc k d.uid
  let a := { r with mem := { r.mem with ddr := writeBytes ramByte r.mem.ddr (d.par 24 8) (b.take d.len) } }
  let c := ((a.wr64 Reg.CDR_OC_SRC_LO Reg.CDR_OC_SRC_HI (d.par 24 8)).put F.CDR_OC_CTRL_TRIAL_LEN (d.par 42 2)).put
    F.CDR_OC_CTRL_AUTO_COMMIT (bitsOf (d.par 40 1) 0 0)
  ((c.put F.CDR_OC_CTRL_AUTO_ROLLBACK (bitsOf (d.par 40 1) 1 1)).modCdr fun x => { x with carrier := some (k, d.uid) }).ocLoad

/-- The fields of an STN_CMD in range: OP of 4 bits, ring A or B, a station from 1 to 254 (R465, R467). -/
def HostDesc.stnOk (d : HostDesc) : Bool :=
  d.clean 3 && d.addr == 0 && d.len == 0 && decide (d.par 24 1 < 16) && decide (d.par 25 1 < 2) &&
    decide (1 ≤ d.par 26 1 ∧ d.par 26 1 ≤ 254)

/-- STN_CMD: dispatched only while the unit is ACTIVE; it waits while another station command runs (R477). -/
def State.stnJob (s : State) (k : Nat) (d : HostDesc) : State :=
  if !d.stnOk then s.endDesc k d.uid 2 0 noInfo
  else if !s.isActive then s.endDesc k d.uid 5 0 noInfo
  else if s.xl.cmd.isSome then s
  else (s.runDesc k d.uid).stnCmdBegin ⟨d.par 24 1, d.par 25 1, d.par 26 1, none, some (k, d.uid)⟩

/-- STN_CMD (R477). -/
def execStnCmd (k : Fin 16) (s : State) : Host.Outcome State Fault Refusal :=
  s.gate 10 <| .next (match s.dispatchOf k.val 5 with
    | some d => (s.hostUnchain k.val).stnJob k.val d
    | none => s)

/-! ### The data read of a descriptor (R465, R481) -/

/-- What ends a descriptor before its data is read: STATUS and DETAIL (R465, R474 to R476). -/
def State.refusal (s : State) (d : HostDesc) : Option (Nat × Nat) :=
  match d.opcode with
  | 1 => if d.clean 12 && decide (64 ≤ d.len) && decide (64 ≤ d.par 32 4) then none else some (2, 0)
  | 3 =>
    if !(d.clean 8 && d.len % 4 == 0 && decide (d.len ≤ 2 ^ 24)) then some (2, 0)
    else if s.plateBase < d.par 24 8 + d.len then some (4, 0) else none
  | 4 =>
    if !(d.clean 20 && d.par 24 8 % 4096 == 0 && decide (d.par 40 1 < 4) && d.par 41 1 == 0 &&
        decide (d.par 24 8 + d.len ≤ s.mem.ddrBytes)) then some (2, 0)
    else if s.ocState ≠ 0 then some (0, 8) else none
  | 6 =>
    if !(d.clean 8 && d.len % 4096 == 0 && d.par 24 8 % 4096 == 0) then some (2, 0)
    else if (List.range (d.len / 4096)).all fun i => s.hostMayWrite (d.par 24 8 + 4096 * i) then none else some (4, 0)
  | _ => none

/-- The operation of a descriptor on its data. -/
def State.runData (s : State) (k : Nat) (d : HostDesc) (b : List Byte) : State :=
  match d.opcode with
  | 1 => s.oryJob k d b
  | 3 => (s.hostUnchain k).copyIn k d b
  | 4 => (s.hostUnchain k).ocJob k d b
  | 6 => (s.hostUnchain k).flashOps k d b
  | _ => s

/-- A COPY_IN whose read fails partway keeps the bytes before the failure, and INFO gives their count (R476). -/
def State.partCopy (s : State) (k : Nat) (d : HostDesc) (b : List Byte) : State :=
  if d.opcode = 3 then
    State.modDesc { s with mem := { s.mem with ddr := writeBytes ramByte s.mem.ddr (d.par 24 8) b } } k d.uid fun x =>
      { x with info := movedInfo b.length }
  else s

/-- Dispatch the next descriptor of ring k, of opcode `op`, with the data the host answers; none, or fewer bytes than
LEN, where the read failed (R473, R481, R482). -/
def State.dispatchData (s : State) (k op : Nat) (data : HostData) : State :=
  match s.dispatchOf k op with
  | none => s
  | some d =>
    match s.refusal d, data with
    | some r, _ => (s.hostUnchain k).endDesc k d.uid r.1 r.2 noInfo
    | none, some b =>
      if !s.mayPost then s
      else
        let t := s.sendRead k (.data d.uid)
        if b.length < d.len then (t.partCopy k d b).readFailed k (.data d.uid) else t.runData k d b
    | none, none => if s.mayPost then (s.sendRead k (.data d.uid)).readFailed k (.data d.uid) else s

/-- ORY_JOB (R474). -/
def execOryJob (k : Fin 16) (data : HostData) (s : State) : Host.Outcome State Fault Refusal :=
  s.gate 10 <| .next (s.dispatchData k.val 1 data)

/-- COPY_IN (R476). -/
def execCopyIn (k : Fin 16) (data : HostData) (s : State) : Host.Outcome State Fault Refusal :=
  s.gate 10 <| .next (s.dispatchData k.val 3 data)

/-- OC_LOAD (R475). -/
def execOcLoad (k : Fin 16) (data : HostData) (s : State) : Host.Outcome State Fault Refusal :=
  s.gate 10 <| .next (s.dispatchData k.val 4 data)

/-- FLASH_WRITE (R476). -/
def execFlashWrite (k : Fin 16) (data : HostData) (s : State) : Host.Outcome State Fault Refusal :=
  s.gate 10 <| .next (s.dispatchData k.val 6 data)

/-- HOST_READ_RETRY (R481): 10 µs after it failed, the read is tried again, while requests may start (R482); a second failure
is a DMA_ERROR. -/
def State.retryRead (s : State) (k : Nat) (data : HostData) : State :=
  match (s.hring k).retry with
  | none => s
  | some r =>
    if !s.mayPost then s else
    let a := ((s.runTo ((s.hring k).retryAt + 10000)).sendRead k r).bump F.HIF_CNT_RETRIES 1
    match data, r with
    | none, _ => a.dmaError k r
    | some b, .fetch => a.takeEntry k (parseEntry (a.hring k).taken (a.sqHead k) (a.ringState k == 2) b)
    | some b, .data i =>
      let c := a.modRing k fun q => { q with retry := none }
      match (c.hring k).flight.find? (·.uid == i) with
      | some d =>
        if d.phase ≠ .fetched then c
        else match c.refusal d with
          | some q => c.endDesc k i q.1 q.2 noInfo
          | none => if b.length < d.len then (c.partCopy k d b).dmaError k r else c.runData k d b
      | none => c

/-- HOST_READ_RETRY (R481). -/
def execHostReadRetry (k : Fin 16) (data : HostData) (s : State) : Host.Outcome State Fault Refusal :=
  s.gate 10 <| .next ((s.retryRead k.val data).chainSettle k.val)

/-! ### The end of a ring, and of the link (R483, R484) -/

/-- The descriptor of a job's chained SIM ends with it: ABORTED_DISABLED. -/
def State.endChained (s : State) (k : Nat) (j : Job) : State :=
  match j.chain with
  | none => s
  | some c => match c.src with
    | .host _ i => s.endDesc k i 7 0 noInfo
    | _ => s

/-- The host jobs of a ring that no engine has been granted end ABORTED_DISABLED (R483). -/
def State.dropQueued (s : State) (k : Nat) : State :=
  let held := match (s.hring k).chained with
    | some c => (s.modRing k fun r => { r with chained := none }).endDesc k c.1 7 0 noInfo
    | none => s
  forEach s.ory.queue (fun j t => match j.src with
    | .host r i =>
      if r = k then
        (((t.endDesc k i 7 0 noInfo).endChained k j).unqueue j).endEarly j stAborted stAborted 0 j.pred
      else t
    | _ => t) held

/-- EN written 0 moves RUN to DRAIN (R463, R483); a fetch that waits for its retry still gets it (R481). -/
def State.ringOff (s : State) (k : Nat) : State :=
  if s.ringState k ≠ 1 then s
  else
    let a := (s.put (rf F.HIF_Rk_STATUS_STATE k) 2).modRing k fun r => { r with retry := r.retry.filter (· == .fetch) }
    let b := forEach (a.hring k).flight (fun d t => if d.phase = .fetched then t.endDesc k d.uid 7 0 noInfo else t) a
    let c := (b.dropQueued k).drainDone
    let e := match c.cdr.carrier with | some x => if x.1 = k then c.ocCancel else c | none => c
    e.drainEnd k

/-- RING_DISABLE (R483). -/
def execRingDisable (_req : Req) (k : Fin 16) (s : State) : Host.Outcome State Fault Refusal :=
  s.gate 10 <| .next (s.ringOff k.val)

/-- A HIF register that keeps its value at a link recovery: HIF_EV_PEND, and every register of another block. -/
def keptAtRecovery (key : Nat) : Bool :=
  key / 0x10000 != 0x12 || (decide (Reg.HIF_EV_PEND ≤ key) && decide (key < Reg.HIF_EV_PEND + 32))

/-- An OC_LOAD in LOADING, READY or ARMED is cancelled (R483, R484); a load that CDR_OC_CTRL began is none. -/
def State.ocCancelHost (s : State) : State := if s.cdr.carrier.isSome then s.ocCancel else s

/-- The sector in progress is the last one of its FLASH_WRITE. -/
def lastSector : FlashOp → FlashOp
  | .host k i a b _ => .host k i a b true
  | o => o

/-- Is a sector operation one of the host? -/
def isHostOp : FlashOp → Bool
  | .host .. => true
  | _ => false

/-- The rings that a link recovery disables raise EV227 (R463, R485). -/
def State.ringsLost (s old : State) : State :=
  forEach (List.range 16) (fun k t => if old.ringState k = 0 then t else t.raise 227 sevNotice srcHif) s

/-- LINK_RECOVERY (R484): DL_Down, hot reset or FLR; `linkUp` where the data link stays up.  EV224 carries HIF_LINK where the
link goes down (R485). -/
def State.linkRecovery (s : State) (linkUp : Bool) : State :=
  if s.variant = .si then s
  else
    let link := s.rdn Reg.HIF_LINK
    let a := { s with
      hif := { s.hif with
        rings := s.hif.rings.map (fun (r : Ring) => { Ring.init with taken := r.taken }), posted := [], oldLink := 0, lastFetch := 15 }
      regs := s.regs.filter fun e => keptAtRecovery e.1 }
    let b := (a.abortJobs fun j => j.cls == 9).drainDone.ocCancelHost
    let c := b.modAlm fun x => { x with flashHost := x.flashHost.filter (!isHostOp ·), flashCur := x.flashCur.map lastSector }
    let n := b2n c.cdr.carrier.isSome + b2n ((c.xl.cmd.map (·.carrier.isSome)).getD false) + b2n ((c.alm.flashCur.map isHostOp).getD false)
    let d := c.modHif fun h => { h with oldLink := n }
    let e := ((d.wrn Reg.HIF_LINK (if linkUp then putBits 0 31 23 (bitsOf link 31 23) else 0)).setTo F.HIF_LINK_RECOVERING
      (decide (0 < n))).setTo F.HIF_STATUS_LINK_RECOVERED true
    let f := if bitAt link 23 && !linkUp then e.raise1 224 sevWarn srcHif (e.rdn Reg.HIF_LINK) else e
    (f.ringsLost s).raise 228 sevAlarm srcHif

/-- LINK_RECOVERY (R484). -/
def execLinkRecovery (linkUp : Bool) (s : State) : Host.Outcome State Fault Refusal :=
  s.gate 10 <| .next (s.linkRecovery linkUp)

end Sys2Proof.Machine
end

