-- ==== Sys2Proof/Machine/Serial.lean ====
section
/-! DEFINITION. The UARTs (12_can_serial_discrete.md, R424 to R431): characters, sentences, heading records, raw
entries, the ring and the transmitter. -/

namespace Sys2Proof.Machine

/-- Change a UART. -/
def State.modUart (s : State) (u : Nat) (f : Uart → Uart) : State := { s with uart := modAt s.uart u f }

/-- A UART. -/
def State.ser (s : State) (u : Nat) : Uart := s.uart.getD u .init

/-- Offset of UART `u`'s registers from those of UART0. -/
def serOff (u : Nat) : Nat := 0x100 * u

/-- A field of UART `u`. -/
def serFld (f : Fld) (u : Nat) : Fld := f.plus (serOff u)

/-- Source unit number of UART `u` (R489). -/
def srcSer (u : Nat) : Nat := 0xD0 + u

/-- MODE in force (R425): 0x3 is 0x2 while LEGACY_HDG is 0, and values above 0x3 are 0x0. -/
def State.serMode (s : State) (u : Nat) : Nat :=
  let m := s.fld (serFld F.SER_CFG_MODE u)
  if 3 < m then 0 else if m = 3 ∧ !s.on F.CHIP_PROFILE_LEGACY_HDG then 2 else m

/-- Offset in shared SRAM of entry `i` of the UART's ring (R430). -/
def State.serEntry (s : State) (u i : Nat) : Nat := (64 * s.fld (serFld F.SER_BASE_BASE u) + 96 * i) % 2 ^ 24

/-- A ring entry (R430). -/
def serBytes (time flags : Nat) (text : List Byte) : List Byte :=
  leBytes 8 time ++ [BitVec.ofNat 8 text.length, BitVec.ofNat 8 flags, 0, 0] ++ text ++
    List.replicate (84 - text.length) 0

/-- Put an entry into the ring; a full ring drops it (R430). One place stays free between PROD and CONS. -/
def State.serPush (s : State) (u time flags : Nat) (text : List Byte) : State :=
  let p := s.fld (serFld F.SER_IDX_PROD u)
  if (p + 1) % 64 = s.fld (serFld F.SER_IDX_CONS u) then
    ((s.bump (serFld F.SER_CNT_RING_OVF u) 1).setTo (serFld F.SER_STATUS_RX_OVF u) true).raise1 208 sevWarn (srcSer u) u
  else (s.sramWrite (s.serEntry u p) (serBytes time flags text)).put (serFld F.SER_IDX_PROD u) ((p + 1) % 64)

/-! ### Sentences (R426 to R429) -/

/-- The value of a hexadecimal digit. -/
def hexDigit (c : Byte) : Option Nat :=
  let n := c.toNat
  if 0x30 ≤ n ∧ n ≤ 0x39 then some (n - 0x30)
  else if 0x41 ≤ n ∧ n ≤ 0x46 then some (n - 0x37)
  else if 0x61 ≤ n ∧ n ≤ 0x66 then some (n - 0x57)
  else none

/-- The XOR of characters. -/
def xorBytes (bs : List Byte) : Nat := bs.foldl (fun a b => xorN a b.toNat) 0

/-- What the checksum of a sentence says (R426). -/
inductive Check where
  /-- It is right. -/
  | good
  /-- It is wrong. -/
  | bad
  /-- There is none. -/
  | absent
  deriving DecidableEq, Repr

/-- The characters between the start and the "*" or CR LF, and the verdict of the checksum. -/
def sentenceCheck (line : List Byte) : List Byte × Check :=
  let inner := (line.drop 1).take (line.length - 3)
  let body := inner.takeWhile (· ≠ 0x2A)
  if body.length = inner.length then (body, .absent)
  else
    match inner.drop (body.length + 1) with
    | a :: b :: _ =>
      match hexDigit a, hexDigit b with
      | some x, some y => (body, if 16 * x + y = xorBytes body then .good else .bad)
      | _, _ => (body, .bad)
    | _ => (body, .bad)

/-- Split at commas. -/
def splitComma : List Byte → List (List Byte)
  | [] => [[]]
  | b :: bs =>
    match splitComma bs with
    | [] => if b = 0x2C then [[], []] else [[b]]
    | f :: fs => if b = 0x2C then [] :: f :: fs else (b :: f) :: fs

/-- The digits of a decimal number as a value, and how many. -/
def digitsVal : List Byte → Option (Nat × Nat)
  | [] => some (0, 0)
  | b :: bs =>
    if 0x30 ≤ b.toNat ∧ b.toNat ≤ 0x39 then
      match digitsVal bs with
      | some (v, n) => some ((b.toNat - 0x30) * 10 ^ n + v, n + 1)
      | none => none
    else none

/-- A decimal number, with sign and point where it has them, as numerator and denominator; none where it is not one. -/
def decimal (bs : List Byte) : Option (Int × Nat) :=
  let neg := bs.head? == some 0x2D
  let d := if neg ∨ bs.head? = some 0x2B then bs.drop 1 else bs
  let whole := d.takeWhile (· ≠ 0x2E)
  let frac := (d.drop whole.length).drop 1
  match digitsVal whole, digitsVal frac with
  | some (w, n), some (f, m) =>
    if n + m = 0 then none
    else some ((if neg then -((w * 10 ^ m + f : Nat) : Int) else ((w * 10 ^ m + f : Nat) : Int)), 10 ^ m)
  | _, _ => none

/-- A fraction of degrees times π ÷ `den` as float32, rounded to nearest, ties to even (DEDUCED). -/
def radF32 (num : Int) (d den : Nat) : Word := w32 (fmt32.ofFrac (num * (piNum : Int)) (d * den * piDen))

/-- The float32 code of NaN that the parser writes for an absent RATE. -/
def nanF32 : Word := 0x7FC00000

/-- The type 0x05 record of R428. -/
def headingRecord (slot seq time : Nat) (hdg rate : Word) : List Byte :=
  [0x05, BitVec.ofNat 8 slot] ++ leBytes 2 32 ++ [0x01, BitVec.ofNat 8 seq, 0, 0] ++ leBytes 8 time ++
    leBytes 4 hdg.toNat ++ leBytes 4 rate.toNat ++ List.replicate 8 0

/-- Heading of a decimal field: degrees × π ÷ 180, 360 taken as 0. -/
def headingOf (num : Int) (d : Nat) : Word := if num = 360 * (d : Int) then 0 else radF32 num d 180

/-- Write a heading record to the intake queue (R428). -/
def State.serRecord (s : State) (u slot : Nat) (hdg rate : Word) : State :=
  let c := s.ser u
  let a := s.intake (headingRecord slot c.seq c.lineTime hdg rate)
  (a.modUart u fun x => { x with seq := (x.seq + 1) % 256 }).bump (serFld F.SER_CNT_RECORDS u) 1

/-- RATE for a heading sentence: the last ROT of status A, begun at most 200 ms before (R428). -/
def State.serRate (s : State) (u : Nat) : Word :=
  let c := s.ser u
  match c.rot with
  | some r => if r.time ≤ c.lineTime ∧ c.lineTime - r.time ≤ 200000000 then radF32 r.num r.den 10800 else nanF32
  | none => nanF32

/-- Is the address field one of a talker's with this formatter? -/
def isFormatter (f : List Byte) (name : List Byte) : Bool := f.length == 5 && f.drop 2 == name

/-- A field of a sentence. -/
def sField (fs : List (List Byte)) (i : Nat) : List Byte := fs.getD i []

/-- One heading of the legacy set, of two decimals at most: a record where its status is A (R429). -/
def State.legacyHeading (s : State) (u slot : Nat) (h st r : List Byte) : State :=
  match decimal h, decimal r with
  | some (hn, hd), some (rn, rd) =>
    if st = [0x41] ∧ hd ≤ 100 then s.serRecord u slot (headingOf hn hd) (radF32 rn rd 180) else s
  | _, _ => s

/-- Decode an accepted sentence (R428, R429); `dollar`: it starts with "$", as those of the legacy set do. -/
def State.serDecode (s : State) (u : Nat) (dollar : Bool) (fs : List (List Byte)) : State :=
  let a := sField fs 0
  let dec := s.on (serFld F.SER_CFG_DECODE u)
  let slot := s.fld (serFld F.SER_CFG_SLOT u)
  if isFormatter a [0x52, 0x4F, 0x54] ∧ sField fs 2 = [0x41] then
    match decimal (sField fs 1) with
    | some (n, d) => s.modUart u fun x => { x with rot := some ⟨n, d, x.lineTime⟩ }
    | none => s
  else if dec ∧ (isFormatter a [0x48, 0x44, 0x54] ∨ (isFormatter a [0x54, 0x48, 0x53] ∧ sField fs 2 = [0x41])) then
    match decimal (sField fs 1) with
    | some (n, d) => s.serRecord u slot (headingOf n d) (s.serRate u)
    | none => s
  else if s.serMode u = 3 ∧ dollar ∧ fs.length = 4 ∧ a = [0x50, 0x4B, 0x44, 0x48, 0x31] then
    s.legacyHeading u slot (sField fs 1) (sField fs 2) (sField fs 3)
  else if s.serMode u = 3 ∧ dollar ∧ fs.length = 6 ∧ a = [0x50, 0x4B, 0x44, 0x48, 0x32] then
    (s.legacyHeading u slot (sField fs 1) (sField fs 2) (sField fs 5)).legacyHeading u (s.fld (serFld F.SER_CFG_SLOT2 u))
      (sField fs 3) (sField fs 4) (sField fs 5)
  else s

/-- The sentence in progress ends. -/
def State.serClear (s : State) (u : Nat) : State := s.modUart u fun x => { x with line := [], lineBad := false }

/-- Discard the sentence (R426): BAD and EV209. -/
def State.serDiscard (s : State) (u : Nat) : State :=
  ((s.bump (serFld F.SER_CNT_BAD u) 1).raise1 209 sevInfo (srcSer u) u).serClear u

/-- A sentence has reached CR LF (R426). -/
def State.serSentence (s : State) (u : Nat) : State :=
  let c := s.ser u
  let (body, ck) := sentenceCheck c.line
  if ck = .bad then (s.setTo (serFld F.SER_STATUS_CHK_FAIL u) true).serDiscard u
  else if ck = .absent ∧ s.on (serFld F.SER_CFG_CHK_REQ u) then s.serDiscard u
  else
    let a := s.serDecode u (c.line.head? == some 0x24) (splitComma body)
    let made := (a.ser u).seq != c.seq
    ((a.serPush u c.lineTime (2 * b2n (ck == .absent) + 4 * b2n made) c.line)).serClear u

/-- A character in SENTENCE or LEGACY_HDG (R426). -/
def State.serText (s : State) (u : Nat) (ch : Byte) (err : Bool) (start : Nat) : State :=
  let c := s.ser u
  if ch = 0x24 ∨ ch = 0x21 then
    let a := s.modUart u fun x => { x with line := [ch], lineTime := start, lineBad := err }
    if err then a.serDiscard u else a
  else if c.line = [] then s
  else if err then s.serDiscard u
  else
    let l := c.line ++ [ch]
    let a := s.modUart u fun x => { x with line := l }
    if 82 < l.length then a.serDiscard u
    else if ch = 0x0A ∧ c.line.getLast? = some 0x0D then a.serSentence u
    else a

/-! ### Raw entries (R431) -/

/-- Time of one character, ns: a start bit, 7 or 8 data bits, parity and the stop bits, each OVS × DIV periods of 4 ns (R424). -/
def State.charNs (s : State) (u : Nat) : Nat :=
  let par := s.fld (serFld F.SER_CFG_PARITY u)
  let bits := 1 + (if s.on (serFld F.SER_CFG_BITS7 u) then 7 else 8) + (if par = 1 ∨ par = 2 then 1 else 0) +
    (if s.on (serFld F.SER_CFG_STOP2 u) then 2 else 1)
  (bits * (if s.on (serFld F.SER_CFG_OVS8 u) then 8 else 16) * Nat.max 16 (s.fld (serFld F.SER_BAUD_DIV u)) + 3) / 4

/-- A character's data bits, 7 or 8 of them (R424). -/
def State.charBits (s : State) (u : Nat) (ch : Byte) : Byte :=
  if s.on (serFld F.SER_CFG_BITS7 u) then BitVec.ofNat 8 (ch.toNat % 128) else ch

/-- End the raw entry. -/
def State.rawEnd (s : State) (u : Nat) (err : Bool) : State :=
  let c := s.ser u
  if c.raw = [] then s
  else (s.serPush u c.rawTime (1 + 8 * b2n err) c.raw).modUart u fun x => { x with raw := [] }

/-- A byte in RAW. -/
def State.serRaw (s : State) (u : Nat) (ch : Byte) (err : Bool) (start : Nat) : State :=
  let a := s.modUart u fun x => { x with
    raw := x.raw ++ [ch], rawTime := if x.raw = [] then start else x.rawTime }
  if err ∨ 84 ≤ (a.ser u).raw.length then a.rawEnd u err else a

/-- A UART receives a character (R424, R425). -/
def State.serChar (s : State) (u : Nat) (ch : Byte) (framing parity overrun brk : Bool) (start : Nat) : State :=
  let st (f : Fld) (b : Bool) (t : State) : State := if b then t.setTo (serFld f u) true else t
  let a := st F.SER_STATUS_BREAK brk (st F.SER_STATUS_OVERRUN overrun (st F.SER_STATUS_PARITY parity
    (st F.SER_STATUS_FRAMING framing s)))
  let b := (a.setTo (serFld F.SER_STATUS_RX_ACTIVE u) true).modUart u fun x => { x with lastChar := s.now }
  let err := framing || parity || overrun || brk
  match b.serMode u with
  | 0 => b
  | 1 => b.serRaw u (s.charBits u ch) err start
  | _ => b.serText u (s.charBits u ch) err start

/-- CHARACTER_RECEIVED (R424). -/
def execCharacterReceived (u : Fin 8) (ch : Byte) (framing parity overrun brk : Bool) (start : Nat) (s : State) :
    Host.Outcome State Fault Refusal :=
  s.gate 9 <| .next (s.serChar u.val ch framing parity overrun brk start)

/-- The line has been idle for IDLE_CHARS character times since the last byte (R431). -/
def State.rawIdle (s : State) (u : Nat) : State :=
  if s.serMode u = 1 ∧ (s.ser u).raw ≠ [] then
    (s.runTo ((s.ser u).lastChar + Nat.max 1 (s.fld (serFld F.SER_BAUD_IDLE_CHARS u)) * s.charNs u)).rawEnd u false
  else s

/-- RAW_IDLE (R431). -/
def execRawIdle (u : Fin 8) (s : State) : Host.Outcome State Fault Refusal :=
  s.gate 9 <| .next (s.rawIdle u.val)

/-- LINE_SILENCE (R437): a break, or no character for 1 s after traffic; EV210. -/
def execLineSilence (u : Fin 8) (brk : Bool) (s : State) : Host.Outcome State Fault Refusal :=
  s.gate 9 <| .next (if !brk && !s.on (serFld F.SER_STATUS_RX_ACTIVE u.val) then s
    else (if brk then s.setTo (serFld F.SER_STATUS_BREAK u.val) true
      else (s.runTo ((s.ser u.val).lastChar + 1000000000)).setTo (serFld F.SER_STATUS_RX_ACTIVE u.val) false).raise1 210 sevWarn (srcSer u.val) u.val)

/-! ### The transmitter (R424) -/

/-- Show the transmit FIFO and the driver enable. -/
def State.showTx (s : State) (u : Nat) : State :=
  let c := s.ser u
  (s.put (serFld F.SER_STATUS_TX_LEVEL u) c.fifo.length).setTo (serFld F.SER_STATUS_TX_BUSY u) (!c.fifo.isEmpty)

/-- A byte written to SER_TXDATA: queued, or dropped and counted when the FIFO is full. -/
def State.writeTx (s : State) (u : Nat) (b : Byte) : State :=
  if 256 ≤ (s.ser u).fifo.length then s.bump (serFld F.SER_CNT_TX_DROP u) 1
  else (s.modUart u fun x => { x with fifo := x.fifo ++ [b], de := true }).showTx u

/-- SER_TXDATA (R424). -/
def execSerTxdata (_req : Req) (u : Fin 8) (b : Byte) (s : State) : Host.Outcome State Fault Refusal :=
  s.gate 9 <| .next (s.writeTx u.val b)

/-- CHARACTER_SENT (R424): the oldest byte has left; SER_DE falls when the FIFO empties. -/
def execCharacterSent (u : Fin 8) (s : State) : Host.Outcome State Fault Refusal :=
  s.gate 9 <| .next (match (s.ser u.val).fifo with
    | [] => s
    | b :: t => (s.modUart u.val fun x => { x with
        fifo := t, sent := x.sent ++ [s.charBits u.val b], de := !t.isEmpty }).showTx u.val)

/-- SER_CONS_WRITE (R430): software frees ring entries. -/
def execSerConsWrite (_req : Req) (u : Fin 8) (cons : Fin 64) (s : State) : Host.Outcome State Fault Refusal :=
  s.gate 9 <| .next (s.put (serFld F.SER_IDX_CONS u.val) cons.val)

end Sys2Proof.Machine
end

