-- ==== Sys2Proof/Machine/Registers.lean ====
section
/-! DEFINITION. Accesses to BAR0 (R6 to R9, R40, R461, R565 to R568): what the write of a register does by its access
codes and in its block, and what a read returns and does. -/

namespace Sys2Proof.Machine

/-- The value a written word gives a field. -/
def vf (f : Fld) (v : Nat) : Nat := bitsOf v f.hi f.lo

/-- Is the bit of a one-bit field set in a written word? -/
def vOn (f : Fld) (v : Nat) : Bool := vf f v == 1

/-- Do `g` where a written word sets a command bit. -/
def State.goIf (s : State) (f : Fld) (v : Nat) (g : State → State) : State := if vOn f v then g s else s

/-! ### Writes, block by block.  `p` is the state after the RW, W1C and WO bits took the written word -/

/-- The boot record holds NEXT_START (R517, log entry 14). -/
def State.keepNextStart (s : State) (n : Nat) : State :=
  s.retPut 0x3040 (leBytes 1 n)

/-- BOOT_ (16_boot_config_lifecycle.md). -/
def State.writeBoot (p : State) (req : Req) (off v : Nat) : State :=
  if off = Reg.BOOT_CTRL then
    (p.keepNextStart (vf F.BOOT_CTRL_NEXT_START v)).goIf F.BOOT_CTRL_TIME_READY v State.timeReady
  else if off = Reg.BOOT_LC_CMD then
    p.goIf F.BOOT_LC_CMD_GO v fun t => if t.lcMay (.req req) then
      t.lcCommand (vf F.BOOT_LC_CMD_OP v) (vf F.BOOT_LC_CMD_CONFIRM v) (vf F.BOOT_LC_CMD_KEYS v) true 3 else t
  else p

/-- CDR_ (02_clock_drive.md).  Several command bits in one write of CDR_OC_CTRL act in the order LOAD, SWITCH, COMMIT, ROLLBACK,
CANCEL (DESIGN CHOICE, log entry 28). -/
def State.writeCdr (p : State) (off v : Nat) : State :=
  if off = Reg.CDR_CTRL then p.goIf F.CDR_CTRL_RESTART v fun t => t.restartReq (vOn F.CDR_CTRL_RESTART_TYPE v)
  else if off = Reg.CDR_OC_CTRL then
    ((((p.goIf F.CDR_OC_CTRL_LOAD v State.ocLoad).goIf F.CDR_OC_CTRL_SWITCH v State.ocSwitch).goIf F.CDR_OC_CTRL_COMMIT v
      State.ocCommit).goIf F.CDR_OC_CTRL_ROLLBACK v fun t => t.rollBack .host).goIf F.CDR_OC_CTRL_CANCEL v State.ocCancel
  else p

/-- FUS_ (03_reference_fusion.md). -/
def State.writeFus (p : State) (off v : Nat) : State :=
  if off = Reg.FUS_CTRL then
    let a := p.goIf F.FUS_CTRL_RESET_FILTER v fun t => (t.modFus fun f => { f with resetPend := true }).setTo F.FUS_CTRL_RESET_FILTER true
    (a.goIf F.FUS_CTRL_RET_COMMIT v State.retCommit).goIf F.FUS_CTRL_DATUM_COMMIT v State.datumCommit
  else p

/-- ORY_ (04_orrery_solver.md). -/
def State.writeOry (p : State) (off v : Nat) : State :=
  if off = Reg.ORY_CTRL then
    ((p.showOry.goIf F.ORY_CTRL_PLAN_COMMIT v State.planCommit).goIf F.ORY_CTRL_HOST_ABORT v State.hostAbort).drainDone
  else p

/-- CTL_ (05_motion_control_allocation.md). -/
def State.writeCtl (p : State) (off v : Nat) : State :=
  if off = Reg.CTL_CTRL then
    (p.goIf F.CTL_CTRL_SET_COMMIT v State.setCommit).goIf F.CTL_CTRL_PARAM_COMMIT v State.paramCommit
  else if off = Reg.CTL_COL_CTRL then (p.goIf F.CTL_COL_CTRL_START v State.colStart).goIf F.CTL_COL_CTRL_STOP v State.colStop
  else p

/-- EPH_ (06_ephemeris_power.md). -/
def State.writeEph (p : State) (off v : Nat) : State :=
  if off = Reg.EPH_CTRL then p.goIf F.EPH_CTRL_TABLE_COMMIT v State.tableCommit else p

/-- RDN_ (08_redundancy_takeover.md). -/
def State.writeRdn (p : State) (off v : Nat) : State :=
  if off = Reg.RDN_CTRL then
    ((p.goIf F.RDN_CTRL_HANDOVER v fun t => t.setTo F.RDN_CTRL_HANDOVER true).goIf F.RDN_CTRL_REHEARSE v fun t =>
      t.setTo F.RDN_CTRL_REHEARSE true).goIf F.RDN_CTRL_DIAG v State.diagGo
  else p

/-- XL_ (09_xonlink_rings.md): a GO while a command runs is ignored. -/
def State.writeXl (s p : State) (off v : Nat) : State :=
  if off = Reg.XL_STN_CMD ∧ vOn F.XL_STN_CMD_GO v then
    if s.xl.cmd.isSome then s
    else p.stnCmdGo (vf F.XL_STN_CMD_OP v) (vf F.XL_STN_CMD_RING v) (vf F.XL_STN_CMD_STN v)
  else p

/-- The port of an ETH_Pp_ register. -/
def ethPort (off : Nat) : Nat := (off - 0xD0100) / 0x40

/-- An ETH_Pp_ register of port p: the enables act, bases only while their ring is off; ETH_Pp_PROD is ETH_PROD's, which
carries the descriptors (R364, R367, log entry 15). -/
def State.writePort (s p : State) (n reg v : Nat) : State :=
  if reg = 0x00 then
    let q := (p.setTo (pf F.ETH_Pp_CFG_TX_EN n) (s.on (pf F.ETH_Pp_CFG_TX_EN n))).setTo (pf F.ETH_Pp_CFG_RX_EN n)
      (s.on (pf F.ETH_Pp_CFG_RX_EN n))
    q.portEnable n (vOn F.ETH_Pp_CFG_TX_EN v) (vOn F.ETH_Pp_CFG_RX_EN v)
  else if reg = 0x18 then (if s.on (pf F.ETH_Pp_CFG_RX_EN n) then s else p)
  else if reg = 0x1C ∨ reg = 0x20 then (if s.on (pf F.ETH_Pp_CFG_TX_EN n) then s else p)
  else if reg = 0x24 then s
  else p

/-- PTP_ and ETH_ (10_ethernet_ptp.md); a station ignores the writes of its time base (R372). -/
def State.writeEth (s p : State) (off v : Nat) : State :=
  if off = Reg.PTP_CTRL then (p.freeRate.showTb.goIf F.PTP_CTRL_STEP v State.stepGo).goIf F.PTP_CTRL_SLEW_GO v State.slewGo
  else if off = Reg.PTP_INCR then s.writeIncr v
  else if off = Reg.PTP_SLEW ∨ off = Reg.PTP_STEP_LO ∨ off = Reg.PTP_STEP_HI then (if s.station then s else p)
  else if off = Reg.ETH_LQ_CANCEL then
    p.goIf F.ETH_LQ_CANCEL_GO v fun t => t.lqCancel (vf F.ETH_LQ_CANCEL_PORT v) (vf F.ETH_LQ_CANCEL_INDEX v)
  else if 0xD0100 ≤ off ∧ off < 0xD0200 then s.writePort p (ethPort off) ((off - 0xD0100) % 0x40) v
  else p

/-- MER_CTRL: HALT taken at the next edge, then SHIFT_GO (R400, R401). -/
def State.writeMerCtrl (s p : State) (v : Nat) : State :=
  let h := vOn F.MER_CTRL_HALT v
  let a := if h = s.on F.MER_CTRL_HALT then p else p.merHalt h (p.fld F.MER_SUBSEC_SUBSEC) false
  a.goIf F.MER_CTRL_SHIFT_GO v State.shiftGo

/-- MER_ (11_meridian_backup.md). -/
def State.writeMer (s p : State) (off v hwSet : Nat) : State :=
  if off = Reg.MER_CTRL then s.writeMerCtrl p v
  else if off = Reg.MER_STATUS then
    if vOn F.MER_STATUS_TIME_LOST v && !vOn F.MER_STATUS_TIME_LOST hwSet && s.on F.MER_STATUS_TIME_LOST then p.timeLostClear else p
  else if off = Reg.MER_SUBSEC then s.calWrite 0 v
  else if off = Reg.MER_TIME then s.calWrite 1 v
  else if off = Reg.MER_DATE then s.calWrite 2 v
  else if off = Reg.MER_PWR then
    (p.goIf F.MER_PWR_CYCLE v State.cycleGo).goIf F.MER_PWR_SLEEP v fun t =>
      t.pwrStart .sleep F.MER_PWR_SLEEP
  else p

/-- A word of a message object: CFG keeps LAST at its DLC's, and words 1 to 19 of a pending object are discarded (R414, R418). -/
def State.writeObj (s p : State) (c k w : Nat) : State :=
  if w = 0 then
    p.put (of F.CAN_OBJ_CFG_LAST c k) (lastWord (p.on (of F.CAN_OBJ_CFG_FDF c k)) (p.fld (of F.CAN_OBJ_CFG_DLC c k)))
  else if s.isPending c k then s.bump (cf F.CAN_CNT_LOST c) 1
  else p

/-- CAN_ (12_can_serial_discrete.md): timing only while EN is 0; CAN_CANCEL is its own row's (log entry 15). -/
def State.writeCan (s p : State) (off v : Nat) : State :=
  let c := (off - 0xF0000) / 0x4000
  let r := (off - 0xF0000) % 0x4000
  if 0x1000 ≤ r then s.writeObj p c ((r - 0x1000) / 80) ((r - 0x1000) % 80 / 4)
  else if r = 0x00 then
    ((p.setTo (cf F.CAN_CTRL_EN c) (s.on (cf F.CAN_CTRL_EN c))).canEnable c (vOn F.CAN_CTRL_EN v)).goIf F.CAN_CTRL_RECOVER v
      fun t => t.canRecover c
  else if r = 0x08 ∨ r = 0x0C ∨ r = 0x10 then (if s.on (cf F.CAN_CTRL_EN c) then s else p)
  else if 0x20 ≤ r ∧ r < 0x30 then s.canTxreq c ((r - 0x20) / 4) v
  else if r = 0x30 then (if vOn F.CAN_CANCEL_GO v then s else p)
  else p

/-- SER_ and DIO_ (12_can_serial_discrete.md). -/
def State.writeSerDio (s p : State) (req : Req) (off v : Nat) : State :=
  if off < 0x100800 then
    let u := (off - 0x100000) / 0x100
    let r := (off - 0x100000) % 0x100
    if r = 0x0C then (if s.serMode u = 0 then p else s)
    else if r = 0x14 then s.writeTx u (BitVec.ofNat 8 v)
    else p
  else if off = Reg.DIO_OUT_LO ∨ off = Reg.DIO_OUT_HI then (if req = .cyc 1 ∧ s.cdr.servoHeld then s else p)
  else if off = Reg.DIO_CLAIM_LO then s.writeClaim req false v
  else if off = Reg.DIO_CLAIM_HI then s.writeClaim req true v
  else if 0x101000 ≤ off ∧ off < 0x101100 then (p.invChange s ((off - 0x101000) / 4)).dioSettle
  else p.dioSettle

/-- SDF_ (13_sigma_delta_filters.md). -/
def State.writeSdf (s p : State) (off v : Nat) : State :=
  if off = Reg.SDF_EN then s.writeSdfEn v
  else if Reg.SDF_CLK ≤ off ∧ off < Reg.SDF_CLK + 16 then s.writeSdmClk ((off - Reg.SDF_CLK) / 4) v
  else if Reg.SDF_CHc_CFG ≤ off ∧ off < Reg.SDF_CHc_CFG + 0x800 then
    let c := (off - Reg.SDF_CHc_CFG) / 0x40
    match (off - Reg.SDF_CHc_CFG) % 0x40 with
    | 0 => s.writeSdfCfg c v
    | 4 => s.writeFir c 1 v
    | 8 => s.writeFir c 2 v
    | _ => p.showSdf
  else if 0x118000 ≤ off ∧ off < 0x11A000 then s.writeCoef ((off - 0x118000) / 0x100) ((off - 0x118000) % 0x100 / 4) v
  else p

/-- A write of HIF_EV_EN: a group whose summary rises sends its message (R478). -/
def State.evEnable (s p : State) (i : Nat) : State :=
  let tell := fun (g : Nat) (t : State) => if !s.summary g && t.summary g then t.notifyGroup g else t
  tell (2 * i + 1) (tell (2 * i) p)

/-- A register of ring k: bases and sizes only while it is DISABLED, EN starts and ends it (R462, R463); a write that enables
the message or lowers THRESH with enough completions counted sends it (R479). -/
def State.writeRing (s p : State) (k reg v : Nat) : State :=
  if reg < 0x14 then (if s.ringState k = 0 then p else s.setTo F.HIF_STATUS_CFG_BAD true)
  else if reg = 0x14 then
    let q := p.setTo (rf F.HIF_Rk_CTRL_EN k) (s.on (rf F.HIF_Rk_CTRL_EN k))
    (if vOn F.HIF_Rk_CTRL_EN v then q.ringOn k else q.ringOff k).threshMessage k
  else p

/-- HIF_ and the MSI-X table (14_host_interface.md). -/
def State.writeHif (s p : State) (req : Req) (off v hwSet : Nat) : State :=
  if 0x121000 ≤ off ∧ off < 0x121400 then s.writeRing p ((off - 0x121000) / 0x40) ((off - 0x121000) % 0x40) v
  else if Reg.HIF_EV_EN ≤ off ∧ off < Reg.HIF_EV_EN + 32 then s.evEnable p ((off - Reg.HIF_EV_EN) / 4)
  else if Reg.HIF_EV_PEND ≤ off ∧ off < Reg.HIF_EV_PEND + 32 then s.clearPend req ((off - Reg.HIF_EV_PEND) / 4) v hwSet
  else if 0x124000 ≤ off ∧ off < 0x124400 ∧ off % 16 = 12 then (if bitAt v 0 then p else s.unmask ((off - 0x124000) / 16))
  else p

/-- ALM_ (15_almanac_plate_capture.md): ALM_RD_SEQ is ignored while the requester's read is in progress (R494). -/
def State.writeAlm (s p : State) (req : Req) (off v : Nat) : State :=
  if off = Reg.ALM_RD_SEQ then (if s.reading req then s else p)
  else if off = Reg.ALM_RD_CTRL then p.goIf F.ALM_RD_CTRL_GO v fun t => t.rdGo req
  else if off = Reg.ALM_SW_HDR then p.goIf F.ALM_SW_HDR_GO v fun t => t.swGo req
  else if off = Reg.ALM_PLATE_CTRL then
    (p.goIf F.ALM_PLATE_CTRL_TRIGGER v State.plateTrigger).goIf F.ALM_PLATE_CTRL_RELEASE v State.plateRelease
  else p

/-- A register word is written and its block acts; `p` as above. -/
def State.writeBlock (s p : State) (req : Req) (off v hwSet : Nat) : State :=
  match off / 0x10000 with
  | 0x01 => p.writeBoot req off v
  | 0x03 => if off = Reg.CLK_SSC then s.writeSsc v else p
  | 0x05 => p.writeCdr off v
  | 0x06 => p.writeFus off v
  | 0x07 => p.writeOry off v
  | 0x08 => p.writeCtl off v
  | 0x09 => p.writeEph off v
  | 0x0A => p.writeRdn off v
  | 0x0C => s.writeXl p off v
  | 0x0D => s.writeEth p off v
  | 0x0E => s.writeMer p off v hwSet
  | 0x0F => s.writeCan p off v
  | 0x10 => s.writeSerDio p req off v
  | 0x11 => s.writeSdf p off v
  | 0x12 => s.writeHif p req off v hwSet
  | 0x13 => s.writeAlm p req off v
  | 0x14 => s.dmWrite ((off - Reg.DBG_DMI) / 4) v
  | _ => p

/-! ### A write of one aligned word -/

/-- A write of retained SRAM (R396): the Clock Drive's area takes no party's writes, the supervisor's only its own. -/
def State.retWrite (s : State) (req : Req) (a v : Nat) : State :=
  if a < 0x3040 then s.bump F.MER_LOCK_CNT_PROTECT 1
  else if a < 0x3800 ∧ req.cls = 8 ∧ 1 < req.idx then s
  else if a < 0x3800 ∧ req.cls ≠ 8 then s
  else { s with mem := { s.mem with retained := writeWord ramByte s.mem.retained a (w32 v) } }

/-- Is the write ignored wherever it lands: a block without power, the GRD_ mirror, the fused-off HIF_ block, the debug module
when closed, and a boot command in progress (R2, R22, R521, R527)? -/
def State.writeClosed (s : State) (off : Nat) : Bool :=
  !s.blockOn off || off / 0x10000 == 0x0B || (s.variant == .si && off / 0x10000 == 0x12) ||
    (off / 0x10000 == 0x14 && (s.lc == 2 || s.lc == 4)) || (off == Reg.BOOT_LC_CMD && s.on F.BOOT_LC_CMD_GO)

/-- An aligned 32-bit write of BAR0. -/
def State.regWrite (s : State) (req : Req) (off v hwSet : Nat) : State :=
  if s.writeClosed off then s
  else if s.mer.lockout && inMeridian off then s.lockedOut
  else if inRetained off then s.retWrite req (off - retBase) v
  else match regRow? off with
    | none => s
    | some row => s.writeBlock (s.wrAcc (regKey req off) (v - (v &&& row.w1s)) hwSet) req off v hwSet

/-- Does an aligned write put a 1 into an RSV bit (R9)? -/
def State.writesRsv (s : State) (off v : Nat) : Bool :=
  !(s.mer.lockout && inMeridian off) && !s.writeClosed off && !inRetained off &&
    (match regRow? off with | none => false | some row => reservedBits row v)

/-- Does the MSI-X table or the PBA take this naturally aligned 64-bit access (R461)? -/
def wideOk (off size : Nat) : Bool :=
  size == 8 && off % 8 == 0 && ((decide (0x124000 ≤ off) && decide (off < 0x124400)) || off == 0x125000)

/-- The words a write of BAR0 writes: none where its size or alignment makes the device discard it (R7). -/
def writtenWords (off size v : Nat) : List (Nat × Nat) :=
  if size = 4 ∧ off % 4 = 0 then [(off, v % 2 ^ 32)]
  else if wideOk off size then [(off, v % 2 ^ 32), (off + 4, v / 2 ^ 32)]
  else []

/-- Is the debug window of BAR4 open to the host (R461, R521)? -/
def State.windowFor (s : State) (req : Req) : Bool := req == .host && (s.lc == 0 || s.lc == 1 || s.lc == 3)

/-- A write through BAR4 onto shared SRAM (R6, R461). -/
def State.windowWrite (s : State) (req : Req) (off size v : Nat) : State :=
  if s.windowFor req then s.sramWrite off (leBytes size v) else s

/-- Do the doorbells answer this access: the host's, inside the 64 KiB of BAR2, with PD_SER on (R6, R461, R527)? -/
def State.doorFor (s : State) (req : Req) (off : Nat) : Bool := req == .host && decide (off < 0x10000) && s.domOn 10

/-- A write of BAR2: a doorbell where it is a naturally aligned 32-bit write of one, and discarded otherwise (R7, R469). -/
def State.doorWrite (s : State) (req : Req) (off size v : Nat) : State :=
  if s.doorFor req off && size == 4 then
    if off % 0x1000 = 0 then s.sqDoor (off / 0x1000) (v % 2 ^ 32)
    else if off % 0x1000 = 4 then s.cqDoor (off / 0x1000) (v % 2 ^ 32)
    else s
  else s

/-- REGISTER_WRITE (R9): `size` bytes at an offset of BAR0, of the doorbells in BAR2, or of the debug window BAR4; `hwSet`
holds the bits that hardware sets in the same clock (R40). -/
def execRegisterWrite (req : Req) (bar : Bar) (off : BitVec 24) (size : Fin 9) (v : BitVec 64) (hwSet : Word) (s : State) :
    Host.Outcome State Fault Refusal :=
  match bar with
  | .bar4 => .next (s.windowWrite req off.toNat size.val v.toNat)
  | .bar2 => .next (s.doorWrite req off.toNat size.val v.toNat)
  | .bar0 =>
    let ws := writtenWords off.toNat size.val v.toNat
    if ws.any fun w => s.writesRsv w.1 w.2 then .fault .reservedWrite
    else .next (ws.foldl (fun t w => t.regWrite req w.1 w.2 hwSet.toNat) s)

/-! ### Reads (R7, R8) -/

/-- What a read of an aligned word does beside clearing RC bits: it latches, pops or unlocks. -/
def State.readLatch (s : State) (req : Req) (off : Nat) : State :=
  if off = Reg.PTP_TIME_NS then (s.readTimeNs req).2
  else if off = Reg.PTP_TXTS_W0 then s.readTxts0.2
  else if off = Reg.PTP_TXTS_W1 then s.readTxts1.2
  else if off = Reg.MER_SUBSEC then (s.subsecRead req).2
  else if off = Reg.MER_EVF0 then s.evf0Read.2
  else if off = Reg.MER_EVF2 then s.evf2Read.2
  else if off = Reg.CDR_CYC_LO then s.readCyc
  else if off = Reg.CDR_PT_LO then s.readPt
  else if off = Reg.CDR_PT_ADJ_LO then s.readPtAdj
  else if off = Reg.FUS_STATE_CYC_LO then s.wrn Reg.FUS_STATE_CYC_HI (s.fus.pubCyc / 2 ^ 32)
  else if 0xF1000 ≤ off ∧ off < 0x100000 ∧ 0x1000 ≤ off % 0x4000 ∧ off % 0x4000 < 0x3800 then
    let c := (off - 0xF0000) / 0x4000
    let k := (off % 0x4000 - 0x1000) / 80
    let w := (off % 0x4000 - 0x1000) % 80 / 4
    if w = 0 then (s.canRead0 c k).2 else if w = s.fld (of F.CAN_OBJ_CFG_LAST c k) then (s.canReadLast c k).2 else s
  else (s.rdAcc (regKey req off)).2

/-- The state after a read of an aligned word of BAR0 (R8, R392, R521). -/
def State.readActed (s : State) (req : Req) (off : Nat) : State :=
  if s.mer.lockout && inMeridian off || s.dbgHidden off || !s.blockOn off then s else s.readLatch req off

/-- Read aligned words one after another: the bytes they return, and the state after. -/
def State.readWords (s : State) (req : Req) : List Nat → List Byte × State
  | [] => ([], s)
  | o :: os =>
    let r := (s.readActed req o).readWords req os
    (leBytes 4 (s.regRead req o) ++ r.1, r.2)

/-- The aligned words an access of `size` bytes touches, in address order. -/
def touched (off size : Nat) : List Nat := (List.range ((off % 4 + size + 3) / 4)).map fun i => off / 4 * 4 + 4 * i

/-- A read of `size` bytes of BAR0: every aligned register it touches is read in full, and the addressed bytes come back in
address order (R7). -/
def State.barRead (s : State) (req : Req) (off size : Nat) : State :=
  let r := s.readWords req (if size = 0 then [] else touched off size)
  { r.2 with readData := leNat ((r.1.drop (off % 4)).take size) }

/-- A read through BAR4 of shared SRAM; a closed window reads 0. -/
def State.windowRead (s : State) (req : Req) (off size : Nat) : State :=
  { s with readData := if s.windowFor req then leNat (readBytes ramByte s.mem.sram off size) else 0 }

/-- What a read of an aligned word of BAR2 returns: the last value a doorbell accepted (R469). -/
def State.doorWord (s : State) (off : Nat) : Nat :=
  if off % 0x1000 = 0 then (s.hring (off / 0x1000)).sqTail
  else if off % 0x1000 = 4 then (s.hring (off / 0x1000)).cqHead
  else 0

/-- A read of `size` bytes of BAR2, assembled in address order from the words it touches (R7, R469). -/
def State.doorRead (s : State) (req : Req) (off size : Nat) : State :=
  let b := (if size = 0 then [] else touched off size).flatMap fun o => leBytes 4 (if s.doorFor req o then s.doorWord o else 0)
  { s with readData := leNat ((b.drop (off % 4)).take size) }

/-- READ_CLEAR (R8): a read of BAR0, whose RC fields return their value and clear; or of the doorbells in BAR2, or of the debug
window BAR4, where no field clears. -/
def execReadClear (req : Req) (bar : Bar) (off : BitVec 24) (size : Fin 9) (s : State) : Host.Outcome State Fault Refusal :=
  .next (match bar with
    | .bar4 => s.windowRead req off.toNat size.val
    | .bar2 => s.doorRead req off.toNat size.val
    | .bar0 => s.barRead req off.toNat size.val)

/-! ### The debug module (R521, R567) -/

/-- DEBUG_MODULE_ACCESS (R567): a write of the debug module register at a DMI address, or a read; through the IEEE 1149.1 port where
that is open (R521). -/
def execDebugModuleAccess (port : Port) (a : BitVec 7) (write : Option Word) (s : State) : Host.Outcome State Fault Refusal :=
  let off := Reg.DBG_DMI + 4 * a.toNat
  .next (match port, write with
    | .req r, some v => s.regWrite r off v.toNat 0
    | .req r, none => s.barRead r off 4
    | .jtag, some v => if s.jtagOpen then s.dmWrite a.toNat v.toNat else s
    | .jtag, none => if s.jtagOpen then { s with readData := s.dmRead a.toNat } else s)

end Sys2Proof.Machine
end

