-- ==== Sys2Proof/Machine/BootImage.lean ====
section
/-! DEFINITION. The images boot loads from flash, but for the configuration image (16_boot_config_lifecycle.md, R504 to R512):
the slots tried, their checks, and what boot will record. -/

namespace Sys2Proof.Machine

/-- An event that boot has met and records once the Almanac has started (R512). -/
structure BootEv where
  /-- Number of the event. -/
  n : Nat
  /-- Severity. -/
  sev : Nat
  /-- Source unit. -/
  src : Nat
  /-- Parameters. -/
  p : Nat × Nat × Nat
  deriving DecidableEq, Repr

/-- Write boot's records, with the time of writing (R512); an event's pending bit needs PD_SER alone, its record PD_FAB (R528). -/
def State.bootEvents (s : State) (es : List BootEv) : State :=
  es.foldl (fun t e => t.raise3 e.n e.sev e.src (w32 e.p.1) (w32 e.p.2.1) (w32 e.p.2.2)) s

/-- EV002: the second slot of a type was used, or directory copy 1 (type 0), with the device time at which boot met it (R512). -/
def State.evSecond (s : State) (ty : Nat) : BootEv := ⟨2, sevWarn, srcBoot, ty, s.now % 2 ^ 32, s.now / 2 ^ 32⟩

/-- EV003: the signature of a slot failed. -/
def evSig (ty : Nat) (slotB : Bool) (key : Nat) : BootEv := ⟨3, sevAlarm, srcBoot, ty, b2n slotB, key⟩

/-- A slot as boot reads it: the image's bytes, the 112 bytes behind it, and whether it is slot B. -/
structure Slot where
  /-- The image. -/
  img : List Byte
  /-- The signature block (R507). -/
  sig : List Byte
  /-- Slot B. -/
  isB : Bool
  deriving DecidableEq, Repr

/-- Read a slot of a directory entry: the image's length is taken from its head, and is at most MAX_LEN (R505); a slot that the flash
does not hold is none (R504). -/
def State.readSlot (s : State) (e : List Byte) (o : Option Nat × Bool) (len : List Byte → Nat) : Option Slot :=
  match o.1 with
  | none => none
  | some a =>
    let n := len (s.flashBytes a 128)
    if n ≤ fieldLe e 12 4 ∧ s.inFlash a (n + 112) then some ⟨s.flashBytes a n, s.flashBytes (a + n) 112, o.2⟩ else none

/-- Does a signature block follow the image? -/
def Slot.signed (t : Slot) : Bool := fieldLe t.sig 0 4 == 0x50474953

/-- The signature of a slot: may the image be used, and what is recorded (R509, R521).  Where signatures are not enforced, one
that is present is checked. -/
def State.sigCheck (s : State) (ty : Nat) (t : Slot) : Bool × List BootEv :=
  if s.sigOk ty t.img t.sig then (true, [])
  else if s.sigEnforced then (false, [evSig ty t.isB (fieldLe t.sig 4 1)])
  else (true, if t.signed then [evSig ty t.isB (fieldLe t.sig 4 1)] else [])

/-- Try slots in order (R509): the first usable image, whether it is in the second slot, and what is recorded. -/
def State.trySlots (s : State) (ty : Nat) (e : List Byte) (len : List Byte → Nat) (ok : List Byte → Bool) (second : Bool) :
    List (Option Nat × Bool) → Option (List Byte × Bool) × List BootEv
  | [] => (none, [])
  | o :: os =>
    match s.readSlot e o len with
    | none => s.trySlots ty e len ok true os
    | some t =>
      if !ok t.img then s.trySlots ty e len ok true os
      else
        let c := s.sigCheck ty t
        if c.1 then (some (t.img, second), c.2 ++ (if second then [s.evSecond ty] else []))
        else
          let r := s.trySlots ty e len ok true os
          (r.1, c.2 ++ r.2)

/-- Load an image of a type (R509). -/
def State.bootImage (s : State) (d : List (List Byte)) (ty : Nat) (len : List Byte → Nat) (ok : List Byte → Bool) :
    Option (List Byte × Bool) × List BootEv :=
  match dirEntry d ty with
  | none => (none, [])
  | some e => s.trySlots ty e len ok false (slotsOf e)

/-- The CRC-32C of a whole firmware image (R506): only how its own four bytes count is open. -/
def fwCrc (img : List Byte) : Nat := crc32c (img.take 60 ++ Config.fwOwn ++ img.drop 64)

/-- The format checks of a firmware image (R506); FORMAT is 0x0001 as in every other header of the flash (PRESUMED, log entry 10). -/
def fwOk (ty : Nat) (img : List Byte) : Bool :=
  decide (64 ≤ img.length) && fieldLe img 0 4 == 0x57465848 && Config.fwField 2 img == 1 && Config.fwField 0 img == ty &&
    fieldLe img 60 4 == fwCrc img

/-- The format checks boot makes of a guard image; the guard judges the rest (R271). -/
def guardFormatOk (img : List Byte) : Bool :=
  fieldLe img 0 4 == 0x50445247 && fieldLe img 4 2 == 1 && fieldLe img 680 4 == imageCv img

/-- Load firmware of a type. -/
def State.loadFirmware (s : State) (d : List (List Byte)) (ty : Nat) : Option (List Byte × Bool) × List BootEv :=
  s.bootImage d ty (Config.fwField 1) (fwOk ty)

/-- Load the guard image. -/
def State.loadGuard (s : State) (d : List (List Byte)) : Option (List Byte × Bool) × List BootEv :=
  s.bootImage d 4 (fun _ => grdImageLen) guardFormatOk

/-- Load the function-block image; its format checks are those of R62 to R68. -/
def State.loadProgram (s : State) (d : List (List Byte)) : Option (List Byte × Bool) × List BootEv :=
  s.bootImage d 5 iLen s.bootImageOk

end Sys2Proof.Machine
end

