-- ==== Sys2Proof/Machine/Station.lean ====
section
/-! DEFINITION. What a node does as a Xonlink frame passes, and the device in station role (R329 to R337, R344 to R346,
R357 to R359). -/

namespace Sys2Proof.Machine

/-- Change the station. -/
def State.modSt (s : State) (f : XlStation → XlStation) : State := s.modXl fun x => { x with stn := f x.stn }

/-- SSTATE (R344). -/
def State.sstate (s : State) : Nat := s.fld F.XL_SELF_SSTATE

/-- The station's own entry in its ring table. -/
def State.ownEntry (s : State) : Option (List Byte) := entryOf (s.xring 0).table (s.fld F.XL_SELF_STN)

/-! ### CYCLE frames: ring time (R328, R336, R337) -/

/-- Do the frame's cycle parameters agree with the station's own configuration (R328)? -/
def State.paramsAgree (s : State) (payload : List Byte) : Bool :=
  fieldLe payload 0 4 == s.fld F.CDR_PERIOD_BASE_MS * 1000 && fieldLe payload 4 4 == s.fld F.CDR_OFS_C_OUT_OFFSET * 10 &&
    fieldLe payload 8 1 == s.fld F.XL_RING0_CFG_HOLD_LIMIT && fieldLe payload 9 1 == s.fld F.XL_SELF_SEGMENT

/-- The station's reading at the frame's arrival, units of 1/16 ns: INSTANT minus the lead, plus CORR, plus the upstream
link delay (R336). -/
def State.cycleReading (s : State) (p : Nat) (frame : List Byte) : Nat :=
  (fInstant frame - s.fld F.XL_WD_WD_LEAD * 10000 - 2000 * fRank frame + (s.xport p).delay.getD 0) * 16 + hf frame 24 4

/-- A station's time is set to `x` units of 1/16 ns: every interval it measures moves with it, and its grid stands so that the next
sample instant is INSTANT of the frame (R23, R336). -/
def State.setRingTime (s : State) (x instant : Nat) : State :=
  let a := (s.modTb fun t => { t with now := ⟨x / 16 % 2 ^ 64, x % 16 * 2 ^ 24⟩ }).moveTimers (((x / 16 : Nat) : Int) - s.now)
  if a.cdr.grid then { a with cdr := { a.cdr with t0 := code 64 ((instant : Int) - a.tbase) } }
  else { a with boot := { a.boot with gridAt := a.boot.gridAt.map fun _ => instant } }

/-- The station's own time, units of 1/16 ns. -/
def State.time16 (s : State) : Nat := s.now * 16 + s.tb.now.frac / 2 ^ 24

/-- Is a reading `x` within R337: the phase against the bound of the ring's link, and the frequency error since the last reading,
at which the time was set, against 0.1 ppm (DEDUCED, log entry 32)? -/
def State.withinR337 (s : State) (x : Nat) : Bool :=
  let err := ((x : Int) - s.time16).natAbs
  decide (err ≤ 16 * if s.fld F.XL_RING0_CFG_PHY = 2 then 20 else 50) &&
    (match s.xl.stn.reading with | some r => decide (err * 10000000 ≤ x - r) | none => true)

/-- The increment after a reading `x`: a law the spec does not give, which keeps within 0.1 ppm of the rate that the last two
readings measured (R336, R337), and within the increment's own range. -/
def State.ringRate (s : State) (x : Nat) : Nat :=
  let free := Config.freeValue s.freeCtr
  match s.xl.stn.reading with
  | some r =>
    if s.time16 ≤ r then clampIncr free
    else
      let m := clampIncr (s.tb.rate * (x - r) / (s.time16 - r))
      clampIncr (Nat.max (m - m / 10000000) (Nat.min (m + m / 10000000) free))
  | none => clampIncr free

/-- A station takes the CYCLE frame of lowest rank: it sets its time to the reading, its rate follows, and SYNC counts good
frames (R336, R337, R344). -/
def State.cycleTake (s : State) (p : Nat) (frame : List Byte) : State :=
  let old := s.xl.stn.rank
  if !s.station || (match old with | some r => decide (r ≤ fRank frame) | none => false) then s
  else
    let x := s.cycleReading p frame
    let b := fPayload frame
    let agree := s.paramsAgree b
    let good := agree && s.withinR337 x
    let a := (s.setRingTime x (fInstant frame)).modTb fun t => { t with rate := s.ringRate x }
    ((a.nextFree.showTb.modSt fun t => { t with
      rank := some (fRank frame), cyc := some (fCyc frame), reading := some x
      step := if bitAt (fieldLe b 10 1) 0 then sgn 32 (fieldLe b 12 4) else 0
      good := if !good then 0 else if old.isNone then t.good + 1 else Nat.max 1 t.good })).setTo F.XL_SELF_PARAM_MISMATCH (!agree)

/-- CYCLE_FRAME (R336): forwarded with `residence`, units of 1/16 ns, and the upstream link delay in CORR (R332). -/
def execCycleFrame (port : Fin 4) (frame : List Byte) (fcs : XlFcs) (residence : Nat) (s : State) :
    Host.Outcome State Fault Refusal :=
  s.gate 10 <| .next (s.xlPass port.val frame fcs 1 (16 * (s.xport port.val).delay.getD 0 + residence) fun x =>
    (fPayload frame, if fcs = .ok then x.cycleTake port.val frame else x))

/-- STATION_SAMPLE (R337): at the first tick of the sample instant, that of the cycle just begun or the next one, the station
latches its inputs, applies a step, with EV164 as the first record of the new epoch (R388, R490), and counts cycles without a CYCLE frame. -/
def State.stationSample (u : State) : State :=
  if !u.station then u
  else
    let n := if u.cdr.grid && decide (u.cdr.t0 ≤ u.now ∧ u.now ≤ u.cdr.t0 + 4) then u.cdr.t0 else u.nextSample.getD u.now
    let s := u.runTo n
    let t := s.xl.stn
    let d := t.step * (s.tbase : Int)
    let a := if d = 0 then s
      else
        let c := { s with cdr := { s.cdr with t0 := code 64 ((s.cdr.t0 : Int) + d), ptAdj := s.cdr.ptAdj + d } }
        (c.stepTime d).raiseStep srcPtp (stepParams d).1 (stepParams d).2
    a.modSt fun x => { x with
      latched := x.payload, sampleTime := movedBy d n, step := 0, rank := none, stored := none
      reading := x.reading.map fun r => movedBy (16 * d) r
      noCycle := if x.rank.isNone then x.noCycle + 1 else 0
      good := if x.rank.isNone then 0 else x.good }

/-- STATION_SAMPLE (R337). -/
def execStationSample (s : State) : Host.Outcome State Fault Refusal :=
  s.gate 10 <| .next s.stationSample

/-- STATION_CYCLE_LOSS (R336): 16 cycles without a CYCLE frame return READY or SAFE to SYNC. -/
def execStationCycleLoss (s : State) : Host.Outcome State Fault Refusal :=
  s.gate 10 <| .next (if s.station && (s.sstate == 3 || s.sstate == 6) && decide (16 ≤ s.xl.stn.noCycle) then
    (s.put F.XL_SELF_SSTATE 2).modSt fun x => { x with good := 0 }
  else s)

/-- STATION_SYNC_COMPLETE (R344): 8 consecutive good CYCLE frames and no PARAM_MISMATCH move SYNC to READY. -/
def execStationSyncComplete (s : State) : Host.Outcome State Fault Refusal :=
  s.gate 10 <| .next (if s.station && s.sstate == 2 && decide (8 ≤ s.xl.stn.good) && !s.on F.XL_SELF_PARAM_MISMATCH then
    s.put F.XL_SELF_SSTATE 3
  else s)

/-- The levels of BYP_E and BYP_W, which a station drives alike: high from INIT on, which opens the bypass, and low in RESET
(R344, R353). -/
def State.bypass (s : State) : Bool × Bool := let up := s.station && s.sstate != 0; (up, up)

/-- STATION_POWER_READY (R344): power and both ports ready move RESET to INIT; the bypasses open (R353).  Without a STATION
section or its ring table the station stays in RESET (R516). -/
def execStationPowerReady (s : State) : Host.Outcome State Fault Refusal :=
  s.gate 10 <| .next (if s.station && s.sstate == 0 && s.xLink 0 && s.xLink 1 && !(s.xring 0).table.isEmpty &&
      s.fld F.XL_SELF_STN != 0 then
    ((s.put F.XL_SELF_SSTATE 1).modSt fun x => { x with outputs := x.safeWords }).stnMeasured
  else s)

/-! ### Slots (R329, R330, R334, R345) -/

/-- The station's input slot (R329); REC_LEN counts the records that its payload begins with (DEDUCED, log entry 32). -/
def State.inSlot (s : State) (e : List Byte) : List Byte :=
  let t := s.xl.stn
  let fl := 1 + 4 * b2n (decide (3 ≤ s.sstate)) + 8 * b2n (s.on F.XL_SELF_PARAM_MISMATCH)
  let body := (t.latched ++ List.replicate (eInLen e - 16) 0).take (eInLen e - 16)
  leBytes 8 s.uid ++ [BitVec.ofNat 8 s.sstate, BitVec.ofNat 8 fl, BitVec.ofNat 8 (t.applied.getD 0),
    BitVec.ofNat 8 (s.fld F.XL_SELF_HOLD_CNT)] ++ leBytes 2 (recordsAt t.sampleTime 64 body).flatten.length ++ [0, 0] ++ body

/-- The payload of an INPUT frame with the station's slot written: left as it is where it carries the own UID, COLLIDE
where it carries another (R334).  Slots are written from 10 µs after the sample instant. -/
def State.writeInSlot (s : State) (index : Nat) (payload : List Byte) : List Byte :=
  match s.ownEntry with
  | none => payload
  | some e =>
    let at_ := eInPos e
    if !s.station || eInFrame e ≠ index || payload.length < at_ + eInLen e || s.now < s.xl.stn.sampleTime + 10000 then payload
    else if bitAt (fieldLe payload (at_ + 9) 1) 0 then
      if fieldLe payload at_ 8 = s.uid then payload
      else putBytes payload (at_ + 9) [BitVec.ofNat 8 (putBit (fieldLe payload (at_ + 9) 1) 1 true)]
    else putBytes payload at_ (s.inSlot e)

/-- INPUT_FRAME (R329). -/
def execInputFrame (port : Fin 4) (frame : List Byte) (fcs : XlFcs) (s : State) : Host.Outcome State Fault Refusal :=
  s.gate 10 <| .next (s.xlPass port.val frame fcs 2 0 fun x => (x.writeInSlot (hf frame 6 1) (fPayload frame), x))

/-- The station's output instant of the cycle. -/
def State.stnInstant (s : State) : Nat := s.xl.stn.sampleTime + s.ofs F.CDR_OFS_C_OUT_OFFSET

/-- Is the CYC of an OUTPUT frame greater than that of the last output applied (R345)? -/
def State.newOutput (s : State) (cyc : Nat) : Bool :=
  match s.xl.stn.applied with | some a => decide (a < cyc) | none => true

/-- Is an OUTPUT slot one the station stores for application: VALID, of its cycle, with its own output instant, and before
its set freezes, 50 µs earlier, since only the frozen set is checked and applied (R345, R358)? -/
def State.slotGood (s : State) (frame : List Byte) (flags : Nat) : Bool :=
  bitAt flags 0 && s.newOutput (fCyc frame) && fCyc frame == s.cdr.cyc && fInstant frame == s.stnInstant &&
    decide (s.now + 50000 < s.stnInstant)

/-- The words of the stored slot, in the staging buffer (R358). -/
def State.slotIntoBuf (s : State) : State :=
  match s.xl.stn.stored with
  | some o => { s with cdr := { s.cdr with buf := o.words.foldl (fun m p => sset (fun _ => 0) m p.1 p.2) s.cdr.buf } }
  | none => s

/-- Store a slot: its words go into the staging buffer at the indices of MAP0 and MAP1 (R358); the first copy counts. -/
def State.storeOut (s : State) (frame : List Byte) (e : List Byte) (flags : Nat) (words : List Word) : State :=
  if s.xl.stn.stored.isSome then s
  else
    (s.modSt fun x => { x with stored := some ⟨fCyc frame, bitAt flags 1, (eWords e).zip words⟩ }).slotIntoBuf

/-- The station's side of a complete OUTPUT frame: the slot is stored and acknowledged, or the frame refused and counted; another
station's ACK makes COLLIDE, whatever else the slot carries (R330, R345). -/
def State.outputTake (s : State) (frame : List Byte) (fcs : XlFcs) : List Byte × State :=
  let payload := fPayload frame
  match s.ownEntry with
  | none => (payload, s)
  | some e =>
    let at_ := eOutPos e
    let fl := fieldLe payload at_ 1
    if !s.station || eNoOut e || eOutFrame e ≠ hf frame 6 1 || payload.length < at_ + eOutLen e || fcs ≠ .ok then (payload, s)
    else
      let a := if !s.newOutput (fCyc frame) then s.modSt fun x => { x with refused := x.refused + 1 }
        else if s.slotGood frame fl then s.storeOut frame e fl (wordsOf (eWords e).length (payload.drop (at_ + 8)))
        else s
      let out := if bitAt fl 2 && fieldLe payload (at_ + 4) 4 != s.uid % 2 ^ 32 then
          putBytes payload at_ [BitVec.ofNat 8 (putBit fl 3 true)]
        else if s.slotGood frame fl then
          putBytes (putBytes payload at_ [BitVec.ofNat 8 (putBit fl 2 true), BitVec.ofNat 8 s.sstate]) (at_ + 4) (leBytes 4 s.uid)
        else payload
      (out, a)

/-- A controller keeps the OUTPUT payloads of the active unit that pass it in the cycle (R317). -/
def State.outputWatch (s : State) (r : Nat) (frame : List Byte) (fcs : XlFcs) : State :=
  if s.station || fcs ≠ .ok || fCyc frame ≠ s.cdr.cyc then s
  else s.modXring r fun x => { x with passing := sput (hf frame 6 1) (fPayload frame) x.passing }

/-- OUTPUT_FRAME (R345). -/
def execOutputFrame (port : Fin 4) (frame : List Byte) (fcs : XlFcs) (s : State) : Host.Outcome State Fault Refusal :=
  s.gate 10 <| .next (s.xlPass port.val frame fcs 3 0 fun x => (x.outputWatch (port.val / 2) frame fcs).outputTake frame fcs)

/-- A WITHDRAW that arrives before the output instant discards its cycle's output (R345); the guard's reference set is the
one before it (R275). -/
def State.withdrawTake (s : State) (frame : List Byte) : State :=
  if !s.station || !decide (s.now < s.stnInstant) then s
  else
    let a := s.modSt fun x => { x with withdrawn := some (fCyc frame) }
    if s.grd.released && s.cdr.cyc == fCyc frame then a.grdWithdrawn else a

/-- WITHDRAW_FRAME (R345). -/
def execWithdrawFrame (port : Fin 4) (frame : List Byte) (fcs : XlFcs) (s : State) : Host.Outcome State Fault Refusal :=
  s.gate 10 <| .next (s.xlPass port.val frame fcs 4 0 fun x => (fPayload frame, if fcs = .ok then x.withdrawTake frame else x))

/-! ### MGMT (R331) -/

/-- The READ_ID reply of this device (R4, R331). -/
def State.idReply (s : State) : List Byte :=
  let v := Config.stationIds
  leBytes 8 s.uid ++ leBytes 2 0x4858 ++ leBytes 2 v.1.toNat ++ leBytes 2 v.2.1.toNat ++ leBytes 2 v.2.2.toNat ++
    leBytes 4 (s.rdn Reg.CHIP_ID) ++ leBytes 4 s.chipVariant ++ leBytes 4 (3 + 64 * 256) ++ List.replicate 16 0

/-- The addressed station writes STATUS and its reply; IDENTIFY drives its indicator for 10 s. -/
def State.mgmtTake (s : State) (payload : List Byte) (ok : Bool) : List Byte × State :=
  if !s.station || fieldLe payload 1 1 ≠ s.fld F.XL_SELF_STN || payload.length < 48 then (payload, s)
  else match fieldLe payload 0 1 with
    | 1 => (putBytes (putBytes payload 2 [1]) 4 s.idReply, s)
    | 2 => (putBytes payload 2 [1], if ok then s.modSt fun x => { x with identify := s.now + 10000000000 } else s)
    | _ => (putBytes payload 2 [2], s)

/-- MGMT_FRAME (R331). -/
def execMgmtFrame (port : Fin 4) (frame : List Byte) (fcs : XlFcs) (s : State) : Host.Outcome State Fault Refusal :=
  s.gate 10 <| .next (s.xlPass port.val frame fcs 7 0 fun x => x.mgmtTake (fPayload frame) (fcs == .ok))

/-! ### The output instant (R345, R346) -/

/-- The stored output is valid at the instant: not withdrawn, and the station's guard released its set (R345, R358). -/
def State.outValid (s : State) : Option StnOut :=
  match s.xl.stn.stored with
  | some o => if s.xl.stn.withdrawn == some o.cyc || !s.grd.released then none else some o
  | none => none

/-- Show HOLD_CNT. -/
def State.putHold (s : State) (n : Nat) : State := s.putSat F.XL_SELF_HOLD_CNT n

/-- The station applies an output: the words of its slot as the set that the guard released holds them, its discrete outputs,
OPERATIONAL (R358). -/
def State.stnApply (s : State) (o : StnOut) : State :=
  let ws := (s.ownEntry.map eWords).getD []
  let a := (s.put F.XL_SELF_SSTATE 4).modSt fun x => { x with
    applied := some o.cyc, outputs := ws.map fun i => (i, setWord s.cdr.staged i) }
  a.applyStagedDio a.cdr.staged

/-- STATION_OUTPUT_INSTANT: a valid output resets HOLD_CNT and is applied in OPERATIONAL and HOLD, and with RESUME in
READY and SAFE; without one HOLD_CNT counts, and OPERATIONAL becomes HOLD (R344 to R346). -/
def State.stnOutput (s : State) : State :=
  if !s.station || s.sstate == 0 then s
  else
    let a := s.runTo s.stnInstant
    let b := match a.outValid with
      | some o =>
        let c := a.putHold 0
        if a.sstate == 4 || a.sstate == 5 || ((a.sstate == 3 || a.sstate == 6) && o.resume) then c.stnApply o else c
      | none =>
        let c := a.putHold (a.fld F.XL_SELF_HOLD_CNT + 1)
        if a.sstate == 4 then c.put F.XL_SELF_SSTATE 5 else c
    b.modSt fun x => { x with stored := none }

/-- STATION_OUTPUT_INSTANT (R346). -/
def execStationOutputInstant (s : State) : Host.Outcome State Fault Refusal :=
  s.gate 10 <| .next s.stnOutput

/-- STATION_HOLD_LIMIT (R344): HOLD_CNT reaches HOLD_LIMIT in HOLD, and the station takes its safe state. -/
def execStationHoldLimit (s : State) : Host.Outcome State Fault Refusal :=
  s.gate 10 <| .next (if s.station && s.sstate == 5 && decide (s.fld F.XL_RING0_CFG_HOLD_LIMIT ≤ s.fld F.XL_SELF_HOLD_CNT) then
    (s.put F.XL_SELF_SSTATE 6).modSt fun x => { x with outputs := x.safeWords }
  else s)

end Sys2Proof.Machine
end

