-- ==== Sys2Proof/Machine/BootConfig.lean ====
section
/-! DEFINITION. The configuration image: its checks, the factory defaults, and how boot applies it to every block
(16_boot_config_lifecycle.md, R513 to R516; the cycle parameters of R46 to R54; the preset of R43). -/

namespace Sys2Proof.Machine

/-! ### The image (R513, R514) -/

/-- LENGTH. -/
def cfgLen (img : List Byte) : Nat := fieldLe img 8 4

/-- N_SECT. -/
def cfgN (img : List Byte) : Nat := fieldLe img 6 2

/-- The section table: type, offset and length of each section. -/
def cfgTable (img : List Byte) : List (Nat × Nat × Nat) :=
  (List.range (cfgN img)).map fun i => (fieldLe img (64 + 16 * i) 2, fieldLe img (64 + 16 * i + 4) 4, fieldLe img (64 + 16 * i + 8) 4)

/-- The sections, by type. -/
def cfgSections (img : List Byte) : List (Nat × List Byte) := (cfgTable img).map fun e => (e.1, (img.drop e.2.1).take e.2.2)

/-- FORMAT, N_SECT, LENGTH, the section table and the check word. -/
def cfgFormatOk (img : List Byte) : Bool :=
  let n := cfgLen img
  fieldLe img 4 2 == 1 && decide (1 ≤ cfgN img ∧ cfgN img ≤ 32) && decide (n % 8 = 0) && decide (68 + 16 * cfgN img ≤ n) &&
    img.length == n && fieldLe img (n - 4) 4 == crc32c (img.take (n - 4)) &&
    (cfgTable img).all fun e => decide (1 ≤ e.1 ∧ e.1 ≤ 13) && decide (64 + 16 * cfgN img ≤ e.2.1) && decide (e.2.1 + e.2.2 ≤ n - 4)

/-- The section of a type. -/
def sectOf (secs : List (Nat × List Byte)) (ty : Nat) : Option (List Byte) := (secs.find? fun p => p.1 == ty).map (·.2)

/-! ### SYSTEM (R43, R514) -/

/-- A yes-or-no field of a section. -/
def sectBit (ty k : Nat) (b : List Byte) : Bool := Config.sectField ty k b != 0

/-- A SYSTEM section as its fields; the K preset enables its three features together (R43). -/
def sysOf (b : List Byte) : SysConf :=
  let f (k : Nat) : Nat := Config.sectField 1 k b
  let k := f 3 == 1
  { station := f 0 == 1, grpSize := f 1, diag := sectBit 1 2 b, preset := f 3
    features := b2n (k || sectBit 1 4 b) + 2 * b2n (k || sectBit 1 5 b) + 4 * b2n (k || sectBit 1 6 b)
    cold := f 7 == 0, gridWait := f 8, fusion := sectBit 1 9 b, control := sectBit 1 10 b, ephemeris := sectBit 1 11 b
    fallbacks := sectBit 1 12 b, orrery := sectBit 1 13 b, flush := sectBit 1 14 b, mirror := (f 15, f 16)
    plateSealed := f 17 == 1, subsys := (f 18, f 19) }

/-- The SYSTEM section's own rules, and the check of R43 against the loaded guard image.  A PRESET above 1, which is not issued,
passes, shows in CHIP_PROFILE and names no preset (DESIGN CHOICE, log entry 44). -/
def State.sysOk (s : State) (b : List Byte) : Bool :=
  b.length == 64 && decide (Config.sectField 1 0 b ≤ 1) && decide (1 ≤ Config.sectField 1 1 b ∧ Config.sectField 1 1 b ≤ 3) &&
    decide (Config.sectField 1 7 b ≤ 1) && decide (1 ≤ Config.sectField 1 8 b ∧ Config.sectField 1 8 b ≤ 600) &&
    (!bitAt (sysOf b).features 1 || s.edsEn)

/-! ### CYCLE (R46 to R54) -/

/-- The cycle parameters: T_base in ms, T_fast as CDR_PERIOD.FAST codes it, SLOW_MULT, the six boundaries and FAST_BUDGET in
units of 10 µs, and the two limits. -/
structure CycleConf where
  /-- T_base, ms. -/
  base : Nat
  /-- T_fast. -/
  fast : Nat
  /-- SLOW_MULT. -/
  slow : Nat
  /-- INTAKE_CL, FUSION_DL, SOLVE_DL, STAGE_DL, OUT_OFFSET, SWITCH. -/
  bounds : List Nat
  /-- FAST_BUDGET. -/
  budget : Nat
  /-- OVR_LIMIT. -/
  ovr : Nat
  /-- FAST_OVR_LIMIT. -/
  fastOvr : Nat
  deriving DecidableEq, Repr

/-- The defaults of R54. -/
def CycleConf.default : CycleConf := ⟨10, 1, 100, [150, 250, 700, 750, 800, 850], 20, 3, 5⟩

/-- Percent of T_base and minimum phase of each boundary (R51). -/
def boundRows : List (Nat × Nat) := [(15, 5), (25, 10), (70, 20), (75, 5), (80, 5), (85, 10)]

/-- A boundary of 0 takes its scaled default, raised to the previous boundary plus the minimum phase (R53). -/
def scaledBounds (base prev : Nat) : List (Nat × Nat) → List Nat → List Nat
  | r :: rs, v :: vs =>
    let b := if v = 0 then Nat.max (r.1 * base) (prev + r.2) else v
    b :: scaledBounds base b rs vs
  | _, _ => []

/-- The cycle parameters of a CYCLE section. -/
def cycleOf (b : List Byte) : CycleConf :=
  let f (k : Nat) : Nat := Config.sectField 2 k b
  ⟨f 0, f 1, f 2, scaledBounds (f 0) 0 boundRows [f 3, f 4, f 5, f 6, f 7, f 8], f 9, f 10, f 11⟩

/-- Every boundary follows the one before by the minimum phase (R52). -/
def phasesOk (prev : Nat) : List (Nat × Nat) → List Nat → Bool
  | r :: rs, v :: vs => decide (prev + r.2 ≤ v) && phasesOk v rs vs
  | _, _ => true

/-- The rules of R54. -/
def CycleConf.ok (c : CycleConf) : Bool :=
  let fast10 := 50 * 2 ^ c.fast
  decide (1 ≤ c.base ∧ c.base ≤ 100) && decide (c.fast ≤ 2) && decide (100 * c.base % fast10 = 0) &&
    decide (100 ≤ c.base * c.slow ∧ c.base * c.slow ≤ 10000) && phasesOk 0 boundRows c.bounds &&
    decide (c.bounds.getD 4 0 + 20 ≤ 100 * c.base) && decide (c.bounds.getD 5 0 < 100 * c.base) &&
    decide (2 ≤ c.budget ∧ 2 * c.budget ≤ fast10) && decide (1 ≤ c.ovr ∧ c.ovr ≤ 16) && decide (1 ≤ c.fastOvr ∧ c.fastOvr ≤ 63)

/-- The parameters in force: those of a section that obeys R54, the defaults otherwise. -/
def cycleInForce (b : Option (List Byte)) : CycleConf :=
  match b with
  | some x => if (cycleOf x).ok then cycleOf x else .default
  | none => .default

/-- Show the cycle parameters. -/
def State.putCycle (s : State) (c : CycleConf) : State :=
  let b (i : Nat) : Nat := c.bounds.getD i 0
  let a := ((s.put F.CDR_PERIOD_BASE_MS c.base).put F.CDR_PERIOD_FAST c.fast).put F.CDR_PERIOD_SLOW_MULT c.slow
  let d := ((a.put F.CDR_OFS_A_INTAKE_CL (b 0)).put F.CDR_OFS_A_FUSION_DL (b 1)).put F.CDR_OFS_B_SOLVE_DL (b 2)
  let e := ((d.put F.CDR_OFS_B_STAGE_DL (b 3)).put F.CDR_OFS_C_OUT_OFFSET (b 4)).put F.CDR_OFS_C_SWITCH (b 5)
  ((e.put F.CDR_BUDGET_FAST_BUDGET c.budget).put F.CDR_BUDGET_OVR_LIMIT (c.ovr - 1)).put F.CDR_BUDGET_FAST_OVR_LIMIT c.fastOvr

/-- The CYCLE section follows R54 alone: a bad one sets TIMING_DEFAULTED, and EV042. -/
def State.applyCycle (s : State) (b : Option (List Byte)) : State :=
  let a := s.putCycle (cycleInForce b)
  match b with
  | some x => if (cycleOf x).ok then a else (a.setTo F.CDR_STATUS_TIMING_DEFAULTED true).bootEvents [⟨42, sevAlarm, srcCdr, 0, 0, 0⟩]
  | none => a

/-! ### Checks (R515) -/

/-- The 42 values of a PARAM section. -/
def paramWords (b : List Byte) : List Word := (List.range 42).map fun g => BitVec.ofNat 32 (fieldLe b (4 * g) 4)

/-- No thruster index is bound in both ring tables (R343). -/
def thrApart (a b : List Byte) : Bool :=
  (tblEntries b).all fun e => eThr e == 0xFF || !(a.length != 0 && (tblEntries a).any fun f => eThr f == eThr e)

/-- A section's own rules; the CYCLE section refuses nothing here, and HYPOTHESES needs a CONTROL section (R238). -/
def State.sectOk (s : State) (secs : List (Nat × List Byte)) (ty : Nat) (b : List Byte) : Bool :=
  if ty = 1 then s.sysOk b
  else if ty = 4 then b.length == 3136 && reticleOk b
  else if ty = 5 then b.length == 2112 && setOk b
  else if ty = 6 then b.length == 168 &&
    ((paramWords b).zipIdx).all fun p => parOk ((cycleInForce (sectOf secs 2)).base * 1000000) p.2 p.1.toNat
  else if ty = 7 then b.length == 2048 && planOk b
  else if ty = 8 then match sectOf secs 5 with
    | some c => b.length == 1040 && tableOk b (setThrs c)
    | none => false
  else if ty = 9 then tblOk b
  else if ty = 10 then tblOk b && thrApart ((sectOf secs 9).getD []) b
  else true

/-- The first section that is refused, a type that appears twice among them. -/
def State.badSect (s : State) (secs : List (Nat × List Byte)) : Option Nat :=
  (secs.find? fun p => decide (1 < (secs.filter fun q => q.1 == p.1).length) || !s.sectOk secs p.1 p.2).map (·.1)

/-- Why a slot is refused, as DEF_REASON and DEF_SECT; 0 where it passes.  With it, what is recorded.  MAGIC is read at the slot, however
short LENGTH makes the image. -/
def State.cfgReason (s : State) (t : Slot) (magic : Bool) : (Nat × Nat) × List BootEv :=
  if !magic then ((1, 0), [])
  else if !cfgFormatOk t.img then ((2, 0), [])
  else
    let c := s.sigCheck 3 t
    if !c.1 then ((3, 0), c.2)
    else match s.badSect (cfgSections t.img) with
      | some ty => ((4, ty), c.2)
      | none => ((0, 0), c.2)

/-- What boot finds of the configuration image. -/
structure CfgFound where
  /-- The image used, and whether it is in the second slot. -/
  img : Option (List Byte × Bool)
  /-- DEF_REASON and DEF_SECT of the first slot tried that holds an image. -/
  reason : Nat × Nat
  /-- What is recorded. -/
  evs : List BootEv
  deriving DecidableEq, Repr

/-- Try the configuration slots in order (R515). -/
def State.tryConfig (s : State) (e : List Byte) (second : Bool) (reason : Nat × Nat) : List (Option Nat × Bool) → CfgFound
  | [] => ⟨none, reason, []⟩
  | o :: os =>
    let magic : Bool := match o.1 with | some a => fieldLe (s.flashBytes a 4) 0 4 == 0x46435848 | none => false
    let r := match s.readSlot e o cfgLen with
      | some t => s.cfgReason t magic
      | none => ((if magic then 2 else 1, 0), [])
    if r.1.1 = 0 then
      match s.readSlot e o cfgLen with
      | some t => ⟨some (t.img, second), (0, 0), r.2 ++ (if second then [s.evSecond 3] else [])⟩
      | none => ⟨none, reason, []⟩
    else
      let f := s.tryConfig e true (if reason.1 ≤ 1 ∧ magic = true then r.1 else reason) os
      { f with evs := r.2 ++ f.evs }

/-- Load the configuration image. -/
def State.loadConfig (s : State) (d : List (List Byte)) : CfgFound :=
  match dirEntry d 3 with
  | none => ⟨none, (1, 0), []⟩
  | some e => s.tryConfig e false (1, 0) (slotsOf e)

/-! ### Applying it (R514, R516) -/

/-- A field of a port's register. -/
def portFld (f : Fld) (p : Nat) : Fld := f.plus (0x40 * p)

/-- MODE and AN_EN of the ports, by port, and the filter entries. -/
def State.applyEth (s : State) (b : Option (List Byte)) : State :=
  let f (k : Nat) : Nat := match b with
    | some x => Config.sectField 3 k x
    | none => if k = 4 ∨ k = 6 then 2 else 0
  let a := forEach (List.range 4) (fun p t =>
    (t.put (portFld F.ETH_Pp_CFG_MODE p) (f (2 * p))).put (portFld F.ETH_Pp_CFG_AN_EN p) (f (2 * p + 1))) s
  forEach (List.range 16) (fun k t =>
    let o (x : Fld) : Fld := x.plus (8 * k)
    (((t.put (o F.ETH_F450_CFG_EN) (f (8 + 4 * k))).put (o F.ETH_F450_CFG_PORTS) (f (9 + 4 * k))).put (o F.ETH_F450_CFG_UDP)
      (f (10 + 4 * k))).put (o F.ETH_F450_ADDR_ADDR) (f (11 + 4 * k))) a

/-- Do `f` where a section is present. -/
def State.withSect (s : State) (b : Option (List Byte)) (f : List Byte → State → State) : State :=
  match b with | some x => f x s | none => s

/-- Do `f` where a domain is on: a block without power stays disabled (R528). -/
def State.inDom (s : State) (d : Nat) (f : State → State) : State := if s.domOn d then f s else s

/-- The sections of the fusion unit, the control engine and Ephemeris; with a control set and no table Ephemeris builds one
(R238). -/
def State.applySets (s : State) (secs : List (Nat × List Byte)) : State :=
  let a := s.withSect (sectOf secs 4) fun b t => t.setReticle b
  let c := a.withSect (sectOf secs 5) fun b t => t.setActive b
  let e := c.withSect (sectOf secs 6) fun b t => (t.wrWords 0x80100 (paramWords b)).wrWords 0x80200 (paramWords b)
  (e.withSect (sectOf secs 8) fun b t => (t.setTable b).modEph fun x => { x with given := true }).ephAuto

/-- The SYSTEM section: role, group, profile and enables.  A station's fusion unit, control engine and Ephemeris are off (R357), and so are
the blocks whose RETICLE or CONTROL section is absent: `ret` and `ctl` say which are there (R516). -/
def State.applySys (s : State) (y : SysConf) (ret ctl : Bool) : State :=
  let st := s.variant == .si || y.station
  let a := { s with station := st, red := { s.red with diagRole := y.diag, ports := y.mirror } }.modBoot fun b => { b with sys := y }
  let b := ((a.put F.CHIP_PROFILE_PRESET y.preset).setTo F.CHIP_PROFILE_RISER_FOLLOW (bitAt y.features 0)).setTo
    F.CHIP_PROFILE_LEGACY_HDG (bitAt y.features 2)
  let c := b.inDom 9 fun t =>
    let t1 := (t.put F.RDN_STATUS_GRP_SIZE y.grpSize).setTo F.FUS_CTRL_ENABLE (y.fusion && !st && ret)
    let t2 := ((t1.setTo F.CTL_CTRL_ENABLE (y.control && !st && ctl)).setTo F.EPH_CTRL_ENABLE (y.ephemeris && !st && ctl)).setTo
      F.EPH_CTRL_FB_EN (y.fallbacks && !st)
    t2.setTo F.ALM_CFG_FLUSH_EN y.flush
  let d := (c.setTo F.ORY_CTRL_ENABLE y.orrery).showOry
  if st && !y.orrery then d.loseDomain 5 else d

/-- The sectors of the log region that begin with a valid header: SECTOR_SEQ and flash offset (R495). -/
def State.logSectors (s : State) (p : Nat × Nat) : List (Nat × Nat) :=
  (((List.range (p.2 / 4096)).map fun i => p.1 + 4096 * i).filter (isLogSector s.mem.flash)).map fun a =>
    (fieldLe (s.flashBytes a 12) 8 4, a)

/-- The log goes on behind its newest sector: the next record opens a new one (R495, DESIGN CHOICE, log entry 17). -/
def State.openLog (s : State) (p : Nat × Nat) : State :=
  let top := (s.logSectors p).foldl (fun (m : Option (Nat × Nat)) x =>
    match m with | some y => if y.1 < x.1 then some x else some y | none => some x) none
  s.modAlm fun a => { a with
    logRegion := some p, logSector := top.map (·.2), logSeq := (top.map (·.1)).getD 0, logFill := 127 }

/-- The REGIONS section. -/
def State.applyRegions (s : State) (b : List Byte) : State :=
  let f (k : Nat) : Nat := Config.sectField 12 k b
  let a := if f 1 = 0 || !s.inFlash (f 0) (f 1) then s else s.openLog (f 0, f 1)
  let c := if f 3 = 0 || !s.inFlash (f 2) (f 3) then a else a.modAlm fun x => { x with plateArea := some (f 2, f 3) }
  c.modBoot fun x => { x with critical := (Config.sectPairs 12 0 b).take 8 }

/-- The STATION section of station role: the station is in RESET, where its outputs are its safe state (R344). -/
def State.applyStation (s : State) (b : List Byte) : State :=
  let a := (s.put F.XL_SELF_SEGMENT (Config.sectField 13 0 b)).put F.XL_SELF_STN (Config.sectField 13 1 b)
  a.modSt fun x => { x with
    safeWords := (Config.sectPairs 13 0 b).map fun p => (p.1, BitVec.ofNat 32 p.2)
    safeLevels := (Config.sectPairs 13 1 b).map fun p => (p.1, p.2 != 0)
    outputs := (Config.sectPairs 13 0 b).map fun p => (p.1, BitVec.ofNat 32 p.2) }

/-- One pair of PRESETS, which boot writes (R568): only RW fields are written, and a register without one is skipped. -/
def State.preset (s : State) (off v : Nat) : State :=
  match regRow? off with
  | some r => if off % 4 = 0 ∧ r.rw ≠ 0 then s.regWrite .boot off (v &&& r.rw) 0 else s
  | none => s

/-- The PRESETS section, in order. -/
def State.applyPresets (s : State) (b : List Byte) : State :=
  forEach (List.range (b.length / 8)) (fun i t => t.preset (fieldLe b (8 * i) 4) (fieldLe b (8 * i + 4) 4)) s

/-- Apply the sections of an image, or the factory defaults of an absent one, to every block (R514, R516). -/
def State.applyConfig (s : State) (secs : List (Nat × List Byte)) : State :=
  let y := match sectOf secs 1 with | some b => sysOf b | none => SysConf.default (s.variant == .si)
  let a := (s.applySys y (sectOf secs 4).isSome (sectOf secs 5).isSome).inDom 9 fun t => t.applyCycle (sectOf secs 2)
  let b := a.inDom 10 fun t => t.applyEth (sectOf secs 3)
  let c := b.inDom 9 fun t => t.applySets secs
  let d := if c.station then c else c.setPlan ((sectOf secs 7).getD defaultPlan)
  let e := d.inDom 10 fun t => t.xlConfig ((sectOf secs 9).getD []) (if t.station then [] else (sectOf secs 10).getD [])
  let g := e.inDom 9 fun t => t.withSect (sectOf secs 12) fun b t => t.applyRegions b
  let h := g.inDom 10 fun t => if t.station then t.withSect (sectOf secs 13) fun b t => t.applyStation b else t
  h.withSect (sectOf secs 11) fun b t => t.applyPresets b

/-- Stage CONFIG: the image is used whole or not at all (R515, R516). -/
def State.bootConfig (s : State) (d : List (List Byte)) : State :=
  let f := s.loadConfig d
  let a := (s.put F.BOOT_STATUS_STAGE 5).bootEvents f.evs
  match f.img with
  | some i =>
    let b := (a.setTo F.BOOT_STATUS_CFG_B i.2).applyConfig (cfgSections i.1)
    (b.wrn Reg.BOOT_CFG_ID (fieldLe i.1 12 4)).inDom 9 fun t => t.wrn Reg.RDN_EPOCH (fieldLe i.1 16 4)
  | none =>
    let b := ((a.setTo F.BOOT_STATUS_CFG_DEFAULTED true).put F.BOOT_STATUS_DEF_REASON f.reason.1).put F.BOOT_STATUS_DEF_SECT f.reason.2
    (b.bootEvents [⟨1, sevAlarm, srcBoot, f.reason.1, f.reason.2, 0⟩]).applyConfig []

end Sys2Proof.Machine
end

