-- ==== Sys2Proof/Machine/Boot.lean ====
section
/-! DEFINITION. A device start: the loss and the return of main power, and boot's stages from the release of the lockout to the
wait of stage TIME (11_meridian_backup.md, R390 to R395; 16_boot_config_lifecycle.md, R510 to R518). -/

namespace Sys2Proof.Machine

/-! ### Main power (R390, R391, R527) -/

/-- The device without main power, or as a start begins: flash, Meridian with its retained SRAM, the fuses and the guard keep
what they hold, everything else is as at reset.  Device time starts from 0, and the guard's instants move with it. -/
def State.deviceOff (s : State) : State :=
  let r := State.reset
  let a : State := { r with
    variant := s.variant
    station := s.variant == .si
    regs := s.regs.filter fun e => batteryReg e.1 || e.1 / 0x10000 == 0x0B || e.1 == Reg.CHIP_VARIANT || e.1 == Reg.CHIP_ID
    mem := { s.mem with sram := [], ddr := [] }
    grd := { s.grd with
      beatAt := s.grd.beatAt - s.now, decideAt := s.grd.decideAt - s.now, degStart := s.grd.degStart.map (· - (s.now : Int))
      edsAt := s.grd.edsAt.map (· - (s.now : Int)), gtAt := s.grd.gtAt.map (· - (s.now : Int))
      released := false, degClaim := false, decided := false }
    mer := { s.mer with cleanFrom := s.mer.cleanFrom - s.now }
    pow := { Power.init with shutAt := s.pow.shutAt, refSel := s.pow.refSel }
    boot := { Boot.init with fuses := s.boot.fuses }
    ory := { r.ory with draws := s.ory.draws }
    freeCtr := s.freeCtr
    pending := s.pending }
  let b := ((a.setTo F.CHIP_PROFILE_EDS_IN_EN s.edsEn).setDom 2 s.grd.powered).put F.PWR_STATUS_RAIL_OK (8 * b2n s.grd.powered)
  (b.put F.BOOT_STATUS_LC (lcOf s.boot.fuses.blown)).grdShow

/-- The switch takes VBAT, or the domain is left without supply: the device is off. -/
def State.mainLost (s : State) (vbat : Bool) (sub : Nat) : State :=
  if s.mer.aonValid ∧ s.mer.lockout then (s.takeVbat vbat sub).deviceOff else s

/-- VBAT_SWITCH (R391): 50 µs after the warning the switch takes VBAT. -/
def execVbatSwitch (vbat : Bool) (sub : Fin 32768) (s : State) : Host.Outcome State Fault Refusal := .next (s.mainLost vbat sub.val)

/-- FAST_FALL (R391): VDD_AON falls below its valid level within the 50 µs; EV183 is raised at the next device start. -/
def execFastFall (vbat : Bool) (sub : Fin 32768) (s : State) : Host.Outcome State Fault Refusal :=
  .next (if s.mer.aonValid ∧ s.mer.lockout then
      ((s.setTo F.MER_STATUS_FAST_FALL true).modMer fun m => { m with fastFell := true }).mainLost vbat sub.val
    else s)

/-- VDD_AON rises valid and above its warning level: the switch takes it, and a device start begins under lockout (R390, R393); a domain
that had no supply powers up with it (R394).  REF_SEL is read (R555).  After a dip below the warning level alone, the level is above it
again. -/
def State.aonRise (s : State) : State :=
  if s.mer.aonValid then s.aonAbove
  else
    let a := (if s.mer.onVbat then s.deviceOff else s.deviceOff.merLost).modMer fun m => { m with
      aonValid := true, onVbat := false, lockout := true, aboveWarn := true, cleanFrom := 0 }
    (a.put F.PWR_STATUS_RAIL_OK (putBit (a.fld F.PWR_STATUS_RAIL_OK) 0 true)).setTo F.CLK_STATUS_REF_MODE s.pow.refSel

/-- VDD_AON_VALID (R390). -/
def execVddAonValid (s : State) : Host.Outcome State Fault Refusal := .next s.aonRise

/-! ### Stages ROM to GUARD (R510 to R512, R520) -/

/-- What reaches boot from outside: the straps RANK, the rails valid at stage POWER by their RAIL_OK bits, whether
the DDR trains, the guard's BIST, the instants after VDD_AON valid at which the guard image is delivered, the domains are
on, the DDR has been trained and stage TIME is reached, in ns, and SUBSEC as stage TIME reads it. -/
structure BootEnv where
  /-- RANK1 and RANK0. -/
  rank : Nat
  /-- Rails. -/
  rails : Nat
  /-- DDR training passes. -/
  ddrOk : Bool
  /-- What BIST finds in FAIL. -/
  bistFail : Nat
  /-- The guard image is delivered. -/
  guardAt : Nat
  /-- The domains are on. -/
  powerAt : Nat
  /-- DDR training ends. -/
  ddrAt : Nat
  /-- Stage TIME is reached. -/
  timeAt : Nat
  /-- SUBSEC at stage TIME. -/
  sub : Nat
  deriving DecidableEq, Repr

/-- What Meridian has for the supervisor to record (R395, R411). -/
def State.merRecords (s : State) : List BootEv :=
  (if s.mer.wasOnVbat then [⟨176, sevNotice, srcMer, s.rdn Reg.MER_SW_DATE, s.rdn Reg.MER_SW_TIME, 0⟩] else []) ++
    (if s.on F.MER_STATUS_TIME_LOST then [⟨177, sevAlarm, srcMer, 0, 0, 0⟩] else []) ++
    (if s.mer.fastFell then [⟨183, sevWarn, srcMer, 0, 0, 0⟩] else []) ++ s.mer.kept.map fun e => ⟨e.1, e.2.1, srcMer, e.2.2, 0, 0⟩

/-- Stage ROM: WAKE_SRC and LAST_REASON show, and the fuses are read. -/
def State.bootRom (s : State) : State :=
  let a := (s.put F.MER_STATUS_WAKE_SRC s.mer.wake).put F.MER_STATUS_LAST_REASON s.mer.reason
  let b := a.modMer fun m => { m with wake := 0, wasOnVbat := false, fastFell := false, kept := [] }
  let lc := lcOf s.boot.fuses.blown
  let c := (b.put F.BOOT_STATUS_LC lc).setTo F.BOOT_STATUS_SIG_ENFORCED (lc != 0)
  let d := (c.put F.BOOT_KEYS_REVOKED s.boot.fuses.revoked).put F.BOOT_KEYS_PRESENT s.boot.fuses.present
  (d.wr Reg.BOOT_LC_NONCE (Config.nonce s.freeCtr)).nextFree

/-- The guard enters NO_IMAGE at HALT (R512): one that holds an image gives it up, and one in LOAD runs into its limit (R265). -/
def State.guardHalt (s : State) : State :=
  if s.grd.powered ∧ s.gstate ≠ gLoad ∧ s.gstate ≠ gFault ∧ s.gstate ≠ gNoImage then s.grdGo gNoImage else s

/-- HALT: only PD_AON, PD_BKP and PD_GUARD are powered, and the guard enters NO_IMAGE (R512). -/
def State.bootHalt (s : State) : State :=
  (downOrder.foldl State.loseDomain s.guardHalt).put F.BOOT_STATUS_STAGE 0xF

/-- Stage GUARD: the image is delivered to the guard's load port (R511). -/
def State.bootGuard (s : State) (e : BootEnv) (r : Option (List Byte × Bool)) : State :=
  match r with
  | none => s
  | some i =>
    let a := (s.runTo e.guardAt).setTo F.BOOT_STATUS_GRD_B i.2
    (a.putSat F.BOOT_DUR_GUARD (((a.now : Int) - a.boot.zero).toNat / 10000)).grdTake i.1 e.bistFail

/-! ### Stage POWER (R528, R529) -/

/-- The rails that feed a domain. -/
def domRails (d : Nat) : List Nat :=
  match d with
  | 9 => [1]
  | 11 => [8, 1]
  | 10 => [6, 7]
  | 4 => [1]
  | 3 => [1]
  | _ => [2]

/-- The domains in the order of R529, without those fused off (R2). -/
def bootOrder (v : Variant) : List Nat :=
  match v with
  | .ci => [9, 11, 10, 4, 3, 5, 6, 7, 8]
  | .si => [9, 10, 4, 5]

/-- RAIL_OK as the power controller finds it. -/
def State.railsFound (s : State) (e : BootEnv) : Nat := putBit (putBit e.rails 0 true) 3 s.grd.powered

/-- EV016 of the rails found invalid. -/
def invalidRails (m : Nat) : List BootEv :=
  ((List.range 9).filter fun r => !bitAt m r).map fun r => ⟨16, sevAlarm, srcPow, r, 0, 0⟩

/-- Stage POWER: the PLLs lock, the main PLL with its spread, and the domains whose rails are valid are on. -/
def State.bootPower (s : State) (e : BootEnv) : State :=
  let m := s.railsFound e
  let a := ((s.runTo e.powerAt).put F.BOOT_STATUS_STAGE 3).put F.PWR_STATUS_RAIL_OK m
  let b := (((a.setTo F.CLK_STATUS_REF_OK true).setTo F.CLK_STATUS_MAIN_LOCK true).setTo F.CLK_STATUS_TIME_LOCK true).setTo
    F.CLK_STATUS_SSC_ACTIVE (decide (0 < a.pow.newDepth))
  let c := (bootOrder s.variant).foldl (fun t d => if (domRails d).all (bitAt m) then t.setDom d true else t) b
  (c.grdShow.inDom 9 fun t => t.put F.RDN_STATUS_RANK e.rank).inDom 10 fun t => t.wr64 Reg.XL_UID_LO Reg.XL_UID_HI s.boot.fuses.uid

/-- The SAFETY record of a thermal shut-down is written again, with its time (R542); a lost retained area holds none. -/
def State.shutRecord (s : State) : List BootEv :=
  match s.pow.shutAt with
  | some t => if s.on F.MER_STATUS_TIME_LOST then [] else [⟨21, sevSafety, srcThm, t % 2 ^ 32, t / 2 ^ 32, 0⟩]
  | none => []

/-! ### Stages FIRMWARE to TIME (R510, R517, R518) -/

/-- Stage FIRMWARE: the application cluster runs. -/
def State.bootFirmware (s : State) (d : List (List Byte)) : State :=
  let a := s.put F.BOOT_STATUS_STAGE 6
  if s.variant = .si ∨ !s.domOn 3 then a
  else
    let r := s.loadFirmware d 2
    let b := a.bootEvents r.2
    match r.1 with
    | some i => (b.setTo F.BOOT_STATUS_APP_B i.2).modBoot fun x => { x with appRuns := true }
    | none => b

/-- NEXT_START of the boot record. -/
def State.nextStart (s : State) : Nat := leNat (s.retRead 0x3040 1) % 4

/-- The start type: NEXT_START of the boot record, else START_DEFAULT; TIME_LOST forces cold (R89, R517). -/
def State.startCold (s : State) (next : Nat) : Bool :=
  s.on F.MER_STATUS_TIME_LOST ||
    (match next with
      | 1 => true
      | 2 => false
      | _ => s.boot.sys.cold)

/-- Boot clears the boot record once it has been read. -/
def State.clearBootRecord (s : State) : State := s.retPut 0x3040 (List.replicate 64 0)

/-- Stage PROGRAM: the image goes into the active halves, and the start waits for the first INTAKE_CL (R519).  `next` is the NEXT_START
that the boot record held when the device started. -/
def State.bootProgram (s : State) (d : List (List Byte)) (next : Nat) : State :=
  let cold := s.startCold next
  let a := s.put F.BOOT_STATUS_STAGE 7
  if !s.domOn 4 then a
  else
    let r := s.loadProgram d
    let b := a.bootEvents r.2
    match r.1 with
    | some i =>
      let c := ((b.setTo F.BOOT_STATUS_FB_B i.2).wrn Reg.CDR_PROG_ID (iProg i.1)).wrn Reg.CDR_PROG_VER (iVer i.1)
      (c.setHalf ⟨i.1, [], []⟩).modCdr fun x => { x with waiting := some ⟨cold, 0⟩ }
    | none => (b.setTo F.BOOT_STATUS_PROG_MISSING true).bootEvents [⟨6, sevAlarm, srcBoot, b.now % 2 ^ 32, b.now / 2 ^ 32, 0⟩]

/-- The calendar as device time: UTC seconds since 1970 plus MER_TAI_UTC, and SUBSEC × 30,517.578 ns. -/
def State.calendarNs (s : State) : Int :=
  let c := s.cal
  let secs := (10957 + dayNumber c.year c.month c.day) * 86400 + c.hour * 3600 + c.min * 60 + c.sec
  ((secs : Int) + sgn 16 (s.fld F.MER_TAI_UTC_OFS)) * 1000000000 + ((s.fld F.MER_SUBSEC_SUBSEC * 30517578 + 500) / 1000 : Nat)

/-- Step 1 of stage TIME: device time is seeded from the calendar; without PD_SER there is no time base to seed (R528). -/
def State.seedTime (s : State) (sub : Nat) : State :=
  if s.on F.MER_STATUS_TIME_LOST || !s.domOn 10 then s
  else
    let a := s.merTo sub
    (a.applyStep (a.calendarNs - a.now)).setTo F.BOOT_STATUS_TIME_SEEDED true

/-- Stage TIME: the wait of step 2 begins; in station role it is skipped. -/
def State.bootTime (s : State) (e : BootEnv) : State :=
  let a := s.runTo e.timeAt
  if a.station then a.gridStart
  else
    let b := (a.put F.BOOT_STATUS_STAGE 8).seedTime e.sub
    let c := b.modBoot fun x => { x with waitFrom := some b.now }
    if c.on F.BOOT_CTRL_TIME_READY then c.gridStart else c

/-- Stages CONFIG to TIME.  The boot record is read and cleared first: a NEXT_START that PRESETS write is one for the start after this
(R517; log entry 20). -/
def State.bootLate (s : State) (d : List (List Byte)) (e : BootEnv) : State :=
  let a := (s.clearBootRecord.bootConfig d).inDom 9 State.plateRestore
  ((a.bootFirmware d).bootProgram d s.nextStart).bootTime e

/-- Stages POWER and DDR, and what follows; `evs` is what boot has met before. -/
def State.bootMain (s : State) (d : List (List Byte)) (e : BootEnv) (evs : List BootEv) : State :=
  let a := s.bootPower e
  let b := (a.bootEvents (evs ++ s.shutRecord ++ invalidRails (s.railsFound e))).modPow fun p => { p with shutAt := none }
  let c := if b.domOn 11 then (b.put F.BOOT_STATUS_STAGE 4).runTo e.ddrAt else b
  if b.domOn 11 ∧ !e.ddrOk then c.bootHalt else c.bootLate d e

/-- Boot from the release of the lockout on (R510).  A DECOMMISSIONED device stops after stage ROM (R521). -/
def State.bootRun (s : State) (e : BootEnv) : State :=
  let m := s.merRecords
  let a := s.bootRom
  if a.lc = 4 then a.bootHalt
  else match a.directory with
    | none => a.bootHalt
    | some (d, copy) =>
      let b := a.setTo F.BOOT_STATUS_DIR_1 (copy == 1)
      let sup := b.loadFirmware d 1
      match sup.1 with
      | none => b.bootHalt
      | some i =>
        let g := b.loadGuard d
        let c := ((b.setTo F.BOOT_STATUS_SUP_B i.2).put F.BOOT_STATUS_STAGE 2).bootGuard e g.1
        c.bootMain d e (m ++ (if copy = 1 then [b.evSecond 0] else []) ++ sup.2 ++ g.2)

/-- LOCKOUT_RELEASE: VDD_AON has been valid and above its warning level for 2 ms without a break.  Boot proceeds where a start waits for it; a lockout that a short dip of
VDD_AON asserted only ends (R393). -/
def State.lockoutRelease (s : State) (e : BootEnv) : State :=
  if !s.mer.aonValid || !s.mer.aboveWarn || !s.mer.lockout then s
  else
    let a := ((s.runTo (s.mer.cleanFrom + 2000000)).modMer fun m => { m with lockout := false }).resumeCopy
    if a.fld F.BOOT_STATUS_STAGE = 0 ∧ !a.svDead then ((a.bootRun e).afterGuard a).drainDone else a

/-- LOCKOUT_RELEASE (R393, R510). -/
def execLockoutRelease (rank : Fin 4) (rails : Fin 512) (ddrOk : Bool) (bistFail : Byte) (guardAt powerAt ddrAt timeAt : Nat)
    (sub : Fin 32768) (s : State) : Host.Outcome State Fault Refusal :=
  .next (s.lockoutRelease ⟨rank.val, rails.val, ddrOk, bistFail.toNat, guardAt, powerAt, ddrAt, timeAt, sub.val⟩)

end Sys2Proof.Machine
end

