-- ==== Sys2Proof/Machine/Cycle.lean ====
section
/-! DEFINITION. The cycle sequencer: the phase boundaries of the base cycle and the fast tick (R23 to R28, R49, R51), with
what every block does at them. -/

namespace Sys2Proof.Machine

/-! ### What the cores read (R59, R70 to R72, R75, R359, R433, R457) -/

/-- Byte `i` of a block of pairs of words. -/
def pairByte (ps : List (Word × Word)) (i : Nat) : Byte :=
  match ps[i / 8]? with
  | some p => ((bytesOf [p.1, p.2])[i % 8]?).getD 0
  | none => 0

/-- Byte `i` of the frozen input image of a ring: 256 status words, then 16 payload areas of 1,536 bytes (R359). -/
def XlRing.imageByte (x : XlRing) (i : Nat) : Byte :=
  let word (n : Nat) : Word := ((x.imageStatus.find? (·.1 == n)).map (·.2)).getD 0
  if i < 1024 then ((leBytes 4 (word (i / 4)).toNat)[i % 4]?).getD 0
  else
    let area := ((x.imageData.find? (·.1 == (i - 1024) / 1536)).map (·.2)).getD []
    (area[(i - 1024) % 1536]?).getD 0

/-- Bytes of a ring's input image (R359). -/
def imageLen : Nat := 1024 + 16 * 1536

/-- The byte a core reads at a core address: its own code and data halves (R70), the input images of a controller's rings (R359), the
counts of R75, the exchange area (R72), the staging buffer (R59), and on core 1 the latches of the last fast tick. -/
def State.coreByte (s : State) (core a : Nat) : Byte :=
  if 0x10000000 ≤ a ∧ a < 0x10040000 then sget ramByte (s.half.code core) (a - 0x10000000)
  else if 0x20000000 ≤ a ∧ a < 0x20080000 then sget ramByte (s.half.data core) (a - 0x20000000)
  else if !s.station ∧ 0x30000000 ≤ a ∧ a < 0x30000000 + imageLen then (s.xring 0).imageByte (a - 0x30000000)
  else if !s.station ∧ 0x30010000 ≤ a ∧ a < 0x30010000 + imageLen then (s.xring 1).imageByte (a - 0x30010000)
  else if 0x2FFFF000 ≤ a ∧ a < 0x2FFFF018 then ((leBytes 8 (s.coreTime core (a / 8 * 8)))[a % 8]?).getD 0
  else if core = 1 ∧ 0x2FFFE800 ≤ a ∧ a < 0x2FFFEA00 then pairByte s.dio.fast (a - 0x2FFFE800)
  else if core = 1 ∧ 0x2FFFEA00 ≤ a ∧ a < 0x2FFFEB00 then pairByte (s.sdf.map (·.fast)) (a - 0x2FFFEA00)
  else if Config.exchangeBase ≤ a ∧ a < Config.exchangeBase + 4096 then sget ramByte s.cdr.exRead (a - Config.exchangeBase)
  else if Config.stagingBase ≤ a ∧ a < Config.stagingBase + 8192 then
    ((leBytes 4 (sget (fun _ => (0 : Word)) s.cdr.buf ((a - Config.stagingBase) / 4)).toNat)[(a - Config.stagingBase) % 4]?).getD 0
  else 0

/-! ### The sample instant (R23, R34, R49, R74, R78, R95) -/

/-- CYC of the first cycle, 64 bits (R20, R34, R95): from the active member's last record, or the greater of device time over T_base and
the newest Meridian copy's CYC plus 1. -/
def State.firstCyc (s : State) (t : Nat) : Nat :=
  match s.red.last with
  | some r => (r.cyc + (t / s.tbase - s.red.lastAt / s.tbase)) % 2 ^ 64
  | none => Nat.max (t / s.tbase) ((s.newestCopy.map fun c => (fieldLe c 8 8 + 1) % 2 ^ 64).getD 0)

/-- CYC of the cycle that begins: one more than the last; a station takes it from the CYCLE frame (R336). -/
def State.newCyc (s : State) (t : Nat) : Nat :=
  let own := if s.cdr.grid then (s.cdr.cyc + 1) % 2 ^ 64 else s.firstCyc t
  if s.station then s.xl.stn.cyc.getD own else own

/-- CYC, PT and CDR_PT_ADJ of a state record whose values differed take over, one base cycle on (R306): EV136.  The cycles
whose CYCLE frames have been launched and those that steps wait for are counted on from there (R373). -/
def State.resyncNow (s : State) : State :=
  match s.red.resync with
  | none => s
  | some (c, p, a) =>
    let k : Int := ((c + 1) % 2 ^ 64 : Nat) - (s.cdr.cyc : Int)
    let b := (s.modCdr fun d => { d with cyc := (c + 1) % 2 ^ 64, pt := (p + s.tbase) % 2 ^ 64, ptAdj := a }).modTb fun t =>
      { t with launched := movedBy k t.launched, steps := t.steps.map fun x => (x.1, movedBy k x.2) }
    ((b.modRed fun r => { r with resync := none, resynced := true }).setTo F.RDN_STATUS_CYC_RESYNC true).raise 136 sevInfo srcRdn

/-- The RW registers whose values take effect at the sample instant: fusion unit, control engine, Ephemeris and redundancy
manager. -/
def State.takeEffect (s : State) : State :=
  { s with eff := s.regs.filter fun e => [0x06, 0x08, 0x09, 0x0A].contains (e.1 / 0x10000) }

/-- The clock of the new cycle: CYC, PT, the sample instant; a time step of this cycle applies here (R74, R78, R373).  The
exchange area swaps (R72), and a cycle that ended without overrun sets the consecutive count back to 0 (R84). -/
def State.beginCycle (u : State) (t : Nat) : State :=
  let s := if u.cdr.grid && !u.cdr.ovr then u.put F.CDR_STATUS_OVR_RUN 0 else u
  let n := s.newCyc t
  let st := s.takeStep n
  let t1 := code 64 ((t : Int) + st.1)
  let c0 := st.2.modCdr fun c => { c with cyc := n, t0 := t1 }
  let b := if st.1 = 0 then c0 else c0.applyStep st.1
  let adj := if s.cdr.grid then s.cdr.ptAdj + st.1 else 0
  (b.modCdr fun c => { c with
    ptAdj := adj, pt := code 64 ((t1 : Int) - adj), grid := true, ticks := 0, preDone := false, postDone := false
    skip := false, prevOvr := c.ovr, ovr := false, exchange := !c.exchange, exRead := c.exWrite }).resyncNow

/-- A section begins: its entry is a field of the image's header (R55, R62, R75). -/
def State.beginSection (s : State) (entry : Nat) : Section := ⟨true, s.now, s.cdr.cyc, s.cdr.pt, iEntry s.half.image entry⟩

/-- A slow cycle begins with every cycle whose CYC is a multiple of SLOW_MULT; one that still runs is skipped (R49, R83).  After a
start or restart it waits for the first PRE, as FAST does. -/
def State.slowStart (s : State) : State :=
  if s.cdr.stopped || s.fld F.CDR_STATUS_STATE != 3 || s.cdr.cyc % s.fld F.CDR_PERIOD_SLOW_MULT != 0 then s
  else if s.cdr.slow.running then
    ((s.setTo F.CDR_STATUS_SLOW_OVR true).bump F.CDR_OVR_CNT_SLOW 1).raise 35 sevInfo srcCdr
  else s.modCdr fun c => { c with slow := s.beginSection 84 }

/-- At the first sample instant boot ends, the time base locks (R372), and RSTATE leaves INIT (R292, R518, R519). -/
def State.bootDone (s : State) : State :=
  let a := ((s.put F.BOOT_STATUS_STAGE 9).putSat F.BOOT_DUR_DONE (((s.now : Int) - s.boot.zero).toNat / 1000000)).setTo
    F.BOOT_CTRL_TIME_READY false
  let c := ((a.put F.PTP_STATUS_TB_STATE 1).raise 165 sevNotice srcPtp)
  let b := if s.station then c
    else if s.red.diagRole || decide (s.grpSize ≤ s.rank) then c.setRstate rDiagnostic else (c.setRstate rStandby).standbyEntered
  b.raise1 0 sevNotice srcBoot (b.rdn Reg.BOOT_STATUS)

/-- What the blocks latch and check at the sample instant. -/
def State.cycleBlocks (s : State) : State :=
  let a := (s.takeEffect.dioSettle.dioLatch.sdfLatch.tempLatch).modOry fun o => { o with
    released := [], solveRel := satN 50 (s.fld F.ORY_CTRL_SOLVE_REL) }
  let b := (a.modEph fun e => { e with fresh := false }).ctlCycle.planCheck
  let c := b.setCheck.paramCheck.tableCheck.reticleCheck.datumApply.fusSample
  c.pinTriggers.colDone.colArm.throttleStep.quadSwitch.spreadChange.refComp.lockedRate

/-- SAMPLE_INSTANT (R23): a new cycle begins. -/
def State.sampleInstant (s : State) : State :=
  match s.nextSample with
  | none => s
  | some t =>
    let first := !s.cdr.grid
    let a := (s.runTo t).closeWindow.beginCycle t
    let b := (a.modXl fun x => { x with
      launched := false, rings := x.rings.map (fun r => { r with passing := [] }), stn := { x.stn with cyc := none } }).modGrd fun g =>
        { g with released := false, decided := false }
    let c := if first then b.cycleBlocks.bootDone else b.cycleBlocks
    c.rdnSample.slowStart.drainDone

/-- SAMPLE_INSTANT. -/
def execSampleInstant (s : State) : Host.Outcome State Fault Refusal := .next s.sampleInstant

/-- Let device time run to a boundary of the cycle. -/
def State.toBoundary (s : State) (f : Fld) : State := s.runTo (s.at f)

/-! ### INTAKE_CL (R51, R83, R89, R92, R93) -/

/-- The mirrored retained granules go into the data halves of a program of the same identity (R306). -/
def State.restoreMirrored (s : State) : State :=
  let c := s.red.retained
  let a := s.modRed fun r => { r with retained := [] }
  if c ≠ [] ∧ fieldLe c 0 4 = iProg s.half.image ∧ fieldLe c 4 4 = iVer s.half.image then a.setHalf (putGranules a.half (c.drop 32)) else a

/-- PRE starts, unless a section of the last cycle still runs (R55, R83). -/
def State.preStart (s : State) : State :=
  if s.cdr.post.running then
    ((s.modCdr fun c => { c with skip := true }).setTo F.CDR_STATUS_POST_LATE true).overrun
  else if s.cdr.pre.running then s.preLate.cycleFault 3
  else (s.modCdr fun c => { c with pre := s.beginSection 64, sig := 0, written := [] }).put F.CDR_STATUS_STATE 3

/-- A restart that waits may begin: no rollback goes before it, and there is an image. -/
def State.mayRestart (s : State) : Option Restart :=
  if s.cdr.rollback.isSome || s.half.image.isEmpty then none else s.cdr.waiting

/-- The program at INTAKE_CL: STOP, a restart, or PRE; no core starts once Plate capture has stopped them (R499). -/
def State.programIntake (s : State) : State :=
  if s.alm.frozen then s
  else if s.on F.CDR_CTRL_STOP then
    if s.cdr.stopped && s.cdr.initLeft.isEmpty then s else s.stopCores
  else match s.mayRestart, s.cdr.startAt with
    | some r, _ => s.restartBegin r
    | none, some t => if s.cdr.stopped || decide (s.now < t) then s else s.preStart
    | none, none => s

/-- INTAKE_CL (R51): the intake closes, the stations are judged, and PRE starts. -/
def State.intakeClose (s : State) : State :=
  if !s.cdr.grid then s
  else
    let a := (s.toBoundary F.CDR_OFS_A_INTAKE_CL).restoreMirrored
    let b := if a.station then a
      else
        let c := a.stationViews
        let lost := c.thrWithView 4
        let back := c.thrWithView 2
        (c.ringTriggers lost.contains back.contains).fusIntakeCl
    b.programIntake.drainDone

/-- INTAKE_CL. -/
def execIntakeCl (s : State) : Host.Outcome State Fault Refusal := .next s.intakeClose

/-! ### FUSION_DL and SOLVE_DL (R51, R58, R60, R195) -/

/-- The blocks PRE wrote are taken where it finished in time, otherwise those of the last PRE that did stay (R58). -/
def State.takeBlocks (s : State) : State :=
  if s.cdr.preDone then s.modCdr fun c => { c with cmdTaken := c.cmdNew, inpTaken := c.inpNew }
  else if s.cdr.pre.running then s.preLate
  else s

/-- FUSION_DL (R51). -/
def State.fusionDeadline (s : State) : State :=
  if !s.cdr.grid then s
  else
    let a := s.toBoundary F.CDR_OFS_A_FUSION_DL
    if s.station then a.takeBlocks else 
      let b := a.fusDeadline.takeBlocks.ephFusion
      (b.ctlFusion b.fbComes).lapPost.drainDone

/-- FUSION_DL. -/
def execFusionDl (s : State) : Host.Outcome State Fault Refusal := .next s.fusionDeadline

/-- Thrusters whose sector differs between two states. -/
def State.sectMoves (a b : State) : List Nat :=
  (b.thrs.filter fun t => t.isAz && a.sector t.idx != b.sector t.idx).map (·.idx)

/-- PRIMARY_POST (R195): 12 µs after FUSION_DL the primary job and the scenario jobs are posted; the
scenarios get the sector records of every change, those of a rebuilt primary structure among them (R242). -/
def State.postJobs (s : State) : State :=
  if !s.cdr.grid || s.station then s
  else
    let a := s.runTo s.postAt
    let b := a.primaryPost
    (b.scnPost (a.ctl.sectDue ++ a.sectMoves b) a.ctl.polyDue).drainDone

/-- PRIMARY_POST. -/
def execPrimaryPost (s : State) : Host.Outcome State Fault Refusal := .next s.postJobs

/-- The staging buffer of the cycle: a copy of the last staged set; on a standby words 0 to 55 are the active unit's (R60,
R307), in station role with the words of the slot received before it (R358). -/
def State.openBuffer (s : State) : State :=
  let base := match s.red.base with
    | none => s.cdr.staged
    | some w => (List.range 56).foldl (fun m i => sset (fun _ => (0 : Word)) m i (setWord w i)) s.cdr.staged
  (s.modCdr fun c => { c with buf := base, stageOpen := true }).slotIntoBuf

/-- The control engine and Ephemeris write their regions (R199, R226, R259). -/
def State.writeRegions (s : State) : State :=
  let e := s.lapMissed.ephSolve
  ((e.1.controlRegion e.2.1).ephWords e.2.1.isSome e.2.2.1 e.2.2.2).colCapture e.2.1.isSome

/-- POST starts where PRE of the cycle has finished (R55, R83). -/
def State.postStart (s : State) : State :=
  if s.cdr.pre.running && s.cdr.pre.cyc == s.cdr.cyc then (s.setTo F.CDR_STATUS_PRE_LATE true).overrun
  else if s.cdr.preDone && !s.cdr.skip && !s.cdr.stopped then s.modCdr fun c => { c with post := s.beginSection 68 }
  else s

/-- SOLVE_DL (R51). -/
def State.solveDeadline (s : State) : State :=
  if !s.cdr.grid then s
  else
    let a := (s.toBoundary F.CDR_OFS_B_SOLVE_DL).openBuffer
    (if s.station then a else a.writeRegions).postStart

/-- SOLVE_DL. -/
def execSolveDl (s : State) : Host.Outcome State Fault Refusal := .next s.solveDeadline

/-! ### STAGE_DL (R60, R83, R87, R88) -/

/-- The heartbeat word (R87). -/
def State.beatWord (s : State) (sigOk : Bool) : Nat :=
  let cyc := s.cdr.cyc
  (if cyc % 2 = 0 then 0xA5 else 0x5A) * 2 ^ 24 + cyc % 256 * 2 ^ 16 + b2n sigOk * 2 ^ 15 + b2n s.cdr.prevOvr * 2 ^ 14 +
    s.fld F.CDR_STATUS_ACTIVE_HALF * 2 ^ 13 + satN 4095 s.cdr.written.length

/-- The staged set gives the τ_0 that bounds the next one, where its SOURCE is primary or fallback (R214). -/
def State.keepTau (s : State) : State :=
  let w := sget (fun _ => (0 : Word)) s.cdr.staged
  let src := (w 1).toNat / 2 ^ 28
  if s.on F.CTL_CTRL_ENABLE ∧ (src = srcPrimary ∨ src = srcFallback) then
    s.modCtl fun c => { c with tau0 := (List.range 3).map fun k => f32to64 (w (2 + k)).toNat }
  else s

/-- The buffer becomes the staged set of the cycle, and the heartbeat word is formed (R60, R87, R88, R214). -/
def State.stageSet (s : State) : State :=
  let want := iSig s.half.image
  let ok := s.cdr.sig == want
  let a := (s.modCdr fun c => { c with
    staged := c.buf, stagedCyc := some c.cyc, trial := if s.ocState = 4 ∧ ok then c.trial + 1 else c.trial }).wrn Reg.CDR_HB_LAST
    (s.beatWord ok)
  let b := (a.put F.CDR_STATUS_OVR_RUN 0).keepTau
  if ok then b else ((b.setTo F.CDR_STATUS_SIG_FAIL true).raise2 36 sevAlarm srcCdr s.cdr.sig want).autoBack .auto

/-- The staging buffer freezes (R60, R83). -/
def State.freezeSet (s : State) : State :=
  let a := s.modCdr fun c => { c with stageOpen := false, stageTime := s.now }
  if a.cdr.post.running then (a.setTo F.CDR_STATUS_POST_LATE true).overrun
  else if a.cdr.postDone then a.stageSet
  else a

/-- STAGE_DL of a controller (R51): the set freezes, and the redundancy manager samples the lines and sends its compare
record; an ACTIVE unit's, which shows what its guard decides, goes out after that (R303, R304). -/
def State.stageDeadline (s : State) (l : Lines) : State :=
  if !s.cdr.grid || s.station then s
  else
    let f := ((s.toBoundary F.CDR_OFS_B_STAGE_DL).freezeSet).showLines l
    let a := f.partnerSeen !(f.claimedBy l).isEmpty
    let b := a.modRed fun r => { r with
      lines := (l.own, l.in0, l.in1), activeAtStage := a.isActive, base := if a.isActive then none else r.base }
    (if b.isActive then b.refit else b.refit.compareSend).stagedShow

/-- STAGE_DL. -/
def execStageDl (lines : Lines) (s : State) : Host.Outcome State Fault Refusal := .next (s.stageDeadline lines)

/-- STATION_STAGE_DL (R358): 50 µs before OUT_OFFSET a station's set freezes, with the station's CYC in word 0, which its
control engine does not write (log entry 32). -/
def State.stationStage (s : State) : State :=
  if !s.cdr.grid || !s.station then s
  else ((s.runTo (s.at F.CDR_OFS_C_OUT_OFFSET - 50000)).bufWords 0 [w32 s.cdr.cyc]).freezeSet

/-- STATION_STAGE_DL. -/
def execStationStageDl (s : State) : Host.Outcome State Fault Refusal := .next s.stationStage

/-! ### OUT_OFFSET and SWITCH (R27, R51) -/

/-- A released and launched set applies at the output instant, its discrete outputs among them (R27, R293, R434). -/
def State.applyOutputs (s : State) : State :=
  if s.grd.released && s.xl.launched && !s.station then (s.modCdr fun c => { c with applied := c.staged }).applyStagedDio s.cdr.staged
  else s

/-- OUT_OFFSET (R27): the output instant, and the housekeeping phase; `refOk` says that a FIT partner reports no
REF_DEGRADED (R315). -/
def State.outputInstant (s : State) (refOk : Bool) : State :=
  if !s.cdr.grid then s
  else
    let a := (s.toBoundary F.CDR_OFS_C_OUT_OFFSET).ephOut.applyOutputs.copyRetained.almFlush
    (a.mgmtSend.portUnwrap.handDecide refOk).stateSend

/-- OUT_OFFSET. -/
def execOutOffset (refOk : Bool) (s : State) : Host.Outcome State Fault Refusal := .next (s.outputInstant refOk)

/-- SWITCH (R51): a rehearsal ends, the switch window opens, a handover or DIAG takes effect; `mig` is what the cores'
routines write where the migration completes inside the window. -/
def State.switchBoundary (s : State) (mig : Option (List (Nat × Byte) × List (Nat × Byte))) : State :=
  if !s.cdr.grid then s else (((s.toBoundary F.CDR_OFS_C_SWITCH).rehFinish).windowAt mig).roleSwitch

/-- SWITCH_BOUNDARY. -/
def execSwitchBoundary (mig : Option (List (Nat × Byte) × List (Nat × Byte))) (s : State) : Host.Outcome State Fault Refusal :=
  .next (s.switchBoundary mig)

/-! ### Fast ticks (R49, R56, R75, R83) -/

/-- FAST starts, or is skipped while the last one runs.  The hold of the servo outputs is the late run's, and ends with it, also where
a cycle fault stopped that run (R83).  After a start or restart FAST and SLOW wait until PRE has started, the one
start R92 and R93 name (DESIGN CHOICE, log entry 28). -/
def State.fastStart (s : State) : State :=
  if s.cdr.stopped || s.fld F.CDR_STATUS_STATE != 3 then s
  else if s.cdr.fast.running then
    (((s.setTo F.CDR_STATUS_FAST_OVR true).bump F.CDR_OVR_CNT_FAST 1).modCdr fun c => { c with fastSkips := c.fastSkips + 1 }).raise
      34 sevWarn srcCdr
  else s.modCdr fun c => { c with fast := s.beginSection 80, fastSkips := 0, servoHeld := false }

/-- The releases of FAST plan entries begin anew (R189). -/
def State.fastReleases (s : State) : State :=
  s.modOry fun o => { o with released := o.released.filter fun k => !((s.plan.find? (·.1 == k)).map (·.2.fast)).getD false }

/-- FAST_TICK (R49): the first falls at the sample instant, the others every T_fast after it. -/
def State.fastTick (s : State) : State :=
  if !s.cdr.grid || decide (s.tbase ≤ s.cdr.ticks * s.fastNs) then s
  else
    let t := s.tickAt
    let a := s.runTo t
    let b := (if a.windowOpen then a.closeWindow else a).modCdr fun c => { c with
      ticks := c.ticks + 1, fastPt := if c.fast.running then c.fastPt else code 64 ((t : Int) - c.ptAdj) }
    let c := b.dioFastLatch.sdfFastLatch.fastReleases
    (if s.station then c else c.insTick t).fastStart

/-- FAST_TICK. -/
def execFastTick (s : State) : Host.Outcome State Fault Refusal := .next s.fastTick

/-- FAST_BUDGET_EXPIRY (R83): FAST runs past FAST_BUDGET. -/
def State.fastBudgetOver (s : State) : State :=
  if s.cdr.fast.running then
    let a := s.runTo (s.cdr.fast.start + s.fastBudget * 1000)
    ((a.setTo F.CDR_STATUS_FAST_OVR true).modCdr fun c => { c with servoHeld := true }).raise 34 sevWarn srcCdr
  else s

/-- FAST_BUDGET_EXPIRY. -/
def execFastBudgetExpiry (s : State) : Host.Outcome State Fault Refusal := s.gate 9 <| .next s.fastBudgetOver

end Sys2Proof.Machine
end

