-- ==== Sys2Proof/Machine/Dispatch.lean ====
section
/-! DEFINITION. The dispatch of a command to its meaning: one arm per row of spec/opcode_table.json. -/

namespace Sys2Proof.Machine

/-- The effect of a command on everything but the queue. -/
def exec (i : Instr) (s : State) : Host.Outcome State Fault Refusal :=
  match i with
  | .registerWrite req bar off size v hwSet => Sys2Proof.Machine.execRegisterWrite req bar off size v hwSet s
  | .readClear req bar off size => Sys2Proof.Machine.execReadClear req bar off size s
  | .debugModuleAccess port a write => Sys2Proof.Machine.execDebugModuleAccess port a write s
  | .sampleInstant => Sys2Proof.Machine.execSampleInstant s
  | .intakeCl => Sys2Proof.Machine.execIntakeCl s
  | .fusionDl => Sys2Proof.Machine.execFusionDl s
  | .primaryPost => Sys2Proof.Machine.execPrimaryPost s
  | .solveDl => Sys2Proof.Machine.execSolveDl s
  | .stageDl lines => Sys2Proof.Machine.execStageDl lines s
  | .outOffset refOk => Sys2Proof.Machine.execOutOffset refOk s
  | .switchBoundary mig => Sys2Proof.Machine.execSwitchBoundary mig s
  | .switchWindowClose => Sys2Proof.Machine.execSwitchWindowClose s
  | .fastTick => Sys2Proof.Machine.execFastTick s
  | .fastBudgetExpiry => Sys2Proof.Machine.execFastBudgetExpiry s
  | .sectionEnd sec stores => Sys2Proof.Machine.execSectionEnd sec stores s
  | .sectionWatchdog sec => Sys2Proof.Machine.execSectionWatchdog sec s
  | .coreFault kind => Sys2Proof.Machine.execCoreFault kind s
  | .eccCorrected => Sys2Proof.Machine.execEccCorrected s
  | .ovrLimit => Sys2Proof.Machine.execOvrLimit s
  | .fastOvrLimit => Sys2Proof.Machine.execFastOvrLimit s
  | .initEntryDone core stores => Sys2Proof.Machine.execInitEntryDone core stores s
  | .initBudgetExpiry => Sys2Proof.Machine.execInitBudgetExpiry s
  | .stagingWrite core index value other => Sys2Proof.Machine.execStagingWrite core index value other s
  | .checkpointWrite value => Sys2Proof.Machine.execCheckpointWrite value s
  | .restart req cold => Sys2Proof.Machine.execRestart req cold s
  | .programStop req b => Sys2Proof.Machine.execProgramStop req b s
  | .cdrCycLoRead req => Sys2Proof.Machine.execCdrCycLoRead req s
  | .cdrPtLoRead req => Sys2Proof.Machine.execCdrPtLoRead req s
  | .cdrPtAdjLoRead req => Sys2Proof.Machine.execCdrPtAdjLoRead req s
  | .onlineChangeLoad req => Sys2Proof.Machine.execOnlineChangeLoad req s
  | .loadChecksDone => Sys2Proof.Machine.execLoadChecksDone s
  | .onlineChangeSwitch req => Sys2Proof.Machine.execOnlineChangeSwitch req s
  | .onlineChangeCommit req => Sys2Proof.Machine.execOnlineChangeCommit req s
  | .onlineChangeRollback req => Sys2Proof.Machine.execOnlineChangeRollback req s
  | .onlineChangeCancel req => Sys2Proof.Machine.execOnlineChangeCancel req s
  | .trialLenExpiry => Sys2Proof.Machine.execTrialLenExpiry s
  | .intakeRecord bytes => Sys2Proof.Machine.execIntakeRecord bytes s
  | .fusEnable req => Sys2Proof.Machine.execFusEnable req s
  | .retCommit req => Sys2Proof.Machine.execRetCommit req s
  | .datumCommit req => Sys2Proof.Machine.execDatumCommit req s
  | .resetFilter req => Sys2Proof.Machine.execResetFilter req s
  | .inertialUnitLost unit => Sys2Proof.Machine.execInertialUnitLost unit s
  | .refCoastLimit => Sys2Proof.Machine.execRefCoastLimit s
  | .satExclExpiry slot sys svid => Sys2Proof.Machine.execSatExclExpiry slot sys svid s
  | .riserValidLoss => Sys2Proof.Machine.execRiserValidLoss s
  | .referenceRequalify slot => Sys2Proof.Machine.execReferenceRequalify slot s
  | .trackDelete n => Sys2Proof.Machine.execTrackDelete n s
  | .qpAdmm req desc chain => Sys2Proof.Machine.execQpAdmm req desc chain s
  | .kfQr req desc => Sys2Proof.Machine.execKfQr req desc s
  | .lap req desc => Sys2Proof.Machine.execLap req desc s
  | .sim req desc => Sys2Proof.Machine.execSim req desc s
  | .load req desc => Sys2Proof.Machine.execLoad req desc s
  | .free req desc => Sys2Proof.Machine.execFree req desc s
  | .jobRelease slot => Sys2Proof.Machine.execJobRelease slot s
  | .engineGrant eng => Sys2Proof.Machine.execEngineGrant eng s
  | .jobResult eng corr => Sys2Proof.Machine.execJobResult eng corr s
  | .sectorSwitch thr => Sys2Proof.Machine.execSectorSwitch thr s
  | .solverLost => Sys2Proof.Machine.execSolverLost s
  | .jobDeadline slot done factored => Sys2Proof.Machine.execJobDeadline slot done factored s
  | .structEccLost eng ss => Sys2Proof.Machine.execStructEccLost eng ss s
  | .hostAbort req => Sys2Proof.Machine.execHostAbort req s
  | .planCommit req => Sys2Proof.Machine.execPlanCommit req s
  | .setCommit req => Sys2Proof.Machine.execSetCommit req s
  | .paramCommit req => Sys2Proof.Machine.execParamCommit req s
  | .collimationStart req => Sys2Proof.Machine.execCollimationStart req s
  | .collimationStop req => Sys2Proof.Machine.execCollimationStop req s
  | .collimationDone => Sys2Proof.Machine.execCollimationDone s
  | .tableCommit req => Sys2Proof.Machine.execTableCommit req s
  | .ackOverdue h => Sys2Proof.Machine.execAckOverdue h s
  | .lsHoldExpiry => Sys2Proof.Machine.execLsHoldExpiry s
  | .fallbackExpiry h => Sys2Proof.Machine.execFallbackExpiry h s
  | .guardPowerUp slew => Sys2Proof.Machine.execGuardPowerUp slew s
  | .guardImageLoad bytes bistFail => Sys2Proof.Machine.execGuardImageLoad bytes bistFail s
  | .guardLoadTimeout => Sys2Proof.Machine.execGuardLoadTimeout s
  | .heartbeatArrival word guardTime => Sys2Proof.Machine.execHeartbeatArrival word guardTime s
  | .hbWindowClose => Sys2Proof.Machine.execHbWindowClose s
  | .guardDecision disagree => Sys2Proof.Machine.execGuardDecision disagree s
  | .supervisorHeartbeat word guardTime => Sys2Proof.Machine.execSupervisorHeartbeat word guardTime s
  | .svHbTimeout => Sys2Proof.Machine.execSvHbTimeout s
  | .edsIn => Sys2Proof.Machine.execEdsIn s
  | .guardTrip => Sys2Proof.Machine.execGuardTrip s
  | .guardRst lowTime => Sys2Proof.Machine.execGuardRst lowTime s
  | .holdFb bad0 bad1 => Sys2Proof.Machine.execHoldFb bad0 bad1 s
  | .clockMonitor count => Sys2Proof.Machine.execClockMonitor count s
  | .vddGuardBand mV => Sys2Proof.Machine.execVddGuardBand mV s
  | .ckbkpMissing => Sys2Proof.Machine.execCkbkpMissing s
  | .paramMismatch => Sys2Proof.Machine.execParamMismatch s
  | .degLimitExpiry => Sys2Proof.Machine.execDegLimitExpiry s
  | .vddGuardLost => Sys2Proof.Machine.execVddGuardLost s
  | .claimSample lines free => Sys2Proof.Machine.execClaimSample lines free s
  | .claimReadback lines tie => Sys2Proof.Machine.execClaimReadback lines tie s
  | .partnerClaim second frame => Sys2Proof.Machine.execPartnerClaim second frame s
  | .ownLineReleased => Sys2Proof.Machine.execOwnLineReleased s
  | .stateRecordReceive port => Sys2Proof.Machine.execStateRecordReceive port s
  | .compareRecordReceive port => Sys2Proof.Machine.execCompareRecordReceive port s
  | .mirrorDeadline compare => Sys2Proof.Machine.execMirrorDeadline compare s
  | .diag req => Sys2Proof.Machine.execDiag req s
  | .handover req => Sys2Proof.Machine.execHandover req s
  | .rehearse req => Sys2Proof.Machine.execRehearse req s
  | .rehearsalPulse lines => Sys2Proof.Machine.execRehearsalPulse lines s
  | .holdoffExpiry => Sys2Proof.Machine.execHoldoffExpiry s
  | .firstStartWaiver => Sys2Proof.Machine.execFirstStartWaiver s
  | .cycleLaunch ring => Sys2Proof.Machine.execCycleLaunch ring s
  | .inputLaunch ring => Sys2Proof.Machine.execInputLaunch ring s
  | .cycleFrame port frame fcs residence => Sys2Proof.Machine.execCycleFrame port frame fcs residence s
  | .inputFrame port frame fcs => Sys2Proof.Machine.execInputFrame port frame fcs s
  | .outputFrame port frame fcs => Sys2Proof.Machine.execOutputFrame port frame fcs s
  | .withdrawFrame port frame fcs => Sys2Proof.Machine.execWithdrawFrame port frame fcs s
  | .delayReq port frame fcs turn => Sys2Proof.Machine.execDelayReq port frame fcs turn s
  | .delayResp port frame fcs => Sys2Proof.Machine.execDelayResp port frame fcs s
  | .mgmtFrame port frame fcs => Sys2Proof.Machine.execMgmtFrame port frame fcs s
  | .inputReturn ring frame fcs => Sys2Proof.Machine.execInputReturn ring frame fcs s
  | .outputReturn ring frame fcs => Sys2Proof.Machine.execOutputReturn ring frame fcs s
  | .stationSample => Sys2Proof.Machine.execStationSample s
  | .stationOutputInstant => Sys2Proof.Machine.execStationOutputInstant s
  | .stationHoldLimit => Sys2Proof.Machine.execStationHoldLimit s
  | .stationCycleLoss => Sys2Proof.Machine.execStationCycleLoss s
  | .stationSyncComplete => Sys2Proof.Machine.execStationSyncComplete s
  | .stationPowerReady => Sys2Proof.Machine.execStationPowerReady s
  | .stationStageDl => Sys2Proof.Machine.execStationStageDl s
  | .linkDelayMeasure loop0 loop1 => Sys2Proof.Machine.execLinkDelayMeasure loop0 loop1 s
  | .portLinkLoss port => Sys2Proof.Machine.execPortLinkLoss port s
  | .portLinkHeld port => Sys2Proof.Machine.execPortLinkHeld port s
  | .readId req ring stn => Sys2Proof.Machine.execReadId req ring stn s
  | .identify req ring stn => Sys2Proof.Machine.execIdentify req ring stn s
  | .resume req ring stn => Sys2Proof.Machine.execResume req ring stn s
  | .dupClear req ring stn => Sys2Proof.Machine.execDupClear req ring stn s
  | .stnCmdTimeout => Sys2Proof.Machine.execStnCmdTimeout s
  | .duplicateClearCount ring stn => Sys2Proof.Machine.execDuplicateClearCount ring stn s
  | .ethRxFrame port frame fcsOk => Sys2Proof.Machine.execEthRxFrame port frame fcsOk s
  | .ethProd req port rx tx lq txd lqd => Sys2Proof.Machine.execEthProd req port rx tx lq txd lqd s
  | .transmitDone port => Sys2Proof.Machine.execTransmitDone port s
  | .launchCommit port ring => Sys2Proof.Machine.execLaunchCommit port ring s
  | .launchDepart port ring => Sys2Proof.Machine.execLaunchDepart port ring s
  | .ethLqCancel req port index => Sys2Proof.Machine.execEthLqCancel req port index s
  | .ethLinkChange port up speed => Sys2Proof.Machine.execEthLinkChange port up speed s
  | .ethPortEnable req port txEn rxEn => Sys2Proof.Machine.execEthPortEnable req port txEn rxEn s
  | .txtsExpiry => Sys2Proof.Machine.execTxtsExpiry s
  | .ptpTxtsW0 req => Sys2Proof.Machine.execPtpTxtsW0 req s
  | .ptpTxtsW1 req => Sys2Proof.Machine.execPtpTxtsW1 req s
  | .ptpTimeNs req => Sys2Proof.Machine.execPtpTimeNs req s
  | .ptpIncr req v => Sys2Proof.Machine.execPtpIncr req v s
  | .step req => Sys2Proof.Machine.execStep req s
  | .slewGo req => Sys2Proof.Machine.execSlewGo req s
  | .vddAonValid => Sys2Proof.Machine.execVddAonValid s
  | .lockoutRelease rank rails ddrOk bistFail guardAt powerAt ddrAt timeAt sub => Sys2Proof.Machine.execLockoutRelease rank rails ddrOk bistFail guardAt powerAt ddrAt timeAt sub s
  | .timeReady req => Sys2Proof.Machine.execTimeReady req s
  | .gridWaitExpiry => Sys2Proof.Machine.execGridWaitExpiry s
  | .provision port confirm ok => Sys2Proof.Machine.execProvision port confirm ok s
  | .seal port confirm ok => Sys2Proof.Machine.execSeal port confirm ok s
  | .returnLc port confirm run => Sys2Proof.Machine.execReturnLc port confirm run s
  | .decommission port confirm ok => Sys2Proof.Machine.execDecommission port confirm ok s
  | .revoke port confirm keys ok => Sys2Proof.Machine.execRevoke port confirm keys ok s
  | .vddAonWarning => Sys2Proof.Machine.execVddAonWarning s
  | .vbatSwitch vbat sub => Sys2Proof.Machine.execVbatSwitch vbat sub s
  | .fastFall vbat sub => Sys2Proof.Machine.execFastFall vbat sub s
  | .timeLost close => Sys2Proof.Machine.execTimeLost close s
  | .meridianPowerUp vbat => Sys2Proof.Machine.execMeridianPowerUp vbat s
  | .batLow low => Sys2Proof.Machine.execBatLow low s
  | .prescalerWrap => Sys2Proof.Machine.execPrescalerWrap s
  | .compensationWindow temp => Sys2Proof.Machine.execCompensationWindow temp s
  | .eventInputEdge input rise sub => Sys2Proof.Machine.execEventInputEdge input rise sub s
  | .halt req halt sub atWrap => Sys2Proof.Machine.execHalt req halt sub atWrap s
  | .calendarWrite req which v => Sys2Proof.Machine.execCalendarWrite req which v s
  | .shiftGo req => Sys2Proof.Machine.execShiftGo req s
  | .merSubsecRead req sub => Sys2Proof.Machine.execMerSubsecRead req sub s
  | .merEvf0Read req => Sys2Proof.Machine.execMerEvf0Read req s
  | .merEvf2Read req => Sys2Proof.Machine.execMerEvf2Read req s
  | .timeLostClear req => Sys2Proof.Machine.execTimeLostClear req s
  | .cycle req => Sys2Proof.Machine.execCycle req s
  | .sleep req => Sys2Proof.Machine.execSleep req s
  | .offTimeExpiry => Sys2Proof.Machine.execOffTimeExpiry s
  | .pwrIgnored => Sys2Proof.Machine.execPwrIgnored s
  | .canFrameReceived c f => Sys2Proof.Machine.execCanFrameReceived c f s
  | .canTxDone c obj => Sys2Proof.Machine.execCanTxDone c obj s
  | .canArbitrationLost c obj => Sys2Proof.Machine.execCanArbitrationLost c obj s
  | .canError c err => Sys2Proof.Machine.execCanError c err s
  | .canRecoveryDone c => Sys2Proof.Machine.execCanRecoveryDone c s
  | .canLockTimeout c obj => Sys2Proof.Machine.execCanLockTimeout c obj s
  | .canTxreq req c r mask => Sys2Proof.Machine.execCanTxreq req c r mask s
  | .canCancel req c obj pos => Sys2Proof.Machine.execCanCancel req c obj pos s
  | .recover req c => Sys2Proof.Machine.execRecover req c s
  | .canEnable req c en => Sys2Proof.Machine.execCanEnable req c en s
  | .canWord0Read req c obj => Sys2Proof.Machine.execCanWord0Read req c obj s
  | .canLastRead req c obj => Sys2Proof.Machine.execCanLastRead req c obj s
  | .characterReceived u ch framing parity overrun brk start => Sys2Proof.Machine.execCharacterReceived u ch framing parity overrun brk start s
  | .rawIdle u => Sys2Proof.Machine.execRawIdle u s
  | .lineSilence u brk => Sys2Proof.Machine.execLineSilence u brk s
  | .serTxdata req u b => Sys2Proof.Machine.execSerTxdata req u b s
  | .serConsWrite req u cons => Sys2Proof.Machine.execSerConsWrite req u cons s
  | .dioEdge pin level => Sys2Proof.Machine.execDioEdge pin level s
  | .dioClaim req hi mask => Sys2Proof.Machine.execDioClaim req hi mask s
  | .dioOut req hi v => Sys2Proof.Machine.execDioOut req hi v s
  | .sdfOutput c clks => Sys2Proof.Machine.execSdfOutput c clks s
  | .sdmClockLost g => Sys2Proof.Machine.execSdmClockLost g s
  | .sdmClockRestored g khz => Sys2Proof.Machine.execSdmClockRestored g khz s
  | .sdfEn req v => Sys2Proof.Machine.execSdfEn req v s
  | .firSel req c second v => Sys2Proof.Machine.execFirSel req c second v s
  | .coefficientWrite req set tap v => Sys2Proof.Machine.execCoefficientWrite req set tap v s
  | .sdfCfgWrite req c v => Sys2Proof.Machine.execSdfCfgWrite req c v s
  | .pcieLinkChange up speed width => Sys2Proof.Machine.execPcieLinkChange up speed width s
  | .linkRecovery linkUp => Sys2Proof.Machine.execLinkRecovery linkUp s
  | .busMasterChange bme d3hot => Sys2Proof.Machine.execBusMasterChange bme d3hot s
  | .ringEnable req k => Sys2Proof.Machine.execRingEnable req k s
  | .ringDisable req k => Sys2Proof.Machine.execRingDisable req k s
  | .sqTail k t => Sys2Proof.Machine.execSqTail k t s
  | .cqHead k h => Sys2Proof.Machine.execCqHead k h s
  | .descriptorFetch k entry => Sys2Proof.Machine.execDescriptorFetch k entry s
  | .nop k => Sys2Proof.Machine.execNop k s
  | .oryJob k data => Sys2Proof.Machine.execOryJob k data s
  | .copyOut k => Sys2Proof.Machine.execCopyOut k s
  | .copyIn k data => Sys2Proof.Machine.execCopyIn k data s
  | .ocLoad k data => Sys2Proof.Machine.execOcLoad k data s
  | .stnCmd k => Sys2Proof.Machine.execStnCmd k s
  | .flashWrite k data => Sys2Proof.Machine.execFlashWrite k data s
  | .completionWrite k => Sys2Proof.Machine.execCompletionWrite k s
  | .hostReadRetry k data => Sys2Proof.Machine.execHostReadRetry k data s
  | .cqTimer k => Sys2Proof.Machine.execCqTimer k s
  | .hifEvPendClear req word mask hwSet => Sys2Proof.Machine.execHifEvPendClear req word mask hwSet s
  | .msixUnmask v => Sys2Proof.Machine.execMsixUnmask v s
  | .almanacRelease => Sys2Proof.Machine.execAlmanacRelease s
  | .almSwGo req => Sys2Proof.Machine.execAlmSwGo req s
  | .almRead req => Sys2Proof.Machine.execAlmRead req s
  | .almReadReady req => Sys2Proof.Machine.execAlmReadReady req s
  | .flashSectorDone ok => Sys2Proof.Machine.execFlashSectorDone ok s
  | .fabricTimeout => Sys2Proof.Machine.execFabricTimeout s
  | .sramDoubleEcc => Sys2Proof.Machine.execSramDoubleEcc s
  | .ddrUncorrectable addr => Sys2Proof.Machine.execDdrUncorrectable addr s
  | .coresTrapped => Sys2Proof.Machine.execCoresTrapped s
  | .trigger req => Sys2Proof.Machine.execTrigger req s
  | .plateCopyDone ok => Sys2Proof.Machine.execPlateCopyDone ok s
  | .releasePlate req => Sys2Proof.Machine.execReleasePlate req s
  | .railInvalid rail => Sys2Proof.Machine.execRailInvalid rail s
  | .ioRailInvalid b => Sys2Proof.Machine.execIoRailInvalid b s
  | .domainReady => Sys2Proof.Machine.execDomainReady s
  | .tempConversion value => Sys2Proof.Machine.execTempConversion value s
  | .throttleDwell => Sys2Proof.Machine.execThrottleDwell s
  | .shutdownPowerDown => Sys2Proof.Machine.execShutdownPowerDown s
  | .clockFailure which stops => Sys2Proof.Machine.execClockFailure which stops s
  | .supervisorCycleDelay => Sys2Proof.Machine.execSupervisorCycleDelay s
  | .offReq req v => Sys2Proof.Machine.execOffReq req v s
  | .clkSsc req v => Sys2Proof.Machine.execClkSsc req v s
  | .portLinkUp port => Sys2Proof.Machine.execPortLinkUp port s
  | .mgmtReturn ring frame fcs => Sys2Proof.Machine.execMgmtReturn ring frame fcs s
  | .edsInReleased => Sys2Proof.Machine.execEdsInReleased s
  | .guardTripReleased => Sys2Proof.Machine.execGuardTripReleased s
  | .holdReadbackRestored => Sys2Proof.Machine.execHoldReadbackRestored s
  | .railValid rail => Sys2Proof.Machine.execRailValid rail s
  | .spreadRampEnd => Sys2Proof.Machine.execSpreadRampEnd s
  | .slewDone => Sys2Proof.Machine.execSlewDone s
  | .characterSent u => Sys2Proof.Machine.execCharacterSent u s
  | .completionTimeout k => Sys2Proof.Machine.execCompletionTimeout k s

end Sys2Proof.Machine
end

