-- ==== Sys2Proof/Safety.lean ====
section
/-! DEFINITION. What claims about runs rest on: the canonical form of everything the state holds by address, a step that
goes on, and the parts of the state a command leaves alone. -/

namespace Sys2Proof.Machine

/-- The memories are in canonical form. -/
def Memory.wf (m : Memory) : Bool :=
  swf ramByte m.sram && swf ramByte m.ddr && swf flashByte m.flash && swf ramByte m.retained

/-- The register map, the values in force and the memories are in canonical form. -/
def State.canonical (s : State) : Bool := swf regReset s.regs && swf regReset s.eff && s.mem.wf

/-- A step goes on: it answers a next state. -/
def State.goesOn (s : State) : Prop := ∃ t, step s = .next t

/-- A part of the state, for saying what a command leaves alone. -/
inductive Part where
  /-- The registers of the block at BAR0 offset n × 64 KiB, the copies of each requester included (R566). -/
  | blk (n : Nat)
  /-- Station. -/
  | station
  /-- The data register reads return. -/
  | readData
  /-- Shared SRAM. -/
  | sram
  /-- DDR. -/
  | ddr
  /-- The boot flash. -/
  | flash
  /-- Retained SRAM. -/
  | retained
  /-- The Clock Drive. -/
  | cdr
  /-- The Rhauf guard. -/
  | grd
  /-- The fusion unit. -/
  | fus
  /-- The values in force. -/
  | eff
  /-- The redundancy manager. -/
  | red
  /-- The Xonlink ports. -/
  | xl
  /-- The PTP time base. -/
  | tb
  /-- The Ethernet ports. -/
  | eth
  /-- The CAN FD controllers. -/
  | can
  /-- The UARTs. -/
  | uart
  /-- The discrete pins. -/
  | dio
  /-- The sigma-delta chains. -/
  | sdf
  /-- The host interface. -/
  | hif
  /-- The Almanac and the flash queue. -/
  | alm
  /-- Meridian. -/
  | mer
  /-- The power controller. -/
  | pow
  /-- The Orrery. -/
  | ory
  /-- The control engine. -/
  | ctl
  /-- Ephemeris. -/
  | eph
  /-- Boot and the life cycle. -/
  | boot
  /-- The counter of free values. -/
  | freeCtr
  deriving DecidableEq, Repr

/-- The bit of a part in a set of parts. -/
def Part.bit : Part → Nat
  | .blk n => n % 32
  | .station => 32
  | .readData => 33
  | .sram => 34
  | .ddr => 35
  | .flash => 36
  | .retained => 37
  | .cdr => 38
  | .grd => 39
  | .fus => 40
  | .eff => 41
  | .red => 42
  | .xl => 43
  | .tb => 44
  | .eth => 45
  | .can => 46
  | .uart => 47
  | .dio => 48
  | .sdf => 49
  | .hif => 50
  | .alm => 51
  | .mer => 52
  | .pow => 53
  | .ory => 54
  | .ctl => 55
  | .eph => 56
  | .boot => 57
  | .freeCtr => 58

/-- A set of parts, as the number whose bits they are. -/
def parts (ps : List Part) : Nat := ps.foldl (fun m p => m ||| 2 ^ p.bit) 0

/-- Nothing but the parts in `m` differs from `s` to `t`: every register of another block reads as before, and every other part
of the state is equal. -/
structure State.Within (m : Nat) (s t : State) : Prop where
  /-- Registers. -/
  regs : ∀ k, m.testBit (k / 0x10000 % 32) = false → t.rd k = s.rd k
  /-- Station. -/
  station : m.testBit 32 = false → t.station = s.station
  /-- The data register reads return. -/
  readData : m.testBit 33 = false → t.readData = s.readData
  /-- Shared SRAM. -/
  sram : m.testBit 34 = false → t.mem.sram = s.mem.sram
  /-- DDR. -/
  ddr : m.testBit 35 = false → t.mem.ddr = s.mem.ddr
  /-- The boot flash. -/
  flash : m.testBit 36 = false → t.mem.flash = s.mem.flash
  /-- Retained SRAM. -/
  retained : m.testBit 37 = false → t.mem.retained = s.mem.retained
  /-- The Clock Drive. -/
  cdr : m.testBit 38 = false → t.cdr = s.cdr
  /-- The Rhauf guard. -/
  grd : m.testBit 39 = false → t.grd = s.grd
  /-- The fusion unit. -/
  fus : m.testBit 40 = false → t.fus = s.fus
  /-- The values in force. -/
  eff : m.testBit 41 = false → t.eff = s.eff
  /-- The redundancy manager. -/
  red : m.testBit 42 = false → t.red = s.red
  /-- The Xonlink ports. -/
  xl : m.testBit 43 = false → t.xl = s.xl
  /-- The PTP time base. -/
  tb : m.testBit 44 = false → t.tb = s.tb
  /-- The Ethernet ports. -/
  eth : m.testBit 45 = false → t.eth = s.eth
  /-- The CAN FD controllers. -/
  can : m.testBit 46 = false → t.can = s.can
  /-- The UARTs. -/
  uart : m.testBit 47 = false → t.uart = s.uart
  /-- The discrete pins. -/
  dio : m.testBit 48 = false → t.dio = s.dio
  /-- The sigma-delta chains. -/
  sdf : m.testBit 49 = false → t.sdf = s.sdf
  /-- The host interface. -/
  hif : m.testBit 50 = false → t.hif = s.hif
  /-- The Almanac and the flash queue. -/
  alm : m.testBit 51 = false → t.alm = s.alm
  /-- Meridian. -/
  mer : m.testBit 52 = false → t.mer = s.mer
  /-- The power controller. -/
  pow : m.testBit 53 = false → t.pow = s.pow
  /-- The Orrery. -/
  ory : m.testBit 54 = false → t.ory = s.ory
  /-- The control engine. -/
  ctl : m.testBit 55 = false → t.ctl = s.ctl
  /-- Ephemeris. -/
  eph : m.testBit 56 = false → t.eph = s.eph
  /-- Boot and the life cycle. -/
  boot : m.testBit 57 = false → t.boot = s.boot
  /-- The counter of free values. -/
  freeCtr : m.testBit 58 = false → t.freeCtr = s.freeCtr

/-- The parts raising an event changes: the event registers and the Almanac's (R478, R487). -/
def evParts : List Part := [.blk 0x12, .blk 0x13, .hif, .alm]

/-- The parts that change when device time advances to an instant, with what falls due on the way. -/
def timeParts : List Part := [.blk 0x0D, .blk 0x12, .blk 0x13, .cdr, .grd, .red, .xl, .tb, .eth, .can, .uart, .sdf, .hif, .alm,
  .mer, .pow, .ory, .boot]

/-- The parts that follow the guard: its state, the outputs it holds or releases, and what shows them (R264, R435). -/
def guardParts : List Part := [.blk 0x09, .blk 0x0A, .blk 0x0B, .blk 0x0C, .blk 0x10, .grd, .red, .xl, .dio]

/-- The parts that the end of an Orrery job may change: its result, and what its user takes from it (R174). -/
def jobParts : List Part := [.blk 0x06, .blk 0x07, .blk 0x08, .sram, .fus, .ory, .ctl, .eph]

/-- All registers. -/
def regParts : List Part := (List.range 32).map .blk

/-- The parts that the loss of a supply or of a domain may change: what the domains hold is lost (R527, R530). -/
def lossParts : List Part :=
  regParts ++ [.sram, .ddr, .retained, .cdr, .grd, .fus, .eff, .red, .xl, .tb, .eth, .can, .uart, .dio, .sdf, .hif, .alm, .pow,
    .ory, .ctl, .eph, .boot, .freeCtr]

/-- The parts that a Meridian Cycle changes, with the domains that power down (R409, R529). -/
def cycleParts : List Part := lossParts ++ [.mer]

/-- The parts that a fatal error changes: Plate capture, and the Meridian Cycle that follows it (R498 to R502). -/
def fatalParts : List Part := cycleParts ++ [.flash]

/-- Every part of the state. -/
def allParts : List Part :=
  regParts ++ [.station, .readData, .sram, .ddr, .flash, .retained, .cdr, .grd, .fus, .eff, .red, .xl, .tb, .eth,
    .can, .uart, .dio, .sdf, .hif, .alm, .mer, .pow, .ory, .ctl, .eph, .boot, .freeCtr]

/-- The parts of the state that a command may change; everything else it leaves as it is. -/
def partsOf : Instr → List Part
  | .registerWrite .. => fatalParts
  | .readClear .. => regParts ++ [.readData, .tb, .can, .mer, .freeCtr]
  | .debugModuleAccess .. => fatalParts ++ [.readData]
  | .sampleInstant => timeParts ++ jobParts ++ [.blk 0x01, .blk 0x02, .blk 0x03, .blk 0x04, .blk 0x05, .blk 0x09, .blk 0x0A,
      .blk 0x10, .blk 0x11, .eff, .dio, .freeCtr]
  | .intakeCl => fatalParts
  | .fusionDl => timeParts ++ [.blk 0x05, .blk 0x06, .blk 0x07, .blk 0x08, .blk 0x09, .sram, .fus, .ctl, .eph]
  | .primaryPost => timeParts ++ [.blk 0x06, .blk 0x07, .blk 0x08, .blk 0x09, .sram, .fus, .ctl, .eph]
  | .solveDl => timeParts ++ [.blk 0x05, .blk 0x08, .blk 0x09, .ddr, .fus, .ctl, .eph, .freeCtr]
  | .stageDl .. => timeParts ++ [.blk 0x05, .blk 0x08, .blk 0x09, .blk 0x0A, .ctl]
  | .outOffset .. => timeParts ++ [.blk 0x09, .blk 0x0A, .blk 0x0C, .blk 0x0E, .blk 0x10, .retained, .dio, .eph]
  | .switchBoundary .. => timeParts ++ [.blk 0x05, .blk 0x09, .blk 0x0A, .blk 0x0B, .blk 0x0C, .blk 0x10, .dio]
  | .switchWindowClose => timeParts ++ [.blk 0x05]
  | .fastTick => timeParts ++ [.blk 0x05, .blk 0x06, .blk 0x09, .fus, .dio, .sdf, .eph]
  | .fastBudgetExpiry => timeParts ++ [.blk 0x05]
  | .sectionEnd .. => evParts ++ [.blk 0x05, .cdr, .xl]
  | .sectionWatchdog .. => fatalParts
  | .coreFault .. => fatalParts
  | .eccCorrected => evParts ++ [.blk 0x05]
  | .ovrLimit => fatalParts
  | .fastOvrLimit => fatalParts
  | .initEntryDone .. => [.blk 0x05, .blk 0x0E, .retained, .cdr]
  | .initBudgetExpiry => fatalParts
  | .stagingWrite .. => evParts ++ [.blk 0x05, .cdr]
  | .checkpointWrite .. => [.cdr]
  | .restart .. => evParts ++ [.blk 0x05, .cdr]
  | .programStop .. => [.blk 0x05]
  | .cdrCycLoRead .. => [.blk 0x05, .readData]
  | .cdrPtLoRead .. => [.blk 0x05, .readData]
  | .cdrPtAdjLoRead .. => [.blk 0x05, .readData]
  | .onlineChangeLoad .. => evParts ++ [.blk 0x05, .cdr]
  | .loadChecksDone => evParts ++ [.blk 0x05, .cdr]
  | .onlineChangeSwitch .. => evParts ++ [.blk 0x05]
  | .onlineChangeCommit .. => evParts ++ [.blk 0x05, .cdr]
  | .onlineChangeRollback .. => [.cdr]
  | .onlineChangeCancel .. => evParts ++ [.blk 0x05, .cdr]
  | .trialLenExpiry => evParts ++ [.blk 0x05, .cdr]
  | .intakeRecord .. => evParts ++ [.blk 0x06, .fus]
  | .fusEnable .. => [.blk 0x06]
  | .retCommit .. => [.blk 0x06, .fus]
  | .datumCommit .. => [.blk 0x06, .fus]
  | .resetFilter .. => [.blk 0x06, .fus]
  | .inertialUnitLost .. => timeParts ++ [.fus]
  | .refCoastLimit => evParts ++ [.blk 0x06]
  | .satExclExpiry .. => [.fus]
  | .riserValidLoss => timeParts ++ [.blk 0x06]
  | .referenceRequalify .. => evParts ++ [.blk 0x06, .fus]
  | .trackDelete .. => evParts ++ [.blk 0x06, .fus]
  | .qpAdmm .. => evParts ++ jobParts
  | .kfQr .. => evParts ++ jobParts
  | .lap .. => evParts ++ jobParts
  | .sim .. => evParts ++ jobParts
  | .load .. => evParts ++ jobParts
  | .free .. => evParts ++ jobParts
  | .jobRelease .. => timeParts
  | .engineGrant .. => evParts ++ jobParts
  | .jobResult .. => timeParts ++ jobParts ++ [.freeCtr]
  | .sectorSwitch .. => evParts ++ [.blk 0x08, .ctl]
  | .solverLost => evParts ++ [.blk 0x08, .ctl]
  | .jobDeadline .. => timeParts ++ jobParts ++ [.freeCtr]
  | .structEccLost .. => evParts ++ [.blk 0x07, .ory]
  | .hostAbort .. => evParts ++ jobParts ++ [.freeCtr]
  | .planCommit .. => [.blk 0x07, .ory]
  | .setCommit .. => [.blk 0x08, .ctl]
  | .paramCommit .. => [.blk 0x08, .ctl]
  | .collimationStart .. => [.blk 0x08, .ctl]
  | .collimationStop .. => evParts ++ [.blk 0x08, .ctl]
  | .collimationDone => evParts ++ [.blk 0x08, .ctl]
  | .tableCommit .. => [.blk 0x09, .eph]
  | .ackOverdue .. => evParts ++ [.blk 0x09]
  | .lsHoldExpiry => timeParts ++ [.blk 0x09, .blk 0x10, .dio]
  | .fallbackExpiry .. => [.eph]
  | .guardPowerUp .. => evParts ++ guardParts ++ [.blk 0x00, .blk 0x02]
  | .guardImageLoad .. => evParts ++ guardParts ++ [.blk 0x00]
  | .guardLoadTimeout => evParts ++ guardParts
  | .heartbeatArrival .. => evParts ++ guardParts
  | .hbWindowClose => []
  | .guardDecision .. => timeParts ++ [.blk 0x09, .blk 0x0A, .blk 0x0B, .blk 0x0C, .blk 0x10, .dio]
  | .supervisorHeartbeat .. => evParts ++ guardParts
  | .svHbTimeout => evParts ++ guardParts
  | .edsIn => timeParts ++ guardParts
  | .guardTrip => timeParts ++ guardParts
  | .guardRst .. => evParts ++ guardParts
  | .holdFb .. => evParts ++ guardParts
  | .clockMonitor .. => evParts ++ guardParts
  | .vddGuardBand .. => evParts ++ guardParts ++ [.blk 0x02]
  | .ckbkpMissing => evParts ++ guardParts
  | .paramMismatch => evParts ++ guardParts
  | .degLimitExpiry => timeParts ++ [.blk 0x09, .blk 0x0A, .blk 0x0B, .blk 0x0C, .blk 0x10, .dio]
  | .vddGuardLost => lossParts
  | .claimSample .. => timeParts ++ [.blk 0x0A, .blk 0x0B]
  | .claimReadback .. => timeParts ++ [.blk 0x09, .blk 0x0A, .blk 0x0B, .blk 0x10, .dio]
  | .partnerClaim .. => evParts ++ guardParts
  | .ownLineReleased => evParts ++ guardParts
  | .stateRecordReceive .. => evParts ++ [.blk 0x08, .blk 0x0A, .retained, .red, .ctl]
  | .compareRecordReceive .. => evParts ++ guardParts
  | .mirrorDeadline .. => timeParts ++ [.blk 0x0A]
  | .diag .. => evParts ++ [.blk 0x09, .blk 0x0A, .blk 0x0B, .blk 0x10, .grd, .red, .dio]
  | .handover .. => [.blk 0x0A]
  | .rehearse .. => [.blk 0x0A]
  | .rehearsalPulse .. => timeParts ++ [.blk 0x0A]
  | .holdoffExpiry => timeParts ++ [.blk 0x0A]
  | .firstStartWaiver => evParts ++ [.blk 0x0A]
  | .cycleLaunch .. => timeParts
  | .inputLaunch .. => timeParts
  | .cycleFrame .. => [.blk 0x0C, .blk 0x0D, .cdr, .grd, .red, .xl, .tb, .eth, .can, .uart, .sdf, .hif, .mer, .pow, .ory, .boot,
      .freeCtr]
  | .inputFrame .. => [.blk 0x0C, .xl]
  | .outputFrame .. => [.blk 0x0C, .cdr, .xl]
  | .withdrawFrame .. => [.blk 0x0B, .blk 0x0C, .grd, .xl]
  | .delayReq .. => [.blk 0x0C, .xl]
  | .delayResp .. => [.blk 0x0C, .xl]
  | .mgmtFrame .. => [.blk 0x0C, .xl]
  | .inputReturn .. => evParts ++ [.blk 0x06, .blk 0x0C, .fus, .xl]
  | .outputReturn .. => [.blk 0x0C, .xl]
  | .stationSample => timeParts
  | .stationOutputInstant => timeParts ++ [.blk 0x0C, .dio]
  | .stationHoldLimit => [.blk 0x0C, .xl]
  | .stationCycleLoss => [.blk 0x0C, .xl]
  | .stationSyncComplete => [.blk 0x0C]
  | .stationPowerReady => [.blk 0x0C, .xl]
  | .stationStageDl => timeParts ++ [.blk 0x05, .ctl]
  | .linkDelayMeasure .. => evParts ++ [.blk 0x0C, .xl]
  | .portLinkLoss .. => evParts ++ [.blk 0x0C, .xl]
  | .portLinkHeld .. => timeParts
  | .readId .. => evParts ++ [.blk 0x0C, .xl]
  | .identify .. => evParts ++ [.blk 0x0C, .xl]
  | .resume .. => evParts ++ [.blk 0x0C, .xl]
  | .dupClear .. => evParts ++ [.blk 0x0C, .xl]
  | .stnCmdTimeout => evParts ++ [.blk 0x0C, .xl]
  | .duplicateClearCount .. => evParts ++ [.xl]
  | .ethRxFrame .. => evParts ++ [.blk 0x0D, .sram, .ddr, .red, .eth]
  | .ethProd .. => evParts ++ [.blk 0x0D, .sram, .ddr, .eth]
  | .transmitDone .. => timeParts ++ [.sram, .ddr]
  | .launchCommit .. => timeParts
  | .launchDepart .. => timeParts ++ [.sram, .ddr]
  | .ethLqCancel .. => [.blk 0x0D, .sram, .ddr, .eth]
  | .ethLinkChange .. => evParts ++ [.blk 0x0D, .sram, .ddr, .eth]
  | .ethPortEnable .. => [.blk 0x0D, .sram, .ddr, .eth]
  | .txtsExpiry => timeParts
  | .ptpTxtsW0 .. => [.readData, .tb]
  | .ptpTxtsW1 .. => [.blk 0x0D, .readData, .tb]
  | .ptpTimeNs .. => [.readData, .tb]
  | .ptpIncr .. => [.blk 0x0D, .tb]
  | .step .. => evParts ++ [.blk 0x0D, .tb]
  | .slewGo .. => [.blk 0x0D, .tb]
  | .vddAonValid .. => regParts ++ timeParts ++ [.station, .readData, .sram, .ddr, .retained, .fus, .eff, .dio, .sdf, .mer, .ctl,
      .eph, .freeCtr]
  | .lockoutRelease .. => regParts ++ timeParts ++ [.station, .sram, .ddr, .flash, .retained, .fus, .eff, .dio, .sdf, .mer, .ctl,
      .eph, .freeCtr]
  | .timeReady .. => [.blk 0x01, .boot]
  | .gridWaitExpiry => timeParts ++ [.blk 0x01]
  | .provision .. => evParts ++ [.blk 0x01, .flash, .boot, .freeCtr]
  | .seal .. => evParts ++ [.blk 0x01, .flash, .boot, .freeCtr]
  | .returnLc .. => evParts ++ [.blk 0x01, .flash, .boot, .freeCtr]
  | .decommission .. => evParts ++ [.blk 0x01, .flash, .boot, .freeCtr]
  | .revoke .. => evParts ++ [.blk 0x01, .flash, .boot, .freeCtr]
  | .vddAonWarning => [.blk 0x0E, .retained, .cdr, .mer]
  | .vbatSwitch .. => regParts ++ timeParts ++ [.station, .readData, .sram, .ddr, .fus, .eff, .dio, .mer, .ctl, .eph, .freeCtr]
  | .fastFall .. => regParts ++ timeParts ++ [.station, .readData, .sram, .ddr, .fus, .eff, .dio, .sdf, .mer, .ctl, .eph, .freeCtr]
  | .timeLost .. => regParts ++ [.retained, .mer]
  | .meridianPowerUp .. => regParts ++ [.retained, .mer]
  | .batLow .. => evParts ++ [.blk 0x0E, .mer]
  | .prescalerWrap => evParts ++ [.blk 0x0E, .mer]
  | .compensationWindow .. => [.blk 0x0E, .mer]
  | .eventInputEdge .. => evParts ++ [.blk 0x0E, .mer]
  | .halt .. => [.blk 0x0E, .mer]
  | .calendarWrite .. => evParts ++ [.blk 0x0E, .mer]
  | .shiftGo .. => [.blk 0x0E, .mer]
  | .merSubsecRead .. => [.blk 0x0E, .readData, .mer]
  | .merEvf0Read .. => [.blk 0x0E, .readData, .mer]
  | .merEvf2Read .. => [.blk 0x0E, .readData, .mer]
  | .timeLostClear .. => [.blk 0x0E]
  | .cycle .. => cycleParts
  | .sleep .. => evParts ++ [.blk 0x0E, .mer]
  | .offTimeExpiry => [.blk 0x0E, .mer]
  | .pwrIgnored => [.blk 0x0E, .mer]
  | .canFrameReceived .. => evParts ++ [.blk 0x0F, .can, .freeCtr]
  | .canTxDone .. => evParts ++ [.blk 0x0F, .can]
  | .canArbitrationLost .. => evParts ++ [.blk 0x0F, .can]
  | .canError .. => evParts ++ [.blk 0x0F, .can]
  | .canRecoveryDone .. => evParts ++ [.blk 0x0F, .can]
  | .canLockTimeout .. => timeParts ++ [.blk 0x0F, .freeCtr]
  | .canTxreq .. => [.blk 0x0F, .can]
  | .canCancel .. => [.blk 0x0F, .can]
  | .recover .. => [.blk 0x0F]
  | .canEnable .. => evParts ++ [.blk 0x0F, .can]
  | .canWord0Read .. => [.blk 0x0F, .readData, .can]
  | .canLastRead .. => [.blk 0x0F, .readData, .can, .freeCtr]
  | .characterReceived .. => evParts ++ [.blk 0x06, .blk 0x10, .sram, .fus, .uart]
  | .rawIdle .. => timeParts ++ [.blk 0x10, .sram]
  | .lineSilence .. => timeParts ++ [.blk 0x10]
  | .serTxdata .. => [.blk 0x10, .uart]
  | .serConsWrite .. => [.blk 0x10]
  | .dioEdge .. => [.blk 0x10, .dio]
  | .dioClaim .. => evParts ++ [.blk 0x09, .blk 0x10, .dio]
  | .dioOut .. => [.blk 0x10]
  | .sdfOutput .. => timeParts ++ [.blk 0x11, .sdf]
  | .sdmClockLost .. => evParts ++ [.blk 0x11]
  | .sdmClockRestored .. => evParts ++ [.blk 0x11, .sdf]
  | .sdfEn .. => evParts ++ [.blk 0x11, .sdf]
  | .firSel .. => [.blk 0x11, .sdf]
  | .coefficientWrite .. => evParts ++ [.blk 0x11]
  | .sdfCfgWrite .. => evParts ++ [.blk 0x11]
  | .pcieLinkChange .. => evParts
  | .linkRecovery .. => evParts ++ jobParts ++ regParts ++ [.cdr, .freeCtr]
  | .busMasterChange .. => evParts
  | .ringEnable .. => evParts
  | .ringDisable .. => evParts ++ jobParts ++ [.blk 0x05, .cdr]
  | .sqTail .. => evParts
  | .cqHead .. => evParts
  | .descriptorFetch .. => evParts ++ jobParts
  | .nop .. => evParts ++ jobParts
  | .oryJob .. => evParts ++ jobParts ++ [.blk 0x05, .ddr, .cdr, .freeCtr]
  | .copyOut .. => evParts ++ jobParts
  | .copyIn .. => evParts ++ jobParts ++ [.blk 0x05, .ddr, .cdr, .freeCtr]
  | .ocLoad .. => evParts ++ jobParts ++ [.blk 0x05, .ddr, .cdr, .freeCtr]
  | .stnCmd .. => evParts ++ jobParts ++ [.blk 0x0C, .xl]
  | .flashWrite .. => evParts ++ jobParts ++ [.blk 0x05, .ddr, .cdr, .freeCtr]
  | .completionWrite .. => evParts
  | .hostReadRetry .. => timeParts ++ jobParts ++ [.blk 0x05, .ddr, .freeCtr]
  | .cqTimer .. => timeParts
  | .hifEvPendClear .. => [.blk 0x12, .hif]
  | .msixUnmask .. => [.blk 0x12, .hif]
  | .almanacRelease => timeParts
  | .almSwGo .. => evParts
  | .almRead .. => [.blk 0x13, .alm]
  | .almReadReady .. => [.blk 0x13, .alm]
  | .flashSectorDone .. => evParts ++ [.flash]
  | .fabricTimeout => fatalParts
  | .sramDoubleEcc => fatalParts
  | .ddrUncorrectable .. => fatalParts
  | .coresTrapped => fatalParts
  | .trigger .. => fatalParts
  | .plateCopyDone .. => fatalParts
  | .releasePlate .. => evParts ++ [.flash]
  | .railInvalid .. => lossParts
  | .ioRailInvalid .. => lossParts
  | .domainReady => [.blk 0x02, .pow]
  | .tempConversion .. => cycleParts
  | .throttleDwell => timeParts
  | .shutdownPowerDown => cycleParts
  | .clockFailure .. => evParts ++ [.blk 0x03, .cdr, .pow, .boot]
  | .supervisorCycleDelay => cycleParts
  | .offReq .. => [.blk 0x02]
  | .clkSsc .. => [.blk 0x03, .pow]
  | .portLinkUp .. => [.blk 0x0C, .xl]
  | .mgmtReturn .. => evParts ++ [.blk 0x0C, .xl]
  | .edsInReleased => evParts ++ guardParts
  | .guardTripReleased => evParts ++ guardParts
  | .holdReadbackRestored => evParts ++ guardParts
  | .railValid .. => evParts ++ [.blk 0x02, .blk 0x0B]
  | .spreadRampEnd => timeParts ++ [.blk 0x03]
  | .slewDone => [.blk 0x0D, .tb]
  | .characterSent .. => [.blk 0x10, .uart]
  | .completionTimeout .. => timeParts ++ jobParts

end Sys2Proof.Machine
end

