-- ==== Sys2Proof/Certificates/Slice0/Obligations.lean ====
section
/-! DEFINITION. The statements, one for each family of commands and each kind of state, from the numbered rules of the spec. -/

open Sys2Proof Sys2Proof.Machine

/-- A step takes the command at the front of the queue and runs it with the rest. -/
def Obligations.StepRunsTheFrontCommand : Prop :=
  ∀ (c : Instr) (cs : List Instr) (s : State), step { s with pending := c :: cs } = exec c { s with pending := cs }

/-- On an empty queue one CK_TIME tick passes: device time gains INCR_EFF (R370), and nothing outside the time base changes; without
the root no tick comes.  That an idle step is a tick (log entry 1), and that nothing follows a stop of the root (log entry 18), are the
model's choices. -/
def Obligations.IdleStepIsATick : Prop :=
  ∀ s : State, s.pending = [] →
    (s.svDead = true → step s = .next s) ∧
    (s.svDead = false → s.tb.freeStep = none →
      ∃ t, step s = .next t ∧ t.tb.now = DevTime.ofUnits (s.tb.now.units + s.freeRate.tb.incrEff) ∧
        State.Within (parts [.blk 0x0D, .tb]) s t)

/-- The state after reset is canonical. -/
def Obligations.ResetIsCanonical : Prop := State.reset.canonical = true

/-- Every step keeps the canonical form. -/
def Obligations.StepKeepsCanonicalForm : Prop :=
  ∀ s t : State, s.canonical = true → step s = .next t → t.canonical = true

/-- A command changes no part of the state but those `partsOf` names for it: registers of other blocks, memories and the state of
other units are as before. -/
def Obligations.CommandsChangeOnlyTheirParts : Prop :=
  ∀ (i : Instr) (s t : State), exec i s = .next t → State.Within (parts (partsOf i)) s t

/-- No command unblows a fuse: blown life-cycle bits, each with its partner fuse, and revoked key slots stay (R520, R524), the UID and
the variant (R2) are fixed, and exec leaves the queue alone. -/
def Obligations.FusesNeverUnblow : Prop :=
  ∀ (i : Instr) (s t : State), exec i s = .next t →
    (∀ k, s.boot.fuses.lc.testBit k = true → t.boot.fuses.lc.testBit k = true) ∧
    (∀ k, s.boot.fuses.lcMate.testBit k = true → t.boot.fuses.lcMate.testBit k = true) ∧
    (∀ k, s.boot.fuses.revoked.testBit k = true → t.boot.fuses.revoked.testBit k = true) ∧
    t.boot.fuses.uid = s.boot.fuses.uid ∧ t.variant = s.variant ∧ t.mem.ddrBytes = s.mem.ddrBytes ∧
    t.mem.flashSize = s.mem.flashSize ∧ t.pending = s.pending

/-- Every command goes on; only the writes of register words can stop, where they put a 1 into a reserved bit, whose behaviour R9 of
00_scope.md leaves undefined.  That such a write stops is the model's choice (NOTES.md, Stops); that FIR_SEL and SDF_CFG_WRITE go on
there is log entry 44. -/
def Obligations.CommandsGoOn : Prop :=
  ∀ (i : Instr) (s : State), (∃ t, exec i s = .next t) ∨ (exec i s = .fault .reservedWrite ∧
    ((∃ r b o n v h, i = .registerWrite r b o n v h) ∨ (∃ r w v, i = .calendarWrite r w v) ∨ (∃ r v, i = .clkSsc r v)))

/-- The base cycle's boundaries come at their instants, and what the spec puts there happens: the new cycle's clock and the registers
that take effect (R23, R34, R74, R78, R84), PRE, STOP and restarts at INTAKE_CL (R55, R83, R89, R92), the blocks of PRE and the state
record at FUSION_DL (R58, R118), the primary job 12 µs later (R195), the staging buffer and POST at SOLVE_DL (R55, R60, R83, R226,
R227), the staged set at STAGE_DL (R60, R83, R84, R87), the outputs at OUT_OFFSET (R27, R304), the switch window and the role at SWITCH
(R98, R99, R102, R292, R315), and FAST at a fast tick (R56, R75, R83).  Before the grid is scheduled nothing happens.  The model's
choices here: a SLOW run dropped at the exchange of the halves, STOP before a restart that waits, FAST only from STATE 3 on, and a window
only in ARMED and TRIAL (log entry 28), the sample instant's own time (log entry 46), and no act of the sequencer without PD_FAB (log
entry 18). -/
def Obligations.CycleBoundaries : Prop :=
  ∀ s : State, s.canonical = true →
    (∀ at', s.nextSample = some at' → ∃ t, exec .sampleInstant s = .next t ∧ t.cdr.grid = true ∧ t.cdr.ticks = 0 ∧
      t.cdr.preDone = false ∧ t.cdr.postDone = false ∧ t.cdr.skip = false ∧ t.cdr.ovr = false ∧ t.cdr.prevOvr = s.cdr.ovr ∧
      t.cdr.exRead = s.cdr.exWrite ∧ t.grd.released = false ∧ t.xl.launched = false ∧
      (s.tb.steps = [] → s.tb.freeStep = none → at' ≤ t.now ∧ t.cdr.t0 = at' % 2 ^ 64) ∧
      (s.red.resync = none → t.cdr.pt = code 64 ((t.cdr.t0 : Int) - t.cdr.ptAdj) ∧
        (s.cdr.grid = true → s.station = false → t.cdr.cyc = (s.cdr.cyc + 1) % 2 ^ 64)) ∧
      (∀ c p a, s.red.resync = some (c, p, a) → t.cdr.cyc = (c + 1) % 2 ^ 64 ∧ t.cdr.pt = (p + s.tbase) % 2 ^ 64 ∧ t.cdr.ptAdj = a) ∧
      (∀ k, k / 0x10000 = 0x06 ∨ k / 0x10000 = 0x08 ∨ k / 0x10000 = 0x09 → sget regReset t.eff k = s.rd k) ∧
      (s.cdr.grid = false → t.fld F.BOOT_STATUS_STAGE = 9 ∧ t.fld F.PTP_STATUS_TB_STATE = 1 ∧ t.on F.BOOT_CTRL_TIME_READY = false)) ∧
    (s.cdr.grid = true →
      (∃ t, exec .intakeCl s = .next t ∧ s.at F.CDR_OFS_A_INTAKE_CL ≤ t.now ∧
        (s.alm.frozen = true → t.cdr.pre = s.cdr.pre ∧ t.cdr.stopped = s.cdr.stopped ∧ t.cdr.initLeft = s.cdr.initLeft) ∧
        (s.alm.frozen = false → s.on F.CDR_CTRL_STOP = true → t.cdr.stopped = true ∧ (s.cdr.stopped = false → t.cdr.pre = .idle ∧ t.cdr.post = .idle ∧
          t.cdr.fast = .idle ∧ t.cdr.slow = .idle ∧ t.fld F.CDR_STATUS_STATE = 0)) ∧
        (s.alm.frozen = false → s.on F.CDR_CTRL_STOP = false →
          (∀ r, s.mayRestart = some r → t.cdr.initLeft = [0, 1] ∧ t.cdr.stopped = true ∧ t.cdr.waiting = none ∧
            t.on F.CDR_CTRL_RESTART = false ∧ (t.fld F.CDR_STATUS_STATE = 1 ∨ t.fld F.CDR_STATUS_STATE = 2)) ∧
          (∀ w, s.mayRestart = none → s.tb.freeStep = none → s.cdr.startAt = some w → w ≤ s.now → s.cdr.stopped = false →
            (s.cdr.post.running = false → s.cdr.pre.running = false → t.cdr.pre.running = true ∧ t.cdr.pre.start = t.now ∧
              t.cdr.pre.cyc = s.cdr.cyc ∧ t.cdr.pre.pt = s.cdr.pt ∧ t.cdr.sig = 0 ∧ t.cdr.written = [] ∧ t.fld F.CDR_STATUS_STATE = 3) ∧
            (s.cdr.post.running = true → t.cdr.skip = true ∧ t.cdr.ovr = true ∧ t.on F.CDR_STATUS_POST_LATE = true) ∧
            (s.cdr.post.running = false → s.cdr.pre.running = true → s.cdr.initLeft = [] → t.cdr.stopped = true ∧
              t.on F.CDR_STATUS_PRE_LATE = true ∧ t.on F.CDR_STATUS_CYCLE_FAULT = true)))) ∧
      (∃ t, exec .fusionDl s = .next t ∧ s.at F.CDR_OFS_A_FUSION_DL ≤ t.now ∧
        (s.cdr.preDone = true → t.cdr.cmdTaken = s.cdr.cmdNew ∧ t.cdr.inpTaken = s.cdr.inpNew) ∧
        (s.cdr.preDone = false → t.cdr.cmdTaken = s.cdr.cmdTaken ∧ t.cdr.inpTaken = s.cdr.inpTaken ∧
          (s.cdr.pre.running = true → t.on F.CDR_STATUS_PRE_LATE = true)) ∧
        (s.station = false → s.fstate ≠ fsOff → t.fus.published = true ∧ (s.fus.published = false → t.fus.pubCyc = s.cdr.cyc ∧
          t.rdn Reg.FUS_STATE_CYC_LO = s.cdr.cyc % 2 ^ 32 ∧ (s.fus.due = true → t.on F.FUS_STATUS_UPDATE_MISSED = true)))) ∧
      (∃ t, exec .primaryPost s = .next t ∧ (s.station = false → s.at F.CDR_OFS_A_FUSION_DL + 12000 ≤ t.now) ∧
        (∀ p, s.station = false → s.tb.freeStep = none → s.planSlot 2 0 = some p → s.on F.CTL_CTRL_ENABLE = true → s.ctlHas = true →
          s.ctl.loadDue = false → s.alm.frozen = false → s.on F.ORY_CTRL_ENABLE = true → s.quadOn (p.2.eng / 16) = true →
          s.planEntry p.1 = p.2 → 8 ≤ fieldLe s.ctlSet 116 2 → fieldLe s.ctlSet 116 2 ≤ 256 → s.primaryDeltas.length ≤ 4096 →
          ∃ j ∈ t.ory.queue, j.src = .control ∧ j.d.ty = 1 ∧ j.d.slot = p.1 ∧ j.d.cycLo = s.cdr.cyc % 2 ^ 32 ∧
            j.d.deltas = some s.primaryDeltas)) ∧
      (∃ t, exec .solveDl s = .next t ∧ s.at F.CDR_OFS_B_SOLVE_DL ≤ t.now ∧ t.cdr.stageOpen = true ∧
        (s.station = true → s.red.base = none → t.cdr.buf = match s.xl.stn.stored with
          | none => s.cdr.staged
          | some o => o.words.foldl (fun m p => sset (fun _ => (0 : Word)) m p.1 p.2) s.cdr.staged) ∧
        (s.station = false → s.on F.CTL_CTRL_ENABLE = true →
          (w32 s.cdr.cyc ≠ 0 ∨ swf (fun _ => (0 : Word)) s.cdr.staged = true → sget (fun _ => (0 : Word)) t.cdr.buf 0 = w32 s.cdr.cyc) ∧
          (s.ctl.conv = none → s.ctl.loadCyc = false → t.on F.CTL_STATUS_DEADLINE_MISS = true ∧
            t.fld F.CTL_MISS_MISS_RUN = satN F.CTL_MISS_MISS_RUN.max (s.fld F.CTL_MISS_MISS_RUN + 1)) ∧
          (s.ctl.conv.isSome = true → t.fld F.CTL_MISS_MISS_RUN = 0)) ∧
        ((s.cdr.pre.running && s.cdr.pre.cyc == s.cdr.cyc) = true → t.cdr.ovr = true ∧ t.on F.CDR_STATUS_PRE_LATE = true) ∧
        ((s.cdr.pre.running && s.cdr.pre.cyc == s.cdr.cyc) = false → s.cdr.preDone = true → s.cdr.skip = false → s.cdr.stopped = false →
          t.cdr.post.running = true ∧ t.cdr.post.start = t.now ∧ t.cdr.post.cyc = s.cdr.cyc ∧ t.cdr.post.pt = s.cdr.pt)) ∧
      (∀ l, s.station = false → ∃ t, exec (.stageDl l) s = .next t ∧ s.at F.CDR_OFS_B_STAGE_DL ≤ t.now ∧
        t.red.lines = (l.own, l.in0, l.in1) ∧ t.red.activeAtStage = s.isActive ∧ t.cdr.stageOpen = false ∧ t.cdr.stageTime = t.now ∧
        (s.claimedBy l ≠ [] → t.on F.RDN_FIT_WAIVED = false) ∧
        (s.cdr.post.running = true → t.cdr.ovr = true ∧ t.on F.CDR_STATUS_POST_LATE = true ∧ t.cdr.staged = s.cdr.staged) ∧
        (s.cdr.post.running = false → s.cdr.postDone = true → t.cdr.staged = s.cdr.buf ∧ t.cdr.stagedCyc = some s.cdr.cyc ∧
          t.fld F.CDR_STATUS_OVR_RUN = 0 ∧ t.rdn Reg.CDR_HB_LAST = s.beatWord (s.cdr.sig == iSig s.half.image) ∧
          (s.cdr.sig ≠ iSig s.half.image → t.on F.CDR_STATUS_SIG_FAIL = true)) ∧
        (s.cdr.post.running = false → s.cdr.postDone = false → t.cdr.staged = s.cdr.staged ∧ t.cdr.stagedCyc = s.cdr.stagedCyc)) ∧
      (∀ b, ∃ t, exec (.outOffset b) s = .next t ∧ s.at F.CDR_OFS_C_OUT_OFFSET ≤ t.now ∧
        t.cdr.applied = (if s.grd.released ∧ s.xl.launched ∧ ¬s.station then s.cdr.staged else s.cdr.applied) ∧
        t.cdr.copyB = (if s.cdr.stagedCyc = some s.cdr.cyc ∧ s.fld F.CDR_STATUS_STATE = 3 then !s.cdr.copyB else s.cdr.copyB) ∧
        (s.red.activeAtStage = true → s.grd.released = true → ∃ r, t.red.last = some r ∧ r.cyc = s.cdr.cyc ∧ r.rank = s.rank)) ∧
      (∀ mig, ∃ t, exec (.switchBoundary mig) s = .next t ∧ s.at F.CDR_OFS_C_SWITCH ≤ t.now ∧
        (s.cdr.pre.running = false → s.cdr.post.running = false → s.cdr.fast.running = false → ∀ m, mig = some m →
          (s.cdr.rollback = none → s.switchDue = true → t.ocState = 4 ∧ t.on F.CDR_STATUS_ACTIVE_HALF = !s.on F.CDR_STATUS_ACTIVE_HALF ∧
            t.cdr.switchCyc = s.cdr.cyc ∧ t.cdr.trial = 0 ∧ t.cdr.slow = .idle) ∧
          (∀ r, s.cdr.rollback = some r → s.ocState = 4 → s.alm.frozen = false → t.ocState = 0 ∧ t.on F.CDR_STATUS_ACTIVE_HALF = !s.on F.CDR_STATUS_ACTIVE_HALF ∧
            t.fld F.CDR_OC_STATUS_RESULT = if r = .host ∨ r = .restart then 2 else 3)) ∧
        (s.tb.freeStep = none → s.ocState ≠ 3 → s.ocState ≠ 4 → t.cdr = s.cdr) ∧
        (s.on F.RDN_CTRL_DIAG = true → t.on F.RDN_CTRL_DIAG = false ∧
          (s.isActive = true ∨ s.rstate = rStandby → t.rstate = rDiagnostic)) ∧
        (s.on F.RDN_CTRL_DIAG = false → s.isActive = true → s.red.handing = true → t.rstate = rStandby ∧ t.on F.RDN_CTRL_HANDOVER = false)) ∧
      (s.cdr.ticks * s.fastNs < s.tbase → ∃ t, exec .fastTick s = .next t ∧ s.cdr.t0 + s.cdr.ticks * s.fastNs ≤ t.now ∧
        t.cdr.ticks = s.cdr.ticks + 1 ∧ (s.windowOpen = true → t.cdr.window = none) ∧
        (s.cdr.stopped = false → s.fld F.CDR_STATUS_STATE = 3 →
          (s.cdr.fast.running = false → t.cdr.fast.running = true ∧ t.cdr.fast.start = t.now ∧ t.cdr.fast.cyc = s.cdr.cyc ∧
            t.cdr.fastSkips = 0 ∧ t.cdr.servoHeld = false ∧ t.cdr.fastPt = code 64 ((s.tickAt : Int) - s.cdr.ptAdj)) ∧
          (s.cdr.fast.running = true → t.on F.CDR_STATUS_FAST_OVR = true ∧ t.cdr.fastSkips = s.cdr.fastSkips + 1 ∧
            t.cdr.fast.running = true ∧ t.cdr.fastPt = s.cdr.fastPt)))) ∧
    (s.domOn 9 = false → exec .switchWindowClose s = .next s) ∧
    (s.domOn 9 = true → s.windowOpen = true → ∃ t, exec .switchWindowClose s = .next t ∧ t.cdr.window = none ∧
      (s.switchDue = true → t.ocState = 0 ∧ t.fld F.CDR_OC_STATUS_RESULT = 5) ∧
      (s.switchDue = false → s.cdr.waiting = none → t.ocState = s.ocState ∧ t.cdr.rollback = s.cdr.rollback)) ∧
    (s.cdr.grid = false →
      (s.boot.gridAt = none → exec .sampleInstant s = .next s) ∧
      exec .intakeCl s = .next s ∧ exec .fusionDl s = .next s ∧ exec .primaryPost s = .next s ∧ exec .solveDl s = .next s ∧
      (∀ l, exec (.stageDl l) s = .next s) ∧ (∀ b, exec (.outOffset b) s = .next s) ∧
      (∀ mig, exec (.switchBoundary mig) s = .next s) ∧ exec .fastTick s = .next s)

/-- A cycle fault (R83, R84, R85, R86, R94), and the corrected ECC error (R73).  The model's choices: the restart after cause 7 is warm,
and a request that waits keeps its type and cause (log entry 28); nothing of the sequencer acts without PD_FAB, nor of the cores without
PD_CYC (log entry 18). -/
def Obligations.CycleFaults : Prop :=
  ∀ s : State, s.canonical = true →
    (s.domOn 4 = false → (∀ k, exec (.coreFault k) s = .next s) ∧ exec .eccCorrected s = .next s) ∧
    (s.domOn 9 = false → (∀ k, exec (.sectionWatchdog k) s = .next s) ∧ exec .ovrLimit s = .next s ∧ exec .fastOvrLimit s = .next s ∧
      exec .initBudgetExpiry s = .next s ∧ exec .fastBudgetExpiry s = .next s) ∧
    (s.domOn 4 = true → ∃ t, exec .eccCorrected s = .next t ∧ t.on F.CDR_STATUS_ECC_CORR = true ∧ t.cdr = s.cdr) ∧
    (s.cdr.stopped = false → s.cdr.initLeft = [] →
      (s.domOn 4 = true → ∀ k, ∃ t, exec (.coreFault k) s = .next t ∧ t.on F.CDR_STATUS_CYCLE_FAULT = true ∧
        t.fld F.CDR_STATUS_STATE = 0 ∧ t.cdr.stopped = true ∧ t.cdr.pre = .idle ∧ t.cdr.post = .idle ∧ t.cdr.fast = .idle ∧
        t.cdr.slow = .idle ∧ (s.cdr.waiting = none → s.ocState ≠ 4 → t.cdr.waiting = some ⟨false, 4 + k.val⟩)) ∧
      (s.domOn 9 = true → s.cdr.pre.running = true → ∃ t, exec (.sectionWatchdog 0) s = .next t ∧ t.cdr.pre = .idle ∧ t.cdr.stopped = true ∧
        t.on F.CDR_STATUS_CYCLE_FAULT = true ∧ s.cdr.pre.start + s.tbase ≤ t.now) ∧
      (s.domOn 9 = true → s.fld F.CDR_BUDGET_OVR_LIMIT < s.fld F.CDR_STATUS_OVR_RUN → ∃ t, exec .ovrLimit s = .next t ∧
        t.on F.CDR_STATUS_CYCLE_FAULT = true ∧ t.fld F.CDR_STATUS_STATE = 0 ∧ t.cdr.stopped = true) ∧
      (s.domOn 9 = true → 1 ≤ s.cdr.fastSkips → s.fld F.CDR_BUDGET_FAST_OVR_LIMIT ≤ s.cdr.fastSkips → ∃ t, exec .fastOvrLimit s = .next t ∧
        t.on F.CDR_STATUS_CYCLE_FAULT = true ∧ t.fld F.CDR_STATUS_STATE = 0 ∧ t.cdr.stopped = true)) ∧
    (s.domOn 9 = true → s.cdr.initLeft ≠ [] → s.cdr.initFaults = 0 → ∃ t, exec .initBudgetExpiry s = .next t ∧
      s.cdr.initStart + iInitBudget s.half.image * 1000 ≤ t.now ∧ t.on F.CDR_STATUS_CYCLE_FAULT = true ∧
      t.fld F.CDR_STATUS_STATE = 0 ∧ t.cdr.stopped = true ∧ t.cdr.initLeft = [] ∧ t.cdr.initFaults = 1 ∧
      (s.cdr.waiting = none → s.ocState ≠ 4 → t.cdr.waiting = some ⟨false, 7⟩)) ∧
    (s.fld F.CDR_STATUS_OVR_RUN ≤ s.fld F.CDR_BUDGET_OVR_LIMIT → exec .ovrLimit s = .next s) ∧
    (s.cdr.fastSkips < s.fld F.CDR_BUDGET_FAST_OVR_LIMIT → exec .fastOvrLimit s = .next s) ∧
    (s.cdr.initLeft = [] → exec .initBudgetExpiry s = .next s) ∧
    (s.cdr.post.running = false → exec (.sectionWatchdog 1) s = .next s) ∧
    (s.domOn 9 = true → s.cdr.fast.running = true → ∃ t, exec .fastBudgetExpiry s = .next t ∧ t.on F.CDR_STATUS_FAST_OVR = true ∧
      t.cdr.servoHeld = true ∧ t.cdr.fast.running = true ∧ s.cdr.fast.start + s.fastBudget * 1000 ≤ t.now) ∧
    (s.cdr.fast.running = false → exec .fastBudgetExpiry s = .next s)

/-- FUS_CTRL's commands set their bits, note what the next sample instant takes, or the one after it where device time has reached that
(log entry 51, DEDUCED), and change nothing else; that none of them changes anything without PD_FAB is the model's reading (log entry 18,
DEDUCED). -/
def Obligations.FusionControls : Prop :=
  ∀ (r : Req) (s : State), s.canonical = true →
    (s.domOn 9 = false → ∀ i ∈ [Instr.fusEnable r, .resetFilter r, .retCommit r, .datumCommit r], exec i s = .next s) ∧
    (s.domOn 9 = true →
    (∃ t, exec (.fusEnable r) s = .next t ∧ t.on F.FUS_CTRL_ENABLE = true ∧
      t.fld F.FUS_CTRL_RESET_FILTER = s.fld F.FUS_CTRL_RESET_FILTER ∧ State.Within (parts [.blk 0x06]) s t) ∧
    (∃ t, exec (.resetFilter r) s = .next t ∧ t.on F.FUS_CTRL_RESET_FILTER = true ∧ t.fus = { s.fus with resetPend := true } ∧
      t.fld F.FUS_CTRL_ENABLE = s.fld F.FUS_CTRL_ENABLE ∧ State.Within (parts [.blk 0x06, .fus]) s t) ∧
    (∃ t, exec (.retCommit r) s = .next t ∧ t.on F.FUS_CTRL_RET_COMMIT = true ∧ t.fus = { s.fus with
          retPend := true, retLate := s.commitTie s.fus.retPend s.fus.retLate } ∧
      t.fld F.FUS_CTRL_ENABLE = s.fld F.FUS_CTRL_ENABLE ∧ State.Within (parts [.blk 0x06, .fus]) s t) ∧
    (∃ t, exec (.datumCommit r) s = .next t ∧ t.on F.FUS_CTRL_DATUM_COMMIT = true ∧ t.fus = { s.fus with
          datumPend := true, datumLate := s.commitTie s.fus.datumPend s.fus.datumLate } ∧
      t.fld F.FUS_CTRL_ENABLE = s.fld F.FUS_CTRL_ENABLE ∧ State.Within (parts [.blk 0x06, .fus]) s t))

/-- The fusion unit's events do what they name (R127, R133, R138, R139, R145, R146), and nothing before their conditions hold.  That they do
nothing without PD_FAB is the model's reading (log entry 18, DEDUCED). -/
def Obligations.FusionEvents : Prop :=
  ∀ s : State, s.canonical = true →
    (s.domOn 9 = false → exec .refCoastLimit s = .next s ∧ exec .riserValidLoss s = .next s ∧
      (∀ u, exec (.inertialUnitLost u) s = .next s) ∧ (∀ slot sys svid, exec (.satExclExpiry slot sys svid) s = .next s) ∧
      (∀ slot, exec (.referenceRequalify slot) s = .next s) ∧ ∀ n, exec (.trackDelete n) s = .next s) ∧
    (s.domOn 9 = true →
    (∀ u : Fin 2, s.insOk (28 + u.val) = false → exec (.inertialUnitLost u) s = .next s) ∧
    (s.fld F.FUS_COAST_CNT_COUNT < s.coastLimit ∨ s.on F.FUS_STATUS_REF_DEGRADED = true → exec .refCoastLimit s = .next s) ∧
    (s.fus.riserAt = none → exec .riserValidLoss s = .next s) ∧
    (∀ slot : Fin 16, nth s.fus.qual slot.val < 11 → exec (.referenceRequalify slot) s = .next s) ∧
    (∀ u : Fin 2, s.insOk (28 + u.val) = true →
      ∃ t, exec (.inertialUnitLost u) s = .next t ∧
        t.fus.insOk = (if u.val = 0 then (false, s.fus.insOk.2) else (s.fus.insOk.1, false)) ∧
        (if u.val = 0 then s.fus.insSeen.1 else s.fus.insSeen.2) + 5000000 ≤ t.now) ∧
    (s.coastLimit ≤ s.fld F.FUS_COAST_CNT_COUNT → s.on F.FUS_STATUS_REF_DEGRADED = false →
      ∃ t, exec .refCoastLimit s = .next t ∧ t.on F.FUS_STATUS_REF_DEGRADED = true ∧
        (s.fstate = fsRun → t.fstate = fsCoast)) ∧
    (∀ (slot : Fin 16) (sys svid : Byte), ∃ t, exec (.satExclExpiry slot sys svid) s = .next t ∧
      t.fus = { s.fus with sats := s.fus.sats.filter fun x => !(x.long && x.left == 0 && x.slot == slot.val && x.sys == sys.toNat && x.svid == svid.toNat) }) ∧
    (∀ at', s.fus.riserAt = some at' → ∃ t, exec .riserValidLoss s = .next t ∧ t.on F.FUS_STATUS_RISER_VALID = false ∧
      at' + 10 * s.tbase < t.now) ∧
    (∀ slot : Fin 16, 11 ≤ nth s.fus.qual slot.val → ∃ t, exec (.referenceRequalify slot) s = .next t ∧
      t.fld (slotFld slot.val) = rsUsed ∧ t.fus = { s.fus with qual := setAt s.fus.qual slot.val 0 }) ∧
    (∀ (n : Fin 64) (k : Track), (s.fus.tracks.find? fun t => t.num == n.val) = some k → s.trackOut k = true →
      ∃ t, exec (.trackDelete n) s = .next t ∧ t.fus = { s.fus with tracks := s.fus.tracks.filter fun x => x.num != n.val }))

/-- A record joins the end of the intake queue, or is refused and counted: no room (R110), bad (R111), of a source and time already
taken, or measured after its arrival (R115).  That a record of a source and time already taken counts in BAD (log entry 37, DESIGN
CHOICE), and that none arrives without PD_FAB (log entry 18, DEDUCED), are the model's. -/
def Obligations.IntakeQueue : Prop :=
  ∀ (b : List Byte) (s : State), s.canonical = true →
    (s.domOn 9 = false → exec (.intakeRecord b) s = .next s) ∧
    (s.domOn 9 = true →
    (65536 < s.queueBytes + b.length → ∃ t, exec (.intakeRecord b) s = .next t ∧ t.on F.FUS_STATUS_INTAKE_OVF = true ∧ t.fus = s.fus ∧
      t.fld F.FUS_INTAKE_OVF = satN F.FUS_INTAKE_OVF.max (s.fld F.FUS_INTAKE_OVF + 1)) ∧
    (s.queueBytes + b.length ≤ 65536 → (s.recBad b = true ∨ s.fus.taken.contains (recSource b, recTime b) = true ∨
        (s.now : Int) < s.measTime b) →
      ∃ t, exec (.intakeRecord b) s = .next t ∧ t.fus = s.fus ∧
        t.fld F.FUS_INTAKE_BAD = satN F.FUS_INTAKE_BAD.max (s.fld F.FUS_INTAKE_BAD + 1) ∧ State.Within (parts [.blk 0x06]) s t) ∧
    (s.queueBytes + b.length ≤ 65536 → s.recBad b = false → s.fus.taken.contains (recSource b, recTime b) = false →
      s.measTime b ≤ s.now → ∃ t, exec (.intakeRecord b) s = .next t ∧ t.fus.queue = s.fus.queue ++ [⟨b, s.now⟩] ∧
        t.fus.taken = (recSource b, recTime b) :: s.fus.taken ∧ State.Within (parts ([.blk 0x06, .fus] ++ evParts)) s t))

/-- A BAR0 offset of no register and no window is reserved: a read returns 0 and a write is ignored, without side effect, and the
offsets from 0x15_0000 to 0x1F_FFFF are such (R565); of Meridian under lockout too (R392). -/
def Obligations.ReservedOffsets : Prop :=
  ∀ (r : Req) (off : BitVec 24) (size : Fin 9) (v : BitVec 64) (h : Word) (s : State),
    (0x150000 ≤ off.toNat → off.toNat < 0x200000 → regRow? off.toNat = none ∧ inRetained off.toNat = false ∧ inMeridian off.toNat = false) ∧
    (regRow? off.toNat = none → inRetained off.toNat = false →
      exec (.registerWrite r .bar0 off size v h) s = .next s ∧
      (off.toNat % 4 = 0 → exec (.readClear r .bar0 off 4) s = .next { s with readData := 0 }))

/-- A register without an effect of its own takes a write by its access codes: RW bits take the word, W1C bits written 1 clear unless
hardware sets them in the same clock, every other bit stays (R8, R40), and another size or alignment is discarded (R7).  A 1 to an RSV
bit stops: R9 of 00_scope.md leaves its behaviour undefined, and the stop is the model's choice (NOTES.md, Stops; log entry 44).  A block
answers only while its domain is on, its clock runs and the device is not DECOMMISSIONED (log entries 18, 26). -/
def Obligations.RegisterWritesFollowAccessCodes : Prop :=
  ∀ (r : Req) (v h : Word) (s : State), s.canonical = true →
    ∀ off ∈ [Reg.PWR_IO_SLEW, Reg.PWR_IO_FILT, Reg.THM_CFG, Reg.CDR_STATUS, Reg.CDR_OC_SRC_LO, Reg.FUS_STATUS, Reg.FUS_GATE,
      Reg.FUS_LIMITS, Reg.CTL_STATUS, Reg.CTL_MISS, Reg.EPH_STATUS, Reg.EPH_LIMITS, Reg.RDN_STATUS, Reg.RDN_CMP_CFG],
      s.blockOn off = true →
      (∃ row, regRow? off = some row ∧
        ((v &&& BitVec.ofNat 32 row.rsv) = 0 →
          ∃ t, exec (.registerWrite r .bar0 (BitVec.ofNat 24 off) 4 (v.setWidth 64) h) s = .next t ∧
            (∀ j, j < 32 → (t.rd off).getLsbD j =
              if row.rw.testBit j then v.getLsbD j
              else if row.w1c.testBit j && v.getLsbD j && !h.getLsbD j then false
              else (s.rd off).getLsbD j) ∧
            (∀ k, k ≠ off → t.rd k = s.rd k) ∧ t.mem = s.mem ∧ t.cdr = s.cdr ∧ t.now = s.now) ∧
        ((v &&& BitVec.ofNat 32 row.rsv) ≠ 0 →
          exec (.registerWrite r .bar0 (BitVec.ofNat 24 off) 4 (v.setWidth 64) h) s = .fault .reservedWrite)) ∧
      (∀ size : Fin 9, size.val ≠ 4 → exec (.registerWrite r .bar0 (BitVec.ofNat 24 off) size (v.setWidth 64) h) s = .next s)

/-- A read of an RC register returns its value and clears its RC bits; no other register changes (R8). -/
def Obligations.ReadsClear : Prop :=
  ∀ (r : Req) (s : State), s.canonical = true → s.variant = .ci →
    ∀ off ∈ [Reg.THM_MAX, Reg.THM_CNT, Reg.CDR_OVR_CNT, Reg.FUS_INTAKE, Reg.ORY_CNT_DL, Reg.ORY_CNT_EXC, Reg.ORY_ECC, Reg.CTL_CNT,
      Reg.EPH_CNT, Reg.RDN_CNT, Reg.PTP_TXTS_CNT, Reg.HIF_CNT, Reg.ALM_CNT, Reg.ALM_MERGED],
      s.blockOn off = true →
      ∃ row, regRow? off = some row ∧ ∃ t, exec (.readClear r .bar0 (BitVec.ofNat 24 off) 4) s = .next t ∧
        t.readData = (s.rd off &&& ~~~(BitVec.ofNat 32 row.rsv)).toNat ∧
        (∀ j, j < 32 → (t.rd off).getLsbD j = ((s.rd off).getLsbD j && !row.rc.testBit j)) ∧
        (∀ k, k ≠ off → t.rd k = s.rd k)

/-- The debug module's registers: a write in BLANK, PROVISIONED and RETURN takes effect, in SEALED and DECOMMISSIONED it is ignored;
in SEALED only dmstatus reads its value, and the IEEE 1149.1 port reaches the module only where the life-cycle state lets it (R521, R567).
With dmactive 0 dmcontrol alone takes writes; a halt request halts an available hart; a write changes nothing but the module.  Which of RISC-V Debug 0.13.2 the module has (version 2, authenticated, seven harts), and that a stop of
the root closes it, are the model's choices (log entry 26). -/
def Obligations.DebugModuleAccesses : Prop :=
  ∀ (r : Req) (a : BitVec 7) (v : Word) (s : State),
    (s.svDead = false → s.lc ≠ 2 → s.lc ≠ 4 →
      exec (.debugModuleAccess (.req r) a (some v)) s = .next (s.dmWrite a.toNat v.toNat) ∧
      exec (.debugModuleAccess .jtag a (some v)) s = .next (s.dmWrite a.toNat v.toNat) ∧
      exec (.debugModuleAccess .jtag a none) s = .next { s with readData := s.dmRead a.toNat }) ∧
    (s.svDead = true ∨ s.lc = 2 ∨ s.lc = 4 → exec (.debugModuleAccess (.req r) a (some v)) s = .next s ∧
      ∀ w, exec (.debugModuleAccess .jtag a w) s = .next s) ∧
    exec (.debugModuleAccess (.req r) a none) s = .next { s with
      readData := (if s.svDead = true ∨ s.lc = 2 ∧ a ≠ 0x11 then 0 else s.dmRead a.toNat % 2 ^ 32) } ∧
    (s.boot.dbg.active = false → (a ≠ 0x10 → s.dmWrite a.toNat v.toNat = s) ∧
      (v.getLsbD 0 = true → s.dmWrite 0x10 v.toNat = s.modDbg fun d => { d with active := true })) ∧
    (v.getLsbD 0 = false → (s.dmWrite 0x10 v.toNat).boot.dbg.active = false) ∧
    (∀ h : Fin 7, s.boot.dbg.active = true → s.hartAvail h.val = true →
      (s.dmWrite 0x10 (0x80000001 + h.val * 0x10000)).hartHalted h.val = true ∧
      (s.dmWrite 0x10 (0x80000001 + h.val * 0x10000)).dmHart = h.val) ∧
    s.dmRead 0x11 % 16 = 2 ∧ bitAt (s.dmRead 0x11) 7 = true ∧
    State.Within (parts [.boot, .freeCtr]) s (s.dmWrite a.toNat v.toNat) ∧ (s.dmWrite a.toNat v.toNat).boot.fuses = s.boot.fuses

/-- A core reports the end of its section (R85): PRE and POST count as done in the cycle they started in, FAST ends the hold of the
servo outputs (R83), and SLOW ends only where FAST does not run (R56).  What core 0 stored is in its own instance data and in the
exchange area, where core 1 reads it from the next cycle on (R72).  The model's choices: what a section stored arrives with its end (log entry 42), the
exchange area's address is open (log entry 28), and without PD_CYC no core reports (log entry 18). -/
def Obligations.SectionsEnd : Prop :=
  ∀ (ps : List (Nat × Byte)) (s : State),
    (s.domOn 4 = false → ∀ sec, exec (.sectionEnd sec ps) s = .next s) ∧
    (s.domOn 4 = true →
    (s.cdr.pre.running = true → ∃ t, exec (.sectionEnd 0 ps) s = .next t ∧ t.cdr.pre = .idle ∧
      t.cdr.preDone = (s.cdr.pre.cyc == s.cdr.cyc) ∧ t.cdr.post = s.cdr.post ∧ t.cdr.fast = s.cdr.fast) ∧
    (s.cdr.post.running = true → ∃ t, exec (.sectionEnd 1 ps) s = .next t ∧ t.cdr.post = .idle ∧
      t.cdr.postDone = (s.cdr.post.cyc == s.cdr.cyc) ∧ t.cdr.pre = s.cdr.pre ∧ t.cdr.fast = s.cdr.fast) ∧
    (s.cdr.fast.running = true → ∃ t, exec (.sectionEnd 2 ps) s = .next t ∧ t.cdr.fast = .idle ∧ t.cdr.servoHeld = false ∧
      t.cdr.pre = s.cdr.pre ∧ t.cdr.post = s.cdr.post) ∧
    (s.cdr.slow.running = true → s.cdr.fast.running = false → s.windowOpen = false →
      ∃ t, exec (.sectionEnd 3 ps) s = .next t ∧ t.cdr.slow = .idle ∧ t.cdr.fast = s.cdr.fast) ∧
    (s.cdr.pre.running = true → ∀ (k : Nat) (b : Byte), k < 512 →
      ∃ t, exec (.sectionEnd 0 [(0x2FFFE000 + k, b)]) s = .next t ∧ t.cdr.cmdNew = setAt s.cdr.cmdNew k b) ∧
    (s.cdr.pre.running = true → ∀ (k : Nat) (b : Byte), k < 0x80000 →
      ∃ t, exec (.sectionEnd 0 [(0x20000000 + k, b)]) s = .next t ∧ t.half.data 0 = sset ramByte (s.half.data 0) k b ∧
        t.half.data 1 = s.half.data 1 ∧ t.half.image = s.half.image) ∧
    (s.cdr.pre.running = true → ∀ (a : Nat) (b : Byte),
      ∃ t, exec (.sectionEnd 0 [(a, b)]) s = .next t ∧ t.half.data 1 = s.half.data 1 ∧ t.cdr.exRead = s.cdr.exRead ∧
        t.cdr.exWrite = (if 0x20000000 ≤ a ∧ a < 0x20080000 ∨ 0x2FFFE000 ≤ a ∧ a < 0x2FFFE300 then s.cdr.exWrite
          else if Config.exchangeBase ≤ a ∧ a < Config.exchangeBase + 4096 then sset ramByte s.cdr.exWrite (a - Config.exchangeBase) b
          else s.cdr.exWrite)) ∧
    (s.cdr.pre.running = false → exec (.sectionEnd 0 ps) s = .next s) ∧
    (s.cdr.post.running = false → exec (.sectionEnd 1 ps) s = .next s) ∧
    (s.cdr.fast.running = false → exec (.sectionEnd 2 ps) s = .next s) ∧
    (s.cdr.slow.running = false ∨ s.cdr.fast.running = true → exec (.sectionEnd 3 ps) s = .next s))

/-- A running section that the watchdog catches is a cycle fault, T_base after the section started, and no core faults while both are
stopped (R85, R86).  That the sequencer does nothing without PD_FAB is the model's reading (log entry 18, DEDUCED). -/
def Obligations.WatchdogAndStoppedCores : Prop :=
  ∀ s : State, s.canonical = true →
    (s.cdr.stopped = true → s.cdr.initLeft = [] →
      (∀ k, exec (.coreFault k) s = .next s) ∧ exec .ovrLimit s = .next s ∧ exec .fastOvrLimit s = .next s) ∧
    (s.cdr.stopped = false → s.cdr.initLeft = [] →
      (s.domOn 9 = true → s.cdr.post.running = true → ∃ t, exec (.sectionWatchdog 1) s = .next t ∧ t.cdr.post = .idle ∧ t.cdr.stopped = true ∧
        t.on F.CDR_STATUS_CYCLE_FAULT = true ∧ s.cdr.post.start + s.tbase ≤ t.now) ∧
      (s.domOn 9 = true → s.cdr.fast.running = true → ∃ t, exec (.sectionWatchdog 2) s = .next t ∧ t.cdr.fast = .idle ∧ t.cdr.stopped = true ∧
        t.on F.CDR_STATUS_CYCLE_FAULT = true ∧ s.cdr.fast.start + s.tbase ≤ t.now)) ∧
    exec (.sectionWatchdog 3) s = .next s

/-- Initialisation entries end one by one; after the last one the cores are released, the counts of overruns clear and PRE may start
50 µs later (R92, R93).  That no entry ends without PD_CYC is the model's reading (log entry 18, DEDUCED). -/
def Obligations.InitialisationEnds : Prop :=
  ∀ (core : Fin 2) (ps : List (Nat × Byte)) (s : State), s.canonical = true →
    (s.domOn 4 = false → exec (.initEntryDone core ps) s = .next s) ∧
    (s.domOn 4 = true →
    (core.val ∈ s.cdr.initLeft → (∃ c ∈ s.cdr.initLeft, c ≠ core.val) →
      ∃ t, exec (.initEntryDone core ps) s = .next t ∧ t.cdr.initLeft = s.cdr.initLeft.filter (· != core.val) ∧
        t.cdr.stopped = s.cdr.stopped) ∧
    (core.val ∈ s.cdr.initLeft → (∀ c ∈ s.cdr.initLeft, c = core.val) →
      ∃ t, exec (.initEntryDone core ps) s = .next t ∧ t.cdr.initLeft = [] ∧ t.cdr.stopped = false ∧ t.cdr.initFaults = 0 ∧
        t.cdr.startAt = some (s.now + 50000) ∧ t.fld F.CDR_STATUS_OVR_RUN = 0 ∧ t.now = s.now) ∧
    (core.val ∉ s.cdr.initLeft → exec (.initEntryDone core ps) s = .next s))

/-- RESTART leaves the request for the next INTAKE_CL with cause 1, and PROGRAM_STOP sets CDR_CTRL.STOP; neither acts on the cores at
once (R89, R94).  That neither does anything without PD_FAB is the model's reading (log entry 18, DEDUCED). -/
def Obligations.RestartAndStop : Prop :=
  ∀ (r : Req) (b : Bool) (s : State), s.canonical = true →
    (s.domOn 9 = false → exec (.restart r b) s = .next s ∧ exec (.programStop r b) s = .next s) ∧
    (s.domOn 9 = true →
    (∃ t, exec (.restart r b) s = .next t ∧ t.cdr.waiting = some ⟨b, 1⟩ ∧ t.cdr.initFaults = 0 ∧
      t.on F.CDR_CTRL_RESTART = true ∧ t.on F.CDR_CTRL_RESTART_TYPE = b ∧ t.cdr.stopped = s.cdr.stopped ∧ t.cdr.pre = s.cdr.pre) ∧
    (s.windowOpen = false → s.ocState = 1 ∨ s.ocState = 2 ∨ s.ocState = 3 →
      ∃ t, exec (.restart r b) s = .next t ∧ t.ocState = 0 ∧ t.fld F.CDR_OC_STATUS_RESULT = 6) ∧
    (∃ t, exec (.programStop r b) s = .next t ∧ t.on F.CDR_CTRL_STOP = b ∧ t.cdr = s.cdr ∧
      State.Within (parts [.blk 0x05]) s t))

/-- A staging word is written only to the program region, by a core that runs a section, from SOLVE_DL to STAGE_DL; of two writes in
one clock core 1's stays (R59, R60, R61).  That no core writes without PD_CYC is the model's reading (log entry 18, DEDUCED). -/
def Obligations.StagingWrites : Prop :=
  ∀ (core : Fin 2) (i : Fin 2048) (v w : Word) (s : State), s.canonical = true →
    (s.domOn 4 = false → ∀ o, exec (.stagingWrite core i v o) s = .next s) ∧
    (s.domOn 4 = true →
    (256 ≤ i.val → s.mayStage core.val = true →
      ∃ t, exec (.stagingWrite core i v none) s = .next t ∧ t.cdr.buf = sset (fun _ => (0 : Word)) s.cdr.buf i.val v ∧
        (v ≠ 0 ∨ swf (fun _ => (0 : Word)) s.cdr.buf = true → sget (fun _ => (0 : Word)) t.cdr.buf i.val = v) ∧
        (∀ j, j ≠ i.val → sget (fun _ => (0 : Word)) t.cdr.buf j = sget (fun _ => (0 : Word)) s.cdr.buf j) ∧
        State.Within (parts [.cdr]) s t) ∧
    (256 ≤ i.val → s.mayStage 0 = true → s.mayStage 1 = true →
      (∃ t, exec (.stagingWrite 0 i v (some w)) s = .next t ∧ t.cdr.buf = sset (fun _ => (0 : Word)) s.cdr.buf i.val w ∧
        t.on F.CDR_STATUS_STAGE_CONFLICT = true) ∧
      (∃ t, exec (.stagingWrite 1 i v (some w)) s = .next t ∧ t.cdr.buf = sset (fun _ => (0 : Word)) s.cdr.buf i.val v ∧
        t.on F.CDR_STATUS_STAGE_CONFLICT = true)) ∧
    (i.val < 256 ∨ s.mayStage core.val = false → ∀ o, exec (.stagingWrite core i v o) s = .next s))

/-- A checkpoint extends the signature, a CRC-32C over the values in the order written (R88).  That no core writes one without PD_CYC is
the model's reading (log entry 18, DEDUCED). -/
def Obligations.CheckpointsExtendTheSignature : Prop :=
  ∀ (v : Word) (s : State),
    (s.domOn 4 = true → s.core0Runs = true → ∃ t, exec (.checkpointWrite v) s = .next t ∧ t.cdr.sig = crc32cFrom s.cdr.sig (leBytes 4 v.toNat) ∧
      State.Within (parts [.cdr]) s t) ∧
    (s.domOn 4 = false ∨ s.core0Runs = false → exec (.checkpointWrite v) s = .next s)

/-- A read of a LO register of the Clock Drive returns bits 31:0 and latches the HI register (R34, R74, R78); without PD_FAB it returns 0
(R527; that the Clock Drive's registers lie in that domain is log entry 18, DEDUCED). -/
def Obligations.ClockDriveReadsLatch : Prop :=
  ∀ (r : Req) (s : State), s.canonical = true →
    (s.domOn 9 = false → ∀ i ∈ [Instr.cdrCycLoRead r, .cdrPtLoRead r, .cdrPtAdjLoRead r], exec i s = .next { s with readData := 0 }) ∧
    (s.domOn 9 = true →
    (∃ t, exec (.cdrCycLoRead r) s = .next t ∧ t.readData = s.cdr.cyc % 2 ^ 32 ∧ t.rdn Reg.CDR_CYC_HI = s.cdr.cyc / 2 ^ 32 % 2 ^ 32 ∧
      (∀ k, k ≠ Reg.CDR_CYC_HI → t.rd k = s.rd k) ∧ t.cdr = s.cdr) ∧
    (∃ t, exec (.cdrPtLoRead r) s = .next t ∧ t.readData = s.cdr.pt % 2 ^ 32 ∧ t.rdn Reg.CDR_PT_HI = s.cdr.pt / 2 ^ 32 % 2 ^ 32 ∧
      (∀ k, k ≠ Reg.CDR_PT_HI → t.rd k = s.rd k) ∧ t.cdr = s.cdr) ∧
    (∃ t, exec (.cdrPtAdjLoRead r) s = .next t ∧
      BitVec.ofNat 64 (t.readData + 2 ^ 32 * t.rdn Reg.CDR_PT_ADJ_HI) = BitVec.ofInt 64 s.cdr.ptAdj ∧ t.readData < 2 ^ 32 ∧
      (∀ k, k ≠ Reg.CDR_PT_ADJ_HI → t.rd k = s.rd k) ∧ t.cdr = s.cdr))

/-- The states of online change: LOAD from IDLE, the checks from LOADING, where those of an OC_LOAD with a SWITCH_CYC arm its switch (R475),
SWITCH from READY, COMMIT and ROLLBACK in TRIAL, CANCEL of LOADING, READY and ARMED, and TRIAL_LEN's automatic COMMIT in TRIAL; in any other
state each changes nothing (R96, R97, R102, R104).  The model's choices: a COMMIT leaves a trial whose rollback waits, a second rollback
request keeps the first one's code, and LOAD clears what the last change showed (log entry 28); without PD_FAB none of them acts (log entry
18, DEDUCED). -/
def Obligations.OnlineChangeStates : Prop :=
  ∀ (r : Req) (s : State), s.canonical = true →
    (s.domOn 9 = false → ∀ i ∈ [Instr.onlineChangeLoad r, .loadChecksDone, .onlineChangeSwitch r, .onlineChangeCommit r,
      .onlineChangeRollback r, .onlineChangeCancel r, .trialLenExpiry], exec i s = .next s) ∧
    (s.domOn 9 = true →
    (s.ocState = 0 → ∃ t, exec (.onlineChangeLoad r) s = .next t ∧ t.ocState = 1 ∧
      t.cdr.loading = (s.imageAt (s.rd64 Reg.CDR_OC_SRC_LO Reg.CDR_OC_SRC_HI)).1 ∧ t.half = s.half) ∧
    (s.ocState ≠ 0 → exec (.onlineChangeLoad r) s = .next s) ∧
    (s.ocState = 1 → s.carrierCyc = 0 → s.loadReject s.cdr.loading s.cdr.loadSig = 0 →
      ∃ t, exec .loadChecksDone s = .next t ∧ t.ocState = 2 ∧ t.spare.image = s.cdr.loading ∧ t.half = s.half) ∧
    (s.ocState = 1 → s.carrierCyc ≠ 0 → s.loadReject s.cdr.loading s.cdr.loadSig = 0 →
      ∃ t, exec .loadChecksDone s = .next t ∧ t.spare.image = s.cdr.loading ∧ t.half = s.half ∧
        t.rd64 Reg.CDR_OC_CYC_LO Reg.CDR_OC_CYC_HI = s.carrierCyc ∧
        (s.cdr.cyc < s.carrierCyc → t.ocState = 3) ∧
        (s.carrierCyc ≤ s.cdr.cyc → t.ocState = 2 ∧ t.fld F.CDR_OC_STATUS_RESULT = 7)) ∧
    (s.ocState = 1 → s.loadReject s.cdr.loading s.cdr.loadSig ≠ 0 →
      ∃ t, exec .loadChecksDone s = .next t ∧ t.ocState = 0 ∧ t.fld F.CDR_OC_STATUS_RESULT = 4 ∧
        t.fld F.CDR_OC_STATUS_REJECT = s.loadReject s.cdr.loading s.cdr.loadSig ∧ t.spare = .empty ∧ t.half = s.half) ∧
    (s.ocState ≠ 1 → exec .loadChecksDone s = .next s) ∧
    (s.ocState = 2 → s.cdr.cyc < s.rd64 Reg.CDR_OC_CYC_LO Reg.CDR_OC_CYC_HI →
      ∃ t, exec (.onlineChangeSwitch r) s = .next t ∧ t.ocState = 3) ∧
    (s.ocState = 2 → s.rd64 Reg.CDR_OC_CYC_LO Reg.CDR_OC_CYC_HI ≤ s.cdr.cyc →
      ∃ t, exec (.onlineChangeSwitch r) s = .next t ∧ t.ocState = 2 ∧ t.fld F.CDR_OC_STATUS_RESULT = 7) ∧
    (s.ocState ≠ 2 → exec (.onlineChangeSwitch r) s = .next s) ∧
    (s.ocState = 4 → s.cdr.rollback = none → ∃ t, exec (.onlineChangeCommit r) s = .next t ∧ t.ocState = 0 ∧
      t.fld F.CDR_OC_STATUS_RESULT = 1 ∧ t.spare = .empty ∧ t.half = s.half) ∧
    (s.ocState ≠ 4 ∨ s.cdr.rollback ≠ none → exec (.onlineChangeCommit r) s = .next s) ∧
    (s.ocState = 4 → s.cdr.rollback = none → ∃ t, exec (.onlineChangeRollback r) s = .next t ∧ t.cdr.rollback = some .host ∧
      t.half = s.half ∧ t.spare = s.spare) ∧
    (s.ocState ≠ 4 ∨ s.cdr.rollback ≠ none → exec (.onlineChangeRollback r) s = .next s) ∧
    (s.ocState = 1 ∨ s.ocState = 2 ∨ s.ocState = 3 → ∃ t, exec (.onlineChangeCancel r) s = .next t ∧ t.ocState = 0 ∧
      t.fld F.CDR_OC_STATUS_RESULT = 6 ∧ t.half = s.half) ∧
    (s.ocState = 0 ∨ s.ocState = 4 → exec (.onlineChangeCancel r) s = .next s) ∧
    (s.ocState = 4 → s.cdr.rollback = none → s.on F.CDR_OC_CTRL_AUTO_COMMIT = true → s.trialLen ≤ s.cdr.trial →
      ∃ t, exec .trialLenExpiry s = .next t ∧ t.ocState = 0 ∧ t.fld F.CDR_OC_STATUS_RESULT = 1) ∧
    (s.ocState ≠ 4 ∨ s.cdr.rollback ≠ none ∨ s.on F.CDR_OC_CTRL_AUTO_COMMIT = false ∨ s.cdr.trial < s.trialLen →
      exec .trialLenExpiry s = .next s))

/-- A job descriptor of the application cluster joins the queue in class 8, or completes at once with the status of its refusal in
byte 4 of its result (R154, R165 to R167, R171, R193).  Its PRED is the structure's as of the post (R180).  A frozen device posts
nothing (R499).  The model's choices: the order of the checks, ENABLE before BAD_DESCRIPTOR and QUEUE_FULL last (log entry 36, DEDUCED),
that a frozen device takes no descriptor at all (log entry 27, DESIGN CHOICE), and no post without PD_CPU (log entry 18, DEDUCED). -/
def Obligations.OrreryPosts : Prop :=
  ∀ (r : Req) (b : List Byte) (s : State), s.canonical = true → s.ory.done = [] →
    ∀ c ∈ [(1, Instr.qpAdmm r b none), (2, .kfQr r b), (3, .lap r b), (4, .sim r b), (14, .load r b), (15, .free r b)],
      bitAt (readDesc c.1 b).ctrl 1 = false →
      (s.domOn 3 = false ∨ s.alm.frozen = true → exec c.2 s = .next s) ∧
      (s.domOn 3 = true → s.alm.frozen = false →
      (s.on F.ORY_CTRL_ENABLE = true → descOk (readDesc c.1 b) = true → s.slotOk 5 (readDesc c.1 b) = true →
        s.quadOn ((readDesc c.1 b).eng / 16) = true →
        s.openLevel ((readDesc c.1 b).eng / 16) + 1 ≤ s.freeEntries ((readDesc c.1 b).eng / 16) →
        ∃ t, exec c.2 s = .next t ∧
          t.ory = { s.ory with queue := s.ory.queue ++ [⟨readDesc c.1 b, .app, 8, none, some (s.jobDl (readDesc c.1 b)),
            s.jobPred ⟨readDesc c.1 b, .app, 8, none, some (s.jobDl (readDesc c.1 b)), 0⟩⟩] } ∧
          t.mem = s.mem ∧ t.now = s.now) ∧
      (s.on F.ORY_CTRL_ENABLE = false → ∃ t, exec c.2 s = .next t ∧ t.ory.queue = s.ory.queue ∧ t.ory.runs = s.ory.runs ∧
        sget ramByte t.mem.sram ((readDesc c.1 b).resAddr % 2 ^ 24 + 4) = BitVec.ofNat 8 stAborted) ∧
      (s.on F.ORY_CTRL_ENABLE = true → (descOk (readDesc c.1 b) && s.slotOk 5 (readDesc c.1 b)) = false →
        ∃ t, exec c.2 s = .next t ∧ t.ory.queue = s.ory.queue ∧ t.ory.runs = s.ory.runs ∧
        sget ramByte t.mem.sram ((readDesc c.1 b).resAddr % 2 ^ 24 + 4) = BitVec.ofNat 8 stBadDesc) ∧
      (s.on F.ORY_CTRL_ENABLE = true → descOk (readDesc c.1 b) = true → s.slotOk 5 (readDesc c.1 b) = true →
        s.quadOn ((readDesc c.1 b).eng / 16) = true →
        s.freeEntries ((readDesc c.1 b).eng / 16) < s.openLevel ((readDesc c.1 b).eng / 16) + 1 →
        ∃ t, exec c.2 s = .next t ∧ t.ory.queue = s.ory.queue ∧ t.ory.runs = s.ory.runs ∧
        sget ramByte t.mem.sram ((readDesc c.1 b).resAddr % 2 ^ 24 + 4) = BitVec.ofNat 8 stQueueFull))

/-- A QP-ADMM descriptor with CHAIN and the SIM that follows it take two entries and join the queue as one job (R154, R167).  That the
pair takes two entries, of which its plan entry reserves one, is the model's choice (log entry 36). -/
def Obligations.OrreryChainedPost : Prop :=
  ∀ (r : Req) (b ch : List Byte) (s : State), s.domOn 3 = true → s.ory.done = [] → s.alm.frozen = false → s.on F.ORY_CTRL_ENABLE = true →
    descOk (readDesc 1 b) = true → s.slotOk 5 (readDesc 1 b) = true → descOk (readDesc 4 ch) = true → s.slotOk 5 (readDesc 4 ch) = true →
    chainOk (readDesc 1 b) (some (readDesc 4 ch)) = true → s.quadOn ((readDesc 1 b).eng / 16) = true →
    s.openLevel ((readDesc 1 b).eng / 16) + 2 ≤ s.freeEntries ((readDesc 1 b).eng / 16) →
    ∃ t, exec (.qpAdmm r b (some ch)) s = .next t ∧
      t.ory = { s.ory with
        queue := s.ory.queue ++ [⟨readDesc 1 b, .app, 8, some ⟨readDesc 4 ch, .app, some (s.jobDl (readDesc 4 ch))⟩,
          some (s.jobDl (readDesc 1 b)), s.jobPred ⟨readDesc 1 b, .app, 8, some ⟨readDesc 4 ch, .app, some (s.jobDl (readDesc 4 ch))⟩,
            some (s.jobDl (readDesc 1 b)), 0⟩⟩] } ∧
      t.openLevel ((readDesc 1 b).eng / 16) = s.openLevel ((readDesc 1 b).eng / 16) + 2

/-- A plan entry's release, a grant of the first grantable job, and the end of a run or of a wait at its deadline (R180, R183, R188,
R189).  A run ends at PRED after its start, and later only under spread (R534).  The model's choices: the status of a job whose slot holds
a structure of another type, and the SIM's records applied at the grant of its chain (log entry 36); the Orrery stops with the root (log
entry 18). -/
def Obligations.OrreryRunsJobs : Prop :=
  ∀ s : State, s.canonical = true → s.ory.done = [] →
    (s.svDead = true → (∀ slot, exec (.jobRelease slot) s = .next s) ∧ (∀ e, exec (.engineGrant e) s = .next s) ∧
      (∀ e n, exec (.jobResult e n) s = .next s) ∧ ∀ k n f, exec (.jobDeadline k n f) s = .next s) ∧
    (∀ slot : Fin 127, s.svDead = false → (s.planEntry slot.val).role ≠ 0 → ∃ t, exec (.jobRelease slot) s = .next t ∧ slot.val ∈ t.ory.released ∧
      s.releaseAt (s.planEntry slot.val) ≤ t.now) ∧
    (∀ slot : Fin 127, (s.planEntry slot.val).role = 0 → exec (.jobRelease slot) s = .next s) ∧
    (∀ (eng : Fin 64) (j : Job) (st : Struct), s.runOf eng.val = none → s.quadOn (eng.val / 16) = true →
      firstJob (s.grantable eng.val) = some j → j.pass2 = false → j.d.ty ≠ 14 → j.d.ty ≠ 15 → s.finds j.d = some st →
      (s.jobDeltas j.d).all (deltaOk st) = true →
      ∃ t, exec (.engineGrant eng) s = .next t ∧ t.ory.queue = s.ory.queue.erase j ∧
        t.ory.runs = s.ory.runs ++ [⟨j.d.eng, j, s.now, s.now, predOf st j.d (s.jobDeltas j.d) false, s.jobDeltas j.d,
          s.jobAux st j.d, none, none, none, none, s.simRecords j⟩] ∧ (j.chain = none → t.ory.structs = s.ory.structs)) ∧
    (∀ (eng : Fin 64) (j : Job), s.runOf eng.val = none → s.quadOn (eng.val / 16) = true →
      firstJob (s.grantable eng.val) = some j → j.pass2 = false →
      (j.d.ty ≠ 14 → s.finds j.d = none → j.src = .app → j.chain = none → ∃ t, exec (.engineGrant eng) s = .next t ∧
        t.ory.queue = s.ory.queue.erase j ∧ t.ory.runs = s.ory.runs ∧ t.ory.structs = s.ory.structs ∧
        sget ramByte t.mem.sram (j.d.resAddr % 2 ^ 24 + 4) = BitVec.ofNat 8 stMismatch) ∧
      (j.d.ty = 15 → (s.finds j.d).isSome = true → ∃ t x, exec (.engineGrant eng) s = .next t ∧
        t.ory.queue = s.ory.queue.erase j ∧ t.ory.runs = s.ory.runs ++ [x] ∧ x.job = j ∧ x.grant = s.now) ∧
      (∀ st, j.d.ty = 14 → s.loadStruct j.d = some st → s.areaUsed j.d.eng j.d.ss + st.size ≤ 245760 →
        ∃ t x, exec (.engineGrant eng) s = .next t ∧ t.ory.queue = s.ory.queue.erase j ∧ t.ory.runs = s.ory.runs ++ [x] ∧
          x.job = j ∧ x.image = some st)) ∧
    (∀ eng : Fin 64, firstJob (s.grantable eng.val) = none → exec (.engineGrant eng) s = .next s) ∧
    (∀ eng : Fin 64, (s.runOf eng.val).isSome = true ∨ s.quadOn (eng.val / 16) = false → exec (.engineGrant eng) s = .next s) ∧
    (∀ (eng : Fin 64) (corr : Nat) (x : Run), s.svDead = false → s.runOf eng.val = some x → x.job.src = .app → x.job.chain = none →
      x.job.pass2 = false →
      ∃ t, exec (.jobResult eng corr) s = .next t ∧ t.runOf eng.val = none ∧ x.start + x.pred ≤ t.now ∧ t.ory.done = [] ∧
        (s.depth = 0 → s.runEnd x = x.start + x.pred) ∧
        (x.job.d.ty = 15 → t.struct? x.job.d.eng x.job.d.ss = none) ∧ (x.job.d.ty = 14 → t.struct? x.job.d.eng x.job.d.ss = x.image) ∧
        ∃ res : JobRes, t.mem.sram = writeBytes ramByte s.mem.sram (x.job.d.resAddr % 2 ^ 24) (res.bytes x.job.d)) ∧
    (∀ (eng : Fin 64) (corr : Nat), s.runOf eng.val = none → exec (.jobResult eng corr) s = .next s) ∧
    (∀ (slot : Fin 127) (n : Progress) (f : Bool) (j : Job), s.svDead = false → s.tb.freeStep = none →
      (∀ x ∈ s.ory.runs, x.job.d.slot ≠ slot.val) → (s.ory.queue.filter fun x => x.d.slot == slot.val) = [j] → j.src = .app →
      ∃ t, exec (.jobDeadline slot n f) s = .next t ∧ t.ory.queue = s.ory.queue.erase j ∧ t.ory.runs = s.ory.runs ∧
        j.dl.getD 0 ≤ t.now ∧
        (j.chain = none → sget ramByte t.mem.sram (j.d.resAddr % 2 ^ 24 + 4) = BitVec.ofNat 8 stNotStarted)) ∧
    (∀ (slot : Fin 127) (n : Progress) (f : Bool) (x : Run), s.svDead = false → s.tb.freeStep = none → (s.ory.runs.filter fun r => r.job.d.slot == slot.val) = [x] →
      (∀ j ∈ s.ory.queue, j.d.slot ≠ slot.val) → x.job.src = .app → x.job.chain = none → x.job.pass2 = false → x.job.d.ty ≠ 14 →
      x.job.d.ty ≠ 15 → ∃ t, exec (.jobDeadline slot n f) s = .next t ∧ t.ory.queue = s.ory.queue ∧
        t.ory.runs = s.ory.runs.filter (fun r => r.eng != x.eng) ∧ x.job.dl.getD 0 ≤ t.now ∧
        ∃ res : JobRes, t.mem.sram = writeBytes ramByte s.mem.sram (x.job.d.resAddr % 2 ^ 24) (res.bytes x.job.d)) ∧
    (∀ (slot : Fin 127) (n : Progress) (f : Bool), (∀ x ∈ s.ory.runs, x.job.d.slot ≠ slot.val) →
      (∀ x ∈ s.ory.queue, x.d.slot ≠ slot.val) → exec (.jobDeadline slot n f) s = .next s)

/-- An ECC error marks the structure lost and shows it (R159); HOST_ABORT leaves no job of class 9 (R171); PLAN_COMMIT is noted for
the next sample instant (R191), or for the one after where device time has reached that (log entry 51, DEDUCED).  The Orrery stops with
the root (log entry 18), and its registers answer while their block does. -/
def Obligations.OrreryStructuresAndPlan : Prop :=
  ∀ s : State, s.canonical = true →
    (∀ (eng : Fin 64) (ss : Fin 4) (st : Struct), s.svDead = false → s.struct? eng.val ss.val = some st →
      ∃ t, exec (.structEccLost eng ss) s = .next t ∧ t.struct? eng.val ss.val = some { st with state := 3 } ∧
        (∀ (e z : Nat), ssKey e z ≠ ssKey eng.val ss.val → t.struct? e z = s.struct? e z) ∧
        t.on F.ORY_STATUS_STRUCT_LOST = true ∧ t.ory.queue = s.ory.queue ∧ t.ory.runs = s.ory.runs) ∧
    (∀ (eng : Fin 64) (ss : Fin 4), s.svDead = true ∨ s.struct? eng.val ss.val = none → exec (.structEccLost eng ss) s = .next s) ∧
    (s.blockOn Reg.ORY_CTRL = false → ∀ r : Req, exec (.hostAbort r) s = .next s ∧ exec (.planCommit r) s = .next s) ∧
    (∀ r : Req, s.blockOn Reg.ORY_CTRL = true → s.ory.done = [] → ∃ t, exec (.hostAbort r) s = .next t ∧ (∀ j ∈ t.ory.queue, j.cls ≠ 9) ∧
      (∀ x ∈ t.ory.runs, x.job.cls ≠ 9)) ∧
    (∀ r : Req, s.blockOn Reg.ORY_CTRL = true → ∃ t, exec (.planCommit r) s = .next t ∧ t.ory = { s.ory with
        commit := true, commitLate := s.commitTie s.ory.commit s.ory.commitLate } ∧ t.on F.ORY_CTRL_PLAN_COMMIT = true ∧
      State.Within (parts [.blk 0x07, .ory]) s t)

/-- The commit bits of the control engine and of Ephemeris are set and nothing else changes (R199, R201, R238), but that a commit whose
sample instant device time has reached waits for the one after (log entry 51, DEDUCED).  Without PD_FAB nothing does (log entry 18,
DEDUCED). -/
def Obligations.ControlCommits : Prop :=
  ∀ (r : Req) (s : State), s.canonical = true →
    (s.domOn 9 = false → ∀ i ∈ [Instr.setCommit r, .paramCommit r, .tableCommit r], exec i s = .next s) ∧
    (s.domOn 9 = true →
    (∃ t, exec (.setCommit r) s = .next t ∧ t.on F.CTL_CTRL_SET_COMMIT = true ∧
      t.on F.CTL_CTRL_ENABLE = s.on F.CTL_CTRL_ENABLE ∧ t.on F.CTL_CTRL_PARAM_COMMIT = s.on F.CTL_CTRL_PARAM_COMMIT ∧
      t.ctl = { s.ctl with setLate := s.commitTie (s.on F.CTL_CTRL_SET_COMMIT) s.ctl.setLate } ∧
      State.Within (parts [.blk 0x08, .ctl]) s t) ∧
    (∃ t, exec (.paramCommit r) s = .next t ∧ t.on F.CTL_CTRL_PARAM_COMMIT = true ∧
      t.on F.CTL_CTRL_ENABLE = s.on F.CTL_CTRL_ENABLE ∧ t.on F.CTL_CTRL_SET_COMMIT = s.on F.CTL_CTRL_SET_COMMIT ∧
      t.ctl = { s.ctl with parLate := s.commitTie (s.on F.CTL_CTRL_PARAM_COMMIT) s.ctl.parLate } ∧
      State.Within (parts [.blk 0x08, .ctl]) s t) ∧
    (∃ t, exec (.tableCommit r) s = .next t ∧ t.on F.EPH_CTRL_TABLE_COMMIT = true ∧
      t.on F.EPH_CTRL_ENABLE = s.on F.EPH_CTRL_ENABLE ∧
      t.eph = { s.eph with tabLate := s.commitTie (s.on F.EPH_CTRL_TABLE_COMMIT) s.eph.tabLate } ∧
      State.Within (parts [.blk 0x09, .eph]) s t))

/-- The states of a Collimation run: START arms one whose CTL_COL_CYC is ahead, unless a run is ARMED or RUNNING; STOP aborts an ARMED
or RUNNING run; DUR cycles end a RUNNING one (R229). -/
def Obligations.CollimationStates : Prop :=
  ∀ (r : Req) (s : State), s.domOn 9 = true → s.canonical = true →
    (s.fld F.CTL_COL_STATUS_STATE ≠ 1 → s.fld F.CTL_COL_STATUS_STATE ≠ 2 → s.cdr.cyc < s.colCyc →
      ∃ t, exec (.collimationStart r) s = .next t ∧ t.fld F.CTL_COL_STATUS_STATE = 1 ∧ t.fld F.CTL_COL_STATUS_SAMPLES = 0 ∧
        t.ctl.u = 0 ∧ t.ctl.capture = true ∧ t.on F.CTL_STATUS_COLLIM = false) ∧
    (s.fld F.CTL_COL_STATUS_STATE = 1 ∨ s.fld F.CTL_COL_STATUS_STATE = 2 ∨ s.colCyc ≤ s.cdr.cyc →
      exec (.collimationStart r) s = .next s) ∧
    (s.fld F.CTL_COL_STATUS_STATE = 1 ∨ s.fld F.CTL_COL_STATUS_STATE = 2 →
      ∃ t, exec (.collimationStop r) s = .next t ∧ t.fld F.CTL_COL_STATUS_STATE = 4 ∧ t.fld F.CTL_COL_STATUS_REASON = 6 ∧
        t.ctl.u = 0 ∧ t.on F.CTL_STATUS_COLLIM = false) ∧
    (s.fld F.CTL_COL_STATUS_STATE ≠ 1 → s.fld F.CTL_COL_STATUS_STATE ≠ 2 → exec (.collimationStop r) s = .next s) ∧
    (s.fld F.CTL_COL_STATUS_STATE = 2 → s.colCyc + s.fld F.CTL_COL_DUR_DUR ≤ s.cdr.cyc →
      ∃ t, exec .collimationDone s = .next t ∧ t.fld F.CTL_COL_STATUS_STATE = 3 ∧ t.ctl.u = 0 ∧ t.on F.CTL_STATUS_COLLIM = false) ∧
    (s.fld F.CTL_COL_STATUS_STATE ≠ 2 ∨ s.cdr.cyc < s.colCyc + s.fld F.CTL_COL_DUR_DUR → exec .collimationDone s = .next s)

/-- MISS_LIMIT misses lose the solver (R227), which aborts a Collimation run (R232); a thruster that has counted SECTOR_DWELL cycles
toward an edge takes the sector across it in the next cycle, where its measured azimuth lies in it (R222). -/
def Obligations.SolverAndSectors : Prop :=
  ∀ s : State, s.domOn 9 = true → s.canonical = true →
    (s.missLimit ≤ s.fld F.CTL_MISS_MISS_RUN → s.on F.CTL_STATUS_SOLVER_LOST = false →
      ∃ t, exec .solverLost s = .next t ∧ t.on F.CTL_STATUS_SOLVER_LOST = true ∧ t.cdr = s.cdr ∧
        (s.colRuns = false → t.ctl = s.ctl) ∧
        (s.colRuns = true → t.fld F.CTL_COL_STATUS_STATE = 4 ∧ t.fld F.CTL_COL_STATUS_REASON = 5 ∧ t.ctl.u = 0)) ∧
    (s.fld F.CTL_MISS_MISS_RUN < s.missLimit ∨ s.on F.CTL_STATUS_SOLVER_LOST = true → exec .solverLost s = .next s) ∧
    (∀ (k : Fin 24) (x : Thr), (s.thrs.find? fun z => z.idx == k.val && z.isAz) = some x →
      (s.ctl.edges.getD x.idx (0, 0)).1 ≠ 0 → s.dwell ≤ (s.ctl.edges.getD x.idx (0, 0)).2 →
      inSector (x.sects.getD (sectAcross x.sects.length (s.sector x.idx) (s.ctl.edges.getD x.idx (0, 0)).1) (0, 0)) (s.fbAz x.idx) = true →
      ∃ t, exec (.sectorSwitch k) s = .next t ∧ t.ctl.nextSect = s.ctl.nextSect ++
        [(x.idx, sectAcross x.sects.length (s.sector x.idx) (s.ctl.edges.getD x.idx (0, 0)).1)] ∧
        t.on F.CTL_STATUS_SECT_SWITCH = true ∧ t.cdr = s.cdr) ∧
    (∀ (k : Fin 24), (∀ x, (s.thrs.find? fun z => z.idx == k.val && z.isAz) = some x → (s.ctl.edges.getD x.idx (0, 0)).1 = 0) →
      exec (.sectorSwitch k) s = .next s)

/-- Ephemeris: a latch that is not acknowledged in time shows ACK_OVERDUE (R249), the load-shed request ends LS_HOLD cycles after its
assertion, at the output instant, unless a new deficit restarts it (R256), and a fallback ends FB_MAX_AGE cycles after it was stored (R247). -/
def Obligations.EphemerisTimers : Prop :=
  ∀ s : State, s.domOn 9 = true → s.canonical = true →
    (∀ h : Fin 63, s.overdue h.val = true → ∃ t, exec (.ackOverdue h) s = .next t ∧ t.on F.EPH_STATUS_ACK_OVERDUE = true ∧ t.eph = s.eph) ∧
    (∀ h : Fin 63, s.overdue h.val = false → exec (.ackOverdue h) s = .next s) ∧
    (s.on F.EPH_STATUS_LS_ACTIVE = true → s.eph.lsEnd ≤ s.cdr.cyc → ∃ t, exec .lsHoldExpiry s = .next t ∧
      s.at F.CDR_OFS_C_OUT_OFFSET ≤ t.now ∧ t.on F.EPH_STATUS_LS_ACTIVE = s.eph.lsDue ∧ t.eph = s.eph ∧
      t.dio.lsOut = (s.eph.lsDue && s.dio.lsOut)) ∧
    (s.on F.EPH_STATUS_LS_ACTIVE = false ∨ s.cdr.cyc < s.eph.lsEnd → exec .lsHoldExpiry s = .next s) ∧
    (∀ (h : Fin 63) (f : Fallback), (s.hyp h.val).fb = some f → f.cyc + s.fbMaxAge < s.cdr.cyc →
      ∃ t, exec (.fallbackExpiry h) s = .next t ∧ t.hyp h.val = { s.hyp h.val with fb := none } ∧
        (∀ k, k ≠ h.val → t.hyp k = s.hyp k) ∧ State.Within (parts [.eph]) s t) ∧
    (∀ (h : Fin 63), (∀ f, (s.hyp h.val).fb = some f → s.cdr.cyc ≤ f.cyc + s.fbMaxAge) → exec (.fallbackExpiry h) s = .next s)

/-- A trip cause that occurs is latched in every state of a powered guard, and in SAFE, ARMED or DEGRADED trips it: it holds and takes
claim enable away (R262, R265, R266, R281).  An input without a filter takes its cause at once, one with a filter once it has stayed
active to the filter's end (R283).  The model's choices: a second EDS_IN or GUARD_TRIP while the input is active says that it outlasted
its filter (log entry 45, DESIGN CHOICE), and the first supervisor write and the edges of the bands are as log entry 24 (DEDUCED) has
them. -/
def Obligations.TripCauses : Prop :=
  ∀ s : State, s.canonical = true → s.grd.powered = true →
    ∀ c : Instr × Nat,
      ((c = (.edsIn, 0) ∧ s.grd.eds = false ∧ s.edsEn = true ∧ s.grdFilt 15 = 0) ∨
       (c = (.edsIn, 0) ∧ s.grd.eds = true ∧ s.grd.edsAt.isSome = true) ∨
       (c = (.guardTrip, 1) ∧ s.grd.gt = false ∧ s.grdFilt 18 = 0) ∨
       (c = (.guardTrip, 1) ∧ s.grd.gt = true ∧ s.grd.gtAt.isSome = true) ∨
       (∃ w t b, c = (.heartbeatArrival w t, 2) ∧ s.grdRuns = true ∧ s.grd.beat = some b ∧ beatOk s.grdTbase b w t = false) ∨
       (∃ w t b, c = (.supervisorHeartbeat w t, 4) ∧ s.grdRuns = true ∧ s.pow.svStopped = false ∧ s.grd.sv = some b ∧ svOk s.grdTfast b w t = false) ∨
       (∃ w t, c = (.supervisorHeartbeat w t, 4) ∧ s.grdRuns = true ∧ s.pow.svStopped = false ∧ s.grd.sv = none ∧ w ≠ svWord0 ∧ w ≠ svWord1) ∨
       (c = (.svHbTimeout, 4) ∧ s.grdRuns = true ∧ s.grd.sv.isSome = true) ∨ c = (.holdFb true true, 5) ∨ c = (.paramMismatch, 6) ∨
       (c = (.degLimitExpiry, 9) ∧ s.grd.degStart.isSome = true ∧ s.gstate = gDegraded) ∨
       (∃ n, c = (.clockMonitor n, 7) ∧ (n < 89844 ∨ 105469 < n)) ∨ (∃ mV, c = (.vddGuardBand mV, 8) ∧ (mV < 900 ∨ 1100 < mV))) →
      ∃ t, exec c.1 s = .next t ∧ t.grd.latched.testBit c.2 = true ∧ t.grd.present.testBit c.2 = true ∧
        bitAt (t.fld F.GRD_CAUSE_CAUSE) c.2 = true ∧ t.grdHolds = true ∧ t.grdClaimEn = false ∧
        t.gstate = (if s.gstate = gSafe ∨ s.gstate = gArmed ∨ s.gstate = gDegraded then gTripped else s.gstate)

/-- What is no cause changes nothing: counts and levels in range, inputs already active, timeouts that do not run (R279 to R286), and
a second decision in a cycle (R277); a level in range shows VDD_GUARD valid again (R547).  EDS_IN without EDS_EN shows its level alone,
and an input with a filter waits for the filter's end (R283).  The model's choices: no supervisor timeout before a first write and the
edges of the bands inside them (log entry 24, DEDUCED), and the filter measured from the command (log entry 45). -/
def Obligations.GuardIgnores : Prop :=
  ∀ s : State,
    (∀ n, 89844 ≤ n → n ≤ 105469 → exec (.clockMonitor n) s = .next s) ∧
    (∀ mV, 950 ≤ mV → mV ≤ 1050 → s.grd.powered = false ∨ s.railOk 3 = true → exec (.vddGuardBand mV) s = .next s) ∧
    (∀ mV, 950 ≤ mV → mV ≤ 1050 → s.canonical = true → s.grd.powered = true → s.railOk 3 = false →
      ∃ t, exec (.vddGuardBand mV) s = .next t ∧ t.railOk 3 = true ∧ t.grd = s.grd ∧ t.gstate = s.gstate) ∧
    (s.grd.eds = true → s.grd.edsAt = none → exec .edsIn s = .next s) ∧
    (s.grd.gt = true → s.grd.gtAt = none → exec .guardTrip s = .next s) ∧
    (s.canonical = true → s.grd.eds = false →
      (s.edsEn = false → ∃ t, exec .edsIn s = .next t ∧ t.grd = { s.grd with eds := true } ∧ t.on F.GRD_STATUS_EDS_ACT = true ∧
        t.gstate = s.gstate) ∧
      (s.edsEn = true → 0 < s.grdFilt 15 → ∃ t, exec .edsIn s = .next t ∧
        t.grd = { s.grd with eds := true, edsAt := some (s.now + s.grdFilt 15 : Nat) } ∧ t.on F.GRD_STATUS_EDS_ACT = true ∧
        t.gstate = s.gstate)) ∧
    (s.canonical = true → s.grd.gt = false → 0 < s.grdFilt 18 → ∃ t, exec .guardTrip s = .next t ∧
      t.grd = { s.grd with gt := true, gtAt := some (s.now + s.grdFilt 18 : Nat) } ∧ t.on F.GRD_STATUS_GT_ACT = true ∧
      t.gstate = s.gstate) ∧
    (∀ n, n < 1000000 ∨ s.grd.powered = false → exec (.guardRst n) s = .next s) ∧
    (s.grdRuns = false → (∀ w t, exec (.heartbeatArrival w t) s = .next s) ∧ (∀ w t, exec (.supervisorHeartbeat w t) s = .next s) ∧
      exec .svHbTimeout s = .next s) ∧
    (s.pow.svStopped = true → ∀ w t, exec (.supervisorHeartbeat w t) s = .next s) ∧
    (s.grd.sv = none → exec .svHbTimeout s = .next s) ∧
    (s.grd.degStart = none → exec .degLimitExpiry s = .next s) ∧
    (bitAt (s.rdn Reg.GRD_DEG) 2 = true ∨ s.grd.powered = false → exec .ckbkpMissing s = .next s) ∧
    (s.gstate ≠ gLoad → (∀ b f, exec (.guardImageLoad b f) s = .next s) ∧ exec .guardLoadTimeout s = .next s) ∧
    (s.cdr.grid = false ∨ s.grd.decided = true → ∀ d, exec (.guardDecision d) s = .next s) ∧
    exec .hbWindowClose s = .next s

/-- A condition that ends is no longer present (R281), and an accepted GUARD_RST clears the latched EDS, GT and HOLD_FB causes that
are absent; with none latched and none present TRIPPED ends in SAFE (R265, R282), where a cycle released before still applies (R284).
CKBKP_MISSING is no trip cause (R286).  That an input which has outlasted its filter by the release or by GUARD_RST is a cause first (R283)
is the model's reading (log entry 45, DEDUCED; the commands' times DESIGN CHOICE). -/
def Obligations.CausesClear : Prop :=
  ∀ s : State, s.canonical = true →
    (∃ t, exec .edsInReleased s = .next t ∧ t.grd.eds = false ∧ t.grd.edsAt = none ∧ t.on F.GRD_STATUS_EDS_ACT = false ∧
      bitAt t.grd.present 0 = false ∧ (s.grd.powered = true → s.inputDue s.grd.edsAt = true → t.grd.latched.testBit 0 = true)) ∧
    (∃ t, exec .guardTripReleased s = .next t ∧ t.grd.gt = false ∧ t.grd.gtAt = none ∧ t.on F.GRD_STATUS_GT_ACT = false ∧
      bitAt t.grd.present 1 = false ∧ (s.grd.powered = true → s.inputDue s.grd.gtAt = true → t.grd.latched.testBit 1 = true)) ∧
    (s.grd.powered = true → ∃ t, exec .ckbkpMissing s = .next t ∧ bitAt (t.rdn Reg.GRD_DEG) 2 = true ∧ t.grd.latched = s.grd.latched) ∧
    (∃ t, exec .holdReadbackRestored s = .next t ∧ t.grd.bad0 = false ∧ t.grd.bad1 = false ∧ bitAt t.grd.present 5 = false) ∧
    (s.grd.powered = true → ∀ n, 1000000 ≤ n → (s.inputDue s.grd.edsAt = true → ∃ t, exec (.guardRst n) s = .next t ∧
        t.grd.latched.testBit 0 = true) ∧
      (s.inputDue s.grd.gtAt = true → ∃ t, exec (.guardRst n) s = .next t ∧ t.grd.latched.testBit 1 = true)) ∧
    (s.grd.powered = true → s.inputDue s.grd.edsAt = false → s.inputDue s.grd.gtAt = false → ∀ n, 1000000 ≤ n →
      (s.gstate ≠ gTripped → ∃ t, exec (.guardRst n) s = .next t ∧ t.gstate = s.gstate ∧
        t.grd = { s.grd with latched := s.grd.latched &&& ((s.grd.present &&& 0x23) ||| 0x7DC) }) ∧
      (s.gstate = gTripped → s.grd.present = 0 → s.grd.latched &&& 0x7DC = 0 →
        ∃ t, exec (.guardRst n) s = .next t ∧ t.gstate = gSafe ∧ t.grd.latched = 0 ∧ t.fld F.GRD_CAUSE_CAUSE = 0 ∧
          t.grd.refSet = none ∧ t.grd.released = s.grd.released) ∧
      (s.gstate = gTripped → s.grd.present ≠ 0 → ∃ t, exec (.guardRst n) s = .next t ∧ t.gstate = gTripped ∧
        t.grd.latched = s.grd.latched &&& ((s.grd.present &&& 0x23) ||| 0x7DC)))

/-- Guard power-up enters LOAD without an image, with the causes whose inputs are active (R265, R281); in LOAD the port takes the image,
and the complete one decides: SAFE, or TRIPPED where a cause is latched, NO_IMAGE or FAULT (R265, R271).  Without its supply the guard
holds (R263), and PD_GUARD follows it (R526).  The model's readings: an EDS_IN active when the image loads trips at once, whatever its
filter (log entry 45, DEDUCED), and BIST is shown for an accepted image only (log entry 24, DEDUCED). -/
def Obligations.GuardLoads : Prop :=
  ∀ s : State, s.canonical = true →
    (∀ k : Fin 4, ∃ t, exec (.guardPowerUp k) s = .next t ∧ t.gstate = gLoad ∧ t.grd.powered = true ∧ t.grd.image = [] ∧
      t.grdClaimEn = false ∧ t.grdHolds = true ∧ t.grd.slew = k ∧
      t.grd.latched = 2 * b2n s.grd.gt + 32 * b2n (s.grd.bad0 && s.grd.bad1) ∧ t.grd.present = t.grd.latched ∧
      t.rdn Reg.GRD_DEG = 2 * b2n (s.grd.bad0 != s.grd.bad1) ∧ bitAt (t.fld F.PWR_STATUS_ON) 2 = true) ∧
    (s.grd.powered = true → ∃ t, exec .vddGuardLost s = .next t ∧ t.grd.powered = false ∧ t.grdHolds = true ∧ t.grdClaimEn = false ∧
      bitAt (t.fld F.PWR_STATUS_ON) 2 = false) ∧
    (s.gstate = gLoad → s.grd.powered = true →
      (∃ t, exec .guardLoadTimeout s = .next t ∧ t.gstate = gNoImage) ∧
      (∀ (b : List Byte) (f : Byte) (img : List Byte), img = (s.grd.image ++ b).take 688 →
        (s.grd.image.length + b.length < 688 → ∃ t, exec (.guardImageLoad b f) s = .next t ∧ t.gstate = gLoad ∧
          t.grd.image = s.grd.image ++ b) ∧
        (688 ≤ s.grd.image.length + b.length →
          (imageOk img = false → ∃ t, exec (.guardImageLoad b f) s = .next t ∧ t.gstate = gNoImage ∧ t.grd.image = img) ∧
          (imageOk img = true → f ≠ 0 → ∃ t, exec (.guardImageLoad b f) s = .next t ∧ t.gstate = gFault ∧
            t.fld F.GRD_BIST_FAIL = f.toNat % (F.GRD_BIST_FAIL.max + 1) ∧ t.on F.GRD_BIST_PASS = false) ∧
          (imageOk img = true → f = 0 →
            ∃ t, exec (.guardImageLoad b f) s = .next t ∧ t.rdn Reg.GRD_CV = imageCv img ∧ t.grd.image = img ∧
              t.fld F.GRD_STATUS_IMAGE = (if imageConfirmed img then 3 else 2) ∧
              t.gstate = (if s.grd.latched = 0 ∧ (s.grd.eds && bitAt (imgField img 7 1) 0) = false then gSafe else gTripped)))))

/-- An accepted heartbeat is kept and shown (R279), the supervisor's likewise (R280).  That HB_WRONG is present until a later heartbeat is
accepted is the model's reading (log entry 24, DEDUCED). -/
def Obligations.HeartbeatsAccepted : Prop :=
  ∀ (w : Word) (n : Nat) (s : State), s.canonical = true → s.grdRuns = true →
    ((∀ b, s.grd.beat = some b → beatOk s.grdTbase b w n = true) →
      ∃ t, exec (.heartbeatArrival w n) s = .next t ∧ t.grd.beat = some ⟨w, n⟩ ∧ t.rd Reg.GRD_HB = w ∧ bitAt t.grd.present 2 = false) ∧
    (s.pow.svStopped = false → (∀ b, s.grd.sv = some b → svPair s.grdTfast b w n = true) → (s.grd.sv = none → w = svWord0 ∨ w = svWord1) →
      ∃ t, exec (.supervisorHeartbeat w n) s = .next t ∧ t.grd.sv = some ⟨w, n⟩ ∧
        (s.grd.sv.isSome = true → bitAt t.grd.present 4 = false))

/-- The decision of a cycle, made once (R277): ARMED and DEGRADED release the set that meets every check and withhold any other, SAFE counts
it, and the 8th in a row arms the guard (R265), which gives claim enable where the image is confirmed (R266).  An input whose filter ends
by then is a cause first (R283).  The model's readings: the decision falls 30 ns after STAGE_DL (log entry 24), and it takes the filter's
end and the cycle's own heartbeat (log entry 45; both DEDUCED). -/
def Obligations.GuardDecides : Prop :=
  ∀ s : State, s.canonical = true → s.cdr.grid = true → s.tb.freeStep = none → s.grd.powered = true →
    s.grd.decided = false → s.grd.released = false →
    (∀ d, ∃ t, exec (.guardDecision d) s = .next t ∧ t.grd.decided = true ∧ s.cdr.stageTime + 30 ≤ t.now ∧
      (∀ a, s.grd.edsAt = some a ∨ s.grd.gtAt = some a → a ≤ (s.cdr.stageTime + 30 : Nat) → t.grd.released = false ∧ t.grdHolds = true)) ∧
    (s.grd.edsAt = none → s.grd.gtAt = none →
    (s.gstate = gArmed ∨ s.gstate = gDegraded → (s.grdVerdict 0).why = 0 →
      ∃ t, exec (.guardDecision 0) s = .next t ∧ t.grd.released = true ∧ t.grd.refSet = some s.cdr.staged ∧ t.grd.withheld = false ∧
        t.rd Reg.GRD_REL_CYC = setWord s.cdr.staged 0 ∧ s.cdr.stageTime + 30 ≤ t.now) ∧
    (s.gstate = gArmed ∨ s.gstate = gDegraded → (s.grdVerdict 0).why ≠ 0 →
      ∃ t, exec (.guardDecision 0) s = .next t ∧ t.grd.released = false ∧ t.grdHolds = true ∧ t.grd.refSet = s.grd.refSet ∧
        s.cdr.stageTime + 30 ≤ t.now) ∧
    (s.gstate = gSafe → (s.grdVerdict 0).why = 0 → s.svValid = true → s.grd.qualify < 7 →
      ∃ t, exec (.guardDecision 0) s = .next t ∧ t.gstate = gSafe ∧ t.grd.qualify = s.grd.qualify + 1 ∧ t.grd.released = false) ∧
    (s.gstate = gSafe → (s.grdVerdict 0).why = 0 → s.svValid = true → s.grd.qualify = 7 → s.rdn Reg.GRD_DEG = 0 →
      ∃ t, exec (.guardDecision 0) s = .next t ∧ t.gstate = gArmed ∧ t.grd.qualify = 0 ∧ t.grd.released = false ∧
        t.grdClaimEn = (s.fld F.GRD_STATUS_IMAGE == 3) ∧ t.on F.GRD_STATUS_CLAIM_EN = (s.fld F.GRD_STATUS_IMAGE == 3)) ∧
    (s.gstate = gArmed → s.fld F.GRD_STATUS_IMAGE = 3 → (s.grdVerdict 0).why = 0 →
      ∃ t, exec (.guardDecision 0) s = .next t ∧ t.grdClaimEn = true ∧ t.on F.GRD_STATUS_CLAIM_EN = true))

/-- A degraded cause is latched until guard power-up (R286), of one bad GUARD_HOLD pin and of banks that disagree (R276) too: the first
starts DEG_LIMIT, ARMED becomes DEGRADED, and when DEG_LIMIT has run the guard trips with DEG_EXPIRY (R265, R287).  Without its supply the
guard holds (R263).  That the edges of the bands are inside them and that DEG_EXPIRY latches in DEGRADED alone are the model's readings
(log entry 24, DEDUCED). -/
def Obligations.GuardDegrades : Prop :=
  ∀ s : State, s.canonical = true →
    (∀ c : Instr × Nat, (c = (.ckbkpMissing, 2) ∨ ∃ mV, c = (.vddGuardBand mV, 3) ∧ (900 ≤ mV ∧ mV < 950 ∨ 1050 < mV ∧ mV ≤ 1100)) →
      (s.grd.powered = true → bitAt (s.rdn Reg.GRD_DEG) c.2 = false → ∃ t, exec c.1 s = .next t ∧
        (∀ i, bitAt (t.rdn Reg.GRD_DEG) i = (bitAt (s.rdn Reg.GRD_DEG) i || i == c.2)) ∧
        t.gstate = (if s.gstate = gArmed then gDegraded else s.gstate) ∧
        t.grd.degStart = some (s.grd.degStart.getD (s.now : Int)) ∧ t.grd.latched = s.grd.latched ∧ t.grd.powered = true) ∧
      (bitAt (s.rdn Reg.GRD_DEG) c.2 = true ∨ s.grd.powered = false → c = (.ckbkpMissing, 2) ∨ s.grd.powered = false ∨ s.railOk 3 = true →
        exec c.1 s = .next s)) ∧
    (∀ b : Bool, s.grd.powered = true → bitAt s.grd.present 5 = false →
      ∃ t, exec (.holdFb b (!b)) s = .next t ∧ t.grd.bad0 = b ∧ t.grd.bad1 = !b ∧
        (∀ i, bitAt (t.rdn Reg.GRD_DEG) i = (bitAt (s.rdn Reg.GRD_DEG) i || i == 1)) ∧
        (bitAt (s.rdn Reg.GRD_DEG) 1 = false → t.gstate = (if s.gstate = gArmed then gDegraded else s.gstate) ∧
          t.grd.degStart = some (s.grd.degStart.getD (s.now : Int))) ∧ t.grd.latched = s.grd.latched) ∧
    (∀ d : Fin 64, d ≠ 0 → s.grdRuns = true → s.cdr.grid = true → s.grd.decided = false → s.grd.edsAt = none → s.grd.gtAt = none →
      ∃ t, exec (.guardDecision d) s = .next t ∧ bitAt (t.rdn Reg.GRD_DEG) 0 = true ∧ t.grd.decided = true ∧
        (bitAt (s.rdn Reg.GRD_DEG) 0 = false → t.gstate ≠ gArmed ∧ t.grd.degStart.isSome = true) ∧
        (s.grd.released = false → t.grd.released = false)) ∧
    (s.grd.degStart = none → exec .degLimitExpiry s = .next s) ∧
    (∀ at', s.grd.degStart = some at' →
      (s.grd.powered = true → s.gstate = gDegraded → ∃ t, exec .degLimitExpiry s = .next t ∧ t.gstate = gTripped ∧
        t.grd.latched.testBit 9 = true ∧ t.grdHolds = true ∧ at' + s.degLimit * 1000000000 ≤ t.now) ∧
      (s.gstate ≠ gDegraded → ∃ t, exec .degLimitExpiry s = .next t ∧ t.gstate = s.gstate ∧ t.grd.latched = s.grd.latched ∧
        at' + s.degLimit * 1000000000 ≤ t.now)) ∧
    (s.grd.powered = true ∨ s.railOk 3 = true → ∃ t, exec .vddGuardLost s = .next t ∧ t.grd.powered = false ∧ t.grdHolds = true ∧
      t.grdClaimEn = false ∧ t.railOk 3 = false) ∧
    (s.grd.powered = false → s.railOk 3 = false → exec .vddGuardLost s = .next s)

/-- At its rank slot a FIT standby with every used partner line released drives INTLK_OUT; any other unit, one that is not FIT too, drives
nothing (R298, R312).  The readback 2 µs later makes it ACTIVE, or it releases (R298, R299, R314).  What ends the waiver of R312 there is
log entry 47 (DEDUCED). -/
def Obligations.InterlockClaims : Prop :=
  ∀ (l : Lines) (s : State), s.canonical = true → s.domOn 9 = true → s.tb.freeStep = none →
    (s.station = false →
      (∃ t, exec (.claimSample l true) s = .next t ∧ s.at F.CDR_OFS_A_INTAKE_CL + 20000 * s.rank ≤ t.now ∧ t.rstate = s.rstate ∧
        (s.rstate = rStandby → s.claimedBy l = [] → s.eon F.RDN_CTRL_STANDBY_ONLY = false → s.failMask = 0 →
          t.red.out = true ∧ t.red.claimAt = t.now ∧ t.on F.RDN_STATUS_FIT = true) ∧
        (s.rstate ≠ rStandby ∨ s.claimedBy l ≠ [] ∨ s.eon F.RDN_CTRL_STANDBY_ONLY = true → t.red.out = s.red.out) ∧
        (s.rstate = rStandby → t.fld F.RDN_FIT_FAIL ≠ 0 → t.red.out = s.red.out) ∧
        (s.rstate = rStandby → (∃ k, k ≠ 4 ∧ bitAt s.failMask k = true) → t.fld F.RDN_FIT_FAIL ≠ 0 ∧ t.red.out = s.red.out) ∧
        (s.rstate = rStandby → s.waived = false → t.now < s.holdoffEnd → t.red.out = s.red.out) ∧
        (s.rstate = rStandby → s.claimedBy l ≠ [] → t.red.heard = true ∧ t.on F.RDN_FIT_WAIVED = false)) ∧
      (s.partners ≠ [] → ∃ t, exec (.claimSample l false) s = .next t ∧ t.red.out = s.red.out ∧ t.rstate = s.rstate)) ∧
    (∀ tie, (s.rstate ≠ rStandby ∨ s.red.out = false → exec (.claimReadback l tie) s = .next s) ∧
      (s.rstate = rStandby → s.red.out = true →
        (l.own = false → ∃ t, exec (.claimReadback l tie) s = .next t ∧ s.red.claimAt + 2000 ≤ t.now ∧ t.rstate = rStandby ∧ t.red.out = false ∧
          t.on F.RDN_STATUS_CLAIM_FAIL = true) ∧
        (l.own = true → (s.claimedBy l = [] ∨ (tie = true ∧ ∀ p ∈ s.claimedBy l, s.rank < p.2)) →
          ∃ t, exec (.claimReadback l tie) s = .next t ∧ s.red.claimAt + 2000 ≤ t.now ∧ t.rstate = rActive ∧ t.red.out = true ∧
            t.rdn Reg.RDN_LAST_LO = s.cdr.cyc % 2 ^ 32 ∧ t.fld F.RDN_LAST_INFO_KIND = s.claimKind) ∧
        (l.own = true → (∃ p ∈ s.claimedBy l, tie = false ∨ p.2 ≤ s.rank) →
          ∃ t, exec (.claimReadback l tie) s = .next t ∧ s.red.claimAt + 2000 ≤ t.now ∧ t.rstate = rStandby ∧ t.red.out = false)))

/-- Contention and a lost line end ACTIVE (R300, R301); DIAG, HANDOVER and REHEARSE are taken as R292, R315 and R317 say, HOLDOFF_EXPIRY
and FIRST_START_WAIVER as R310 and R312.  A partner's claim on its line is contention too, but for its rehearsal pulse (R300, R317).  The
model's readings: what ends a waiver (log entry 47, DEDUCED), and that no command of the redundancy manager changes anything while PD_FAB
is off (log entry 18, DEDUCED). -/
def Obligations.RolesChange : Prop :=
  ∀ s : State, s.canonical = true →
    (s.domOn 9 = false → ∀ (l : Lines) (b c : Bool) (p : Fin 4) (r : Req),
      ∀ i ∈ [Instr.claimSample l b, .claimReadback l b, .partnerClaim b c, .ownLineReleased, .stateRecordReceive p, .compareRecordReceive p,
        .mirrorDeadline b, .diag r, .handover r, .rehearse r, .rehearsalPulse l, .holdoffExpiry, .firstStartWaiver], exec i s = .next s) ∧
    (s.domOn 9 = true →
      (∀ second p, (b2n second, p) ∈ s.partners → s.isActive = true → s.red.claimAt + 2000 < s.now →
        (p < s.rank → ∃ t, exec (.partnerClaim second true) s = .next t ∧ t.rstate = rStandby ∧ t.red.out = false ∧
          t.on F.RDN_STATUS_CONTENTION = true ∧ t.red.entered = t.now) ∧
        (s.rank < p → (s.waived = false → exec (.partnerClaim second true) s = .next s) ∧
          (s.waived = true → ∃ t, exec (.partnerClaim second true) s = .next t ∧ t.rstate = s.rstate ∧ t.red.heard = true ∧
            t.on F.RDN_FIT_WAIVED = false))) ∧
      (∀ second p, (b2n second, p) ∈ s.partners →
        ((if second then s.red.rehNow.2 else s.red.rehNow.1) = true → s.inRehWindow = true → ∃ t, exec (.partnerClaim second false) s = .next t ∧
          t.red = { s.red with rehSeen := true } ∧ t.rstate = s.rstate ∧ t.on (if second then F.RDN_STATUS_IN1 else F.RDN_STATUS_IN0) = true) ∧
        ((if second then s.red.rehNow.2 else s.red.rehNow.1) = false ∨ s.inRehWindow = false → ∃ t, exec (.partnerClaim second false) s = .next t ∧
          t.on (if second then F.RDN_STATUS_IN1 else F.RDN_STATUS_IN0) = true ∧
          (s.waived = true → t.red.heard = true ∧ t.on F.RDN_FIT_WAIVED = false) ∧
          (s.isActive = true → s.red.claimAt + 2000 < s.now → p < s.rank → t.rstate = rStandby ∧ t.red.out = false ∧
            t.on F.RDN_STATUS_CONTENTION = true ∧ t.red.entered = t.now) ∧
          (s.isActive = false ∨ s.now ≤ s.red.claimAt + 2000 ∨ s.rank < p → t.rstate = s.rstate ∧ t.red.out = s.red.out))) ∧
      (∀ second frame, (∀ p ∈ s.partners, p.1 ≠ b2n second) → exec (.partnerClaim second frame) s = .next s) ∧
      (s.isActive = true → ∃ t, exec .ownLineReleased s = .next t ∧ t.rstate = rStandby ∧ t.red.out = false ∧ t.red.entered = t.now) ∧
      (s.isActive = false → exec .ownLineReleased s = .next s) ∧
      (∀ r, (∃ t, exec (.handover r) s = .next t ∧ t.on F.RDN_CTRL_HANDOVER = true ∧ t.rstate = s.rstate ∧
          State.Within (parts [.blk 0x0A]) s t) ∧
        (∃ t, exec (.rehearse r) s = .next t ∧ t.on F.RDN_CTRL_REHEARSE = true ∧ t.rstate = s.rstate ∧
          State.Within (parts [.blk 0x0A]) s t) ∧
        (s.station = false → s.rstate = rStandby → ∃ t, exec (.diag r) s = .next t ∧ t.rstate = rDiagnostic ∧ t.red.out = false ∧
          t.red.base = none) ∧
        (s.station = false → s.isActive = true → ∃ t, exec (.diag r) s = .next t ∧ t.rstate = rActive ∧ t.on F.RDN_CTRL_DIAG = true) ∧
        (s.station = true ∨ (s.rstate ≠ rStandby ∧ s.isActive = false) → exec (.diag r) s = .next s)) ∧
      (s.rstate ≠ rStandby → exec .holdoffExpiry s = .next s ∧ exec .firstStartWaiver s = .next s) ∧
      (s.rstate = rStandby → (s.tb.freeStep = none → ∃ t, exec .holdoffExpiry s = .next t ∧ s.holdoffEnd ≤ t.now ∧
          t.fld F.RDN_FIT_HOLDOFF_LEFT = 0 ∧ bitAt (t.fld F.RDN_FIT_FAIL) 4 = false) ∧
        (s.red.heard = false → 500 ≤ s.red.quiet → ∃ t, exec .firstStartWaiver s = .next t ∧ t.on F.RDN_FIT_WAIVED = true ∧
          bitAt (t.fld F.RDN_FIT_FAIL) 2 = false ∧ bitAt (t.fld F.RDN_FIT_FAIL) 3 = false ∧ bitAt (t.fld F.RDN_FIT_FAIL) 4 = false ∧
          bitAt (t.fld F.RDN_FIT_FAIL) 7 = false) ∧
        (s.red.heard = true ∨ s.red.quiet < 500 → exec .firstStartWaiver s = .next s)))

/-- Mirror records (R302 to R308) and the rehearsal pulse (R317): a valid record in time is taken, one that fails its checks is
discarded, one outside the time of its cycle's records sets MIR_LATE, and a deadline drops what is incomplete.  The windows in which a
record arrives in time, and which record a partner owes, are the model's reading (log entry 30, DEDUCED). -/
def Obligations.MirrorRecords : Prop :=
  ∀ s : State, s.canonical = true → s.domOn 9 = true →
    (∀ port : Fin 4,
      (s.wholeRecord port.val 1 = none → exec (.stateRecordReceive port) s = .next s) ∧
      (s.wholeRecord port.val 2 = none → exec (.compareRecordReceive port) s = .next s) ∧
      (∀ f b, s.wholeRecord port.val 1 = some (f, b) → ∃ t, exec (.stateRecordReceive port) s = .next t ∧
        t.red.frags = s.red.frags.filter (fun g => !g.with_ f) ∧ t.rstate = s.rstate ∧
        ((s.recordOk 1 b = false ∨ s.rstate = rDiagnostic ∨ s.isActive = true) → t.red.last = s.red.last ∧ t.red.base = s.red.base ∧
          t.red.gotState = s.red.gotState) ∧
        (s.recordOk 1 b = true → s.rstate ≠ rDiagnostic → s.isActive = false →
          (s.cdr.grid = true → s.at F.CDR_OFS_C_SWITCH < s.now ∨ s.now < s.at F.CDR_OFS_C_OUT_OFFSET →
            t.on F.RDN_STATUS_MIR_LATE = true ∧ t.red.last = s.red.last) ∧
          (s.cdr.grid = false ∨ (s.at F.CDR_OFS_C_OUT_OFFSET ≤ s.now ∧ s.now ≤ s.at F.CDR_OFS_C_SWITCH) → t.red.heard = true ∧ t.red.last = some (stateRec b s.revertReq) ∧
            (s.rstate = rStandby → t.red.gotState = true ∧ t.red.base = some (wordsAt (b.drop 320) 56 0) ∧
              t.red.retained = b.drop 544)))) ∧
      (∀ f b line, s.wholeRecord port.val 2 = some (f, b) → s.recordOk 2 b = true →
        s.partners.find? (·.2 == fieldLe b 5 1) = some (line, fieldLe b 5 1) → (s.rstate = rStandby ∨ s.isActive = true) →
          ∃ t, exec (.compareRecordReceive port) s = .next t ∧ t.red.frags = s.red.frags.filter (fun g => !g.with_ f) ∧
            (s.cdr.grid = true → s.at F.CDR_OFS_C_OUT_OFFSET < s.now ∨ s.now < s.at F.CDR_OFS_B_STAGE_DL →
              t.on F.RDN_STATUS_MIR_LATE = true) ∧
            (s.cdr.grid = false ∨ (s.at F.CDR_OFS_B_STAGE_DL ≤ s.now ∧ s.now ≤ s.at F.CDR_OFS_C_OUT_OFFSET) →
              t.fld (F.RDN_PARTNER0_AGE.plus (4 * line)) = 0 ∧ (if line = 0 then t.red.now0 else t.red.now1).fresh = true ∧
              (∀ v, s.verdictOn b = some v → t.red.verdict = some v)))) ∧
    (∀ compare, ∃ t, exec (.mirrorDeadline compare) s = .next t ∧ (∀ f ∈ t.red.frags, f.kind ≠ if compare then 2 else 1) ∧
      (if compare then s.at F.CDR_OFS_C_OUT_OFFSET else s.at F.CDR_OFS_C_SWITCH) ≤ t.now ∧
      ((∃ p ∈ s.partners, s.recordMissing compare p.1 = true) → t.on F.RDN_STATUS_MIR_LATE = true)) ∧
    (∀ l, (s.rstate ≠ rStandby ∨ s.on F.RDN_CTRL_REHEARSE = false ∨ s.rehCyc ≠ s.cdr.cyc → exec (.rehearsalPulse l) s = .next s) ∧
      (s.rstate = rStandby → s.on F.RDN_CTRL_REHEARSE = true → s.rehCyc = s.cdr.cyc → s.tb.freeStep = none →
        ∃ t, exec (.rehearsalPulse l) s = .next t ∧ s.at F.CDR_OFS_A_INTAKE_CL + 100000 ≤ t.now ∧ t.rstate = rStandby ∧
          ((s.claimedBy l).length = 1 → t.red.rehPulse = some (l.own, s.grdClaimEn, t.on F.RDN_STATUS_FIT) ∧
            (s.waived = false → t.on F.RDN_STATUS_FIT = s.on F.RDN_STATUS_FIT)) ∧
          (s.waived = true → s.claimedBy l ≠ [] → t.red.heard = true ∧ t.on F.RDN_FIT_WAIVED = false) ∧
          ((s.claimedBy l).length ≠ 1 → t.red.rehPulse = none ∧ t.on F.RDN_STATUS_REH_DONE = true ∧
            t.fld F.RDN_REH_STATUS_RESULT = 3 ∧ t.on F.RDN_CTRL_REHEARSE = false)))

/-- The device in station role moves through the states of R344, latches at the sample instant (R337), applies or holds at the output
instant (R345, R346) and freezes its own set (R358); a controller takes none of these.  The model's choices: HOLD_CNT counts in every
state but RESET, and word 0 of the set takes CYC (log entry 32, DESIGN CHOICE); the sample instant's own time is exact (log entry 46,
DEDUCED); nothing acts without PD_SER (log entry 18, DEDUCED). -/
def Obligations.StationRole : Prop :=
  ∀ s : State, s.canonical = true →
    (s.station = false ∨ s.domOn 10 = false → ∀ i ∈ [Instr.stationSample, .stationOutputInstant, .stationHoldLimit, .stationCycleLoss,
      .stationSyncComplete, .stationPowerReady], exec i s = .next s) ∧
    (s.station = false ∨ s.cdr.grid = false → exec .stationStageDl s = .next s) ∧
    (s.station = true → s.cdr.grid = true → ∃ t, exec .stationStageDl s = .next t ∧ s.at F.CDR_OFS_C_OUT_OFFSET - 50000 ≤ t.now ∧
      t.cdr.stageOpen = false ∧ (s.cdr.post.running = false → s.cdr.postDone = true → t.cdr.stagedCyc = some s.cdr.cyc ∧
        t.cdr.staged = sset (fun _ => (0 : Word)) s.cdr.buf 0 (w32 s.cdr.cyc)) ∧
      (s.cdr.post.running = true → t.cdr.staged = s.cdr.staged ∧ t.on F.CDR_STATUS_POST_LATE = true)) ∧
    (s.station = true → s.domOn 10 = true →
      (∀ n, n = (if s.cdr.grid = true ∧ s.cdr.t0 ≤ s.now ∧ s.now ≤ s.cdr.t0 + 4 then s.cdr.t0 else s.nextSample.getD s.now) →
        ∃ t, exec .stationSample s = .next t ∧ t.xl.stn.latched = s.xl.stn.payload ∧ t.xl.stn.stored = none ∧ t.xl.stn.rank = none ∧
        t.xl.stn.noCycle = (if s.xl.stn.rank.isNone then s.xl.stn.noCycle + 1 else 0) ∧ t.xl.stn.step = 0 ∧
        t.xl.stn.sampleTime = movedBy (s.xl.stn.step * (s.tbase : Int)) n ∧
        t.xl.stn.good = (if s.xl.stn.rank.isNone then 0 else s.xl.stn.good) ∧
        (s.xl.stn.step * (s.tbase : Int) = 0 → n ≤ t.now ∧ (n ≤ s.now → t.now = s.now)) ∧
        (s.xl.stn.step * (s.tbase : Int) ≠ 0 → t.on (evPend 164) = true)) ∧
      ((s.sstate = 3 ∨ s.sstate = 6) → 16 ≤ s.xl.stn.noCycle → ∃ t, exec .stationCycleLoss s = .next t ∧ t.sstate = 2 ∧ t.xl.stn.good = 0) ∧
      ((s.sstate ≠ 3 ∧ s.sstate ≠ 6) ∨ s.xl.stn.noCycle < 16 → exec .stationCycleLoss s = .next s) ∧
      (s.sstate = 2 → 8 ≤ s.xl.stn.good → s.on F.XL_SELF_PARAM_MISMATCH = false → ∃ t, exec .stationSyncComplete s = .next t ∧ t.sstate = 3) ∧
      (s.sstate ≠ 2 ∨ s.xl.stn.good < 8 ∨ s.on F.XL_SELF_PARAM_MISMATCH = true → exec .stationSyncComplete s = .next s) ∧
      (s.sstate = 0 → s.xLink 0 = true → s.xLink 1 = true → (s.xring 0).table ≠ [] → s.fld F.XL_SELF_STN ≠ 0 →
        ∃ t, exec .stationPowerReady s = .next t ∧ t.xl.stn.outputs = s.xl.stn.safeWords ∧
          t.sstate = if bitAt (s.fld F.XL_STATUS_CFG_REFUSED) 0 = false ∧ (s.xport 0).delay.isSome ∧ (s.xport 1).delay.isSome then 2 else 1) ∧
      (s.sstate ≠ 0 → exec .stationPowerReady s = .next s) ∧
      (s.sstate = 5 → s.fld F.XL_RING0_CFG_HOLD_LIMIT ≤ s.fld F.XL_SELF_HOLD_CNT →
        ∃ t, exec .stationHoldLimit s = .next t ∧ t.sstate = 6 ∧ t.xl.stn.outputs = s.xl.stn.safeWords) ∧
      (s.sstate ≠ 5 ∨ s.fld F.XL_SELF_HOLD_CNT < s.fld F.XL_RING0_CFG_HOLD_LIMIT → exec .stationHoldLimit s = .next s) ∧
      (s.sstate = 0 → exec .stationOutputInstant s = .next s) ∧
      (s.sstate ≠ 0 → s.tb.freeStep = none → ∃ t, exec .stationOutputInstant s = .next t ∧ s.stnInstant ≤ t.now ∧ t.xl.stn.stored = none ∧
        (∀ o, s.outValid = some o → t.fld F.XL_SELF_HOLD_CNT = 0 ∧
          (if s.sstate = 4 ∨ s.sstate = 5 ∨ ((s.sstate = 3 ∨ s.sstate = 6) ∧ o.resume = true) then t.sstate = 4 ∧ t.xl.stn.applied = some o.cyc
           else t.sstate = s.sstate ∧ t.xl.stn.applied = s.xl.stn.applied)) ∧
        (s.outValid = none → t.fld F.XL_SELF_HOLD_CNT = satN 255 (s.fld F.XL_SELF_HOLD_CNT + 1) ∧ t.xl.stn.applied = s.xl.stn.applied ∧
          t.sstate = if s.sstate = 4 then 5 else s.sstate)))

/-- Link loss wraps a port (R351), 100 ms of link lets it unwrap in the housekeeping phase (R352), and DELAY_REQ and DELAY_RESP, sent in
the housekeeping phase once no frame passes out of the port (R332), measure its link at link-up and every 100 cycles (R335, R339, R341);
the second delay takes a station from INIT to SYNC (R344).  That a DELAY frame due outside the housekeeping phase leaves at its start is
the model's reading (log entry 31, DEDUCED). -/
def Obligations.XonlinkPorts : Prop :=
  ∀ s : State, s.canonical = true → s.domOn 10 = true → s.xl.ports.length = 4 →
    (∀ p : Fin 4,
      (s.xLink p = true → ∃ t, exec (.portLinkLoss p) s = .next t ∧ t.xLink p = false ∧ t.xWrap p = true ∧ t.xport p = .init) ∧
      (s.xLink p = false → exec (.portLinkLoss p) s = .next s) ∧
      (s.xLink p = false → (s.station = false ∨ p.val < 2) → ∃ t, exec (.portLinkUp p) s = .next t ∧ t.xLink p = true ∧
        t.xport p = ⟨none, s.now, some (s.xlFree p (s.houseAt s.now)), false, some s.cdr.cyc⟩ ∧
        (∃ frame, fKind frame = 5 ∧ t.xl.wire = s.xl.wire ++ [⟨p, frame, false, s.xlFree p (s.houseAt s.now), true⟩]) ∧
        t.xWrap p = s.xWrap p) ∧
      (s.xLink p = true ∨ (s.station = true ∧ 2 ≤ p.val) → exec (.portLinkUp p) s = .next s) ∧
      (s.xLink p = true → s.xWrap p = true → ∃ t, exec (.portLinkHeld p) s = .next t ∧ (t.xport p).held = true ∧
        (s.xport p).linkSince + 100000000 ≤ t.now) ∧
      (s.xLink p = false ∨ s.xWrap p = false → exec (.portLinkHeld p) s = .next s) ∧
      (∀ frame fcs turn, s.xLink p = true → fNode frame / 256 = s.xSeg (p.val / 2) →
        (s.delayOk p frame fcs 5 = true → ∃ t, exec (.delayReq p frame fcs turn) s = .next t ∧
          t.xl.wire = s.xl.wire ++ [⟨p, s.xlFrame p 6 (p.val % 2) (fNode frame) 0 s.cdr.cyc 0
            (leBytes 8 s.now ++ leBytes 8 (s.xlFree p (s.houseAt (s.now + turn)))), false, s.xlFree p (s.houseAt (s.now + turn)), true⟩]) ∧
        (∀ t1, s.delayOk p frame fcs 6 = true → (s.xport p).t1 = some t1 → ∃ t, exec (.delayResp p frame fcs) s = .next t ∧
          (t.xport p).t1 = none ∧ (t.xport p).delay = some ((((s.now : Int) - t1) -
            ((fieldLe (fPayload frame) 8 8 : Int) - fieldLe (fPayload frame) 0 8)) / 2).toNat ∧
          (s.station = true → s.sstate = 1 → bitAt (s.fld F.XL_STATUS_CFG_REFUSED) 0 = false → (s.xport (1 - p.val)).delay.isSome = true →
            t.sstate = 2 ∧ t.xl.stn.good = 0) ∧
          (s.station = false ∨ s.sstate ≠ 1 ∨ (s.xport (1 - p.val)).delay = none → t.sstate = s.sstate))) ∧
      (∀ b : Bool, s.cdr.grid = true → ∃ t, exec (.outOffset b) s = .next t ∧
        ((s.xport p).held = true → (s.xport p).delay.isSome = true → t.xWrap p = false) ∧
        ((s.xport p).held = true → (s.xport p).delay.isSome = true → s.xWrap p = true → (t.xport p).held = false) ∧
        ((s.xport p).held = false ∨ (s.xport p).delay = none → t.xWrap p = s.xWrap p)) ∧
      (∀ frame turn, s.xLink p = true → fNode frame / 256 ≠ s.xSeg (p.val / 2) → ∀ c ∈ [(Instr.delayReq p frame .ok turn, 5),
        (.delayResp p frame .ok, 6)], fKind frame = c.2 →
          ∃ t, exec c.1 s = .next t ∧ t.fld (xf F.XL_CNT0_FOREIGN (p.val / 2)) = satN 255 (s.fld (xf F.XL_CNT0_FOREIGN (p.val / 2)) + 1) ∧
            t.xl = s.xl)) ∧
    (∀ loop0 loop1, ∃ t, exec (.linkDelayMeasure loop0 loop1) s = .next t ∧
      (∀ p : Fin 4, (s.delayDue p = true → (t.xport p).t1 = some (s.xlFree p (s.houseAt s.now)) ∧ (t.xport p).reqCyc = some s.cdr.cyc) ∧
        (s.delayDue p = false → t.xport p = s.xport p)) ∧
      (∀ ns, loop0 = some ns → t.fld (xf F.XL_RING0_TIME_LOOP 0) = satN F.XL_RING0_TIME_LOOP.max (ns / 10) ∧
        ((s.xring 0).table ≠ [] → tblLoopMax (s.xring 0).table < ns → t.on F.XL_STATUS_LOOP_OVER = true)) ∧
      (∀ ns, loop1 = some ns → t.fld (xf F.XL_RING0_TIME_LOOP 1) = satN F.XL_RING0_TIME_LOOP.max (ns / 10) ∧
        ((s.xring 1).table ≠ [] → tblLoopMax (s.xring 1).table < ns → t.on F.XL_STATUS_LOOP_OVER = true)))

/-- A node passes a frame on with its header counted and its bytes (R332 to R334, R351), behind the frame of its own that is being sent, with
its own waiting frames behind it (R332), and drops what it must (R324, R327); a station writes its slots and takes what is its own (R329 to
R331, R334, R336, R345).  That a port whose delay is not measured turns frames back is the model's reading (log entry 31, DEDUCED), and so
is that nothing passes without PD_SER (log entry 18, DEDUCED). -/
def Obligations.XonlinkFramesPass : Prop :=
  ∀ (port : Fin 4) (frame : List Byte) (fcs : XlFcs) (residence : Nat) (s u : State), s.canonical = true → s.domOn 10 = true →
    u = s.xlFcs (port.val / 2) fcs →
    (fcs ≠ .wrong → u = s) ∧
    (fcs = .wrong → u.fld (xf F.XL_CNT0_FCS_ERR (port.val / 2)) = satN 65535 (s.fld (xf F.XL_CNT0_FCS_ERR (port.val / 2)) + 1)) ∧
    (∀ c ∈ [(Instr.cycleFrame port frame fcs residence, 1, 16 * (s.xport port).delay.getD 0 + residence, fPayload frame),
        (.inputFrame port frame fcs, 2, 0, u.writeInSlot (hf frame 6 1) (fPayload frame)),
        (.outputFrame port frame fcs, 3, 0, ((u.outputWatch (port.val / 2) frame fcs).outputTake frame fcs).1),
        (.withdrawFrame port frame fcs, 4, 0, fPayload frame),
        (.mgmtFrame port frame fcs, 7, 0, (u.mgmtTake (fPayload frame) (fcs == .ok)).1)],
      (s.xReady port = false ∨ isXl frame = false ∨ hdrOk frame = false → exec c.1 s = .next s) ∧
      (s.xReady port = true → isXl frame = true → hdrOk frame = true →
        (s.isForeign (port.val / 2) frame = true → ∃ t, exec c.1 s = .next t ∧ t.xl = s.xl ∧
          t.fld (xf F.XL_CNT0_FOREIGN (port.val / 2)) = satN 255 (s.fld (xf F.XL_CNT0_FOREIGN (port.val / 2)) + 1)) ∧
        (s.isForeign (port.val / 2) frame = false → fKind frame ≠ c.2.1 → exec c.1 s = .next s) ∧
        (s.isForeign (port.val / 2) frame = false → fKind frame = c.2.1 → s.xlOwn (port.val / 2) frame = true →
          exec c.1 s = .next (if c.2.1 = 1 ∨ c.2.1 = 4 then u else s)) ∧
        (s.isForeign (port.val / 2) frame = false → fKind frame = c.2.1 → s.xlOwn (port.val / 2) frame = false →
          ∃ t w e q, exec c.1 s = .next t ∧
            q = (if port.val % 2 = 0 then port.val + 1 else port.val - 1) ∧
            e = ⟨if s.xUsable q then q else port.val, forwarded frame c.2.2.2 (c.2.2.1 + 16 * (e.time - t.now)) (!s.xUsable q), fcs != .ok,
              e.time, false⟩ ∧
            t.xl.wire = w ++ [e] ∧ w.length = s.xl.wire.length ∧ t.now ≤ e.time ∧ (s.xl.wire = [] → e.time = t.now) ∧
            (∀ x ∈ w, x.own = true → x.port = e.port → t.xlEnds x ≤ e.time ∨ t.xlEnds e ≤ x.time) ∧
            (fcs = .wrong → t.fld (xf F.XL_CNT0_FCS_ERR (port.val / 2)) =
              satN 65535 (s.fld (xf F.XL_CNT0_FCS_ERR (port.val / 2)) + 1)) ∧
            (s.station = true → fcs = .ok →
              (fKind frame = 1 → (∀ r, s.xl.stn.rank = some r → fRank frame < r) → t.xl.stn.rank = some (fRank frame) ∧
                t.xl.stn.cyc = some (fCyc frame) ∧ t.on F.XL_SELF_PARAM_MISMATCH = !s.paramsAgree (fPayload frame)) ∧
              (fKind frame = 4 → s.now < s.stnInstant → t.xl.stn.withdrawn = some (fCyc frame)) ∧
              (fKind frame = 7 → fieldLe (fPayload frame) 0 1 = 2 → fieldLe (fPayload frame) 1 1 = s.fld F.XL_SELF_STN →
                48 ≤ (fPayload frame).length → t.xl.stn.identify = s.now + 10000000000) ∧
              (∀ e, fKind frame = 3 → s.ownEntry = some e → eNoOut e = false → eOutFrame e = hf frame 6 1 →
                eOutPos e + eOutLen e ≤ (fPayload frame).length → s.slotGood frame (fieldLe (fPayload frame) (eOutPos e) 1) = true →
                  t.xl.stn.stored.isSome = true))))) ∧
    (s.station = false → ∀ (i : Nat) (b : List Byte), s.writeInSlot i b = b ∧ (s.outputTake frame fcs).1 = fPayload frame ∧
      (s.mgmtTake b true).1 = b) ∧
    (s.station = true → ∀ e, s.ownEntry = some e →
      (∀ b : List Byte, 16 ≤ eInLen e → eInPos e + eInLen e ≤ b.length → s.xl.stn.sampleTime + 10000 ≤ s.now →
        (bitAt (fieldLe b (eInPos e + 9) 1) 0 = false →
          (s.writeInSlot (eInFrame e) b).length = b.length ∧ fieldLe (s.writeInSlot (eInFrame e) b) (eInPos e) 8 = s.uid ∧
          fieldLe (s.writeInSlot (eInFrame e) b) (eInPos e + 8) 1 = s.sstate ∧
          bitAt (fieldLe (s.writeInSlot (eInFrame e) b) (eInPos e + 9) 1) 0 = true ∧
          bitAt (fieldLe (s.writeInSlot (eInFrame e) b) (eInPos e + 9) 1) 2 = decide (3 ≤ s.sstate) ∧
          fieldLe (s.writeInSlot (eInFrame e) b) (eInPos e + 11) 1 = s.fld F.XL_SELF_HOLD_CNT ∧
          (s.writeInSlot (eInFrame e) b).take (eInPos e) = b.take (eInPos e) ∧
          (s.writeInSlot (eInFrame e) b).drop (eInPos e + eInLen e) = b.drop (eInPos e + eInLen e)) ∧
        (bitAt (fieldLe b (eInPos e + 9) 1) 0 = true → fieldLe b (eInPos e) 8 = s.uid → s.writeInSlot (eInFrame e) b = b) ∧
        (bitAt (fieldLe b (eInPos e + 9) 1) 0 = true → fieldLe b (eInPos e) 8 ≠ s.uid →
          bitAt (fieldLe (s.writeInSlot (eInFrame e) b) (eInPos e + 9) 1) 1 = true ∧
          (s.writeInSlot (eInFrame e) b).take (eInPos e + 9) = b.take (eInPos e + 9) ∧
          (s.writeInSlot (eInFrame e) b).drop (eInPos e + 10) = b.drop (eInPos e + 10))) ∧
      (∀ fl, fl = fieldLe (fPayload frame) (eOutPos e) 1 → eNoOut e = false → eOutFrame e = hf frame 6 1 →
        eOutPos e + eOutLen e ≤ (fPayload frame).length →
        (bitAt fl 2 = true → fieldLe (fPayload frame) (eOutPos e + 4) 4 ≠ s.uid % 2 ^ 32 →
          (s.outputTake frame .ok).1 = putBytes (fPayload frame) (eOutPos e) [BitVec.ofNat 8 (putBit fl 3 true)]) ∧
        (bitAt fl 2 = false ∨ fieldLe (fPayload frame) (eOutPos e + 4) 4 = s.uid % 2 ^ 32 → s.slotGood frame fl = true →
          bitAt (fieldLe (s.outputTake frame .ok).1 (eOutPos e) 1) 2 = true ∧
          fieldLe (s.outputTake frame .ok).1 (eOutPos e + 1) 1 = s.sstate ∧
          fieldLe (s.outputTake frame .ok).1 (eOutPos e + 4) 4 = s.uid % 2 ^ 32) ∧
        (s.newOutput (fCyc frame) = false → (s.outputTake frame .ok).2.xl.stn.refused = s.xl.stn.refused + 1 ∧
          (s.outputTake frame .ok).2.xl.stn.stored = s.xl.stn.stored) ∧
        (fcs ≠ .ok → s.outputTake frame fcs = (fPayload frame, s)))) ∧
    (s.station = true → ∀ b : List Byte, 48 ≤ b.length →
      (fieldLe b 1 1 ≠ s.fld F.XL_SELF_STN → s.mgmtTake b true = (b, s)) ∧
      (fieldLe b 1 1 = s.fld F.XL_SELF_STN →
        fieldLe (s.mgmtTake b true).1 2 1 = (if fieldLe b 0 1 = 1 ∨ fieldLe b 0 1 = 2 then 1 else 2) ∧
        (fieldLe b 0 1 = 1 → fieldLe (s.mgmtTake b true).1 4 8 = s.uid ∧ fieldLe (s.mgmtTake b true).1 12 2 = 0x4858 ∧
          fieldLe (s.mgmtTake b true).1 20 4 = s.rdn Reg.CHIP_ID)))

/-- A member in STANDBY or ACTIVE launches its CYCLE and INPUT frames, one behind another and behind what passes out of the port (R332,
R339), takes its returned frames (R348, R350, R331), and runs the station commands (R331, R347, R355).  That RESUME completes at once and
that DUP_CLEAR needs no ACTIVE are the model's readings (log entry 31, DEDUCED). -/
def Obligations.XonlinkLaunchesAndCommands : Prop :=
  ∀ s : State, s.canonical = true → s.domOn 10 = true →
    (∀ r : Fin 2,
      (s.mayLaunch r = false → exec (.cycleLaunch r) s = .next s ∧ exec (.inputLaunch r) s = .next s) ∧
      (s.mayLaunch r = true → s.tb.freeStep = none →
        (∃ t, exec (.cycleLaunch r) s = .next t ∧ t.tb.launched = Nat.max s.tb.launched (s.cdr.cyc + 1) ∧
          s.cdr.t0 + s.tbase - s.fld F.XL_WD_WD_LEAD * 10000 - 2000 * s.rank ≤ t.now ∧
          t.xl.wire.length = s.xl.wire.length + b2n (s.xUsable (2 * r)) + b2n (s.xUsable (2 * r + 1)) ∧
          ∀ w ∈ t.xl.wire.drop s.xl.wire.length, fKind w.frame = 1 ∧ w.time = s.xlFree w.port t.now ∧ t.now ≤ w.time ∧ w.badFcs = false ∧
            w.own = true ∧ (∀ x ∈ s.xl.wire, x.port = w.port → t.xlEnds x ≤ w.time ∨ w.time < x.time)) ∧
        (∃ t, exec (.inputLaunch r) s = .next t ∧
          s.cdr.t0 + s.fld (xf F.XL_RING0_CFG_IN_OFS r) * 10000 + s.rank * s.fld (xf F.XL_RING0_TIME_STAGGER r) * 1000 ≤ t.now ∧
          t.xl.wire.length = s.xl.wire.length + tblNIn (s.xring r).table * (b2n (s.xUsable (2 * r)) + b2n (s.xUsable (2 * r + 1))) ∧
          (∀ w ∈ t.xl.wire.drop s.xl.wire.length, fKind w.frame = 2 ∧ t.now ≤ w.time ∧ w.badFcs = false ∧ w.own = true ∧
            (∀ x ∈ s.xl.wire, x.port = w.port → t.xlEnds x ≤ w.time ∨ w.time < x.time)) ∧
          (t.xl.wire.drop s.xl.wire.length).Pairwise (fun a b => a.port = b.port → t.xlEnds a ≤ b.time))) ∧
      (∀ frame fcs,
        (s.xlReturned r frame fcs 2 = true → fCyc frame = s.cdr.cyc → ∃ t, exec (.inputReturn r frame fcs) s = .next t ∧
          ∀ e ∈ tblEntries (s.xring r).table, eInFrame e = hf frame 6 1 →
            bitAt (fieldLe (((fPayload frame).drop (eInPos e)).take (eInLen e)) 9 1) 0 = true → (∃ q ∈ (s.xring r).stns, q.stn = eStn e) →
              if bitAt (hf frame 1 1) 0 then (t.stnSeen r (eStn e)).west.isSome = true else (t.stnSeen r (eStn e)).east.isSome = true) ∧
        (s.xlReturned r frame fcs 3 = true → s.isActive = true → ∃ t, exec (.outputReturn r frame fcs) s = .next t ∧
          ∀ e ∈ tblEntries (s.xring r).table, eOutFrame e = hf frame 6 1 → eNoOut e = false →
            bitAt (fieldLe (fPayload frame) (eOutPos e) 1) 2 = true → t.on (stf F.XL_STN_STATUS_ACK r (eStn e)) = true) ∧
        (s.station = true → exec (.inputReturn r frame fcs) s = .next s ∧ exec (.outputReturn r frame fcs) s = .next s ∧
          exec (.mgmtReturn r frame fcs) s = .next s) ∧
        (∀ c, s.xl.cmd = some c → s.xlReturned r frame fcs 7 = true → s.isActive = true → c.sent.isSome = true → c.ring = r.val →
          fieldLe (fPayload frame) 0 1 = c.op → fieldLe (fPayload frame) 1 1 = c.stn →
          (∀ k ∈ [1, 2], fieldLe (fPayload frame) 2 1 = k → ∃ t, exec (.mgmtReturn r frame fcs) s = .next t ∧ t.xl.cmd = none ∧
            t.fld F.XL_STN_CMD_RESULT = k ∧ t.on F.XL_STN_CMD_GO = false ∧
            (k = 1 → c.op = 1 → t.rdn 0xC0040 = fieldLe (fPayload frame) 4 4)) ∧
          (2 < fieldLe (fPayload frame) 2 1 ∨ fieldLe (fPayload frame) 2 1 = 0 → exec (.mgmtReturn r frame fcs) s = .next s))) ∧
      (∀ (req : Req) (stn : Byte),
        (s.xl.cmd.isSome = true → ∀ i ∈ [Instr.readId req r stn, .identify req r stn, .resume req r stn, .dupClear req r stn],
          exec i s = .next s) ∧
        (s.xl.cmd = none →
          (∀ c ∈ [(Instr.readId req r stn, 1), (.identify req r stn, 2)],
            (s.isActive = true → ∃ t, exec c.1 s = .next t ∧ t.xl.cmd = some ⟨c.2, r, stn.toNat, none, none⟩ ∧
              t.on F.XL_STN_CMD_GO = true ∧ t.fld F.XL_STN_CMD_OP = c.2) ∧
            (s.isActive = false → ∃ t, exec c.1 s = .next t ∧ t.xl.cmd = none ∧ t.fld F.XL_STN_CMD_RESULT = 4 ∧
              t.on F.XL_STN_CMD_GO = false)) ∧
          (∃ t, exec (.resume req r stn) s = .next t ∧ t.xl.cmd = none ∧ t.fld F.XL_STN_CMD_RESULT = (if s.isActive then 1 else 4) ∧
            (s.isActive = true → (∃ q ∈ (s.xring r).stns, q.stn = stn.toNat) → (t.stnSeen r stn.toNat).resume = true)) ∧
          (∃ t, exec (.dupClear req r stn) s = .next t ∧ t.xl.cmd = none ∧ t.fld F.XL_STN_CMD_RESULT = 1 ∧
            (t.stnSeen r stn.toNat).dup = false ∧ t.on (stf F.XL_STN_STATUS_UID_CHANGED r stn.toNat) = false)) ∧
        ((s.stnSeen r stn.toNat).clean < 16 → exec (.duplicateClearCount r stn) s = .next s) ∧
        (16 ≤ (s.stnSeen r stn.toNat).clean → ∃ t, exec (.duplicateClearCount r stn) s = .next t ∧ (t.stnSeen r stn.toNat).dup = false))) ∧
    (∀ c n, s.xl.cmd = some c → c.sent = some n → n + 2 ≤ s.cdr.cyc → ∃ t, exec .stnCmdTimeout s = .next t ∧ t.xl.cmd = none ∧
      t.fld F.XL_STN_CMD_RESULT = 3 ∧ t.on F.XL_STN_CMD_GO = false) ∧
    ((∀ c n, s.xl.cmd = some c → c.sent = some n → s.cdr.cyc < n + 2) → exec .stnCmdTimeout s = .next s)

/-- A read of PTP_TIME_NS returns device time and latches its upper half for the requester alone; PTP_TIME_EXT returns the latch and
does not relatch, with EXT_VALID for 1 s of device time (R376), while the time base's registers answer; without PD_SER the read returns 0
(R527). -/
def Obligations.DeviceTimeReads : Prop :=
  ∀ (r : Req) (s : State),
    (s.domOn 10 = false → exec (.ptpTimeNs r) s = .next { s with readData := 0 }) ∧
    (s.blockOn Reg.PTP_TIME_NS = true → ∃ t, exec (.ptpTimeNs r) s = .next t ∧
    exec (.readClear r .bar0 (BitVec.ofNat 24 Reg.PTP_TIME_NS) 4) s = .next t ∧
    t.readData = s.now % 2 ^ 32 ∧ t.now = s.now ∧
    (∀ q : Req, q ≠ r → t.latchOf q = s.latchOf q ∧ t.timeExt q = s.timeExt q ∧ t.extValid q = s.extValid q) ∧
    (∀ u : State, u.latchOf r = t.latchOf r → u.blockOn Reg.PTP_TIME_EXT = true →
      exec (.readClear r .bar0 (BitVec.ofNat 24 Reg.PTP_TIME_EXT) 4) u = .next { u with readData := s.now / 2 ^ 32 % 2 ^ 32 } ∧
      ∃ v, exec (.readClear r .bar0 (BitVec.ofNat 24 Reg.PTP_STATUS) 4) u = .next v ∧ v.tb = u.tb ∧
        v.readData.testBit 29 = decide (s.now ≤ u.now ∧ u.now - s.now ≤ 1000000000)))

/-- PTP_INCR clamps what is written (R371), steps and slews load as R372 to R374 say, and the transmit timestamp queue is read in two
steps and expires after 1 s, the oldest stamp first (R382, R383).  Without PD_SER, where the time base lies, its registers read 0 and
nothing acts (R527; log entry 18, DEDUCED). -/
def Obligations.TimeBaseCommands : Prop :=
  ∀ (r : Req) (s : State), s.canonical = true →
    (s.domOn 10 = false → (∀ v, ∀ i ∈ [Instr.ptpIncr r v, .step r, .slewGo r, .slewDone, .txtsExpiry], exec i s = .next s) ∧
      ∀ i ∈ [Instr.ptpTxtsW0 r, .ptpTxtsW1 r], exec i s = .next { s with readData := 0 }) ∧
    (s.domOn 10 = true →
    (s.station = true → (∀ v, exec (.ptpIncr r v) s = .next s) ∧ exec (.step r) s = .next s ∧ exec (.slewGo r) s = .next s) ∧
    (s.station = false →
      (∀ v : Word, ∃ t, exec (.ptpIncr r v) s = .next t ∧ t.now = s.now ∧
        t.rdn Reg.PTP_INCR = (if v.toNat < 0x3FF7CED9 then 0x3FF7CED9 else if 0x40083127 < v.toNat then 0x40083127 else v.toNat) ∧
        t.tb.rate = if s.locked then s.tb.rate else t.rdn Reg.PTP_INCR) ∧
      (∃ t, exec (.slewGo r) s = .next t ∧ t.tb.remain = i32 (s.rd Reg.PTP_SLEW) * 2 ^ 28 ∧ t.rd Reg.PTP_SLEW_LEFT = s.rd Reg.PTP_SLEW ∧
        t.on F.PTP_STATUS_SLEWING = decide (s.rd Reg.PTP_SLEW ≠ 0)) ∧
      (s.locked = false → ∃ t, exec (.step r) s = .next t ∧ t.tb.freeStep = some s.stepReg ∧ t.on F.PTP_CTRL_STEP = true ∧ t.now = s.now) ∧
      (s.locked = true → (s.stepReg = 0 ∨ s.tbase = 0 ∨ s.stepReg.natAbs % s.tbase ≠ 0) →
        ∃ t, exec (.step r) s = .next t ∧ t.on F.PTP_STATUS_STEP_REFUSED = true ∧ t.on F.PTP_CTRL_STEP = false ∧ t.tb = s.tb) ∧
      (s.locked = true → s.stepReg ≠ 0 → s.tbase ≠ 0 → s.stepReg.natAbs % s.tbase = 0 →
        ∃ t, exec (.step r) s = .next t ∧ t.on F.PTP_CTRL_STEP = true ∧ (s.stepReg, s.stepCycle) ∈ t.tb.steps ∧
          ∀ x ∈ t.tb.steps, s.tb.launched < x.2 → x = (s.stepReg, s.stepCycle))) ∧
    (s.tb.remain ≠ 0 → exec .slewDone s = .next s) ∧
    (s.tb.remain = 0 → ∃ t, exec .slewDone s = .next t ∧ t.tb.slew = (if s.locked = true ∨ s.station = true then s.tb.slew else 0) ∧
      t.on F.PTP_STATUS_SLEWING = false) ∧
    (∃ t, exec (.ptpTxtsW0 r) s = .next t ∧ t.readData = s.txtsW0 ∧ t.tb.stamps = s.tb.stamps ∧ t.tb.headLatched = !s.tb.stamps.isEmpty) ∧
    (s.tb.headLatched = false ∨ s.tb.stamps = [] → exec (.ptpTxtsW1 r) s = .next { s with readData := 0 }) ∧
    (∀ e es, s.tb.stamps = e :: es →
      (s.tb.headLatched = true → ∃ t, exec (.ptpTxtsW1 r) s = .next t ∧ t.readData = e.stamp ∧ t.tb.stamps = es ∧ t.tb.headLatched = false) ∧
      (s.tb.freeStep = none → ∃ x ∈ s.tb.stamps, ∃ t, (∀ y ∈ s.tb.stamps, x.since ≤ y.since) ∧ exec .txtsExpiry s = .next t ∧
        t.tb.stamps = s.tb.stamps.erase x ∧ t.on F.PTP_STATUS_TS_EXPIRED = true ∧
        t.fld F.PTP_TXTS_CNT_EXPIRED = satN 255 (s.fld F.PTP_TXTS_CNT_EXPIRED + 1) ∧ x.since + 1000000000 < t.now ∧
        t.tb.headLatched = (s.tb.headLatched && x != e))) ∧
    (s.tb.stamps = [] → exec .txtsExpiry s = .next s))

/-- A port receives by R362, R363, R366 and R368, takes its rings' indices (R364), sends and completes in order (R367, R381), launches at
LAUNCH_TIME (R384, R386), cancels (R387), and aborts on link loss and disable (R367, R388).  The model's choices, all of log entry 48: the
polynomial of the FCS and the pause opcode (PRESUMED from IEEE 802.3), the instant of a receive stamp, and the speed of a MODE. -/
def Obligations.EthernetPorts : Prop :=
  ∀ (p : Fin 4) (r : Req) (s : State), s.canonical = true → s.domOn 10 = true → s.eth.length = 4 →
    (∀ (fr : List Byte) (ok : Bool), isMirror fr = false →
      (s.rxRuns p = false → exec (.ethRxFrame p fr ok) s = .next s) ∧
      (s.rxRuns p = true →
        (1518 < fr.length → ∃ t, exec (.ethRxFrame p fr ok) s = .next t ∧ t.eth = s.eth ∧
          t.fld (pf F.ETH_Pp_CNT_OVERSIZE p) = satN F.ETH_Pp_CNT_OVERSIZE.max (s.fld (pf F.ETH_Pp_CNT_OVERSIZE p) + 1)) ∧
        (fr.length ≤ 1518 → ok = false → ∃ t, exec (.ethRxFrame p fr ok) s = .next t ∧ t.eth = s.eth ∧
          t.fld (pf F.ETH_Pp_CNT_FCS_ERR p) = satN F.ETH_Pp_CNT_FCS_ERR.max (s.fld (pf F.ETH_Pp_CNT_FCS_ERR p) + 1)) ∧
        (fr.length ≤ 1518 → ok = true → isPause fr = true ∨ s.accepts p fr = false → exec (.ethRxFrame p fr ok) s = .next s) ∧
        (fr.length ≤ 1518 → ok = true → isPause fr = false → s.accepts p fr = true →
          (∀ k ks, s.f450Hits p fr = k :: ks → good450 fr = false → ∃ t, exec (.ethRxFrame p fr ok) s = .next t ∧ t.eth = s.eth ∧
            t.fld (pf F.ETH_Pp_CNT_BAD_450 p) = satN F.ETH_Pp_CNT_BAD_450.max (s.fld (pf F.ETH_Pp_CNT_BAD_450 p) + 1)) ∧
          (∀ filter, (s.f450Hits p fr = [] ∧ filter = 0xFF) ∨ (∃ ks, s.f450Hits p fr = filter :: ks ∧ good450 fr = true) →
            (s.fld (pf F.ETH_Pp_CONS_RX p) = s.fld (pf F.ETH_Pp_PROD_RX p) → ∃ t, exec (.ethRxFrame p fr ok) s = .next t ∧ t.eth = s.eth ∧
              t.fld (pf F.ETH_Pp_CNT_RX_OVR p) = satN F.ETH_Pp_CNT_RX_OVR.max (s.fld (pf F.ETH_Pp_CNT_RX_OVR p) + 1)) ∧
            (s.fld (pf F.ETH_Pp_CONS_RX p) ≠ s.fld (pf F.ETH_Pp_PROD_RX p) → ∃ t flags, exec (.ethRxFrame p fr ok) s = .next t ∧
              (t.port p).done = (s.port p).done ++ [.rx (s.fld (pf F.ETH_Pp_CONS_RX p)) fr.length flags filter (s.rxStamp p fr.length) fr] ∧
              ((Config.fabricMap (s.rxBase p)).1 = false ∨ s.domOn 11 = true →
                t.fabRead (s.rxBase p) (16 * s.fld (pf F.ETH_Pp_CONS_RX p) + 8) 8 = leBytes 2 fr.length ++
                  [BitVec.ofNat 8 flags, BitVec.ofNat 8 filter] ++ leBytes 4 (s.rxStamp p fr.length)) ∧
              t.fld (pf F.ETH_Pp_CONS_RX p) = (s.fld (pf F.ETH_Pp_CONS_RX p) + 1) % 256))))) ∧
    (∀ fr, isMirror fr = true → s.station = false → s.mirPorts.contains p.val = true → s.rxRuns p = true → s.accepts p fr = true →
      fr.length ≤ 1518 → ∃ t, exec (.ethRxFrame p fr true) s = .next t ∧ t.red.frags = s.red.frags ++ (fragOf p fr).toList ∧
        t.eth = s.eth) ∧
    (∀ rx tx lq txd lqd, ∃ t, exec (.ethProd r p rx tx lq txd lqd) s = .next t ∧
      t.fld (pf F.ETH_Pp_PROD_RX p) = (if prodOk (s.fld (pf F.ETH_Pp_CONS_RX p)) (s.fld (pf F.ETH_Pp_PROD_RX p)) rx then rx.val
        else s.fld (pf F.ETH_Pp_PROD_RX p)) ∧
      t.fld (pf F.ETH_Pp_PROD_TX p) = (if prodOk (s.fld (pf F.ETH_Pp_CONS_TX p)) (s.fld (pf F.ETH_Pp_PROD_TX p)) tx then tx.val
        else s.fld (pf F.ETH_Pp_PROD_TX p)) ∧
      t.fld (pf F.ETH_Pp_PROD_LQ p) = (if prodOk (s.fld (pf F.ETH_Pp_CONS_LQ p)) (s.fld (pf F.ETH_Pp_PROD_LQ p)) lq then lq.val
        else s.fld (pf F.ETH_Pp_PROD_LQ p))) ∧
    (s.txRuns p = false → exec (.transmitDone p) s = .next s ∧ ∀ ring, exec (.launchCommit p ring) s = .next s ∧
      exec (.launchDepart p ring) s = .next s) ∧
    ((s.port p).tx = [] → exec (.transmitDone p) s = .next s) ∧
    (s.txRuns p = true → ∀ e es, (s.port p).tx = e :: es →
      ((s.runTo (s.port p).busyUntil).mayStart p e.desc.frame.length = false → exec (.transmitDone p) s = .next s) ∧
      ((s.runTo (s.port p).busyUntil).mayStart p e.desc.frame.length = true → ∃ t stamp, exec (.transmitDone p) s = .next t ∧
        (t.port p).wire = (s.port p).wire ++ [withFcs (oneStep e.desc stamp)] ∧ (t.port p).tx = (drainEntries 0 es).1 ∧
        (t.port p).done = (s.port p).done ++ .tx 0 e.index .sent :: (drainEntries 0 es).2 ∧ (s.port p).busyUntil ≤ t.now ∧
        ((s.port p).busyUntil ≤ s.now → stamp = s.txStamp p ∧ t.now = s.now))) ∧
    (∀ ring : Fin 2, s.txRuns p = true →
      (∀ l, nextCommit (if ring = 0 then (s.port p).lq0 else (s.port p).lq) = some l → ∃ t, exec (.launchCommit p ring) s = .next t ∧
        l - 1000 ≤ t.now ∧ (if ring = 0 then (t.port p).lq0 else (t.port p).lq) =
          commitFirst (if ring = 0 then (s.port p).lq0 else (s.port p).lq)) ∧
      (nextCommit (if ring = 0 then (s.port p).lq0 else (s.port p).lq) = none → exec (.launchCommit p ring) s = .next s) ∧
      (s.nextLaunch p ring = none → exec (.launchDepart p ring) s = .next s) ∧
      (∀ e, s.nextLaunch p ring = some e →
        ((∀ o, s.nextPending p (1 - ring.val) = some o → s.commitsFirst o e (1 - ring.val) = false) →
          ∃ t stamp, exec (.launchDepart p ring) s = .next t ∧
            (t.port p).wire = (s.port p).wire ++ [withFcs (oneStep e.desc stamp)] ∧
            s.leaveAt p e.desc.launch ≤ t.now ∧ (s.port p).busyUntil ≤ t.now) ∧
        (∀ o, s.nextPending p (1 - ring.val) = some o → s.commitsFirst o e (1 - ring.val) = true →
          ∃ t st st' more, exec (.launchDepart p ring) s = .next t ∧
            (t.port p).wire = (s.port p).wire ++ withFcs (oneStep o.desc st) :: more ++ [withFcs (oneStep e.desc st')] ∧
            s.leaveAt p e.desc.launch ≤ t.now))) ∧
    (∀ idx, ∃ t, exec (.ethLqCancel r p idx) s = .next t ∧ t.fld F.ETH_LQ_CANCEL_RESULT = cancelResult s.now (s.port p) idx ∧
      t.on F.ETH_LQ_CANCEL_GO = false ∧ (cancelResult s.now (s.port p) idx ≠ 1 → t.eth = s.eth) ∧
      (cancelResult s.now (s.port p) idx = 1 → ∀ e ∈ (t.port p).lq, e.index = idx.val → e.status = .cancelled)) ∧
    (∀ up speed, s.on (pf F.ETH_Pp_STATUS_LINK p) = up ∨ s.fld (pf F.ETH_Pp_CFG_MODE p) = 0 →
      exec (.ethLinkChange p up speed) s = .next s) ∧
    (∀ speed, s.on (pf F.ETH_Pp_STATUS_LINK p) = false → s.fld (pf F.ETH_Pp_CFG_MODE p) ≠ 0 → ∃ t, exec (.ethLinkChange p true speed) s = .next t ∧
      t.on (pf F.ETH_Pp_STATUS_LINK p) = true ∧ t.on (pf F.ETH_Pp_STATUS_LINK_CHG p) = true ∧ t.fld (pf F.ETH_Pp_STATUS_SPEED p) = s.linkSpeed p speed.val ∧
      t.eth = s.eth) ∧
    (∀ speed, s.on (pf F.ETH_Pp_STATUS_LINK p) = true → s.fld (pf F.ETH_Pp_CFG_MODE p) ≠ 0 → ∃ t, exec (.ethLinkChange p false speed) s = .next t ∧
      t.on (pf F.ETH_Pp_STATUS_LINK p) = false ∧ t.on (pf F.ETH_Pp_STATUS_LINK_CHG p) = true ∧ (t.port p).tx = [] ∧ (t.port p).lq = [] ∧
      (t.port p).lq0 = [] ∧ t.fld (pf F.ETH_Pp_CONS_RX p) = t.fld (pf F.ETH_Pp_PROD_RX p)) ∧
    (∀ tx rx, ∃ t, exec (.ethPortEnable r p tx rx) s = .next t ∧ t.on (pf F.ETH_Pp_CFG_TX_EN p) = tx ∧ t.on (pf F.ETH_Pp_CFG_RX_EN p) = rx ∧
      (s.on (pf F.ETH_Pp_CFG_TX_EN p) = true → tx = false → (t.port p).tx = [] ∧ (t.port p).lq = [] ∧ (t.port p).lq0 = []) ∧
      (s.on (pf F.ETH_Pp_CFG_RX_EN p) = true → rx = false → t.fld (pf F.ETH_Pp_CONS_RX p) = t.fld (pf F.ETH_Pp_PROD_RX p)))

/-- The supply switch, the lockout and the start of the device (R390 to R395), the battery comparator (R389), and the sequences on
PWR_ON_REQ (R409, R410), a Cycle with every switched domain powered down (R529).  Events met on VBAT are kept for the next start (R411).
The commands of the calendar and the event inputs complete (R398 to R407); `MeridianCalendar` says what they do.  The model's choices:
events kept on VBAT, the 2 ms from the level's return, and a copy cut, or resumed, word by word (log entry 49); what main power's loss
does (log entry 19); TIME_LOST keeping BAT_LOW (log entry 40, DEDUCED); a release past STAGE 0 and HALT in DECOMMISSIONED (log entry 20);
the domains going with the Cycle's command (log entry 52, DESIGN CHOICE). -/
def Obligations.MeridianSupplies : Prop :=
  ∀ s : State, s.canonical = true →
    (∃ t, exec .vddAonWarning s = .next t ∧ t.mer = { s.mer with lockout := true, aboveWarn := false } ∧
      (s.mer.lockout = true ∨ s.cdr.copyRun = none → t = { s with mer := { s.mer with lockout := true, aboveWarn := false } }) ∧
      (∀ c n, s.mer.lockout = false → s.cdr.copyRun = some c → n = (s.now - c.start + 79) / 80 * 4 → n < c.old.length →
        readBytes ramByte t.mem.retained (c.off + n) (c.old.length - n) = c.old.drop n ∧ t.cdr.copyRun = none ∧
        t.fld F.MER_LOCK_CNT_LOCKOUT = satN F.MER_LOCK_CNT_LOCKOUT.max
          (s.fld F.MER_LOCK_CNT_LOCKOUT + (c.old.length - n + 3) / 4))) ∧
    (s.mer.aonValid = true → s.mer.aboveWarn = true → exec .vddAonValid s = .next s) ∧
    (s.mer.aonValid = true → s.mer.aboveWarn = false → exec .vddAonValid s =
      .next { s with mer := { s.mer with aboveWarn := true, cleanFrom := s.now } }) ∧
    (s.mer.aonValid = false → ∃ t, exec .vddAonValid s = .next t ∧ t.mer.aonValid = true ∧ t.mer.aboveWarn = true ∧
      t.on F.CLK_STATUS_REF_MODE = s.pow.refSel ∧ t.railOk 0 = true ∧ t.lc = lcOf s.boot.fuses.blown ∧ t.mer.onVbat = false ∧ t.mer.lockout = true ∧
      t.now = 0 ∧ t.mem.flash = s.mem.flash ∧ t.boot.fuses = s.boot.fuses ∧ t.pending = s.pending ∧
      (s.mer.onVbat = true → t.mem.retained = s.mem.retained ∧ ∀ k, batteryReg k = true → t.rd k = s.rd k) ∧
      (s.mer.onVbat = false → t.mem.retained = [] ∧ t.on F.MER_STATUS_TIME_LOST = true)) ∧
    (∀ rank rails ddrOk bistFail guardAt powerAt ddrAt timeAt sub,
      (s.mer.aonValid = false ∨ s.mer.aboveWarn = false ∨ s.mer.lockout = false →
        exec (.lockoutRelease rank rails ddrOk bistFail guardAt powerAt ddrAt timeAt sub) s = .next s) ∧
      (s.mer.aonValid = true → s.mer.aboveWarn = true → s.mer.lockout = true →
        (s.fld F.BOOT_STATUS_STAGE ≠ 0 ∨ s.svDead = true →
          ∃ t, exec (.lockoutRelease rank rails ddrOk bistFail guardAt powerAt ddrAt timeAt sub) s = .next t ∧ t.mer = { s.mer with lockout := false } ∧
            (s.tb.freeStep = none → s.mer.cleanFrom + 2000000 ≤ t.now) ∧
            ((∀ c, s.cdr.copyRun = some c → c.locked = false) → t = (s.runTo (s.mer.cleanFrom + 2000000)).modMer fun m => { m with lockout := false }) ∧
            (∀ c n, s.cdr.copyRun = some c → c.locked = true → n = (t.now - c.start + 79) / 80 * 4 → n < c.new.length →
              readBytes ramByte t.mem.retained (c.off + n) (c.new.length - n) = c.new.drop n)) ∧
        (s.fld F.BOOT_STATUS_STAGE = 0 → s.svDead = false →
          ∃ t, exec (.lockoutRelease rank rails ddrOk bistFail guardAt powerAt ddrAt timeAt sub) s = .next t ∧ t.mer.lockout = false ∧
            t.fld F.BOOT_STATUS_LC = lcOf s.boot.fuses.blown ∧ t.boot.fuses = s.boot.fuses ∧
            (t.fld F.BOOT_STATUS_STAGE = 7 ∨ t.fld F.BOOT_STATUS_STAGE = 8 ∨ t.fld F.BOOT_STATUS_STAGE = 0xF) ∧
            (lcOf s.boot.fuses.blown = 4 → t.fld F.BOOT_STATUS_STAGE = 0xF ∧ ∀ d, 3 ≤ d → d ≤ 11 → t.domOn d = false)))) ∧
    (∀ vbat sub, ∀ c ∈ [(Instr.vbatSwitch vbat sub, false), (.fastFall vbat sub, true)],
      (s.mer.aonValid = false ∨ s.mer.lockout = false → exec c.1 s = .next s) ∧
      (s.mer.aonValid = true → s.mer.lockout = true → ∃ t, exec c.1 s = .next t ∧ t.mer.aonValid = false ∧ t.mer.onVbat = vbat ∧
        t.mer.lockout = true ∧ t.now = 0 ∧ t.mem.flash = s.mem.flash ∧ t.mem.retained = s.mem.retained ∧ t.mem.sram = [] ∧
        t.boot.fuses = s.boot.fuses ∧ t.pending = s.pending ∧
        (c.2 = true → t.on F.MER_STATUS_FAST_FALL = true ∧ t.mer.fastFell = true) ∧
        (vbat = true → t.rd Reg.MER_SW_TIME = s.rd Reg.MER_TIME ∧ t.rd Reg.MER_SW_DATE = s.rd Reg.MER_DATE ∧
          (s.mer.seq = .cycle → t.mer.offRun = true) ∧
          (s.mer.seq = .none → s.on F.MER_PWR_BO_EN = true → t.mer.seq = .brownOut ∧ t.mer.low = true ∧ t.mer.offRun = true)) ∧
        (vbat = false → t.mer.low = false ∧ t.mer.seq = .none))) ∧
    (∀ close, (s.mer.onVbat = true ∨ s.mer.aonValid = false ∨ close = true → ∃ t, exec (.timeLost close) s = .next t ∧
        t.on F.MER_STATUS_TIME_LOST = true ∧ t.mer.onVbat = false ∧ t.mem.retained = [] ∧ t.mer.fifo = [] ∧ t.cal = ⟨0, 1, 1, 0, 0, 0⟩ ∧
        t.on F.MER_STATUS_BAT_LOW = s.on F.MER_STATUS_BAT_LOW) ∧
      (s.mer.onVbat = false → s.mer.aonValid = true → close = false → exec (.timeLost close) s = .next s)) ∧
    (∀ vbat, (s.mer.aonValid = true ∨ s.mer.onVbat = true → exec (.meridianPowerUp vbat) s = .next s) ∧
      (s.mer.aonValid = false → s.mer.onVbat = false → ∃ t, exec (.meridianPowerUp vbat) s = .next t ∧ t.mer.onVbat = vbat ∧
        t.mer.lockout = true ∧ t.on F.MER_STATUS_TIME_LOST = true ∧ t.mem.retained = [])) ∧
    (∀ low, (s.on F.MER_STATUS_BAT_LOW = low → exec (.batLow low) s = .next s) ∧
      (s.on F.MER_STATUS_BAT_LOW = !low → ∃ t, exec (.batLow low) s = .next t ∧ t.on F.MER_STATUS_BAT_LOW = low ∧
        t.mer = if s.mainPower then s.mer else { s.mer with kept := s.mer.kept ++ [(178, sevWarn, b2n low)] })) ∧
    (s.blockOn Reg.MER_PWR = false → ∀ r, exec (.cycle r) s = .next s ∧ exec (.sleep r) s = .next s) ∧
    (s.blockOn Reg.MER_PWR = true → ∀ r, ∀ c ∈ [(Instr.cycle r, PwrSeq.cycle, F.MER_PWR_CYCLE), (.sleep r, .sleep, F.MER_PWR_SLEEP)],
      (s.mer.lockout = true → ∃ t, exec c.1 s = .next t ∧ t.mer = s.mer ∧
        t.fld F.MER_LOCK_CNT_LOCKOUT = satN F.MER_LOCK_CNT_LOCKOUT.max (s.fld F.MER_LOCK_CNT_LOCKOUT + 1)) ∧
      (s.mer.lockout = false → s.merActive = true → ∃ t, exec c.1 s = .next t ∧ t.on F.MER_STATUS_CMD_REFUSED = true ∧ t.on c.2.2 = false ∧
        t.mer = if s.mainPower then s.mer else { s.mer with kept := s.mer.kept ++ [(182, sevNotice, 0)] }) ∧
      (s.mer.lockout = false → s.merActive = false → s.mer.seq = .none → ∃ t, exec c.1 s = .next t ∧ t.mer.low = true ∧ t.mer.seq = c.2.1 ∧
        t.on c.2.2 = true ∧ t.mer.reason = s.fld F.MER_PWR_REASON ∧ (c.2.1 = .cycle → ∀ d, 3 ≤ d → d ≤ 11 → t.domOn d = false))) ∧
    (s.mer.offRun = false → exec .offTimeExpiry s = .next s) ∧
    (s.mer.offRun = true → ∃ t, exec .offTimeExpiry s = .next t ∧ t.mer.low = false ∧ t.mer.seq = .none ∧ t.mer.offRun = false ∧
      t.on F.MER_PWR_CYCLE = false ∧ t.on F.MER_PWR_SLEEP = false) ∧
    ((s.mer.seq ≠ .cycle ∧ s.mer.seq ≠ .sleep) ∨ s.mer.onVbat = true → exec .pwrIgnored s = .next s) ∧
    ((s.mer.seq = .cycle ∨ s.mer.seq = .sleep) → s.mer.onVbat = false → ∃ t, exec .pwrIgnored s = .next t ∧ t.mer.low = false ∧
      t.mer.seq = .none ∧ t.on F.MER_STATUS_PWR_IGNORED = true) ∧
    (∃ t, exec .prescalerWrap s = .next t ∧ t.mer.winSec = s.mer.winSec + 1) ∧
    (∀ temp, ∃ t, exec (.compensationWindow temp) s = .next t ∧ t.mer.winSec = 0) ∧
    (∀ (i : Fin 4) rise sub, bitAt (s.eviEdges i) (if rise then 0 else 1) = true → ∃ t, exec (.eventInputEdge i rise sub) s = .next t ∧
      t.mer.fifo.length = s.mer.fifo.length + b2n (decide (s.mer.fifo.length < 32))) ∧
    (s.blockOn Reg.MER_CTRL = false → ∀ (r : Req) (b a : Bool) (sub : Fin 32768) (w : Fin 3) (v : Word),
      (∀ i ∈ [Instr.halt r b sub a, .calendarWrite r w v, .shiftGo r, .timeLostClear r], exec i s = .next s) ∧
      ∀ i ∈ [Instr.merSubsecRead r sub, .merEvf0Read r, .merEvf2Read r], exec i s = .next { s with readData := 0 }) ∧
    (s.mer.lockout = false → s.blockOn Reg.MER_CTRL = true → ∀ r : Req,
      (∀ b sub atWrap, ∃ t, exec (.halt r b sub atWrap) s = .next t ∧ t.on F.MER_CTRL_HALT = b) ∧
      (s.on F.MER_STATUS_HALTED = true → ∀ v : Word, v.toNat < 32768 → ∃ t, exec (.calendarWrite r 0 v) s = .next t ∧
        t.fld F.MER_SUBSEC_SUBSEC = v.toNat) ∧
      (s.on F.MER_CTRL_HALT = false → s.fld F.MER_SHIFT_TICKS ≤ 32768 → ∃ t, exec (.shiftGo r) s = .next t ∧
        t.mer.shift = some (s.fld F.MER_SHIFT_TICKS : Int)) ∧
      (∃ t, exec (.timeLostClear r) s = .next t ∧ t.on F.MER_STATUS_TIME_LOST = false) ∧
      (∀ sub, ∃ t, exec (.merSubsecRead r sub) s = .next t ∧ t.readData = t.fld F.MER_SUBSEC_SUBSEC) ∧
      (∃ t, exec (.merEvf0Read r) s = .next t ∧ t.mer.latched = !s.mer.fifo.isEmpty) ∧
      (s.mer.latched = true → ∀ e es, s.mer.fifo = e :: es → ∃ t, exec (.merEvf2Read r) s = .next t ∧ t.mer.fifo = es))

/-- The calendar counts, halts, is set and shifted, and is read through shadows (R398 to R403); the event inputs fill and empty their
FIFO (R405 to R407).  The model's readings: COMP_EN is tested at each wrap and a window without it has the correction 0, MER_TIME and
MER_DATE are the shadows, and the curve rounds to nearest, ties to even (all of log entry 40, DEDUCED); a block that does not answer is log
entry 18 (DEDUCED). -/
def Obligations.MeridianCalendar : Prop :=
  ∀ s : State, s.canonical = true →
    (s.on F.MER_STATUS_HALTED = true → exec .prescalerWrap s = .next { s with mer := { s.mer with winSec := s.mer.winSec + 1 } }) ∧
    (s.on F.MER_STATUS_HALTED = false → ∀ n : Int,
      n = (if s.on F.MER_CTRL_COMP_EN ∧ s.mer.winSec < 128 then compTicks s.mer.winN s.mer.winSec else 0) + s.mer.shift.getD 0 →
        ∃ t, exec .prescalerWrap s = .next t ∧ t.cal = Cal.next^[1 + (n / 32768).toNat] s.cal ∧
          t.fld F.MER_SUBSEC_SUBSEC = n.toNat % 32768 ∧ t.mer.shift = none ∧ t.mer.winSec = s.mer.winSec + 1 ∧
          (s.mer.shift.isSome = true → t.on F.MER_STATUS_SHIFT_PEND = false)) ∧
    (∀ temp, ∃ t, exec (.compensationWindow temp) s = .next t ∧ t.mer.winSec = 0 ∧
      t.mer.winN = (if s.on F.MER_CTRL_COMP_EN then
        clampI (-1023) 1023 (-(divRneI (curveTenth s.merTc (clampI (-40) 120 temp.toInt) * 4194304) 10000000000)) else 0) ∧
      t.fld F.MER_TEMP_CORR = code 11 t.mer.winN ∧ t.cal = s.cal ∧
      (s.on F.MER_CTRL_COMP_EN = true → t.fld F.MER_TEMP_TEMP = code 8 (clampI (-40) 120 temp.toInt) ∧
        t.on F.MER_STATUS_COMP_SAT = (t.mer.winN != -(divRneI (curveTenth s.merTc (clampI (-40) 120 temp.toInt) * 4194304) 10000000000)))) ∧
    (∀ (i : Fin 4) rise sub,
      (bitAt (s.eviEdges i) (if rise then 0 else 1) = false → exec (.eventInputEdge i rise sub) s = .next s) ∧
      (bitAt (s.eviEdges i) (if rise then 0 else 1) = true → ∃ t, exec (.eventInputEdge i rise sub) s = .next t ∧
        (i.val = 0 → s.mer.resume = true → t.on F.MER_STATUS_HALTED = false ∧ t.mer.resume = false) ∧
        (32 ≤ s.mer.fifo.length → t.mer.fifo = s.mer.fifo ∧ t.mer.lostNext = true ∧
          t.fld F.MER_EVF_CNT_LOST = satN F.MER_EVF_CNT_LOST.max (s.fld F.MER_EVF_CNT_LOST + 1)) ∧
        (s.mer.fifo.length < 32 → ∃ e, t.mer.fifo = s.mer.fifo ++ [e] ∧ e.w0 / 2 ^ 26 % 8 = i.val + 4 * b2n rise ∧ t.mer.lostNext = false ∧
          e.w0.testBit 29 = s.mer.lostNext ∧ e.w0.testBit 30 = (s.mainPower && !s.mer.lockout) ∧
          e.w2 = (if s.mainPower && !s.mer.lockout then s.eviDt i else 0) ∧
          e.w1 % 2 ^ 20 = (if s.on F.MER_STATUS_HALTED then s.fld F.MER_SUBSEC_SUBSEC else Nat.max sub.val (s.fld F.MER_SUBSEC_SUBSEC))))) ∧
    (∀ (r : Req) (b : Bool) (sub : Fin 32768) (atWrap : Bool) (which : Fin 3) (v : Word),
      ∀ i ∈ [Instr.halt r b sub atWrap, .calendarWrite r which v, .shiftGo r, .timeLostClear r],
        (s.blockOn Reg.MER_CTRL = false → exec i s = .next s) ∧
        (s.blockOn Reg.MER_CTRL = true → s.mer.lockout = true → ∃ t, exec i s = .next t ∧ t.mer = s.mer ∧ t.cal = s.cal ∧
          t.fld F.MER_LOCK_CNT_LOCKOUT = satN F.MER_LOCK_CNT_LOCKOUT.max (s.fld F.MER_LOCK_CNT_LOCKOUT + 1))) ∧
    (∀ r sub, ∀ i ∈ [Instr.merSubsecRead r sub, .merEvf0Read r, .merEvf2Read r], s.mer.lockout = true ∨ s.blockOn Reg.MER_CTRL = false →
      exec i s = .next { s with readData := 0 }) ∧
    (s.mer.lockout = false → s.blockOn Reg.MER_CTRL = true → ∀ r,
      (∀ sub atWrap, ∃ t, exec (.halt r true sub atWrap) s = .next t ∧ t.on F.MER_CTRL_HALT = true ∧ t.on F.MER_STATUS_HALTED = true ∧
        (s.on F.MER_STATUS_HALTED = false → t.fld F.MER_SUBSEC_SUBSEC = Nat.max sub (s.fld F.MER_SUBSEC_SUBSEC)) ∧
        t.mer.shift = (if atWrap then none else s.mer.shift) ∧
        (atWrap = true → s.mer.shift.isSome = true → t.on F.MER_STATUS_SHIFT_CANCELLED = true)) ∧
      (∀ sub atWrap, ∃ t, exec (.halt r false sub atWrap) s = .next t ∧ t.on F.MER_CTRL_HALT = false ∧
        (s.on F.MER_STATUS_HALTED = true → s.on F.MER_CTRL_REL_EVI0 = true → t.on F.MER_STATUS_HALTED = true ∧ t.mer.resume = true) ∧
        (s.on F.MER_STATUS_HALTED = false ∨ s.on F.MER_CTRL_REL_EVI0 = false → t.on F.MER_STATUS_HALTED = false)) ∧
      (∀ (which : Fin 3) (v : Word), ∃ row, regRow? (calReg which) = some row ∧
        ((v &&& BitVec.ofNat 32 row.rsv) ≠ 0 → exec (.calendarWrite r which v) s = .fault .reservedWrite) ∧
        ((v &&& BitVec.ofNat 32 row.rsv) = 0 → ∃ t, exec (.calendarWrite r which v) s = .next t ∧
          (s.on F.MER_STATUS_HALTED = false → t.cal = s.cal ∧ t.on F.MER_STATUS_WR_REFUSED = true) ∧
          (s.on F.MER_STATUS_HALTED = true →
            (which = 0 → t.fld F.MER_SUBSEC_SUBSEC = v.toNat % 32768 ∧ t.cal = s.cal) ∧
            (which = 1 → if bitsOf v.toNat 20 16 ≤ 23 ∧ bitsOf v.toNat 13 8 ≤ 59 ∧ bitsOf v.toNat 5 0 ≤ 59 then
                t.cal = { s.cal with hour := bitsOf v.toNat 20 16, min := bitsOf v.toNat 13 8, sec := bitsOf v.toNat 5 0 }
              else t.cal = s.cal ∧ t.on F.MER_STATUS_WR_REFUSED = true) ∧
            (which = 2 → if dateOk (bitsOf v.toNat 23 16) (bitsOf v.toNat 11 8) (bitsOf v.toNat 4 0) then
                t.cal = { s.cal with year := bitsOf v.toNat 23 16, month := bitsOf v.toNat 11 8, day := bitsOf v.toNat 4 0 }
              else t.cal = s.cal ∧ t.on F.MER_STATUS_WR_REFUSED = true)))) ∧
      (∀ n, n = sgn 17 (s.fld F.MER_SHIFT_TICKS) → ∃ t, exec (.shiftGo r) s = .next t ∧
        (if s.on F.MER_CTRL_HALT ∨ n < -32768 ∨ 32768 < n then t.mer.shift = s.mer.shift ∧ t.on F.MER_STATUS_WR_REFUSED = true
         else t.mer.shift = some n ∧ t.on F.MER_STATUS_SHIFT_PEND = true)) ∧
      (∃ t, exec (.timeLostClear r) s = .next t ∧ t.on F.MER_STATUS_TIME_LOST = false ∧ t.on F.MER_STATUS_RET_VALID = true ∧ t.mer = s.mer) ∧
      (∀ sub, ∃ t, exec (.merSubsecRead r sub) s = .next t ∧ t.readData = t.fld F.MER_SUBSEC_SUBSEC ∧
        t.merShadow r = (s.rdn Reg.MER_TIME, s.rdn Reg.MER_DATE) ∧ (∀ q : Req, q ≠ r → t.merShadow q = s.merShadow q) ∧
        (s.on F.MER_STATUS_HALTED = false → t.readData = Nat.max sub (s.fld F.MER_SUBSEC_SUBSEC))) ∧
      (∃ t, exec (.merEvf0Read r) s = .next t ∧ t.mer.fifo = s.mer.fifo ∧ t.mer.latched = !s.mer.fifo.isEmpty ∧
        t.readData = match s.mer.fifo with | [] => 0 | e :: _ => 2 ^ 31 + e.w0) ∧
      (∀ e es, s.mer.latched = true → s.mer.fifo = e :: es → ∃ t, exec (.merEvf2Read r) s = .next t ∧ t.readData = e.w2 ∧
        t.mer.fifo = es ∧ t.mer.latched = false) ∧
      (s.mer.latched = false ∨ s.mer.fifo = [] → exec (.merEvf2Read r) s = .next { s with readData := 0 }))

/-- A received frame goes to the lowest matching object, waits in its shadow while that is locked, or counts as lost or unmatched
(R415, R416); reads lock and free an object, and a lock ends after 1 ms (R416, R417).  The model's readings, both of log entry 41: a frame
is remote only where it is classical (PRESUMED), and an unread object without a lock is overwritten (DEDUCED). -/
def Obligations.CanReceives : Prop :=
  ∀ (c : Fin 4) (r : Req) (s : State), s.canonical = true → s.domOn 9 = true → s.can.length = 4 →
    (∀ f0 f : CanFrame, f = { f0 with rtr := f0.rtr && !f0.fdf } →
      (s.canLive c = false ∨ (f.fdf = true ∧ s.on (cf F.CAN_CTRL_FD_EN c) = false) → exec (.canFrameReceived c f0) s = .next s) ∧
      (s.canLive c = true → (f.fdf = true → s.on (cf F.CAN_CTRL_FD_EN c) = true) → ∃ t, exec (.canFrameReceived c f0) s = .next t ∧
        ((s.canOf c).recv ≤ 127 → (t.canOf c).recv = (s.canOf c).recv - 1) ∧
        (127 < (s.canOf c).recv → 119 ≤ (t.canOf c).recv ∧ (t.canOf c).recv ≤ 127) ∧
        ((∀ k, k < 128 → s.canMatch c k f = false) → t.fld (cf F.CAN_CNT_NOMATCH c) = satN F.CAN_CNT_NOMATCH.max (s.fld (cf F.CAN_CNT_NOMATCH c) + 1)) ∧
        (∀ k, k < 128 → s.canMatch c k f = true → (∀ j, j < k → s.canMatch c j f = false) →
          (s.on (of F.CAN_OBJ_CFG_LOCK c k) = false → t.on (of F.CAN_OBJ_CFG_NEWDAT c k) = true ∧ t.on (newdatBit c k) = true ∧
            t.rd (objWord c k 3) = f.ts ∧ t.fld (of F.CAN_OBJ_CFG_DLC c k) = f.dlc.val ∧ t.on (of F.CAN_OBJ_CFG_RTR c k) = f.rtr ∧
            t.fld (of F.CAN_OBJ_CFG_LAST c k) = lastWord f.fdf f.dlc.val ∧
            (f.rtr = false → f.data.length = dlcLen f.fdf f.dlc.val → ∀ i, 4 * i + 4 ≤ f.data.length →
              t.rd (objWord c k (4 + i)) = w32 (fieldLe f.data (4 * i) 4))) ∧
          (s.on (of F.CAN_OBJ_CFG_LOCK c k) = true → t.on (of F.CAN_OBJ_CFG_NEWDAT c k) = s.on (of F.CAN_OBJ_CFG_NEWDAT c k) ∧
            t.rd (objWord c k 3) = s.rd (objWord c k 3) ∧
            (((s.canOf c).shadows.any fun p => p.1 == k) = false → (t.canOf c).shadows = (k, f) :: (s.canOf c).shadows) ∧
            (((s.canOf c).shadows.any fun p => p.1 == k) = true → t.on (of F.CAN_OBJ_CFG_MSGLOST c k) = true ∧
              t.on (cf F.CAN_STATUS_MSGLOST c) = true ∧
              t.fld (cf F.CAN_CNT_LOST c) = satN F.CAN_CNT_LOST.max (s.fld (cf F.CAN_CNT_LOST c) + 1) ∧
              (t.canOf c).shadows = (if s.on (of F.CAN_OBJ_CFG_OVW c k) then (k, f) :: (s.canOf c).shadows.filter (fun p => p.1 != k)
                else (s.canOf c).shadows)))))) ∧
    (∀ k : Fin 128, (∃ t, exec (.canWord0Read r c k) s = .next t ∧ t.readData = s.rdn (objWord c k 0) ∧
        (s.isRx c k = true → s.on (of F.CAN_OBJ_CFG_NEWDAT c k) = true → t.on (of F.CAN_OBJ_CFG_LOCK c k) = true ∧
          (s.on (of F.CAN_OBJ_CFG_LOCK c k) = false → (t.canOf c).locks = (k.val, s.now) :: (s.canOf c).locks)) ∧
        (s.isRx c k = false ∨ s.on (of F.CAN_OBJ_CFG_NEWDAT c k) = false → t = { s with readData := t.readData })) ∧
      (∃ t, exec (.canLastRead r c k) s = .next t ∧ t.readData = s.rdn (objWord c k (s.fld (of F.CAN_OBJ_CFG_LAST c k))) ∧
        (s.isRx c k = true → t.on (of F.CAN_OBJ_CFG_LOCK c k) = false ∧
          t.on (of F.CAN_OBJ_CFG_NEWDAT c k) = ((s.canOf c).shadows.any fun p => p.1 == k.val) ∧
          (t.canOf c).shadows = (s.canOf c).shadows.filter fun p => p.1 != k.val) ∧
        (s.isRx c k = false → t = { s with readData := t.readData })) ∧
      ((∀ p ∈ (s.canOf c).locks, p.1 ≠ k.val) → exec (.canLockTimeout c k) s = .next s) ∧
      (∀ p, (s.canOf c).locks.find? (fun p => p.1 == k.val) = some p → ∃ t, exec (.canLockTimeout c k) s = .next t ∧
        p.2 + 1000000 ≤ t.now ∧ t.on (of F.CAN_OBJ_CFG_LOCK c k) = false ∧ t.on (cf F.CAN_STATUS_LOCK_TMO c) = true ∧
        ∀ q ∈ (t.canOf c).locks, q.1 ≠ k.val))

/-- Objects become pending, complete, are tried again and are cancelled (R418, R419); the error counts give STATE, bus-off and recovery
(R420, R421), and EN is refused with timing out of range (R413).  Which object can be on the wire rests on the model's order of
arbitration, the bits that ISO 11898-1 sends (State.canPrio, log entry 41, PRESUMED), and on the objects of one write becoming pending
together (State.canOnWire, log entry 41, DEDUCED). -/
def Obligations.CanTransmits : Prop :=
  ∀ (c : Fin 4) (r : Req) (s : State), s.canonical = true → s.domOn 9 = true → s.can.length = 4 →
    (∀ (w : Fin 4) (mask : Word), ∃ t, exec (.canTxreq r c w mask) s = .next t ∧ ∀ i, i < 32 →
      t.isPending c (32 * w + i) = (s.isPending c (32 * w + i) || (mask.getLsbD i && s.fld (of F.CAN_OBJ_CFG_DIR c (32 * w + i)) == 2)) ∧
      (s.isPending c (32 * w + i) = false → t.isPending c (32 * w + i) = true → t.on (txreqBit c (32 * w + i)) = true)) ∧
    (∀ k : Fin 128,
      (s.canOnWire c k = true → s.isPending c k = true ∧ s.canLive c = true) ∧
      (s.canOnWire c k = false → exec (.canTxDone c k) s = .next s) ∧
      (s.canOnWire c k = true → ∃ t, exec (.canTxDone c k) s = .next t ∧ t.fld (of F.CAN_OBJ_CFG_TXRES c k) = 2 ∧
        t.on (txreqBit c k) = false ∧ (t.canOf c).tec = (s.canOf c).tec - 1 ∧
        (t.canOf c).wire = (s.canOf c).wire ++ [s.canFrameOf c k] ∧
        ((s.canOf c).cancelWait = some k.val → t.fld (cf F.CAN_CANCEL_RESULT c) = 2)) ∧
      (s.canOnWire c k = false → exec (.canArbitrationLost c k) s = .next s) ∧
      (s.canOnWire c k = true → ∃ t, exec (.canArbitrationLost c k) s = .next t ∧
        ((s.canOf c).cancelWait = some k.val → t.fld (of F.CAN_OBJ_CFG_TXRES c k) = 3 ∧ t.fld (cf F.CAN_CANCEL_RESULT c) = 1) ∧
        ((s.canOf c).cancelWait ≠ some k.val → ∀ n, (s.canOf c).attempts.find? (fun a => a.1 == k.val) = some (k.val, some n) →
          if n = 0 then t.fld (of F.CAN_OBJ_CFG_TXRES c k) = 4 ∧ t.on (cf F.CAN_STATUS_TX_FAIL c) = true
          else t.isPending c k = true ∧ (t.canOf c).attempts.find? (fun a => a.1 == k.val) = some (k.val, some (n - 1)))) ∧
      (∀ pos, ∃ t, exec (.canCancel r c k pos) s = .next t ∧
        (s.isPending c k = false → t.fld (cf F.CAN_CANCEL_RESULT c) = 3 ∧ t.on (cf F.CAN_CANCEL_GO c) = false) ∧
        (s.isPending c k = true →
          (s.canOnWire c k = false ∨ pos = .idle → t.fld (cf F.CAN_CANCEL_RESULT c) = 1 ∧ t.fld (of F.CAN_OBJ_CFG_TXRES c k) = 3 ∧ t.on (cf F.CAN_CANCEL_GO c) = false) ∧
          (s.canOnWire c k = true → pos = .arbitration → (t.canOf c).cancelWait = some k.val ∧ t.isPending c k = true ∧ t.on (cf F.CAN_CANCEL_GO c) = true) ∧
          (s.canOnWire c k = true → pos = .won → t.fld (cf F.CAN_CANCEL_RESULT c) = 2 ∧
            (t.canOf c).attempts.find? (fun a => a.1 == k.val) = some (k.val, some 0) ∧ t.isPending c k = true ∧ t.on (cf F.CAN_CANCEL_GO c) = false)))) ∧
    (∀ err, (s.canLive c = false ∨ (∃ (k : Fin 128) (won : Bool) (bit : Bool) (counted : Bool), err = .tx k won bit counted ∧ s.canOnWire c k = false) →
        exec (.canError c err) s = .next s) ∧
      (s.canLive c = true → (∀ (k : Fin 128) (won : Bool) (bit : Bool) (counted : Bool), err = .tx k won bit counted → s.canOnWire c k = true) → ∃ t, exec (.canError c err) s = .next t ∧
        (t.canOf c).tec = (s.canOf c).tec + (match err with | .tx _ _ _ true => 8 | .txFurther => 8 | _ => 0) ∧
        (t.canOf c).recv = (s.canOf c).recv + (match err with | .rx => 1 | .rxDominant => 8 | _ => 0) ∧
        t.fld (cf F.CAN_STATUS_STATE c) = errState (t.canOf c).tec (t.canOf c).recv ∧
        (255 < (t.canOf c).tec → t.on (cf F.CAN_STATUS_BUS_OFF_SEEN c) = true ∧ ∀ k, k < 128 → t.isPending c k = false) ∧
        (∀ k counted, err = .tx k true true counted → t.on (cf F.CAN_STATUS_CONFLICT c) = true) ∧
        (err = .txFurther → (t.canOf c).tec ≤ 255 → (t.canOf c).attempts = (s.canOf c).attempts ∧
          ∀ k, k < 128 → t.isPending c k = s.isPending c k))) ∧
    (s.on (cf F.CAN_STATUS_RECOVERING c) = false → exec (.canRecoveryDone c) s = .next s) ∧
    (s.on (cf F.CAN_STATUS_RECOVERING c) = true → ∃ t, exec (.canRecoveryDone c) s = .next t ∧ t.on (cf F.CAN_STATUS_RECOVERING c) = false ∧
      (t.canOf c).tec = 0 ∧ (t.canOf c).recv = 0 ∧ t.fld (cf F.CAN_STATUS_STATE c) = 0) ∧
    (∃ t, exec (.recover r c) s = .next t ∧ t.on (cf F.CAN_CTRL_RECOVER c) = false ∧ t.on (cf F.CAN_STATUS_RECOVERING c) =
      (s.on (cf F.CAN_STATUS_RECOVERING c) || s.fld (cf F.CAN_STATUS_STATE c) == 2)) ∧
    (∀ en, s.on (cf F.CAN_CTRL_EN c) = en → exec (.canEnable r c en) s = .next s) ∧
    (s.on (cf F.CAN_CTRL_EN c) = false → ∃ t, exec (.canEnable r c true) s = .next t ∧
      (if s.canTimingOk c then t.on (cf F.CAN_CTRL_EN c) = true ∧
          t.fld (cf F.CAN_STATUS_STATE c) = errState (s.canOf c).tec (s.canOf c).recv
        else t.on (cf F.CAN_CTRL_EN c) = false ∧ t.on (cf F.CAN_STATUS_CFG_BAD c) = true)) ∧
    (s.on (cf F.CAN_CTRL_EN c) = true → ∃ t, exec (.canEnable r c false) s = .next t ∧ t.on (cf F.CAN_CTRL_EN c) = false ∧
      t.fld (cf F.CAN_STATUS_STATE c) = 3 ∧ t.on (cf F.CAN_STATUS_RECOVERING c) = false)

/-- The UARTs receive by MODE and send in order (R424 to R426, R431, R437); a sentence that reaches CR LF is discarded, or accepted, decoded
and put into the ring (R426 to R430); the discrete pins count edges, are claimed and take direct outputs (R433 to R435).  The model's
readings: the outputs kept after a FAST overrun (log entry 13, DEDUCED); the free place of a ring, a claim by class and index, the
legacy set decoded in MODE 3 whatever DECODE holds, and the one rounding of a heading (log entry 41, DEDUCED). -/
def Obligations.SerialAndPins : Prop :=
  ∀ s : State, s.canonical = true → s.domOn 9 = true → s.uart.length = 8 → s.dio.pins.length = 64 →
    (∀ (u : Fin 8) (ch : Byte) (fr pa ov br : Bool) (start : Nat), ∃ t, exec (.characterReceived u ch fr pa ov br start) s = .next t ∧
      t.on (serFld F.SER_STATUS_RX_ACTIVE u) = true ∧ (t.ser u).lastChar = s.now ∧ (fr = true → t.on (serFld F.SER_STATUS_FRAMING u) = true) ∧
      (pa = true → t.on (serFld F.SER_STATUS_PARITY u) = true) ∧ (ov = true → t.on (serFld F.SER_STATUS_OVERRUN u) = true) ∧
      (br = true → t.on (serFld F.SER_STATUS_BREAK u) = true) ∧
      (s.serMode u = 0 → (t.ser u).raw = (s.ser u).raw ∧ (t.ser u).line = (s.ser u).line) ∧
      (s.serMode u = 1 → (t.ser u).raw = (if (fr || pa || ov || br) ∨ 83 ≤ (s.ser u).raw.length then [] else (s.ser u).raw ++ [s.charBits u ch])) ∧
      (2 ≤ s.serMode u → ∀ c, c = s.charBits u ch →
        (c = 0x24 ∨ c = 0x21 → (fr || pa || ov || br) = false → (t.ser u).line = [c] ∧ (t.ser u).lineTime = start) ∧
        (c ≠ 0x24 → c ≠ 0x21 → (s.ser u).line = [] → (t.ser u).line = []) ∧
        (c ≠ 0x24 → c ≠ 0x21 → (s.ser u).line ≠ [] → (fr || pa || ov || br) = false → c ≠ 0x0A → (s.ser u).line.length < 82 →
          (t.ser u).line = (s.ser u).line ++ [c]) ∧
        ((fr || pa || ov || br) = true ∨ (82 ≤ (s.ser u).line.length ∧ c ≠ 0x24 ∧ c ≠ 0x21) →
          (c = 0x24 ∨ c = 0x21 ∨ (s.ser u).line ≠ []) → (t.ser u).line = [] ∧
            t.fld (serFld F.SER_CNT_BAD u) = satN F.SER_CNT_BAD.max (s.fld (serFld F.SER_CNT_BAD u) + 1)))) ∧
    (∀ (u : Fin 8) (ch : Byte) (start : Nat) (body : List Byte) (ck : Check), 2 ≤ s.serMode u → s.charBits u ch = 0x0A →
      (s.ser u).line.getLast? = some 0x0D → (s.ser u).line.length < 82 → sentenceCheck ((s.ser u).line ++ [0x0A]) = (body, ck) →
      ∃ t, exec (.characterReceived u ch false false false false start) s = .next t ∧ (t.ser u).line = [] ∧
        (ck = .bad ∨ (ck = .absent ∧ s.on (serFld F.SER_CFG_CHK_REQ u) = true) → t.mem = s.mem ∧ t.fus = s.fus ∧
          t.fld (serFld F.SER_CNT_BAD u) = satN F.SER_CNT_BAD.max (s.fld (serFld F.SER_CNT_BAD u) + 1) ∧ t.on (evPend 209) = true ∧
          (ck = .bad → t.on (serFld F.SER_STATUS_CHK_FAIL u) = true)) ∧
        (ck = .good ∨ (ck = .absent ∧ s.on (serFld F.SER_CFG_CHK_REQ u) = false) → ∀ p, p = s.fld (serFld F.SER_IDX_PROD u) →
          t.fld (serFld F.SER_CNT_BAD u) = s.fld (serFld F.SER_CNT_BAD u) ∧
          (if (p + 1) % 64 = s.fld (serFld F.SER_IDX_CONS u) then
            t.mem.sram = s.mem.sram ∧ t.fld (serFld F.SER_IDX_PROD u) = p ∧ t.on (serFld F.SER_STATUS_RX_OVF u) = true ∧
            t.fld (serFld F.SER_CNT_RING_OVF u) = satN F.SER_CNT_RING_OVF.max (s.fld (serFld F.SER_CNT_RING_OVF u) + 1)
          else t.fld (serFld F.SER_IDX_PROD u) = (p + 1) % 64 ∧
            t.mem.sram = writeBytes ramByte s.mem.sram (s.serEntry u p) (serBytes (s.ser u).lineTime
              (2 * b2n (ck == .absent) + 4 * b2n ((t.ser u).seq != (s.ser u).seq)) ((s.ser u).line ++ [0x0A]))) ∧
          (∀ fs slot rec, fs = splitComma body → slot = s.fld (serFld F.SER_CFG_SLOT u) →
            (s.on (serFld F.SER_CFG_DECODE u) = true ∧ (isFormatter (sField fs 0) [0x48, 0x44, 0x54] = true ∨
                (isFormatter (sField fs 0) [0x54, 0x48, 0x53] = true ∧ sField fs 2 = [0x41])) ∧
              (∃ n d, decimal (sField fs 1) = some (n, d) ∧ rec = headingRecord slot (s.ser u).seq (s.ser u).lineTime (headingOf n d) (s.serRate u))) ∨
            (s.serMode u = 3 ∧ (s.ser u).line.head? = some 0x24 ∧ fs.length = 4 ∧ sField fs 0 = [0x50, 0x4B, 0x44, 0x48, 0x31] ∧ sField fs 2 = [0x41] ∧
              (∃ n d rn rd, decimal (sField fs 1) = some (n, d) ∧ d ≤ 100 ∧ decimal (sField fs 3) = some (rn, rd) ∧
                rec = headingRecord slot (s.ser u).seq (s.ser u).lineTime (headingOf n d) (radF32 rn rd 180))) →
            (t.ser u).seq = ((s.ser u).seq + 1) % 256 ∧
            t.fld (serFld F.SER_CNT_RECORDS u) = satN F.SER_CNT_RECORDS.max (s.fld (serFld F.SER_CNT_RECORDS u) + 1) ∧
            (s.queueBytes + rec.length ≤ 65536 → s.recBad rec = false → s.fus.taken.contains (recSource rec, recTime rec) = false →
              s.measTime rec ≤ s.now → t.fus.queue = s.fus.queue ++ [⟨rec, s.now⟩])) ∧
          (∀ fs, fs = splitComma body → isFormatter (sField fs 0) [0x52, 0x4F, 0x54] = true → sField fs 2 = [0x41] →
            ∀ n d, decimal (sField fs 1) = some (n, d) → (t.ser u).rot = some ⟨n, d, (s.ser u).lineTime⟩ ∧ t.fus = s.fus))) ∧
    (∀ (u : Fin 8) (r : Req),
      (s.serMode u ≠ 1 ∨ (s.ser u).raw = [] → exec (.rawIdle u) s = .next s) ∧
      (s.serMode u = 1 → (s.ser u).raw ≠ [] → ∃ t, exec (.rawIdle u) s = .next t ∧ (t.ser u).raw = [] ∧
        (s.ser u).lastChar + Nat.max 1 (s.fld (serFld F.SER_BAUD_IDLE_CHARS u)) * s.charNs u ≤ t.now ∧
        (if (s.fld (serFld F.SER_IDX_PROD u) + 1) % 64 = s.fld (serFld F.SER_IDX_CONS u) then
          t.on (serFld F.SER_STATUS_RX_OVF u) = true ∧ t.fld (serFld F.SER_IDX_PROD u) = s.fld (serFld F.SER_IDX_PROD u)
        else t.fld (serFld F.SER_IDX_PROD u) = (s.fld (serFld F.SER_IDX_PROD u) + 1) % 64)) ∧
      (∃ t, exec (.lineSilence u true) s = .next t ∧ t.on (serFld F.SER_STATUS_BREAK u) = true) ∧
      (s.on (serFld F.SER_STATUS_RX_ACTIVE u) = true → ∃ t, exec (.lineSilence u false) s = .next t ∧
        t.on (serFld F.SER_STATUS_RX_ACTIVE u) = false ∧ (s.ser u).lastChar + 1000000000 ≤ t.now) ∧
      (s.on (serFld F.SER_STATUS_RX_ACTIVE u) = false → exec (.lineSilence u false) s = .next s) ∧
      (∀ b, ((s.ser u).fifo.length < 256 → ∃ t, exec (.serTxdata r u b) s = .next t ∧ (t.ser u).fifo = (s.ser u).fifo ++ [b] ∧
          (t.ser u).de = true ∧ t.on (serFld F.SER_STATUS_TX_BUSY u) = true) ∧
        (256 ≤ (s.ser u).fifo.length → ∃ t, exec (.serTxdata r u b) s = .next t ∧ t.uart = s.uart ∧
          t.fld (serFld F.SER_CNT_TX_DROP u) = satN F.SER_CNT_TX_DROP.max (s.fld (serFld F.SER_CNT_TX_DROP u) + 1))) ∧
      ((s.ser u).fifo = [] → exec (.characterSent u) s = .next s) ∧
      (∀ b bs, (s.ser u).fifo = b :: bs → ∃ t, exec (.characterSent u) s = .next t ∧ (t.ser u).fifo = bs ∧
        (t.ser u).sent = (s.ser u).sent ++ [s.charBits u b] ∧ (t.ser u).de = !bs.isEmpty) ∧
      (∀ cons, ∃ t, exec (.serConsWrite r u cons) s = .next t ∧ t.fld (serFld F.SER_IDX_CONS u) = cons.val ∧
        t.fld (serFld F.SER_IDX_PROD u) = s.fld (serFld F.SER_IDX_PROD u))) ∧
    (∀ (p : Fin 64) (raw lv : Bool), lv = (raw != (s.dioCfg F.DIO_CFG_INV p == 1)) →
      (lv = (s.pin p).level → exec (.dioEdge p raw) s = .next s) ∧
      (lv ≠ (s.pin p).level → ∃ t, exec (.dioEdge p raw) s = .next t ∧ (t.pin p).level = lv ∧ (t.pin p).edges = ((s.pin p).edges + 1) % 256 ∧
        t.pairBit Reg.DIO_IN_LO p = lv ∧ (t.pin p).owner = (s.pin p).owner ∧ ∀ q, q ≠ p.val → t.pin q = s.pin q)) ∧
    (∀ (r : Req) (hi : Bool) (mask : Word), ∃ t, exec (.dioClaim r hi mask) s = .next t ∧
      (∀ i, i < 32 → (t.pin (32 * b2n hi + i)).claim = (if mask.getLsbD i then some ⟨r.cls, r.idx⟩ else none)) ∧
      t.rd (Reg.DIO_CLAIM_LO + 4 * b2n hi) = mask ∧ ∀ p, p < 64 → (t.pin p).owner = pinWinner (t.pinClaims p)) ∧
    (∀ (r : Req) (hi : Bool) (v : Word),
      (r = .cyc 1 → s.cdr.servoHeld = true → exec (.dioOut r hi v) s = .next s) ∧
      (r ≠ .cyc 1 ∨ s.cdr.servoHeld = false → ∃ t, exec (.dioOut r hi v) s = .next t ∧ t.rd (Reg.DIO_OUT_LO + 4 * b2n hi) = v ∧
        ∀ k, k ≠ Reg.DIO_OUT_LO + 4 * b2n hi → t.rd k = s.rd k))

/-- A chain's output goes to its buffer and latch (R454, R455); the clock of a group is lost and returns (R440); channels are enabled and
configured (R444, R445), banks selected (R449, R450) and coefficients written (R446, R451).  The model's readings: a channel that is off has
no fade, and XF_BUSY keeps SEL alone (log entry 41, DEDUCED); FIR_SEL and SDF_CFG_WRITE ignore RSV bits (log entry 44); in IN mode an output
completes at its command, and an output's bits come with it (log entry 50); an edge of a driven clock stands at the half-period nearest
to it (log entry 41). -/
def Obligations.SigmaDeltaChannels : Prop :=
  ∀ s : State, s.canonical = true → s.domOn 9 = true → s.sdf.length = 32 →
    (∀ (c : Fin 32) (clks : List (Byte × Byte)),
      (s.sdfOn c = false ∨ (s.clkLost (c.val / 8) = true ∧ s.sdmOut (c.val / 8) = false) ∨
        clks.length ≠ s.sincR c * stageD (s.stage c 1) * stageD (s.stage c 2) → exec (.sdfOutput c clks) s = .next s) ∧
      (s.sdfOn c = true → (s.clkLost (c.val / 8) = false ∨ s.sdmOut (c.val / 8) = true) →
        clks.length = s.sincR c * stageD (s.stage c 1) * stageD (s.stage c 2) →
        ∀ u at', u = s.applyFreeStep → at' = u.sdfInstant c → ∃ t word, exec (.sdfOutput c clks) s = .next t ∧
        (if s.sdmOut (c.val / 8) then u.halfAt (u.halfOf at') else at') ≤ t.now ∧ (t.chain c).last = some (word, at') ∧
        (t.chain c).begun = at' ∧ (s.sdmOut (c.val / 8) = true → (u.chain c).begun + s.tOut c ≤ at') ∧ (t.chain c).fresh = true ∧ (t.chain c).freshFast = true ∧
        t.rd (0x114000 + 0x100 * c.val + 4 * s.ch F.SDF_CHc_STAT_WIDX c) = word ∧
        t.ch F.SDF_CHc_STAT_WIDX c = (s.ch F.SDF_CHc_STAT_WIDX c + 1) % 64 ∧ word.getLsbD 3 = (s.aligned c && at' % s.tOut c == 0) ∧
        (word.getLsbD 1 = true → t.on (chFld F.SDF_CHc_STAT_SAT c) = true))) ∧
    (∀ g : Fin 4,
      (s.sdmOut g = true ∨ s.clkLost g = true → exec (.sdmClockLost g) s = .next s) ∧
      (s.sdmOut g = false → s.clkLost g = false → ∃ t, exec (.sdmClockLost g) s = .next t ∧ t.clkLost g = true ∧
        ∀ i, i < 8 → t.on (chFld F.SDF_CHc_STAT_CLK_LOST_SEEN (8 * g.val + i)) = true) ∧
      (∀ khz, (s.sdmOut g = true ∨ khz < 5000 ∨ 20000 < khz → exec (.sdmClockRestored g khz) s = .next s) ∧
        (s.sdmOut g = false → 5000 ≤ khz → khz ≤ 20000 → ∃ t, exec (.sdmClockRestored g khz) s = .next t ∧ t.clkLost g = false ∧
          t.fld (F.SDF_CLK_FREQ.plus (4 * g.val)) = khz ∧
          (s.clkLost g = true → ∀ i, i < 8 → s.sdfOn (8 * g.val + i) = true → (t.chain (8 * g.val + i)).begun = s.now ∧
            t.ch F.SDF_CHc_STAT_SETTLE_LEFT (8 * g.val + i) = s.settleLen (8 * g.val + i) % (F.SDF_CHc_STAT_SETTLE_LEFT.max + 1))))) ∧
    (∀ (r : Req) (v : Word), ∃ t, exec (.sdfEn r v) s = .next t ∧ ∀ c, c < 32 →
      (v.getLsbD c = false → t.sdfOn c = false) ∧
      (v.getLsbD c = true → s.sdfOn c = true → t.sdfOn c = true) ∧
      (v.getLsbD c = true → s.sdfOn c = false → s.chanBad c = true → t.sdfOn c = false ∧ t.on (chFld F.SDF_CHc_STAT_CFG_BAD c) = true) ∧
      (v.getLsbD c = true → s.sdfOn c = false → s.chanBad c = false → s.overLoad v.toNat = false →
        t.sdfOn c = true ∧ (t.chain c).bits = [] ∧ (t.chain c).begun = s.now)) ∧
    (∀ (r : Req) (c : Fin 32) (second : Bool) (v : Word) (i : Nat), i = (if second then 2 else 1) →
      (((s.chain c).fir i).fade.isSome = true → v.getLsbD 31 ≠ s.on (firFld F.SDF_CHc_FIR1_SEL c i) →
        ∃ t, exec (.firSel r c second v) s = .next t ∧ t.on F.SDF_STATUS_XF_BUSY = true ∧
          t.on (firFld F.SDF_CHc_FIR1_SEL c i) = s.on (firFld F.SDF_CHc_FIR1_SEL c i) ∧ t.sdf = s.sdf) ∧
      (((s.chain c).fir i).fade = none ∨ v.getLsbD 31 = s.on (firFld F.SDF_CHc_FIR1_SEL c i) →
        ∃ t, exec (.firSel r c second v) s = .next t ∧ t.on (firFld F.SDF_CHc_FIR1_SEL c i) = v.getLsbD 31 ∧
          (s.sdfOn c = false → ((t.chain c).fir i).act = v.getLsbD 31 ∧ ((t.chain c).fir i).fade = none))) ∧
    (∀ (r : Req) (set : Fin 32) (tap : Fin 64) (v : Word),
      (set.val < 8 → exec (.coefficientWrite r set tap v) s = .next s) ∧
      (8 ≤ set.val → (∃ c, c < 32 ∧ s.setUsedBy set c = true) → ∃ t, exec (.coefficientWrite r set tap v) s = .next t ∧
        t.on F.SDF_STATUS_COEF_BUSY = true ∧ t.tap set tap = s.tap set tap) ∧
      (8 ≤ set.val → (∀ c, c < 32 → s.setUsedBy set c = false) → ∃ t, exec (.coefficientWrite r set tap v) s = .next t ∧
        t.tap set tap = sgn 24 v.toNat ∧ t.rdn (0x118000 + 0x100 * set.val + 4 * tap.val) = code 32 (sgn 24 v.toNat) ∧
        ∀ set' tap', set' < 32 → tap' < 64 → (set' ≠ set.val ∨ tap' ≠ tap.val) → t.tap set' tap' = s.tap set' tap')) ∧
    (∀ (r : Req) (c : Fin 32) (v : Word), ∃ t, exec (.sdfCfgWrite r c v) s = .next t ∧
      t.ch F.SDF_CHc_CFG_PHASE c = bitsOf v.toNat F.SDF_CHc_CFG_PHASE.hi F.SDF_CHc_CFG_PHASE.lo ∧
      (s.sdfOn c = false ∨ bitsOf v.toNat 26 22 / 8 = c.val / 8 → t.ch F.SDF_CHc_CFG_SRC c = bitsOf v.toNat 26 22) ∧
      (s.sdfOn c = true → bitsOf v.toNat 26 22 / 8 ≠ c.val / 8 → t.ch F.SDF_CHc_CFG_SRC c = s.ch F.SDF_CHc_CFG_SRC c ∧
        (s.ch F.SDF_CHc_CFG_SRC c ≠ bitsOf v.toNat 26 22 → t.on (chFld F.SDF_CHc_STAT_CFG_BAD c) = true)) ∧
      (s.sdfOn c = true → (∀ f ∈ [F.SDF_CHc_CFG_ORDER, F.SDF_CHc_CFG_R, F.SDF_CHc_CFG_STAGE1, F.SDF_CHc_CFG_STAGE2], t.ch f c = s.ch f c) ∧
        ((∃ f ∈ [F.SDF_CHc_CFG_ORDER, F.SDF_CHc_CFG_R, F.SDF_CHc_CFG_STAGE1, F.SDF_CHc_CFG_STAGE2], s.ch f c ≠ bitsOf v.toNat f.hi f.lo) →
          t.on (chFld F.SDF_CHc_STAT_CFG_BAD c) = true) ∧
        ((∃ f ∈ [F.SDF_CHc_CFG_SRC, F.SDF_CHc_CFG_PHASE], s.ch f c ≠ t.ch f c) →
          t.ch F.SDF_CHc_STAT_SETTLE_LEFT c = s.settleLen c % (F.SDF_CHc_STAT_SETTLE_LEFT.max + 1))) ∧
      (s.sdfOn c = false → ∀ f ∈ [F.SDF_CHc_CFG_ORDER, F.SDF_CHc_CFG_R, F.SDF_CHc_CFG_STAGE1, F.SDF_CHc_CFG_STAGE2],
        t.ch f c = bitsOf v.toNat f.hi f.lo))

/-- Rings start and stop (R463, R483), take doorbells (R470), fetch (R471, R472), retry and give up (R481), complete in ring order
(R466, R472, R473) and time out their message (R479); the NOP opcode (R465), which posts a chained job that waits alone (R167).  The model's
choices, all of log entry 29 (DESIGN CHOICE): the turn of the first fetch, CFG_BAD in RECOVERING, what AER reports, EV225 and EV229 with the
completion, SIZE − 1 entries in a completion queue, the split of a transfer into requests (R460), and the completion timeout's default. -/
def Obligations.RingsFetchAndComplete : Prop :=
  ∀ (s : State) (k : Fin 16), s.canonical = true → s.domOn 10 = true → s.hif.rings.length = 16 → s.variant = .ci →
    (∀ r : Req,
      (s.ringState k ≠ 0 → exec (.ringEnable r k) s = .next s) ∧
      (s.ringState k = 0 → s.ringCfgOk k = true → s.on F.HIF_LINK_RECOVERING = false → ∃ t, exec (.ringEnable r k) s = .next t ∧
        t.ringState k = 1 ∧ t.on (rf F.HIF_Rk_CTRL_EN k) = true ∧ t.sqHead k = 0 ∧ t.cqTail k = 0 ∧ (t.hring k).sqTail = 0 ∧
        (t.hring k).cqHead = 0 ∧ t.fld (rf F.HIF_Rk_STATUS_PHASE k) = 1 ∧ t.on (evPend 227) = true) ∧
      (s.ringState k = 0 → (s.ringCfgOk k = false ∨ s.on F.HIF_LINK_RECOVERING = true) → ∃ t, exec (.ringEnable r k) s = .next t ∧
        t.ringState k = 0 ∧ t.on F.HIF_STATUS_CFG_BAD = true ∧ t.hif = s.hif) ∧
      (s.ringState k ≠ 1 → exec (.ringDisable r k) s = .next s) ∧
      (s.ringState k = 1 → (s.hring k).flight = [] → s.ory.queue = [] → s.ory.done = [] → s.cdr.carrier = none →
        ∃ t, exec (.ringDisable r k) s = .next t ∧ (t.hring k).retry = (s.hring k).retry.filter (· == .fetch) ∧
          t.ringState k = (if s.sqHead k = (s.hring k).sqTail then 0 else 2))) ∧
    (∀ v : Word,
      (v.toNat = (s.hring k).sqTail → exec (.sqTail k v) s = .next s) ∧
      (v.toNat ≠ (s.hring k).sqTail →
        (s.ringState k = 1 ∧ v.toNat < s.sqSize k ∧
          ringDist (s.sqSize k) (s.sqHead k) (s.hring k).sqTail ≤ ringDist (s.sqSize k) (s.sqHead k) v.toNat →
          ∃ t, exec (.sqTail k v) s = .next t ∧ (t.hring k).sqTail = v.toNat ∧ t.regs = s.regs) ∧
        (¬(s.ringState k = 1 ∧ v.toNat < s.sqSize k ∧
          ringDist (s.sqSize k) (s.sqHead k) (s.hring k).sqTail ≤ ringDist (s.sqSize k) (s.sqHead k) v.toNat) →
          ∃ t, exec (.sqTail k v) s = .next t ∧ t.hif.rings = s.hif.rings ∧ t.on F.HIF_STATUS_DB_ERR = true ∧
            t.fld F.HIF_STATUS_DB_RING = k ∧ t.on (evPend 226) = true)) ∧
      (v.toNat = (s.hring k).cqHead → exec (.cqHead k v) s = .next s) ∧
      (v.toNat ≠ (s.hring k).cqHead →
        (s.ringState k = 1 ∧ v.toNat < s.cqSize k ∧
          ringDist (s.cqSize k) (s.hring k).cqHead v.toNat ≤ ringDist (s.cqSize k) (s.hring k).cqHead (s.cqTail k) →
          ∃ t, exec (.cqHead k v) s = .next t ∧ (t.hring k).cqHead = v.toNat ∧ t.regs = s.regs) ∧
        (¬(s.ringState k = 1 ∧ v.toNat < s.cqSize k ∧
          ringDist (s.cqSize k) (s.hring k).cqHead v.toNat ≤ ringDist (s.cqSize k) (s.hring k).cqHead (s.cqTail k)) →
          ∃ t, exec (.cqHead k v) s = .next t ∧ t.hif.rings = s.hif.rings ∧ t.on F.HIF_STATUS_DB_ERR = true ∧
            t.fld F.HIF_STATUS_DB_RING = k ∧ t.on (evPend 226) = true))) ∧
    (∀ b, (s.hring k).chained = none → s.mayFetch k = false ∨ (s.hring k).retry.isSome = true → exec (.descriptorFetch k b) s = .next s) ∧
    (∀ b c d, (s.hring k).chained = some c → (∀ e ∈ (s.hring k).flight, e.uid = c.1 + 1 → e.phase ≠ .ended) →
      (s.hring k).retry = none → d = parseEntry (s.hring k).taken (s.sqHead k) (s.ringState k == 2) b →
      (s.mayFetch k = false → exec (.descriptorFetch k (some b)) s = .next s) ∧
      (s.mayFetch k = true → ∃ t, exec (.descriptorFetch k (some b)) s = .next t ∧ t.sqHead k = (s.sqHead k + 1) % s.sqSize k ∧
        (t.hring k).chained = (if d.uid = c.1 + 1 ∧ d.phase = .ended then none else some c))) ∧
    (s.mayFetch k = true → (s.hring k).retry = none → (s.hring k).chained = none →
      (∀ b, ∃ t, exec (.descriptorFetch k (some b)) s = .next t ∧ t.sqHead k = (s.sqHead k + 1) % s.sqSize k ∧
        (t.hring k).flight = (s.hring k).flight ++ [parseEntry (s.hring k).taken (s.sqHead k) (s.ringState k == 2) b] ∧
        (t.hring k).taken = (s.hring k).taken + 1 ∧ (t.hring k).readFrom = s.now ∧
        t.hif.reads = s.hif.reads ++ (splitAt hostReadSize 64 (s.sqBase k + 64 * s.sqHead k) 64).map fun c => ⟨c.1, c.2, false⟩) ∧
      ∃ t, exec (.descriptorFetch k none) s = .next t ∧ (t.hring k).retry = some .fetch ∧ (t.hring k).retryAt = s.now ∧
        t.sqHead k = s.sqHead k) ∧
    ((s.hring k).chained = none → (s.hring k).retry = none → ∀ b, exec (.hostReadRetry k b) s = .next s) ∧
    ((s.hring k).chained = none → s.mayPost = false → (∀ b, exec (.hostReadRetry k b) s = .next s) ∧ exec (.completionTimeout k) s = .next s) ∧
    ((s.hring k).chained = none → s.mayPost = true → (s.hring k).retry = some .fetch →
      (∀ b, ∃ t, exec (.hostReadRetry k (some b)) s = .next t ∧ (t.hring k).retry = none ∧
        (s.hring k).retryAt + 10000 ≤ t.now ∧
        (t.hring k).flight = (s.hring k).flight ++ [parseEntry (s.hring k).taken (s.sqHead k) (s.ringState k == 2) b] ∧
        (t.hring k).taken = (s.hring k).taken + 1) ∧
      ∀ i ∈ [Instr.hostReadRetry k none, .completionTimeout k], ∃ t, exec i s = .next t ∧ (t.hring k).retry = none ∧
        (s.hring k).retryAt + (if i = .completionTimeout k then 10010000 else 10000) ≤ t.now ∧
        t.sqHead k = (s.sqHead k + 1) % s.sqSize k ∧ (t.hring k).flight = (s.hring k).flight ++ [lostEntry (s.hring k).taken (s.sqHead k)] ∧
        t.on F.HIF_STATUS_DMA_ERR = true ∧
        (Config.aerReports = true → t.on F.HIF_STATUS_AER_UNCORR = true ∧ t.on (evPend 230) = true)) ∧
    (∀ n, (s.hring k).chained = none → s.mayPost = true → (s.hring k).retry = some (.data n) →
      ∀ i ∈ [Instr.hostReadRetry k none, .completionTimeout k], ∃ t, exec i s = .next t ∧
      (t.hring k).retry = none ∧ (s.hring k).retryAt + (if i = .completionTimeout k then 10010000 else 10000) ≤ t.now ∧ t.on F.HIF_STATUS_DMA_ERR = true ∧ (t.hring k).flight.length = (s.hring k).flight.length ∧
      ∀ d ∈ (t.hring k).flight, d.uid = n → d.phase = .ended) ∧
    (∀ n d b, s.mayPost = true → (s.hring k).retry = some (.data n) → (s.hring k).flight.find? (fun e => e.uid == n) = some d → d.phase = .fetched →
      d.opcode = 3 → s.refusal d = none → d.len ≤ b.length → (s.hring k).chained = none →
      ∃ t, exec (.hostReadRetry k (some b)) s = .next t ∧ (t.hring k).retry = none ∧ (s.hring k).retryAt + 10000 ≤ t.now ∧
        readBytes ramByte t.mem.ddr (d.par 24 8) d.len = b.take d.len ∧
        ∃ e ∈ (t.hring k).flight, e.uid = n ∧ e.sqIdx = d.sqIdx ∧ e.phase = .ended ∧ e.status = 0 ∧ e.info = movedInfo d.len) ∧
    ((s.hring k).chained = none → (s.hring k).retry = none →
      (s.readInProgress k = none → exec (.completionTimeout k) s = .next s) ∧
      ∀ r, s.readInProgress k = some r → ∃ t, exec (.completionTimeout k) s = .next t ∧ (t.hring k).retry = some r ∧
        (s.hring k).readFrom + 10000000 ≤ t.now ∧ (t.hring k).retryAt = t.now ∧
        (t.hring k).flight = (s.hring k).flight) ∧
    ((s.hring k).flight = [] → exec (.completionWrite k) s = .next s) ∧
    (∀ d ds, (s.hring k).flight = d :: ds →
      (d.phase ≠ .ended ∨ s.cqRoom k = false ∨ s.mayPost = false ∨ s.ringState k = 0 → exec (.completionWrite k) s = .next s) ∧
      (d.phase = .ended → s.cqRoom k = true → s.mayPost = true → s.ringState k ≠ 0 → ∃ t more, exec (.completionWrite k) s = .next t ∧
        (t.hring k).flight = ds ∧ (s.ringState k = 1 → t.cqTail k = (s.cqTail k + 1) % s.cqSize k) ∧
        (d.status = 3 → t.on (evPend 225) = true) ∧ (d.status = 5 ∨ d.status = 6 → t.on (evPend 229) = true) ∧
        t.hif.sent = s.hif.sent ++ s.hif.posted ++ .write (s.cqBase k + 64 * s.cqTail k) (completionBytes s k d) :: more)) ∧
    ((s.on (rf F.HIF_Rk_CTRL_IRQ_EN k) = false ∨ s.fld (rf F.HIF_Rk_CTRL_TIMER k) = 0 ∨ (s.hring k).irqCount = 0 →
      exec (.cqTimer k) s = .next s) ∧
    (s.on (rf F.HIF_Rk_CTRL_IRQ_EN k) = true → s.fld (rf F.HIF_Rk_CTRL_TIMER k) ≠ 0 → (s.hring k).irqCount ≠ 0 → s.tb.freeStep = none →
      ∃ t, exec (.cqTimer k) s = .next t ∧ (t.hring k).irqCount = 0 ∧
        (s.hring k).irqSince + 1000 * s.fld (rf F.HIF_Rk_CTRL_TIMER k) ≤ t.now)) ∧
    (∀ c, (s.hring k).chained = some c → ∃ t, exec (.nop k) s = .next t ∧ (t.hring k).chained = none) ∧
    ((s.hring k).chained = none → s.nextDispatch k = none → exec (.nop k) s = .next s) ∧
    (∀ d, (s.hring k).chained = none → s.nextDispatch k = some d →
      (d.opcode ≠ 0 → exec (.nop k) s = .next s) ∧
      (d.opcode = 0 → ∃ t, exec (.nop k) s = .next t ∧ ∃ e ∈ (t.hring k).flight, e.sqIdx = d.sqIdx ∧ e.cid = d.cid ∧ e.phase = .ended ∧
        e.status = (if d.clean 0 = true ∧ d.addr = 0 ∧ d.len = 0 then 0 else 2)))

/-- Opcodes dispatch, read and act on their data (R465, R473 to R477, R481); pending bits clear and vectors unmask (R478); the link
changes, stops requests (R482) and recovers (R484).  Where a payload lies in the host area, the split of a COPY_OUT into writes of the
payload size (R460), and the order of the checks are the model's choices (log entries 29 and 36). -/
def Obligations.HostCommandsAndLink : Prop :=
  ∀ s : State, s.canonical = true → s.domOn 10 = true → s.hif.rings.length = 16 → s.variant = .ci →
    (∀ (k : Fin 16) (data : HostData), (s.hring k).chained = none →
      (∀ p ∈ [((1 : Nat), Instr.oryJob k data), (3, .copyIn k data), (4, .ocLoad k data), (6, .flashWrite k data)],
        (s.dispatchOf k p.1 = none → exec p.2 s = .next s) ∧
        (∀ d, s.dispatchOf k p.1 = some d →
          (∀ q, s.refusal d = some q → ∃ t, exec p.2 s = .next t ∧
            ∃ e ∈ (t.hring k).flight, e.sqIdx = d.sqIdx ∧ e.phase = .ended ∧ e.status = q.1 ∧ e.detail = q.2) ∧
          (s.refusal d = none →
            (s.mayPost = false → exec p.2 s = .next s) ∧
            (s.mayPost = true → (∀ b, data = some b → b.length < d.len) → ∃ t, exec p.2 s = .next t ∧
              (t.hring k).retry = some (.data d.uid)) ∧
            (s.mayPost = true → ∀ b, data = some b → d.len ≤ b.length → ∃ t, exec p.2 s = .next t ∧
              (p.1 ≠ 1 → ∃ e ∈ (t.hring k).flight, e.sqIdx = d.sqIdx ∧ e.phase ≠ .fetched) ∧
              (p.1 = 1 → areaBytes (leNat (b.take 1) == 14) < d.len - 64 →
                ∃ e ∈ (t.hring k).flight, e.sqIdx = d.sqIdx ∧ e.phase = .ended ∧ e.status = 2) ∧
              (p.1 = 1 → s.areaTaken (leNat (b.take 1) == 14) + (d.len - 64) ≤ areaBytes (leNat (b.take 1) == 14) →
                (∃ e ∈ (t.hring k).flight, e.sqIdx = d.sqIdx ∧ e.phase ≠ .fetched) ∧
                (∀ x, x = s.hostDesc (b.take d.len) → s.ory.done = [] → s.alm.frozen = false → s.on F.ORY_CTRL_ENABLE = true → descOk x = true →
                  s.slotOk 6 x = true → chainOk x none = true → s.quadOn (x.eng / 16) = true →
                  s.openLevel (x.eng / 16) + 1 ≤ s.freeEntries (x.eng / 16) →
                  ∃ j, t.ory.queue = s.ory.queue ++ [j] ∧ j.d = x ∧ j.src = .host k d.uid ∧ j.cls = 9)) ∧
              (p.1 = 3 → readBytes ramByte t.mem.ddr (d.par 24 8) d.len = b.take d.len ∧
                ∃ e ∈ (t.hring k).flight, e.sqIdx = d.sqIdx ∧ e.phase = .ended ∧ e.status = 0 ∧ e.info = movedInfo d.len) ∧
              (p.1 = 4 → iLen b = d.len → t.ocState = 1 ∧ t.cdr.carrier = some (k.val, d.uid) ∧
                readBytes ramByte t.mem.ddr (d.par 24 8) d.len = b.take d.len) ∧
              (p.1 = 6 → d.len = 0 → ∃ e ∈ (t.hring k).flight, e.sqIdx = d.sqIdx ∧ e.phase = .ended ∧ e.status = 0) ∧
              (p.1 = 6 → d.len ≠ 0 → t.alm.flashCur.isSome = true ∧ t.mem = s.mem)))))) ∧
    (∀ k : Fin 16, (s.hring k).chained = none →
      (s.nextDispatch k = none → exec (.copyOut k) s = .next s) ∧
      (∀ d, s.nextDispatch k = some d →
        (d.opcode ≠ 2 → exec (.copyOut k) s = .next s) ∧
        (d.opcode = 2 → ¬(d.clean 8 = true ∧ d.len % 4 = 0 ∧ d.len ≤ 2 ^ 24 ∧ d.par 24 8 + d.len ≤ s.mem.ddrBytes) →
          ∃ t, exec (.copyOut k) s = .next t ∧ t.hif.posted = s.hif.posted ∧ t.hif.sent = s.hif.sent ∧
            ∃ e ∈ (t.hring k).flight, e.sqIdx = d.sqIdx ∧ e.phase = .ended ∧ e.status = 2) ∧
        (d.opcode = 2 → d.clean 8 = true → d.len % 4 = 0 → d.len ≤ 2 ^ 24 → d.par 24 8 + d.len ≤ s.mem.ddrBytes →
          ∃ t, exec (.copyOut k) s = .next t ∧ t.hif.sent ++ t.hif.posted =
              s.hif.sent ++ s.hif.posted ++ hostWrites d.addr (readBytes ramByte s.mem.ddr (d.par 24 8) d.len) ∧
            ∃ e ∈ (t.hring k).flight, e.sqIdx = d.sqIdx ∧ e.phase = .ended ∧ e.status = 0)) ∧
      (s.dispatchOf k 5 = none → exec (.stnCmd k) s = .next s) ∧
      (∀ d, s.dispatchOf k 5 = some d →
        (d.stnOk = false → ∃ t, exec (.stnCmd k) s = .next t ∧
          ∃ e ∈ (t.hring k).flight, e.sqIdx = d.sqIdx ∧ e.phase = .ended ∧ e.status = 2) ∧
        (d.stnOk = true → d.par 24 1 < 16 ∧ d.par 25 1 < 2 ∧ 1 ≤ d.par 26 1 ∧ d.par 26 1 ≤ 254) ∧
        (d.stnOk = true →
          (s.isActive = false → ∃ t, exec (.stnCmd k) s = .next t ∧
            ∃ e ∈ (t.hring k).flight, e.sqIdx = d.sqIdx ∧ e.phase = .ended ∧ e.status = 5) ∧
          (s.isActive = true → s.xl.cmd.isSome = true → exec (.stnCmd k) s = .next s) ∧
          (s.isActive = true → s.xl.cmd = none → ∃ t, exec (.stnCmd k) s = .next t ∧
            t.fld F.XL_STN_CMD_OP = d.par 24 1 ∧ t.fld F.XL_STN_CMD_STN = d.par 26 1 ∧
            ∃ e ∈ (t.hring k).flight, e.sqIdx = d.sqIdx ∧ e.phase ≠ .fetched)))) ∧
    (∀ (r : Req) (i : Fin 8) (mask : Word) (hw : Nat), ∃ t, exec (.hifEvPendClear r i mask hw) s = .next t ∧
      t.rd (blockOff Reg.HIF_EV_PEND (4 * i)) = s.rd (blockOff Reg.HIF_EV_PEND (4 * i)) &&& ~~~(mask &&& ~~~(w32 hw))) ∧
    (∀ v : Fin 64, ∃ t, exec (.msixUnmask v) s = .next t ∧ bitAt (t.rdn (msixCtrl v)) 0 = false ∧ t.on (pbaFld v) = false ∧
      t.hif.sent ++ t.hif.posted = s.hif.sent ++ s.hif.posted ++ (if s.on (pbaFld v) = true then [.message v] else [])) ∧
    (∀ (up : Bool) (speed width : Fin 5), up = true → ¬(1 ≤ speed.val ∧ width.val ∈ [1, 2, 4]) →
      exec (.pcieLinkChange up speed width) s = .next s) ∧
    (∀ (up : Bool) (speed width : Fin 5), (up = true → 1 ≤ speed.val ∧ width.val ∈ [1, 2, 4]) →
      ∃ t, exec (.pcieLinkChange up speed width) s = .next t ∧ t.on F.HIF_LINK_UP = up ∧
      t.fld F.HIF_LINK_SPEED = (if up then speed.val else 0) ∧ t.fld F.HIF_LINK_WIDTH = (if up then width.val else 0) ∧
      (s.on F.HIF_LINK_UP ≠ up → t.on (evPend 224) = true)) ∧
    (∀ bme d3 : Bool, ∃ t, exec (.busMasterChange bme d3) s = .next t ∧ t.on F.HIF_LINK_BME = bme ∧ t.on F.HIF_LINK_D3HOT = d3 ∧
      (bme = true → d3 = false → t.hif.posted = [] ∧ t.hif.sent = s.hif.sent ++ s.hif.posted) ∧
      (bme = false ∨ d3 = true → t.hif.sent = s.hif.sent ∧ (s.mayPost = true → s.hostWork = true → t.on (evPend 231) = true))) ∧
    (∀ up : Bool, ∃ t, exec (.linkRecovery up) s = .next t ∧ t.hif.rings = s.hif.rings.map (fun q => { Ring.init with taken := q.taken }) ∧
      (∀ k, k < 16 → t.ringState k = 0) ∧ t.on F.HIF_STATUS_LINK_RECOVERED = true ∧ t.on (evPend 228) = true ∧
      (s.on F.HIF_LINK_UP = true → up = false → t.on (evPend 224) = true) ∧
      ((∃ k, k < 16 ∧ s.ringState k ≠ 0) → t.on (evPend 227) = true) ∧ t.on F.HIF_LINK_UP = (up && s.on F.HIF_LINK_UP))

/-- The Almanac releases (R490, R492, R493), takes software records (R488, R491) and is read (R494); a flash sector ends (R497);
fatal errors start one capture (R498, R499), whose flash copy ends (R499) and is released (R502).  The model's choices: what the intake
holds by a capture reaches the ring first (log entry 12, DEDUCED), and the domains
go with the Cycle's command (log entry 52, DESIGN CHOICE). -/
def Obligations.AlmanacAndPlateCapture : Prop :=
  ∀ s : State, s.canonical = true →
    (s.domOn 9 = true → s.tb.freeStep = none →
      (s.alm.held = [] → exec .almanacRelease s = .next s) ∧
      (∀ h hs, s.alm.held = h :: hs → ∃ t, exec .almanacRelease s = .next t ∧
        (h.epoch = s.alm.epoch → h.body.time + 2000 ≤ t.now) ∧
        (∀ e, newestOf s.alm.ring h.body.source = some e → mergesInto s.repeatWindow h.epoch h.body e = true →
          t.alm.held = hs ∧ t.alm.ring = s.alm.ring.map fun x => if x.seq = e.seq then merged x h.body else x) ∧
        ((∀ e, newestOf s.alm.ring h.body.source = some e → mergesInto s.repeatWindow h.epoch h.body e = false) →
          (s.alm.ring.length < 32768 → t.alm.held = hs ∧ t.rdn Reg.ALM_SEQ_LAST = (s.rdn Reg.ALM_SEQ_LAST + 1) % 2 ^ 32 ∧
            t.alm.ring = s.alm.ring ++ [⟨(s.rdn Reg.ALM_SEQ_LAST + 1) % 2 ^ 32, h.epoch, h.body, false⟩]) ∧
          (32768 ≤ s.alm.ring.length →
            (∀ e, victim s.alm.ring h.body.sev = some e → t.alm.held = hs ∧
              t.alm.ring = (s.alm.ring.filter fun x => x.seq != e.seq) ++ [⟨(s.rdn Reg.ALM_SEQ_LAST + 1) % 2 ^ 32, h.epoch, h.body, false⟩]) ∧
            (victim s.alm.ring h.body.sev = none → t.alm.ring = s.alm.ring ∧ t.on F.ALM_EVENTS_DROP = true))))) ∧
    (s.domOn 9 = true → ∀ r : Req,
      (∃ t, exec (.almSwGo r) s = .next t ∧ t.fldOf r F.ALM_SW_HDR_GO = 0 ∧ t.alm.ring = s.alm.ring ∧
        (s.fldOf r F.ALM_SW_HDR_CODE % 256 < 16 → t.alm = s.alm ∧ t.on F.ALM_EVENTS_SW_REFUSED = true) ∧
        (16 ≤ s.fldOf r F.ALM_SW_HDR_CODE % 256 →
          (s.alm.frozen = true → t.alm = s.alm) ∧
          (s.alm.frozen = false →
            (s.fldOf r F.ALM_SW_HDR_SEV < s.fld F.ALM_CFG_MIN_SEV → s.fldOf r F.ALM_SW_HDR_SEV < 5 → t.alm = s.alm) ∧
            (s.fld F.ALM_CFG_MIN_SEV ≤ s.fldOf r F.ALM_SW_HDR_SEV ∨ 5 ≤ s.fldOf r F.ALM_SW_HDR_SEV →
              (256 ≤ s.alm.held.length → t.alm = s.alm ∧ t.on F.ALM_EVENTS_DROP = true) ∧
              (s.alm.held.length < 256 → t.alm.held = heldInsert ⟨s.alm.epoch, s.swRecord r, false⟩ s.alm.held))))) ∧
      (s.reading r = true → exec (.almRead r) s = .next s) ∧
      (s.reading r = false → ∃ t, exec (.almRead r) s = .next t ∧ t.alm.reads = (r.idx, s.rdOf r Reg.ALM_RD_SEQ) :: s.alm.reads ∧
        t.fldOf r F.ALM_RD_CTRL_GO = 1 ∧ t.fldOf r F.ALM_RD_CTRL_READY = 0 ∧ t.fldOf r F.ALM_RD_CTRL_EMPTY = 0) ∧
      (s.reading r = false → exec (.almReadReady r) s = .next s) ∧
      (∀ p, s.alm.reads.find? (fun q => q.1 == r.idx) = some p → ∃ t, exec (.almReadReady r) s = .next t ∧ t.reading r = false ∧
        t.fldOf r F.ALM_RD_CTRL_GO = 0 ∧ t.fldOf r F.ALM_RD_CTRL_READY = 1 ∧
        (∀ e, nextAfter s.alm.ring p.2 = some e → t.rdOf r Reg.ALM_RD_SEQ_OUT = e.seq % 2 ^ 32 ∧
          ∀ i, i < 8 → t.rdOf r (blockOff Reg.ALM_RD_DATA (4 * i)) = ((wordsOf 8 e.body.bytes).getD i 0).toNat) ∧
        (nextAfter s.alm.ring p.2 = none → t.fldOf r F.ALM_RD_CTRL_EMPTY = 1 ∧
          ∀ i, i < 8 → t.rdOf r (blockOff Reg.ALM_RD_DATA (4 * i)) = 0))) ∧
    (s.domOn 9 = true →
      (s.alm.flashCur = none → ∀ ok, exec (.flashSectorDone ok) s = .next s) ∧
      (∀ addr bs erase seqs, s.alm.flashCur = some (.log addr bs erase seqs) →
        (∃ t, exec (.flashSectorDone true) s = .next t ∧ readBytes flashByte t.mem.flash addr bs.length = bs ∧
          (∀ e ∈ t.alm.ring, seqs.contains e.seq = true → e.flushed = true) ∧
          (t.alm.flashCur.isSome = true ↔ s.alm.flashHost ≠ [] ∨ (s.alm.logRegion.isSome = true ∧
            ∃ q ∈ s.alm.flashLog, q ∉ seqs ∧ ∃ e ∈ s.alm.ring, e.seq = q ∧ e.flushed = false))) ∧
        ∃ t, exec (.flashSectorDone false) s = .next t ∧ t.mem = s.mem ∧ t.on F.ALM_EVENTS_FLUSH_ERR = true ∧
          t.alm.ring = s.alm.ring) ∧
      (∀ k idx addr bs last, s.alm.flashCur = some (.host k idx addr bs last) →
        (∃ t, exec (.flashSectorDone true) s = .next t ∧ readBytes flashByte t.mem.flash addr bs.length = bs ∧
          (t.alm.flashCur.isSome = true ↔ s.alm.flashHost ≠ [] ∨ s.logWaits ≠ [])) ∧
        ∃ t, exec (.flashSectorDone false) s = .next t ∧ t.mem = s.mem ∧ t.on F.ALM_EVENTS_FLUSH_ERR = true)) ∧
    (∀ addr, s.isCritical addr = false → exec (.ddrUncorrectable addr) s = .next s) ∧
    (s.boot.appRuns = false → exec .coresTrapped s = .next s) ∧
    (∀ r, s.domOn 9 = true → s.fld F.BOOT_STATUS_LC = 2 → s.boot.sys.plateSealed = false → ∃ t, exec (.trigger r) s = .next t ∧
      t.alm = s.alm ∧ t.pow = s.pow ∧ t.on F.ALM_PLATE_CTRL_TRIGGER = false) ∧
    (∀ i : Instr, i = .fabricTimeout ∨ i = .sramDoubleEcc ∨ (∃ a, i = .ddrUncorrectable a ∧ s.isCritical a = true) ∨
        (i = .coresTrapped ∧ s.boot.appRuns = true) ∨
        (∃ r, i = .trigger r ∧ s.domOn 9 = true ∧ ¬(s.fld F.BOOT_STATUS_LC = 2 ∧ s.boot.sys.plateSealed = false)) →
      (s.alm.plate = .done → ∃ t, exec i s = .next t ∧ t.alm = s.alm ∧ t.mem = s.mem ∧ t.pow = s.pow) ∧
      (s.alm.plate = .copying → ∃ t, exec i s = .next t ∧ t.alm = s.alm ∧ t.mem = s.mem ∧
        t.fld F.ALM_PLATE_STATUS_NESTED = min 255 (s.fld F.ALM_PLATE_STATUS_NESTED + 1)) ∧
      (s.alm.plate = .idle → s.svDead = true → ∃ t, exec i s = .next t ∧ t.alm = s.alm ∧ t.mem = s.mem ∧ t.pow = s.pow) ∧
      (s.alm.plate = .idle → s.svDead = false → ∃ t, exec i s = .next t ∧ t.pow.svStopped = true ∧ t.alm.frozen = true ∧
        t.boot.appRuns = false ∧ t.cdr.stopped = true ∧ (s.domOn 10 = true → t.domOn 10 = true → t.on (evPend 245) = true) ∧
        (t.alm.plate = .copying → ∀ d, t.domOn d = s.domOn d) ∧
        (s.on F.ALM_PLATE_STATUS_PRESENT = true → s.on F.ALM_PLATE_CTRL_KEEP_FIRST = true → t.alm.plate = .done ∧ t.mem.flash = s.mem.flash ∧
          (s.mer.lockout = true → t.mem = s.mem)) ∧
        (s.on F.ALM_PLATE_STATUS_PRESENT = false ∨ s.on F.ALM_PLATE_CTRL_KEEP_FIRST = false →
          t.alm.plate = (if s.alm.plateArea.isSome then .copying else .done)))) ∧
    (s.alm.plate ≠ .copying → ∀ ok, exec (.plateCopyDone ok) s = .next s) ∧
    (s.alm.plate = .copying → ∀ ok, ∃ t, exec (.plateCopyDone ok) s = .next t ∧ t.alm.plate = .done ∧
      (s.mer.lockout = true ∨ s.merActive = true ∨ s.mer.seq ≠ .none → t.mem.ddr = s.mem.ddr) ∧
      (s.mer.lockout = false → s.merActive = false → s.mer.seq = .none → t.mer.seq = .cycle ∧ t.mer.reason = 2 ∧
        ∀ d, 3 ≤ d → d ≤ 11 → t.domOn d = false) ∧
      (∀ p n, s.alm.plateArea = some p → s.variant = .ci → s.domOn 11 = true → ok = true →
        n = min p.2 (leNat (readBytes ramByte s.mem.ddr (s.plateBase + 24) 4)) →
        readBytes flashByte t.mem.flash p.1 n = readBytes ramByte s.mem.ddr s.plateBase n)) ∧
    (s.domOn 9 = true → ∀ r, ∃ t, exec (.releasePlate r) s = .next t ∧ t.on F.ALM_PLATE_STATUS_PRESENT = false ∧
      t.on F.ALM_PLATE_CTRL_RELEASE = false ∧ (s.domOn 10 = true → t.on (evPend 244) = true) ∧
      ∀ p, s.alm.plateArea = some p → ∀ a, readBytes flashByte t.mem.flash a 1 =
        if p.1 ≤ a ∧ a < p.1 + p.2 then [0xFF] else readBytes flashByte s.mem.flash a 1)

/-- Stage TIME ends by TIME_READY or GRID_WAIT (R518); a life-cycle command is refused with nothing blown, or blows its fuses
(R520, R522, R524); a RETURN whose power fails has done its steps in their order (R524).  No grid without PD_FAB and PD_SER, and no register
access while the block does not answer, are the model's readings (log entry 18, DEDUCED). -/
def Obligations.GridStartAndLifeCycle : Prop :=
  ∀ s : State, s.canonical = true →
    (∀ r : Req,
      (s.blockOn Reg.BOOT_CTRL = false → exec (.timeReady r) s = .next s) ∧
      (s.blockOn Reg.BOOT_CTRL = true → s.boot.waitFrom = none → ∃ t, exec (.timeReady r) s = .next t ∧ t.on F.BOOT_CTRL_TIME_READY = true ∧
        t.boot = s.boot) ∧
      (s.blockOn Reg.BOOT_CTRL = true → s.boot.waitFrom.isSome = true → ∃ t g, exec (.timeReady r) s = .next t ∧
        t.on F.BOOT_CTRL_TIME_READY = true ∧ t.boot.waitFrom = none ∧
        t.boot.gridAt = (if s.domOn 9 = true ∧ s.domOn 10 = true then some g else none) ∧ s.now + 1000000 ≤ g ∧
        (s.tbase ≠ 0 → g < s.now + 1000000 + s.tbase ∧ g % s.tbase = 0))) ∧
    (s.boot.waitFrom = none ∨ s.svDead = true → exec .gridWaitExpiry s = .next s) ∧
    (∀ w, s.boot.waitFrom = some w → s.svDead = false → s.tb.freeStep = none → ∃ t g, exec .gridWaitExpiry s = .next t ∧
      t.on F.BOOT_STATUS_TIME_UNSYNC = true ∧ (s.domOn 10 = true → t.on (evPend 4) = true) ∧
      w + s.boot.sys.gridWait * 1000000000 ≤ t.now ∧ t.boot.waitFrom = none ∧
      t.boot.gridAt = (if s.domOn 9 = true ∧ s.domOn 10 = true then some g else none) ∧ t.now + 1000000 ≤ g ∧
      (s.tbase ≠ 0 → g < t.now + 1000000 + s.tbase ∧ g % s.tbase = 0)) ∧
    (∀ (r : Req) (p : Port), p = .req r → s.lcMay p = (s.variant == .ci || r == .cyc 0 || r == .cyc 1)) ∧
    (∀ (p : Port) (confirm : Byte) (steps : Fin 4) (ok : Bool), s.blockOn Reg.BOOT_LC_CMD = true → s.lcMay p = true →
      s.on F.BOOT_LC_CMD_GO = false → s.lcAllowed 3 confirm.toNat 0 = true → steps.val < 3 →
      ∃ t, exec (.returnLc p confirm ⟨ok, steps⟩) s = .next t ∧ t.on F.BOOT_LC_CMD_GO = true ∧ t.boot.fuses.lc = s.boot.fuses.lc ∧
        t.boot.fuses.lcMate = s.boot.fuses.lcMate ∧
        (ok = true → t.boot.fuses.revoked = (if steps.val = 0 then s.boot.fuses.revoked else s.boot.fuses.revoked ||| 15)) ∧
        (steps.val < 2 → t.mem = s.mem)) ∧
    (∀ (p : Port) (confirm : Byte) (keys : Fin 16) (ok : Bool), ∀ c ∈ [
        (Instr.provision p confirm ok, 1, 0, 0, 1), (.seal p confirm ok, 2, 0, 0, 2), (.returnLc p confirm ⟨ok, 3⟩, 3, 0, 15, 4),
        (.decommission p confirm ok, 4, 0, 15, 8), (.revoke p confirm keys ok, 5, keys.val, keys.val, 0)],
      (s.blockOn Reg.BOOT_LC_CMD = false ∨ s.lcMay p = false ∨ s.on F.BOOT_LC_CMD_GO = true → exec c.1 s = .next s) ∧
      (s.blockOn Reg.BOOT_LC_CMD = true → s.lcMay p = true → s.on F.BOOT_LC_CMD_GO = false →
      (s.lcAllowed c.2.1 confirm.toNat c.2.2.1 = false → ∃ t, exec c.1 s = .next t ∧ t.fld F.BOOT_LC_CMD_RESULT = 2 ∧
        t.boot = s.boot ∧ t.mem = s.mem ∧ t.rd Reg.BOOT_KEYS = s.rd Reg.BOOT_KEYS ∧ (s.domOn 10 = true → t.on (evPend 5) = true)) ∧
      (s.lcAllowed c.2.1 confirm.toNat c.2.2.1 = true → ok = true → ∃ t, exec c.1 s = .next t ∧ t.fld F.BOOT_LC_CMD_RESULT = 1 ∧
        t.boot.fuses.lc = s.boot.fuses.lc ||| c.2.2.2.2 ∧ t.boot.fuses.lcMate = s.boot.fuses.lcMate ||| c.2.2.2.2 ∧ t.boot.fuses.revoked = s.boot.fuses.revoked ||| c.2.2.2.1 ∧
        t.fld F.BOOT_KEYS_REVOKED = t.boot.fuses.revoked % 16 ∧ t.fld F.BOOT_KEYS_PRESENT = t.boot.fuses.present % 16 ∧
        (c.2.1 = 1 → t.boot.fuses.present = fieldLe (s.lcData 193) 192 1 % 16 ∧
          t.boot.fuses.digests = (List.range 4).map fun k => ((s.lcData 193).drop (48 * k)).take 48) ∧
        (c.2.1 ≠ 1 → t.boot.fuses.present = s.boot.fuses.present ∧ t.boot.fuses.digests = s.boot.fuses.digests) ∧
        (c.2.1 ≠ 3 → t.mem = s.mem) ∧ (s.domOn 10 = true → t.on (evPend 5) = true)) ∧
      (s.lcAllowed c.2.1 confirm.toNat c.2.2.1 = true → ok = false → ∃ t, exec c.1 s = .next t ∧ t.fld F.BOOT_LC_CMD_RESULT = 3 ∧
        t.boot.fuses.lc ||| c.2.2.2.2 = s.boot.fuses.lc ||| c.2.2.2.2 ∧
        t.boot.fuses.revoked ||| c.2.2.2.1 = s.boot.fuses.revoked ||| c.2.2.2.1 ∧ (s.domOn 10 = true → t.on (evPend 5) = true))))

/-- Rails fail and return (R530, R549), domains report ready (R529), the diode is converted (R537, R539), DWELL passes (R540), the
shut-down powers down (R542), clocks fail (R535), and the spread changes (R533, R534).  That nothing but the guard and Meridian goes on once
the root has stopped is the model's reading of R535 (log entry 18, DEDUCED), and that a domain takes 10 µs to power down, and goes with
the Cycle's command, its choice (log entry 52, DESIGN CHOICE). -/
def Obligations.RailsClocksAndTemperature : Prop :=
  ∀ s : State, s.canonical = true →
    (∀ rail : Fin 9,
      (rail.val = 0 → exec (.railInvalid rail) s = .next s ∧ exec (.railValid rail) s = .next s) ∧
      (rail.val ≠ 0 →
        (s.railOk rail = false → ¬(rail.val = 3 ∧ s.grd.powered = true) → exec (.railInvalid rail) s = .next s) ∧
        (s.railOk rail = true → ∃ t, exec (.railInvalid rail) s = .next t ∧ t.railOk rail = false ∧
          (∀ d ∈ railDomains rail, t.domOn d = false) ∧ (rail.val = 3 → t.grd.powered = false ∧ t.domOn 2 = false) ∧
          (∀ d ∈ railDomains rail, d ∉ t.pow.queue) ∧ (rail.val = 4 ∨ rail.val = 5 → t.pow.svStopped = true)) ∧
        (s.railOk rail = true → exec (.railValid rail) s = .next s) ∧
        (s.railOk rail = false → ∃ t, exec (.railValid rail) s = .next t ∧ t.railOk rail = true ∧
          (∀ d, t.domOn d = s.domOn d) ∧ (s.domOn 10 = true → t.on (evPend 16) = true)))) ∧
    (∀ b : Bool,
      (s.railOk (4 + b2n b) = false → exec (.ioRailInvalid b) s = .next s) ∧
      (s.railOk (4 + b2n b) = true → ∃ t, exec (.ioRailInvalid b) s = .next t ∧ t.railOk (4 + b2n b) = false ∧
        t.pow.svStopped = true ∧ (s.pow.svStopped = false → t.pow.cycleDue = true) ∧ (∀ d, t.domOn d = s.domOn d) ∧
        (s.domOn 10 = true → t.on (evPend 16) = true))) ∧
    (s.pow.queue = [] ∨ s.svDead = true → exec .domainReady s = .next s) ∧
    (∀ d ds, s.pow.queue = d :: ds → d < 12 → s.svDead = false → ∃ t, exec .domainReady s = .next t ∧ t.pow.queue = ds ∧ t.domOn d = true ∧
      ∀ e, e ≠ d → t.domOn e = s.domOn e) ∧
    (s.svDead = true → ∀ v, exec (.tempConversion v) s = .next s) ∧
    (∀ v : Option (BitVec 12), s.svDead = false →
      ((∀ x, v = some x → x.toInt < -480 ∨ 1280 < x.toInt) → ∃ t, exec (.tempConversion v) s = .next t ∧
        t.on F.THM_STATUS_SENSOR_FAULT = true ∧ t.pow.stepDue = some 2 ∧ t.pow.convs = s.pow.convs ∧
        t.fld F.THM_STATUS_TEMP = s.fld F.THM_STATUS_TEMP) ∧
      (∀ x, v = some x → -480 ≤ x.toInt → x.toInt ≤ 1280 → ∃ t m, exec (.tempConversion v) s = .next t ∧
        t.on F.THM_STATUS_SENSOR_FAULT = false ∧ t.pow.convs = (x.toInt :: s.pow.convs).take 8 ∧
        m = divRneI t.pow.convs.sum t.pow.convs.length ∧ t.fld F.THM_STATUS_TEMP = code 12 m ∧
        t.fld F.THM_STATUS_LEVEL = levelOf (s.fld F.THM_STATUS_LEVEL) m ∧ (1000 ≤ m → t.pow.shutAt.isSome = true) ∧
        (m < 880 → (s.thStep = 0 → t.pow.dwellFrom = none) ∧
          (s.thStep = 0 ∨ s.pow.dwellFrom = none ∨ s.pow.dwellDown = false → ∀ n, t.pow.stepDue = some n → n ≤ s.thStep)))) ∧
    (s.pow.dwellFrom = none ∨ s.svDead = true → exec .throttleDwell s = .next s) ∧
    (∀ w, s.pow.dwellFrom = some w → s.svDead = false → s.tb.freeStep = none → ∃ t, exec .throttleDwell s = .next t ∧ w + s.dwellNs ≤ t.now ∧
      t.pow.stepDue = some (if s.pow.dwellDown then s.thStep - 1 else min 2 (s.thStep + 1))) ∧
    (s.pow.shutAt = none ∨ s.svDead = true → exec .shutdownPowerDown s = .next s) ∧
    (∀ w, s.pow.shutAt = some w → s.svDead = false → s.tb.freeStep = none → ∃ t, exec .shutdownPowerDown s = .next t ∧ w + 1000000 ≤ t.now ∧
      t.pow.queue = [] ∧ ∀ d, 3 ≤ d → d < 12 → t.domOn d = false) ∧
    (∀ (which : Fin 3) (stops : Bool), ∃ t, exec (.clockFailure which stops) s = .next t ∧ t.on (clockFld which) = false ∧
      t.on F.CLK_STATUS_LOCK_LOST = true ∧ t.pow.svStopped = true ∧
      (stops = true → which.val = 0 → t.svDead = true ∧ t.pow.cycleDue = false ∧ t.cdr.grid = false ∧ ∀ d, t.domOn d = false) ∧
      (stops = false ∨ which.val ≠ 0 → s.svDead = false → s.domOn 10 = true → t.on (evPend 18) = true) ∧
      (stops = false ∨ which.val ≠ 0 → s.pow.svStopped = false → t.pow.cycleDue = true) ∧
      (stops = false ∨ which.val ≠ 0 → s.pow.svStopped = true → t.pow = s.pow)) ∧
    (s.pow.cycleDue = false → exec .supervisorCycleDelay s = .next s) ∧
    (s.pow.cycleDue = true → ∃ t, exec .supervisorCycleDelay s = .next t ∧ t.pow.cycleDue = false ∧ s.pow.cycleFrom + 100000000 ≤ t.now ∧
      (s.mer.lockout = false → t.fld F.MER_PWR_REASON = 4)) ∧
    (∀ (r : Req) (v : Fin 8), s.blockOn Reg.PWR_ORR_CTRL = false → exec (.offReq r v) s = .next s) ∧
    (∀ (r : Req) (v : Fin 8), s.blockOn Reg.PWR_ORR_CTRL = true → ∃ t, exec (.offReq r v) s = .next t ∧ t.fld F.PWR_ORR_CTRL_OFF_REQ = v ∧ t.pow = s.pow ∧
      ∀ k, k ≠ Reg.PWR_ORR_CTRL → t.rd k = s.rd k) ∧
    (∀ (r : Req) (v : Word),
      (s.blockOn Reg.CLK_SSC = false → exec (.clkSsc r v) s = .next s) ∧
      (s.blockOn Reg.CLK_SSC = true → v.toNat &&& 0x7FFFFFF0 ≠ 0 → exec (.clkSsc r v) s = .fault .reservedWrite) ∧
      (s.blockOn Reg.CLK_SSC = true → v.toNat &&& 0x7FFFFFF0 = 0 → ∃ t, exec (.clkSsc r v) s = .next t ∧ t.pow.sscPend = true ∧
        t.pow.newDepth = s.pow.newDepth ∧ t.depthNow = s.depthNow ∧
        t.pow.asked = (if v.getLsbD 31 then min 10 (v.toNat % 16) else 0) ∧ t.depth = max s.depthNow t.pow.asked ∧ t.on F.CLK_SSC_EN = v.getLsbD 31 ∧
        t.fld F.CLK_SSC_DEPTH = v.toNat % 16)) ∧
    (s.pow.ramping = false ∨ s.svDead = true → exec .spreadRampEnd s = .next s) ∧
    (s.pow.ramping = true → s.svDead = false → ∃ t, exec .spreadRampEnd s = .next t ∧ t.pow.ramping = false ∧ s.pow.rampFrom + 1000000 ≤ t.now ∧
      t.on F.CLK_STATUS_SSC_ACTIVE = decide (0 < s.pow.newDepth) ∧ (s.pow.sscPend = false → t.depth = s.pow.newDepth))
end

