-- ==== Sys2Proof/Laws/Bits.lean ====
section
/-! SUPPORT. The laws of bit fields. -/

namespace Sys2Proof.Machine

/-- A bit of a field's value. -/
theorem testBit_bitsOf (w hi lo i : Nat) :
    (bitsOf w hi lo).testBit i = (decide (i < hi + 1 - lo) && w.testBit (lo + i)) := by
  unfold bitsOf
  rw [Nat.testBit_mod_two_pow, Nat.testBit_div_two_pow, Nat.add_comm i lo]

/-- A bit of a number whose field was replaced. -/
theorem testBit_putBits {lo hi : Nat} (h : lo ≤ hi) (w v i : Nat) :
    (putBits w hi lo v).testBit i = if lo ≤ i ∧ i ≤ hi then v.testBit (i - lo) else w.testBit i := by
  have hp : 2 ^ (hi + 1) = 2 ^ lo * 2 ^ (hi + 1 - lo) := by rw [← Nat.pow_add]; congr 1; omega
  have e : putBits w hi lo v =
      2 ^ lo * (2 ^ (hi + 1 - lo) * (w / 2 ^ (hi + 1)) + v % 2 ^ (hi + 1 - lo)) + w % 2 ^ lo := by
    unfold putBits; rw [hp]; ring
  rw [e, Nat.testBit_two_pow_mul_add _ (Nat.mod_lt _ (Nat.two_pow_pos _))]
  by_cases h1 : i < lo
  · simp only [h1, if_true, Nat.testBit_mod_two_pow, decide_true, Bool.true_and, if_neg (show ¬(lo ≤ i ∧ i ≤ hi) by omega)]
  · rw [if_neg h1, Nat.testBit_two_pow_mul_add _ (Nat.mod_lt _ (Nat.two_pow_pos _))]
    by_cases h2 : i ≤ hi
    · rw [if_pos (by omega), Nat.testBit_mod_two_pow, if_pos ⟨by omega, h2⟩]
      simp [show i - lo < hi + 1 - lo by omega]
    · rw [if_neg (by omega), Nat.testBit_div_two_pow, if_neg (by omega)]
      congr 1; omega

/-- The field just replaced reads as the value's low bits. -/
theorem bitsOf_putBits_same {lo hi : Nat} (h : lo ≤ hi) (w v : Nat) : bitsOf (putBits w hi lo v) hi lo = v % 2 ^ (hi + 1 - lo) := by
  apply Nat.eq_of_testBit_eq
  intro i
  rw [testBit_bitsOf, testBit_putBits h, Nat.testBit_mod_two_pow]
  by_cases hi' : i < hi + 1 - lo
  · simp only [hi', decide_true, Bool.true_and]
    rw [if_pos (by omega)]
    congr 1; omega
  · simp [hi']

/-- A field apart from the one replaced reads as before. -/
theorem bitsOf_putBits_ne {lo hi : Nat} (h : lo ≤ hi) (w v : Nat) {l k : Nat} (d : k < lo ∨ hi < l) :
    bitsOf (putBits w hi lo v) k l = bitsOf w k l := by
  apply Nat.eq_of_testBit_eq
  intro i
  rw [testBit_bitsOf, testBit_bitsOf, testBit_putBits h]
  by_cases hi' : i < k + 1 - l
  · simp only [hi', decide_true, Bool.true_and]
    rw [if_neg (by omega)]
  · simp [hi']

/-- Replacing a field within 32 bits keeps a number within 32 bits. -/
theorem putBits_lt {lo hi w : Nat} (h : lo ≤ hi) (h32 : hi < 32) (hw : w < 2 ^ 32) (v : Nat) : putBits w hi lo v < 2 ^ 32 := by
  apply Nat.lt_pow_two_of_testBit
  intro i hi'
  rw [testBit_putBits h, if_neg (by omega)]
  exact Nat.testBit_lt_two_pow (Nat.lt_of_lt_of_le hw (Nat.pow_le_pow_right (by decide) hi'))

/-- A field is within its width. -/
theorem bitsOf_lt (w hi lo : Nat) : bitsOf w hi lo < 2 ^ (hi + 1 - lo) := Nat.mod_lt _ (Nat.two_pow_pos _)

/-- A value limited to a bound that it meets. -/
theorem satN_of_le {hi v : Nat} (h : v ≤ hi) : satN hi v = v := by unfold satN; rw [if_neg (by omega)]

/-- A limited value is within the bound. -/
theorem satN_le (hi v : Nat) : satN hi v ≤ hi := by unfold satN; split <;> omega

/-- A flag as a number. -/
@[simp] theorem b2n_true : b2n true = 1 := rfl

/-- A flag as a number. -/
@[simp] theorem b2n_false : b2n false = 0 := rfl

/-- An element that was passed through a function. -/
theorem modAt_length {α : Type} (f : α → α) : ∀ (l : List α) (i : Nat), (modAt l i f).length = l.length
  | [], _ => rfl
  | _ :: _, 0 => rfl
  | _ :: xs, i + 1 => by simp [modAt, modAt_length f xs i]

/-- The element at another index stays. -/
theorem modAt_getD_ne {α : Type} (f : α → α) (e : α) :
    ∀ (l : List α) (i j : Nat), i ≠ j → (modAt l i f).getD j e = l.getD j e
  | [], _, _, _ => rfl
  | _ :: _, 0, 0, h => absurd rfl h
  | _ :: _, 0, _ + 1, _ => rfl
  | _ :: _, _ + 1, 0, _ => rfl
  | _ :: xs, i + 1, j + 1, h => modAt_getD_ne f e xs i j (by omega)

/-- The element at the index is passed through the function. -/
theorem modAt_getD_same {α : Type} (f : α → α) (e : α) :
    ∀ (l : List α) (i : Nat), i < l.length → (modAt l i f).getD i e = f (l.getD i e)
  | [], _, h => absurd h (by simp)
  | _ :: _, 0, _ => rfl
  | _ :: xs, i + 1, h => modAt_getD_same f e xs i (by simpa using h)

end Sys2Proof.Machine
end

