-- ==== Sys2Proof/Laws/Sparse.lean ====
section
/-! SUPPORT. The laws of sparse data: a read after a write, and the canonical form. -/

namespace Sys2Proof.Machine

variable {α : Type} [DecidableEq α] {d : Nat → α}

/-- Every key of a list in canonical form from `b` on is at least `b`. -/
theorem swfFrom_mono {b c : Nat} {m : List (Nat × α)} (h : c ≤ b) (w : swfFrom d b m = true) : swfFrom d c m = true := by
  cases m with
  | nil => rfl
  | cons x m =>
    obtain ⟨a, v⟩ := x
    simp only [swfFrom, Bool.and_eq_true, decide_eq_true_eq] at w ⊢
    exact ⟨⟨by omega, w.1.2⟩, w.2⟩

/-- A key below the bound is not listed. -/
theorem sget_of_lt {b k : Nat} {m : List (Nat × α)} (h : k < b) (w : swfFrom d b m = true) : sget d m k = d k := by
  induction m generalizing b with
  | nil => rfl
  | cons x m ih =>
    obtain ⟨a, v⟩ := x
    simp only [swfFrom, Bool.and_eq_true, decide_eq_true_eq] at w
    have : a ≠ k := by omega
    simp only [sget, if_neg this]
    exact ih (by omega) w.2

omit [DecidableEq α] in
/-- Reading the key just put. -/
@[simp] theorem sget_sput_same (k : Nat) (v : α) (m : List (Nat × α)) : sget d (sput k v m) k = v := by
  induction m with
  | nil => simp [sput, sget]
  | cons x m ih =>
    obtain ⟨a, w⟩ := x
    by_cases h1 : k < a
    · simp [sput, h1, sget]
    · by_cases h2 : a = k
      · simp [sput, h2, sget]
      · simp [sput, h1, h2, sget, ih]

omit [DecidableEq α] in
/-- Reading another key after a put. -/
theorem sget_sput_ne {k j : Nat} (h : j ≠ k) (v : α) (m : List (Nat × α)) : sget d (sput k v m) j = sget d m j := by
  induction m with
  | nil => simp [sput, sget, Ne.symm h]
  | cons x m ih =>
    obtain ⟨a, w⟩ := x
    by_cases h1 : k < a
    · simp [sput, h1, sget, Ne.symm h]
    · by_cases h2 : a = k
      · subst h2; simp [sput, sget, Ne.symm h]
      · simp only [sput, h1, h2, if_false, sget, ih]

omit [DecidableEq α] in
/-- Reading another key after a deletion. -/
theorem sget_sdel_ne {k j : Nat} (h : j ≠ k) (m : List (Nat × α)) : sget d (sdel k m) j = sget d m j := by
  induction m with
  | nil => rfl
  | cons x m ih =>
    obtain ⟨a, w⟩ := x
    by_cases h2 : a = k
    · subst h2; simp [sdel, sget, Ne.symm h]
    · simp only [sdel, h2, if_false, sget, ih]

/-- A deleted key of a list in canonical form is not listed. -/
theorem sget_sdel_same {b k : Nat} {m : List (Nat × α)} (w : swfFrom d b m = true) : sget d (sdel k m) k = d k := by
  induction m generalizing b with
  | nil => rfl
  | cons x m ih =>
    obtain ⟨a, v⟩ := x
    simp only [swfFrom, Bool.and_eq_true, decide_eq_true_eq] at w
    by_cases h2 : a = k
    · subst h2; simp only [sdel, if_true]; exact sget_of_lt (Nat.lt_succ_self a) w.2
    · simp only [sdel, h2, if_false, sget]; exact ih w.2

/-- Reading the key just written, in canonical form. -/
theorem sget_sset_same {m : List (Nat × α)} (w : swf d m = true) (k : Nat) (v : α) : sget d (sset d m k v) k = v := by
  unfold sset
  by_cases h : v = d k
  · simp only [h, if_true]; exact sget_sdel_same w
  · simp [h]

/-- Reading another key after a write. -/
theorem sget_sset_ne {k j : Nat} (h : j ≠ k) (m : List (Nat × α)) (v : α) : sget d (sset d m k v) j = sget d m j := by
  unfold sset
  split
  · exact sget_sdel_ne h m
  · exact sget_sput_ne h v m

/-- A put of a value that an unlisted key does not read as keeps the canonical form. -/
theorem swfFrom_sput {b k : Nat} {v : α} {m : List (Nat × α)} (hb : b ≤ k) (hv : v ≠ d k) (w : swfFrom d b m = true) :
    swfFrom d b (sput k v m) = true := by
  induction m generalizing b with
  | nil => simp [sput, swfFrom, hb, hv]
  | cons x m ih =>
    obtain ⟨a, u⟩ := x
    simp only [swfFrom, Bool.and_eq_true, decide_eq_true_eq] at w
    by_cases h1 : k < a
    · simp only [sput, h1, if_true, swfFrom, Bool.and_eq_true, decide_eq_true_eq]
      exact ⟨⟨hb, hv⟩, ⟨by omega, w.1.2⟩, w.2⟩
    · by_cases h2 : a = k
      · subst h2
        simp only [sput, Nat.lt_irrefl, if_false, if_true, swfFrom, Bool.and_eq_true, decide_eq_true_eq]
        exact ⟨⟨hb, hv⟩, w.2⟩
      · simp only [sput, h1, h2, if_false, swfFrom, Bool.and_eq_true, decide_eq_true_eq]
        exact ⟨w.1, ih (by omega) w.2⟩

/-- A deletion keeps the canonical form. -/
theorem swfFrom_sdel {b k : Nat} {m : List (Nat × α)} (w : swfFrom d b m = true) : swfFrom d b (sdel k m) = true := by
  induction m generalizing b with
  | nil => rfl
  | cons x m ih =>
    obtain ⟨a, u⟩ := x
    simp only [swfFrom, Bool.and_eq_true, decide_eq_true_eq] at w
    by_cases h2 : a = k
    · subst h2; simp only [sdel, if_true]; exact swfFrom_mono (by omega) w.2
    · simp only [sdel, h2, if_false, swfFrom, Bool.and_eq_true, decide_eq_true_eq]
      exact ⟨w.1, ih w.2⟩

/-- A write keeps the canonical form. -/
theorem swf_sset {m : List (Nat × α)} (w : swf d m = true) (k : Nat) (v : α) : swf d (sset d m k v) = true := by
  unfold sset
  split
  · exact swfFrom_sdel w
  · exact swfFrom_sput (Nat.zero_le _) (by assumption) w

/-- Dropping entries keeps the canonical form. -/
theorem swfFrom_filter {b : Nat} {m : List (Nat × α)} (p : Nat × α → Bool) (w : swfFrom d b m = true) :
    swfFrom d b (m.filter p) = true := by
  induction m generalizing b with
  | nil => rfl
  | cons x m ih =>
    obtain ⟨a, u⟩ := x
    simp only [swfFrom, Bool.and_eq_true, decide_eq_true_eq] at w
    by_cases hp : p (a, u)
    · simp only [List.filter_cons, hp, if_true, swfFrom, Bool.and_eq_true, decide_eq_true_eq]
      exact ⟨w.1, ih w.2⟩
    · simp only [List.filter_cons, hp]
      exact swfFrom_mono (by omega) (ih w.2)

/-- Dropping entries keeps the canonical form. -/
theorem swf_filter {m : List (Nat × α)} (p : Nat × α → Bool) (w : swf d m = true) : swf d (m.filter p) = true :=
  swfFrom_filter p w

/-- An empty list is in canonical form. -/
@[simp] theorem swf_nil : swf d ([] : List (Nat × α)) = true := rfl

/-- Writing bytes keeps the canonical form. -/
theorem swf_writeBytes {e : Nat → Byte} {m : List (Nat × Byte)} (w : swf e m = true) (a : Nat) (bs : List Byte) :
    swf e (writeBytes e m a bs) = true := by
  induction bs generalizing m a with
  | nil => exact w
  | cons b bs ih => exact ih (swf_sset w a b) (a + 1)

/-- A byte outside the bytes written reads as before. -/
theorem sget_writeBytes_ne {e : Nat → Byte} (bs : List Byte) (m : List (Nat × Byte)) (a j : Nat) (h : j < a ∨ a + bs.length ≤ j) :
    sget e (writeBytes e m a bs) j = sget e m j := by
  induction bs generalizing m a with
  | nil => rfl
  | cons b bs ih =>
    simp only [List.length_cons] at h
    rw [writeBytes, ih _ _ (by omega), sget_sset_ne (by omega)]

/-- Two lists in canonical form that read the same are the same data. -/
theorem swf_ext {m n : List (Nat × α)} (hm : swf d m = true) (hn : swf d n = true) (h : ∀ k, sget d m k = sget d n k) : m = n := by
  suffices H : ∀ (m n : List (Nat × α)) (b : Nat), swfFrom d b m = true → swfFrom d b n = true →
      (∀ k, sget d m k = sget d n k) → m = n from H m n 0 hm hn h
  intro m
  induction m with
  | nil =>
    intro n b _ hn h
    cases n with
    | nil => rfl
    | cons y n =>
      obtain ⟨c, v⟩ := y
      simp only [swfFrom, Bool.and_eq_true, decide_eq_true_eq] at hn
      exact absurd (by simpa [sget] using (h c).symm) hn.1.2
  | cons x m ih =>
    obtain ⟨a, u⟩ := x
    intro n b hm hn h
    cases n with
    | nil =>
      simp only [swfFrom, Bool.and_eq_true, decide_eq_true_eq] at hm
      exact absurd (by simpa [sget] using h a) hm.1.2
    | cons y n =>
      obtain ⟨c, v⟩ := y
      simp only [swfFrom, Bool.and_eq_true, decide_eq_true_eq] at hm hn
      have hac : a = c := by
        rcases Nat.lt_trichotomy a c with hlt | heq | hgt
        · have := h a
          simp only [sget, if_true, if_neg (Nat.ne_of_gt hlt)] at this
          rw [sget_of_lt (d := d) (by omega : a < c + 1) hn.2] at this
          exact absurd this hm.1.2
        · exact heq
        · have := h c
          simp only [sget, if_true, if_neg (Nat.ne_of_gt hgt)] at this
          rw [sget_of_lt (d := d) (by omega : c < a + 1) hm.2] at this
          exact absurd this.symm hn.1.2
      subst hac
      have huv : u = v := by simpa [sget] using h a
      subst huv
      have : m = n := by
        refine ih n (a + 1) hm.2 hn.2 fun k => ?_
        by_cases hk : a = k
        · subst hk
          rw [sget_of_lt (Nat.lt_succ_self a) hm.2, sget_of_lt (Nat.lt_succ_self a) hn.2]
        · simpa [sget, hk] using h k
      rw [this]

end Sys2Proof.Machine
end

