-- ==== Sys2Proof/Laws/Effect.lean ====
section
/-! SUPPORT. What an operation does, said once: which parts of the state it may change, and what every operation keeps (the
canonical form of the register map and the memories, the queue, the fused variant and UID, and every blown fuse).  One relation,
and the lemmas through which it passes a register write, a record update, a branch and a loop. -/

namespace Sys2Proof.Machine

/-- A fuse never unblows: every bit of `a` is in `b`. -/
def blownIn (a b : Nat) : Prop := ∀ k, a.testBit k = true → b.testBit k = true

/-- What a change of the fuses keeps (R520). -/
structure Fuses.Kept (a b : Fuses) : Prop where
  /-- Blown life-cycle bits. -/
  lc : blownIn a.lc b.lc
  /-- Their second fuses. -/
  mate : blownIn a.lcMate b.lcMate
  /-- Revoked key slots. -/
  revoked : blownIn a.revoked b.revoked
  /-- The UID. -/
  uid : b.uid = a.uid

theorem Fuses.Kept.refl (a : Fuses) : a.Kept a := ⟨fun _ h => h, fun _ h => h, fun _ h => h, rfl⟩

theorem Fuses.Kept.trans {a b c : Fuses} (h : a.Kept b) (g : b.Kept c) : a.Kept c :=
  ⟨fun k x => g.lc k (h.lc k x), fun k x => g.mate k (h.mate k x), fun k x => g.revoked k (h.revoked k x), g.uid.trans h.uid⟩

/-- What every operation keeps of a state. -/
structure Kept (s t : State) : Prop where
  /-- The register map's canonical form. -/
  regs : swf regReset s.regs = true → swf regReset t.regs = true
  /-- That of the values in force. -/
  eff : swf regReset s.regs = true → swf regReset s.eff = true → swf regReset t.eff = true
  /-- That of the memories. -/
  mem : s.mem.wf = true → t.mem.wf = true
  /-- The queue. -/
  pending : t.pending = s.pending
  /-- The variant. -/
  variant : t.variant = s.variant
  /-- The sizes of DDR and of the flash. -/
  sizes : (t.mem.ddrBytes, t.mem.flashSize) = (s.mem.ddrBytes, s.mem.flashSize)
  /-- The fuses. -/
  fuses : s.boot.fuses.Kept t.boot.fuses

theorem Kept.refl (s : State) : Kept s s := ⟨id, fun _ h => h, id, rfl, rfl, rfl, .refl _⟩

theorem Kept.trans {s t u : State} (h : Kept s t) (g : Kept t u) : Kept s u :=
  ⟨g.regs ∘ h.regs, fun r e => g.eff (h.regs r) (h.eff r e), g.mem ∘ h.mem, g.pending.trans h.pending, g.variant.trans h.variant,
    g.sizes.trans h.sizes, h.fuses.trans g.fuses⟩

/-- A kept canonical form. -/
theorem Kept.canonical {s t : State} (h : Kept s t) (c : s.canonical = true) : t.canonical = true := by
  simp only [State.canonical, Bool.and_eq_true] at c ⊢
  exact ⟨⟨h.regs c.1.1, h.eff c.1.1 c.1.2⟩, h.mem c.2⟩

/-- The memories' canonical form under a write. -/
theorem Memory.wf_iff (m : Memory) :
    m.wf = true ↔ swf ramByte m.sram = true ∧ swf ramByte m.ddr = true ∧ swf flashByte m.flash = true ∧ swf ramByte m.retained = true := by
  simp [Memory.wf, and_assoc]

/-- Writing a word keeps the canonical form. -/
theorem swf_writeWord {e : Nat → Byte} {m : List (Nat × Byte)} (w : swf e m = true) (a : Nat) (v : Word) :
    swf e (writeWord e m a v) = true := swf_writeBytes w _ _

/-- Writing words keeps the canonical form. -/
theorem swf_writeWords {e : Nat → Byte} {m : List (Nat × Byte)} (w : swf e m = true) (a : Nat) (vs : List Word) :
    swf e (writeWords e m a vs) = true := by
  induction vs generalizing m a with
  | nil => exact w
  | cons v vs ih => exact ih (swf_writeWord w a v) (a + 4)

/-- A write of shared SRAM. -/
theorem memSram {m : Memory} {x : List Host.Cell} (h : swf ramByte m.sram = true → swf ramByte x = true) :
    m.wf = true → (⟨x, m.ddr, m.flash, m.retained, m.ddrBytes, m.flashSize⟩ : Memory).wf = true := by
  simp only [Memory.wf_iff]; exact fun w => ⟨h w.1, w.2⟩

/-- A write of DDR. -/
theorem memDdr {m : Memory} {x : List Host.Cell} (h : swf ramByte m.ddr = true → swf ramByte x = true) :
    m.wf = true → (⟨m.sram, x, m.flash, m.retained, m.ddrBytes, m.flashSize⟩ : Memory).wf = true := by
  simp only [Memory.wf_iff]; exact fun w => ⟨w.1, h w.2.1, w.2.2⟩

/-- A write of the flash. -/
theorem memFlash {m : Memory} {x : List Host.Cell} (h : swf flashByte m.flash = true → swf flashByte x = true) :
    m.wf = true → (⟨m.sram, m.ddr, x, m.retained, m.ddrBytes, m.flashSize⟩ : Memory).wf = true := by
  simp only [Memory.wf_iff]; exact fun w => ⟨w.1, w.2.1, h w.2.2.1, w.2.2.2⟩

/-- A write of retained SRAM. -/
theorem memRet {m : Memory} {x : List Host.Cell} (h : swf ramByte m.retained = true → swf ramByte x = true) :
    m.wf = true → (⟨m.sram, m.ddr, m.flash, x, m.ddrBytes, m.flashSize⟩ : Memory).wf = true := by
  simp only [Memory.wf_iff]; exact fun w => ⟨w.1, w.2.1, w.2.2.1, h w.2.2.2⟩

/-! ### Sets of parts -/

/-- A smaller set of a set. -/
theorem subParts {a b m : Nat} (h : a &&& m = a) (g : b &&& a = b) : b &&& m = b := by
  rw [← g, Nat.and_assoc, h]

/-- A bit of a set. -/
theorem bitParts {a m i : Nat} (h : a &&& m = a) (g : a.testBit i = true) : m.testBit i = true := by
  rw [← h] at g; simp at g; exact g.2

/-- A bit that is not in a set is not in a smaller one. -/
theorem offParts {a m i : Nat} (h : a &&& m = a) (g : m.testBit i = false) : a.testBit i = false := by
  rw [← h]; simp [g]

/-- Any block, of a set that holds all of them. -/
theorem bitAll {a m i : Nat} (h : a &&& m = a) (g : 0xFFFFFFFF &&& a = 0xFFFFFFFF) : m.testBit (i % 32) = true := by
  refine bitParts (subParts h g) ?_
  have : i % 32 < 32 := Nat.mod_lt _ (by decide)
  generalize i % 32 = j at this ⊢
  interval_cases j <;> decide

/-- An offset in a block lies in the block. -/
@[simp] theorem blockOff_div (b d : Nat) : blockOff b d / 0x10000 = b / 0x10000 := by unfold blockOff; omega

/-- A block of an offset in it. -/
theorem bitOff {a m b d : Nat} (h : a &&& m = a) (g : a.testBit (b / 0x10000 % 32) = true) :
    m.testBit (blockOff b d / 0x10000 % 32) = true := by rw [blockOff_div]; exact bitParts h g

/-- A field of another instance. -/
theorem bitPlus {a m d : Nat} {f : Fld} (h : a &&& m = a) (g : a.testBit (f.off / 0x10000 % 32) = true) :
    m.testBit ((f.plus d).off / 0x10000 % 32) = true := bitOff h g

/-- A requester's copy lies in its block. -/
theorem regKey_blk (r : Req) (off : Nat) : regKey r off / 0x10000 % 32 = off / 0x10000 % 32 := by
  unfold regKey barSize; split <;> omega

/-- A requester's copy. -/
theorem bitKey {a m off : Nat} {r : Req} (h : a &&& m = a) (g : a.testBit (off / 0x10000 % 32) = true) :
    m.testBit (regKey r off / 0x10000 % 32) = true := by rw [regKey_blk]; exact bitParts h g

/-! ### The relation -/

/-- What an operation does from `s` to `t`: only the parts in `m` change, and it keeps what every operation keeps. -/
structure Effect (m : Nat) (s t : State) : Prop where
  /-- What every operation keeps. -/
  kept : Kept s t
  /-- What changes. -/
  within : State.Within m s t

theorem State.Within.refl (m : Nat) (s : State) : State.Within m s s := by constructor <;> intros <;> rfl

theorem State.Within.trans {m : Nat} {s t u : State} (h : State.Within m s t) (g : State.Within m t u) : State.Within m s u where
  regs k b := (g.regs k b).trans (h.regs k b)
  station b := (g.station b).trans (h.station b)
  readData b := (g.readData b).trans (h.readData b)
  sram b := (g.sram b).trans (h.sram b)
  ddr b := (g.ddr b).trans (h.ddr b)
  flash b := (g.flash b).trans (h.flash b)
  retained b := (g.retained b).trans (h.retained b)
  cdr b := (g.cdr b).trans (h.cdr b)
  grd b := (g.grd b).trans (h.grd b)
  fus b := (g.fus b).trans (h.fus b)
  eff b := (g.eff b).trans (h.eff b)
  red b := (g.red b).trans (h.red b)
  xl b := (g.xl b).trans (h.xl b)
  tb b := (g.tb b).trans (h.tb b)
  eth b := (g.eth b).trans (h.eth b)
  can b := (g.can b).trans (h.can b)
  uart b := (g.uart b).trans (h.uart b)
  dio b := (g.dio b).trans (h.dio b)
  sdf b := (g.sdf b).trans (h.sdf b)
  hif b := (g.hif b).trans (h.hif b)
  alm b := (g.alm b).trans (h.alm b)
  mer b := (g.mer b).trans (h.mer b)
  pow b := (g.pow b).trans (h.pow b)
  ory b := (g.ory b).trans (h.ory b)
  ctl b := (g.ctl b).trans (h.ctl b)
  eph b := (g.eph b).trans (h.eph b)
  boot b := (g.boot b).trans (h.boot b)
  freeCtr b := (g.freeCtr b).trans (h.freeCtr b)

/-- A larger set. -/
theorem State.Within.mono {a m : Nat} {s t : State} (h : State.Within a s t) (g : a &&& m = a) : State.Within m s t where
  regs k b := h.regs k (offParts g b)
  station b := h.station (offParts g b)
  readData b := h.readData (offParts g b)
  sram b := h.sram (offParts g b)
  ddr b := h.ddr (offParts g b)
  flash b := h.flash (offParts g b)
  retained b := h.retained (offParts g b)
  cdr b := h.cdr (offParts g b)
  grd b := h.grd (offParts g b)
  fus b := h.fus (offParts g b)
  eff b := h.eff (offParts g b)
  red b := h.red (offParts g b)
  xl b := h.xl (offParts g b)
  tb b := h.tb (offParts g b)
  eth b := h.eth (offParts g b)
  can b := h.can (offParts g b)
  uart b := h.uart (offParts g b)
  dio b := h.dio (offParts g b)
  sdf b := h.sdf (offParts g b)
  hif b := h.hif (offParts g b)
  alm b := h.alm (offParts g b)
  mer b := h.mer (offParts g b)
  pow b := h.pow (offParts g b)
  ory b := h.ory (offParts g b)
  ctl b := h.ctl (offParts g b)
  eph b := h.eph (offParts g b)
  boot b := h.boot (offParts g b)
  freeCtr b := h.freeCtr (offParts g b)

theorem Effect.refl (m : Nat) (s : State) : Effect m s s := ⟨.refl s, .refl m s⟩

theorem Effect.trans {m : Nat} {s t u : State} (h : Effect m s t) (g : Effect m t u) : Effect m s u :=
  ⟨h.kept.trans g.kept, h.within.trans g.within⟩

/-- A larger set. -/
theorem Effect.mono {a m : Nat} {s t : State} (h : Effect a s t) (g : a &&& m = a) : Effect m s t := ⟨h.kept, h.within.mono g⟩

/-- A field of a block that is not among the parts reads as before. -/
theorem State.Within.fld {m : Nat} {s t : State} (h : State.Within m s t) (f : Fld) (b : m.testBit (f.off / 0x10000 % 32) = false) :
    t.fld f = s.fld f := by unfold State.fld State.rdn; rw [h.regs _ b]

/-- A record update: each field it sets is a part, or is as before. -/
theorem Effect.upd {m : Nat} {s t : State} {rd : Nat} {st : Bool} {cdr grd fus red xl tb eth can uart dio sdf hif alm mer pow ory ctl eph boot fc}
    (h : Effect m s t)
    (h_st : m.testBit 32 = true ∨ st = t.station)
    (h_rd : m.testBit 33 = true ∨ rd = t.readData)
    (h_cdr : m.testBit 38 = true ∨ cdr = t.cdr)
    (h_grd : m.testBit 39 = true ∨ grd = t.grd)
    (h_fus : m.testBit 40 = true ∨ fus = t.fus)
    (h_red : m.testBit 42 = true ∨ red = t.red)
    (h_xl : m.testBit 43 = true ∨ xl = t.xl)
    (h_tb : m.testBit 44 = true ∨ tb = t.tb)
    (h_eth : m.testBit 45 = true ∨ eth = t.eth)
    (h_can : m.testBit 46 = true ∨ can = t.can)
    (h_uart : m.testBit 47 = true ∨ uart = t.uart)
    (h_dio : m.testBit 48 = true ∨ dio = t.dio)
    (h_sdf : m.testBit 49 = true ∨ sdf = t.sdf)
    (h_hif : m.testBit 50 = true ∨ hif = t.hif)
    (h_alm : m.testBit 51 = true ∨ alm = t.alm)
    (h_mer : m.testBit 52 = true ∨ mer = t.mer)
    (h_pow : m.testBit 53 = true ∨ pow = t.pow)
    (h_ory : m.testBit 54 = true ∨ ory = t.ory)
    (h_ctl : m.testBit 55 = true ∨ ctl = t.ctl)
    (h_eph : m.testBit 56 = true ∨ eph = t.eph)
    (h_boot : m.testBit 57 = true ∨ boot = t.boot)
    (h_fc : m.testBit 58 = true ∨ fc = t.freeCtr)
    (hb : boot.fuses = t.boot.fuses) :
    Effect m s ⟨t.variant, st, rd, t.regs, t.mem, cdr, grd, fus, t.eff, red, xl, tb, eth, can, uart, dio, sdf, hif, alm, mer, pow, ory, ctl, eph, boot, fc, t.pending⟩ :=
  ⟨⟨h.kept.regs, h.kept.eff, h.kept.mem, h.kept.pending, h.kept.variant, h.kept.sizes, by rw [hb]; exact h.kept.fuses⟩, {
    regs := h.within.regs
    station := fun b => h_st.elim (fun c => absurd (b.symm.trans c) Bool.false_ne_true) fun c => c.trans (h.within.station b)
    readData := fun b => h_rd.elim (fun c => absurd (b.symm.trans c) Bool.false_ne_true) fun c => c.trans (h.within.readData b)
    cdr := fun b => h_cdr.elim (fun c => absurd (b.symm.trans c) Bool.false_ne_true) fun c => c.trans (h.within.cdr b)
    grd := fun b => h_grd.elim (fun c => absurd (b.symm.trans c) Bool.false_ne_true) fun c => c.trans (h.within.grd b)
    fus := fun b => h_fus.elim (fun c => absurd (b.symm.trans c) Bool.false_ne_true) fun c => c.trans (h.within.fus b)
    red := fun b => h_red.elim (fun c => absurd (b.symm.trans c) Bool.false_ne_true) fun c => c.trans (h.within.red b)
    xl := fun b => h_xl.elim (fun c => absurd (b.symm.trans c) Bool.false_ne_true) fun c => c.trans (h.within.xl b)
    tb := fun b => h_tb.elim (fun c => absurd (b.symm.trans c) Bool.false_ne_true) fun c => c.trans (h.within.tb b)
    eth := fun b => h_eth.elim (fun c => absurd (b.symm.trans c) Bool.false_ne_true) fun c => c.trans (h.within.eth b)
    can := fun b => h_can.elim (fun c => absurd (b.symm.trans c) Bool.false_ne_true) fun c => c.trans (h.within.can b)
    uart := fun b => h_uart.elim (fun c => absurd (b.symm.trans c) Bool.false_ne_true) fun c => c.trans (h.within.uart b)
    dio := fun b => h_dio.elim (fun c => absurd (b.symm.trans c) Bool.false_ne_true) fun c => c.trans (h.within.dio b)
    sdf := fun b => h_sdf.elim (fun c => absurd (b.symm.trans c) Bool.false_ne_true) fun c => c.trans (h.within.sdf b)
    hif := fun b => h_hif.elim (fun c => absurd (b.symm.trans c) Bool.false_ne_true) fun c => c.trans (h.within.hif b)
    alm := fun b => h_alm.elim (fun c => absurd (b.symm.trans c) Bool.false_ne_true) fun c => c.trans (h.within.alm b)
    mer := fun b => h_mer.elim (fun c => absurd (b.symm.trans c) Bool.false_ne_true) fun c => c.trans (h.within.mer b)
    pow := fun b => h_pow.elim (fun c => absurd (b.symm.trans c) Bool.false_ne_true) fun c => c.trans (h.within.pow b)
    ory := fun b => h_ory.elim (fun c => absurd (b.symm.trans c) Bool.false_ne_true) fun c => c.trans (h.within.ory b)
    ctl := fun b => h_ctl.elim (fun c => absurd (b.symm.trans c) Bool.false_ne_true) fun c => c.trans (h.within.ctl b)
    eph := fun b => h_eph.elim (fun c => absurd (b.symm.trans c) Bool.false_ne_true) fun c => c.trans (h.within.eph b)
    boot := fun b => h_boot.elim (fun c => absurd (b.symm.trans c) Bool.false_ne_true) fun c => c.trans (h.within.boot b)
    freeCtr := fun b => h_fc.elim (fun c => absurd (b.symm.trans c) Bool.false_ne_true) fun c => c.trans (h.within.freeCtr b)
    sram := h.within.sram
    ddr := h.within.ddr
    flash := h.within.flash
    retained := h.within.retained
    eff := h.within.eff }⟩

/-- An update of station. -/
theorem Effect.station {m : Nat} {s t : State} {x} (hm : m.testBit 32 = true) (h : Effect m s t) : Effect m s ⟨t.variant, x, t.readData, t.regs, t.mem, t.cdr, t.grd, t.fus, t.eff, t.red, t.xl, t.tb, t.eth, t.can, t.uart, t.dio, t.sdf, t.hif, t.alm, t.mer, t.pow, t.ory, t.ctl, t.eph, t.boot, t.freeCtr, t.pending⟩ :=
  h.upd (.inl hm) (.inr rfl) (.inr rfl) (.inr rfl) (.inr rfl) (.inr rfl) (.inr rfl) (.inr rfl) (.inr rfl) (.inr rfl) (.inr rfl) (.inr rfl) (.inr rfl) (.inr rfl) (.inr rfl) (.inr rfl) (.inr rfl) (.inr rfl) (.inr rfl) (.inr rfl) (.inr rfl) (.inr rfl) rfl

/-- An update of the data register reads return. -/
theorem Effect.readData {m : Nat} {s t : State} {x} (hm : m.testBit 33 = true) (h : Effect m s t) : Effect m s ⟨t.variant, t.station, x, t.regs, t.mem, t.cdr, t.grd, t.fus, t.eff, t.red, t.xl, t.tb, t.eth, t.can, t.uart, t.dio, t.sdf, t.hif, t.alm, t.mer, t.pow, t.ory, t.ctl, t.eph, t.boot, t.freeCtr, t.pending⟩ :=
  h.upd (.inr rfl) (.inl hm) (.inr rfl) (.inr rfl) (.inr rfl) (.inr rfl) (.inr rfl) (.inr rfl) (.inr rfl) (.inr rfl) (.inr rfl) (.inr rfl) (.inr rfl) (.inr rfl) (.inr rfl) (.inr rfl) (.inr rfl) (.inr rfl) (.inr rfl) (.inr rfl) (.inr rfl) (.inr rfl) rfl

/-- An update of the Clock Drive. -/
theorem Effect.cdr {m : Nat} {s t : State} {x} (hm : m.testBit 38 = true) (h : Effect m s t) : Effect m s ⟨t.variant, t.station, t.readData, t.regs, t.mem, x, t.grd, t.fus, t.eff, t.red, t.xl, t.tb, t.eth, t.can, t.uart, t.dio, t.sdf, t.hif, t.alm, t.mer, t.pow, t.ory, t.ctl, t.eph, t.boot, t.freeCtr, t.pending⟩ :=
  h.upd (.inr rfl) (.inr rfl) (.inl hm) (.inr rfl) (.inr rfl) (.inr rfl) (.inr rfl) (.inr rfl) (.inr rfl) (.inr rfl) (.inr rfl) (.inr rfl) (.inr rfl) (.inr rfl) (.inr rfl) (.inr rfl) (.inr rfl) (.inr rfl) (.inr rfl) (.inr rfl) (.inr rfl) (.inr rfl) rfl

/-- An update of the Rhauf guard. -/
theorem Effect.grd {m : Nat} {s t : State} {x} (hm : m.testBit 39 = true) (h : Effect m s t) : Effect m s ⟨t.variant, t.station, t.readData, t.regs, t.mem, t.cdr, x, t.fus, t.eff, t.red, t.xl, t.tb, t.eth, t.can, t.uart, t.dio, t.sdf, t.hif, t.alm, t.mer, t.pow, t.ory, t.ctl, t.eph, t.boot, t.freeCtr, t.pending⟩ :=
  h.upd (.inr rfl) (.inr rfl) (.inr rfl) (.inl hm) (.inr rfl) (.inr rfl) (.inr rfl) (.inr rfl) (.inr rfl) (.inr rfl) (.inr rfl) (.inr rfl) (.inr rfl) (.inr rfl) (.inr rfl) (.inr rfl) (.inr rfl) (.inr rfl) (.inr rfl) (.inr rfl) (.inr rfl) (.inr rfl) rfl

/-- An update of the fusion unit. -/
theorem Effect.fus {m : Nat} {s t : State} {x} (hm : m.testBit 40 = true) (h : Effect m s t) : Effect m s ⟨t.variant, t.station, t.readData, t.regs, t.mem, t.cdr, t.grd, x, t.eff, t.red, t.xl, t.tb, t.eth, t.can, t.uart, t.dio, t.sdf, t.hif, t.alm, t.mer, t.pow, t.ory, t.ctl, t.eph, t.boot, t.freeCtr, t.pending⟩ :=
  h.upd (.inr rfl) (.inr rfl) (.inr rfl) (.inr rfl) (.inl hm) (.inr rfl) (.inr rfl) (.inr rfl) (.inr rfl) (.inr rfl) (.inr rfl) (.inr rfl) (.inr rfl) (.inr rfl) (.inr rfl) (.inr rfl) (.inr rfl) (.inr rfl) (.inr rfl) (.inr rfl) (.inr rfl) (.inr rfl) rfl

/-- An update of the redundancy manager. -/
theorem Effect.red {m : Nat} {s t : State} {x} (hm : m.testBit 42 = true) (h : Effect m s t) : Effect m s ⟨t.variant, t.station, t.readData, t.regs, t.mem, t.cdr, t.grd, t.fus, t.eff, x, t.xl, t.tb, t.eth, t.can, t.uart, t.dio, t.sdf, t.hif, t.alm, t.mer, t.pow, t.ory, t.ctl, t.eph, t.boot, t.freeCtr, t.pending⟩ :=
  h.upd (.inr rfl) (.inr rfl) (.inr rfl) (.inr rfl) (.inr rfl) (.inl hm) (.inr rfl) (.inr rfl) (.inr rfl) (.inr rfl) (.inr rfl) (.inr rfl) (.inr rfl) (.inr rfl) (.inr rfl) (.inr rfl) (.inr rfl) (.inr rfl) (.inr rfl) (.inr rfl) (.inr rfl) (.inr rfl) rfl

/-- An update of the Xonlink ports. -/
theorem Effect.xl {m : Nat} {s t : State} {x} (hm : m.testBit 43 = true) (h : Effect m s t) : Effect m s ⟨t.variant, t.station, t.readData, t.regs, t.mem, t.cdr, t.grd, t.fus, t.eff, t.red, x, t.tb, t.eth, t.can, t.uart, t.dio, t.sdf, t.hif, t.alm, t.mer, t.pow, t.ory, t.ctl, t.eph, t.boot, t.freeCtr, t.pending⟩ :=
  h.upd (.inr rfl) (.inr rfl) (.inr rfl) (.inr rfl) (.inr rfl) (.inr rfl) (.inl hm) (.inr rfl) (.inr rfl) (.inr rfl) (.inr rfl) (.inr rfl) (.inr rfl) (.inr rfl) (.inr rfl) (.inr rfl) (.inr rfl) (.inr rfl) (.inr rfl) (.inr rfl) (.inr rfl) (.inr rfl) rfl

/-- An update of the PTP time base. -/
theorem Effect.tb {m : Nat} {s t : State} {x} (hm : m.testBit 44 = true) (h : Effect m s t) : Effect m s ⟨t.variant, t.station, t.readData, t.regs, t.mem, t.cdr, t.grd, t.fus, t.eff, t.red, t.xl, x, t.eth, t.can, t.uart, t.dio, t.sdf, t.hif, t.alm, t.mer, t.pow, t.ory, t.ctl, t.eph, t.boot, t.freeCtr, t.pending⟩ :=
  h.upd (.inr rfl) (.inr rfl) (.inr rfl) (.inr rfl) (.inr rfl) (.inr rfl) (.inr rfl) (.inl hm) (.inr rfl) (.inr rfl) (.inr rfl) (.inr rfl) (.inr rfl) (.inr rfl) (.inr rfl) (.inr rfl) (.inr rfl) (.inr rfl) (.inr rfl) (.inr rfl) (.inr rfl) (.inr rfl) rfl

/-- An update of the Ethernet ports. -/
theorem Effect.eth {m : Nat} {s t : State} {x} (hm : m.testBit 45 = true) (h : Effect m s t) : Effect m s ⟨t.variant, t.station, t.readData, t.regs, t.mem, t.cdr, t.grd, t.fus, t.eff, t.red, t.xl, t.tb, x, t.can, t.uart, t.dio, t.sdf, t.hif, t.alm, t.mer, t.pow, t.ory, t.ctl, t.eph, t.boot, t.freeCtr, t.pending⟩ :=
  h.upd (.inr rfl) (.inr rfl) (.inr rfl) (.inr rfl) (.inr rfl) (.inr rfl) (.inr rfl) (.inr rfl) (.inl hm) (.inr rfl) (.inr rfl) (.inr rfl) (.inr rfl) (.inr rfl) (.inr rfl) (.inr rfl) (.inr rfl) (.inr rfl) (.inr rfl) (.inr rfl) (.inr rfl) (.inr rfl) rfl

/-- An update of the CAN FD controllers. -/
theorem Effect.can {m : Nat} {s t : State} {x} (hm : m.testBit 46 = true) (h : Effect m s t) : Effect m s ⟨t.variant, t.station, t.readData, t.regs, t.mem, t.cdr, t.grd, t.fus, t.eff, t.red, t.xl, t.tb, t.eth, x, t.uart, t.dio, t.sdf, t.hif, t.alm, t.mer, t.pow, t.ory, t.ctl, t.eph, t.boot, t.freeCtr, t.pending⟩ :=
  h.upd (.inr rfl) (.inr rfl) (.inr rfl) (.inr rfl) (.inr rfl) (.inr rfl) (.inr rfl) (.inr rfl) (.inr rfl) (.inl hm) (.inr rfl) (.inr rfl) (.inr rfl) (.inr rfl) (.inr rfl) (.inr rfl) (.inr rfl) (.inr rfl) (.inr rfl) (.inr rfl) (.inr rfl) (.inr rfl) rfl

/-- An update of the UARTs. -/
theorem Effect.uart {m : Nat} {s t : State} {x} (hm : m.testBit 47 = true) (h : Effect m s t) : Effect m s ⟨t.variant, t.station, t.readData, t.regs, t.mem, t.cdr, t.grd, t.fus, t.eff, t.red, t.xl, t.tb, t.eth, t.can, x, t.dio, t.sdf, t.hif, t.alm, t.mer, t.pow, t.ory, t.ctl, t.eph, t.boot, t.freeCtr, t.pending⟩ :=
  h.upd (.inr rfl) (.inr rfl) (.inr rfl) (.inr rfl) (.inr rfl) (.inr rfl) (.inr rfl) (.inr rfl) (.inr rfl) (.inr rfl) (.inl hm) (.inr rfl) (.inr rfl) (.inr rfl) (.inr rfl) (.inr rfl) (.inr rfl) (.inr rfl) (.inr rfl) (.inr rfl) (.inr rfl) (.inr rfl) rfl

/-- An update of the discrete pins. -/
theorem Effect.dio {m : Nat} {s t : State} {x} (hm : m.testBit 48 = true) (h : Effect m s t) : Effect m s ⟨t.variant, t.station, t.readData, t.regs, t.mem, t.cdr, t.grd, t.fus, t.eff, t.red, t.xl, t.tb, t.eth, t.can, t.uart, x, t.sdf, t.hif, t.alm, t.mer, t.pow, t.ory, t.ctl, t.eph, t.boot, t.freeCtr, t.pending⟩ :=
  h.upd (.inr rfl) (.inr rfl) (.inr rfl) (.inr rfl) (.inr rfl) (.inr rfl) (.inr rfl) (.inr rfl) (.inr rfl) (.inr rfl) (.inr rfl) (.inl hm) (.inr rfl) (.inr rfl) (.inr rfl) (.inr rfl) (.inr rfl) (.inr rfl) (.inr rfl) (.inr rfl) (.inr rfl) (.inr rfl) rfl

/-- An update of the sigma-delta chains. -/
theorem Effect.sdf {m : Nat} {s t : State} {x} (hm : m.testBit 49 = true) (h : Effect m s t) : Effect m s ⟨t.variant, t.station, t.readData, t.regs, t.mem, t.cdr, t.grd, t.fus, t.eff, t.red, t.xl, t.tb, t.eth, t.can, t.uart, t.dio, x, t.hif, t.alm, t.mer, t.pow, t.ory, t.ctl, t.eph, t.boot, t.freeCtr, t.pending⟩ :=
  h.upd (.inr rfl) (.inr rfl) (.inr rfl) (.inr rfl) (.inr rfl) (.inr rfl) (.inr rfl) (.inr rfl) (.inr rfl) (.inr rfl) (.inr rfl) (.inr rfl) (.inl hm) (.inr rfl) (.inr rfl) (.inr rfl) (.inr rfl) (.inr rfl) (.inr rfl) (.inr rfl) (.inr rfl) (.inr rfl) rfl

/-- An update of the host interface. -/
theorem Effect.hif {m : Nat} {s t : State} {x} (hm : m.testBit 50 = true) (h : Effect m s t) : Effect m s ⟨t.variant, t.station, t.readData, t.regs, t.mem, t.cdr, t.grd, t.fus, t.eff, t.red, t.xl, t.tb, t.eth, t.can, t.uart, t.dio, t.sdf, x, t.alm, t.mer, t.pow, t.ory, t.ctl, t.eph, t.boot, t.freeCtr, t.pending⟩ :=
  h.upd (.inr rfl) (.inr rfl) (.inr rfl) (.inr rfl) (.inr rfl) (.inr rfl) (.inr rfl) (.inr rfl) (.inr rfl) (.inr rfl) (.inr rfl) (.inr rfl) (.inr rfl) (.inl hm) (.inr rfl) (.inr rfl) (.inr rfl) (.inr rfl) (.inr rfl) (.inr rfl) (.inr rfl) (.inr rfl) rfl

/-- An update of the Almanac and the flash queue. -/
theorem Effect.alm {m : Nat} {s t : State} {x} (hm : m.testBit 51 = true) (h : Effect m s t) : Effect m s ⟨t.variant, t.station, t.readData, t.regs, t.mem, t.cdr, t.grd, t.fus, t.eff, t.red, t.xl, t.tb, t.eth, t.can, t.uart, t.dio, t.sdf, t.hif, x, t.mer, t.pow, t.ory, t.ctl, t.eph, t.boot, t.freeCtr, t.pending⟩ :=
  h.upd (.inr rfl) (.inr rfl) (.inr rfl) (.inr rfl) (.inr rfl) (.inr rfl) (.inr rfl) (.inr rfl) (.inr rfl) (.inr rfl) (.inr rfl) (.inr rfl) (.inr rfl) (.inr rfl) (.inl hm) (.inr rfl) (.inr rfl) (.inr rfl) (.inr rfl) (.inr rfl) (.inr rfl) (.inr rfl) rfl

/-- An update of Meridian. -/
theorem Effect.mer {m : Nat} {s t : State} {x} (hm : m.testBit 52 = true) (h : Effect m s t) : Effect m s ⟨t.variant, t.station, t.readData, t.regs, t.mem, t.cdr, t.grd, t.fus, t.eff, t.red, t.xl, t.tb, t.eth, t.can, t.uart, t.dio, t.sdf, t.hif, t.alm, x, t.pow, t.ory, t.ctl, t.eph, t.boot, t.freeCtr, t.pending⟩ :=
  h.upd (.inr rfl) (.inr rfl) (.inr rfl) (.inr rfl) (.inr rfl) (.inr rfl) (.inr rfl) (.inr rfl) (.inr rfl) (.inr rfl) (.inr rfl) (.inr rfl) (.inr rfl) (.inr rfl) (.inr rfl) (.inl hm) (.inr rfl) (.inr rfl) (.inr rfl) (.inr rfl) (.inr rfl) (.inr rfl) rfl

/-- An update of the power controller. -/
theorem Effect.pow {m : Nat} {s t : State} {x} (hm : m.testBit 53 = true) (h : Effect m s t) : Effect m s ⟨t.variant, t.station, t.readData, t.regs, t.mem, t.cdr, t.grd, t.fus, t.eff, t.red, t.xl, t.tb, t.eth, t.can, t.uart, t.dio, t.sdf, t.hif, t.alm, t.mer, x, t.ory, t.ctl, t.eph, t.boot, t.freeCtr, t.pending⟩ :=
  h.upd (.inr rfl) (.inr rfl) (.inr rfl) (.inr rfl) (.inr rfl) (.inr rfl) (.inr rfl) (.inr rfl) (.inr rfl) (.inr rfl) (.inr rfl) (.inr rfl) (.inr rfl) (.inr rfl) (.inr rfl) (.inr rfl) (.inl hm) (.inr rfl) (.inr rfl) (.inr rfl) (.inr rfl) (.inr rfl) rfl

/-- An update of the Orrery. -/
theorem Effect.ory {m : Nat} {s t : State} {x} (hm : m.testBit 54 = true) (h : Effect m s t) : Effect m s ⟨t.variant, t.station, t.readData, t.regs, t.mem, t.cdr, t.grd, t.fus, t.eff, t.red, t.xl, t.tb, t.eth, t.can, t.uart, t.dio, t.sdf, t.hif, t.alm, t.mer, t.pow, x, t.ctl, t.eph, t.boot, t.freeCtr, t.pending⟩ :=
  h.upd (.inr rfl) (.inr rfl) (.inr rfl) (.inr rfl) (.inr rfl) (.inr rfl) (.inr rfl) (.inr rfl) (.inr rfl) (.inr rfl) (.inr rfl) (.inr rfl) (.inr rfl) (.inr rfl) (.inr rfl) (.inr rfl) (.inr rfl) (.inl hm) (.inr rfl) (.inr rfl) (.inr rfl) (.inr rfl) rfl

/-- An update of the control engine. -/
theorem Effect.ctl {m : Nat} {s t : State} {x} (hm : m.testBit 55 = true) (h : Effect m s t) : Effect m s ⟨t.variant, t.station, t.readData, t.regs, t.mem, t.cdr, t.grd, t.fus, t.eff, t.red, t.xl, t.tb, t.eth, t.can, t.uart, t.dio, t.sdf, t.hif, t.alm, t.mer, t.pow, t.ory, x, t.eph, t.boot, t.freeCtr, t.pending⟩ :=
  h.upd (.inr rfl) (.inr rfl) (.inr rfl) (.inr rfl) (.inr rfl) (.inr rfl) (.inr rfl) (.inr rfl) (.inr rfl) (.inr rfl) (.inr rfl) (.inr rfl) (.inr rfl) (.inr rfl) (.inr rfl) (.inr rfl) (.inr rfl) (.inr rfl) (.inl hm) (.inr rfl) (.inr rfl) (.inr rfl) rfl

/-- An update of Ephemeris. -/
theorem Effect.eph {m : Nat} {s t : State} {x} (hm : m.testBit 56 = true) (h : Effect m s t) : Effect m s ⟨t.variant, t.station, t.readData, t.regs, t.mem, t.cdr, t.grd, t.fus, t.eff, t.red, t.xl, t.tb, t.eth, t.can, t.uart, t.dio, t.sdf, t.hif, t.alm, t.mer, t.pow, t.ory, t.ctl, x, t.boot, t.freeCtr, t.pending⟩ :=
  h.upd (.inr rfl) (.inr rfl) (.inr rfl) (.inr rfl) (.inr rfl) (.inr rfl) (.inr rfl) (.inr rfl) (.inr rfl) (.inr rfl) (.inr rfl) (.inr rfl) (.inr rfl) (.inr rfl) (.inr rfl) (.inr rfl) (.inr rfl) (.inr rfl) (.inr rfl) (.inl hm) (.inr rfl) (.inr rfl) rfl

/-- An update of boot and the life cycle. -/
theorem Effect.boot {m : Nat} {s t : State} {x} (hm : m.testBit 57 = true) (h : Effect m s t) (hb : x.fuses = t.boot.fuses) : Effect m s ⟨t.variant, t.station, t.readData, t.regs, t.mem, t.cdr, t.grd, t.fus, t.eff, t.red, t.xl, t.tb, t.eth, t.can, t.uart, t.dio, t.sdf, t.hif, t.alm, t.mer, t.pow, t.ory, t.ctl, t.eph, x, t.freeCtr, t.pending⟩ :=
  h.upd (.inr rfl) (.inr rfl) (.inr rfl) (.inr rfl) (.inr rfl) (.inr rfl) (.inr rfl) (.inr rfl) (.inr rfl) (.inr rfl) (.inr rfl) (.inr rfl) (.inr rfl) (.inr rfl) (.inr rfl) (.inr rfl) (.inr rfl) (.inr rfl) (.inr rfl) (.inr rfl) (.inl hm) (.inr rfl) hb

/-- An update of the counter of free values. -/
theorem Effect.freeCtr {m : Nat} {s t : State} {x} (hm : m.testBit 58 = true) (h : Effect m s t) : Effect m s ⟨t.variant, t.station, t.readData, t.regs, t.mem, t.cdr, t.grd, t.fus, t.eff, t.red, t.xl, t.tb, t.eth, t.can, t.uart, t.dio, t.sdf, t.hif, t.alm, t.mer, t.pow, t.ory, t.ctl, t.eph, t.boot, x, t.pending⟩ :=
  h.upd (.inr rfl) (.inr rfl) (.inr rfl) (.inr rfl) (.inr rfl) (.inr rfl) (.inr rfl) (.inr rfl) (.inr rfl) (.inr rfl) (.inr rfl) (.inr rfl) (.inr rfl) (.inr rfl) (.inr rfl) (.inr rfl) (.inr rfl) (.inr rfl) (.inr rfl) (.inr rfl) (.inr rfl) (.inl hm) rfl

/-- A write of shared SRAM. -/
theorem Effect.sram {m : Nat} {s t : State} {x : List Host.Cell} (hm : m.testBit 34 = true) (h : Effect m s t)
    (hw : swf ramByte t.mem.sram = true → swf ramByte x = true) : Effect m s ⟨t.variant, t.station, t.readData, t.regs, ⟨x, t.mem.ddr, t.mem.flash, t.mem.retained, t.mem.ddrBytes, t.mem.flashSize⟩, t.cdr, t.grd, t.fus, t.eff, t.red, t.xl, t.tb, t.eth, t.can, t.uart, t.dio, t.sdf, t.hif, t.alm, t.mer, t.pow, t.ory, t.ctl, t.eph, t.boot, t.freeCtr, t.pending⟩ :=
  ⟨⟨h.kept.regs, h.kept.eff, fun w => memSram hw (h.kept.mem w), h.kept.pending, h.kept.variant, h.kept.sizes, h.kept.fuses⟩,
    { h.within with sram := fun b => absurd (b.symm.trans hm) Bool.false_ne_true }⟩

/-- A write of DDR. -/
theorem Effect.ddr {m : Nat} {s t : State} {x : List Host.Cell} (hm : m.testBit 35 = true) (h : Effect m s t)
    (hw : swf ramByte t.mem.ddr = true → swf ramByte x = true) : Effect m s ⟨t.variant, t.station, t.readData, t.regs, ⟨t.mem.sram, x, t.mem.flash, t.mem.retained, t.mem.ddrBytes, t.mem.flashSize⟩, t.cdr, t.grd, t.fus, t.eff, t.red, t.xl, t.tb, t.eth, t.can, t.uart, t.dio, t.sdf, t.hif, t.alm, t.mer, t.pow, t.ory, t.ctl, t.eph, t.boot, t.freeCtr, t.pending⟩ :=
  ⟨⟨h.kept.regs, h.kept.eff, fun w => memDdr hw (h.kept.mem w), h.kept.pending, h.kept.variant, h.kept.sizes, h.kept.fuses⟩,
    { h.within with ddr := fun b => absurd (b.symm.trans hm) Bool.false_ne_true }⟩

/-- A write of the boot flash. -/
theorem Effect.flash {m : Nat} {s t : State} {x : List Host.Cell} (hm : m.testBit 36 = true) (h : Effect m s t)
    (hw : swf flashByte t.mem.flash = true → swf flashByte x = true) : Effect m s ⟨t.variant, t.station, t.readData, t.regs, ⟨t.mem.sram, t.mem.ddr, x, t.mem.retained, t.mem.ddrBytes, t.mem.flashSize⟩, t.cdr, t.grd, t.fus, t.eff, t.red, t.xl, t.tb, t.eth, t.can, t.uart, t.dio, t.sdf, t.hif, t.alm, t.mer, t.pow, t.ory, t.ctl, t.eph, t.boot, t.freeCtr, t.pending⟩ :=
  ⟨⟨h.kept.regs, h.kept.eff, fun w => memFlash hw (h.kept.mem w), h.kept.pending, h.kept.variant, h.kept.sizes, h.kept.fuses⟩,
    { h.within with flash := fun b => absurd (b.symm.trans hm) Bool.false_ne_true }⟩

/-- A write of retained SRAM. -/
theorem Effect.retained {m : Nat} {s t : State} {x : List Host.Cell} (hm : m.testBit 37 = true) (h : Effect m s t)
    (hw : swf ramByte t.mem.retained = true → swf ramByte x = true) : Effect m s ⟨t.variant, t.station, t.readData, t.regs, ⟨t.mem.sram, t.mem.ddr, t.mem.flash, x, t.mem.ddrBytes, t.mem.flashSize⟩, t.cdr, t.grd, t.fus, t.eff, t.red, t.xl, t.tb, t.eth, t.can, t.uart, t.dio, t.sdf, t.hif, t.alm, t.mer, t.pow, t.ory, t.ctl, t.eph, t.boot, t.freeCtr, t.pending⟩ :=
  ⟨⟨h.kept.regs, h.kept.eff, fun w => memRet hw (h.kept.mem w), h.kept.pending, h.kept.variant, h.kept.sizes, h.kept.fuses⟩,
    { h.within with retained := fun b => absurd (b.symm.trans hm) Bool.false_ne_true }⟩

/-- A branch. -/
theorem Effect.ite {m : Nat} {s a b : State} {c : Prop} [Decidable c] (ha : Effect m s a) (hb : Effect m s b) :
    Effect m s (if c then a else b) := by
  split
  · exact ha
  · exact hb

/-- A loop. -/
theorem Effect.foldl {m : Nat} {α : Type} {s0 s : State} {f : State → α → State} (h : Effect m s0 s)
    (hf : ∀ t x, Effect m s0 t → Effect m s0 (f t x)) (xs : List α) : Effect m s0 (xs.foldl f s) := by
  induction xs generalizing s with
  | nil => exact h
  | cons x xs ih => exact ih (hf _ _ h)

/-- A loop. -/
theorem Effect.forEach {m : Nat} {α : Type} {s0 s : State} {f : α → State → State} (h : Effect m s0 s)
    (hf : ∀ x t, Effect m s0 t → Effect m s0 (f x t)) (xs : List α) : Effect m s0 (forEach xs f s) :=
  Effect.foldl h (fun t x => hf x t) xs

/-! ### Register writes -/

/-- A register write. -/
theorem State.wr_effect {m : Nat} {s0 : State} (s : State) (k : Nat) (w : Word) (hk : m.testBit (k / 0x10000 % 32) = true)
    (h : Effect m s0 s) : Effect m s0 (s.wr k w) :=
  ⟨⟨fun r => swf_sset (h.kept.regs r) _ _, h.kept.eff, h.kept.mem, h.kept.pending, h.kept.variant, h.kept.sizes, h.kept.fuses⟩,
    { h.within with
      regs := fun j b => by
        have : j ≠ k := fun e => by rw [e, hk] at b; exact absurd b (by decide)
        exact (sget_sset_ne this _ _).trans (h.within.regs j b) }⟩

/-- Register writes in a row. -/
theorem State.wrWords_effect {m : Nat} {s0 : State} (s : State) (k : Nat) (ws : List Word)
    (hk : m.testBit (k / 0x10000 % 32) = true) (h : Effect m s0 s) : Effect m s0 (s.wrWords k ws) := by
  induction ws generalizing s k with
  | nil => exact h
  | cons w ws ih => exact ih _ _ (by rwa [blockOff_div]) (State.wr_effect _ _ _ hk h)

theorem State.wrn_effect {m : Nat} {s0 : State} (s : State) (k v : Nat) (hk : m.testBit (k / 0x10000 % 32) = true)
    (h : Effect m s0 s) : Effect m s0 (s.wrn k v) := State.wr_effect _ _ _ hk h

theorem State.put_effect {m : Nat} {s0 : State} (s : State) (f : Fld) (v : Nat) (hk : m.testBit (f.off / 0x10000 % 32) = true)
    (h : Effect m s0 s) : Effect m s0 (s.put f v) := State.wr_effect _ _ _ hk h

theorem State.setTo_effect {m : Nat} {s0 : State} (s : State) (f : Fld) (b : Bool) (hk : m.testBit (f.off / 0x10000 % 32) = true)
    (h : Effect m s0 s) : Effect m s0 (s.setTo f b) := State.wr_effect _ _ _ hk h

theorem State.putSat_effect {m : Nat} {s0 : State} (s : State) (f : Fld) (v : Nat) (hk : m.testBit (f.off / 0x10000 % 32) = true)
    (h : Effect m s0 s) : Effect m s0 (s.putSat f v) := State.wr_effect _ _ _ hk h

theorem State.bump_effect {m : Nat} {s0 : State} (s : State) (f : Fld) (n : Nat) (hk : m.testBit (f.off / 0x10000 % 32) = true)
    (h : Effect m s0 s) : Effect m s0 (s.bump f n) := State.wr_effect _ _ _ hk h

theorem State.wr64_effect {m : Nat} {s0 : State} (s : State) (lo hi v : Nat) (hl : m.testBit (lo / 0x10000 % 32) = true)
    (hh : m.testBit (hi / 0x10000 % 32) = true) (h : Effect m s0 s) : Effect m s0 (s.wr64 lo hi v) :=
  State.wr_effect _ _ _ hh (State.wr_effect _ _ _ hl h)

theorem State.wrAcc_effect {m : Nat} {s0 : State} (s : State) (k v w : Nat) (hk : m.testBit (k / 0x10000 % 32) = true)
    (h : Effect m s0 s) : Effect m s0 (s.wrAcc k v w) := by
  unfold State.wrAcc; split
  · exact h
  · exact State.wrn_effect _ _ _ hk h

theorem State.rdAcc_effect {m : Nat} {s0 : State} (s : State) (k : Nat) (hk : m.testBit (k / 0x10000 % 32) = true)
    (h : Effect m s0 s) : Effect m s0 (s.rdAcc k).2 := by
  unfold State.rdAcc; split
  · exact h
  · dsimp only; split
    · exact h
    · exact State.wrn_effect _ _ _ hk h

/-! ### Outcomes -/

/-- What an outcome does: a next state within `m`. -/
def EffectOut (m : Nat) (s : State) (o : Host.Outcome State Fault Refusal) : Prop := ∀ t, o = .next t → Effect m s t

theorem EffectOut.next {m : Nat} {s t : State} (h : Effect m s t) : EffectOut m s (.next t) := by
  intro u e; cases e; exact h

theorem EffectOut.fault {m : Nat} {s : State} {f : Fault} : EffectOut m s (.fault f) := by intro u e; cases e

theorem EffectOut.gate {m : Nat} {s t : State} {d : Nat} {o : Host.Outcome State Fault Refusal} (h : Effect m s t)
    (g : EffectOut m s o) : EffectOut m s (t.gate d o) := by
  unfold State.gate; split
  · exact g
  · exact .next h

theorem EffectOut.rooted {m : Nat} {s t : State} {o : Host.Outcome State Fault Refusal} (h : Effect m s t) (g : EffectOut m s o) :
    EffectOut m s (t.rooted o) := by
  unfold State.rooted; split
  · exact EffectOut.next h
  · exact g

theorem EffectOut.reach {m : Nat} {s t : State} {off : Nat} {o : Host.Outcome State Fault Refusal} (h : Effect m s t)
    (g : EffectOut m s o) : EffectOut m s (t.reach off o) := by
  unfold State.reach; split
  · exact g
  · exact EffectOut.next h

end Sys2Proof.Machine
end

