-- ==== Sys2Proof/Laws/EffectOps.lean ====
section
/-! SUPPORT. What the operations of Machine/Ops.lean do: the parts of the state that each may change. -/

set_option linter.unusedTactic false
set_option linter.unusedVariables false
set_option linter.unreachableTactic false

namespace Sys2Proof.Machine

theorem State.nextFree_effect {msk : Nat} {s0 : State} (s : State) (hm : 0x400000000000000 &&& msk = 0x400000000000000) (h_s : Effect msk s0 s) :
    Effect msk s0 (State.nextFree s) := by
  unfold State.nextFree
  repeat' first | with_reducible intro _ | with_reducible assumption | with_reducible rfl | with_reducible apply Effect.ite | split | dsimp only | with_reducible refine Effect.freeCtr ?_ ?_ | exact bitParts hm (by decide) | rfl

theorem State.sramWrite_effect {msk : Nat} {s0 : State} (s : State) (a : Nat) (bs : List Byte) (hm : 0x400000000 &&& msk = 0x400000000) (h_s : Effect msk s0 s) :
    Effect msk s0 (State.sramWrite s a bs) := by
  unfold State.sramWrite
  repeat' first | with_reducible intro _ | with_reducible assumption | with_reducible rfl | exact subParts hm (by decide) | with_reducible apply Effect.ite | split | dsimp only | with_reducible refine Effect.sram ?_ ?_ ?_ | with_reducible apply swf_writeBytes | with_reducible apply swf_filter | with_reducible apply swf_writeWord | with_reducible apply swf_writeWords | exact bitParts hm (by decide) | exact bitOff hm (by decide) | exact bitPlus hm (by decide) | exact bitKey hm (by decide) | rfl

theorem State.gateRead_effect {msk : Nat} {s0 : State} (s : State) (d : Nat) (o : State) (hm : 0x200000000 &&& msk = 0x200000000) (h_s : Effect msk s0 s) (h_o : Effect msk s0 o) :
    EffectOut msk s0 (State.gateRead s d o) := by
  unfold State.gateRead
  repeat' first | with_reducible intro _ | with_reducible assumption | with_reducible rfl | with_reducible refine EffectOut.gate ?_ ?_ | with_reducible refine EffectOut.rooted ?_ ?_ | with_reducible refine EffectOut.reach ?_ ?_ | with_reducible refine EffectOut.next ?_ | exact subParts hm (by decide) | with_reducible apply Effect.ite | split | dsimp only | with_reducible refine Effect.readData ?_ ?_ | exact bitParts hm (by decide) | exact bitOff hm (by decide) | exact bitPlus hm (by decide) | exact bitKey hm (by decide) | rfl

theorem State.drainPosted_effect {msk : Nat} {s0 : State} (s : State) (hm : 0x4000000000000 &&& msk = 0x4000000000000) (h_s : Effect msk s0 s) :
    Effect msk s0 (State.drainPosted s) := by
  unfold State.drainPosted
  repeat' first | with_reducible intro _ | with_reducible assumption | with_reducible rfl | with_reducible apply Effect.ite | split | dsimp only | with_reducible refine Effect.hif ?_ ?_ | exact bitParts hm (by decide) | rfl

theorem State.post_effect {msk : Nat} {s0 : State} (s : State) (p : Posted) (hm : 0x4000000000000 &&& msk = 0x4000000000000) (h_s : Effect msk s0 s) :
    Effect msk s0 (State.post s p) := by
  unfold State.post
  repeat' first | with_reducible intro _ | with_reducible assumption | with_reducible rfl | exact subParts hm (by decide) | with_reducible apply State.drainPosted_effect | with_reducible apply Effect.ite | split | dsimp only | with_reducible refine Effect.hif ?_ ?_ | exact bitParts hm (by decide) | rfl

theorem State.postData_effect {msk : Nat} {s0 : State} (s : State) (addr : Nat) (bs : List Byte) (hm : 0x4000000000000 &&& msk = 0x4000000000000) (h_s : Effect msk s0 s) :
    Effect msk s0 (State.postData s addr bs) := by
  unfold State.postData
  repeat' first | with_reducible intro _ | with_reducible assumption | with_reducible rfl | exact subParts hm (by decide) | with_reducible apply State.drainPosted_effect | with_reducible apply Effect.ite | split | dsimp only | with_reducible refine Effect.hif ?_ ?_ | exact bitParts hm (by decide) | exact bitOff hm (by decide) | exact bitPlus hm (by decide) | exact bitKey hm (by decide) | rfl

theorem State.message_effect {msk : Nat} {s0 : State} (s : State) (v : Nat) (hm : 0x4000000040000 &&& msk = 0x4000000040000) (h_s : Effect msk s0 s) :
    Effect msk s0 (State.message s v) := by
  unfold State.message
  repeat' first | with_reducible intro _ | with_reducible assumption | with_reducible rfl | exact subParts hm (by decide) | with_reducible apply State.post_effect | with_reducible apply State.setTo_effect | with_reducible apply Effect.ite | split | dsimp only | exact bitParts hm (by decide) | exact bitOff hm (by decide) | rfl

theorem State.notifyGroup_effect {msk : Nat} {s0 : State} (s : State) (g : Nat) (hm : 0x4000000040000 &&& msk = 0x4000000040000) (h_s : Effect msk s0 s) :
    Effect msk s0 (State.notifyGroup s g) := by
  unfold State.notifyGroup
  repeat' first | with_reducible intro _ | with_reducible assumption | with_reducible rfl | exact subParts hm (by decide) | with_reducible apply State.message_effect | with_reducible apply Effect.ite | split | dsimp only | rfl

theorem State.pendEv_effect {msk : Nat} {s0 : State} (s : State) (n : Nat) (hm : 0x4000000040000 &&& msk = 0x4000000040000) (h_s : Effect msk s0 s) :
    Effect msk s0 (State.pendEv s n) := by
  unfold State.pendEv
  repeat' first | with_reducible intro _ | with_reducible assumption | with_reducible rfl | exact subParts hm (by decide) | with_reducible apply State.notifyGroup_effect | with_reducible apply State.setTo_effect | with_reducible apply Effect.ite | split | dsimp only | exact bitParts hm (by decide) | exact bitOff hm (by decide) | rfl

theorem State.offerAs_effect {msk : Nat} {s0 : State} (s : State) (step : Bool) (r : AlmRec) (hm : 0xc0000000c0000 &&& msk = 0xc0000000c0000) (h_s : Effect msk s0 s) :
    Effect msk s0 (State.offerAs s step r) := by
  unfold State.offerAs
  repeat' first | with_reducible intro _ | with_reducible assumption | with_reducible rfl | exact subParts hm (by decide) | with_reducible apply State.pendEv_effect | with_reducible apply State.bump_effect | with_reducible apply State.setTo_effect | with_reducible apply Effect.ite | split | dsimp only | with_reducible refine Effect.alm ?_ ?_ | exact bitParts hm (by decide) | exact bitOff hm (by decide) | exact bitPlus hm (by decide) | exact bitKey hm (by decide) | rfl

theorem State.offer_effect {msk : Nat} {s0 : State} (s : State) (r : AlmRec) (hm : 0xc0000000c0000 &&& msk = 0xc0000000c0000) (h_s : Effect msk s0 s) :
    Effect msk s0 (State.offer s r) := by
  unfold State.offer
  repeat' first | with_reducible intro _ | with_reducible assumption | with_reducible rfl | exact subParts hm (by decide) | with_reducible apply State.offerAs_effect | with_reducible apply Effect.ite | split | dsimp only | exact bitParts hm (by decide) | exact bitOff hm (by decide) | exact bitPlus hm (by decide) | exact bitKey hm (by decide) | rfl

theorem State.raise3_effect {msk : Nat} {s0 : State} (s : State) (n sev src : Nat) (p0 p1 p2 : Word) (hm : 0xc0000000c0000 &&& msk = 0xc0000000c0000) (h_s : Effect msk s0 s) :
    Effect msk s0 (State.raise3 s n sev src p0 p1 p2) := by
  unfold State.raise3
  repeat' first | with_reducible intro _ | with_reducible assumption | with_reducible rfl | exact subParts hm (by decide) | with_reducible apply State.offer_effect | with_reducible apply State.pendEv_effect | with_reducible apply Effect.ite | split | dsimp only | rfl

theorem State.raiseStep_effect {msk : Nat} {s0 : State} (s : State) (src : Nat) (p0 p1 : Word) (hm : 0xc0000000c0000 &&& msk = 0xc0000000c0000) (h_s : Effect msk s0 s) :
    Effect msk s0 (State.raiseStep s src p0 p1) := by
  unfold State.raiseStep
  repeat' first | with_reducible intro _ | with_reducible assumption | with_reducible rfl | exact subParts hm (by decide) | with_reducible apply State.offerAs_effect | with_reducible apply State.pendEv_effect | with_reducible apply Effect.ite | split | dsimp only | exact bitParts hm (by decide) | exact bitOff hm (by decide) | exact bitPlus hm (by decide) | exact bitKey hm (by decide) | rfl

theorem State.raise1_effect {msk : Nat} {s0 : State} (s : State) (n sev src p0 : Nat) (hm : 0xc0000000c0000 &&& msk = 0xc0000000c0000) (h_s : Effect msk s0 s) :
    Effect msk s0 (State.raise1 s n sev src p0) := by
  unfold State.raise1
  repeat' first | with_reducible intro _ | with_reducible assumption | with_reducible rfl | exact subParts hm (by decide) | with_reducible apply State.raise3_effect | with_reducible apply Effect.ite | split | dsimp only | rfl

theorem State.raise2_effect {msk : Nat} {s0 : State} (s : State) (n sev src p0 p1 : Nat) (hm : 0xc0000000c0000 &&& msk = 0xc0000000c0000) (h_s : Effect msk s0 s) :
    Effect msk s0 (State.raise2 s n sev src p0 p1) := by
  unfold State.raise2
  repeat' first | with_reducible intro _ | with_reducible assumption | with_reducible rfl | exact subParts hm (by decide) | with_reducible apply State.raise3_effect | with_reducible apply Effect.ite | split | dsimp only | rfl

theorem State.raise_effect {msk : Nat} {s0 : State} (s : State) (n sev src : Nat) (hm : 0xc0000000c0000 &&& msk = 0xc0000000c0000) (h_s : Effect msk s0 s) :
    Effect msk s0 (State.raise s n sev src) := by
  unfold State.raise
  repeat' first | with_reducible intro _ | with_reducible assumption | with_reducible rfl | exact subParts hm (by decide) | with_reducible apply State.raise3_effect | with_reducible apply Effect.ite | split | dsimp only | rfl

theorem State.raiseIf_effect {msk : Nat} {s0 : State} (s : State) (c : Bool) (n sev src p0 : Nat) (hm : 0xc0000000c0000 &&& msk = 0xc0000000c0000) (h_s : Effect msk s0 s) :
    Effect msk s0 (State.raiseIf s c n sev src p0) := by
  unfold State.raiseIf
  repeat' first | with_reducible intro _ | with_reducible assumption | with_reducible rfl | exact subParts hm (by decide) | with_reducible apply State.raise1_effect | with_reducible apply Effect.ite | split | dsimp only | rfl

end Sys2Proof.Machine
end

