-- ==== Sys2Proof/Laws/EffectIntake.lean ====
section
/-! SUPPORT. What the operations of Machine/Intake.lean do: the parts of the state that each may change. -/

set_option linter.unusedTactic false
set_option linter.unusedVariables false
set_option linter.unreachableTactic false

namespace Sys2Proof.Machine

theorem State.modFus_effect {msk : Nat} {s0 : State} (s : State) (f : Fusion → Fusion) (hm : 0x10000000000 &&& msk = 0x10000000000) (h_s : Effect msk s0 s) :
    Effect msk s0 (State.modFus s f) := by
  unfold State.modFus
  repeat' first | with_reducible intro _ | with_reducible assumption | with_reducible rfl | with_reducible apply Effect.ite | split | dsimp only | with_reducible refine Effect.fus ?_ ?_ | exact bitParts hm (by decide) | rfl

theorem State.showIntake_effect {msk : Nat} {s0 : State} (s : State) (hm : 0x40 &&& msk = 0x40) (h_s : Effect msk s0 s) :
    Effect msk s0 (State.showIntake s) := by
  unfold State.showIntake
  repeat' first | with_reducible intro _ | with_reducible assumption | with_reducible rfl | exact subParts hm (by decide) | with_reducible apply State.putSat_effect | with_reducible apply Effect.ite | split | dsimp only | exact bitParts hm (by decide) | exact bitOff hm (by decide) | rfl

theorem State.insHeard_effect {msk : Nat} {s0 : State} (s : State) (r : List Byte) (hm : 0x10000000000 &&& msk = 0x10000000000) (h_s : Effect msk s0 s) :
    Effect msk s0 (State.insHeard s r) := by
  unfold State.insHeard
  repeat' first | with_reducible intro _ | with_reducible assumption | with_reducible rfl | exact subParts hm (by decide) | with_reducible apply State.modFus_effect | with_reducible apply Effect.ite | split | dsimp only | rfl

theorem State.riserHeard_effect {msk : Nat} {s0 : State} (s : State) (r : List Byte) (hm : 0x10000000040 &&& msk = 0x10000000040) (h_s : Effect msk s0 s) :
    Effect msk s0 (State.riserHeard s r) := by
  unfold State.riserHeard
  repeat' first | with_reducible intro _ | with_reducible assumption | with_reducible rfl | exact subParts hm (by decide) | with_reducible apply State.modFus_effect | with_reducible apply State.setTo_effect | with_reducible apply Effect.ite | split | dsimp only | exact bitParts hm (by decide) | exact bitOff hm (by decide) | rfl

theorem State.intake_effect {msk : Nat} {s0 : State} (s : State) (r : List Byte) (hm : 0xc0100000c0040 &&& msk = 0xc0100000c0040) (h_s : Effect msk s0 s) :
    Effect msk s0 (State.intake s r) := by
  unfold State.intake
  repeat' first | with_reducible intro _ | with_reducible assumption | with_reducible rfl | exact subParts hm (by decide) | with_reducible apply State.riserHeard_effect | with_reducible apply State.insHeard_effect | with_reducible apply State.showIntake_effect | with_reducible apply State.modFus_effect | with_reducible apply State.raise_effect | with_reducible apply State.bump_effect | with_reducible apply State.setTo_effect | with_reducible apply Effect.ite | split | dsimp only | exact bitParts hm (by decide) | exact bitOff hm (by decide) | rfl

theorem State.discard_effect {msk : Nat} {s0 : State} (s : State) (rs : List (List Byte)) (hm : 0x10000000040 &&& msk = 0x10000000040) (h_s : Effect msk s0 s) :
    Effect msk s0 (State.discard s rs) := by
  unfold State.discard
  repeat' first | with_reducible intro _ | with_reducible assumption | with_reducible rfl | exact subParts hm (by decide) | with_reducible apply State.showIntake_effect | with_reducible apply State.modFus_effect | with_reducible apply Effect.ite | split | dsimp only | exact bitParts hm (by decide) | exact bitOff hm (by decide) | exact bitPlus hm (by decide) | exact bitKey hm (by decide) | rfl

theorem execIntakeRecord_effect {msk : Nat} {s0 : State} (bytes : List Byte) (s : State) (hm : 0xc0100000c0040 &&& msk = 0xc0100000c0040) (h_s : Effect msk s0 s) :
    EffectOut msk s0 (execIntakeRecord bytes s) := by
  unfold execIntakeRecord
  repeat' first | with_reducible intro _ | with_reducible assumption | with_reducible rfl | with_reducible refine EffectOut.gate ?_ ?_ | with_reducible refine EffectOut.next ?_ | exact subParts hm (by decide) | with_reducible apply State.intake_effect | with_reducible apply Effect.ite | split | dsimp only | rfl

end Sys2Proof.Machine
end

