-- ==== Sys2Proof/Laws/EffectRecorder.lean ====
section
/-! SUPPORT. What the operations of Machine/Recorder.lean do: the parts of the state that each may change. -/

set_option linter.unusedTactic false
set_option linter.unusedVariables false
set_option linter.unreachableTactic false

namespace Sys2Proof.Machine

theorem State.modAlm_effect {msk : Nat} {s0 : State} (s : State) (f : Almanac → Almanac) (hm : 0x8000000000000 &&& msk = 0x8000000000000) (h_s : Effect msk s0 s) :
    Effect msk s0 (State.modAlm s f) := by
  unfold State.modAlm
  repeat' first | with_reducible intro _ | with_reducible assumption | with_reducible rfl | with_reducible apply Effect.ite | split | dsimp only | with_reducible refine Effect.alm ?_ ?_ | exact bitParts hm (by decide) | rfl

theorem State.takeSlot_effect {msk : Nat} {s0 : State} (s : State) (h : HeldRec) (hm : 0x8000000080000 &&& msk = 0x8000000080000) (h_s : Effect msk s0 s) :
    Effect msk s0 (State.takeSlot s h) := by
  unfold State.takeSlot
  repeat' first | with_reducible intro _ | with_reducible assumption | with_reducible rfl | exact subParts hm (by decide) | with_reducible apply State.modAlm_effect | with_reducible apply State.wrn_effect | with_reducible apply Effect.ite | split | dsimp only | exact bitParts hm (by decide) | exact bitOff hm (by decide) | rfl

theorem State.overwrite_effect {msk : Nat} {s0 : State} (s : State) (e : RingRec) (hm : 0x8000000080000 &&& msk = 0x8000000080000) (h_s : Effect msk s0 s) :
    Effect msk s0 (State.overwrite s e) := by
  unfold State.overwrite
  repeat' first | with_reducible intro _ | with_reducible assumption | with_reducible rfl | exact subParts hm (by decide) | with_reducible apply State.modAlm_effect | with_reducible apply State.bump_effect | with_reducible apply Effect.ite | split | dsimp only | exact bitParts hm (by decide) | exact bitOff hm (by decide) | rfl

theorem State.dropRecord_effect {msk : Nat} {s0 : State} (s : State) (hm : 0xc0000000c0000 &&& msk = 0xc0000000c0000) (h_s : Effect msk s0 s) :
    Effect msk s0 (State.dropRecord s) := by
  unfold State.dropRecord
  repeat' first | with_reducible intro _ | with_reducible assumption | with_reducible rfl | exact subParts hm (by decide) | with_reducible apply State.raise1_effect | with_reducible apply State.bump_effect | with_reducible apply State.setTo_effect | with_reducible apply Effect.ite | split | dsimp only | exact bitParts hm (by decide) | exact bitOff hm (by decide) | rfl

theorem State.place_effect {msk : Nat} {s0 : State} (s : State) (h : HeldRec) (hm : 0xc0000000c0000 &&& msk = 0xc0000000c0000) (h_s : Effect msk s0 s) :
    Effect msk s0 (State.place s h) := by
  unfold State.place
  repeat' first | with_reducible intro _ | with_reducible assumption | with_reducible rfl | exact subParts hm (by decide) | with_reducible apply State.dropRecord_effect | with_reducible apply State.overwrite_effect | with_reducible apply State.takeSlot_effect | with_reducible apply Effect.ite | split | dsimp only | rfl

theorem State.releaseRec_effect {msk : Nat} {s0 : State} (s : State) (h : HeldRec) (hm : 0xc0000000c0000 &&& msk = 0xc0000000c0000) (h_s : Effect msk s0 s) :
    Effect msk s0 (State.releaseRec s h) := by
  unfold State.releaseRec
  repeat' first | with_reducible intro _ | with_reducible assumption | with_reducible rfl | exact subParts hm (by decide) | with_reducible apply State.place_effect | with_reducible apply State.modAlm_effect | with_reducible apply State.bump_effect | with_reducible apply Effect.ite | split | dsimp only | exact bitParts hm (by decide) | exact bitOff hm (by decide) | rfl

theorem State.releaseHead_effect {msk : Nat} {s0 : State} (s : State) (hm : 0xc0000000c0000 &&& msk = 0xc0000000c0000) (h_s : Effect msk s0 s) :
    Effect msk s0 (State.releaseHead s) := by
  unfold State.releaseHead
  repeat' first | with_reducible intro _ | with_reducible assumption | with_reducible rfl | exact subParts hm (by decide) | with_reducible apply State.releaseRec_effect | with_reducible apply State.modAlm_effect | with_reducible apply Effect.ite | split | dsimp only | rfl

theorem State.releaseAll_effect {msk : Nat} {s0 : State} (s : State) (hm : 0xc0000000c0000 &&& msk = 0xc0000000c0000) (h_s : Effect msk s0 s) :
    Effect msk s0 (State.releaseAll s) := by
  unfold State.releaseAll
  repeat' first | with_reducible intro _ | with_reducible assumption | with_reducible rfl | exact subParts hm (by decide) | with_reducible apply State.releaseHead_effect | with_reducible apply Effect.forEach | with_reducible apply Effect.ite | split | dsimp only | rfl

end Sys2Proof.Machine
end

