-- ==== Sys2Proof/Laws/EffectPtp.lean ====
section
/-! SUPPORT. What the operations of Machine/Ptp.lean do: the parts of the state that each may change. -/

set_option linter.unusedTactic false
set_option linter.unusedVariables false
set_option linter.unreachableTactic false

namespace Sys2Proof.Machine

theorem State.modTb_effect {msk : Nat} {s0 : State} (s : State) (f : TimeBase → TimeBase) (hm : 0x100000000000 &&& msk = 0x100000000000) (h_s : Effect msk s0 s) :
    Effect msk s0 (State.modTb s f) := by
  unfold State.modTb
  repeat' first | with_reducible intro _ | with_reducible assumption | with_reducible rfl | with_reducible apply Effect.ite | split | dsimp only | with_reducible refine Effect.tb ?_ ?_ | exact bitParts hm (by decide) | rfl

theorem State.showTb_effect {msk : Nat} {s0 : State} (s : State) (hm : 0x2000 &&& msk = 0x2000) (h_s : Effect msk s0 s) :
    Effect msk s0 (State.showTb s) := by
  unfold State.showTb
  repeat' first | with_reducible intro _ | with_reducible assumption | with_reducible rfl | exact subParts hm (by decide) | with_reducible apply State.setTo_effect | with_reducible apply State.wrn_effect | with_reducible apply Effect.ite | split | dsimp only | exact bitParts hm (by decide) | exact bitOff hm (by decide) | rfl

theorem State.freeRate_effect {msk : Nat} {s0 : State} (s : State) (hm : 0x100000000000 &&& msk = 0x100000000000) (h_s : Effect msk s0 s) :
    Effect msk s0 (State.freeRate s) := by
  unfold State.freeRate
  repeat' first | with_reducible intro _ | with_reducible assumption | with_reducible rfl | exact subParts hm (by decide) | with_reducible apply State.modTb_effect | with_reducible apply Effect.ite | split | dsimp only | exact bitParts hm (by decide) | exact bitOff hm (by decide) | exact bitPlus hm (by decide) | exact bitKey hm (by decide) | rfl

theorem State.newEpoch_effect {msk : Nat} {s0 : State} (s : State) (hm : 0xc0000000c0000 &&& msk = 0xc0000000c0000) (h_s : Effect msk s0 s) :
    Effect msk s0 (State.newEpoch s) := by
  unfold State.newEpoch
  repeat' first | with_reducible intro _ | with_reducible assumption | with_reducible rfl | exact subParts hm (by decide) | with_reducible apply State.releaseAll_effect | with_reducible apply Effect.ite | split | dsimp only | with_reducible refine Effect.alm ?_ ?_ | exact bitParts hm (by decide) | rfl

theorem State.moveTimers_effect {msk : Nat} {s0 : State} (s : State) (d : Int) (hm : 0x276fcc000000000 &&& msk = 0x276fcc000000000) (h_s : Effect msk s0 s) :
    Effect msk s0 (State.moveTimers s d) := by
  unfold State.moveTimers
  repeat' first | with_reducible intro _ | with_reducible assumption | with_reducible rfl | with_reducible exact .inr rfl | exact .inl (bitParts hm (by decide)) | with_reducible refine Effect.upd ?_ ?_ ?_ ?_ ?_ ?_ ?_ ?_ ?_ ?_ ?_ ?_ ?_ ?_ ?_ ?_ ?_ ?_ ?_ ?_ ?_ ?_ ?_ ?_ | exact subParts hm (by decide) | with_reducible apply State.post_effect | with_reducible apply Effect.ite | split | dsimp only | with_reducible refine Effect.ory ?_ ?_ | with_reducible refine Effect.red ?_ ?_ | with_reducible refine Effect.uart ?_ ?_ | with_reducible refine Effect.eth ?_ ?_ | with_reducible refine Effect.cdr ?_ ?_ | with_reducible refine Effect.can ?_ ?_ | with_reducible refine Effect.xl ?_ ?_ | with_reducible refine Effect.hif ?_ ?_ | with_reducible refine Effect.tb ?_ ?_ | with_reducible refine Effect.grd ?_ ?_ | with_reducible refine Effect.boot ?_ ?_ ?_ | with_reducible refine Effect.pow ?_ ?_ | exact bitParts hm (by decide) | rfl

theorem State.stepTime_effect {msk : Nat} {s0 : State} (s : State) (d : Int) (hm : 0x27efcc0000c0000 &&& msk = 0x27efcc0000c0000) (h_s : Effect msk s0 s) :
    Effect msk s0 (State.stepTime s d) := by
  unfold State.stepTime
  repeat' first | with_reducible intro _ | with_reducible assumption | with_reducible rfl | exact subParts hm (by decide) | with_reducible apply State.moveTimers_effect | with_reducible apply State.newEpoch_effect | with_reducible apply State.modTb_effect | with_reducible apply Effect.ite | split | dsimp only | exact bitParts hm (by decide) | exact bitOff hm (by decide) | exact bitPlus hm (by decide) | exact bitKey hm (by decide) | rfl

theorem State.applyStep_effect {msk : Nat} {s0 : State} (s : State) (d : Int) (hm : 0x27efcc0000c2000 &&& msk = 0x27efcc0000c2000) (h_s : Effect msk s0 s) :
    Effect msk s0 (State.applyStep s d) := by
  unfold State.applyStep
  repeat' first | with_reducible intro _ | with_reducible assumption | with_reducible rfl | exact subParts hm (by decide) | with_reducible apply State.stepTime_effect | with_reducible apply State.raiseStep_effect | with_reducible apply State.setTo_effect | with_reducible apply Effect.ite | split | dsimp only | exact bitParts hm (by decide) | exact bitOff hm (by decide) | exact bitPlus hm (by decide) | exact bitKey hm (by decide) | rfl

theorem State.applyFreeStep_effect {msk : Nat} {s0 : State} (s : State) (hm : 0x27efcc0000c2000 &&& msk = 0x27efcc0000c2000) (h_s : Effect msk s0 s) :
    Effect msk s0 (State.applyFreeStep s) := by
  unfold State.applyFreeStep
  repeat' first | with_reducible intro _ | with_reducible assumption | with_reducible rfl | exact subParts hm (by decide) | with_reducible apply State.applyStep_effect | with_reducible apply State.modTb_effect | with_reducible apply Effect.ite | split | dsimp only | rfl

theorem State.tick_effect {msk : Nat} {s0 : State} (s : State) (hm : 0x27efcc0000c2000 &&& msk = 0x27efcc0000c2000) (h_s : Effect msk s0 s) :
    Effect msk s0 (State.tick s) := by
  unfold State.tick
  repeat' first | with_reducible intro _ | with_reducible assumption | with_reducible rfl | exact subParts hm (by decide) | with_reducible apply State.applyFreeStep_effect | with_reducible apply State.freeRate_effect | with_reducible apply State.showTb_effect | with_reducible apply State.modTb_effect | with_reducible apply Effect.ite | split | dsimp only | exact bitParts hm (by decide) | exact bitOff hm (by decide) | exact bitPlus hm (by decide) | exact bitKey hm (by decide) | rfl

theorem State.runTo_effect {msk : Nat} {s0 : State} (s : State) (ns : Nat) (hm : 0x27efcc0000c2000 &&& msk = 0x27efcc0000c2000) (h_s : Effect msk s0 s) :
    Effect msk s0 (State.runTo s ns) := by
  unfold State.runTo
  repeat' first | with_reducible intro _ | with_reducible assumption | with_reducible rfl | exact subParts hm (by decide) | with_reducible apply State.applyFreeStep_effect | with_reducible apply State.freeRate_effect | with_reducible apply State.showTb_effect | with_reducible apply State.modTb_effect | with_reducible apply Effect.ite | split | dsimp only | exact bitParts hm (by decide) | exact bitOff hm (by decide) | exact bitPlus hm (by decide) | exact bitKey hm (by decide) | rfl

theorem State.lockedRate_effect {msk : Nat} {s0 : State} (s : State) (hm : 0x100000002000 &&& msk = 0x100000002000) (h_s : Effect msk s0 s) :
    Effect msk s0 (State.lockedRate s) := by
  unfold State.lockedRate
  repeat' first | with_reducible intro _ | with_reducible assumption | with_reducible rfl | exact subParts hm (by decide) | with_reducible apply State.showTb_effect | with_reducible apply State.modTb_effect | with_reducible apply Effect.ite | split | dsimp only | rfl

theorem State.takeStep_effect {msk : Nat} {s0 : State} (s : State) (cyc : Nat) (hm : 0x100000000000 &&& msk = 0x100000000000) (h_s : Effect msk s0 s) :
    Effect msk s0 (State.takeStep s cyc).2 := by
  unfold State.takeStep
  repeat' first | with_reducible intro _ | with_reducible assumption | with_reducible rfl | exact subParts hm (by decide) | with_reducible apply State.modTb_effect | with_reducible apply Effect.foldl | with_reducible apply Effect.ite | split | dsimp only | rfl

theorem State.stepGo_effect {msk : Nat} {s0 : State} (s : State) (hm : 0xc1000000c2000 &&& msk = 0xc1000000c2000) (h_s : Effect msk s0 s) :
    Effect msk s0 (State.stepGo s) := by
  unfold State.stepGo
  repeat' first | with_reducible intro _ | with_reducible assumption | with_reducible rfl | exact subParts hm (by decide) | with_reducible apply State.modTb_effect | with_reducible apply State.raise3_effect | with_reducible apply State.setTo_effect | with_reducible apply Effect.ite | split | dsimp only | exact bitParts hm (by decide) | exact bitOff hm (by decide) | rfl

theorem execStep_effect {msk : Nat} {s0 : State} (_req : Req) (s : State) (hm : 0xc1000000c2000 &&& msk = 0xc1000000c2000) (h_s : Effect msk s0 s) :
    EffectOut msk s0 (execStep _req s) := by
  unfold execStep
  repeat' first | with_reducible intro _ | with_reducible assumption | with_reducible rfl | with_reducible refine EffectOut.gate ?_ ?_ | with_reducible refine EffectOut.rooted ?_ ?_ | with_reducible refine EffectOut.reach ?_ ?_ | with_reducible refine EffectOut.next ?_ | exact subParts hm (by decide) | with_reducible apply State.stepGo_effect | with_reducible apply Effect.ite | split | dsimp only | exact bitParts hm (by decide) | exact bitOff hm (by decide) | exact bitPlus hm (by decide) | exact bitKey hm (by decide) | rfl

theorem State.slewGo_effect {msk : Nat} {s0 : State} (s : State) (hm : 0x100000002000 &&& msk = 0x100000002000) (h_s : Effect msk s0 s) :
    Effect msk s0 (State.slewGo s) := by
  unfold State.slewGo
  repeat' first | with_reducible intro _ | with_reducible assumption | with_reducible rfl | exact subParts hm (by decide) | with_reducible apply State.freeRate_effect | with_reducible apply State.showTb_effect | with_reducible apply State.modTb_effect | with_reducible apply Effect.ite | split | dsimp only | rfl

theorem execSlewGo_effect {msk : Nat} {s0 : State} (_req : Req) (s : State) (hm : 0x100000002000 &&& msk = 0x100000002000) (h_s : Effect msk s0 s) :
    EffectOut msk s0 (execSlewGo _req s) := by
  unfold execSlewGo
  repeat' first | with_reducible intro _ | with_reducible assumption | with_reducible rfl | with_reducible refine EffectOut.gate ?_ ?_ | with_reducible refine EffectOut.rooted ?_ ?_ | with_reducible refine EffectOut.reach ?_ ?_ | with_reducible refine EffectOut.next ?_ | exact subParts hm (by decide) | with_reducible apply State.slewGo_effect | with_reducible apply Effect.ite | split | dsimp only | exact bitParts hm (by decide) | exact bitOff hm (by decide) | exact bitPlus hm (by decide) | exact bitKey hm (by decide) | rfl

theorem execSlewDone_effect {msk : Nat} {s0 : State} (s : State) (hm : 0x100000002000 &&& msk = 0x100000002000) (h_s : Effect msk s0 s) :
    EffectOut msk s0 (execSlewDone s) := by
  unfold execSlewDone
  repeat' first | with_reducible intro _ | with_reducible assumption | with_reducible rfl | with_reducible refine EffectOut.gate ?_ ?_ | with_reducible refine EffectOut.rooted ?_ ?_ | with_reducible refine EffectOut.reach ?_ ?_ | with_reducible refine EffectOut.next ?_ | exact subParts hm (by decide) | with_reducible apply State.freeRate_effect | with_reducible apply State.showTb_effect | with_reducible apply Effect.ite | split | dsimp only | exact bitParts hm (by decide) | exact bitOff hm (by decide) | exact bitPlus hm (by decide) | exact bitKey hm (by decide) | rfl

theorem State.writeIncr_effect {msk : Nat} {s0 : State} (s : State) (v : Nat) (hm : 0x100000002000 &&& msk = 0x100000002000) (h_s : Effect msk s0 s) :
    Effect msk s0 (State.writeIncr s v) := by
  unfold State.writeIncr
  repeat' first | with_reducible intro _ | with_reducible assumption | with_reducible rfl | exact subParts hm (by decide) | with_reducible apply State.freeRate_effect | with_reducible apply State.showTb_effect | with_reducible apply State.wrn_effect | with_reducible apply Effect.ite | split | dsimp only | exact bitParts hm (by decide) | exact bitOff hm (by decide) | rfl

theorem execPtpIncr_effect {msk : Nat} {s0 : State} (_req : Req) (v : Word) (s : State) (hm : 0x100000002000 &&& msk = 0x100000002000) (h_s : Effect msk s0 s) :
    EffectOut msk s0 (execPtpIncr _req v s) := by
  unfold execPtpIncr
  repeat' first | with_reducible intro _ | with_reducible assumption | with_reducible rfl | with_reducible refine EffectOut.gate ?_ ?_ | with_reducible refine EffectOut.rooted ?_ ?_ | with_reducible refine EffectOut.reach ?_ ?_ | with_reducible refine EffectOut.next ?_ | exact subParts hm (by decide) | with_reducible apply State.writeIncr_effect | with_reducible apply Effect.ite | split | dsimp only | exact bitParts hm (by decide) | exact bitOff hm (by decide) | exact bitPlus hm (by decide) | exact bitKey hm (by decide) | rfl

theorem State.readTimeNs_effect {msk : Nat} {s0 : State} (s : State) (r : Req) (hm : 0x100000000000 &&& msk = 0x100000000000) (h_s : Effect msk s0 s) :
    Effect msk s0 (State.readTimeNs s r).2 := by
  unfold State.readTimeNs
  repeat' first | with_reducible intro _ | with_reducible assumption | with_reducible rfl | exact subParts hm (by decide) | with_reducible apply State.modTb_effect | with_reducible apply Effect.ite | split | dsimp only | rfl

theorem execPtpTimeNs_effect {msk : Nat} {s0 : State} (req : Req) (s : State) (hm : 0x100200000000 &&& msk = 0x100200000000) (h_s : Effect msk s0 s) :
    EffectOut msk s0 (execPtpTimeNs req s) := by
  unfold execPtpTimeNs
  repeat' first | with_reducible intro _ | with_reducible assumption | with_reducible rfl | with_reducible refine EffectOut.gate ?_ ?_ | with_reducible refine EffectOut.rooted ?_ ?_ | with_reducible refine EffectOut.reach ?_ ?_ | with_reducible refine EffectOut.next ?_ | exact subParts hm (by decide) | with_reducible apply State.readTimeNs_effect | with_reducible apply State.gateRead_effect | with_reducible apply Effect.ite | split | dsimp only | with_reducible refine Effect.readData ?_ ?_ | exact bitParts hm (by decide) | exact bitOff hm (by decide) | exact bitPlus hm (by decide) | exact bitKey hm (by decide) | rfl

theorem State.showLevel_effect {msk : Nat} {s0 : State} (s : State) (hm : 0x2000 &&& msk = 0x2000) (h_s : Effect msk s0 s) :
    Effect msk s0 (State.showLevel s) := by
  unfold State.showLevel
  repeat' first | with_reducible intro _ | with_reducible assumption | with_reducible rfl | exact subParts hm (by decide) | with_reducible apply State.put_effect | with_reducible apply Effect.ite | split | dsimp only | exact bitParts hm (by decide) | exact bitOff hm (by decide) | rfl

theorem State.pushStamp_effect {msk : Nat} {s0 : State} (s : State) (tsId port stamp : Nat) (hm : 0xc1000000c2000 &&& msk = 0xc1000000c2000) (h_s : Effect msk s0 s) :
    Effect msk s0 (State.pushStamp s tsId port stamp) := by
  unfold State.pushStamp
  repeat' first | with_reducible intro _ | with_reducible assumption | with_reducible rfl | exact subParts hm (by decide) | with_reducible apply State.showLevel_effect | with_reducible apply State.modTb_effect | with_reducible apply State.raise_effect | with_reducible apply State.bump_effect | with_reducible apply State.setTo_effect | with_reducible apply Effect.ite | split | dsimp only | exact bitParts hm (by decide) | exact bitOff hm (by decide) | exact bitPlus hm (by decide) | exact bitKey hm (by decide) | rfl

theorem State.readTxts0_effect {msk : Nat} {s0 : State} (s : State) (hm : 0x100000000000 &&& msk = 0x100000000000) (h_s : Effect msk s0 s) :
    Effect msk s0 (State.readTxts0 s).2 := by
  unfold State.readTxts0
  repeat' first | with_reducible intro _ | with_reducible assumption | with_reducible rfl | exact subParts hm (by decide) | with_reducible apply State.modTb_effect | with_reducible apply Effect.ite | split | dsimp only | rfl

theorem execPtpTxtsW0_effect {msk : Nat} {s0 : State} (_req : Req) (s : State) (hm : 0x100200000000 &&& msk = 0x100200000000) (h_s : Effect msk s0 s) :
    EffectOut msk s0 (execPtpTxtsW0 _req s) := by
  unfold execPtpTxtsW0
  repeat' first | with_reducible intro _ | with_reducible assumption | with_reducible rfl | with_reducible refine EffectOut.gate ?_ ?_ | with_reducible refine EffectOut.rooted ?_ ?_ | with_reducible refine EffectOut.reach ?_ ?_ | with_reducible refine EffectOut.next ?_ | exact subParts hm (by decide) | with_reducible apply State.readTxts0_effect | with_reducible apply State.gateRead_effect | with_reducible apply Effect.ite | split | dsimp only | with_reducible refine Effect.readData ?_ ?_ | exact bitParts hm (by decide) | exact bitOff hm (by decide) | exact bitPlus hm (by decide) | exact bitKey hm (by decide) | rfl

theorem State.readTxts1_effect {msk : Nat} {s0 : State} (s : State) (hm : 0x100000002000 &&& msk = 0x100000002000) (h_s : Effect msk s0 s) :
    Effect msk s0 (State.readTxts1 s).2 := by
  unfold State.readTxts1
  repeat' first | with_reducible intro _ | with_reducible assumption | with_reducible rfl | exact subParts hm (by decide) | with_reducible apply State.showLevel_effect | with_reducible apply State.modTb_effect | with_reducible apply Effect.ite | split | dsimp only | rfl

theorem execPtpTxtsW1_effect {msk : Nat} {s0 : State} (_req : Req) (s : State) (hm : 0x100200002000 &&& msk = 0x100200002000) (h_s : Effect msk s0 s) :
    EffectOut msk s0 (execPtpTxtsW1 _req s) := by
  unfold execPtpTxtsW1
  repeat' first | with_reducible intro _ | with_reducible assumption | with_reducible rfl | with_reducible refine EffectOut.gate ?_ ?_ | with_reducible refine EffectOut.rooted ?_ ?_ | with_reducible refine EffectOut.reach ?_ ?_ | with_reducible refine EffectOut.next ?_ | exact subParts hm (by decide) | with_reducible apply State.readTxts1_effect | with_reducible apply State.gateRead_effect | with_reducible apply Effect.ite | split | dsimp only | with_reducible refine Effect.readData ?_ ?_ | exact bitParts hm (by decide) | exact bitOff hm (by decide) | exact bitPlus hm (by decide) | exact bitKey hm (by decide) | rfl

theorem State.expireStamp_effect {msk : Nat} {s0 : State} (s : State) (hm : 0x27efcc0000c2000 &&& msk = 0x27efcc0000c2000) (h_s : Effect msk s0 s) :
    Effect msk s0 (State.expireStamp s) := by
  unfold State.expireStamp
  repeat' first | with_reducible intro _ | with_reducible assumption | with_reducible rfl | exact subParts hm (by decide) | with_reducible apply State.showLevel_effect | with_reducible apply State.runTo_effect | with_reducible apply State.modTb_effect | with_reducible apply State.raise_effect | with_reducible apply State.bump_effect | with_reducible apply State.setTo_effect | with_reducible apply Effect.ite | split | dsimp only | exact bitParts hm (by decide) | exact bitOff hm (by decide) | exact bitPlus hm (by decide) | exact bitKey hm (by decide) | rfl

theorem execTxtsExpiry_effect {msk : Nat} {s0 : State} (s : State) (hm : 0x27efcc0000c2000 &&& msk = 0x27efcc0000c2000) (h_s : Effect msk s0 s) :
    EffectOut msk s0 (execTxtsExpiry s) := by
  unfold execTxtsExpiry
  repeat' first | with_reducible intro _ | with_reducible assumption | with_reducible rfl | with_reducible refine EffectOut.gate ?_ ?_ | with_reducible refine EffectOut.rooted ?_ ?_ | with_reducible refine EffectOut.reach ?_ ?_ | with_reducible refine EffectOut.next ?_ | exact subParts hm (by decide) | with_reducible apply State.expireStamp_effect | with_reducible apply Effect.ite | split | dsimp only | exact bitParts hm (by decide) | exact bitOff hm (by decide) | exact bitPlus hm (by decide) | exact bitKey hm (by decide) | rfl

end Sys2Proof.Machine
end

