-- ==== Sys2Proof/Laws/EffectOrrery.lean ====
section
/-! SUPPORT. What the operations of Machine/Orrery.lean do: the parts of the state that each may change. -/

set_option linter.unusedTactic false
set_option linter.unusedVariables false
set_option linter.unreachableTactic false

namespace Sys2Proof.Machine

theorem State.modOry_effect {msk : Nat} {s0 : State} (s : State) (f : Orrery → Orrery) (hm : 0x40000000000000 &&& msk = 0x40000000000000) (h_s : Effect msk s0 s) :
    Effect msk s0 (State.modOry s f) := by
  unfold State.modOry
  repeat' first | with_reducible intro _ | with_reducible assumption | with_reducible rfl | with_reducible apply Effect.ite | split | dsimp only | with_reducible refine Effect.ory ?_ ?_ | exact bitParts hm (by decide) | rfl

theorem State.setPlan_effect {msk : Nat} {s0 : State} (s : State) (bs : List Byte) (hm : 0xc0000000c0080 &&& msk = 0xc0000000c0080) (h_s : Effect msk s0 s) :
    Effect msk s0 (State.setPlan s bs) := by
  unfold State.setPlan
  repeat' first | with_reducible intro _ | with_reducible assumption | with_reducible rfl | exact subParts hm (by decide) | with_reducible apply State.wrWords_effect | with_reducible apply State.wrn_effect | with_reducible apply Effect.ite | split | dsimp only | exact bitParts hm (by decide) | exact bitOff hm (by decide) | exact bitPlus hm (by decide) | exact bitKey hm (by decide) | rfl

theorem State.planCheck_effect {msk : Nat} {s0 : State} (s : State) (hm : 0x4c0000000c0080 &&& msk = 0x4c0000000c0080) (h_s : Effect msk s0 s) :
    Effect msk s0 (State.planCheck s) := by
  unfold State.planCheck
  repeat' first | with_reducible intro _ | with_reducible assumption | with_reducible rfl | exact subParts hm (by decide) | with_reducible apply State.setPlan_effect | with_reducible apply State.modOry_effect | with_reducible apply State.raise_effect | with_reducible apply State.setTo_effect | with_reducible apply Effect.ite | split | dsimp only | exact bitParts hm (by decide) | exact bitOff hm (by decide) | exact bitPlus hm (by decide) | exact bitKey hm (by decide) | rfl

theorem State.planCommit_effect {msk : Nat} {s0 : State} (s : State) (hm : 0x40000000000080 &&& msk = 0x40000000000080) (h_s : Effect msk s0 s) :
    Effect msk s0 (State.planCommit s) := by
  unfold State.planCommit
  repeat' first | with_reducible intro _ | with_reducible assumption | with_reducible rfl | exact subParts hm (by decide) | with_reducible apply State.modOry_effect | with_reducible apply State.setTo_effect | with_reducible apply Effect.ite | split | dsimp only | exact bitParts hm (by decide) | exact bitOff hm (by decide) | exact bitPlus hm (by decide) | exact bitKey hm (by decide) | rfl

theorem execPlanCommit_effect {msk : Nat} {s0 : State} (_req : Req) (s : State) (hm : 0x40000000000080 &&& msk = 0x40000000000080) (h_s : Effect msk s0 s) :
    EffectOut msk s0 (execPlanCommit _req s) := by
  unfold execPlanCommit
  repeat' first | with_reducible intro _ | with_reducible assumption | with_reducible rfl | with_reducible refine EffectOut.gate ?_ ?_ | with_reducible refine EffectOut.rooted ?_ ?_ | with_reducible refine EffectOut.reach ?_ ?_ | with_reducible refine EffectOut.next ?_ | exact subParts hm (by decide) | with_reducible apply State.planCommit_effect | with_reducible apply Effect.ite | split | dsimp only | exact bitParts hm (by decide) | exact bitOff hm (by decide) | exact bitPlus hm (by decide) | exact bitKey hm (by decide) | rfl

theorem State.setStruct_effect {msk : Nat} {s0 : State} (s : State) (eng ss : Nat) (st : Option Struct) (hm : 0x40000000000080 &&& msk = 0x40000000000080) (h_s : Effect msk s0 s) :
    Effect msk s0 (State.setStruct s eng ss st) := by
  unfold State.setStruct
  repeat' first | with_reducible intro _ | with_reducible assumption | with_reducible rfl | exact subParts hm (by decide) | with_reducible apply State.modOry_effect | with_reducible apply State.wrn_effect | with_reducible apply Effect.ite | split | dsimp only | exact bitParts hm (by decide) | exact bitOff hm (by decide) | rfl

theorem State.structLost_effect {msk : Nat} {s0 : State} (s : State) (eng ss : Nat) (hm : 0x4c0000000c0080 &&& msk = 0x4c0000000c0080) (h_s : Effect msk s0 s) :
    Effect msk s0 (State.structLost s eng ss) := by
  unfold State.structLost
  repeat' first | with_reducible intro _ | with_reducible assumption | with_reducible rfl | exact subParts hm (by decide) | with_reducible apply State.setStruct_effect | with_reducible apply State.raise1_effect | with_reducible apply State.setTo_effect | with_reducible apply State.put_effect | with_reducible apply Effect.ite | split | dsimp only | exact bitParts hm (by decide) | exact bitOff hm (by decide) | rfl

theorem execStructEccLost_effect {msk : Nat} {s0 : State} (eng : Fin 64) (ss : Fin 4) (s : State) (hm : 0x4c0000000c0080 &&& msk = 0x4c0000000c0080) (h_s : Effect msk s0 s) :
    EffectOut msk s0 (execStructEccLost eng ss s) := by
  unfold execStructEccLost
  repeat' first | with_reducible intro _ | with_reducible assumption | with_reducible rfl | with_reducible refine EffectOut.gate ?_ ?_ | with_reducible refine EffectOut.rooted ?_ ?_ | with_reducible refine EffectOut.reach ?_ ?_ | with_reducible refine EffectOut.next ?_ | exact subParts hm (by decide) | with_reducible apply State.structLost_effect | with_reducible apply Effect.ite | split | dsimp only | exact bitParts hm (by decide) | exact bitOff hm (by decide) | exact bitPlus hm (by decide) | exact bitKey hm (by decide) | rfl

theorem State.showOry_effect {msk : Nat} {s0 : State} (s : State) (hm : 0x80 &&& msk = 0x80) (h_s : Effect msk s0 s) :
    Effect msk s0 (State.showOry s) := by
  unfold State.showOry
  repeat' first | with_reducible intro _ | with_reducible assumption | with_reducible rfl | exact subParts hm (by decide) | with_reducible apply State.setTo_effect | with_reducible apply State.wrn_effect | with_reducible apply Effect.foldl | with_reducible apply Effect.ite | split | dsimp only | exact bitParts hm (by decide) | exact bitOff hm (by decide) | rfl

theorem State.takeSeq_effect {msk : Nat} {s0 : State} (s : State) (slot : Nat) (hm : 0x40000000000000 &&& msk = 0x40000000000000) (h_s : Effect msk s0 s) :
    Effect msk s0 (State.takeSeq s slot).2 := by
  unfold State.takeSeq
  repeat' first | with_reducible intro _ | with_reducible assumption | with_reducible rfl | exact subParts hm (by decide) | with_reducible apply State.modOry_effect | with_reducible apply Effect.ite | split | dsimp only | rfl

theorem State.countResult_effect {msk : Nat} {s0 : State} (s : State) (j : Job) (status flags : Nat) (hm : 0xc0000000c0080 &&& msk = 0xc0000000c0080) (h_s : Effect msk s0 s) :
    Effect msk s0 (State.countResult s j status flags) := by
  unfold State.countResult
  repeat' first | with_reducible intro _ | with_reducible assumption | with_reducible rfl | exact subParts hm (by decide) | with_reducible apply State.raiseIf_effect | with_reducible apply State.raise1_effect | with_reducible apply State.bump_effect | with_reducible apply State.setTo_effect | with_reducible apply Effect.ite | split | dsimp only | exact bitParts hm (by decide) | exact bitOff hm (by decide) | rfl

theorem State.putResult_effect {m : Nat} {s0 : State} (s : State) (j : Job) (r : JobRes) (hm : 0x4c0004000c0080 &&& m = 0x4c0004000c0080)
    (h_s : Effect m s0 s) : Effect m s0 (State.putResult s j r) := by
  unfold State.putResult
  extract_lets q r a b
  have hb : Effect m s0 b := State.modOry_effect _ _ (subParts hm (by decide)) (State.countResult_effect _ _ _ _
    (subParts hm (by decide)) (State.takeSeq_effect _ _ (subParts hm (by decide)) h_s))
  refine State.showOry_effect _ (subParts hm (by decide)) ?_
  exact Effect.sram (bitParts hm (by decide)) hb fun g => swf_writeBytes g _ _

theorem State.endEarly_effect {msk : Nat} {s0 : State} (s : State) (j : Job) (status sim grantOfs pred : Nat) (hm : 0x4c0004000c0080 &&& msk = 0x4c0004000c0080) (h_s : Effect msk s0 s) :
    Effect msk s0 (State.endEarly s j status sim grantOfs pred) := by
  unfold State.endEarly
  repeat' first | with_reducible intro _ | with_reducible assumption | with_reducible rfl | exact subParts hm (by decide) | with_reducible apply State.putResult_effect | with_reducible apply Effect.ite | split | dsimp only | exact bitParts hm (by decide) | exact bitOff hm (by decide) | exact bitPlus hm (by decide) | exact bitKey hm (by decide) | rfl

theorem State.postPair_effect {msk : Nat} {s0 : State} (s : State) (src : JobSrc) (d : JobDesc) (chain : Option (JobSrc × JobDesc)) (hm : 0x4c0004000c0080 &&& msk = 0x4c0004000c0080) (h_s : Effect msk s0 s) :
    Effect msk s0 (State.postPair s src d chain) := by
  unfold State.postPair
  repeat' first | with_reducible intro _ | with_reducible assumption | with_reducible rfl | exact subParts hm (by decide) | with_reducible apply State.endEarly_effect | with_reducible apply State.putResult_effect | with_reducible apply State.showOry_effect | with_reducible apply State.modOry_effect | with_reducible apply Effect.ite | split | dsimp only | exact bitParts hm (by decide) | exact bitOff hm (by decide) | exact bitPlus hm (by decide) | exact bitKey hm (by decide) | rfl

theorem State.postJob_effect {msk : Nat} {s0 : State} (s : State) (src : JobSrc) (d : JobDesc) (chain : Option JobDesc) (hm : 0x4c0004000c0080 &&& msk = 0x4c0004000c0080) (h_s : Effect msk s0 s) :
    Effect msk s0 (State.postJob s src d chain) := by
  unfold State.postJob
  repeat' first | with_reducible intro _ | with_reducible assumption | with_reducible rfl | exact subParts hm (by decide) | with_reducible apply State.postPair_effect | with_reducible apply Effect.ite | split | dsimp only | exact bitParts hm (by decide) | exact bitOff hm (by decide) | exact bitPlus hm (by decide) | exact bitKey hm (by decide) | rfl

theorem State.release_effect {msk : Nat} {s0 : State} (s : State) (slot : Nat) (hm : 0x27efcc0000c2000 &&& msk = 0x27efcc0000c2000) (h_s : Effect msk s0 s) :
    Effect msk s0 (State.release s slot) := by
  unfold State.release
  repeat' first | with_reducible intro _ | with_reducible assumption | with_reducible rfl | exact subParts hm (by decide) | with_reducible apply State.modOry_effect | with_reducible apply State.runTo_effect | with_reducible apply Effect.ite | split | dsimp only | rfl

theorem execJobRelease_effect {msk : Nat} {s0 : State} (slot : Fin 127) (s : State) (hm : 0x27efcc0000c2000 &&& msk = 0x27efcc0000c2000) (h_s : Effect msk s0 s) :
    EffectOut msk s0 (execJobRelease slot s) := by
  unfold execJobRelease
  repeat' first | with_reducible intro _ | with_reducible assumption | with_reducible rfl | with_reducible refine EffectOut.gate ?_ ?_ | with_reducible refine EffectOut.rooted ?_ ?_ | with_reducible refine EffectOut.reach ?_ ?_ | with_reducible refine EffectOut.next ?_ | exact subParts hm (by decide) | with_reducible apply State.release_effect | with_reducible apply Effect.ite | split | dsimp only | exact bitParts hm (by decide) | exact bitOff hm (by decide) | exact bitPlus hm (by decide) | exact bitKey hm (by decide) | rfl

theorem State.unqueue_effect {msk : Nat} {s0 : State} (s : State) (j : Job) (hm : 0x40000000000000 &&& msk = 0x40000000000000) (h_s : Effect msk s0 s) :
    Effect msk s0 (State.unqueue s j) := by
  unfold State.unqueue
  repeat' first | with_reducible intro _ | with_reducible assumption | with_reducible rfl | exact subParts hm (by decide) | with_reducible apply State.modOry_effect | with_reducible apply Effect.ite | split | dsimp only | rfl

theorem State.applySim_effect {msk : Nat} {s0 : State} (s : State) (j : Job) (hm : 0x40000000000080 &&& msk = 0x40000000000080) (h_s : Effect msk s0 s) :
    Effect msk s0 (State.applySim s j) := by
  unfold State.applySim
  repeat' first | with_reducible intro _ | with_reducible assumption | with_reducible rfl | exact subParts hm (by decide) | with_reducible apply State.setStruct_effect | with_reducible apply Effect.ite | split | dsimp only | exact bitParts hm (by decide) | exact bitOff hm (by decide) | exact bitPlus hm (by decide) | exact bitKey hm (by decide) | rfl

theorem State.grantJob_effect {msk : Nat} {s0 : State} (s : State) (j : Job) (mate : Option Job) (hm : 0x4c0004000c0080 &&& msk = 0x4c0004000c0080) (h_s : Effect msk s0 s) :
    Effect msk s0 (State.grantJob s j mate) := by
  unfold State.grantJob
  repeat' first | with_reducible intro _ | with_reducible assumption | with_reducible rfl | exact subParts hm (by decide) | with_reducible apply State.applySim_effect | with_reducible apply State.unqueue_effect | with_reducible apply State.endEarly_effect | with_reducible apply State.showOry_effect | with_reducible apply State.modOry_effect | with_reducible apply Effect.ite | split | dsimp only | exact bitParts hm (by decide) | exact bitOff hm (by decide) | exact bitPlus hm (by decide) | exact bitKey hm (by decide) | rfl

theorem State.dropRun_effect {msk : Nat} {s0 : State} (s : State) (eng : Nat) (hm : 0x40000000000080 &&& msk = 0x40000000000080) (h_s : Effect msk s0 s) :
    Effect msk s0 (State.dropRun s eng) := by
  unfold State.dropRun
  repeat' first | with_reducible intro _ | with_reducible assumption | with_reducible rfl | exact subParts hm (by decide) | with_reducible apply State.showOry_effect | with_reducible apply State.modOry_effect | with_reducible apply Effect.ite | split | dsimp only | rfl

theorem State.endPass2_effect {msk : Nat} {s0 : State} (s : State) (r : Run) (n ecc : Nat) (hm : 0x4c0004000c0080 &&& msk = 0x4c0004000c0080) (h_s : Effect msk s0 s) :
    Effect msk s0 (State.endPass2 s r n ecc) := by
  unfold State.endPass2
  repeat' first | with_reducible intro _ | with_reducible assumption | with_reducible rfl | exact subParts hm (by decide) | with_reducible apply State.dropRun_effect | with_reducible apply State.putResult_effect | with_reducible apply Effect.ite | split | dsimp only | exact bitParts hm (by decide) | exact bitOff hm (by decide) | exact bitPlus hm (by decide) | exact bitKey hm (by decide) | rfl

theorem State.grantPair_effect {msk : Nat} {s0 : State} (s : State) (j k : Job) (hm : 0x4c0004000c0080 &&& msk = 0x4c0004000c0080) (h_s : Effect msk s0 s) :
    Effect msk s0 (State.grantPair s j k) := by
  unfold State.grantPair
  repeat' first | with_reducible intro _ | with_reducible assumption | with_reducible rfl | exact subParts hm (by decide) | with_reducible apply State.endPass2_effect | with_reducible apply State.grantJob_effect | with_reducible apply Effect.ite | split | dsimp only | exact bitParts hm (by decide) | exact bitOff hm (by decide) | exact bitPlus hm (by decide) | exact bitKey hm (by decide) | rfl

theorem State.grant_effect {msk : Nat} {s0 : State} (s : State) (eng : Nat) (hm : 0x4c0004000c0080 &&& msk = 0x4c0004000c0080) (h_s : Effect msk s0 s) :
    Effect msk s0 (State.grant s eng) := by
  unfold State.grant
  repeat' first | with_reducible intro _ | with_reducible assumption | with_reducible rfl | exact subParts hm (by decide) | with_reducible apply State.grantPair_effect | with_reducible apply State.grantJob_effect | with_reducible apply Effect.ite | split | dsimp only | exact bitParts hm (by decide) | exact bitOff hm (by decide) | exact bitPlus hm (by decide) | exact bitKey hm (by decide) | rfl

theorem State.chainNext_effect {msk : Nat} {s0 : State} (s : State) (r : Run) (qp : JobOut) (hm : 0x4c0004000c0080 &&& msk = 0x4c0004000c0080) (h_s : Effect msk s0 s) :
    Effect msk s0 (State.chainNext s r qp) := by
  unfold State.chainNext
  repeat' first | with_reducible intro _ | with_reducible assumption | with_reducible rfl | exact subParts hm (by decide) | with_reducible apply State.putResult_effect | with_reducible apply State.showOry_effect | with_reducible apply State.modOry_effect | with_reducible apply Effect.ite | split | dsimp only | exact bitParts hm (by decide) | exact bitOff hm (by decide) | exact bitPlus hm (by decide) | exact bitKey hm (by decide) | rfl

theorem State.eccSeen_effect {msk : Nat} {s0 : State} (s : State) (eng corr : Nat) (hm : 0x80 &&& msk = 0x80) (h_s : Effect msk s0 s) :
    Effect msk s0 (State.eccSeen s eng corr) := by
  unfold State.eccSeen
  repeat' first | with_reducible intro _ | with_reducible assumption | with_reducible rfl | exact subParts hm (by decide) | with_reducible apply State.bump_effect | with_reducible apply State.put_effect | with_reducible apply Effect.ite | split | dsimp only | exact bitParts hm (by decide) | exact bitOff hm (by decide) | rfl

theorem State.giveBlock_effect {msk : Nat} {s0 : State} (s : State) (r : Run) (st : Struct) (hm : 0x40000000000000 &&& msk = 0x40000000000000) (h_s : Effect msk s0 s) :
    Effect msk s0 (State.giveBlock s r st) := by
  unfold State.giveBlock
  repeat' first | with_reducible intro _ | with_reducible assumption | with_reducible rfl | exact subParts hm (by decide) | with_reducible apply State.modOry_effect | with_reducible apply Effect.ite | split | dsimp only | rfl

theorem State.copyFactor_effect {msk : Nat} {s0 : State} (s : State) (r : Run) (u : List Nat) (cyc : Nat) (hm : 0x40000000000080 &&& msk = 0x40000000000080) (h_s : Effect msk s0 s) :
    Effect msk s0 (State.copyFactor s r u cyc) := by
  unfold State.copyFactor
  repeat' first | with_reducible intro _ | with_reducible assumption | with_reducible rfl | exact subParts hm (by decide) | with_reducible apply State.setStruct_effect | with_reducible apply Effect.ite | split | dsimp only | exact bitParts hm (by decide) | exact bitOff hm (by decide) | exact bitPlus hm (by decide) | exact bitKey hm (by decide) | rfl

theorem State.freeEcc_effect {msk : Nat} {s0 : State} (s : State) (eng : Nat) (hm : 0x400000000000080 &&& msk = 0x400000000000080) (h_s : Effect msk s0 s) :
    Effect msk s0 (State.freeEcc s eng).2 := by
  unfold State.freeEcc
  repeat' first | with_reducible intro _ | with_reducible assumption | with_reducible rfl | exact subParts hm (by decide) | with_reducible apply State.eccSeen_effect | with_reducible apply State.nextFree_effect | with_reducible apply Effect.ite | split | dsimp only | exact bitParts hm (by decide) | exact bitOff hm (by decide) | exact bitPlus hm (by decide) | exact bitKey hm (by decide) | rfl

theorem State.endMate_effect {msk : Nat} {s0 : State} (s : State) (mate : Option Run) (hm : 0x44c0004000c0080 &&& msk = 0x44c0004000c0080) (h_s : Effect msk s0 s) :
    Effect msk s0 (State.endMate s mate) := by
  unfold State.endMate
  repeat' first | with_reducible intro _ | with_reducible assumption | with_reducible rfl | exact subParts hm (by decide) | with_reducible apply State.endPass2_effect | with_reducible apply State.freeEcc_effect | with_reducible apply State.nextFree_effect | with_reducible apply Effect.ite | split | dsimp only | exact bitParts hm (by decide) | exact bitOff hm (by decide) | exact bitPlus hm (by decide) | exact bitKey hm (by decide) | rfl

theorem State.afterPass2_effect {msk : Nat} {s0 : State} (s : State) (r : Run) (st : Struct) (o : JobOut) (hm : 0x44c0004000c0080 &&& msk = 0x44c0004000c0080) (h_s : Effect msk s0 s) :
    Effect msk s0 (State.afterPass2 s r st o) := by
  unfold State.afterPass2
  repeat' first | with_reducible intro _ | with_reducible assumption | with_reducible rfl | exact subParts hm (by decide) | with_reducible apply State.endMate_effect | with_reducible apply State.copyFactor_effect | with_reducible apply State.giveBlock_effect | with_reducible apply Effect.ite | split | dsimp only | exact bitParts hm (by decide) | exact bitOff hm (by decide) | exact bitPlus hm (by decide) | exact bitKey hm (by decide) | rfl

theorem State.endRun_effect {msk : Nat} {s0 : State} (s : State) (r : Run) (stop : Option StopAt) (corr : Nat) (hm : 0x44c0004000c0080 &&& msk = 0x44c0004000c0080) (h_s : Effect msk s0 s) :
    Effect msk s0 (State.endRun s r stop corr) := by
  unfold State.endRun
  repeat' first | with_reducible intro _ | with_reducible assumption | with_reducible rfl | exact subParts hm (by decide) | with_reducible apply State.afterPass2_effect | with_reducible apply State.eccSeen_effect | with_reducible apply State.chainNext_effect | with_reducible apply State.dropRun_effect | with_reducible apply State.putResult_effect | with_reducible apply State.setStruct_effect | with_reducible apply Effect.ite | split | dsimp only | exact bitParts hm (by decide) | exact bitOff hm (by decide) | exact bitPlus hm (by decide) | exact bitKey hm (by decide) | rfl

theorem State.jobResult_effect {msk : Nat} {s0 : State} (s : State) (eng corr : Nat) (hm : 0x67efcc4000c2080 &&& msk = 0x67efcc4000c2080) (h_s : Effect msk s0 s) :
    Effect msk s0 (State.jobResult s eng corr) := by
  unfold State.jobResult
  repeat' first | with_reducible intro _ | with_reducible assumption | with_reducible rfl | exact subParts hm (by decide) | with_reducible apply State.endRun_effect | with_reducible apply State.runTo_effect | with_reducible apply State.nextFree_effect | with_reducible apply Effect.ite | split | dsimp only | exact bitParts hm (by decide) | exact bitOff hm (by decide) | exact bitPlus hm (by decide) | exact bitKey hm (by decide) | rfl

theorem State.runDeadline_effect {msk : Nat} {s0 : State} (s : State) (r : Run) (stop : StopAt) (corr : Nat) (hm : 0x67efcc4000c2080 &&& msk = 0x67efcc4000c2080) (h_s : Effect msk s0 s) :
    Effect msk s0 (State.runDeadline s r stop corr) := by
  unfold State.runDeadline
  repeat' first | with_reducible intro _ | with_reducible assumption | with_reducible rfl | exact subParts hm (by decide) | with_reducible apply State.endRun_effect | with_reducible apply State.endMate_effect | with_reducible apply State.endPass2_effect | with_reducible apply State.eccSeen_effect | with_reducible apply State.dropRun_effect | with_reducible apply State.putResult_effect | with_reducible apply State.runTo_effect | with_reducible apply Effect.ite | split | dsimp only | exact bitParts hm (by decide) | exact bitOff hm (by decide) | exact bitPlus hm (by decide) | exact bitKey hm (by decide) | rfl

theorem State.waitDeadline_effect {msk : Nat} {s0 : State} (s : State) (j : Job) (hm : 0x27efcc4000c2080 &&& msk = 0x27efcc4000c2080) (h_s : Effect msk s0 s) :
    Effect msk s0 (State.waitDeadline s j) := by
  unfold State.waitDeadline
  repeat' first | with_reducible intro _ | with_reducible assumption | with_reducible rfl | exact subParts hm (by decide) | with_reducible apply State.unqueue_effect | with_reducible apply State.endEarly_effect | with_reducible apply State.runTo_effect | with_reducible apply Effect.ite | split | dsimp only | exact bitParts hm (by decide) | exact bitOff hm (by decide) | exact bitPlus hm (by decide) | exact bitKey hm (by decide) | rfl

theorem State.jobDeadline_effect {msk : Nat} {s0 : State} (s : State) (slot : Nat) (stop : StopAt) (corr : Nat) (hm : 0x67efcc4000c2080 &&& msk = 0x67efcc4000c2080) (h_s : Effect msk s0 s) :
    Effect msk s0 (State.jobDeadline s slot stop corr) := by
  unfold State.jobDeadline
  repeat' first | with_reducible intro _ | with_reducible assumption | with_reducible rfl | exact subParts hm (by decide) | with_reducible apply State.waitDeadline_effect | with_reducible apply State.runDeadline_effect | with_reducible apply Effect.ite | split | dsimp only | exact bitParts hm (by decide) | exact bitOff hm (by decide) | exact bitPlus hm (by decide) | exact bitKey hm (by decide) | rfl

theorem State.abortRun_effect {msk : Nat} {s0 : State} (s : State) (r : Run) (hm : 0x44c0004000c0080 &&& msk = 0x44c0004000c0080) (h_s : Effect msk s0 s) :
    Effect msk s0 (State.abortRun s r) := by
  unfold State.abortRun
  repeat' first | with_reducible intro _ | with_reducible assumption | with_reducible rfl | exact subParts hm (by decide) | with_reducible apply State.grant_effect | with_reducible apply State.freeEcc_effect | with_reducible apply State.dropRun_effect | with_reducible apply State.putResult_effect | with_reducible apply State.setStruct_effect | with_reducible apply State.nextFree_effect | with_reducible apply Effect.ite | split | dsimp only | exact bitParts hm (by decide) | exact bitOff hm (by decide) | exact bitPlus hm (by decide) | exact bitKey hm (by decide) | rfl

theorem State.abortJobs_effect {msk : Nat} {s0 : State} (s : State) (p : Job → Bool) (hm : 0x44c0004000c0080 &&& msk = 0x44c0004000c0080) (h_s : Effect msk s0 s) :
    Effect msk s0 (State.abortJobs s p) := by
  unfold State.abortJobs
  repeat' first | with_reducible intro _ | with_reducible assumption | with_reducible rfl | exact subParts hm (by decide) | with_reducible apply State.abortRun_effect | with_reducible apply State.endMate_effect | with_reducible apply State.unqueue_effect | with_reducible apply State.endEarly_effect | with_reducible apply Effect.forEach | with_reducible apply Effect.ite | split | dsimp only | exact bitParts hm (by decide) | exact bitOff hm (by decide) | exact bitPlus hm (by decide) | exact bitKey hm (by decide) | rfl

theorem State.quadDown_effect {msk : Nat} {s0 : State} (s : State) (q : Nat) (was : Bool) (hm : 0x44c0004000c0084 &&& msk = 0x44c0004000c0084) (h_s : Effect msk s0 s) :
    Effect msk s0 (State.quadDown s q was) := by
  unfold State.quadDown
  repeat' first | with_reducible intro _ | with_reducible assumption | with_reducible rfl | exact subParts hm (by decide) | with_reducible apply State.abortJobs_effect | with_reducible apply State.modOry_effect | with_reducible apply State.showOry_effect | with_reducible apply State.setStruct_effect | with_reducible apply State.raise1_effect | with_reducible apply State.put_effect | with_reducible apply Effect.forEach | with_reducible apply Effect.ite | split | dsimp only | exact bitParts hm (by decide) | exact bitOff hm (by decide) | exact bitPlus hm (by decide) | exact bitKey hm (by decide) | rfl

theorem State.quadUp_effect {msk : Nat} {s0 : State} (s : State) (q : Nat) (hm : 0xc0000000c0080 &&& msk = 0xc0000000c0080) (h_s : Effect msk s0 s) :
    Effect msk s0 (State.quadUp s q) := by
  unfold State.quadUp
  repeat' first | with_reducible intro _ | with_reducible assumption | with_reducible rfl | exact subParts hm (by decide) | with_reducible apply State.showOry_effect | with_reducible apply State.raise1_effect | with_reducible apply State.put_effect | with_reducible apply Effect.ite | split | dsimp only | exact bitParts hm (by decide) | exact bitOff hm (by decide) | rfl

theorem State.hostAbort_effect {msk : Nat} {s0 : State} (s : State) (hm : 0x44c0004000c0080 &&& msk = 0x44c0004000c0080) (h_s : Effect msk s0 s) :
    Effect msk s0 (State.hostAbort s) := by
  unfold State.hostAbort
  repeat' first | with_reducible intro _ | with_reducible assumption | with_reducible rfl | exact subParts hm (by decide) | with_reducible apply State.abortJobs_effect | with_reducible apply State.setTo_effect | with_reducible apply Effect.ite | split | dsimp only | exact bitParts hm (by decide) | exact bitOff hm (by decide) | rfl

end Sys2Proof.Machine
end

