-- ==== Sys2Proof/Laws/EffectFusion.lean ====
section
/-! SUPPORT. What the operations of Machine/Fusion.lean do: the parts of the state that each may change. -/

set_option linter.unusedTactic false
set_option linter.unusedVariables false
set_option linter.unreachableTactic false

namespace Sys2Proof.Machine

theorem State.fsGo_effect {msk : Nat} {s0 : State} (s : State) (f : Nat) (hm : 0x40 &&& msk = 0x40) (h_s : Effect msk s0 s) :
    Effect msk s0 (State.fsGo s f) := by
  unfold State.fsGo
  repeat' first | with_reducible intro _ | with_reducible assumption | with_reducible rfl | exact subParts hm (by decide) | with_reducible apply State.put_effect | with_reducible apply Effect.ite | split | dsimp only | exact bitParts hm (by decide) | exact bitOff hm (by decide) | rfl

theorem State.fusInit_effect {msk : Nat} {s0 : State} (s : State) (hm : 0x10000000040 &&& msk = 0x10000000040) (h_s : Effect msk s0 s) :
    Effect msk s0 (State.fusInit s) := by
  unfold State.fusInit
  repeat' first | with_reducible intro _ | with_reducible assumption | with_reducible rfl | exact subParts hm (by decide) | with_reducible apply State.fsGo_effect | with_reducible apply State.modFus_effect | with_reducible apply State.setTo_effect | with_reducible apply Effect.ite | split | dsimp only | exact bitParts hm (by decide) | exact bitOff hm (by decide) | exact bitPlus hm (by decide) | exact bitKey hm (by decide) | rfl

theorem State.fusSample_effect {msk : Nat} {s0 : State} (s : State) (hm : 0x10000000040 &&& msk = 0x10000000040) (h_s : Effect msk s0 s) :
    Effect msk s0 (State.fusSample s) := by
  unfold State.fusSample
  repeat' first | with_reducible intro _ | with_reducible assumption | with_reducible rfl | exact subParts hm (by decide) | with_reducible apply State.fusInit_effect | with_reducible apply State.fsGo_effect | with_reducible apply State.modFus_effect | with_reducible apply State.setTo_effect | with_reducible apply Effect.ite | split | dsimp only | exact bitParts hm (by decide) | exact bitOff hm (by decide) | rfl

theorem execFusEnable_effect {msk : Nat} {s0 : State} (_req : Req) (s : State) (hm : 0x40 &&& msk = 0x40) (h_s : Effect msk s0 s) :
    EffectOut msk s0 (execFusEnable _req s) := by
  unfold execFusEnable
  repeat' first | with_reducible intro _ | with_reducible assumption | with_reducible rfl | with_reducible refine EffectOut.gate ?_ ?_ | with_reducible refine EffectOut.next ?_ | exact subParts hm (by decide) | with_reducible apply State.setTo_effect | with_reducible apply Effect.ite | split | dsimp only | exact bitParts hm (by decide) | exact bitOff hm (by decide) | rfl

theorem execResetFilter_effect {msk : Nat} {s0 : State} (_req : Req) (s : State) (hm : 0x10000000040 &&& msk = 0x10000000040) (h_s : Effect msk s0 s) :
    EffectOut msk s0 (execResetFilter _req s) := by
  unfold execResetFilter
  repeat' first | with_reducible intro _ | with_reducible assumption | with_reducible rfl | with_reducible refine EffectOut.gate ?_ ?_ | with_reducible refine EffectOut.next ?_ | exact subParts hm (by decide) | with_reducible apply State.modFus_effect | with_reducible apply State.setTo_effect | with_reducible apply Effect.ite | split | dsimp only | exact bitParts hm (by decide) | exact bitOff hm (by decide) | rfl

theorem State.setReticle_effect {msk : Nat} {s0 : State} (s : State) (bs : List Byte) (hm : 0x40 &&& msk = 0x40) (h_s : Effect msk s0 s) :
    Effect msk s0 (State.setReticle s bs) := by
  unfold State.setReticle
  repeat' first | with_reducible intro _ | with_reducible assumption | with_reducible rfl | exact subParts hm (by decide) | with_reducible apply State.wrWords_effect | with_reducible apply State.wrn_effect | with_reducible apply Effect.ite | split | dsimp only | exact bitParts hm (by decide) | exact bitOff hm (by decide) | rfl

theorem State.retCommit_effect {msk : Nat} {s0 : State} (s : State) (hm : 0x10000000040 &&& msk = 0x10000000040) (h_s : Effect msk s0 s) :
    Effect msk s0 (State.retCommit s) := by
  unfold State.retCommit
  repeat' first | with_reducible intro _ | with_reducible assumption | with_reducible rfl | exact subParts hm (by decide) | with_reducible apply State.modFus_effect | with_reducible apply State.setTo_effect | with_reducible apply Effect.ite | split | dsimp only | exact bitParts hm (by decide) | exact bitOff hm (by decide) | exact bitPlus hm (by decide) | exact bitKey hm (by decide) | rfl

theorem State.reticleCheck_effect {msk : Nat} {s0 : State} (s : State) (hm : 0xc0100000c0040 &&& msk = 0xc0100000c0040) (h_s : Effect msk s0 s) :
    Effect msk s0 (State.reticleCheck s) := by
  unfold State.reticleCheck
  repeat' first | with_reducible intro _ | with_reducible assumption | with_reducible rfl | exact subParts hm (by decide) | with_reducible apply State.setReticle_effect | with_reducible apply State.modFus_effect | with_reducible apply State.raise_effect | with_reducible apply State.setTo_effect | with_reducible apply Effect.ite | split | dsimp only | exact bitParts hm (by decide) | exact bitOff hm (by decide) | exact bitPlus hm (by decide) | exact bitKey hm (by decide) | rfl

theorem execRetCommit_effect {msk : Nat} {s0 : State} (_req : Req) (s : State) (hm : 0x10000000040 &&& msk = 0x10000000040) (h_s : Effect msk s0 s) :
    EffectOut msk s0 (execRetCommit _req s) := by
  unfold execRetCommit
  repeat' first | with_reducible intro _ | with_reducible assumption | with_reducible rfl | with_reducible refine EffectOut.gate ?_ ?_ | with_reducible refine EffectOut.rooted ?_ ?_ | with_reducible refine EffectOut.reach ?_ ?_ | with_reducible refine EffectOut.next ?_ | exact subParts hm (by decide) | with_reducible apply State.retCommit_effect | with_reducible apply Effect.ite | split | dsimp only | exact bitParts hm (by decide) | exact bitOff hm (by decide) | exact bitPlus hm (by decide) | exact bitKey hm (by decide) | rfl

theorem State.datumCommit_effect {msk : Nat} {s0 : State} (s : State) (hm : 0x10000000040 &&& msk = 0x10000000040) (h_s : Effect msk s0 s) :
    Effect msk s0 (State.datumCommit s) := by
  unfold State.datumCommit
  repeat' first | with_reducible intro _ | with_reducible assumption | with_reducible rfl | exact subParts hm (by decide) | with_reducible apply State.modFus_effect | with_reducible apply State.setTo_effect | with_reducible apply Effect.ite | split | dsimp only | exact bitParts hm (by decide) | exact bitOff hm (by decide) | exact bitPlus hm (by decide) | exact bitKey hm (by decide) | rfl

theorem State.datumApply_effect {msk : Nat} {s0 : State} (s : State) (hm : 0x8c0100000c0040 &&& msk = 0x8c0100000c0040) (h_s : Effect msk s0 s) :
    Effect msk s0 (State.datumApply s) := by
  unfold State.datumApply
  repeat' first | with_reducible intro _ | with_reducible assumption | with_reducible rfl | exact subParts hm (by decide) | with_reducible apply State.modFus_effect | with_reducible apply State.raise_effect | with_reducible apply State.setTo_effect | with_reducible apply Effect.ite | split | dsimp only | with_reducible refine Effect.ctl ?_ ?_ | exact bitParts hm (by decide) | exact bitOff hm (by decide) | exact bitPlus hm (by decide) | exact bitKey hm (by decide) | rfl

theorem execDatumCommit_effect {msk : Nat} {s0 : State} (_req : Req) (s : State) (hm : 0x10000000040 &&& msk = 0x10000000040) (h_s : Effect msk s0 s) :
    EffectOut msk s0 (execDatumCommit _req s) := by
  unfold execDatumCommit
  repeat' first | with_reducible intro _ | with_reducible assumption | with_reducible rfl | with_reducible refine EffectOut.gate ?_ ?_ | with_reducible refine EffectOut.rooted ?_ ?_ | with_reducible refine EffectOut.reach ?_ ?_ | with_reducible refine EffectOut.next ?_ | exact subParts hm (by decide) | with_reducible apply State.datumCommit_effect | with_reducible apply Effect.ite | split | dsimp only | exact bitParts hm (by decide) | exact bitOff hm (by decide) | exact bitPlus hm (by decide) | exact bitKey hm (by decide) | rfl

theorem slotFld_blk (slot : Nat) : (slotFld slot).off / 0x10000 % 32 = 6 := by unfold slotFld; split <;> (dsimp only; decide)

theorem State.setSlot_effect {m : Nat} {s0 : State} (s : State) (slot v : Nat) (hm : 0xc0000000c0040 &&& m = 0xc0000000c0040) (h_s : Effect m s0 s) :
    Effect m s0 (State.setSlot s slot v) := by
  unfold State.setSlot
  refine Effect.ite (State.raise1_effect _ _ _ _ _ (subParts hm (by decide)) (State.put_effect _ _ _ ?_ h_s)) h_s
  rw [slotFld_blk]; exact bitParts hm (by decide)

theorem State.dropStale_effect {msk : Nat} {s0 : State} (r : FusRec) (s : State) (hm : 0x40 &&& msk = 0x40) (h_s : Effect msk s0 s) :
    Effect msk s0 (State.dropStale r s) := by
  unfold State.dropStale
  repeat' first | with_reducible intro _ | with_reducible assumption | with_reducible rfl | exact subParts hm (by decide) | with_reducible apply State.bump_effect | with_reducible apply State.setTo_effect | with_reducible apply Effect.ite | split | dsimp only | exact bitParts hm (by decide) | exact bitOff hm (by decide) | exact bitPlus hm (by decide) | exact bitKey hm (by decide) | rfl

theorem State.countLate_effect {msk : Nat} {s0 : State} (r : FusRec) (s : State) (hm : 0x40 &&& msk = 0x40) (h_s : Effect msk s0 s) :
    Effect msk s0 (State.countLate r s) := by
  unfold State.countLate
  repeat' first | with_reducible intro _ | with_reducible assumption | with_reducible rfl | exact subParts hm (by decide) | with_reducible apply State.bump_effect | with_reducible apply Effect.ite | split | dsimp only | exact bitParts hm (by decide) | exact bitOff hm (by decide) | exact bitPlus hm (by decide) | exact bitKey hm (by decide) | rfl

theorem State.takeIncs_effect {msk : Nat} {s0 : State} (s : State) (t0 : Nat) (upto : Int) (hm : 0x10000000040 &&& msk = 0x10000000040) (h_s : Effect msk s0 s) :
    Effect msk s0 (State.takeIncs s t0 upto) := by
  unfold State.takeIncs
  repeat' first | with_reducible intro _ | with_reducible assumption | with_reducible rfl | exact subParts hm (by decide) | with_reducible apply State.countLate_effect | with_reducible apply State.dropStale_effect | with_reducible apply State.showIntake_effect | with_reducible apply State.modFus_effect | with_reducible apply Effect.forEach | with_reducible apply Effect.ite | split | dsimp only | exact bitParts hm (by decide) | exact bitOff hm (by decide) | exact bitPlus hm (by decide) | exact bitKey hm (by decide) | rfl

theorem State.showIns_effect {msk : Nat} {s0 : State} (s : State) (hm : 0xc0000000c0040 &&& msk = 0xc0000000c0040) (h_s : Effect msk s0 s) :
    Effect msk s0 (State.showIns s) := by
  unfold State.showIns
  repeat' first | with_reducible intro _ | with_reducible assumption | with_reducible rfl | exact subParts hm (by decide) | with_reducible apply State.setSlot_effect | with_reducible apply State.setTo_effect | with_reducible apply Effect.ite | split | dsimp only | exact bitParts hm (by decide) | exact bitOff hm (by decide) | rfl

theorem State.insSwitch_effect {msk : Nat} {s0 : State} (s : State) (hm : 0xc0100000c0040 &&& msk = 0xc0100000c0040) (h_s : Effect msk s0 s) :
    Effect msk s0 (State.insSwitch s) := by
  unfold State.insSwitch
  repeat' first | with_reducible intro _ | with_reducible assumption | with_reducible rfl | exact subParts hm (by decide) | with_reducible apply State.showIns_effect | with_reducible apply State.modFus_effect | with_reducible apply State.raise_effect | with_reducible apply Effect.ite | split | dsimp only | rfl

theorem State.insTick_effect {msk : Nat} {s0 : State} (s : State) (tick : Nat) (hm : 0xc0100000c0040 &&& msk = 0xc0100000c0040) (h_s : Effect msk s0 s) :
    Effect msk s0 (State.insTick s tick) := by
  unfold State.insTick
  repeat' first | with_reducible intro _ | with_reducible assumption | with_reducible rfl | exact subParts hm (by decide) | with_reducible apply State.insSwitch_effect | with_reducible apply State.takeIncs_effect | with_reducible apply State.modFus_effect | with_reducible apply Effect.ite | split | dsimp only | exact bitParts hm (by decide) | exact bitOff hm (by decide) | exact bitPlus hm (by decide) | exact bitKey hm (by decide) | rfl

theorem State.insLose_effect {msk : Nat} {s0 : State} (s : State) (unit : Nat) (hm : 0x27efdc0000c2000 &&& msk = 0x27efdc0000c2000) (h_s : Effect msk s0 s) :
    Effect msk s0 (State.insLose s unit) := by
  unfold State.insLose
  repeat' first | with_reducible intro _ | with_reducible assumption | with_reducible rfl | exact subParts hm (by decide) | with_reducible apply State.runTo_effect | with_reducible apply State.modFus_effect | with_reducible apply Effect.ite | split | dsimp only | rfl

theorem execInertialUnitLost_effect {msk : Nat} {s0 : State} (unit : Fin 2) (s : State) (hm : 0x27efdc0000c2000 &&& msk = 0x27efdc0000c2000) (h_s : Effect msk s0 s) :
    EffectOut msk s0 (execInertialUnitLost unit s) := by
  unfold execInertialUnitLost
  repeat' first | with_reducible intro _ | with_reducible assumption | with_reducible rfl | with_reducible refine EffectOut.gate ?_ ?_ | with_reducible refine EffectOut.next ?_ | exact subParts hm (by decide) | with_reducible apply State.insLose_effect | with_reducible apply Effect.ite | split | dsimp only | rfl

theorem State.fusSort_effect {msk : Nat} {s0 : State} (s : State) (hm : 0x10000000040 &&& msk = 0x10000000040) (h_s : Effect msk s0 s) :
    Effect msk s0 (State.fusSort s).2 := by
  unfold State.fusSort
  repeat' first | with_reducible intro _ | with_reducible assumption | with_reducible rfl | exact subParts hm (by decide) | with_reducible apply State.countLate_effect | with_reducible apply State.dropStale_effect | with_reducible apply State.showIntake_effect | with_reducible apply State.modFus_effect | with_reducible apply State.bump_effect | with_reducible apply Effect.forEach | with_reducible apply Effect.ite | split | dsimp only | exact bitParts hm (by decide) | exact bitOff hm (by decide) | exact bitPlus hm (by decide) | exact bitKey hm (by decide) | rfl

theorem State.postPass_effect {msk : Nat} {s0 : State} (s : State) (second : Bool) (hm : 0x4c0104000c0080 &&& msk = 0x4c0104000c0080) (h_s : Effect msk s0 s) :
    Effect msk s0 (State.postPass s second) := by
  unfold State.postPass
  repeat' first | with_reducible intro _ | with_reducible assumption | with_reducible rfl | exact subParts hm (by decide) | with_reducible apply State.postJob_effect | with_reducible apply State.modFus_effect | with_reducible apply Effect.ite | split | dsimp only | rfl

theorem State.fusAux_effect {msk : Nat} {s0 : State} (s : State) (recs late : List FusRec) (hm : 0xc0100000c0040 &&& msk = 0xc0100000c0040) (h_s : Effect msk s0 s) :
    Effect msk s0 (State.fusAux s recs late) := by
  unfold State.fusAux
  repeat' first | with_reducible intro _ | with_reducible assumption | with_reducible rfl | exact subParts hm (by decide) | with_reducible apply State.setSlot_effect | with_reducible apply State.modFus_effect | with_reducible apply State.setTo_effect | with_reducible apply Effect.forEach | with_reducible apply Effect.ite | split | dsimp only | exact bitParts hm (by decide) | exact bitOff hm (by decide) | exact bitPlus hm (by decide) | exact bitKey hm (by decide) | rfl

theorem State.heaveTake_effect {msk : Nat} {s0 : State} (s : State) (hm : 0x10000000000 &&& msk = 0x10000000000) (h_s : Effect msk s0 s) :
    Effect msk s0 (State.heaveTake s) := by
  unfold State.heaveTake
  repeat' first | with_reducible intro _ | with_reducible assumption | with_reducible rfl | exact subParts hm (by decide) | with_reducible apply State.modFus_effect | with_reducible apply Effect.ite | split | dsimp only | exact bitParts hm (by decide) | exact bitOff hm (by decide) | exact bitPlus hm (by decide) | exact bitKey hm (by decide) | rfl

theorem State.fusAlign_effect {msk : Nat} {s0 : State} (s : State) (recs : List FusRec) (hm : 0x10000000040 &&& msk = 0x10000000040) (h_s : Effect msk s0 s) :
    Effect msk s0 (State.fusAlign s recs) := by
  unfold State.fusAlign
  repeat' first | with_reducible intro _ | with_reducible assumption | with_reducible rfl | exact subParts hm (by decide) | with_reducible apply State.fusInit_effect | with_reducible apply State.fsGo_effect | with_reducible apply State.modFus_effect | with_reducible apply Effect.ite | split | dsimp only | rfl

theorem State.relFirst_effect {msk : Nat} {s0 : State} (r : FusRec) (s : State) (hm : 0x10000000000 &&& msk = 0x10000000000) (h_s : Effect msk s0 s) :
    Effect msk s0 (State.relFirst r s) := by
  unfold State.relFirst
  repeat' first | with_reducible intro _ | with_reducible assumption | with_reducible rfl | exact subParts hm (by decide) | with_reducible apply State.modFus_effect | with_reducible apply Effect.ite | split | dsimp only | exact bitParts hm (by decide) | exact bitOff hm (by decide) | exact bitPlus hm (by decide) | exact bitKey hm (by decide) | rfl

theorem State.medianStates_effect {msk : Nat} {s0 : State} (s : State) (recs : List FusRec) (far : List Nat) (hm : 0xc0000000c0040 &&& msk = 0xc0000000c0040) (h_s : Effect msk s0 s) :
    Effect msk s0 (State.medianStates s recs far) := by
  unfold State.medianStates
  repeat' first | with_reducible intro _ | with_reducible assumption | with_reducible rfl | exact subParts hm (by decide) | with_reducible apply State.setSlot_effect | with_reducible apply Effect.forEach | with_reducible apply Effect.ite | split | dsimp only | rfl

theorem State.fusIntakeCl_effect {msk : Nat} {s0 : State} (s : State) (hm : 0x4c0104000c00c0 &&& msk = 0x4c0104000c00c0) (h_s : Effect msk s0 s) :
    Effect msk s0 (State.fusIntakeCl s) := by
  unfold State.fusIntakeCl
  repeat' first | with_reducible intro _ | with_reducible assumption | with_reducible rfl | exact subParts hm (by decide) | with_reducible apply State.medianStates_effect | with_reducible apply State.relFirst_effect | with_reducible apply State.fusAlign_effect | with_reducible apply State.fusAux_effect | with_reducible apply State.postPass_effect | with_reducible apply State.fusSort_effect | with_reducible apply State.takeIncs_effect | with_reducible apply State.modFus_effect | with_reducible apply State.bump_effect | with_reducible apply State.setTo_effect | with_reducible apply Effect.forEach | with_reducible apply Effect.ite | split | dsimp only | exact bitParts hm (by decide) | exact bitOff hm (by decide) | exact bitPlus hm (by decide) | exact bitKey hm (by decide) | rfl

theorem State.countSats_effect {msk : Nat} {s0 : State} (s : State) (out : List (Nat × Nat × Nat)) (hm : 0xc0100000c0000 &&& msk = 0xc0100000c0000) (h_s : Effect msk s0 s) :
    Effect msk s0 (State.countSats s out) := by
  unfold State.countSats
  repeat' first | with_reducible intro _ | with_reducible assumption | with_reducible rfl | exact subParts hm (by decide) | with_reducible apply State.modFus_effect | with_reducible apply State.raise_effect | with_reducible apply Effect.forEach | with_reducible apply Effect.ite | split | dsimp only | rfl

theorem State.satBack_effect {msk : Nat} {s0 : State} (s : State) (slot sys svid : Nat) (hm : 0x10000000000 &&& msk = 0x10000000000) (h_s : Effect msk s0 s) :
    Effect msk s0 (State.satBack s slot sys svid) := by
  unfold State.satBack
  repeat' first | with_reducible intro _ | with_reducible assumption | with_reducible rfl | exact subParts hm (by decide) | with_reducible apply State.modFus_effect | with_reducible apply Effect.ite | split | dsimp only | rfl

theorem execSatExclExpiry_effect {msk : Nat} {s0 : State} (slot : Fin 16) (sys svid : Byte) (s : State) (hm : 0x10000000000 &&& msk = 0x10000000000) (h_s : Effect msk s0 s) :
    EffectOut msk s0 (execSatExclExpiry slot sys svid s) := by
  unfold execSatExclExpiry
  repeat' first | with_reducible intro _ | with_reducible assumption | with_reducible rfl | with_reducible refine EffectOut.gate ?_ ?_ | with_reducible refine EffectOut.next ?_ | exact subParts hm (by decide) | with_reducible apply State.satBack_effect | with_reducible apply Effect.ite | split | dsimp only | rfl

theorem State.voteRefs_effect {msk : Nat} {s0 : State} (s : State) (failed : List Nat) (hm : 0xc0100000c0040 &&& msk = 0xc0100000c0040) (h_s : Effect msk s0 s) :
    Effect msk s0 (State.voteRefs s failed) := by
  unfold State.voteRefs
  repeat' first | with_reducible intro _ | with_reducible assumption | with_reducible rfl | exact subParts hm (by decide) | with_reducible apply State.setSlot_effect | with_reducible apply State.modFus_effect | with_reducible apply Effect.forEach | with_reducible apply Effect.ite | split | dsimp only | exact bitParts hm (by decide) | exact bitOff hm (by decide) | exact bitPlus hm (by decide) | exact bitKey hm (by decide) | rfl

theorem State.requalify_effect {msk : Nat} {s0 : State} (s : State) (slot : Nat) (hm : 0xc0100000c0040 &&& msk = 0xc0100000c0040) (h_s : Effect msk s0 s) :
    Effect msk s0 (State.requalify s slot) := by
  unfold State.requalify
  repeat' first | with_reducible intro _ | with_reducible assumption | with_reducible rfl | exact subParts hm (by decide) | with_reducible apply State.setSlot_effect | with_reducible apply State.modFus_effect | with_reducible apply Effect.ite | split | dsimp only | rfl

theorem execReferenceRequalify_effect {msk : Nat} {s0 : State} (slot : Fin 16) (s : State) (hm : 0xc0100000c0040 &&& msk = 0xc0100000c0040) (h_s : Effect msk s0 s) :
    EffectOut msk s0 (execReferenceRequalify slot s) := by
  unfold execReferenceRequalify
  repeat' first | with_reducible intro _ | with_reducible assumption | with_reducible rfl | with_reducible refine EffectOut.gate ?_ ?_ | with_reducible refine EffectOut.next ?_ | exact subParts hm (by decide) | with_reducible apply State.requalify_effect | with_reducible apply Effect.ite | split | dsimp only | rfl

theorem State.voteAux_effect {msk : Nat} {s0 : State} (s : State) (ty first : Nat) (hm : 0xc0100000c0040 &&& msk = 0xc0100000c0040) (h_s : Effect msk s0 s) :
    Effect msk s0 (State.voteAux s ty first) := by
  unfold State.voteAux
  repeat' first | with_reducible intro _ | with_reducible assumption | with_reducible rfl | exact subParts hm (by decide) | with_reducible apply State.setSlot_effect | with_reducible apply State.modFus_effect | with_reducible apply Effect.forEach | with_reducible apply Effect.ite | split | dsimp only | exact bitParts hm (by decide) | exact bitOff hm (by decide) | exact bitPlus hm (by decide) | exact bitKey hm (by decide) | rfl

theorem State.tautMask_effect {msk : Nat} {s0 : State} (s : State) (hm : 0x10000000000 &&& msk = 0x10000000000) (h_s : Effect msk s0 s) :
    Effect msk s0 (State.tautMask s) := by
  unfold State.tautMask
  repeat' first | with_reducible intro _ | with_reducible assumption | with_reducible rfl | exact subParts hm (by decide) | with_reducible apply State.modFus_effect | with_reducible apply Effect.ite | split | dsimp only | exact bitParts hm (by decide) | exact bitOff hm (by decide) | exact bitPlus hm (by decide) | exact bitKey hm (by decide) | rfl

theorem State.coastOut_effect {msk : Nat} {s0 : State} (s : State) (hm : 0xc0000000c0040 &&& msk = 0xc0000000c0040) (h_s : Effect msk s0 s) :
    Effect msk s0 (State.coastOut s) := by
  unfold State.coastOut
  repeat' first | with_reducible intro _ | with_reducible assumption | with_reducible rfl | exact subParts hm (by decide) | with_reducible apply State.fsGo_effect | with_reducible apply State.raise_effect | with_reducible apply State.setTo_effect | with_reducible apply Effect.ite | split | dsimp only | exact bitParts hm (by decide) | exact bitOff hm (by decide) | rfl

theorem State.coastCount_effect {msk : Nat} {s0 : State} (s : State) (hm : 0xc0000000c0040 &&& msk = 0xc0000000c0040) (h_s : Effect msk s0 s) :
    Effect msk s0 (State.coastCount s) := by
  unfold State.coastCount
  repeat' first | with_reducible intro _ | with_reducible assumption | with_reducible rfl | exact subParts hm (by decide) | with_reducible apply State.coastOut_effect | with_reducible apply State.fsGo_effect | with_reducible apply State.raise_effect | with_reducible apply State.bump_effect | with_reducible apply State.setTo_effect | with_reducible apply State.wrn_effect | with_reducible apply Effect.ite | split | dsimp only | exact bitParts hm (by decide) | exact bitOff hm (by decide) | exact bitPlus hm (by decide) | exact bitKey hm (by decide) | rfl

theorem execRefCoastLimit_effect {msk : Nat} {s0 : State} (s : State) (hm : 0xc0000000c0040 &&& msk = 0xc0000000c0040) (h_s : Effect msk s0 s) :
    EffectOut msk s0 (execRefCoastLimit s) := by
  unfold execRefCoastLimit
  repeat' first | with_reducible intro _ | with_reducible assumption | with_reducible rfl | with_reducible refine EffectOut.gate ?_ ?_ | with_reducible refine EffectOut.next ?_ | exact subParts hm (by decide) | with_reducible apply State.coastOut_effect | with_reducible apply Effect.ite | split | dsimp only | rfl

theorem State.rowMasks_effect {msk : Nat} {s0 : State} (s : State) (hm : 0x4c0104000c00c0 &&& msk = 0x4c0104000c00c0) (h_s : Effect msk s0 s) :
    Effect msk s0 (State.rowMasks s) := by
  unfold State.rowMasks
  repeat' first | with_reducible intro _ | with_reducible assumption | with_reducible rfl | exact subParts hm (by decide) | with_reducible apply State.tautMask_effect | with_reducible apply State.voteAux_effect | with_reducible apply State.voteRefs_effect | with_reducible apply State.countSats_effect | with_reducible apply State.postPass_effect | with_reducible apply State.modFus_effect | with_reducible apply State.putSat_effect | with_reducible apply State.put_effect | with_reducible apply Effect.foldl | with_reducible apply Effect.ite | split | dsimp only | exact bitParts hm (by decide) | exact bitOff hm (by decide) | exact bitPlus hm (by decide) | exact bitKey hm (by decide) | rfl

theorem State.pass1Result_effect {msk : Nat} {s0 : State} (s : State) (which : Nat) (r : JobRes) (hm : 0x4c0104000c00c0 &&& msk = 0x4c0104000c00c0) (h_s : Effect msk s0 s) :
    Effect msk s0 (State.pass1Result s which r) := by
  unfold State.pass1Result
  repeat' first | with_reducible intro _ | with_reducible assumption | with_reducible rfl | exact subParts hm (by decide) | with_reducible apply State.rowMasks_effect | with_reducible apply State.modFus_effect | with_reducible apply Effect.ite | split | dsimp only | rfl

theorem State.publish_effect {msk : Nat} {s0 : State} (s : State) (updated : Bool) (hm : 0xc0104000c0040 &&& msk = 0xc0104000c0040) (h_s : Effect msk s0 s) :
    Effect msk s0 (State.publish s updated) := by
  unfold State.publish
  repeat' first | with_reducible intro _ | with_reducible assumption | with_reducible rfl | exact subParts hm (by decide) | with_reducible apply State.coastCount_effect | with_reducible apply State.heaveTake_effect | with_reducible apply State.modFus_effect | with_reducible apply State.sramWrite_effect | with_reducible apply State.wrWords_effect | with_reducible apply State.wrn_effect | with_reducible apply Effect.ite | split | dsimp only | exact bitParts hm (by decide) | exact bitOff hm (by decide) | exact bitPlus hm (by decide) | exact bitKey hm (by decide) | rfl

theorem State.pass2Result_effect {msk : Nat} {s0 : State} (s : State) (r : JobRes) (hm : 0xc0104000c0040 &&& msk = 0xc0104000c0040) (h_s : Effect msk s0 s) :
    Effect msk s0 (State.pass2Result s r) := by
  unfold State.pass2Result
  repeat' first | with_reducible intro _ | with_reducible assumption | with_reducible rfl | exact subParts hm (by decide) | with_reducible apply State.publish_effect | with_reducible apply State.fsGo_effect | with_reducible apply State.modFus_effect | with_reducible apply Effect.ite | split | dsimp only | exact bitParts hm (by decide) | exact bitOff hm (by decide) | exact bitPlus hm (by decide) | exact bitKey hm (by decide) | rfl

theorem State.fusDeadline_effect {msk : Nat} {s0 : State} (s : State) (hm : 0xc0104000c0040 &&& msk = 0xc0104000c0040) (h_s : Effect msk s0 s) :
    Effect msk s0 (State.fusDeadline s) := by
  unfold State.fusDeadline
  repeat' first | with_reducible intro _ | with_reducible assumption | with_reducible rfl | exact subParts hm (by decide) | with_reducible apply State.publish_effect | with_reducible apply State.showIntake_effect | with_reducible apply State.modFus_effect | with_reducible apply State.raise_effect | with_reducible apply State.setTo_effect | with_reducible apply Effect.ite | split | dsimp only | exact bitParts hm (by decide) | exact bitOff hm (by decide) | exact bitPlus hm (by decide) | exact bitKey hm (by decide) | rfl

theorem State.lapPost_effect {msk : Nat} {s0 : State} (s : State) (hm : 0x4c0104000c0080 &&& msk = 0x4c0104000c0080) (h_s : Effect msk s0 s) :
    Effect msk s0 (State.lapPost s) := by
  unfold State.lapPost
  repeat' first | with_reducible intro _ | with_reducible assumption | with_reducible rfl | exact subParts hm (by decide) | with_reducible apply State.postJob_effect | with_reducible apply State.modFus_effect | with_reducible apply Effect.ite | split | dsimp only | rfl

theorem State.showTracks_effect {msk : Nat} {s0 : State} (s : State) (hm : 0x40 &&& msk = 0x40) (h_s : Effect msk s0 s) :
    Effect msk s0 (State.showTracks s) := by
  unfold State.showTracks
  repeat' first | with_reducible intro _ | with_reducible assumption | with_reducible rfl | exact subParts hm (by decide) | with_reducible apply State.put_effect | with_reducible apply Effect.ite | split | dsimp only | exact bitParts hm (by decide) | exact bitOff hm (by decide) | rfl

theorem State.birth_effect {msk : Nat} {s0 : State} (r : OptReturn) (s : State) (hm : 0xc0100000c0040 &&& msk = 0xc0100000c0040) (h_s : Effect msk s0 s) :
    Effect msk s0 (State.birth r s) := by
  unfold State.birth
  repeat' first | with_reducible intro _ | with_reducible assumption | with_reducible rfl | exact subParts hm (by decide) | with_reducible apply State.modFus_effect | with_reducible apply State.raise1_effect | with_reducible apply State.setTo_effect | with_reducible apply Effect.ite | split | dsimp only | exact bitParts hm (by decide) | exact bitOff hm (by decide) | exact bitPlus hm (by decide) | exact bitKey hm (by decide) | rfl

theorem State.bindTracks_effect {msk : Nat} {s0 : State} (s : State) (hm : 0xc0100000c0000 &&& msk = 0xc0100000c0000) (h_s : Effect msk s0 s) :
    Effect msk s0 (State.bindTracks s) := by
  unfold State.bindTracks
  repeat' first | with_reducible intro _ | with_reducible assumption | with_reducible rfl | exact subParts hm (by decide) | with_reducible apply State.modFus_effect | with_reducible apply State.raise1_effect | with_reducible apply Effect.forEach | with_reducible apply Effect.ite | split | dsimp only | exact bitParts hm (by decide) | exact bitOff hm (by decide) | exact bitPlus hm (by decide) | exact bitKey hm (by decide) | rfl

theorem State.trackAssign_effect {msk : Nat} {s0 : State} (s : State) (cols : List Nat) (hm : 0xc0100000c0040 &&& msk = 0xc0100000c0040) (h_s : Effect msk s0 s) :
    Effect msk s0 (State.trackAssign s cols) := by
  unfold State.trackAssign
  repeat' first | with_reducible intro _ | with_reducible assumption | with_reducible rfl | exact subParts hm (by decide) | with_reducible apply State.bindTracks_effect | with_reducible apply State.birth_effect | with_reducible apply State.showTracks_effect | with_reducible apply State.modFus_effect | with_reducible apply Effect.forEach | with_reducible apply Effect.ite | split | dsimp only | exact bitParts hm (by decide) | exact bitOff hm (by decide) | exact bitPlus hm (by decide) | exact bitKey hm (by decide) | rfl

theorem State.lapResult_effect {msk : Nat} {s0 : State} (s : State) (r : JobRes) (hm : 0xc0100000c0040 &&& msk = 0xc0100000c0040) (h_s : Effect msk s0 s) :
    Effect msk s0 (State.lapResult s r) := by
  unfold State.lapResult
  repeat' first | with_reducible intro _ | with_reducible assumption | with_reducible rfl | exact subParts hm (by decide) | with_reducible apply State.trackAssign_effect | with_reducible apply State.modFus_effect | with_reducible apply Effect.ite | split | dsimp only | rfl

theorem State.lapMissed_effect {msk : Nat} {s0 : State} (s : State) (hm : 0x10000000000 &&& msk = 0x10000000000) (h_s : Effect msk s0 s) :
    Effect msk s0 (State.lapMissed s) := by
  unfold State.lapMissed
  repeat' first | with_reducible intro _ | with_reducible assumption | with_reducible rfl | exact subParts hm (by decide) | with_reducible apply State.modFus_effect | with_reducible apply Effect.ite | split | dsimp only | rfl

theorem State.trackDelete_effect {msk : Nat} {s0 : State} (s : State) (n : Nat) (hm : 0xc0100000c0040 &&& msk = 0xc0100000c0040) (h_s : Effect msk s0 s) :
    Effect msk s0 (State.trackDelete s n) := by
  unfold State.trackDelete
  repeat' first | with_reducible intro _ | with_reducible assumption | with_reducible rfl | exact subParts hm (by decide) | with_reducible apply State.showTracks_effect | with_reducible apply State.modFus_effect | with_reducible apply State.raise1_effect | with_reducible apply Effect.ite | split | dsimp only | rfl

theorem execTrackDelete_effect {msk : Nat} {s0 : State} (n : Fin 64) (s : State) (hm : 0xc0100000c0040 &&& msk = 0xc0100000c0040) (h_s : Effect msk s0 s) :
    EffectOut msk s0 (execTrackDelete n s) := by
  unfold execTrackDelete
  repeat' first | with_reducible intro _ | with_reducible assumption | with_reducible rfl | with_reducible refine EffectOut.gate ?_ ?_ | with_reducible refine EffectOut.next ?_ | exact subParts hm (by decide) | with_reducible apply State.trackDelete_effect | with_reducible apply Effect.ite | split | dsimp only | rfl

theorem execRiserValidLoss_effect {msk : Nat} {s0 : State} (s : State) (hm : 0x27efcc0000c2040 &&& msk = 0x27efcc0000c2040) (h_s : Effect msk s0 s) :
    EffectOut msk s0 (execRiserValidLoss s) := by
  unfold execRiserValidLoss
  repeat' first | with_reducible intro _ | with_reducible assumption | with_reducible rfl | with_reducible refine EffectOut.gate ?_ ?_ | with_reducible refine EffectOut.next ?_ | exact subParts hm (by decide) | with_reducible apply State.runTo_effect | with_reducible apply State.setTo_effect | with_reducible apply Effect.ite | split | dsimp only | exact bitParts hm (by decide) | exact bitOff hm (by decide) | rfl

end Sys2Proof.Machine
end

