-- ==== Sys2Proof/Laws/EffectMotion.lean ====
section
/-! SUPPORT. What the operations of Machine/Motion.lean do: the parts of the state that each may change. -/

set_option linter.unusedTactic false
set_option linter.unusedVariables false
set_option linter.unreachableTactic false

namespace Sys2Proof.Machine

theorem State.modCtl_effect {msk : Nat} {s0 : State} (s : State) (f : Control → Control) (hm : 0x80000000000000 &&& msk = 0x80000000000000) (h_s : Effect msk s0 s) :
    Effect msk s0 (State.modCtl s f) := by
  unfold State.modCtl
  repeat' first | with_reducible intro _ | with_reducible assumption | with_reducible rfl | with_reducible apply Effect.ite | split | dsimp only | with_reducible refine Effect.ctl ?_ ?_ | exact bitParts hm (by decide) | rfl

theorem State.paramCheck_effect {msk : Nat} {s0 : State} (s : State) (hm : 0x80000000000100 &&& msk = 0x80000000000100) (h_s : Effect msk s0 s) :
    Effect msk s0 (State.paramCheck s) := by
  unfold State.paramCheck
  repeat' first | with_reducible intro _ | with_reducible assumption | with_reducible rfl | exact subParts hm (by decide) | with_reducible apply State.modCtl_effect | with_reducible apply State.setTo_effect | with_reducible apply State.wrWords_effect | with_reducible apply Effect.ite | split | dsimp only | exact bitParts hm (by decide) | exact bitOff hm (by decide) | exact bitPlus hm (by decide) | exact bitKey hm (by decide) | rfl

theorem State.setActive_effect {msk : Nat} {s0 : State} (s : State) (set : List Byte) (hm : 0x180000000000100 &&& msk = 0x180000000000100) (h_s : Effect msk s0 s) :
    Effect msk s0 (State.setActive s set) := by
  unfold State.setActive
  repeat' first | with_reducible intro _ | with_reducible assumption | with_reducible rfl | exact subParts hm (by decide) | with_reducible apply State.modCtl_effect | with_reducible apply State.wrWords_effect | with_reducible apply State.wrn_effect | with_reducible apply Effect.ite | split | dsimp only | with_reducible refine Effect.eph ?_ ?_ | exact bitParts hm (by decide) | exact bitOff hm (by decide) | exact bitPlus hm (by decide) | exact bitKey hm (by decide) | rfl

theorem State.setCommit_effect {msk : Nat} {s0 : State} (s : State) (hm : 0x80000000000100 &&& msk = 0x80000000000100) (h_s : Effect msk s0 s) :
    Effect msk s0 (State.setCommit s) := by
  unfold State.setCommit
  repeat' first | with_reducible intro _ | with_reducible assumption | with_reducible rfl | exact subParts hm (by decide) | with_reducible apply State.modCtl_effect | with_reducible apply State.setTo_effect | with_reducible apply Effect.ite | split | dsimp only | exact bitParts hm (by decide) | exact bitOff hm (by decide) | exact bitPlus hm (by decide) | exact bitKey hm (by decide) | rfl

theorem State.paramCommit_effect {msk : Nat} {s0 : State} (s : State) (hm : 0x80000000000100 &&& msk = 0x80000000000100) (h_s : Effect msk s0 s) :
    Effect msk s0 (State.paramCommit s) := by
  unfold State.paramCommit
  repeat' first | with_reducible intro _ | with_reducible assumption | with_reducible rfl | exact subParts hm (by decide) | with_reducible apply State.modCtl_effect | with_reducible apply State.setTo_effect | with_reducible apply Effect.ite | split | dsimp only | exact bitParts hm (by decide) | exact bitOff hm (by decide) | exact bitPlus hm (by decide) | exact bitKey hm (by decide) | rfl

theorem State.setCheck_effect {msk : Nat} {s0 : State} (s : State) (hm : 0x180000000000100 &&& msk = 0x180000000000100) (h_s : Effect msk s0 s) :
    Effect msk s0 (State.setCheck s) := by
  unfold State.setCheck
  repeat' first | with_reducible intro _ | with_reducible assumption | with_reducible rfl | exact subParts hm (by decide) | with_reducible apply State.setActive_effect | with_reducible apply State.modCtl_effect | with_reducible apply State.setTo_effect | with_reducible apply Effect.ite | split | dsimp only | exact bitParts hm (by decide) | exact bitOff hm (by decide) | exact bitPlus hm (by decide) | exact bitKey hm (by decide) | rfl

theorem execSetCommit_effect {msk : Nat} {s0 : State} (_req : Req) (s : State) (hm : 0x80000000000100 &&& msk = 0x80000000000100) (h_s : Effect msk s0 s) :
    EffectOut msk s0 (execSetCommit _req s) := by
  unfold execSetCommit
  repeat' first | with_reducible intro _ | with_reducible assumption | with_reducible rfl | with_reducible refine EffectOut.gate ?_ ?_ | with_reducible refine EffectOut.rooted ?_ ?_ | with_reducible refine EffectOut.reach ?_ ?_ | with_reducible refine EffectOut.next ?_ | exact subParts hm (by decide) | with_reducible apply State.setCommit_effect | with_reducible apply Effect.ite | split | dsimp only | exact bitParts hm (by decide) | exact bitOff hm (by decide) | exact bitPlus hm (by decide) | exact bitKey hm (by decide) | rfl

theorem execParamCommit_effect {msk : Nat} {s0 : State} (_req : Req) (s : State) (hm : 0x80000000000100 &&& msk = 0x80000000000100) (h_s : Effect msk s0 s) :
    EffectOut msk s0 (execParamCommit _req s) := by
  unfold execParamCommit
  repeat' first | with_reducible intro _ | with_reducible assumption | with_reducible rfl | with_reducible refine EffectOut.gate ?_ ?_ | with_reducible refine EffectOut.rooted ?_ ?_ | with_reducible refine EffectOut.reach ?_ ?_ | with_reducible refine EffectOut.next ?_ | exact subParts hm (by decide) | with_reducible apply State.paramCommit_effect | with_reducible apply Effect.ite | split | dsimp only | exact bitParts hm (by decide) | exact bitOff hm (by decide) | exact bitPlus hm (by decide) | exact bitKey hm (by decide) | rfl

theorem State.wpStep_effect {msk : Nat} {s0 : State} (s : State) (modeNew : Bool) (hm : 0x80000000000000 &&& msk = 0x80000000000000) (h_s : Effect msk s0 s) :
    Effect msk s0 (State.wpStep s modeNew) := by
  unfold State.wpStep
  repeat' first | with_reducible intro _ | with_reducible assumption | with_reducible rfl | exact subParts hm (by decide) | with_reducible apply State.modCtl_effect | with_reducible apply Effect.ite | split | dsimp only | exact bitParts hm (by decide) | exact bitOff hm (by decide) | exact bitPlus hm (by decide) | exact bitKey hm (by decide) | rfl

theorem State.riserStep_effect {msk : Nat} {s0 : State} (s : State) (hm : 0x8c0000000c0000 &&& msk = 0x8c0000000c0000) (h_s : Effect msk s0 s) :
    Effect msk s0 (State.riserStep s) := by
  unfold State.riserStep
  repeat' first | with_reducible intro _ | with_reducible assumption | with_reducible rfl | exact subParts hm (by decide) | with_reducible apply State.modCtl_effect | with_reducible apply State.raise_effect | with_reducible apply Effect.ite | split | dsimp only | rfl

theorem State.profileStep_effect {msk : Nat} {s0 : State} (s : State) (modeNew : Bool) (hm : 0x8c0000000c0000 &&& msk = 0x8c0000000c0000) (h_s : Effect msk s0 s) :
    Effect msk s0 (State.profileStep s modeNew) := by
  unfold State.profileStep
  repeat' first | with_reducible intro _ | with_reducible assumption | with_reducible rfl | exact subParts hm (by decide) | with_reducible apply State.riserStep_effect | with_reducible apply State.wpStep_effect | with_reducible apply State.modCtl_effect | with_reducible apply Effect.ite | split | dsimp only | exact bitParts hm (by decide) | exact bitOff hm (by decide) | exact bitPlus hm (by decide) | exact bitKey hm (by decide) | rfl

theorem State.windStep_effect {msk : Nat} {s0 : State} (s : State) (hm : 0x80000000000000 &&& msk = 0x80000000000000) (h_s : Effect msk s0 s) :
    Effect msk s0 (State.windStep s) := by
  unfold State.windStep
  repeat' first | with_reducible intro _ | with_reducible assumption | with_reducible rfl | exact subParts hm (by decide) | with_reducible apply State.modCtl_effect | with_reducible apply Effect.ite | split | dsimp only | rfl

theorem State.integrate_effect {msk : Nat} {s0 : State} (s : State) (e : List Nat) (hm : 0x8c0000000c0100 &&& msk = 0x8c0000000c0100) (h_s : Effect msk s0 s) :
    Effect msk s0 (State.integrate s e) := by
  unfold State.integrate
  repeat' first | with_reducible intro _ | with_reducible assumption | with_reducible rfl | exact subParts hm (by decide) | with_reducible apply State.modCtl_effect | with_reducible apply State.raise_effect | with_reducible apply State.setTo_effect | with_reducible apply Effect.ite | split | dsimp only | exact bitParts hm (by decide) | exact bitOff hm (by decide) | rfl

theorem State.preload_effect {msk : Nat} {s0 : State} (s : State) (became : Nat) (e ev : List Nat) (hm : 0x80000000000000 &&& msk = 0x80000000000000) (h_s : Effect msk s0 s) :
    Effect msk s0 (State.preload s became e ev) := by
  unfold State.preload
  repeat' first | with_reducible intro _ | with_reducible assumption | with_reducible rfl | exact subParts hm (by decide) | with_reducible apply State.modCtl_effect | with_reducible apply Effect.ite | split | dsimp only | rfl

theorem State.takeRef_effect {msk : Nat} {s0 : State} (s : State) (became : Nat) (wasAuto : Nat) (hm : 0x80000000000000 &&& msk = 0x80000000000000) (h_s : Effect msk s0 s) :
    Effect msk s0 (State.takeRef s became wasAuto) := by
  unfold State.takeRef
  repeat' first | with_reducible intro _ | with_reducible assumption | with_reducible rfl | exact subParts hm (by decide) | with_reducible apply State.modCtl_effect | with_reducible apply Effect.ite | split | dsimp only | exact bitParts hm (by decide) | exact bitOff hm (by decide) | exact bitPlus hm (by decide) | exact bitKey hm (by decide) | rfl

theorem State.modeStep_effect {msk : Nat} {s0 : State} (s : State) (hm : 0x8c0000000c0100 &&& msk = 0x8c0000000c0100) (h_s : Effect msk s0 s) :
    Effect msk s0 (State.modeStep s).1 := by
  unfold State.modeStep
  repeat' first | with_reducible intro _ | with_reducible assumption | with_reducible rfl | exact subParts hm (by decide) | with_reducible apply State.takeRef_effect | with_reducible apply State.modCtl_effect | with_reducible apply State.raise_effect | with_reducible apply State.setTo_effect | with_reducible apply State.put_effect | with_reducible apply Effect.ite | split | dsimp only | exact bitParts hm (by decide) | exact bitOff hm (by decide) | rfl

theorem State.forceHold_effect {msk : Nat} {s0 : State} (s : State) (hm : 0xc0000000c0100 &&& msk = 0xc0000000c0100) (h_s : Effect msk s0 s) :
    Effect msk s0 (State.forceHold s) := by
  unfold State.forceHold
  repeat' first | with_reducible intro _ | with_reducible assumption | with_reducible rfl | exact subParts hm (by decide) | with_reducible apply State.raise_effect | with_reducible apply State.setTo_effect | with_reducible apply Effect.ite | split | dsimp only | exact bitParts hm (by decide) | exact bitOff hm (by decide) | rfl

theorem State.setSector_effect {msk : Nat} {s0 : State} (s : State) (i k : Nat) (hm : 0x100 &&& msk = 0x100) (h_s : Effect msk s0 s) :
    Effect msk s0 (State.setSector s i k) := by
  unfold State.setSector
  repeat' first | with_reducible intro _ | with_reducible assumption | with_reducible rfl | exact subParts hm (by decide) | with_reducible apply State.wrn_effect | with_reducible apply Effect.ite | split | dsimp only | exact bitParts hm (by decide) | exact bitOff hm (by decide) | rfl

theorem State.thrStep_effect {msk : Nat} {s0 : State} (s : State) (hm : 0x8c0000000c0100 &&& msk = 0x8c0000000c0100) (h_s : Effect msk s0 s) :
    Effect msk s0 (State.thrStep s) := by
  unfold State.thrStep
  repeat' first | with_reducible intro _ | with_reducible assumption | with_reducible rfl | exact subParts hm (by decide) | with_reducible apply State.setSector_effect | with_reducible apply State.modCtl_effect | with_reducible apply State.raise1_effect | with_reducible apply State.wrn_effect | with_reducible apply Effect.forEach | with_reducible apply Effect.ite | split | dsimp only | exact bitParts hm (by decide) | exact bitOff hm (by decide) | rfl

theorem State.colGo_effect {msk : Nat} {s0 : State} (s : State) (st reason : Nat) (hm : 0x100 &&& msk = 0x100) (h_s : Effect msk s0 s) :
    Effect msk s0 (State.colGo s st reason) := by
  unfold State.colGo
  repeat' first | with_reducible intro _ | with_reducible assumption | with_reducible rfl | exact subParts hm (by decide) | with_reducible apply State.setTo_effect | with_reducible apply State.put_effect | with_reducible apply Effect.ite | split | dsimp only | exact bitParts hm (by decide) | exact bitOff hm (by decide) | rfl

theorem State.colAbort_effect {msk : Nat} {s0 : State} (s : State) (reason : Nat) (hm : 0x8c0000000c0100 &&& msk = 0x8c0000000c0100) (h_s : Effect msk s0 s) :
    Effect msk s0 (State.colAbort s reason) := by
  unfold State.colAbort
  repeat' first | with_reducible intro _ | with_reducible assumption | with_reducible rfl | exact subParts hm (by decide) | with_reducible apply State.colGo_effect | with_reducible apply State.modCtl_effect | with_reducible apply State.raise_effect | with_reducible apply Effect.ite | split | dsimp only | rfl

theorem State.colStart_effect {msk : Nat} {s0 : State} (s : State) (hm : 0x80000000000100 &&& msk = 0x80000000000100) (h_s : Effect msk s0 s) :
    Effect msk s0 (State.colStart s) := by
  unfold State.colStart
  repeat' first | with_reducible intro _ | with_reducible assumption | with_reducible rfl | exact subParts hm (by decide) | with_reducible apply State.colGo_effect | with_reducible apply State.modCtl_effect | with_reducible apply State.put_effect | with_reducible apply Effect.ite | split | dsimp only | exact bitParts hm (by decide) | exact bitOff hm (by decide) | rfl

theorem execCollimationStart_effect {msk : Nat} {s0 : State} (_req : Req) (s : State) (hm : 0x80000000000100 &&& msk = 0x80000000000100) (h_s : Effect msk s0 s) :
    EffectOut msk s0 (execCollimationStart _req s) := by
  unfold execCollimationStart
  repeat' first | with_reducible intro _ | with_reducible assumption | with_reducible rfl | with_reducible refine EffectOut.gate ?_ ?_ | with_reducible refine EffectOut.next ?_ | exact subParts hm (by decide) | with_reducible apply State.colStart_effect | with_reducible apply Effect.ite | split | dsimp only | rfl

theorem State.colStop_effect {msk : Nat} {s0 : State} (s : State) (hm : 0x8c0000000c0100 &&& msk = 0x8c0000000c0100) (h_s : Effect msk s0 s) :
    Effect msk s0 (State.colStop s) := by
  unfold State.colStop
  repeat' first | with_reducible intro _ | with_reducible assumption | with_reducible rfl | exact subParts hm (by decide) | with_reducible apply State.colAbort_effect | with_reducible apply Effect.ite | split | dsimp only | rfl

theorem execCollimationStop_effect {msk : Nat} {s0 : State} (_req : Req) (s : State) (hm : 0x8c0000000c0100 &&& msk = 0x8c0000000c0100) (h_s : Effect msk s0 s) :
    EffectOut msk s0 (execCollimationStop _req s) := by
  unfold execCollimationStop
  repeat' first | with_reducible intro _ | with_reducible assumption | with_reducible rfl | with_reducible refine EffectOut.gate ?_ ?_ | with_reducible refine EffectOut.next ?_ | exact subParts hm (by decide) | with_reducible apply State.colStop_effect | with_reducible apply Effect.ite | split | dsimp only | rfl

theorem State.colDone_effect {msk : Nat} {s0 : State} (s : State) (hm : 0x8c0000000c0100 &&& msk = 0x8c0000000c0100) (h_s : Effect msk s0 s) :
    Effect msk s0 (State.colDone s) := by
  unfold State.colDone
  repeat' first | with_reducible intro _ | with_reducible assumption | with_reducible rfl | exact subParts hm (by decide) | with_reducible apply State.colGo_effect | with_reducible apply State.modCtl_effect | with_reducible apply State.raise_effect | with_reducible apply Effect.ite | split | dsimp only | rfl

theorem execCollimationDone_effect {msk : Nat} {s0 : State} (s : State) (hm : 0x8c0000000c0100 &&& msk = 0x8c0000000c0100) (h_s : Effect msk s0 s) :
    EffectOut msk s0 (execCollimationDone s) := by
  unfold execCollimationDone
  repeat' first | with_reducible intro _ | with_reducible assumption | with_reducible rfl | with_reducible refine EffectOut.gate ?_ ?_ | with_reducible refine EffectOut.next ?_ | exact subParts hm (by decide) | with_reducible apply State.colDone_effect | with_reducible apply Effect.ite | split | dsimp only | rfl

theorem State.colArm_effect {msk : Nat} {s0 : State} (s : State) (hm : 0x8c0000000c0100 &&& msk = 0x8c0000000c0100) (h_s : Effect msk s0 s) :
    Effect msk s0 (State.colArm s) := by
  unfold State.colArm
  repeat' first | with_reducible intro _ | with_reducible assumption | with_reducible rfl | exact subParts hm (by decide) | with_reducible apply State.colAbort_effect | with_reducible apply State.colGo_effect | with_reducible apply State.raise_effect | with_reducible apply Effect.ite | split | dsimp only | rfl

theorem State.colShape_effect {msk : Nat} {s0 : State} (s : State) (hm : 0x80000000000000 &&& msk = 0x80000000000000) (h_s : Effect msk s0 s) :
    Effect msk s0 (State.colShape s) := by
  unfold State.colShape
  repeat' first | with_reducible intro _ | with_reducible assumption | with_reducible rfl | exact subParts hm (by decide) | with_reducible apply State.modCtl_effect | with_reducible apply Effect.ite | split | dsimp only | exact bitParts hm (by decide) | exact bitOff hm (by decide) | exact bitPlus hm (by decide) | exact bitKey hm (by decide) | rfl

theorem State.colSignal_effect {msk : Nat} {s0 : State} (s : State) (fb : Bool) (hm : 0x80000000000000 &&& msk = 0x80000000000000) (h_s : Effect msk s0 s) :
    Effect msk s0 (State.colSignal s fb) := by
  unfold State.colSignal
  repeat' first | with_reducible intro _ | with_reducible assumption | with_reducible rfl | exact subParts hm (by decide) | with_reducible apply State.colShape_effect | with_reducible apply State.modCtl_effect | with_reducible apply Effect.ite | split | dsimp only | exact bitParts hm (by decide) | exact bitOff hm (by decide) | exact bitPlus hm (by decide) | exact bitKey hm (by decide) | rfl

theorem State.colLost_effect {msk : Nat} {s0 : State} (s : State) (hm : 0x8c0000000c0100 &&& msk = 0x8c0000000c0100) (h_s : Effect msk s0 s) :
    Effect msk s0 (State.colLost s) := by
  unfold State.colLost
  repeat' first | with_reducible intro _ | with_reducible assumption | with_reducible rfl | exact subParts hm (by decide) | with_reducible apply State.colAbort_effect | with_reducible apply Effect.ite | split | dsimp only | exact bitParts hm (by decide) | exact bitOff hm (by decide) | exact bitPlus hm (by decide) | exact bitKey hm (by decide) | rfl

theorem State.colCheck_effect {msk : Nat} {s0 : State} (s : State) (e : List Nat) (modeNew : Bool) (hm : 0x8c0000000c0100 &&& msk = 0x8c0000000c0100) (h_s : Effect msk s0 s) :
    Effect msk s0 (State.colCheck s e modeNew) := by
  unfold State.colCheck
  repeat' first | with_reducible intro _ | with_reducible assumption | with_reducible rfl | exact subParts hm (by decide) | with_reducible apply State.colAbort_effect | with_reducible apply Effect.ite | split | dsimp only | rfl

theorem State.baseTau_effect {msk : Nat} {s0 : State} (s : State) (hm : 0x80000000000000 &&& msk = 0x80000000000000) (h_s : Effect msk s0 s) :
    Effect msk s0 (State.baseTau s) := by
  unfold State.baseTau
  repeat' first | with_reducible intro _ | with_reducible assumption | with_reducible rfl | exact subParts hm (by decide) | with_reducible apply State.modCtl_effect | with_reducible apply Effect.ite | split | dsimp only | exact bitParts hm (by decide) | exact bitOff hm (by decide) | exact bitPlus hm (by decide) | exact bitKey hm (by decide) | rfl

theorem State.ctlFusion_effect {msk : Nat} {s0 : State} (s : State) (fb : Bool) (hm : 0x8c0000000c0100 &&& msk = 0x8c0000000c0100) (h_s : Effect msk s0 s) :
    Effect msk s0 (State.ctlFusion s fb) := by
  unfold State.ctlFusion
  repeat' first | with_reducible intro _ | with_reducible assumption | with_reducible rfl | exact subParts hm (by decide) | with_reducible apply State.baseTau_effect | with_reducible apply State.colCheck_effect | with_reducible apply State.colSignal_effect | with_reducible apply State.thrStep_effect | with_reducible apply State.forceHold_effect | with_reducible apply State.modeStep_effect | with_reducible apply State.preload_effect | with_reducible apply State.integrate_effect | with_reducible apply State.windStep_effect | with_reducible apply State.profileStep_effect | with_reducible apply State.modCtl_effect | with_reducible apply Effect.ite | split | dsimp only | exact bitParts hm (by decide) | exact bitOff hm (by decide) | exact bitPlus hm (by decide) | exact bitKey hm (by decide) | rfl

end Sys2Proof.Machine
end

