-- ==== Sys2Proof/Laws/EffectAlloc.lean ====
section
/-! SUPPORT. What the operations of Machine/Alloc.lean do: the parts of the state that each may change. -/

set_option linter.unusedTactic false
set_option linter.unusedVariables false
set_option linter.unreachableTactic false

namespace Sys2Proof.Machine

theorem State.takeSectors_effect {msk : Nat} {s0 : State} (s : State) (hm : 0x100 &&& msk = 0x100) (h_s : Effect msk s0 s) :
    Effect msk s0 (State.takeSectors s) := by
  unfold State.takeSectors
  repeat' first | with_reducible intro _ | with_reducible assumption | with_reducible rfl | exact subParts hm (by decide) | with_reducible apply State.setSector_effect | with_reducible apply State.wrn_effect | with_reducible apply Effect.forEach | with_reducible apply Effect.ite | split | dsimp only | exact bitParts hm (by decide) | exact bitOff hm (by decide) | rfl

theorem State.primaryPost_effect {msk : Nat} {s0 : State} (s : State) (hm : 0xcc0004000c0180 &&& msk = 0xcc0004000c0180) (h_s : Effect msk s0 s) :
    Effect msk s0 (State.primaryPost s) := by
  unfold State.primaryPost
  repeat' first | with_reducible intro _ | with_reducible assumption | with_reducible rfl | exact subParts hm (by decide) | with_reducible apply State.takeSectors_effect | with_reducible apply State.modCtl_effect | with_reducible apply State.postJob_effect | with_reducible apply Effect.ite | split | dsimp only | exact bitParts hm (by decide) | exact bitOff hm (by decide) | exact bitPlus hm (by decide) | exact bitKey hm (by decide) | rfl

theorem State.sectReach_effect {msk : Nat} {s0 : State} (s : State) (t : Thr) (hm : 0x8c0000000c0100 &&& msk = 0x8c0000000c0100) (h_s : Effect msk s0 s) :
    Effect msk s0 (State.sectReach s t) := by
  unfold State.sectReach
  repeat' first | with_reducible intro _ | with_reducible assumption | with_reducible rfl | exact subParts hm (by decide) | with_reducible apply State.modCtl_effect | with_reducible apply State.raise1_effect | with_reducible apply State.bump_effect | with_reducible apply State.setTo_effect | with_reducible apply Effect.ite | split | dsimp only | exact bitParts hm (by decide) | exact bitOff hm (by decide) | rfl

theorem State.sectDecide_effect {msk : Nat} {s0 : State} (s : State) (t : Thr) (f : Nat × Nat) (hm : 0x8c0000000c0100 &&& msk = 0x8c0000000c0100) (h_s : Effect msk s0 s) :
    Effect msk s0 (State.sectDecide s t f) := by
  unfold State.sectDecide
  repeat' first | with_reducible intro _ | with_reducible assumption | with_reducible rfl | exact subParts hm (by decide) | with_reducible apply State.sectReach_effect | with_reducible apply State.modCtl_effect | with_reducible apply Effect.ite | split | dsimp only | rfl

theorem State.sectApply_effect {msk : Nat} {s0 : State} (s : State) (hm : 0x80000000000100 &&& msk = 0x80000000000100) (h_s : Effect msk s0 s) :
    Effect msk s0 (State.sectApply s) := by
  unfold State.sectApply
  repeat' first | with_reducible intro _ | with_reducible assumption | with_reducible rfl | exact subParts hm (by decide) | with_reducible apply State.setSector_effect | with_reducible apply State.modCtl_effect | with_reducible apply Effect.forEach | with_reducible apply Effect.ite | split | dsimp only | rfl

theorem State.primaryResult_effect {msk : Nat} {s0 : State} (s : State) (d : JobDesc) (r : JobRes) (hm : 0x8c0000000c0100 &&& msk = 0x8c0000000c0100) (h_s : Effect msk s0 s) :
    Effect msk s0 (State.primaryResult s d r) := by
  unfold State.primaryResult
  repeat' first | with_reducible intro _ | with_reducible assumption | with_reducible rfl | exact subParts hm (by decide) | with_reducible apply State.sectDecide_effect | with_reducible apply State.modCtl_effect | with_reducible apply State.bump_effect | with_reducible apply State.setTo_effect | with_reducible apply Effect.forEach | with_reducible apply Effect.ite | split | dsimp only | exact bitParts hm (by decide) | exact bitOff hm (by decide) | exact bitPlus hm (by decide) | exact bitKey hm (by decide) | rfl

theorem State.bufWords_effect {msk : Nat} {s0 : State} (s : State) (i : Nat) (ws : List Word) (hm : 0x4000000000 &&& msk = 0x4000000000) (h_s : Effect msk s0 s) :
    Effect msk s0 (State.bufWords s i ws) := by
  unfold State.bufWords
  repeat' first | with_reducible intro _ | with_reducible assumption | with_reducible rfl | with_reducible apply Effect.foldl | with_reducible apply Effect.ite | split | dsimp only | with_reducible refine Effect.cdr ?_ ?_ | exact bitParts hm (by decide) | rfl

theorem State.stageRegion_effect {msk : Nat} {s0 : State} (s : State) (source : Nat) (miss : Bool) (ws : List Word) (hm : 0x4000000000 &&& msk = 0x4000000000) (h_s : Effect msk s0 s) :
    Effect msk s0 (State.stageRegion s source miss ws) := by
  unfold State.stageRegion
  repeat' first | with_reducible intro _ | with_reducible assumption | with_reducible rfl | exact subParts hm (by decide) | with_reducible apply State.bufWords_effect | with_reducible apply Effect.ite | split | dsimp only | rfl

theorem State.solverLost_effect {msk : Nat} {s0 : State} (s : State) (hm : 0x8c0000000c0100 &&& msk = 0x8c0000000c0100) (h_s : Effect msk s0 s) :
    Effect msk s0 (State.solverLost s) := by
  unfold State.solverLost
  repeat' first | with_reducible intro _ | with_reducible assumption | with_reducible rfl | exact subParts hm (by decide) | with_reducible apply State.colLost_effect | with_reducible apply State.raise_effect | with_reducible apply State.setTo_effect | with_reducible apply Effect.ite | split | dsimp only | exact bitParts hm (by decide) | exact bitOff hm (by decide) | exact bitPlus hm (by decide) | exact bitKey hm (by decide) | rfl

theorem execSolverLost_effect {msk : Nat} {s0 : State} (s : State) (hm : 0x8c0000000c0100 &&& msk = 0x8c0000000c0100) (h_s : Effect msk s0 s) :
    EffectOut msk s0 (execSolverLost s) := by
  unfold execSolverLost
  repeat' first | with_reducible intro _ | with_reducible assumption | with_reducible rfl | with_reducible refine EffectOut.gate ?_ ?_ | with_reducible refine EffectOut.next ?_ | exact subParts hm (by decide) | with_reducible apply State.solverLost_effect | with_reducible apply Effect.ite | split | dsimp only | rfl

theorem State.solverBack_effect {msk : Nat} {s0 : State} (s : State) (hm : 0xc0000000c0100 &&& msk = 0xc0000000c0100) (h_s : Effect msk s0 s) :
    Effect msk s0 (State.solverBack s) := by
  unfold State.solverBack
  repeat' first | with_reducible intro _ | with_reducible assumption | with_reducible rfl | exact subParts hm (by decide) | with_reducible apply State.raise_effect | with_reducible apply State.setTo_effect | with_reducible apply State.put_effect | with_reducible apply Effect.ite | split | dsimp only | exact bitParts hm (by decide) | exact bitOff hm (by decide) | rfl

theorem State.countMiss_effect {msk : Nat} {s0 : State} (s : State) (hm : 0x8c0000000c0100 &&& msk = 0x8c0000000c0100) (h_s : Effect msk s0 s) :
    Effect msk s0 (State.countMiss s) := by
  unfold State.countMiss
  repeat' first | with_reducible intro _ | with_reducible assumption | with_reducible rfl | exact subParts hm (by decide) | with_reducible apply State.solverLost_effect | with_reducible apply State.raise_effect | with_reducible apply State.bump_effect | with_reducible apply State.setTo_effect | with_reducible apply Effect.ite | split | dsimp only | exact bitParts hm (by decide) | exact bitOff hm (by decide) | rfl

theorem State.controlRegion_effect {msk : Nat} {s0 : State} (s : State) (fb : Option (List Word)) (hm : 0x8c0040000c0100 &&& msk = 0x8c0040000c0100) (h_s : Effect msk s0 s) :
    Effect msk s0 (State.controlRegion s fb) := by
  unfold State.controlRegion
  repeat' first | with_reducible intro _ | with_reducible assumption | with_reducible rfl | exact subParts hm (by decide) | with_reducible apply State.countMiss_effect | with_reducible apply State.solverBack_effect | with_reducible apply State.stageRegion_effect | with_reducible apply State.bufWords_effect | with_reducible apply State.modCtl_effect | with_reducible apply Effect.ite | split | dsimp only | exact bitParts hm (by decide) | exact bitOff hm (by decide) | exact bitPlus hm (by decide) | exact bitKey hm (by decide) | rfl

theorem State.colCapture_effect {msk : Nat} {s0 : State} (s : State) (fb : Bool) (hm : 0x480000800000100 &&& msk = 0x480000800000100) (h_s : Effect msk s0 s) :
    Effect msk s0 (State.colCapture s fb) := by
  unfold State.colCapture
  repeat' first | with_reducible intro _ | with_reducible assumption | with_reducible rfl | exact subParts hm (by decide) | with_reducible apply State.modCtl_effect | with_reducible apply State.nextFree_effect | with_reducible apply State.put_effect | with_reducible apply Effect.ite | split | dsimp only | with_reducible refine Effect.ddr ?_ ?_ ?_ | with_reducible apply swf_writeBytes | with_reducible apply swf_filter | with_reducible apply swf_writeWord | with_reducible apply swf_writeWords | exact bitParts hm (by decide) | exact bitOff hm (by decide) | rfl

theorem State.ctlCycle_effect {msk : Nat} {s0 : State} (s : State) (hm : 0x80000000000100 &&& msk = 0x80000000000100) (h_s : Effect msk s0 s) :
    Effect msk s0 (State.ctlCycle s) := by
  unfold State.ctlCycle
  repeat' first | with_reducible intro _ | with_reducible assumption | with_reducible rfl | exact subParts hm (by decide) | with_reducible apply State.sectApply_effect | with_reducible apply State.modCtl_effect | with_reducible apply Effect.ite | split | dsimp only | rfl

end Sys2Proof.Machine
end

