-- ==== Sys2Proof/Laws/EffectAlmanac.lean ====
section
/-! SUPPORT. What the operations of Machine/Almanac.lean do: the parts of the state that each may change. -/

set_option linter.unusedTactic false
set_option linter.unusedVariables false
set_option linter.unreachableTactic false

namespace Sys2Proof.Machine

theorem State.almRelease_effect {msk : Nat} {s0 : State} (s : State) (hm : 0x27efcc0000c2000 &&& msk = 0x27efcc0000c2000) (h_s : Effect msk s0 s) :
    Effect msk s0 (State.almRelease s) := by
  unfold State.almRelease
  repeat' first | with_reducible intro _ | with_reducible assumption | with_reducible rfl | exact subParts hm (by decide) | with_reducible apply State.runTo_effect | with_reducible apply State.releaseHead_effect | with_reducible apply Effect.ite | split | dsimp only | exact bitParts hm (by decide) | exact bitOff hm (by decide) | exact bitPlus hm (by decide) | exact bitKey hm (by decide) | rfl

theorem execAlmanacRelease_effect {msk : Nat} {s0 : State} (s : State) (hm : 0x27efcc0000c2000 &&& msk = 0x27efcc0000c2000) (h_s : Effect msk s0 s) :
    EffectOut msk s0 (execAlmanacRelease s) := by
  unfold execAlmanacRelease
  repeat' first | with_reducible intro _ | with_reducible assumption | with_reducible rfl | with_reducible refine EffectOut.gate ?_ ?_ | with_reducible refine EffectOut.next ?_ | exact subParts hm (by decide) | with_reducible apply State.almRelease_effect | with_reducible apply Effect.ite | split | dsimp only | exact bitParts hm (by decide) | exact bitOff hm (by decide) | exact bitPlus hm (by decide) | exact bitKey hm (by decide) | rfl

theorem State.putOf_effect {m : Nat} {s0 : State} (s : State) (r : Req) (f : Fld) (v : Nat) (hk : m.testBit (f.off / 0x10000 % 32) = true)
    (h : Effect m s0 s) : Effect m s0 (s.putOf r f v) := State.put_effect _ _ _ (by rw [regKey_blk]; exact hk) h

theorem State.wrOf_effect {m : Nat} {s0 : State} (s : State) (r : Req) (off v : Nat) (hk : m.testBit (off / 0x10000 % 32) = true)
    (h : Effect m s0 s) : Effect m s0 (s.wrOf r off v) := State.wrn_effect _ _ _ (by rw [regKey_blk]; exact hk) h

theorem State.swGo_effect {msk : Nat} {s0 : State} (s : State) (r : Req) (hm : 0xc0000000c0000 &&& msk = 0xc0000000c0000) (h_s : Effect msk s0 s) :
    Effect msk s0 (State.swGo s r) := by
  unfold State.swGo
  repeat' first | with_reducible intro _ | with_reducible assumption | with_reducible rfl | exact subParts hm (by decide) | with_reducible apply State.putOf_effect | with_reducible apply State.offer_effect | with_reducible apply State.setTo_effect | with_reducible apply Effect.ite | split | dsimp only | exact bitParts hm (by decide) | exact bitOff hm (by decide) | rfl

theorem execAlmSwGo_effect {msk : Nat} {s0 : State} (req : Req) (s : State) (hm : 0xc0000000c0000 &&& msk = 0xc0000000c0000) (h_s : Effect msk s0 s) :
    EffectOut msk s0 (execAlmSwGo req s) := by
  unfold execAlmSwGo
  repeat' first | with_reducible intro _ | with_reducible assumption | with_reducible rfl | with_reducible refine EffectOut.gate ?_ ?_ | with_reducible refine EffectOut.next ?_ | exact subParts hm (by decide) | with_reducible apply State.swGo_effect | with_reducible apply Effect.ite | split | dsimp only | rfl

theorem State.rdGo_effect {msk : Nat} {s0 : State} (s : State) (r : Req) (hm : 0x8000000080000 &&& msk = 0x8000000080000) (h_s : Effect msk s0 s) :
    Effect msk s0 (State.rdGo s r) := by
  unfold State.rdGo
  repeat' first | with_reducible intro _ | with_reducible assumption | with_reducible rfl | exact subParts hm (by decide) | with_reducible apply State.putOf_effect | with_reducible apply State.modAlm_effect | with_reducible apply Effect.ite | split | dsimp only | exact bitParts hm (by decide) | exact bitOff hm (by decide) | rfl

theorem execAlmRead_effect {msk : Nat} {s0 : State} (req : Req) (s : State) (hm : 0x8000000080000 &&& msk = 0x8000000080000) (h_s : Effect msk s0 s) :
    EffectOut msk s0 (execAlmRead req s) := by
  unfold execAlmRead
  repeat' first | with_reducible intro _ | with_reducible assumption | with_reducible rfl | with_reducible refine EffectOut.gate ?_ ?_ | with_reducible refine EffectOut.next ?_ | exact subParts hm (by decide) | with_reducible apply State.rdGo_effect | with_reducible apply Effect.ite | split | dsimp only | rfl

theorem State.putData_effect {msk : Nat} {s0 : State} (s : State) (r : Req) (ws : List Word) (hm : 0x80000 &&& msk = 0x80000) (h_s : Effect msk s0 s) :
    Effect msk s0 (State.putData s r ws) := by
  unfold State.putData
  repeat' first | with_reducible intro _ | with_reducible assumption | with_reducible rfl | exact subParts hm (by decide) | with_reducible apply State.wrOf_effect | with_reducible apply Effect.forEach | with_reducible apply Effect.ite | split | dsimp only | exact bitParts hm (by decide) | exact bitOff hm (by decide) | rfl

theorem State.rdReady_effect {msk : Nat} {s0 : State} (s : State) (r : Req) (hm : 0x8000000080000 &&& msk = 0x8000000080000) (h_s : Effect msk s0 s) :
    Effect msk s0 (State.rdReady s r) := by
  unfold State.rdReady
  repeat' first | with_reducible intro _ | with_reducible assumption | with_reducible rfl | exact subParts hm (by decide) | with_reducible apply State.putData_effect | with_reducible apply State.wrOf_effect | with_reducible apply State.putOf_effect | with_reducible apply State.modAlm_effect | with_reducible apply Effect.ite | split | dsimp only | exact bitParts hm (by decide) | exact bitOff hm (by decide) | rfl

theorem execAlmReadReady_effect {msk : Nat} {s0 : State} (req : Req) (s : State) (hm : 0x8000000080000 &&& msk = 0x8000000080000) (h_s : Effect msk s0 s) :
    EffectOut msk s0 (execAlmReadReady req s) := by
  unfold execAlmReadReady
  repeat' first | with_reducible intro _ | with_reducible assumption | with_reducible rfl | with_reducible refine EffectOut.gate ?_ ?_ | with_reducible refine EffectOut.next ?_ | exact subParts hm (by decide) | with_reducible apply State.rdReady_effect | with_reducible apply Effect.ite | split | dsimp only | rfl

theorem State.startLog_effect {msk : Nat} {s0 : State} (s : State) (region : Nat × Nat) (es : List RingRec) (hm : 0xc0000000c0000 &&& msk = 0xc0000000c0000) (h_s : Effect msk s0 s) :
    Effect msk s0 (State.startLog s region es) := by
  unfold State.startLog
  repeat' first | with_reducible intro _ | with_reducible assumption | with_reducible rfl | exact subParts hm (by decide) | with_reducible apply State.modAlm_effect | with_reducible apply State.raise_effect | with_reducible apply Effect.ite | split | dsimp only | with_reducible refine Effect.ddr ?_ ?_ ?_ | with_reducible apply swf_writeBytes | with_reducible apply swf_filter | with_reducible apply swf_writeWord | with_reducible apply swf_writeWords | exact bitParts hm (by decide) | exact bitOff hm (by decide) | exact bitPlus hm (by decide) | exact bitKey hm (by decide) | rfl

theorem State.flashKick_effect {msk : Nat} {s0 : State} (s : State) (hm : 0xc0000000c0000 &&& msk = 0xc0000000c0000) (h_s : Effect msk s0 s) :
    Effect msk s0 (State.flashKick s) := by
  unfold State.flashKick
  repeat' first | with_reducible intro _ | with_reducible assumption | with_reducible rfl | exact subParts hm (by decide) | with_reducible apply State.startLog_effect | with_reducible apply State.modAlm_effect | with_reducible apply Effect.ite | split | dsimp only | exact bitParts hm (by decide) | exact bitOff hm (by decide) | exact bitPlus hm (by decide) | exact bitKey hm (by decide) | rfl

theorem State.flashPush_effect {msk : Nat} {s0 : State} (s : State) (op : FlashOp) (hm : 0xc0000000c0000 &&& msk = 0xc0000000c0000) (h_s : Effect msk s0 s) :
    Effect msk s0 (State.flashPush s op) := by
  unfold State.flashPush
  repeat' first | with_reducible intro _ | with_reducible assumption | with_reducible rfl | exact subParts hm (by decide) | with_reducible apply State.flashKick_effect | with_reducible apply State.modAlm_effect | with_reducible apply Effect.ite | split | dsimp only | exact bitParts hm (by decide) | exact bitOff hm (by decide) | exact bitPlus hm (by decide) | exact bitKey hm (by decide) | rfl

theorem State.flashWrite_effect {msk : Nat} {s0 : State} (s : State) (addr : Nat) (bs : List Byte) (hm : 0x1000000000 &&& msk = 0x1000000000) (h_s : Effect msk s0 s) :
    Effect msk s0 (State.flashWrite s addr bs) := by
  unfold State.flashWrite
  repeat' first | with_reducible intro _ | with_reducible assumption | with_reducible rfl | with_reducible apply Effect.ite | split | dsimp only | with_reducible refine Effect.flash ?_ ?_ ?_ | with_reducible apply swf_writeBytes | with_reducible apply swf_filter | with_reducible apply swf_writeWord | with_reducible apply swf_writeWords | exact bitParts hm (by decide) | rfl

theorem State.flashErase_effect {msk : Nat} {s0 : State} (s : State) (addr : Nat) (hm : 0x1000000000 &&& msk = 0x1000000000) (h_s : Effect msk s0 s) :
    Effect msk s0 (State.flashErase s addr) := by
  unfold State.flashErase
  repeat' first | with_reducible intro _ | with_reducible assumption | with_reducible rfl | with_reducible apply Effect.ite | split | dsimp only | with_reducible refine Effect.flash ?_ ?_ ?_ | with_reducible apply swf_writeBytes | with_reducible apply swf_filter | with_reducible apply swf_writeWord | with_reducible apply swf_writeWords | exact bitParts hm (by decide) | rfl

theorem State.almFlush_effect {msk : Nat} {s0 : State} (s : State) (hm : 0xc0000000c0000 &&& msk = 0xc0000000c0000) (h_s : Effect msk s0 s) :
    Effect msk s0 (State.almFlush s) := by
  unfold State.almFlush
  repeat' first | with_reducible intro _ | with_reducible assumption | with_reducible rfl | exact subParts hm (by decide) | with_reducible apply State.flashKick_effect | with_reducible apply State.modAlm_effect | with_reducible apply Effect.ite | split | dsimp only | exact bitParts hm (by decide) | exact bitOff hm (by decide) | exact bitPlus hm (by decide) | exact bitKey hm (by decide) | rfl

theorem State.logDone_effect {msk : Nat} {s0 : State} (s : State) (ok : Bool) (addr : Nat) (bs : List Byte) (erase : Bool) (seqs : List Nat) (hm : 0xc0010000c0000 &&& msk = 0xc0010000c0000) (h_s : Effect msk s0 s) :
    Effect msk s0 (State.logDone s ok addr bs erase seqs) := by
  unfold State.logDone
  repeat' first | with_reducible intro _ | with_reducible assumption | with_reducible rfl | exact subParts hm (by decide) | with_reducible apply State.flashErase_effect | with_reducible apply State.flashWrite_effect | with_reducible apply State.modAlm_effect | with_reducible apply State.raise_effect | with_reducible apply State.setTo_effect | with_reducible apply Effect.ite | split | dsimp only | exact bitParts hm (by decide) | exact bitOff hm (by decide) | exact bitPlus hm (by decide) | exact bitKey hm (by decide) | rfl

end Sys2Proof.Machine
end

