-- ==== Sys2Proof/Laws/EffectGuard.lean ====
section
/-! SUPPORT. What the operations of Machine/Guard.lean do: the parts of the state that each may change. -/

set_option linter.unusedTactic false
set_option linter.unusedVariables false
set_option linter.unreachableTactic false

namespace Sys2Proof.Machine

theorem State.modGrd_effect {msk : Nat} {s0 : State} (s : State) (f : Guard → Guard) (hm : 0x8000000000 &&& msk = 0x8000000000) (h_s : Effect msk s0 s) :
    Effect msk s0 (State.modGrd s f) := by
  unfold State.modGrd
  repeat' first | with_reducible intro _ | with_reducible assumption | with_reducible rfl | with_reducible apply Effect.ite | split | dsimp only | with_reducible refine Effect.grd ?_ ?_ | exact bitParts hm (by decide) | rfl

theorem State.grdShow_effect {msk : Nat} {s0 : State} (s : State) (hm : 0x800 &&& msk = 0x800) (h_s : Effect msk s0 s) :
    Effect msk s0 (State.grdShow s) := by
  unfold State.grdShow
  repeat' first | with_reducible intro _ | with_reducible assumption | with_reducible rfl | exact subParts hm (by decide) | with_reducible apply State.setTo_effect | with_reducible apply Effect.ite | split | dsimp only | exact bitParts hm (by decide) | exact bitOff hm (by decide) | exact bitPlus hm (by decide) | exact bitKey hm (by decide) | rfl

theorem State.claimFalls_effect {msk : Nat} {s0 : State} (s : State) (hm : 0x8000000800 &&& msk = 0x8000000800) (h_s : Effect msk s0 s) :
    Effect msk s0 (State.claimFalls s) := by
  unfold State.claimFalls
  repeat' first | with_reducible intro _ | with_reducible assumption | with_reducible rfl | exact subParts hm (by decide) | with_reducible apply State.grdShow_effect | with_reducible apply State.modGrd_effect | with_reducible apply Effect.ite | split | dsimp only | exact bitParts hm (by decide) | exact bitOff hm (by decide) | exact bitPlus hm (by decide) | exact bitKey hm (by decide) | rfl

theorem State.grdGo_effect {msk : Nat} {s0 : State} (s : State) (g : Nat) (hm : 0xc0080000c0800 &&& msk = 0xc0080000c0800) (h_s : Effect msk s0 s) :
    Effect msk s0 (State.grdGo s g) := by
  unfold State.grdGo
  repeat' first | with_reducible intro _ | with_reducible assumption | with_reducible rfl | exact subParts hm (by decide) | with_reducible apply State.grdShow_effect | with_reducible apply State.modGrd_effect | with_reducible apply State.raise_effect | with_reducible apply State.put_effect | with_reducible apply Effect.ite | split | dsimp only | exact bitParts hm (by decide) | exact bitOff hm (by decide) | rfl

theorem State.grdTrip_effect {msk : Nat} {s0 : State} (s : State) (hm : 0xc0080000c0800 &&& msk = 0xc0080000c0800) (h_s : Effect msk s0 s) :
    Effect msk s0 (State.grdTrip s) := by
  unfold State.grdTrip
  repeat' first | with_reducible intro _ | with_reducible assumption | with_reducible rfl | exact subParts hm (by decide) | with_reducible apply State.grdGo_effect | with_reducible apply State.modGrd_effect | with_reducible apply State.raise1_effect | with_reducible apply State.bump_effect | with_reducible apply Effect.ite | split | dsimp only | exact bitParts hm (by decide) | exact bitOff hm (by decide) | exact bitPlus hm (by decide) | exact bitKey hm (by decide) | rfl

theorem State.grdLatch_effect {msk : Nat} {s0 : State} (s : State) (m : Nat) (hm : 0xc0080000c0800 &&& msk = 0xc0080000c0800) (h_s : Effect msk s0 s) :
    Effect msk s0 (State.grdLatch s m) := by
  unfold State.grdLatch
  repeat' first | with_reducible intro _ | with_reducible assumption | with_reducible rfl | exact subParts hm (by decide) | with_reducible apply State.grdTrip_effect | with_reducible apply State.modGrd_effect | with_reducible apply State.put_effect | with_reducible apply Effect.ite | split | dsimp only | exact bitParts hm (by decide) | exact bitOff hm (by decide) | exact bitPlus hm (by decide) | exact bitKey hm (by decide) | rfl

theorem State.grdCause_effect {msk : Nat} {s0 : State} (s : State) (i : Nat) (hm : 0xc0080000c0800 &&& msk = 0xc0080000c0800) (h_s : Effect msk s0 s) :
    Effect msk s0 (State.grdCause s i) := by
  unfold State.grdCause
  repeat' first | with_reducible intro _ | with_reducible assumption | with_reducible rfl | exact subParts hm (by decide) | with_reducible apply State.grdLatch_effect | with_reducible apply State.modGrd_effect | with_reducible apply Effect.ite | split | dsimp only | rfl

theorem State.grdEnterSafe_effect {msk : Nat} {s0 : State} (s : State) (hm : 0xc0080000c0800 &&& msk = 0xc0080000c0800) (h_s : Effect msk s0 s) :
    Effect msk s0 (State.grdEnterSafe s) := by
  unfold State.grdEnterSafe
  repeat' first | with_reducible intro _ | with_reducible assumption | with_reducible rfl | exact subParts hm (by decide) | with_reducible apply State.grdTrip_effect | with_reducible apply State.grdGo_effect | with_reducible apply State.modGrd_effect | with_reducible apply State.put_effect | with_reducible apply State.wrn_effect | with_reducible apply Effect.ite | split | dsimp only | exact bitParts hm (by decide) | exact bitOff hm (by decide) | exact bitPlus hm (by decide) | exact bitKey hm (by decide) | rfl

theorem State.grdUntrip_effect {msk : Nat} {s0 : State} (s : State) (hm : 0xc0080000c0800 &&& msk = 0xc0080000c0800) (h_s : Effect msk s0 s) :
    Effect msk s0 (State.grdUntrip s) := by
  unfold State.grdUntrip
  repeat' first | with_reducible intro _ | with_reducible assumption | with_reducible rfl | exact subParts hm (by decide) | with_reducible apply State.grdEnterSafe_effect | with_reducible apply Effect.ite | split | dsimp only | rfl

theorem State.grdAbsent_effect {msk : Nat} {s0 : State} (s : State) (i : Nat) (hm : 0xc0080000c0800 &&& msk = 0xc0080000c0800) (h_s : Effect msk s0 s) :
    Effect msk s0 (State.grdAbsent s i) := by
  unfold State.grdAbsent
  repeat' first | with_reducible intro _ | with_reducible assumption | with_reducible rfl | exact subParts hm (by decide) | with_reducible apply State.grdUntrip_effect | with_reducible apply State.modGrd_effect | with_reducible apply Effect.ite | split | dsimp only | rfl

theorem State.grdDegrade_effect {msk : Nat} {s0 : State} (s : State) (i : Nat) (hm : 0xc0080000c0800 &&& msk = 0xc0080000c0800) (h_s : Effect msk s0 s) :
    Effect msk s0 (State.grdDegrade s i) := by
  unfold State.grdDegrade
  repeat' first | with_reducible intro _ | with_reducible assumption | with_reducible rfl | exact subParts hm (by decide) | with_reducible apply State.grdGo_effect | with_reducible apply State.modGrd_effect | with_reducible apply State.raise1_effect | with_reducible apply State.wrn_effect | with_reducible apply Effect.ite | split | dsimp only | exact bitParts hm (by decide) | exact bitOff hm (by decide) | rfl

theorem State.grdArm_effect {msk : Nat} {s0 : State} (s : State) (hm : 0xc0080000c0800 &&& msk = 0xc0080000c0800) (h_s : Effect msk s0 s) :
    Effect msk s0 (State.grdArm s) := by
  unfold State.grdArm
  repeat' first | with_reducible intro _ | with_reducible assumption | with_reducible rfl | exact subParts hm (by decide) | with_reducible apply State.grdCause_effect | with_reducible apply State.grdGo_effect | with_reducible apply Effect.ite | split | dsimp only | rfl

theorem State.grdBeat_effect {msk : Nat} {s0 : State} (s : State) (w : Word) (t : Nat) (hm : 0xc0080000c0800 &&& msk = 0xc0080000c0800) (h_s : Effect msk s0 s) :
    Effect msk s0 (State.grdBeat s w t) := by
  unfold State.grdBeat
  repeat' first | with_reducible intro _ | with_reducible assumption | with_reducible rfl | exact subParts hm (by decide) | with_reducible apply State.grdAbsent_effect | with_reducible apply State.grdCause_effect | with_reducible apply State.modGrd_effect | with_reducible apply State.wr_effect | with_reducible apply Effect.ite | split | dsimp only | exact bitParts hm (by decide) | exact bitOff hm (by decide) | rfl

theorem State.grdSvBeat_effect {msk : Nat} {s0 : State} (s : State) (w : Word) (t : Nat) (hm : 0xc0080000c0800 &&& msk = 0xc0080000c0800) (h_s : Effect msk s0 s) :
    Effect msk s0 (State.grdSvBeat s w t) := by
  unfold State.grdSvBeat
  repeat' first | with_reducible intro _ | with_reducible assumption | with_reducible rfl | exact subParts hm (by decide) | with_reducible apply State.grdAbsent_effect | with_reducible apply State.grdCause_effect | with_reducible apply State.modGrd_effect | with_reducible apply Effect.ite | split | dsimp only | exact bitParts hm (by decide) | exact bitOff hm (by decide) | exact bitPlus hm (by decide) | exact bitKey hm (by decide) | rfl

theorem State.grdRelease_effect {msk : Nat} {s0 : State} (s : State) (hm : 0x8000000800 &&& msk = 0x8000000800) (h_s : Effect msk s0 s) :
    Effect msk s0 (State.grdRelease s) := by
  unfold State.grdRelease
  repeat' first | with_reducible intro _ | with_reducible assumption | with_reducible rfl | exact subParts hm (by decide) | with_reducible apply State.grdShow_effect | with_reducible apply State.modGrd_effect | with_reducible apply State.put_effect | with_reducible apply State.wr_effect | with_reducible apply Effect.ite | split | dsimp only | exact bitParts hm (by decide) | exact bitOff hm (by decide) | rfl

theorem State.grdWithhold_effect {msk : Nat} {s0 : State} (s : State) (v : Verdict) (hm : 0xc0080000c0800 &&& msk = 0xc0080000c0800) (h_s : Effect msk s0 s) :
    Effect msk s0 (State.grdWithhold s v) := by
  unfold State.grdWithhold
  repeat' first | with_reducible intro _ | with_reducible assumption | with_reducible rfl | exact subParts hm (by decide) | with_reducible apply State.grdCause_effect | with_reducible apply State.grdShow_effect | with_reducible apply State.modGrd_effect | with_reducible apply State.raise1_effect | with_reducible apply State.bump_effect | with_reducible apply State.wrn_effect | with_reducible apply Effect.ite | split | dsimp only | exact bitParts hm (by decide) | exact bitOff hm (by decide) | exact bitPlus hm (by decide) | exact bitKey hm (by decide) | rfl

theorem State.grdDecide_effect {msk : Nat} {s0 : State} (s : State) (disagree : Nat) (hm : 0xc0080000c0800 &&& msk = 0xc0080000c0800) (h_s : Effect msk s0 s) :
    Effect msk s0 (State.grdDecide s disagree) := by
  unfold State.grdDecide
  repeat' first | with_reducible intro _ | with_reducible assumption | with_reducible rfl | exact subParts hm (by decide) | with_reducible apply State.grdWithhold_effect | with_reducible apply State.grdRelease_effect | with_reducible apply State.grdArm_effect | with_reducible apply State.grdDegrade_effect | with_reducible apply State.grdAbsent_effect | with_reducible apply State.modGrd_effect | with_reducible apply Effect.ite | split | dsimp only | exact bitParts hm (by decide) | exact bitOff hm (by decide) | exact bitPlus hm (by decide) | exact bitKey hm (by decide) | rfl

theorem State.grdWithdrawn_effect {msk : Nat} {s0 : State} (s : State) (hm : 0x8000000800 &&& msk = 0x8000000800) (h_s : Effect msk s0 s) :
    Effect msk s0 (State.grdWithdrawn s) := by
  unfold State.grdWithdrawn
  repeat' first | with_reducible intro _ | with_reducible assumption | with_reducible rfl | exact subParts hm (by decide) | with_reducible apply State.modGrd_effect | with_reducible apply State.wr_effect | with_reducible apply Effect.ite | split | dsimp only | exact bitParts hm (by decide) | exact bitOff hm (by decide) | rfl

theorem State.grdPowerUp_effect {msk : Nat} {s0 : State} (s : State) (slew : Fin 4) (hm : 0xc0080000c0801 &&& msk = 0xc0080000c0801) (h_s : Effect msk s0 s) :
    Effect msk s0 (State.grdPowerUp s slew) := by
  unfold State.grdPowerUp
  repeat' first | with_reducible intro _ | with_reducible assumption | with_reducible rfl | exact subParts hm (by decide) | with_reducible apply State.grdDegrade_effect | with_reducible apply State.grdCause_effect | with_reducible apply State.grdShow_effect | with_reducible apply State.modGrd_effect | with_reducible apply State.raise_effect | with_reducible apply State.setTo_effect | with_reducible apply State.wrWords_effect | with_reducible apply State.wr_effect | with_reducible apply Effect.forEach | with_reducible apply Effect.ite | split | dsimp only | exact bitParts hm (by decide) | exact bitOff hm (by decide) | exact bitPlus hm (by decide) | exact bitKey hm (by decide) | rfl

theorem State.grdJudge_effect {msk : Nat} {s0 : State} (s : State) (fail : Nat) (hm : 0xc0080000c0801 &&& msk = 0xc0080000c0801) (h_s : Effect msk s0 s) :
    Effect msk s0 (State.grdJudge s fail) := by
  unfold State.grdJudge
  repeat' first | with_reducible intro _ | with_reducible assumption | with_reducible rfl | exact subParts hm (by decide) | with_reducible apply State.grdEnterSafe_effect | with_reducible apply State.grdCause_effect | with_reducible apply State.grdGo_effect | with_reducible apply State.raise2_effect | with_reducible apply State.setTo_effect | with_reducible apply State.put_effect | with_reducible apply State.wrWords_effect | with_reducible apply State.wrn_effect | with_reducible apply Effect.ite | split | dsimp only | exact bitParts hm (by decide) | exact bitOff hm (by decide) | exact bitPlus hm (by decide) | exact bitKey hm (by decide) | rfl

theorem State.grdTake_effect {msk : Nat} {s0 : State} (s : State) (bytes : List Byte) (fail : Nat) (hm : 0xc0080000c0801 &&& msk = 0xc0080000c0801) (h_s : Effect msk s0 s) :
    Effect msk s0 (State.grdTake s bytes fail) := by
  unfold State.grdTake
  repeat' first | with_reducible intro _ | with_reducible assumption | with_reducible rfl | exact subParts hm (by decide) | with_reducible apply State.grdJudge_effect | with_reducible apply State.modGrd_effect | with_reducible apply Effect.ite | split | dsimp only | rfl

theorem State.grdEds_effect {msk : Nat} {s0 : State} (s : State) (hm : 0xc0080000c0800 &&& msk = 0xc0080000c0800) (h_s : Effect msk s0 s) :
    Effect msk s0 (State.grdEds s) := by
  unfold State.grdEds
  repeat' first | with_reducible intro _ | with_reducible assumption | with_reducible rfl | exact subParts hm (by decide) | with_reducible apply State.grdCause_effect | with_reducible apply State.modGrd_effect | with_reducible apply State.raise_effect | with_reducible apply State.setTo_effect | with_reducible apply Effect.ite | split | dsimp only | exact bitParts hm (by decide) | exact bitOff hm (by decide) | exact bitPlus hm (by decide) | exact bitKey hm (by decide) | rfl

theorem State.grdGt_effect {msk : Nat} {s0 : State} (s : State) (hm : 0xc0080000c0800 &&& msk = 0xc0080000c0800) (h_s : Effect msk s0 s) :
    Effect msk s0 (State.grdGt s) := by
  unfold State.grdGt
  repeat' first | with_reducible intro _ | with_reducible assumption | with_reducible rfl | exact subParts hm (by decide) | with_reducible apply State.grdCause_effect | with_reducible apply State.modGrd_effect | with_reducible apply State.setTo_effect | with_reducible apply Effect.ite | split | dsimp only | exact bitParts hm (by decide) | exact bitOff hm (by decide) | exact bitPlus hm (by decide) | exact bitKey hm (by decide) | rfl

theorem State.grdInput_effect {msk : Nat} {s0 : State} (s : State) (gt : Bool) (hm : 0xc0080000c0800 &&& msk = 0xc0080000c0800) (h_s : Effect msk s0 s) :
    Effect msk s0 (State.grdInput s gt) := by
  unfold State.grdInput
  repeat' first | with_reducible intro _ | with_reducible assumption | with_reducible rfl | exact subParts hm (by decide) | with_reducible apply State.grdCause_effect | with_reducible apply State.modGrd_effect | with_reducible apply Effect.ite | split | dsimp only | exact bitParts hm (by decide) | exact bitOff hm (by decide) | exact bitPlus hm (by decide) | exact bitKey hm (by decide) | rfl

theorem State.grdInputs_effect {msk : Nat} {s0 : State} (s : State) (hm : 0xc0080000c0800 &&& msk = 0xc0080000c0800) (h_s : Effect msk s0 s) :
    Effect msk s0 (State.grdInputs s) := by
  unfold State.grdInputs
  repeat' first | with_reducible intro _ | with_reducible assumption | with_reducible rfl | exact subParts hm (by decide) | with_reducible apply State.grdInput_effect | with_reducible apply Effect.ite | split | dsimp only | exact bitParts hm (by decide) | exact bitOff hm (by decide) | exact bitPlus hm (by decide) | exact bitKey hm (by decide) | rfl

theorem State.grdStays_effect {msk : Nat} {s0 : State} (s : State) (gt : Bool) (hm : 0x27efcc0000c2800 &&& msk = 0x27efcc0000c2800) (h_s : Effect msk s0 s) :
    Effect msk s0 (State.grdStays s gt) := by
  unfold State.grdStays
  repeat' first | with_reducible intro _ | with_reducible assumption | with_reducible rfl | exact subParts hm (by decide) | with_reducible apply State.grdInput_effect | with_reducible apply State.runTo_effect | with_reducible apply Effect.ite | split | dsimp only | exact bitParts hm (by decide) | exact bitOff hm (by decide) | exact bitPlus hm (by decide) | exact bitKey hm (by decide) | rfl

theorem State.grdRst_effect {msk : Nat} {s0 : State} (s : State) (low : Nat) (hm : 0xc0080000c0800 &&& msk = 0xc0080000c0800) (h_s : Effect msk s0 s) :
    Effect msk s0 (State.grdRst s low) := by
  unfold State.grdRst
  repeat' first | with_reducible intro _ | with_reducible assumption | with_reducible rfl | exact subParts hm (by decide) | with_reducible apply State.grdUntrip_effect | with_reducible apply State.grdInputs_effect | with_reducible apply State.modGrd_effect | with_reducible apply State.raise_effect | with_reducible apply Effect.ite | split | dsimp only | exact bitParts hm (by decide) | exact bitOff hm (by decide) | exact bitPlus hm (by decide) | exact bitKey hm (by decide) | rfl

theorem State.grdReadback_effect {msk : Nat} {s0 : State} (s : State) (bad0 bad1 : Bool) (hm : 0xc0080000c0800 &&& msk = 0xc0080000c0800) (h_s : Effect msk s0 s) :
    Effect msk s0 (State.grdReadback s bad0 bad1) := by
  unfold State.grdReadback
  repeat' first | with_reducible intro _ | with_reducible assumption | with_reducible rfl | exact subParts hm (by decide) | with_reducible apply State.grdDegrade_effect | with_reducible apply State.grdAbsent_effect | with_reducible apply State.grdCause_effect | with_reducible apply State.grdShow_effect | with_reducible apply State.modGrd_effect | with_reducible apply Effect.ite | split | dsimp only | rfl

end Sys2Proof.Machine
end

