-- ==== Sys2Proof/Laws/EffectHostIf.lean ====
section
/-! SUPPORT. What the operations of Machine/HostIf.lean do: the parts of the state that each may change. -/

set_option linter.unusedTactic false
set_option linter.unusedVariables false
set_option linter.unreachableTactic false

namespace Sys2Proof.Machine

theorem State.modHif_effect {msk : Nat} {s0 : State} (s : State) (f : HostIf → HostIf) (hm : 0x4000000000000 &&& msk = 0x4000000000000) (h_s : Effect msk s0 s) :
    Effect msk s0 (State.modHif s f) := by
  unfold State.modHif
  repeat' first | with_reducible intro _ | with_reducible assumption | with_reducible rfl | with_reducible apply Effect.ite | split | dsimp only | with_reducible refine Effect.hif ?_ ?_ | exact bitParts hm (by decide) | rfl

theorem State.modRing_effect {msk : Nat} {s0 : State} (s : State) (k : Nat) (f : Ring → Ring) (hm : 0x4000000000000 &&& msk = 0x4000000000000) (h_s : Effect msk s0 s) :
    Effect msk s0 (State.modRing s k f) := by
  unfold State.modRing
  repeat' first | with_reducible intro _ | with_reducible assumption | with_reducible rfl | exact subParts hm (by decide) | with_reducible apply State.modHif_effect | with_reducible apply Effect.ite | split | dsimp only | rfl

theorem State.zeroRing_effect {msk : Nat} {s0 : State} (s : State) (k : Nat) (hm : 0x4000000040000 &&& msk = 0x4000000040000) (h_s : Effect msk s0 s) :
    Effect msk s0 (State.zeroRing s k) := by
  unfold State.zeroRing
  repeat' first | with_reducible intro _ | with_reducible assumption | with_reducible rfl | exact subParts hm (by decide) | with_reducible apply State.modRing_effect | with_reducible apply State.put_effect | with_reducible apply Effect.ite | split | dsimp only | exact bitParts hm (by decide) | exact bitOff hm (by decide) | exact bitPlus hm (by decide) | exact bitKey hm (by decide) | rfl

theorem State.ringOn_effect {msk : Nat} {s0 : State} (s : State) (k : Nat) (hm : 0xc0000000c0000 &&& msk = 0xc0000000c0000) (h_s : Effect msk s0 s) :
    Effect msk s0 (State.ringOn s k) := by
  unfold State.ringOn
  repeat' first | with_reducible intro _ | with_reducible assumption | with_reducible rfl | exact subParts hm (by decide) | with_reducible apply State.zeroRing_effect | with_reducible apply State.raise_effect | with_reducible apply State.setTo_effect | with_reducible apply State.put_effect | with_reducible apply Effect.ite | split | dsimp only | exact bitParts hm (by decide) | exact bitOff hm (by decide) | rfl

theorem execRingEnable_effect {msk : Nat} {s0 : State} (_req : Req) (k : Fin 16) (s : State) (hm : 0xc0000000c0000 &&& msk = 0xc0000000c0000) (h_s : Effect msk s0 s) :
    EffectOut msk s0 (execRingEnable _req k s) := by
  unfold execRingEnable
  repeat' first | with_reducible intro _ | with_reducible assumption | with_reducible rfl | with_reducible refine EffectOut.gate ?_ ?_ | with_reducible refine EffectOut.next ?_ | exact subParts hm (by decide) | with_reducible apply State.ringOn_effect | with_reducible apply Effect.ite | split | dsimp only | rfl

theorem State.showFlight_effect {msk : Nat} {s0 : State} (s : State) (k : Nat) (hm : 0x40000 &&& msk = 0x40000) (h_s : Effect msk s0 s) :
    Effect msk s0 (State.showFlight s k) := by
  unfold State.showFlight
  repeat' first | with_reducible intro _ | with_reducible assumption | with_reducible rfl | exact subParts hm (by decide) | with_reducible apply State.put_effect | with_reducible apply Effect.ite | split | dsimp only | exact bitParts hm (by decide) | exact bitOff hm (by decide) | rfl

theorem State.drainEnd_effect {msk : Nat} {s0 : State} (s : State) (k : Nat) (hm : 0xc0000000c0000 &&& msk = 0xc0000000c0000) (h_s : Effect msk s0 s) :
    Effect msk s0 (State.drainEnd s k) := by
  unfold State.drainEnd
  repeat' first | with_reducible intro _ | with_reducible assumption | with_reducible rfl | exact subParts hm (by decide) | with_reducible apply State.zeroRing_effect | with_reducible apply State.raise_effect | with_reducible apply State.setTo_effect | with_reducible apply State.put_effect | with_reducible apply Effect.ite | split | dsimp only | exact bitParts hm (by decide) | exact bitOff hm (by decide) | rfl

theorem State.badDoorbell_effect {msk : Nat} {s0 : State} (s : State) (k : Nat) (hm : 0xc0000000c0000 &&& msk = 0xc0000000c0000) (h_s : Effect msk s0 s) :
    Effect msk s0 (State.badDoorbell s k) := by
  unfold State.badDoorbell
  repeat' first | with_reducible intro _ | with_reducible assumption | with_reducible rfl | exact subParts hm (by decide) | with_reducible apply State.raise1_effect | with_reducible apply State.bump_effect | with_reducible apply State.setTo_effect | with_reducible apply State.put_effect | with_reducible apply Effect.ite | split | dsimp only | exact bitParts hm (by decide) | exact bitOff hm (by decide) | rfl

theorem State.sqDoor_effect {msk : Nat} {s0 : State} (s : State) (k t : Nat) (hm : 0xc0000000c0000 &&& msk = 0xc0000000c0000) (h_s : Effect msk s0 s) :
    Effect msk s0 (State.sqDoor s k t) := by
  unfold State.sqDoor
  repeat' first | with_reducible intro _ | with_reducible assumption | with_reducible rfl | exact subParts hm (by decide) | with_reducible apply State.badDoorbell_effect | with_reducible apply State.modRing_effect | with_reducible apply Effect.ite | split | dsimp only | exact bitParts hm (by decide) | exact bitOff hm (by decide) | exact bitPlus hm (by decide) | exact bitKey hm (by decide) | rfl

theorem execSqTail_effect {msk : Nat} {s0 : State} (k : Fin 16) (t : Word) (s : State) (hm : 0xc0000000c0000 &&& msk = 0xc0000000c0000) (h_s : Effect msk s0 s) :
    EffectOut msk s0 (execSqTail k t s) := by
  unfold execSqTail
  repeat' first | with_reducible intro _ | with_reducible assumption | with_reducible rfl | with_reducible refine EffectOut.gate ?_ ?_ | with_reducible refine EffectOut.next ?_ | exact subParts hm (by decide) | with_reducible apply State.sqDoor_effect | with_reducible apply Effect.ite | split | dsimp only | rfl

theorem State.cqDoor_effect {msk : Nat} {s0 : State} (s : State) (k h : Nat) (hm : 0xc0000000c0000 &&& msk = 0xc0000000c0000) (h_s : Effect msk s0 s) :
    Effect msk s0 (State.cqDoor s k h) := by
  unfold State.cqDoor
  repeat' first | with_reducible intro _ | with_reducible assumption | with_reducible rfl | exact subParts hm (by decide) | with_reducible apply State.badDoorbell_effect | with_reducible apply State.modRing_effect | with_reducible apply Effect.ite | split | dsimp only | rfl

theorem execCqHead_effect {msk : Nat} {s0 : State} (k : Fin 16) (h : Word) (s : State) (hm : 0xc0000000c0000 &&& msk = 0xc0000000c0000) (h_s : Effect msk s0 s) :
    EffectOut msk s0 (execCqHead k h s) := by
  unfold execCqHead
  repeat' first | with_reducible intro _ | with_reducible assumption | with_reducible rfl | with_reducible refine EffectOut.gate ?_ ?_ | with_reducible refine EffectOut.next ?_ | exact subParts hm (by decide) | with_reducible apply State.cqDoor_effect | with_reducible apply Effect.ite | split | dsimp only | rfl

theorem State.takeEntry_effect {msk : Nat} {s0 : State} (s : State) (k : Nat) (d : HostDesc) (hm : 0x4000000040000 &&& msk = 0x4000000040000) (h_s : Effect msk s0 s) :
    Effect msk s0 (State.takeEntry s k d) := by
  unfold State.takeEntry
  repeat' first | with_reducible intro _ | with_reducible assumption | with_reducible rfl | exact subParts hm (by decide) | with_reducible apply State.showFlight_effect | with_reducible apply State.modRing_effect | with_reducible apply State.put_effect | with_reducible apply Effect.ite | split | dsimp only | exact bitParts hm (by decide) | exact bitOff hm (by decide) | exact bitPlus hm (by decide) | exact bitKey hm (by decide) | rfl

theorem State.readFailed_effect {msk : Nat} {s0 : State} (s : State) (k : Nat) (r : HostRead) (hm : 0x4000000000000 &&& msk = 0x4000000000000) (h_s : Effect msk s0 s) :
    Effect msk s0 (State.readFailed s k r) := by
  unfold State.readFailed
  repeat' first | with_reducible intro _ | with_reducible assumption | with_reducible rfl | exact subParts hm (by decide) | with_reducible apply State.modRing_effect | with_reducible apply Effect.ite | split | dsimp only | exact bitParts hm (by decide) | exact bitOff hm (by decide) | exact bitPlus hm (by decide) | exact bitKey hm (by decide) | rfl

theorem State.sendRead_effect {msk : Nat} {s0 : State} (s : State) (k : Nat) (r : HostRead) (hm : 0x4000000000000 &&& msk = 0x4000000000000) (h_s : Effect msk s0 s) :
    Effect msk s0 (State.sendRead s k r) := by
  unfold State.sendRead
  repeat' first | with_reducible intro _ | with_reducible assumption | with_reducible rfl | exact subParts hm (by decide) | with_reducible apply State.modRing_effect | with_reducible apply State.modHif_effect | with_reducible apply Effect.ite | split | dsimp only | exact bitParts hm (by decide) | exact bitOff hm (by decide) | exact bitPlus hm (by decide) | exact bitKey hm (by decide) | rfl

theorem State.fetchEntry_effect {msk : Nat} {s0 : State} (s : State) (k : Nat) (e : HostData) (hm : 0x4000000040000 &&& msk = 0x4000000040000) (h_s : Effect msk s0 s) :
    Effect msk s0 (State.fetchEntry s k e) := by
  unfold State.fetchEntry
  repeat' first | with_reducible intro _ | with_reducible assumption | with_reducible rfl | exact subParts hm (by decide) | with_reducible apply State.sendRead_effect | with_reducible apply State.readFailed_effect | with_reducible apply State.takeEntry_effect | with_reducible apply State.modHif_effect | with_reducible apply Effect.ite | split | dsimp only | exact bitParts hm (by decide) | exact bitOff hm (by decide) | exact bitPlus hm (by decide) | exact bitKey hm (by decide) | rfl

theorem State.modDesc_effect {msk : Nat} {s0 : State} (s : State) (k uid : Nat) (f : HostDesc → HostDesc) (hm : 0x4000000000000 &&& msk = 0x4000000000000) (h_s : Effect msk s0 s) :
    Effect msk s0 (State.modDesc s k uid f) := by
  unfold State.modDesc
  repeat' first | with_reducible intro _ | with_reducible assumption | with_reducible rfl | exact subParts hm (by decide) | with_reducible apply State.modRing_effect | with_reducible apply Effect.ite | split | dsimp only | exact bitParts hm (by decide) | exact bitOff hm (by decide) | exact bitPlus hm (by decide) | exact bitKey hm (by decide) | rfl

theorem State.oldEnded_effect {msk : Nat} {s0 : State} (s : State) (hm : 0x4000000040000 &&& msk = 0x4000000040000) (h_s : Effect msk s0 s) :
    Effect msk s0 (State.oldEnded s) := by
  unfold State.oldEnded
  repeat' first | with_reducible intro _ | with_reducible assumption | with_reducible rfl | exact subParts hm (by decide) | with_reducible apply State.modHif_effect | with_reducible apply State.setTo_effect | with_reducible apply Effect.ite | split | dsimp only | exact bitParts hm (by decide) | exact bitOff hm (by decide) | rfl

theorem State.endDesc_effect {msk : Nat} {s0 : State} (s : State) (k uid status detail : Nat) (info : List Byte) (hm : 0xc0000000c0000 &&& msk = 0xc0000000c0000) (h_s : Effect msk s0 s) :
    Effect msk s0 (State.endDesc s k uid status detail info) := by
  unfold State.endDesc
  repeat' first | with_reducible intro _ | with_reducible assumption | with_reducible rfl | exact subParts hm (by decide) | with_reducible apply State.oldEnded_effect | with_reducible apply State.modDesc_effect | with_reducible apply Effect.ite | split | dsimp only | exact bitParts hm (by decide) | exact bitOff hm (by decide) | exact bitPlus hm (by decide) | exact bitKey hm (by decide) | rfl

theorem State.completionEvent_effect {msk : Nat} {s0 : State} (s : State) (k : Nat) (d : HostDesc) (hm : 0xc0000000c0000 &&& msk = 0xc0000000c0000) (h_s : Effect msk s0 s) :
    Effect msk s0 (State.completionEvent s k d) := by
  unfold State.completionEvent
  repeat' first | with_reducible intro _ | with_reducible assumption | with_reducible rfl | exact subParts hm (by decide) | with_reducible apply State.raise_effect | with_reducible apply State.raise2_effect | with_reducible apply Effect.ite | split | dsimp only | exact bitParts hm (by decide) | exact bitOff hm (by decide) | exact bitPlus hm (by decide) | exact bitKey hm (by decide) | rfl

theorem State.runDesc_effect {msk : Nat} {s0 : State} (s : State) (k uid : Nat) (hm : 0x4000000000000 &&& msk = 0x4000000000000) (h_s : Effect msk s0 s) :
    Effect msk s0 (State.runDesc s k uid) := by
  unfold State.runDesc
  repeat' first | with_reducible intro _ | with_reducible assumption | with_reducible rfl | exact subParts hm (by decide) | with_reducible apply State.modDesc_effect | with_reducible apply Effect.ite | split | dsimp only | exact bitParts hm (by decide) | exact bitOff hm (by decide) | exact bitPlus hm (by decide) | exact bitKey hm (by decide) | rfl

theorem State.hostNop_effect {msk : Nat} {s0 : State} (s : State) (k : Nat) (hm : 0xc0000000c0000 &&& msk = 0xc0000000c0000) (h_s : Effect msk s0 s) :
    Effect msk s0 (State.hostNop s k) := by
  unfold State.hostNop
  repeat' first | with_reducible intro _ | with_reducible assumption | with_reducible rfl | exact subParts hm (by decide) | with_reducible apply State.endDesc_effect | with_reducible apply Effect.ite | split | dsimp only | exact bitParts hm (by decide) | exact bitOff hm (by decide) | exact bitPlus hm (by decide) | exact bitKey hm (by decide) | rfl

theorem State.copyOut_effect {msk : Nat} {s0 : State} (s : State) (k : Nat) (hm : 0xc0000000c0000 &&& msk = 0xc0000000c0000) (h_s : Effect msk s0 s) :
    Effect msk s0 (State.copyOut s k) := by
  unfold State.copyOut
  repeat' first | with_reducible intro _ | with_reducible assumption | with_reducible rfl | exact subParts hm (by decide) | with_reducible apply State.endDesc_effect | with_reducible apply State.postData_effect | with_reducible apply Effect.ite | split | dsimp only | exact bitParts hm (by decide) | exact bitOff hm (by decide) | exact bitPlus hm (by decide) | exact bitKey hm (by decide) | rfl

theorem State.cqMessage_effect {msk : Nat} {s0 : State} (s : State) (k : Nat) (hm : 0x4000000040000 &&& msk = 0x4000000040000) (h_s : Effect msk s0 s) :
    Effect msk s0 (State.cqMessage s k) := by
  unfold State.cqMessage
  repeat' first | with_reducible intro _ | with_reducible assumption | with_reducible rfl | exact subParts hm (by decide) | with_reducible apply State.modRing_effect | with_reducible apply State.message_effect | with_reducible apply Effect.ite | split | dsimp only | rfl

theorem State.threshMessage_effect {msk : Nat} {s0 : State} (s : State) (k : Nat) (hm : 0x4000000040000 &&& msk = 0x4000000040000) (h_s : Effect msk s0 s) :
    Effect msk s0 (State.threshMessage s k) := by
  unfold State.threshMessage
  repeat' first | with_reducible intro _ | with_reducible assumption | with_reducible rfl | exact subParts hm (by decide) | with_reducible apply State.cqMessage_effect | with_reducible apply Effect.ite | split | dsimp only | exact bitParts hm (by decide) | exact bitOff hm (by decide) | exact bitPlus hm (by decide) | exact bitKey hm (by decide) | rfl

theorem State.countIrq_effect {msk : Nat} {s0 : State} (s : State) (k : Nat) (hm : 0x4000000040000 &&& msk = 0x4000000040000) (h_s : Effect msk s0 s) :
    Effect msk s0 (State.countIrq s k) := by
  unfold State.countIrq
  repeat' first | with_reducible intro _ | with_reducible assumption | with_reducible rfl | exact subParts hm (by decide) | with_reducible apply State.threshMessage_effect | with_reducible apply State.modRing_effect | with_reducible apply Effect.ite | split | dsimp only | exact bitParts hm (by decide) | exact bitOff hm (by decide) | exact bitPlus hm (by decide) | exact bitKey hm (by decide) | rfl

theorem State.advanceCq_effect {msk : Nat} {s0 : State} (s : State) (k : Nat) (hm : 0x40000 &&& msk = 0x40000) (h_s : Effect msk s0 s) :
    Effect msk s0 (State.advanceCq s k) := by
  unfold State.advanceCq
  repeat' first | with_reducible intro _ | with_reducible assumption | with_reducible rfl | exact subParts hm (by decide) | with_reducible apply State.put_effect | with_reducible apply Effect.ite | split | dsimp only | exact bitParts hm (by decide) | exact bitOff hm (by decide) | rfl

theorem State.completeHead_effect {msk : Nat} {s0 : State} (s : State) (k : Nat) (hm : 0xc0000000c0000 &&& msk = 0xc0000000c0000) (h_s : Effect msk s0 s) :
    Effect msk s0 (State.completeHead s k) := by
  unfold State.completeHead
  repeat' first | with_reducible intro _ | with_reducible assumption | with_reducible rfl | exact subParts hm (by decide) | with_reducible apply State.advanceCq_effect | with_reducible apply State.countIrq_effect | with_reducible apply State.completionEvent_effect | with_reducible apply State.drainEnd_effect | with_reducible apply State.showFlight_effect | with_reducible apply State.modRing_effect | with_reducible apply State.post_effect | with_reducible apply State.bump_effect | with_reducible apply Effect.ite | split | dsimp only | exact bitParts hm (by decide) | exact bitOff hm (by decide) | exact bitPlus hm (by decide) | exact bitKey hm (by decide) | rfl

theorem execCompletionWrite_effect {msk : Nat} {s0 : State} (k : Fin 16) (s : State) (hm : 0xc0000000c0000 &&& msk = 0xc0000000c0000) (h_s : Effect msk s0 s) :
    EffectOut msk s0 (execCompletionWrite k s) := by
  unfold execCompletionWrite
  repeat' first | with_reducible intro _ | with_reducible assumption | with_reducible rfl | with_reducible refine EffectOut.gate ?_ ?_ | with_reducible refine EffectOut.next ?_ | exact subParts hm (by decide) | with_reducible apply State.completeHead_effect | with_reducible apply Effect.ite | split | dsimp only | rfl

theorem State.cqTimer_effect {msk : Nat} {s0 : State} (s : State) (k : Nat) (hm : 0x27efcc0000c2000 &&& msk = 0x27efcc0000c2000) (h_s : Effect msk s0 s) :
    Effect msk s0 (State.cqTimer s k) := by
  unfold State.cqTimer
  repeat' first | with_reducible intro _ | with_reducible assumption | with_reducible rfl | exact subParts hm (by decide) | with_reducible apply State.cqMessage_effect | with_reducible apply State.runTo_effect | with_reducible apply Effect.ite | split | dsimp only | rfl

theorem execCqTimer_effect {msk : Nat} {s0 : State} (k : Fin 16) (s : State) (hm : 0x27efcc0000c2000 &&& msk = 0x27efcc0000c2000) (h_s : Effect msk s0 s) :
    EffectOut msk s0 (execCqTimer k s) := by
  unfold execCqTimer
  repeat' first | with_reducible intro _ | with_reducible assumption | with_reducible rfl | with_reducible refine EffectOut.gate ?_ ?_ | with_reducible refine EffectOut.next ?_ | exact subParts hm (by decide) | with_reducible apply State.cqTimer_effect | with_reducible apply Effect.ite | split | dsimp only | rfl

theorem State.aerReport_effect {msk : Nat} {s0 : State} (s : State) (hm : 0xc0000000c0000 &&& msk = 0xc0000000c0000) (h_s : Effect msk s0 s) :
    Effect msk s0 (State.aerReport s) := by
  unfold State.aerReport
  repeat' first | with_reducible intro _ | with_reducible assumption | with_reducible rfl | exact subParts hm (by decide) | with_reducible apply State.raise_effect | with_reducible apply State.setTo_effect | with_reducible apply Effect.ite | split | dsimp only | exact bitParts hm (by decide) | exact bitOff hm (by decide) | exact bitPlus hm (by decide) | exact bitKey hm (by decide) | rfl

theorem State.dmaError_effect {msk : Nat} {s0 : State} (s : State) (k : Nat) (r : HostRead) (hm : 0xc0000000c0000 &&& msk = 0xc0000000c0000) (h_s : Effect msk s0 s) :
    Effect msk s0 (State.dmaError s k r) := by
  unfold State.dmaError
  repeat' first | with_reducible intro _ | with_reducible assumption | with_reducible rfl | exact subParts hm (by decide) | with_reducible apply State.aerReport_effect | with_reducible apply State.endDesc_effect | with_reducible apply State.takeEntry_effect | with_reducible apply State.modRing_effect | with_reducible apply State.bump_effect | with_reducible apply State.setTo_effect | with_reducible apply Effect.ite | split | dsimp only | exact bitParts hm (by decide) | exact bitOff hm (by decide) | exact bitPlus hm (by decide) | exact bitKey hm (by decide) | rfl

theorem State.hostTimeout_effect {msk : Nat} {s0 : State} (s : State) (k : Nat) (hm : 0x27efcc0000c2000 &&& msk = 0x27efcc0000c2000) (h_s : Effect msk s0 s) :
    Effect msk s0 (State.hostTimeout s k) := by
  unfold State.hostTimeout
  repeat' first | with_reducible intro _ | with_reducible assumption | with_reducible rfl | exact subParts hm (by decide) | with_reducible apply State.dmaError_effect | with_reducible apply State.sendRead_effect | with_reducible apply State.readFailed_effect | with_reducible apply State.runTo_effect | with_reducible apply State.bump_effect | with_reducible apply Effect.ite | split | dsimp only | exact bitParts hm (by decide) | exact bitOff hm (by decide) | exact bitPlus hm (by decide) | exact bitKey hm (by decide) | rfl

theorem State.clearPend_effect {msk : Nat} {s0 : State} (s : State) (r : Req) (i mask hwSet : Nat) (hm : 0x4000000040000 &&& msk = 0x4000000040000) (h_s : Effect msk s0 s) :
    Effect msk s0 (State.clearPend s r i mask hwSet) := by
  unfold State.clearPend
  repeat' first | with_reducible intro _ | with_reducible assumption | with_reducible rfl | exact subParts hm (by decide) | with_reducible apply State.notifyGroup_effect | with_reducible apply State.wr_effect | with_reducible apply Effect.ite | split | dsimp only | exact bitParts hm (by decide) | exact bitOff hm (by decide) | rfl

theorem execHifEvPendClear_effect {msk : Nat} {s0 : State} (req : Req) (i : Fin 8) (mask : Word) (hwSet : Nat) (s : State) (hm : 0x4000000040000 &&& msk = 0x4000000040000) (h_s : Effect msk s0 s) :
    EffectOut msk s0 (execHifEvPendClear req i mask hwSet s) := by
  unfold execHifEvPendClear
  repeat' first | with_reducible intro _ | with_reducible assumption | with_reducible rfl | with_reducible refine EffectOut.gate ?_ ?_ | with_reducible refine EffectOut.next ?_ | exact subParts hm (by decide) | with_reducible apply State.clearPend_effect | with_reducible apply Effect.ite | split | dsimp only | rfl

theorem State.unmask_effect {msk : Nat} {s0 : State} (s : State) (v : Nat) (hm : 0x4000000040000 &&& msk = 0x4000000040000) (h_s : Effect msk s0 s) :
    Effect msk s0 (State.unmask s v) := by
  unfold State.unmask
  repeat' first | with_reducible intro _ | with_reducible assumption | with_reducible rfl | exact subParts hm (by decide) | with_reducible apply State.message_effect | with_reducible apply State.post_effect | with_reducible apply State.setTo_effect | with_reducible apply State.wrn_effect | with_reducible apply Effect.ite | split | dsimp only | exact bitParts hm (by decide) | exact bitOff hm (by decide) | rfl

theorem execMsixUnmask_effect {msk : Nat} {s0 : State} (v : Fin 64) (s : State) (hm : 0x4000000040000 &&& msk = 0x4000000040000) (h_s : Effect msk s0 s) :
    EffectOut msk s0 (execMsixUnmask v s) := by
  unfold execMsixUnmask
  repeat' first | with_reducible intro _ | with_reducible assumption | with_reducible rfl | with_reducible refine EffectOut.gate ?_ ?_ | with_reducible refine EffectOut.next ?_ | exact subParts hm (by decide) | with_reducible apply State.unmask_effect | with_reducible apply Effect.ite | split | dsimp only | rfl

theorem State.pcieLink_effect {msk : Nat} {s0 : State} (s : State) (up : Bool) (speed width : Nat) (hm : 0xc0000000c0000 &&& msk = 0xc0000000c0000) (h_s : Effect msk s0 s) :
    Effect msk s0 (State.pcieLink s up speed width) := by
  unfold State.pcieLink
  repeat' first | with_reducible intro _ | with_reducible assumption | with_reducible rfl | exact subParts hm (by decide) | with_reducible apply State.raise1_effect | with_reducible apply State.setTo_effect | with_reducible apply State.put_effect | with_reducible apply Effect.ite | split | dsimp only | exact bitParts hm (by decide) | exact bitOff hm (by decide) | exact bitPlus hm (by decide) | exact bitKey hm (by decide) | rfl

theorem execPcieLinkChange_effect {msk : Nat} {s0 : State} (up : Bool) (speed width : Fin 5) (s : State) (hm : 0xc0000000c0000 &&& msk = 0xc0000000c0000) (h_s : Effect msk s0 s) :
    EffectOut msk s0 (execPcieLinkChange up speed width s) := by
  unfold execPcieLinkChange
  repeat' first | with_reducible intro _ | with_reducible assumption | with_reducible rfl | with_reducible refine EffectOut.gate ?_ ?_ | with_reducible refine EffectOut.next ?_ | exact subParts hm (by decide) | with_reducible apply State.pcieLink_effect | with_reducible apply Effect.ite | split | dsimp only | rfl

theorem State.busMaster_effect {msk : Nat} {s0 : State} (s : State) (bme d3 : Bool) (hm : 0xc0000000c0000 &&& msk = 0xc0000000c0000) (h_s : Effect msk s0 s) :
    Effect msk s0 (State.busMaster s bme d3) := by
  unfold State.busMaster
  repeat' first | with_reducible intro _ | with_reducible assumption | with_reducible rfl | exact subParts hm (by decide) | with_reducible apply State.raise_effect | with_reducible apply State.drainPosted_effect | with_reducible apply State.setTo_effect | with_reducible apply Effect.ite | split | dsimp only | exact bitParts hm (by decide) | exact bitOff hm (by decide) | rfl

theorem execBusMasterChange_effect {msk : Nat} {s0 : State} (bme d3hot : Bool) (s : State) (hm : 0xc0000000c0000 &&& msk = 0xc0000000c0000) (h_s : Effect msk s0 s) :
    EffectOut msk s0 (execBusMasterChange bme d3hot s) := by
  unfold execBusMasterChange
  repeat' first | with_reducible intro _ | with_reducible assumption | with_reducible rfl | with_reducible refine EffectOut.gate ?_ ?_ | with_reducible refine EffectOut.next ?_ | exact subParts hm (by decide) | with_reducible apply State.busMaster_effect | with_reducible apply Effect.ite | split | dsimp only | rfl

end Sys2Proof.Machine
end

