-- ==== Sys2Proof/Laws/EffectDio.lean ====
section
/-! SUPPORT. What the operations of Machine/Dio.lean do: the parts of the state that each may change. -/

set_option linter.unusedTactic false
set_option linter.unusedVariables false
set_option linter.unreachableTactic false

namespace Sys2Proof.Machine

theorem State.modPin_effect {msk : Nat} {s0 : State} (s : State) (p : Nat) (f : Pin → Pin) (hm : 0x1000000000000 &&& msk = 0x1000000000000) (h_s : Effect msk s0 s) :
    Effect msk s0 (State.modPin s p f) := by
  unfold State.modPin
  repeat' first | with_reducible intro _ | with_reducible assumption | with_reducible rfl | with_reducible apply Effect.ite | split | dsimp only | with_reducible refine Effect.dio ?_ ?_ | exact bitParts hm (by decide) | rfl

theorem State.setPair_effect {m : Nat} {s0 : State} (s : State) (lo p : Nat) (b : Bool) (hk : m.testBit (lo / 0x10000 % 32) = true)
    (h : Effect m s0 s) : Effect m s0 (s.setPair lo p b) := State.wrn_effect _ _ _ (by rw [blockOff_div]; exact hk) h

theorem State.settlePin_effect {msk : Nat} {s0 : State} (p : Nat) (s : State) (hm : 0xd0000000d0000 &&& msk = 0xd0000000d0000) (h_s : Effect msk s0 s) :
    Effect msk s0 (State.settlePin p s) := by
  unfold State.settlePin
  repeat' first | with_reducible intro _ | with_reducible assumption | with_reducible rfl | exact subParts hm (by decide) | with_reducible apply State.modPin_effect | with_reducible apply State.raise1_effect | with_reducible apply State.put_effect | with_reducible apply Effect.ite | split | dsimp only | exact bitParts hm (by decide) | exact bitOff hm (by decide) | rfl

theorem State.dioSettle_effect {msk : Nat} {s0 : State} (s : State) (hm : 0xd0000000d0200 &&& msk = 0xd0000000d0200) (h_s : Effect msk s0 s) :
    Effect msk s0 (State.dioSettle s) := by
  unfold State.dioSettle
  repeat' first | with_reducible intro _ | with_reducible assumption | with_reducible rfl | exact subParts hm (by decide) | with_reducible apply State.settlePin_effect | with_reducible apply State.setTo_effect | with_reducible apply Effect.forEach | with_reducible apply Effect.ite | split | dsimp only | exact bitParts hm (by decide) | exact bitOff hm (by decide) | rfl

theorem State.dioEdge_effect {msk : Nat} {s0 : State} (s : State) (p : Nat) (raw : Bool) (hm : 0x1000000010000 &&& msk = 0x1000000010000) (h_s : Effect msk s0 s) :
    Effect msk s0 (State.dioEdge s p raw) := by
  unfold State.dioEdge
  repeat' first | with_reducible intro _ | with_reducible assumption | with_reducible rfl | exact subParts hm (by decide) | with_reducible apply State.setPair_effect | with_reducible apply State.modPin_effect | with_reducible apply Effect.ite | split | dsimp only | exact bitParts hm (by decide) | exact bitOff hm (by decide) | exact bitPlus hm (by decide) | exact bitKey hm (by decide) | rfl

theorem State.invChange_effect {msk : Nat} {s0 : State} (s old : State) (p : Nat) (hm : 0x1000000010000 &&& msk = 0x1000000010000) (h_s : Effect msk s0 s) (h_old : Effect msk s0 old) :
    Effect msk s0 (State.invChange s old p) := by
  unfold State.invChange
  repeat' first | with_reducible intro _ | with_reducible assumption | with_reducible rfl | exact subParts hm (by decide) | with_reducible apply State.setPair_effect | with_reducible apply State.modPin_effect | with_reducible apply Effect.ite | split | dsimp only | exact bitParts hm (by decide) | exact bitOff hm (by decide) | exact bitPlus hm (by decide) | exact bitKey hm (by decide) | rfl

theorem execDioEdge_effect {msk : Nat} {s0 : State} (pin : Fin 64) (level : Bool) (s : State) (hm : 0x1000000010000 &&& msk = 0x1000000010000) (h_s : Effect msk s0 s) :
    EffectOut msk s0 (execDioEdge pin level s) := by
  unfold execDioEdge
  repeat' first | with_reducible intro _ | with_reducible assumption | with_reducible rfl | with_reducible refine EffectOut.gate ?_ ?_ | with_reducible refine EffectOut.next ?_ | exact subParts hm (by decide) | with_reducible apply State.dioEdge_effect | with_reducible apply Effect.ite | split | dsimp only | rfl

theorem State.latchPin_effect {msk : Nat} {s0 : State} (p : Nat) (s : State) (hm : 0x1000000010000 &&& msk = 0x1000000010000) (h_s : Effect msk s0 s) :
    Effect msk s0 (State.latchPin p s) := by
  unfold State.latchPin
  repeat' first | with_reducible intro _ | with_reducible assumption | with_reducible rfl | exact subParts hm (by decide) | with_reducible apply State.modPin_effect | with_reducible apply State.wrn_effect | with_reducible apply State.wr_effect | with_reducible apply Effect.ite | split | dsimp only | exact bitParts hm (by decide) | exact bitOff hm (by decide) | exact bitPlus hm (by decide) | exact bitKey hm (by decide) | rfl

theorem State.dioLatch_effect {msk : Nat} {s0 : State} (s : State) (hm : 0x1000000010000 &&& msk = 0x1000000010000) (h_s : Effect msk s0 s) :
    Effect msk s0 (State.dioLatch s) := by
  unfold State.dioLatch
  repeat' first | with_reducible intro _ | with_reducible assumption | with_reducible rfl | exact subParts hm (by decide) | with_reducible apply State.latchPin_effect | with_reducible apply Effect.forEach | with_reducible apply Effect.ite | split | dsimp only | rfl

theorem State.dioFastLatch_effect {msk : Nat} {s0 : State} (s : State) (hm : 0x1000000000000 &&& msk = 0x1000000000000) (h_s : Effect msk s0 s) :
    Effect msk s0 (State.dioFastLatch s) := by
  unfold State.dioFastLatch
  repeat' first | with_reducible intro _ | with_reducible assumption | with_reducible rfl | with_reducible apply Effect.ite | split | dsimp only | with_reducible refine Effect.dio ?_ ?_ | exact bitParts hm (by decide) | rfl

theorem State.writeClaim_effect {msk : Nat} {s0 : State} (s : State) (req : Req) (hi : Bool) (mask : Nat) (hm : 0xd0000000d0200 &&& msk = 0xd0000000d0200) (h_s : Effect msk s0 s) :
    Effect msk s0 (State.writeClaim s req hi mask) := by
  unfold State.writeClaim
  repeat' first | with_reducible intro _ | with_reducible assumption | with_reducible rfl | exact subParts hm (by decide) | with_reducible apply State.dioSettle_effect | with_reducible apply State.modPin_effect | with_reducible apply State.wrn_effect | with_reducible apply Effect.forEach | with_reducible apply Effect.ite | split | dsimp only | exact bitParts hm (by decide) | exact bitOff hm (by decide) | rfl

theorem execDioClaim_effect {msk : Nat} {s0 : State} (req : Req) (hi : Bool) (mask : Word) (s : State) (hm : 0xd0000000d0200 &&& msk = 0xd0000000d0200) (h_s : Effect msk s0 s) :
    EffectOut msk s0 (execDioClaim req hi mask s) := by
  unfold execDioClaim
  repeat' first | with_reducible intro _ | with_reducible assumption | with_reducible rfl | with_reducible refine EffectOut.gate ?_ ?_ | with_reducible refine EffectOut.next ?_ | exact subParts hm (by decide) | with_reducible apply State.writeClaim_effect | with_reducible apply Effect.ite | split | dsimp only | rfl

theorem State.writeDioOut_effect {msk : Nat} {s0 : State} (s : State) (hi : Bool) (v : Nat) (hm : 0x10000 &&& msk = 0x10000) (h_s : Effect msk s0 s) :
    Effect msk s0 (State.writeDioOut s hi v) := by
  unfold State.writeDioOut
  repeat' first | with_reducible intro _ | with_reducible assumption | with_reducible rfl | exact subParts hm (by decide) | with_reducible apply State.wrn_effect | with_reducible apply Effect.ite | split | dsimp only | exact bitParts hm (by decide) | exact bitOff hm (by decide) | rfl

theorem execDioOut_effect {msk : Nat} {s0 : State} (req : Req) (hi : Bool) (v : Word) (s : State) (hm : 0x10000 &&& msk = 0x10000) (h_s : Effect msk s0 s) :
    EffectOut msk s0 (execDioOut req hi v s) := by
  unfold execDioOut
  repeat' first | with_reducible intro _ | with_reducible assumption | with_reducible rfl | with_reducible refine EffectOut.gate ?_ ?_ | with_reducible refine EffectOut.next ?_ | exact subParts hm (by decide) | with_reducible apply State.writeDioOut_effect | with_reducible apply Effect.ite | split | dsimp only | rfl

theorem State.applyStagedDio_effect {msk : Nat} {s0 : State} (s : State) (set : List (Nat × Word)) (hm : 0x1000000000000 &&& msk = 0x1000000000000) (h_s : Effect msk s0 s) :
    Effect msk s0 (State.applyStagedDio s set) := by
  unfold State.applyStagedDio
  repeat' first | with_reducible intro _ | with_reducible assumption | with_reducible rfl | exact subParts hm (by decide) | with_reducible apply State.modPin_effect | with_reducible apply Effect.forEach | with_reducible apply Effect.ite | split | dsimp only | rfl

end Sys2Proof.Machine
end

