-- ==== Sys2Proof/Laws/EffectXonlink.lean ====
section
/-! SUPPORT. What the operations of Machine/Xonlink.lean do: the parts of the state that each may change. -/

set_option linter.unusedTactic false
set_option linter.unusedVariables false
set_option linter.unreachableTactic false

namespace Sys2Proof.Machine

theorem State.modXl_effect {msk : Nat} {s0 : State} (s : State) (f : Xl → Xl) (hm : 0x80000000000 &&& msk = 0x80000000000) (h_s : Effect msk s0 s) :
    Effect msk s0 (State.modXl s f) := by
  unfold State.modXl
  repeat' first | with_reducible intro _ | with_reducible assumption | with_reducible rfl | with_reducible apply Effect.ite | split | dsimp only | with_reducible refine Effect.xl ?_ ?_ | exact bitParts hm (by decide) | rfl

theorem State.modXring_effect {msk : Nat} {s0 : State} (s : State) (r : Nat) (f : XlRing → XlRing) (hm : 0x80000000000 &&& msk = 0x80000000000) (h_s : Effect msk s0 s) :
    Effect msk s0 (State.modXring s r f) := by
  unfold State.modXring
  repeat' first | with_reducible intro _ | with_reducible assumption | with_reducible rfl | exact subParts hm (by decide) | with_reducible apply State.modXl_effect | with_reducible apply Effect.ite | split | dsimp only | rfl

theorem State.modXport_effect {msk : Nat} {s0 : State} (s : State) (p : Nat) (f : XlPort → XlPort) (hm : 0x80000000000 &&& msk = 0x80000000000) (h_s : Effect msk s0 s) :
    Effect msk s0 (State.modXport s p f) := by
  unfold State.modXport
  repeat' first | with_reducible intro _ | with_reducible assumption | with_reducible rfl | exact subParts hm (by decide) | with_reducible apply State.modXl_effect | with_reducible apply Effect.ite | split | dsimp only | rfl

theorem State.setWrap_effect {msk : Nat} {s0 : State} (s : State) (p : Nat) (b : Bool) (hm : 0x1000 &&& msk = 0x1000) (h_s : Effect msk s0 s) :
    Effect msk s0 (State.setWrap s p b) := by
  unfold State.setWrap
  repeat' first | with_reducible intro _ | with_reducible assumption | with_reducible rfl | exact subParts hm (by decide) | with_reducible apply State.put_effect | with_reducible apply Effect.ite | split | dsimp only | exact bitParts hm (by decide) | exact bitOff hm (by decide) | rfl

theorem State.startRing_effect {msk : Nat} {s0 : State} (s : State) (r : Nat) (hm : 0xc0800000c1000 &&& msk = 0xc0800000c1000) (h_s : Effect msk s0 s) :
    Effect msk s0 (State.startRing s r) := by
  unfold State.startRing
  repeat' first | with_reducible intro _ | with_reducible assumption | with_reducible rfl | exact subParts hm (by decide) | with_reducible apply State.modXring_effect | with_reducible apply State.raise_effect | with_reducible apply State.put_effect | with_reducible apply Effect.foldl | with_reducible apply Effect.ite | split | dsimp only | exact bitParts hm (by decide) | exact bitOff hm (by decide) | rfl

theorem State.xlConfig_effect {msk : Nat} {s0 : State} (s : State) (t0 t1 : List Byte) (hm : 0xc0800000c1000 &&& msk = 0xc0800000c1000) (h_s : Effect msk s0 s) :
    Effect msk s0 (State.xlConfig s t0 t1) := by
  unfold State.xlConfig
  repeat' first | with_reducible intro _ | with_reducible assumption | with_reducible rfl | exact subParts hm (by decide) | with_reducible apply State.startRing_effect | with_reducible apply State.modXring_effect | with_reducible apply State.put_effect | with_reducible apply Effect.ite | split | dsimp only | exact bitParts hm (by decide) | exact bitOff hm (by decide) | rfl

theorem State.xlSend_effect {msk : Nat} {s0 : State} (s : State) (p t : Nat) (frame : List Byte) (hm : 0x80000000000 &&& msk = 0x80000000000) (h_s : Effect msk s0 s) :
    Effect msk s0 (State.xlSend s p t frame) := by
  unfold State.xlSend
  repeat' first | with_reducible intro _ | with_reducible assumption | with_reducible rfl | exact subParts hm (by decide) | with_reducible apply State.modXl_effect | with_reducible apply Effect.ite | split | dsimp only | exact bitParts hm (by decide) | exact bitOff hm (by decide) | exact bitPlus hm (by decide) | exact bitKey hm (by decide) | rfl

theorem State.xlPut_effect {msk : Nat} {s0 : State} (s : State) (p t : Nat) (frame : List Byte) (hm : 0x80000000000 &&& msk = 0x80000000000) (h_s : Effect msk s0 s) :
    Effect msk s0 (State.xlPut s p t frame) := by
  unfold State.xlPut
  repeat' first | with_reducible intro _ | with_reducible assumption | with_reducible rfl | exact subParts hm (by decide) | with_reducible apply State.xlSend_effect | with_reducible apply Effect.ite | split | dsimp only | exact bitParts hm (by decide) | exact bitOff hm (by decide) | exact bitPlus hm (by decide) | exact bitKey hm (by decide) | rfl

theorem State.xlLaunchAt_effect {msk : Nat} {s0 : State} (s : State) (t r kind flags index cyc instant : Nat) (payload : List Byte) (hm : 0x80000000000 &&& msk = 0x80000000000) (h_s : Effect msk s0 s) :
    Effect msk s0 (State.xlLaunchAt s t r kind flags index cyc instant payload) := by
  unfold State.xlLaunchAt
  repeat' first | with_reducible intro _ | with_reducible assumption | with_reducible rfl | exact subParts hm (by decide) | with_reducible apply State.xlPut_effect | with_reducible apply Effect.ite | split | dsimp only | exact bitParts hm (by decide) | exact bitOff hm (by decide) | exact bitPlus hm (by decide) | exact bitKey hm (by decide) | rfl

theorem State.xlLaunch_effect {msk : Nat} {s0 : State} (s : State) (r kind flags index cyc instant : Nat) (payload : List Byte) (hm : 0x80000000000 &&& msk = 0x80000000000) (h_s : Effect msk s0 s) :
    Effect msk s0 (State.xlLaunch s r kind flags index cyc instant payload) := by
  unfold State.xlLaunch
  repeat' first | with_reducible intro _ | with_reducible assumption | with_reducible rfl | exact subParts hm (by decide) | with_reducible apply State.xlLaunchAt_effect | with_reducible apply Effect.ite | split | dsimp only | exact bitParts hm (by decide) | exact bitOff hm (by decide) | exact bitPlus hm (by decide) | exact bitKey hm (by decide) | rfl

theorem State.xlForward_effect {msk : Nat} {s0 : State} (s : State) (p : Nat) (frame payload : List Byte) (corr : Nat) (bad : Bool) (hm : 0x80000000000 &&& msk = 0x80000000000) (h_s : Effect msk s0 s) :
    Effect msk s0 (State.xlForward s p frame payload corr bad) := by
  unfold State.xlForward
  repeat' first | with_reducible intro _ | with_reducible assumption | with_reducible rfl | exact subParts hm (by decide) | with_reducible apply State.modXl_effect | with_reducible apply State.modXport_effect | with_reducible apply Effect.ite | split | dsimp only | exact bitParts hm (by decide) | exact bitOff hm (by decide) | exact bitPlus hm (by decide) | exact bitKey hm (by decide) | rfl

theorem State.xlForeign_effect {msk : Nat} {s0 : State} (s : State) (r : Nat) (hm : 0x1000 &&& msk = 0x1000) (h_s : Effect msk s0 s) :
    Effect msk s0 (State.xlForeign s r) := by
  unfold State.xlForeign
  repeat' first | with_reducible intro _ | with_reducible assumption | with_reducible rfl | exact subParts hm (by decide) | with_reducible apply State.bump_effect | with_reducible apply Effect.ite | split | dsimp only | exact bitParts hm (by decide) | exact bitOff hm (by decide) | rfl

theorem State.xlFcs_effect {msk : Nat} {s0 : State} (s : State) (r : Nat) (fcs : XlFcs) (hm : 0x1000 &&& msk = 0x1000) (h_s : Effect msk s0 s) :
    Effect msk s0 (State.xlFcs s r fcs) := by
  unfold State.xlFcs
  repeat' first | with_reducible intro _ | with_reducible assumption | with_reducible rfl | exact subParts hm (by decide) | with_reducible apply State.bump_effect | with_reducible apply Effect.ite | split | dsimp only | exact bitParts hm (by decide) | exact bitOff hm (by decide) | rfl

theorem State.xlPass_effect {msk : Nat} {s0 : State} (s : State) (p : Nat) (frame : List Byte) (fcs : XlFcs) (kind corr : Nat) (act : State → List Byte × State) (hm : 0x80000001000 &&& msk = 0x80000001000) (h_s : Effect msk s0 s) (h_act : ∀ t, Effect msk s0 t → Effect msk s0 (act t).2) :
    Effect msk s0 (State.xlPass s p frame fcs kind corr act) := by
  unfold State.xlPass
  repeat' first | with_reducible intro _ | with_reducible assumption | with_reducible rfl | exact subParts hm (by decide) | with_reducible apply h_act | with_reducible apply State.xlFcs_effect | with_reducible apply State.xlForeign_effect | with_reducible apply State.xlForward_effect | with_reducible apply Effect.ite | split | dsimp only | exact bitParts hm (by decide) | exact bitOff hm (by decide) | exact bitPlus hm (by decide) | exact bitKey hm (by decide) | rfl

theorem State.delayReq_effect {msk : Nat} {s0 : State} (s : State) (p : Nat) (hm : 0x80000000000 &&& msk = 0x80000000000) (h_s : Effect msk s0 s) :
    Effect msk s0 (State.delayReq s p) := by
  unfold State.delayReq
  repeat' first | with_reducible intro _ | with_reducible assumption | with_reducible rfl | exact subParts hm (by decide) | with_reducible apply State.xlSend_effect | with_reducible apply State.modXport_effect | with_reducible apply Effect.ite | split | dsimp only | exact bitParts hm (by decide) | exact bitOff hm (by decide) | exact bitPlus hm (by decide) | exact bitKey hm (by decide) | rfl

theorem State.loopSeen_effect {msk : Nat} {s0 : State} (s : State) (r : Nat) (loop : Option Nat) (hm : 0xc0000000c1000 &&& msk = 0xc0000000c1000) (h_s : Effect msk s0 s) :
    Effect msk s0 (State.loopSeen s r loop) := by
  unfold State.loopSeen
  repeat' first | with_reducible intro _ | with_reducible assumption | with_reducible rfl | exact subParts hm (by decide) | with_reducible apply State.raise_effect | with_reducible apply State.putSat_effect | with_reducible apply State.setTo_effect | with_reducible apply Effect.ite | split | dsimp only | exact bitParts hm (by decide) | exact bitOff hm (by decide) | rfl

theorem State.linkMeasure_effect {msk : Nat} {s0 : State} (s : State) (loop0 loop1 : Option Nat) (hm : 0xc0800000c1000 &&& msk = 0xc0800000c1000) (h_s : Effect msk s0 s) :
    Effect msk s0 (State.linkMeasure s loop0 loop1) := by
  unfold State.linkMeasure
  repeat' first | with_reducible intro _ | with_reducible assumption | with_reducible rfl | exact subParts hm (by decide) | with_reducible apply State.loopSeen_effect | with_reducible apply State.delayReq_effect | with_reducible apply Effect.forEach | with_reducible apply Effect.ite | split | dsimp only | exact bitParts hm (by decide) | exact bitOff hm (by decide) | exact bitPlus hm (by decide) | exact bitKey hm (by decide) | rfl

theorem execLinkDelayMeasure_effect {msk : Nat} {s0 : State} (loop0 loop1 : Option Nat) (s : State) (hm : 0xc0800000c1000 &&& msk = 0xc0800000c1000) (h_s : Effect msk s0 s) :
    EffectOut msk s0 (execLinkDelayMeasure loop0 loop1 s) := by
  unfold execLinkDelayMeasure
  repeat' first | with_reducible intro _ | with_reducible assumption | with_reducible rfl | with_reducible refine EffectOut.gate ?_ ?_ | with_reducible refine EffectOut.next ?_ | exact subParts hm (by decide) | with_reducible apply State.linkMeasure_effect | with_reducible apply Effect.ite | split | dsimp only | rfl

theorem State.delayAnswer_effect {msk : Nat} {s0 : State} (s : State) (p : Nat) (frame : List Byte) (fcs : XlFcs) (turn : Nat) (hm : 0x80000001000 &&& msk = 0x80000001000) (h_s : Effect msk s0 s) :
    Effect msk s0 (State.delayAnswer s p frame fcs turn) := by
  unfold State.delayAnswer
  repeat' first | with_reducible intro _ | with_reducible assumption | with_reducible rfl | exact subParts hm (by decide) | with_reducible apply State.xlFcs_effect | with_reducible apply State.xlForeign_effect | with_reducible apply State.xlSend_effect | with_reducible apply Effect.ite | split | dsimp only | exact bitParts hm (by decide) | exact bitOff hm (by decide) | exact bitPlus hm (by decide) | exact bitKey hm (by decide) | rfl

theorem execDelayReq_effect {msk : Nat} {s0 : State} (port : Fin 4) (frame : List Byte) (fcs : XlFcs) (turn : Nat) (s : State) (hm : 0x80000001000 &&& msk = 0x80000001000) (h_s : Effect msk s0 s) :
    EffectOut msk s0 (execDelayReq port frame fcs turn s) := by
  unfold execDelayReq
  repeat' first | with_reducible intro _ | with_reducible assumption | with_reducible rfl | with_reducible refine EffectOut.gate ?_ ?_ | with_reducible refine EffectOut.next ?_ | exact subParts hm (by decide) | with_reducible apply State.delayAnswer_effect | with_reducible apply Effect.ite | split | dsimp only | rfl

theorem State.stnMeasured_effect {msk : Nat} {s0 : State} (s : State) (hm : 0x80000001000 &&& msk = 0x80000001000) (h_s : Effect msk s0 s) :
    Effect msk s0 (State.stnMeasured s) := by
  unfold State.stnMeasured
  repeat' first | with_reducible intro _ | with_reducible assumption | with_reducible rfl | exact subParts hm (by decide) | with_reducible apply State.modXl_effect | with_reducible apply State.put_effect | with_reducible apply Effect.ite | split | dsimp only | exact bitParts hm (by decide) | exact bitOff hm (by decide) | exact bitPlus hm (by decide) | exact bitKey hm (by decide) | rfl

theorem State.delayTake_effect {msk : Nat} {s0 : State} (s : State) (p : Nat) (frame : List Byte) (fcs : XlFcs) (hm : 0x80000001000 &&& msk = 0x80000001000) (h_s : Effect msk s0 s) :
    Effect msk s0 (State.delayTake s p frame fcs) := by
  unfold State.delayTake
  repeat' first | with_reducible intro _ | with_reducible assumption | with_reducible rfl | exact subParts hm (by decide) | with_reducible apply State.stnMeasured_effect | with_reducible apply State.xlFcs_effect | with_reducible apply State.xlForeign_effect | with_reducible apply State.modXport_effect | with_reducible apply Effect.ite | split | dsimp only | rfl

theorem execDelayResp_effect {msk : Nat} {s0 : State} (port : Fin 4) (frame : List Byte) (fcs : XlFcs) (s : State) (hm : 0x80000001000 &&& msk = 0x80000001000) (h_s : Effect msk s0 s) :
    EffectOut msk s0 (execDelayResp port frame fcs s) := by
  unfold execDelayResp
  repeat' first | with_reducible intro _ | with_reducible assumption | with_reducible rfl | with_reducible refine EffectOut.gate ?_ ?_ | with_reducible refine EffectOut.next ?_ | exact subParts hm (by decide) | with_reducible apply State.delayTake_effect | with_reducible apply Effect.ite | split | dsimp only | rfl

theorem State.portLoss_effect {msk : Nat} {s0 : State} (s : State) (p : Nat) (hm : 0xc0800000c1000 &&& msk = 0xc0800000c1000) (h_s : Effect msk s0 s) :
    Effect msk s0 (State.portLoss s p) := by
  unfold State.portLoss
  repeat' first | with_reducible intro _ | with_reducible assumption | with_reducible rfl | exact subParts hm (by decide) | with_reducible apply State.setWrap_effect | with_reducible apply State.modXport_effect | with_reducible apply State.raise_effect | with_reducible apply State.put_effect | with_reducible apply Effect.ite | split | dsimp only | exact bitParts hm (by decide) | exact bitOff hm (by decide) | rfl

theorem execPortLinkLoss_effect {msk : Nat} {s0 : State} (port : Fin 4) (s : State) (hm : 0xc0800000c1000 &&& msk = 0xc0800000c1000) (h_s : Effect msk s0 s) :
    EffectOut msk s0 (execPortLinkLoss port s) := by
  unfold execPortLinkLoss
  repeat' first | with_reducible intro _ | with_reducible assumption | with_reducible rfl | with_reducible refine EffectOut.gate ?_ ?_ | with_reducible refine EffectOut.next ?_ | exact subParts hm (by decide) | with_reducible apply State.portLoss_effect | with_reducible apply Effect.ite | split | dsimp only | rfl

theorem State.portUp_effect {msk : Nat} {s0 : State} (s : State) (p : Nat) (hm : 0x80000001000 &&& msk = 0x80000001000) (h_s : Effect msk s0 s) :
    Effect msk s0 (State.portUp s p) := by
  unfold State.portUp
  repeat' first | with_reducible intro _ | with_reducible assumption | with_reducible rfl | exact subParts hm (by decide) | with_reducible apply State.delayReq_effect | with_reducible apply State.modXport_effect | with_reducible apply State.put_effect | with_reducible apply Effect.ite | split | dsimp only | exact bitParts hm (by decide) | exact bitOff hm (by decide) | exact bitPlus hm (by decide) | exact bitKey hm (by decide) | rfl

theorem execPortLinkUp_effect {msk : Nat} {s0 : State} (port : Fin 4) (s : State) (hm : 0x80000001000 &&& msk = 0x80000001000) (h_s : Effect msk s0 s) :
    EffectOut msk s0 (execPortLinkUp port s) := by
  unfold execPortLinkUp
  repeat' first | with_reducible intro _ | with_reducible assumption | with_reducible rfl | with_reducible refine EffectOut.gate ?_ ?_ | with_reducible refine EffectOut.next ?_ | exact subParts hm (by decide) | with_reducible apply State.portUp_effect | with_reducible apply Effect.ite | split | dsimp only | rfl

theorem State.portHeld_effect {msk : Nat} {s0 : State} (s : State) (p : Nat) (hm : 0x27efcc0000c2000 &&& msk = 0x27efcc0000c2000) (h_s : Effect msk s0 s) :
    Effect msk s0 (State.portHeld s p) := by
  unfold State.portHeld
  repeat' first | with_reducible intro _ | with_reducible assumption | with_reducible rfl | exact subParts hm (by decide) | with_reducible apply State.modXport_effect | with_reducible apply State.runTo_effect | with_reducible apply Effect.ite | split | dsimp only | rfl

theorem execPortLinkHeld_effect {msk : Nat} {s0 : State} (port : Fin 4) (s : State) (hm : 0x27efcc0000c2000 &&& msk = 0x27efcc0000c2000) (h_s : Effect msk s0 s) :
    EffectOut msk s0 (execPortLinkHeld port s) := by
  unfold execPortLinkHeld
  repeat' first | with_reducible intro _ | with_reducible assumption | with_reducible rfl | with_reducible refine EffectOut.gate ?_ ?_ | with_reducible refine EffectOut.next ?_ | exact subParts hm (by decide) | with_reducible apply State.portHeld_effect | with_reducible apply Effect.ite | split | dsimp only | rfl

theorem State.portUnwrap_effect {msk : Nat} {s0 : State} (s : State) (hm : 0xc0800000c1000 &&& msk = 0xc0800000c1000) (h_s : Effect msk s0 s) :
    Effect msk s0 (State.portUnwrap s) := by
  unfold State.portUnwrap
  repeat' first | with_reducible intro _ | with_reducible assumption | with_reducible rfl | exact subParts hm (by decide) | with_reducible apply State.setWrap_effect | with_reducible apply State.modXport_effect | with_reducible apply State.raise_effect | with_reducible apply Effect.forEach | with_reducible apply Effect.ite | split | dsimp only | rfl

theorem State.cycleLaunch_effect {msk : Nat} {s0 : State} (s : State) (r : Nat) (hm : 0x27efcc0000c2000 &&& msk = 0x27efcc0000c2000) (h_s : Effect msk s0 s) :
    Effect msk s0 (State.cycleLaunch s r) := by
  unfold State.cycleLaunch
  repeat' first | with_reducible intro _ | with_reducible assumption | with_reducible rfl | exact subParts hm (by decide) | with_reducible apply State.xlLaunch_effect | with_reducible apply State.runTo_effect | with_reducible apply State.modTb_effect | with_reducible apply Effect.ite | split | dsimp only | rfl

theorem execCycleLaunch_effect {msk : Nat} {s0 : State} (ring : Fin 2) (s : State) (hm : 0x27efcc0000c2000 &&& msk = 0x27efcc0000c2000) (h_s : Effect msk s0 s) :
    EffectOut msk s0 (execCycleLaunch ring s) := by
  unfold execCycleLaunch
  repeat' first | with_reducible intro _ | with_reducible assumption | with_reducible rfl | with_reducible refine EffectOut.gate ?_ ?_ | with_reducible refine EffectOut.next ?_ | exact subParts hm (by decide) | with_reducible apply State.cycleLaunch_effect | with_reducible apply Effect.ite | split | dsimp only | rfl

theorem State.inputLaunch_effect {msk : Nat} {s0 : State} (s : State) (r : Nat) (hm : 0x27efcc0000c2000 &&& msk = 0x27efcc0000c2000) (h_s : Effect msk s0 s) :
    Effect msk s0 (State.inputLaunch s r) := by
  unfold State.inputLaunch
  repeat' first | with_reducible intro _ | with_reducible assumption | with_reducible rfl | exact subParts hm (by decide) | with_reducible apply State.xlLaunch_effect | with_reducible apply State.runTo_effect | with_reducible apply Effect.forEach | with_reducible apply Effect.ite | split | dsimp only | rfl

theorem execInputLaunch_effect {msk : Nat} {s0 : State} (ring : Fin 2) (s : State) (hm : 0x27efcc0000c2000 &&& msk = 0x27efcc0000c2000) (h_s : Effect msk s0 s) :
    EffectOut msk s0 (execInputLaunch ring s) := by
  unfold execInputLaunch
  repeat' first | with_reducible intro _ | with_reducible assumption | with_reducible rfl | with_reducible refine EffectOut.gate ?_ ?_ | with_reducible refine EffectOut.next ?_ | exact subParts hm (by decide) | with_reducible apply State.inputLaunch_effect | with_reducible apply Effect.ite | split | dsimp only | rfl

theorem State.modStn_effect {msk : Nat} {s0 : State} (s : State) (r stn : Nat) (f : StnSeen → StnSeen) (hm : 0x80000000000 &&& msk = 0x80000000000) (h_s : Effect msk s0 s) :
    Effect msk s0 (State.modStn s r stn f) := by
  unfold State.modStn
  repeat' first | with_reducible intro _ | with_reducible assumption | with_reducible rfl | exact subParts hm (by decide) | with_reducible apply State.modXring_effect | with_reducible apply Effect.ite | split | dsimp only | rfl

theorem State.outputRing_effect {msk : Nat} {s0 : State} (s : State) (r : Nat) (hm : 0x80000001000 &&& msk = 0x80000001000) (h_s : Effect msk s0 s) :
    Effect msk s0 (State.outputRing s r) := by
  unfold State.outputRing
  repeat' first | with_reducible intro _ | with_reducible assumption | with_reducible rfl | exact subParts hm (by decide) | with_reducible apply State.modStn_effect | with_reducible apply State.xlLaunch_effect | with_reducible apply State.setTo_effect | with_reducible apply Effect.foldl | with_reducible apply Effect.forEach | with_reducible apply Effect.ite | split | dsimp only | exact bitParts hm (by decide) | exact bitOff hm (by decide) | rfl

theorem State.outputLaunch_effect {msk : Nat} {s0 : State} (s : State) (hm : 0x80000001000 &&& msk = 0x80000001000) (h_s : Effect msk s0 s) :
    Effect msk s0 (State.outputLaunch s) := by
  unfold State.outputLaunch
  repeat' first | with_reducible intro _ | with_reducible assumption | with_reducible rfl | exact subParts hm (by decide) | with_reducible apply State.outputRing_effect | with_reducible apply State.modXl_effect | with_reducible apply Effect.ite | split | dsimp only | rfl

theorem State.withdrawRing_effect {msk : Nat} {s0 : State} (s : State) (r : Nat) (hm : 0x80000001000 &&& msk = 0x80000001000) (h_s : Effect msk s0 s) :
    Effect msk s0 (State.withdrawRing s r) := by
  unfold State.withdrawRing
  repeat' first | with_reducible intro _ | with_reducible assumption | with_reducible rfl | exact subParts hm (by decide) | with_reducible apply State.xlLaunchAt_effect | with_reducible apply State.bump_effect | with_reducible apply Effect.ite | split | dsimp only | exact bitParts hm (by decide) | exact bitOff hm (by decide) | exact bitPlus hm (by decide) | exact bitKey hm (by decide) | rfl

theorem State.xlWithdraw_effect {msk : Nat} {s0 : State} (s : State) (hm : 0xc0880000c1800 &&& msk = 0xc0880000c1800) (h_s : Effect msk s0 s) :
    Effect msk s0 (State.xlWithdraw s) := by
  unfold State.xlWithdraw
  repeat' first | with_reducible intro _ | with_reducible assumption | with_reducible rfl | exact subParts hm (by decide) | with_reducible apply State.withdrawRing_effect | with_reducible apply State.modXl_effect | with_reducible apply State.grdWithdrawn_effect | with_reducible apply State.raise_effect | with_reducible apply State.setTo_effect | with_reducible apply Effect.ite | split | dsimp only | exact bitParts hm (by decide) | exact bitOff hm (by decide) | rfl

theorem State.xlReturnFcs_effect {msk : Nat} {s0 : State} (s : State) (r : Nat) (fcs : XlFcs) (hm : 0x1000 &&& msk = 0x1000) (h_s : Effect msk s0 s) :
    Effect msk s0 (State.xlReturnFcs s r fcs) := by
  unfold State.xlReturnFcs
  repeat' first | with_reducible intro _ | with_reducible assumption | with_reducible rfl | exact subParts hm (by decide) | with_reducible apply State.xlFcs_effect | with_reducible apply Effect.ite | split | dsimp only | rfl

theorem State.slotReturn_effect {msk : Nat} {s0 : State} (s : State) (r flags : Nat) (payload : List Byte) (e : List Byte) (hm : 0xc0900000c0040 &&& msk = 0xc0900000c0040) (h_s : Effect msk s0 s) :
    Effect msk s0 (State.slotReturn s r flags payload e) := by
  unfold State.slotReturn
  repeat' first | with_reducible intro _ | with_reducible assumption | with_reducible rfl | exact subParts hm (by decide) | with_reducible apply State.modStn_effect | with_reducible apply State.modXring_effect | with_reducible apply State.intake_effect | with_reducible apply Effect.forEach | with_reducible apply Effect.ite | split | dsimp only | exact bitParts hm (by decide) | exact bitOff hm (by decide) | exact bitPlus hm (by decide) | exact bitKey hm (by decide) | rfl

theorem State.inputReturn_effect {msk : Nat} {s0 : State} (s : State) (r : Nat) (frame : List Byte) (fcs : XlFcs) (hm : 0xc0900000c1040 &&& msk = 0xc0900000c1040) (h_s : Effect msk s0 s) :
    Effect msk s0 (State.inputReturn s r frame fcs) := by
  unfold State.inputReturn
  repeat' first | with_reducible intro _ | with_reducible assumption | with_reducible rfl | exact subParts hm (by decide) | with_reducible apply State.slotReturn_effect | with_reducible apply State.xlReturnFcs_effect | with_reducible apply Effect.foldl | with_reducible apply Effect.ite | split | dsimp only | exact bitParts hm (by decide) | exact bitOff hm (by decide) | exact bitPlus hm (by decide) | exact bitKey hm (by decide) | rfl

theorem execInputReturn_effect {msk : Nat} {s0 : State} (ring : Fin 2) (frame : List Byte) (fcs : XlFcs) (s : State) (hm : 0xc0900000c1040 &&& msk = 0xc0900000c1040) (h_s : Effect msk s0 s) :
    EffectOut msk s0 (execInputReturn ring frame fcs s) := by
  unfold execInputReturn
  repeat' first | with_reducible intro _ | with_reducible assumption | with_reducible rfl | with_reducible refine EffectOut.gate ?_ ?_ | with_reducible refine EffectOut.next ?_ | exact subParts hm (by decide) | with_reducible apply State.inputReturn_effect | with_reducible apply Effect.ite | split | dsimp only | rfl

theorem State.outputReturn_effect {msk : Nat} {s0 : State} (s : State) (r : Nat) (frame : List Byte) (fcs : XlFcs) (hm : 0x80000001000 &&& msk = 0x80000001000) (h_s : Effect msk s0 s) :
    Effect msk s0 (State.outputReturn s r frame fcs) := by
  unfold State.outputReturn
  repeat' first | with_reducible intro _ | with_reducible assumption | with_reducible rfl | exact subParts hm (by decide) | with_reducible apply State.xlReturnFcs_effect | with_reducible apply State.modStn_effect | with_reducible apply State.setTo_effect | with_reducible apply Effect.foldl | with_reducible apply Effect.ite | split | dsimp only | exact bitParts hm (by decide) | exact bitOff hm (by decide) | rfl

theorem execOutputReturn_effect {msk : Nat} {s0 : State} (ring : Fin 2) (frame : List Byte) (fcs : XlFcs) (s : State) (hm : 0x80000001000 &&& msk = 0x80000001000) (h_s : Effect msk s0 s) :
    EffectOut msk s0 (execOutputReturn ring frame fcs s) := by
  unfold execOutputReturn
  repeat' first | with_reducible intro _ | with_reducible assumption | with_reducible rfl | with_reducible refine EffectOut.gate ?_ ?_ | with_reducible refine EffectOut.next ?_ | exact subParts hm (by decide) | with_reducible apply State.outputReturn_effect | with_reducible apply Effect.ite | split | dsimp only | rfl

theorem State.dupShow_effect {msk : Nat} {s0 : State} (s : State) (r : Nat) (q : StnSeen) (hm : 0xc0000000c1000 &&& msk = 0xc0000000c1000) (h_s : Effect msk s0 s) :
    Effect msk s0 (State.dupShow s r q) := by
  unfold State.dupShow
  repeat' first | with_reducible intro _ | with_reducible assumption | with_reducible rfl | exact subParts hm (by decide) | with_reducible apply State.raise_effect | with_reducible apply State.wr64_effect | with_reducible apply State.put_effect | with_reducible apply Effect.ite | split | dsimp only | exact bitParts hm (by decide) | exact bitOff hm (by decide) | rfl

theorem State.judgeStn_effect {msk : Nat} {s0 : State} (r : Nat) (stn : Nat) (s : State) (hm : 0xc0900000c1040 &&& msk = 0xc0900000c1040) (h_s : Effect msk s0 s) :
    Effect msk s0 (State.judgeStn r stn s) := by
  unfold State.judgeStn
  repeat' first | with_reducible intro _ | with_reducible assumption | with_reducible rfl | exact subParts hm (by decide) | with_reducible apply State.dupShow_effect | with_reducible apply State.modStn_effect | with_reducible apply State.discard_effect | with_reducible apply State.raiseIf_effect | with_reducible apply State.raise_effect | with_reducible apply State.setTo_effect | with_reducible apply State.put_effect | with_reducible apply Effect.ite | split | dsimp only | exact bitParts hm (by decide) | exact bitOff hm (by decide) | exact bitPlus hm (by decide) | exact bitKey hm (by decide) | rfl

theorem State.showViews_effect {msk : Nat} {s0 : State} (s : State) (hm : 0x1000 &&& msk = 0x1000) (h_s : Effect msk s0 s) :
    Effect msk s0 (State.showViews s) := by
  unfold State.showViews
  repeat' first | with_reducible intro _ | with_reducible assumption | with_reducible rfl | exact subParts hm (by decide) | with_reducible apply State.setTo_effect | with_reducible apply Effect.ite | split | dsimp only | exact bitParts hm (by decide) | exact bitOff hm (by decide) | rfl

theorem State.freezeImage_effect {msk : Nat} {s0 : State} (s : State) (r : Nat) (hm : 0x80000000000 &&& msk = 0x80000000000) (h_s : Effect msk s0 s) :
    Effect msk s0 (State.freezeImage s r) := by
  unfold State.freezeImage
  repeat' first | with_reducible intro _ | with_reducible assumption | with_reducible rfl | exact subParts hm (by decide) | with_reducible apply State.modXring_effect | with_reducible apply Effect.ite | split | dsimp only | exact bitParts hm (by decide) | exact bitOff hm (by decide) | exact bitPlus hm (by decide) | exact bitKey hm (by decide) | rfl

theorem State.judgeRing_effect {msk : Nat} {s0 : State} (s : State) (r : Nat) (hm : 0xc0900000c1040 &&& msk = 0xc0900000c1040) (h_s : Effect msk s0 s) :
    Effect msk s0 (State.judgeRing s r) := by
  unfold State.judgeRing
  repeat' first | with_reducible intro _ | with_reducible assumption | with_reducible rfl | exact subParts hm (by decide) | with_reducible apply State.freezeImage_effect | with_reducible apply State.judgeStn_effect | with_reducible apply Effect.forEach | with_reducible apply Effect.ite | split | dsimp only | rfl

theorem State.stationViews_effect {msk : Nat} {s0 : State} (s : State) (hm : 0xc0900000c1040 &&& msk = 0xc0900000c1040) (h_s : Effect msk s0 s) :
    Effect msk s0 (State.stationViews s) := by
  unfold State.stationViews
  repeat' first | with_reducible intro _ | with_reducible assumption | with_reducible rfl | exact subParts hm (by decide) | with_reducible apply State.judgeRing_effect | with_reducible apply State.showViews_effect | with_reducible apply Effect.ite | split | dsimp only | rfl

theorem State.dupEnd_effect {msk : Nat} {s0 : State} (s : State) (r stn : Nat) (hm : 0xc0800000c0000 &&& msk = 0xc0800000c0000) (h_s : Effect msk s0 s) :
    Effect msk s0 (State.dupEnd s r stn) := by
  unfold State.dupEnd
  repeat' first | with_reducible intro _ | with_reducible assumption | with_reducible rfl | exact subParts hm (by decide) | with_reducible apply State.modStn_effect | with_reducible apply State.raise_effect | with_reducible apply Effect.ite | split | dsimp only | rfl

theorem execDuplicateClearCount_effect {msk : Nat} {s0 : State} (ring : Fin 2) (stn : Byte) (s : State) (hm : 0xc0800000c0000 &&& msk = 0xc0800000c0000) (h_s : Effect msk s0 s) :
    EffectOut msk s0 (execDuplicateClearCount ring stn s) := by
  unfold execDuplicateClearCount
  repeat' first | with_reducible intro _ | with_reducible assumption | with_reducible rfl | with_reducible refine EffectOut.gate ?_ ?_ | with_reducible refine EffectOut.next ?_ | exact subParts hm (by decide) | with_reducible apply State.dupEnd_effect | with_reducible apply Effect.ite | split | dsimp only | rfl

theorem State.stnCmdEnd_effect {msk : Nat} {s0 : State} (s : State) (c : StnCmd) (result : Nat) (hm : 0xc0800000c1000 &&& msk = 0xc0800000c1000) (h_s : Effect msk s0 s) :
    Effect msk s0 (State.stnCmdEnd s c result) := by
  unfold State.stnCmdEnd
  repeat' first | with_reducible intro _ | with_reducible assumption | with_reducible rfl | exact subParts hm (by decide) | with_reducible apply State.modXl_effect | with_reducible apply State.endDesc_effect | with_reducible apply State.setTo_effect | with_reducible apply State.put_effect | with_reducible apply Effect.ite | split | dsimp only | exact bitParts hm (by decide) | exact bitOff hm (by decide) | rfl

theorem State.stnCmdBegin_effect {msk : Nat} {s0 : State} (s : State) (c : StnCmd) (hm : 0xc0800000c1000 &&& msk = 0xc0800000c1000) (h_s : Effect msk s0 s) :
    Effect msk s0 (State.stnCmdBegin s c) := by
  unfold State.stnCmdBegin
  repeat' first | with_reducible intro _ | with_reducible assumption | with_reducible rfl | exact subParts hm (by decide) | with_reducible apply State.stnCmdEnd_effect | with_reducible apply State.dupEnd_effect | with_reducible apply State.modStn_effect | with_reducible apply State.modXl_effect | with_reducible apply State.setTo_effect | with_reducible apply State.put_effect | with_reducible apply Effect.ite | split | dsimp only | exact bitParts hm (by decide) | exact bitOff hm (by decide) | rfl

theorem State.stnCmdGo_effect {msk : Nat} {s0 : State} (s : State) (op ring stn : Nat) (hm : 0xc0800000c1000 &&& msk = 0xc0800000c1000) (h_s : Effect msk s0 s) :
    Effect msk s0 (State.stnCmdGo s op ring stn) := by
  unfold State.stnCmdGo
  repeat' first | with_reducible intro _ | with_reducible assumption | with_reducible rfl | exact subParts hm (by decide) | with_reducible apply State.stnCmdBegin_effect | with_reducible apply Effect.ite | split | dsimp only | rfl

theorem execReadId_effect {msk : Nat} {s0 : State} (_req : Req) (ring : Fin 2) (stn : Byte) (s : State) (hm : 0xc0800000c1000 &&& msk = 0xc0800000c1000) (h_s : Effect msk s0 s) :
    EffectOut msk s0 (execReadId _req ring stn s) := by
  unfold execReadId
  repeat' first | with_reducible intro _ | with_reducible assumption | with_reducible rfl | with_reducible refine EffectOut.gate ?_ ?_ | with_reducible refine EffectOut.next ?_ | exact subParts hm (by decide) | with_reducible apply State.stnCmdGo_effect | with_reducible apply Effect.ite | split | dsimp only | rfl

theorem execIdentify_effect {msk : Nat} {s0 : State} (_req : Req) (ring : Fin 2) (stn : Byte) (s : State) (hm : 0xc0800000c1000 &&& msk = 0xc0800000c1000) (h_s : Effect msk s0 s) :
    EffectOut msk s0 (execIdentify _req ring stn s) := by
  unfold execIdentify
  repeat' first | with_reducible intro _ | with_reducible assumption | with_reducible rfl | with_reducible refine EffectOut.gate ?_ ?_ | with_reducible refine EffectOut.next ?_ | exact subParts hm (by decide) | with_reducible apply State.stnCmdGo_effect | with_reducible apply Effect.ite | split | dsimp only | rfl

theorem execResume_effect {msk : Nat} {s0 : State} (_req : Req) (ring : Fin 2) (stn : Byte) (s : State) (hm : 0xc0800000c1000 &&& msk = 0xc0800000c1000) (h_s : Effect msk s0 s) :
    EffectOut msk s0 (execResume _req ring stn s) := by
  unfold execResume
  repeat' first | with_reducible intro _ | with_reducible assumption | with_reducible rfl | with_reducible refine EffectOut.gate ?_ ?_ | with_reducible refine EffectOut.next ?_ | exact subParts hm (by decide) | with_reducible apply State.stnCmdGo_effect | with_reducible apply Effect.ite | split | dsimp only | rfl

theorem execDupClear_effect {msk : Nat} {s0 : State} (_req : Req) (ring : Fin 2) (stn : Byte) (s : State) (hm : 0xc0800000c1000 &&& msk = 0xc0800000c1000) (h_s : Effect msk s0 s) :
    EffectOut msk s0 (execDupClear _req ring stn s) := by
  unfold execDupClear
  repeat' first | with_reducible intro _ | with_reducible assumption | with_reducible rfl | with_reducible refine EffectOut.gate ?_ ?_ | with_reducible refine EffectOut.next ?_ | exact subParts hm (by decide) | with_reducible apply State.stnCmdGo_effect | with_reducible apply Effect.ite | split | dsimp only | rfl

theorem State.mgmtSend_effect {msk : Nat} {s0 : State} (s : State) (hm : 0x80000000000 &&& msk = 0x80000000000) (h_s : Effect msk s0 s) :
    Effect msk s0 (State.mgmtSend s) := by
  unfold State.mgmtSend
  repeat' first | with_reducible intro _ | with_reducible assumption | with_reducible rfl | exact subParts hm (by decide) | with_reducible apply State.xlLaunchAt_effect | with_reducible apply State.modXl_effect | with_reducible apply Effect.ite | split | dsimp only | exact bitParts hm (by decide) | exact bitOff hm (by decide) | exact bitPlus hm (by decide) | exact bitKey hm (by decide) | rfl

theorem State.mgmtReturn_effect {msk : Nat} {s0 : State} (s : State) (r : Nat) (frame : List Byte) (fcs : XlFcs) (hm : 0xc0800000c1000 &&& msk = 0xc0800000c1000) (h_s : Effect msk s0 s) :
    Effect msk s0 (State.mgmtReturn s r frame fcs) := by
  unfold State.mgmtReturn
  repeat' first | with_reducible intro _ | with_reducible assumption | with_reducible rfl | exact subParts hm (by decide) | with_reducible apply State.stnCmdEnd_effect | with_reducible apply State.xlReturnFcs_effect | with_reducible apply State.wrWords_effect | with_reducible apply Effect.ite | split | dsimp only | exact bitParts hm (by decide) | exact bitOff hm (by decide) | rfl

theorem execMgmtReturn_effect {msk : Nat} {s0 : State} (ring : Fin 2) (frame : List Byte) (fcs : XlFcs) (s : State) (hm : 0xc0800000c1000 &&& msk = 0xc0800000c1000) (h_s : Effect msk s0 s) :
    EffectOut msk s0 (execMgmtReturn ring frame fcs s) := by
  unfold execMgmtReturn
  repeat' first | with_reducible intro _ | with_reducible assumption | with_reducible rfl | with_reducible refine EffectOut.gate ?_ ?_ | with_reducible refine EffectOut.next ?_ | exact subParts hm (by decide) | with_reducible apply State.mgmtReturn_effect | with_reducible apply Effect.ite | split | dsimp only | rfl

theorem execStnCmdTimeout_effect {msk : Nat} {s0 : State} (s : State) (hm : 0xc0800000c1000 &&& msk = 0xc0800000c1000) (h_s : Effect msk s0 s) :
    EffectOut msk s0 (execStnCmdTimeout s) := by
  unfold execStnCmdTimeout
  repeat' first | with_reducible intro _ | with_reducible assumption | with_reducible rfl | with_reducible refine EffectOut.gate ?_ ?_ | with_reducible refine EffectOut.next ?_ | exact subParts hm (by decide) | with_reducible apply State.stnCmdEnd_effect | with_reducible apply Effect.ite | split | dsimp only | exact bitParts hm (by decide) | exact bitOff hm (by decide) | exact bitPlus hm (by decide) | exact bitKey hm (by decide) | rfl

theorem State.stnCmdRole_effect {msk : Nat} {s0 : State} (s : State) (hm : 0xc0800000c1000 &&& msk = 0xc0800000c1000) (h_s : Effect msk s0 s) :
    Effect msk s0 (State.stnCmdRole s) := by
  unfold State.stnCmdRole
  repeat' first | with_reducible intro _ | with_reducible assumption | with_reducible rfl | exact subParts hm (by decide) | with_reducible apply State.stnCmdEnd_effect | with_reducible apply State.endDesc_effect | with_reducible apply Effect.ite | split | dsimp only | rfl

end Sys2Proof.Machine
end

