-- ==== Sys2Proof/Laws/EffectSign.lean ====
section
/-! SUPPORT. What the operations of Machine/Sign.lean do: the parts of the state that each may change. -/

set_option linter.unusedTactic false
set_option linter.unusedVariables false
set_option linter.unreachableTactic false

namespace Sys2Proof.Machine

theorem State.modBoot_effect {m : Nat} {s0 : State} (s : State) (f : Boot → Boot) (hm : 0x200000000000000 &&& m = 0x200000000000000)
    (h_s : Effect m s0 s) (h_f : (f s.boot).fuses = s.boot.fuses) : Effect m s0 (State.modBoot s f) :=
  Effect.boot (bitParts hm (by decide)) h_s h_f

end Sys2Proof.Machine
end

