-- ==== Sys2Proof/Laws/EffectMeridian.lean ====
section
/-! SUPPORT. What the operations of Machine/Meridian.lean do: the parts of the state that each may change. -/

set_option linter.unusedTactic false
set_option linter.unusedVariables false
set_option linter.unreachableTactic false

namespace Sys2Proof.Machine

theorem State.modMer_effect {msk : Nat} {s0 : State} (s : State) (f : Meridian → Meridian) (hm : 0x10000000000000 &&& msk = 0x10000000000000) (h_s : Effect msk s0 s) :
    Effect msk s0 (State.modMer s f) := by
  unfold State.modMer
  repeat' first | with_reducible intro _ | with_reducible assumption | with_reducible rfl | with_reducible apply Effect.ite | split | dsimp only | with_reducible refine Effect.mer ?_ ?_ | exact bitParts hm (by decide) | rfl

theorem State.merEvent_effect {msk : Nat} {s0 : State} (s : State) (n sev p0 p1 : Nat) (hm : 0x1c0000000c0000 &&& msk = 0x1c0000000c0000) (h_s : Effect msk s0 s) :
    Effect msk s0 (State.merEvent s n sev p0 p1) := by
  unfold State.merEvent
  repeat' first | with_reducible intro _ | with_reducible assumption | with_reducible rfl | exact subParts hm (by decide) | with_reducible apply State.modMer_effect | with_reducible apply State.raise2_effect | with_reducible apply Effect.ite | split | dsimp only | exact bitParts hm (by decide) | exact bitOff hm (by decide) | exact bitPlus hm (by decide) | exact bitKey hm (by decide) | rfl

theorem State.merEventMain_effect {msk : Nat} {s0 : State} (s : State) (n sev : Nat) (hm : 0x1c0000000c0000 &&& msk = 0x1c0000000c0000) (h_s : Effect msk s0 s) :
    Effect msk s0 (State.merEventMain s n sev) := by
  unfold State.merEventMain
  repeat' first | with_reducible intro _ | with_reducible assumption | with_reducible rfl | exact subParts hm (by decide) | with_reducible apply State.merEvent_effect | with_reducible apply Effect.ite | split | dsimp only | exact bitParts hm (by decide) | exact bitOff hm (by decide) | exact bitPlus hm (by decide) | exact bitKey hm (by decide) | rfl

theorem State.lockedOut_effect {msk : Nat} {s0 : State} (s : State) (hm : 0x4000 &&& msk = 0x4000) (h_s : Effect msk s0 s) :
    Effect msk s0 (State.lockedOut s) := by
  unfold State.lockedOut
  repeat' first | with_reducible intro _ | with_reducible assumption | with_reducible rfl | exact subParts hm (by decide) | with_reducible apply State.bump_effect | with_reducible apply Effect.ite | split | dsimp only | exact bitParts hm (by decide) | exact bitOff hm (by decide) | rfl

theorem State.retStore_effect {msk : Nat} {s0 : State} (s : State) (off : Nat) (bs : List Byte) (hm : 0x2000000000 &&& msk = 0x2000000000) (h_s : Effect msk s0 s) :
    Effect msk s0 (State.retStore s off bs) := by
  unfold State.retStore
  repeat' first | with_reducible intro _ | with_reducible assumption | with_reducible rfl | exact subParts hm (by decide) | with_reducible apply Effect.ite | split | dsimp only | with_reducible refine Effect.retained ?_ ?_ ?_ | with_reducible apply swf_writeBytes | with_reducible apply swf_filter | with_reducible apply swf_writeWord | with_reducible apply swf_writeWords | exact bitParts hm (by decide) | exact bitOff hm (by decide) | exact bitPlus hm (by decide) | exact bitKey hm (by decide) | rfl

theorem State.retPut_effect {msk : Nat} {s0 : State} (s : State) (off : Nat) (bs : List Byte) (hm : 0x2000004000 &&& msk = 0x2000004000) (h_s : Effect msk s0 s) :
    Effect msk s0 (State.retPut s off bs) := by
  unfold State.retPut
  repeat' first | with_reducible intro _ | with_reducible assumption | with_reducible rfl | exact subParts hm (by decide) | with_reducible apply State.retStore_effect | with_reducible apply State.bump_effect | with_reducible apply Effect.ite | split | dsimp only | exact bitParts hm (by decide) | exact bitOff hm (by decide) | exact bitPlus hm (by decide) | exact bitKey hm (by decide) | rfl

theorem State.cutCopy_effect {msk : Nat} {s0 : State} (s : State) (hm : 0x6000004000 &&& msk = 0x6000004000) (h_s : Effect msk s0 s) :
    Effect msk s0 (State.cutCopy s) := by
  unfold State.cutCopy
  repeat' first | with_reducible intro _ | with_reducible assumption | with_reducible rfl | exact subParts hm (by decide) | with_reducible apply State.retStore_effect | with_reducible apply State.bump_effect | with_reducible apply Effect.ite | split | dsimp only | with_reducible refine Effect.cdr ?_ ?_ | exact bitParts hm (by decide) | exact bitOff hm (by decide) | exact bitPlus hm (by decide) | exact bitKey hm (by decide) | rfl

theorem State.resumeCopy_effect {msk : Nat} {s0 : State} (s : State) (hm : 0x6000004000 &&& msk = 0x6000004000) (h_s : Effect msk s0 s) :
    Effect msk s0 (State.resumeCopy s) := by
  unfold State.resumeCopy
  repeat' first | with_reducible intro _ | with_reducible assumption | with_reducible rfl | exact subParts hm (by decide) | with_reducible apply State.retStore_effect | with_reducible apply State.put_effect | with_reducible apply Effect.ite | split | dsimp only | with_reducible refine Effect.cdr ?_ ?_ | exact bitParts hm (by decide) | exact bitOff hm (by decide) | exact bitPlus hm (by decide) | exact bitKey hm (by decide) | rfl

theorem State.putCal_effect {msk : Nat} {s0 : State} (s : State) (c : Cal) (hm : 0x4000 &&& msk = 0x4000) (h_s : Effect msk s0 s) :
    Effect msk s0 (State.putCal s c) := by
  unfold State.putCal
  repeat' first | with_reducible intro _ | with_reducible assumption | with_reducible rfl | exact subParts hm (by decide) | with_reducible apply State.wrn_effect | with_reducible apply Effect.ite | split | dsimp only | exact bitParts hm (by decide) | exact bitOff hm (by decide) | rfl

theorem State.merTo_effect {msk : Nat} {s0 : State} (s : State) (sub : Nat) (hm : 0x4000 &&& msk = 0x4000) (h_s : Effect msk s0 s) :
    Effect msk s0 (State.merTo s sub) := by
  unfold State.merTo
  repeat' first | with_reducible intro _ | with_reducible assumption | with_reducible rfl | exact subParts hm (by decide) | with_reducible apply State.put_effect | with_reducible apply Effect.ite | split | dsimp only | exact bitParts hm (by decide) | exact bitOff hm (by decide) | rfl

theorem State.pwrEnd_effect {msk : Nat} {s0 : State} (s : State) (hm : 0x10000000004000 &&& msk = 0x10000000004000) (h_s : Effect msk s0 s) :
    Effect msk s0 (State.pwrEnd s) := by
  unfold State.pwrEnd
  repeat' first | with_reducible intro _ | with_reducible assumption | with_reducible rfl | exact subParts hm (by decide) | with_reducible apply State.modMer_effect | with_reducible apply State.setTo_effect | with_reducible apply Effect.ite | split | dsimp only | exact bitParts hm (by decide) | exact bitOff hm (by decide) | rfl

theorem State.pwrStart_effect {m : Nat} {s0 : State} (s : State) (seq : PwrSeq) (f : Fld) (hm : 0x1c0000000c4000 &&& m = 0x1c0000000c4000)
    (hf : m.testBit (f.off / 0x10000 % 32) = true) (h_s : Effect m s0 s) : Effect m s0 (State.pwrStart s seq f) := by
  unfold State.pwrStart
  repeat' first | with_reducible assumption | exact subParts hm (by decide) | with_reducible apply State.merEvent_effect | with_reducible apply State.modMer_effect | with_reducible apply State.setTo_effect | with_reducible apply Effect.ite | exact bitParts hm (by decide)

theorem State.merWake_effect {msk : Nat} {s0 : State} (s : State) (src : Nat) (hm : 0x10000000004000 &&& msk = 0x10000000004000) (h_s : Effect msk s0 s) :
    Effect msk s0 (State.merWake s src) := by
  unfold State.merWake
  repeat' first | with_reducible intro _ | with_reducible assumption | with_reducible rfl | exact subParts hm (by decide) | with_reducible apply State.pwrEnd_effect | with_reducible apply State.modMer_effect | with_reducible apply Effect.ite | split | dsimp only | rfl

theorem State.enterSecond_effect {msk : Nat} {s0 : State} (s : State) (hm : 0x1c0000000c4000 &&& msk = 0x1c0000000c4000) (h_s : Effect msk s0 s) :
    Effect msk s0 (State.enterSecond s) := by
  unfold State.enterSecond
  repeat' first | with_reducible intro _ | with_reducible assumption | with_reducible rfl | exact subParts hm (by decide) | with_reducible apply State.merWake_effect | with_reducible apply State.putCal_effect | with_reducible apply State.merEventMain_effect | with_reducible apply State.setTo_effect | with_reducible apply Effect.ite | split | dsimp only | exact bitParts hm (by decide) | exact bitOff hm (by decide) | exact bitPlus hm (by decide) | exact bitKey hm (by decide) | rfl

theorem State.enterSeconds_effect {m : Nat} {s0 : State} (n : Nat) (s : State) (hm : 0x1c0000000c4000 &&& m = 0x1c0000000c4000) (h_s : Effect m s0 s) :
    Effect m s0 (State.enterSeconds n s) := by
  induction n generalizing s with
  | zero => exact h_s
  | succ n ih => exact ih _ (State.enterSecond_effect _ (subParts hm (by decide)) h_s)

theorem State.merWrap_effect {msk : Nat} {s0 : State} (s : State) (hm : 0x1c0000000c4000 &&& msk = 0x1c0000000c4000) (h_s : Effect msk s0 s) :
    Effect msk s0 (State.merWrap s) := by
  unfold State.merWrap
  repeat' first | with_reducible intro _ | with_reducible assumption | with_reducible rfl | exact subParts hm (by decide) | with_reducible apply State.enterSeconds_effect | with_reducible apply State.merEvent_effect | with_reducible apply State.modMer_effect | with_reducible apply State.setTo_effect | with_reducible apply State.put_effect | with_reducible apply Effect.ite | split | dsimp only | exact bitParts hm (by decide) | exact bitOff hm (by decide) | rfl

theorem execPrescalerWrap_effect {msk : Nat} {s0 : State} (s : State) (hm : 0x1c0000000c4000 &&& msk = 0x1c0000000c4000) (h_s : Effect msk s0 s) :
    EffectOut msk s0 (execPrescalerWrap s) := by
  unfold execPrescalerWrap
  repeat' first | with_reducible intro _ | with_reducible assumption | with_reducible rfl | with_reducible refine EffectOut.next ?_ | exact subParts hm (by decide) | with_reducible apply State.merWrap_effect | with_reducible apply Effect.ite | split | dsimp only | rfl

theorem State.compWindow_effect {msk : Nat} {s0 : State} (s : State) (temp : Int) (hm : 0x10000000004000 &&& msk = 0x10000000004000) (h_s : Effect msk s0 s) :
    Effect msk s0 (State.compWindow s temp) := by
  unfold State.compWindow
  repeat' first | with_reducible intro _ | with_reducible assumption | with_reducible rfl | exact subParts hm (by decide) | with_reducible apply State.modMer_effect | with_reducible apply State.setTo_effect | with_reducible apply State.put_effect | with_reducible apply Effect.ite | split | dsimp only | exact bitParts hm (by decide) | exact bitOff hm (by decide) | rfl

theorem execCompensationWindow_effect {msk : Nat} {s0 : State} (temp : BitVec 8) (s : State) (hm : 0x10000000004000 &&& msk = 0x10000000004000) (h_s : Effect msk s0 s) :
    EffectOut msk s0 (execCompensationWindow temp s) := by
  unfold execCompensationWindow
  repeat' first | with_reducible intro _ | with_reducible assumption | with_reducible rfl | with_reducible refine EffectOut.next ?_ | exact subParts hm (by decide) | with_reducible apply State.compWindow_effect | with_reducible apply Effect.ite | split | dsimp only | rfl

theorem State.calResume_effect {msk : Nat} {s0 : State} (s : State) (hm : 0x10000000004000 &&& msk = 0x10000000004000) (h_s : Effect msk s0 s) :
    Effect msk s0 (State.calResume s) := by
  unfold State.calResume
  repeat' first | with_reducible intro _ | with_reducible assumption | with_reducible rfl | exact subParts hm (by decide) | with_reducible apply State.modMer_effect | with_reducible apply State.setTo_effect | with_reducible apply Effect.ite | split | dsimp only | exact bitParts hm (by decide) | exact bitOff hm (by decide) | rfl

theorem State.merHalt_effect {msk : Nat} {s0 : State} (s : State) (halt : Bool) (sub : Nat) (atWrap : Bool) (hm : 0x10000000004000 &&& msk = 0x10000000004000) (h_s : Effect msk s0 s) :
    Effect msk s0 (State.merHalt s halt sub atWrap) := by
  unfold State.merHalt
  repeat' first | with_reducible intro _ | with_reducible assumption | with_reducible rfl | exact subParts hm (by decide) | with_reducible apply State.calResume_effect | with_reducible apply State.merTo_effect | with_reducible apply State.modMer_effect | with_reducible apply State.setTo_effect | with_reducible apply Effect.ite | split | dsimp only | exact bitParts hm (by decide) | exact bitOff hm (by decide) | rfl

theorem execHalt_effect {msk : Nat} {s0 : State} (_req : Req) (halt : Bool) (sub : Fin 32768) (atWrap : Bool) (s : State) (hm : 0x10000000004000 &&& msk = 0x10000000004000) (h_s : Effect msk s0 s) :
    EffectOut msk s0 (execHalt _req halt sub atWrap s) := by
  unfold execHalt
  repeat' first | with_reducible intro _ | with_reducible assumption | with_reducible rfl | with_reducible refine EffectOut.gate ?_ ?_ | with_reducible refine EffectOut.rooted ?_ ?_ | with_reducible refine EffectOut.reach ?_ ?_ | with_reducible refine EffectOut.next ?_ | exact subParts hm (by decide) | with_reducible apply State.merHalt_effect | with_reducible apply State.lockedOut_effect | with_reducible apply Effect.ite | split | dsimp only | exact bitParts hm (by decide) | exact bitOff hm (by decide) | exact bitPlus hm (by decide) | exact bitKey hm (by decide) | rfl

theorem State.wrRefused_effect {msk : Nat} {s0 : State} (s : State) (hm : 0x4000 &&& msk = 0x4000) (h_s : Effect msk s0 s) :
    Effect msk s0 (State.wrRefused s) := by
  unfold State.wrRefused
  repeat' first | with_reducible intro _ | with_reducible assumption | with_reducible rfl | exact subParts hm (by decide) | with_reducible apply State.setTo_effect | with_reducible apply Effect.ite | split | dsimp only | exact bitParts hm (by decide) | exact bitOff hm (by decide) | rfl

theorem State.calWrite_effect {msk : Nat} {s0 : State} (s : State) (which v : Nat) (hm : 0x1c0000000c4000 &&& msk = 0x1c0000000c4000) (h_s : Effect msk s0 s) :
    Effect msk s0 (State.calWrite s which v) := by
  unfold State.calWrite
  repeat' first | with_reducible intro _ | with_reducible assumption | with_reducible rfl | exact subParts hm (by decide) | with_reducible apply State.wrRefused_effect | with_reducible apply State.putCal_effect | with_reducible apply State.merEvent_effect | with_reducible apply State.put_effect | with_reducible apply Effect.ite | split | dsimp only | exact bitParts hm (by decide) | exact bitOff hm (by decide) | rfl

theorem execCalendarWrite_effect {msk : Nat} {s0 : State} (_req : Req) (which : Fin 3) (v : Word) (s : State) (hm : 0x1c0000000c4000 &&& msk = 0x1c0000000c4000) (h_s : Effect msk s0 s) :
    EffectOut msk s0 (execCalendarWrite _req which v s) := by
  unfold execCalendarWrite
  repeat' first | with_reducible intro _ | with_reducible assumption | with_reducible rfl | with_reducible refine EffectOut.gate ?_ ?_ | with_reducible refine EffectOut.rooted ?_ ?_ | with_reducible refine EffectOut.reach ?_ ?_ | with_reducible refine EffectOut.next ?_ | with_reducible exact EffectOut.fault | exact subParts hm (by decide) | with_reducible apply State.calWrite_effect | with_reducible apply State.lockedOut_effect | with_reducible apply Effect.ite | split | dsimp only | exact bitParts hm (by decide) | exact bitOff hm (by decide) | exact bitPlus hm (by decide) | exact bitKey hm (by decide) | rfl

theorem State.shiftGo_effect {msk : Nat} {s0 : State} (s : State) (hm : 0x10000000004000 &&& msk = 0x10000000004000) (h_s : Effect msk s0 s) :
    Effect msk s0 (State.shiftGo s) := by
  unfold State.shiftGo
  repeat' first | with_reducible intro _ | with_reducible assumption | with_reducible rfl | exact subParts hm (by decide) | with_reducible apply State.wrRefused_effect | with_reducible apply State.modMer_effect | with_reducible apply State.setTo_effect | with_reducible apply Effect.ite | split | dsimp only | exact bitParts hm (by decide) | exact bitOff hm (by decide) | rfl

theorem execShiftGo_effect {msk : Nat} {s0 : State} (_req : Req) (s : State) (hm : 0x10000000004000 &&& msk = 0x10000000004000) (h_s : Effect msk s0 s) :
    EffectOut msk s0 (execShiftGo _req s) := by
  unfold execShiftGo
  repeat' first | with_reducible intro _ | with_reducible assumption | with_reducible rfl | with_reducible refine EffectOut.gate ?_ ?_ | with_reducible refine EffectOut.rooted ?_ ?_ | with_reducible refine EffectOut.reach ?_ ?_ | with_reducible refine EffectOut.next ?_ | exact subParts hm (by decide) | with_reducible apply State.shiftGo_effect | with_reducible apply State.lockedOut_effect | with_reducible apply Effect.ite | split | dsimp only | exact bitParts hm (by decide) | exact bitOff hm (by decide) | exact bitPlus hm (by decide) | exact bitKey hm (by decide) | rfl

theorem State.subsecRead_effect {msk : Nat} {s0 : State} (s : State) (r : Req) (hm : 0x10000000000000 &&& msk = 0x10000000000000) (h_s : Effect msk s0 s) :
    Effect msk s0 (State.subsecRead s r).2 := by
  unfold State.subsecRead
  repeat' first | with_reducible intro _ | with_reducible assumption | with_reducible rfl | exact subParts hm (by decide) | with_reducible apply State.modMer_effect | with_reducible apply Effect.ite | split | dsimp only | rfl

theorem execMerSubsecRead_effect {msk : Nat} {s0 : State} (req : Req) (sub : Fin 32768) (s : State) (hm : 0x10000200004000 &&& msk = 0x10000200004000) (h_s : Effect msk s0 s) :
    EffectOut msk s0 (execMerSubsecRead req sub s) := by
  unfold execMerSubsecRead
  repeat' first | with_reducible intro _ | with_reducible assumption | with_reducible rfl | with_reducible refine EffectOut.gate ?_ ?_ | with_reducible refine EffectOut.rooted ?_ ?_ | with_reducible refine EffectOut.reach ?_ ?_ | with_reducible refine EffectOut.next ?_ | exact subParts hm (by decide) | with_reducible apply State.subsecRead_effect | with_reducible apply State.merTo_effect | with_reducible apply Effect.ite | split | dsimp only | with_reducible refine Effect.readData ?_ ?_ | exact bitParts hm (by decide) | exact bitOff hm (by decide) | exact bitPlus hm (by decide) | exact bitKey hm (by decide) | rfl

theorem State.showFifo_effect {msk : Nat} {s0 : State} (s : State) (hm : 0x4000 &&& msk = 0x4000) (h_s : Effect msk s0 s) :
    Effect msk s0 (State.showFifo s) := by
  unfold State.showFifo
  repeat' first | with_reducible intro _ | with_reducible assumption | with_reducible rfl | exact subParts hm (by decide) | with_reducible apply State.put_effect | with_reducible apply Effect.ite | split | dsimp only | exact bitParts hm (by decide) | exact bitOff hm (by decide) | rfl

theorem State.eviPush_effect {msk : Nat} {s0 : State} (s : State) (i : Nat) (rise : Bool) (hm : 0x1c0000000c4000 &&& msk = 0x1c0000000c4000) (h_s : Effect msk s0 s) :
    Effect msk s0 (State.eviPush s i rise) := by
  unfold State.eviPush
  repeat' first | with_reducible intro _ | with_reducible assumption | with_reducible rfl | exact subParts hm (by decide) | with_reducible apply State.showFifo_effect | with_reducible apply State.merEventMain_effect | with_reducible apply State.merEvent_effect | with_reducible apply State.modMer_effect | with_reducible apply State.bump_effect | with_reducible apply Effect.ite | split | dsimp only | exact bitParts hm (by decide) | exact bitOff hm (by decide) | exact bitPlus hm (by decide) | exact bitKey hm (by decide) | rfl

theorem State.eviEdge_effect {msk : Nat} {s0 : State} (s : State) (i : Nat) (rise : Bool) (sub : Nat) (hm : 0x1c0000000c4000 &&& msk = 0x1c0000000c4000) (h_s : Effect msk s0 s) :
    Effect msk s0 (State.eviEdge s i rise sub) := by
  unfold State.eviEdge
  repeat' first | with_reducible intro _ | with_reducible assumption | with_reducible rfl | exact subParts hm (by decide) | with_reducible apply State.eviPush_effect | with_reducible apply State.calResume_effect | with_reducible apply State.merWake_effect | with_reducible apply State.merTo_effect | with_reducible apply Effect.ite | split | dsimp only | rfl

theorem execEventInputEdge_effect {msk : Nat} {s0 : State} (input : Fin 4) (rise : Bool) (sub : Fin 32768) (s : State) (hm : 0x1c0000000c4000 &&& msk = 0x1c0000000c4000) (h_s : Effect msk s0 s) :
    EffectOut msk s0 (execEventInputEdge input rise sub s) := by
  unfold execEventInputEdge
  repeat' first | with_reducible intro _ | with_reducible assumption | with_reducible rfl | with_reducible refine EffectOut.next ?_ | exact subParts hm (by decide) | with_reducible apply State.eviEdge_effect | with_reducible apply Effect.ite | split | dsimp only | rfl

theorem State.evf0Read_effect {msk : Nat} {s0 : State} (s : State) (hm : 0x10000000004000 &&& msk = 0x10000000004000) (h_s : Effect msk s0 s) :
    Effect msk s0 (State.evf0Read s).2 := by
  unfold State.evf0Read
  repeat' first | with_reducible intro _ | with_reducible assumption | with_reducible rfl | exact subParts hm (by decide) | with_reducible apply State.modMer_effect | with_reducible apply State.wrn_effect | with_reducible apply Effect.ite | split | dsimp only | exact bitParts hm (by decide) | exact bitOff hm (by decide) | rfl

theorem execMerEvf0Read_effect {msk : Nat} {s0 : State} (_req : Req) (s : State) (hm : 0x10000200004000 &&& msk = 0x10000200004000) (h_s : Effect msk s0 s) :
    EffectOut msk s0 (execMerEvf0Read _req s) := by
  unfold execMerEvf0Read
  repeat' first | with_reducible intro _ | with_reducible assumption | with_reducible rfl | with_reducible refine EffectOut.gate ?_ ?_ | with_reducible refine EffectOut.rooted ?_ ?_ | with_reducible refine EffectOut.reach ?_ ?_ | with_reducible refine EffectOut.next ?_ | exact subParts hm (by decide) | with_reducible apply State.evf0Read_effect | with_reducible apply Effect.ite | split | dsimp only | with_reducible refine Effect.readData ?_ ?_ | exact bitParts hm (by decide) | exact bitOff hm (by decide) | exact bitPlus hm (by decide) | exact bitKey hm (by decide) | rfl

theorem State.evf2Read_effect {msk : Nat} {s0 : State} (s : State) (hm : 0x10000000004000 &&& msk = 0x10000000004000) (h_s : Effect msk s0 s) :
    Effect msk s0 (State.evf2Read s).2 := by
  unfold State.evf2Read
  repeat' first | with_reducible intro _ | with_reducible assumption | with_reducible rfl | exact subParts hm (by decide) | with_reducible apply State.showFifo_effect | with_reducible apply State.modMer_effect | with_reducible apply Effect.ite | split | dsimp only | rfl

theorem execMerEvf2Read_effect {msk : Nat} {s0 : State} (_req : Req) (s : State) (hm : 0x10000200004000 &&& msk = 0x10000200004000) (h_s : Effect msk s0 s) :
    EffectOut msk s0 (execMerEvf2Read _req s) := by
  unfold execMerEvf2Read
  repeat' first | with_reducible intro _ | with_reducible assumption | with_reducible rfl | with_reducible refine EffectOut.gate ?_ ?_ | with_reducible refine EffectOut.rooted ?_ ?_ | with_reducible refine EffectOut.reach ?_ ?_ | with_reducible refine EffectOut.next ?_ | exact subParts hm (by decide) | with_reducible apply State.evf2Read_effect | with_reducible apply Effect.ite | split | dsimp only | with_reducible refine Effect.readData ?_ ?_ | exact bitParts hm (by decide) | exact bitOff hm (by decide) | exact bitPlus hm (by decide) | exact bitKey hm (by decide) | rfl

theorem State.merLost_effect {m : Nat} {s0 : State} (s : State) (hm : 0x100020ffffffff &&& m = 0x100020ffffffff) (h_s : Effect m s0 s) :
    Effect m s0 (State.merLost s) := by
  have hr : ∀ p, Effect m s0 { s with regs := s.regs.filter p } := fun p =>
    ⟨⟨fun w => swf_filter _ (h_s.kept.regs w), fun w e => h_s.kept.eff w e, h_s.kept.mem, h_s.kept.pending, h_s.kept.variant,
      h_s.kept.sizes, h_s.kept.fuses⟩,
      { h_s.within with regs := fun _ b => absurd (b.symm.trans (bitAll hm (by decide))) Bool.false_ne_true }⟩
  unfold State.merLost
  refine State.setTo_effect _ _ _ (bitParts hm (by decide)) ?_
  exact Effect.mer (bitParts hm (by decide)) (Effect.retained (x := []) (bitParts hm (by decide)) (hr _) fun _ => rfl)

theorem State.vbatFall_effect {msk : Nat} {s0 : State} (s : State) (close : Bool) (hm : 0x100020ffffffff &&& msk = 0x100020ffffffff) (h_s : Effect msk s0 s) :
    Effect msk s0 (State.vbatFall s close) := by
  unfold State.vbatFall
  repeat' first | with_reducible intro _ | with_reducible assumption | with_reducible rfl | exact subParts hm (by decide) | with_reducible apply State.merLost_effect | with_reducible apply State.modMer_effect | with_reducible apply Effect.ite | split | dsimp only | rfl

theorem execTimeLost_effect {msk : Nat} {s0 : State} (close : Bool) (s : State) (hm : 0x100020ffffffff &&& msk = 0x100020ffffffff) (h_s : Effect msk s0 s) :
    EffectOut msk s0 (execTimeLost close s) := by
  unfold execTimeLost
  repeat' first | with_reducible intro _ | with_reducible assumption | with_reducible rfl | with_reducible refine EffectOut.next ?_ | exact subParts hm (by decide) | with_reducible apply State.vbatFall_effect | with_reducible apply Effect.ite | split | dsimp only | rfl

theorem State.merPowerUp_effect {msk : Nat} {s0 : State} (s : State) (vbat : Bool) (hm : 0x100020ffffffff &&& msk = 0x100020ffffffff) (h_s : Effect msk s0 s) :
    Effect msk s0 (State.merPowerUp s vbat) := by
  unfold State.merPowerUp
  repeat' first | with_reducible intro _ | with_reducible assumption | with_reducible rfl | exact subParts hm (by decide) | with_reducible apply State.merLost_effect | with_reducible apply State.modMer_effect | with_reducible apply Effect.ite | split | dsimp only | rfl

theorem execMeridianPowerUp_effect {msk : Nat} {s0 : State} (vbat : Bool) (s : State) (hm : 0x100020ffffffff &&& msk = 0x100020ffffffff) (h_s : Effect msk s0 s) :
    EffectOut msk s0 (execMeridianPowerUp vbat s) := by
  unfold execMeridianPowerUp
  repeat' first | with_reducible intro _ | with_reducible assumption | with_reducible rfl | with_reducible refine EffectOut.next ?_ | exact subParts hm (by decide) | with_reducible apply State.merPowerUp_effect | with_reducible apply Effect.ite | split | dsimp only | rfl

theorem State.timeLostClear_effect {msk : Nat} {s0 : State} (s : State) (hm : 0x4000 &&& msk = 0x4000) (h_s : Effect msk s0 s) :
    Effect msk s0 (State.timeLostClear s) := by
  unfold State.timeLostClear
  repeat' first | with_reducible intro _ | with_reducible assumption | with_reducible rfl | exact subParts hm (by decide) | with_reducible apply State.setTo_effect | with_reducible apply Effect.ite | split | dsimp only | exact bitParts hm (by decide) | exact bitOff hm (by decide) | rfl

theorem execTimeLostClear_effect {msk : Nat} {s0 : State} (_req : Req) (s : State) (hm : 0x4000 &&& msk = 0x4000) (h_s : Effect msk s0 s) :
    EffectOut msk s0 (execTimeLostClear _req s) := by
  unfold execTimeLostClear
  repeat' first | with_reducible intro _ | with_reducible assumption | with_reducible rfl | with_reducible refine EffectOut.gate ?_ ?_ | with_reducible refine EffectOut.rooted ?_ ?_ | with_reducible refine EffectOut.reach ?_ ?_ | with_reducible refine EffectOut.next ?_ | exact subParts hm (by decide) | with_reducible apply State.timeLostClear_effect | with_reducible apply State.lockedOut_effect | with_reducible apply Effect.ite | split | dsimp only | exact bitParts hm (by decide) | exact bitOff hm (by decide) | exact bitPlus hm (by decide) | exact bitKey hm (by decide) | rfl

theorem execBatLow_effect {msk : Nat} {s0 : State} (low : Bool) (s : State) (hm : 0x1c0000000c4000 &&& msk = 0x1c0000000c4000) (h_s : Effect msk s0 s) :
    EffectOut msk s0 (execBatLow low s) := by
  unfold execBatLow
  repeat' first | with_reducible intro _ | with_reducible assumption | with_reducible rfl | with_reducible refine EffectOut.next ?_ | exact subParts hm (by decide) | with_reducible apply State.merEvent_effect | with_reducible apply State.setTo_effect | with_reducible apply Effect.ite | split | dsimp only | exact bitParts hm (by decide) | exact bitOff hm (by decide) | rfl

theorem State.aonWarning_effect {msk : Nat} {s0 : State} (s : State) (hm : 0x10006000004000 &&& msk = 0x10006000004000) (h_s : Effect msk s0 s) :
    Effect msk s0 (State.aonWarning s) := by
  unfold State.aonWarning
  repeat' first | with_reducible intro _ | with_reducible assumption | with_reducible rfl | exact subParts hm (by decide) | with_reducible apply State.cutCopy_effect | with_reducible apply State.modMer_effect | with_reducible apply Effect.ite | split | dsimp only | exact bitParts hm (by decide) | exact bitOff hm (by decide) | exact bitPlus hm (by decide) | exact bitKey hm (by decide) | rfl

theorem State.aonAbove_effect {msk : Nat} {s0 : State} (s : State) (hm : 0x10000000000000 &&& msk = 0x10000000000000) (h_s : Effect msk s0 s) :
    Effect msk s0 (State.aonAbove s) := by
  unfold State.aonAbove
  repeat' first | with_reducible intro _ | with_reducible assumption | with_reducible rfl | exact subParts hm (by decide) | with_reducible apply State.modMer_effect | with_reducible apply Effect.ite | split | dsimp only | exact bitParts hm (by decide) | exact bitOff hm (by decide) | exact bitPlus hm (by decide) | exact bitKey hm (by decide) | rfl

theorem execVddAonWarning_effect {msk : Nat} {s0 : State} (s : State) (hm : 0x10006000004000 &&& msk = 0x10006000004000) (h_s : Effect msk s0 s) :
    EffectOut msk s0 (execVddAonWarning s) := by
  unfold execVddAonWarning
  repeat' first | with_reducible intro _ | with_reducible assumption | with_reducible rfl | with_reducible refine EffectOut.gate ?_ ?_ | with_reducible refine EffectOut.next ?_ | exact subParts hm (by decide) | with_reducible apply State.aonWarning_effect | with_reducible apply Effect.ite | split | dsimp only | exact bitParts hm (by decide) | exact bitOff hm (by decide) | exact bitPlus hm (by decide) | exact bitKey hm (by decide) | rfl

theorem State.takeVbat_effect {msk : Nat} {s0 : State} (s : State) (vbat : Bool) (sub : Nat) (hm : 0x1c0000000c4000 &&& msk = 0x1c0000000c4000) (h_s : Effect msk s0 s) :
    Effect msk s0 (State.takeVbat s vbat sub) := by
  unfold State.takeVbat
  repeat' first | with_reducible intro _ | with_reducible assumption | with_reducible rfl | exact subParts hm (by decide) | with_reducible apply State.pwrEnd_effect | with_reducible apply State.merTo_effect | with_reducible apply State.merEvent_effect | with_reducible apply State.modMer_effect | with_reducible apply State.wrn_effect | with_reducible apply Effect.ite | split | dsimp only | exact bitParts hm (by decide) | exact bitOff hm (by decide) | exact bitPlus hm (by decide) | exact bitKey hm (by decide) | rfl

theorem execSleep_effect {msk : Nat} {s0 : State} (_req : Req) (s : State) (hm : 0x1c0000000c4000 &&& msk = 0x1c0000000c4000) (h_s : Effect msk s0 s) :
    EffectOut msk s0 (execSleep _req s) := by
  unfold execSleep
  repeat' first | with_reducible intro _ | with_reducible assumption | with_reducible rfl | with_reducible refine EffectOut.gate ?_ ?_ | with_reducible refine EffectOut.rooted ?_ ?_ | with_reducible refine EffectOut.reach ?_ ?_ | with_reducible refine EffectOut.next ?_ | exact subParts hm (by decide) | with_reducible apply State.pwrStart_effect | with_reducible apply State.lockedOut_effect | with_reducible apply Effect.ite | split | dsimp only | exact bitParts hm (by decide) | exact bitOff hm (by decide) | exact bitPlus hm (by decide) | exact bitKey hm (by decide) | rfl

theorem execOffTimeExpiry_effect {msk : Nat} {s0 : State} (s : State) (hm : 0x10000000004000 &&& msk = 0x10000000004000) (h_s : Effect msk s0 s) :
    EffectOut msk s0 (execOffTimeExpiry s) := by
  unfold execOffTimeExpiry
  repeat' first | with_reducible intro _ | with_reducible assumption | with_reducible rfl | with_reducible refine EffectOut.next ?_ | exact subParts hm (by decide) | with_reducible apply State.pwrEnd_effect | with_reducible apply Effect.ite | split | dsimp only | rfl

theorem execPwrIgnored_effect {msk : Nat} {s0 : State} (s : State) (hm : 0x10000000004000 &&& msk = 0x10000000004000) (h_s : Effect msk s0 s) :
    EffectOut msk s0 (execPwrIgnored s) := by
  unfold execPwrIgnored
  repeat' first | with_reducible intro _ | with_reducible assumption | with_reducible rfl | with_reducible refine EffectOut.next ?_ | exact subParts hm (by decide) | with_reducible apply State.pwrEnd_effect | with_reducible apply State.setTo_effect | with_reducible apply Effect.ite | split | dsimp only | exact bitParts hm (by decide) | exact bitOff hm (by decide) | rfl

end Sys2Proof.Machine
end

