-- ==== Sys2Proof/Laws/EffectDebug.lean ====
section
/-! SUPPORT. What the operations of Machine/Debug.lean do: the parts of the state that each may change. -/

set_option linter.unusedTactic false
set_option linter.unusedVariables false
set_option linter.unreachableTactic false

namespace Sys2Proof.Machine

theorem State.modDbg_effect {msk : Nat} {s0 : State} (s : State) (f : DebugMod → DebugMod) (hm : 0x200000000000000 &&& msk = 0x200000000000000) (h_s : Effect msk s0 s) :
    Effect msk s0 (State.modDbg s f) := by
  unfold State.modDbg
  repeat' first | with_reducible intro _ | with_reducible assumption | with_reducible rfl | exact subParts hm (by decide) | with_reducible apply Effect.ite | split | dsimp only | with_reducible refine Effect.boot ?_ ?_ ?_ | exact bitParts hm (by decide) | exact bitOff hm (by decide) | exact bitPlus hm (by decide) | exact bitKey hm (by decide) | rfl

theorem State.haltAsked_effect {msk : Nat} {s0 : State} (s : State) (hm : 0x200000000000000 &&& msk = 0x200000000000000) (h_s : Effect msk s0 s) :
    Effect msk s0 (State.haltAsked s) := by
  unfold State.haltAsked
  repeat' first | with_reducible intro _ | with_reducible assumption | with_reducible rfl | exact subParts hm (by decide) | with_reducible apply State.modDbg_effect | with_reducible apply Effect.ite | split | dsimp only | exact bitParts hm (by decide) | exact bitOff hm (by decide) | exact bitPlus hm (by decide) | exact bitKey hm (by decide) | rfl

theorem State.dmResume_effect {msk : Nat} {s0 : State} (s : State) (hm : 0x200000000000000 &&& msk = 0x200000000000000) (h_s : Effect msk s0 s) :
    Effect msk s0 (State.dmResume s) := by
  unfold State.dmResume
  repeat' first | with_reducible intro _ | with_reducible assumption | with_reducible rfl | exact subParts hm (by decide) | with_reducible apply State.modDbg_effect | with_reducible apply Effect.ite | split | dsimp only | exact bitParts hm (by decide) | exact bitOff hm (by decide) | exact bitPlus hm (by decide) | exact bitKey hm (by decide) | rfl

theorem State.dmReset_effect {msk : Nat} {s0 : State} (s : State) (b : Bool) (hm : 0x200000000000000 &&& msk = 0x200000000000000) (h_s : Effect msk s0 s) :
    Effect msk s0 (State.dmReset s b) := by
  unfold State.dmReset
  repeat' first | with_reducible intro _ | with_reducible assumption | with_reducible rfl | exact subParts hm (by decide) | with_reducible apply State.modDbg_effect | with_reducible apply Effect.ite | split | dsimp only | exact bitParts hm (by decide) | exact bitOff hm (by decide) | exact bitPlus hm (by decide) | exact bitKey hm (by decide) | rfl

theorem State.dmControl_effect {msk : Nat} {s0 : State} (s : State) (v : Nat) (hm : 0x200000000000000 &&& msk = 0x200000000000000) (h_s : Effect msk s0 s) :
    Effect msk s0 (State.dmControl s v) := by
  unfold State.dmControl
  repeat' first | with_reducible intro _ | with_reducible assumption | with_reducible rfl | exact subParts hm (by decide) | with_reducible apply State.dmReset_effect | with_reducible apply State.dmResume_effect | with_reducible apply State.haltAsked_effect | with_reducible apply State.modDbg_effect | with_reducible apply Effect.ite | split | dsimp only | exact bitParts hm (by decide) | exact bitOff hm (by decide) | exact bitPlus hm (by decide) | exact bitKey hm (by decide) | rfl

theorem State.dmAccess_effect {msk : Nat} {s0 : State} (s : State) (r size : Nat) (write : Bool) (hm : 0x600000000000000 &&& msk = 0x600000000000000) (h_s : Effect msk s0 s) :
    Effect msk s0 (State.dmAccess s r size write) := by
  unfold State.dmAccess
  repeat' first | with_reducible intro _ | with_reducible assumption | with_reducible rfl | exact subParts hm (by decide) | with_reducible apply State.modDbg_effect | with_reducible apply State.nextFree_effect | with_reducible apply Effect.ite | split | dsimp only | exact bitParts hm (by decide) | exact bitOff hm (by decide) | exact bitPlus hm (by decide) | exact bitKey hm (by decide) | rfl

theorem State.dmCommand_effect {msk : Nat} {s0 : State} (s : State) (v : Nat) (hm : 0x600000000000000 &&& msk = 0x600000000000000) (h_s : Effect msk s0 s) :
    Effect msk s0 (State.dmCommand s v) := by
  unfold State.dmCommand
  repeat' first | with_reducible intro _ | with_reducible assumption | with_reducible rfl | exact subParts hm (by decide) | with_reducible apply State.dmAccess_effect | with_reducible apply State.modDbg_effect | with_reducible apply Effect.ite | split | dsimp only | exact bitParts hm (by decide) | exact bitOff hm (by decide) | exact bitPlus hm (by decide) | exact bitKey hm (by decide) | rfl

theorem State.dmWrite_effect {msk : Nat} {s0 : State} (s : State) (a v : Nat) (hm : 0x600000000000000 &&& msk = 0x600000000000000) (h_s : Effect msk s0 s) :
    Effect msk s0 (State.dmWrite s a v) := by
  unfold State.dmWrite
  repeat' first | with_reducible intro _ | with_reducible assumption | with_reducible rfl | exact subParts hm (by decide) | with_reducible apply State.dmCommand_effect | with_reducible apply State.dmControl_effect | with_reducible apply State.modDbg_effect | with_reducible apply Effect.ite | split | dsimp only | exact bitParts hm (by decide) | exact bitOff hm (by decide) | exact bitPlus hm (by decide) | exact bitKey hm (by decide) | rfl

end Sys2Proof.Machine
end

