-- ==== Sys2Proof/Laws/EffectProgram.lean ====
section
/-! SUPPORT. What the operations of Machine/Program.lean do: the parts of the state that each may change. -/

set_option linter.unusedTactic false
set_option linter.unusedVariables false
set_option linter.unreachableTactic false

namespace Sys2Proof.Machine

theorem State.modCdr_effect {msk : Nat} {s0 : State} (s : State) (f : ClockDrive → ClockDrive) (hm : 0x4000000000 &&& msk = 0x4000000000) (h_s : Effect msk s0 s) :
    Effect msk s0 (State.modCdr s f) := by
  unfold State.modCdr
  repeat' first | with_reducible intro _ | with_reducible assumption | with_reducible rfl | with_reducible apply Effect.ite | split | dsimp only | with_reducible refine Effect.cdr ?_ ?_ | exact bitParts hm (by decide) | rfl

theorem State.setHalf_effect {msk : Nat} {s0 : State} (s : State) (h : Half) (hm : 0x4000000000 &&& msk = 0x4000000000) (h_s : Effect msk s0 s) :
    Effect msk s0 (State.setHalf s h) := by
  unfold State.setHalf
  repeat' first | with_reducible intro _ | with_reducible assumption | with_reducible rfl | exact subParts hm (by decide) | with_reducible apply State.modCdr_effect | with_reducible apply Effect.ite | split | dsimp only | rfl

theorem State.setSpare_effect {msk : Nat} {s0 : State} (s : State) (h : Half) (hm : 0x4000000000 &&& msk = 0x4000000000) (h_s : Effect msk s0 s) :
    Effect msk s0 (State.setSpare s h) := by
  unfold State.setSpare
  repeat' first | with_reducible intro _ | with_reducible assumption | with_reducible rfl | exact subParts hm (by decide) | with_reducible apply State.modCdr_effect | with_reducible apply Effect.ite | split | dsimp only | rfl

theorem State.copyRetained_effect {msk : Nat} {s0 : State} (s : State) (hm : 0x6000004000 &&& msk = 0x6000004000) (h_s : Effect msk s0 s) :
    Effect msk s0 (State.copyRetained s) := by
  unfold State.copyRetained
  repeat' first | with_reducible intro _ | with_reducible assumption | with_reducible rfl | exact subParts hm (by decide) | with_reducible apply State.modCdr_effect | with_reducible apply State.retPut_effect | with_reducible apply Effect.ite | split | dsimp only | exact bitParts hm (by decide) | exact bitOff hm (by decide) | exact bitPlus hm (by decide) | exact bitKey hm (by decide) | rfl

theorem State.dropCopies_effect {msk : Nat} {s0 : State} (s : State) (hm : 0x2000004000 &&& msk = 0x2000004000) (h_s : Effect msk s0 s) :
    Effect msk s0 (State.dropCopies s) := by
  unfold State.dropCopies
  repeat' first | with_reducible intro _ | with_reducible assumption | with_reducible rfl | exact subParts hm (by decide) | with_reducible apply State.retPut_effect | with_reducible apply Effect.ite | split | dsimp only | exact bitParts hm (by decide) | exact bitOff hm (by decide) | exact bitPlus hm (by decide) | exact bitKey hm (by decide) | rfl

end Sys2Proof.Machine
end

