-- ==== Sys2Proof/Laws/EffectEthernet.lean ====
section
/-! SUPPORT. What the operations of Machine/Ethernet.lean do: the parts of the state that each may change. -/

set_option linter.unusedTactic false
set_option linter.unusedVariables false
set_option linter.unreachableTactic false

namespace Sys2Proof.Machine

theorem State.modPort_effect {msk : Nat} {s0 : State} (s : State) (p : Nat) (f : EthPort → EthPort) (hm : 0x200000000000 &&& msk = 0x200000000000) (h_s : Effect msk s0 s) :
    Effect msk s0 (State.modPort s p f) := by
  unfold State.modPort
  repeat' first | with_reducible intro _ | with_reducible assumption | with_reducible rfl | with_reducible apply Effect.ite | split | dsimp only | with_reducible refine Effect.eth ?_ ?_ | exact bitParts hm (by decide) | rfl

theorem State.fabWrite_effect {msk : Nat} {s0 : State} (s : State) (base off : Nat) (bs : List Byte) (hm : 0xc00000000 &&& msk = 0xc00000000) (h_s : Effect msk s0 s) :
    Effect msk s0 (State.fabWrite s base off bs) := by
  unfold State.fabWrite
  repeat' first | with_reducible intro _ | with_reducible assumption | with_reducible rfl | exact subParts hm (by decide) | with_reducible apply Effect.ite | split | dsimp only | with_reducible refine Effect.sram ?_ ?_ ?_ | with_reducible refine Effect.ddr ?_ ?_ ?_ | with_reducible apply swf_writeBytes | with_reducible apply swf_filter | with_reducible apply swf_writeWord | with_reducible apply swf_writeWords | exact bitParts hm (by decide) | exact bitOff hm (by decide) | exact bitPlus hm (by decide) | exact bitKey hm (by decide) | rfl

theorem State.storeDescs_effect {msk : Nat} {s0 : State} (s : State) (p ring : Nat) (es : List TxEntry) (hm : 0xc00000000 &&& msk = 0xc00000000) (h_s : Effect msk s0 s) :
    Effect msk s0 (State.storeDescs s p ring es) := by
  unfold State.storeDescs
  repeat' first | with_reducible intro _ | with_reducible assumption | with_reducible rfl | exact subParts hm (by decide) | with_reducible apply State.fabWrite_effect | with_reducible apply Effect.forEach | with_reducible apply Effect.ite | split | dsimp only | exact bitParts hm (by decide) | exact bitOff hm (by decide) | exact bitPlus hm (by decide) | exact bitKey hm (by decide) | rfl

theorem State.writeStatus_effect {msk : Nat} {s0 : State} (s : State) (p : Nat) (d : EthDone) (hm : 0xc00000000 &&& msk = 0xc00000000) (h_s : Effect msk s0 s) :
    Effect msk s0 (State.writeStatus s p d) := by
  unfold State.writeStatus
  repeat' first | with_reducible intro _ | with_reducible assumption | with_reducible rfl | exact subParts hm (by decide) | with_reducible apply State.fabWrite_effect | with_reducible apply Effect.ite | split | dsimp only | exact bitParts hm (by decide) | exact bitOff hm (by decide) | exact bitPlus hm (by decide) | exact bitKey hm (by decide) | rfl

theorem State.deliver_effect {msk : Nat} {s0 : State} (s : State) (p : Nat) (fr : List Byte) (filter : Nat) (hm : 0xc200c000c2000 &&& msk = 0xc200c000c2000) (h_s : Effect msk s0 s) :
    Effect msk s0 (State.deliver s p fr filter) := by
  unfold State.deliver
  repeat' first | with_reducible intro _ | with_reducible assumption | with_reducible rfl | exact subParts hm (by decide) | with_reducible apply State.fabWrite_effect | with_reducible apply State.modPort_effect | with_reducible apply State.raise1_effect | with_reducible apply State.bump_effect | with_reducible apply State.put_effect | with_reducible apply Effect.ite | split | dsimp only | exact bitParts hm (by decide) | exact bitOff hm (by decide) | exact bitPlus hm (by decide) | exact bitKey hm (by decide) | rfl

theorem State.rxFrame_effect {msk : Nat} {s0 : State} (s : State) (p : Nat) (fr : List Byte) (fcsOk : Bool) (hm : 0xc200c000c2000 &&& msk = 0xc200c000c2000) (h_s : Effect msk s0 s) :
    Effect msk s0 (State.rxFrame s p fr fcsOk) := by
  unfold State.rxFrame
  repeat' first | with_reducible intro _ | with_reducible assumption | with_reducible rfl | exact subParts hm (by decide) | with_reducible apply State.deliver_effect | with_reducible apply State.bump_effect | with_reducible apply Effect.ite | split | dsimp only | exact bitParts hm (by decide) | exact bitOff hm (by decide) | rfl

theorem State.drainTx_effect {msk : Nat} {s0 : State} (s : State) (p : Nat) (hm : 0x200c00002000 &&& msk = 0x200c00002000) (h_s : Effect msk s0 s) :
    Effect msk s0 (State.drainTx s p) := by
  unfold State.drainTx
  repeat' first | with_reducible intro _ | with_reducible assumption | with_reducible rfl | exact subParts hm (by decide) | with_reducible apply State.writeStatus_effect | with_reducible apply State.modPort_effect | with_reducible apply State.put_effect | with_reducible apply Effect.forEach | with_reducible apply Effect.ite | split | dsimp only | exact bitParts hm (by decide) | exact bitOff hm (by decide) | exact bitPlus hm (by decide) | exact bitKey hm (by decide) | rfl

theorem State.drainLq_effect {msk : Nat} {s0 : State} (s : State) (p : Nat) (hm : 0x200c00002000 &&& msk = 0x200c00002000) (h_s : Effect msk s0 s) :
    Effect msk s0 (State.drainLq s p) := by
  unfold State.drainLq
  repeat' first | with_reducible intro _ | with_reducible assumption | with_reducible rfl | exact subParts hm (by decide) | with_reducible apply State.writeStatus_effect | with_reducible apply State.modPort_effect | with_reducible apply State.put_effect | with_reducible apply Effect.forEach | with_reducible apply Effect.ite | split | dsimp only | exact bitParts hm (by decide) | exact bitOff hm (by decide) | exact bitPlus hm (by decide) | exact bitKey hm (by decide) | rfl

theorem State.prodRx_effect {msk : Nat} {s0 : State} (s : State) (p n : Nat) (hm : 0x2000 &&& msk = 0x2000) (h_s : Effect msk s0 s) :
    Effect msk s0 (State.prodRx s p n) := by
  unfold State.prodRx
  repeat' first | with_reducible intro _ | with_reducible assumption | with_reducible rfl | exact subParts hm (by decide) | with_reducible apply State.put_effect | with_reducible apply Effect.ite | split | dsimp only | exact bitParts hm (by decide) | exact bitOff hm (by decide) | rfl

theorem State.prodTx_effect {msk : Nat} {s0 : State} (s : State) (p n : Nat) (ds : List TxDesc) (hm : 0x200c00002000 &&& msk = 0x200c00002000) (h_s : Effect msk s0 s) :
    Effect msk s0 (State.prodTx s p n ds) := by
  unfold State.prodTx
  repeat' first | with_reducible intro _ | with_reducible assumption | with_reducible rfl | exact subParts hm (by decide) | with_reducible apply State.drainTx_effect | with_reducible apply State.storeDescs_effect | with_reducible apply State.modPort_effect | with_reducible apply State.put_effect | with_reducible apply Effect.ite | split | dsimp only | exact bitParts hm (by decide) | exact bitOff hm (by decide) | exact bitPlus hm (by decide) | exact bitKey hm (by decide) | rfl

theorem State.prodLq_effect {msk : Nat} {s0 : State} (s : State) (p n : Nat) (ds : List TxDesc) (hm : 0xc200c000c2000 &&& msk = 0xc200c000c2000) (h_s : Effect msk s0 s) :
    Effect msk s0 (State.prodLq s p n ds) := by
  unfold State.prodLq
  repeat' first | with_reducible intro _ | with_reducible assumption | with_reducible rfl | exact subParts hm (by decide) | with_reducible apply State.drainLq_effect | with_reducible apply State.storeDescs_effect | with_reducible apply State.modPort_effect | with_reducible apply State.raise1_effect | with_reducible apply State.put_effect | with_reducible apply Effect.forEach | with_reducible apply Effect.ite | split | dsimp only | exact bitParts hm (by decide) | exact bitOff hm (by decide) | exact bitPlus hm (by decide) | exact bitKey hm (by decide) | rfl

theorem execEthProd_effect {msk : Nat} {s0 : State} (_req : Req) (port : Fin 4) (rx tx lq : Fin 256) (txd lqd : List TxDesc) (s : State) (hm : 0xc200c000c2000 &&& msk = 0xc200c000c2000) (h_s : Effect msk s0 s) :
    EffectOut msk s0 (execEthProd _req port rx tx lq txd lqd s) := by
  unfold execEthProd
  repeat' first | with_reducible intro _ | with_reducible assumption | with_reducible rfl | with_reducible refine EffectOut.gate ?_ ?_ | with_reducible refine EffectOut.next ?_ | exact subParts hm (by decide) | with_reducible apply State.prodLq_effect | with_reducible apply State.prodTx_effect | with_reducible apply State.prodRx_effect | with_reducible apply Effect.ite | split | dsimp only | rfl

theorem State.sendFrame_effect {msk : Nat} {s0 : State} (s : State) (p : Nat) (d : TxDesc) (hm : 0xc3000000c2000 &&& msk = 0xc3000000c2000) (h_s : Effect msk s0 s) :
    Effect msk s0 (State.sendFrame s p d) := by
  unfold State.sendFrame
  repeat' first | with_reducible intro _ | with_reducible assumption | with_reducible rfl | exact subParts hm (by decide) | with_reducible apply State.modPort_effect | with_reducible apply State.pushStamp_effect | with_reducible apply Effect.ite | split | dsimp only | exact bitParts hm (by decide) | exact bitOff hm (by decide) | exact bitPlus hm (by decide) | exact bitKey hm (by decide) | rfl

theorem State.txDone_effect {msk : Nat} {s0 : State} (u : State) (p : Nat) (hm : 0x27efccc000c2000 &&& msk = 0x27efccc000c2000) (h_u : Effect msk s0 u) :
    Effect msk s0 (State.txDone u p) := by
  unfold State.txDone
  repeat' first | with_reducible intro _ | with_reducible assumption | with_reducible rfl | exact subParts hm (by decide) | with_reducible apply State.sendFrame_effect | with_reducible apply State.drainTx_effect | with_reducible apply State.modPort_effect | with_reducible apply State.runTo_effect | with_reducible apply Effect.ite | split | dsimp only | exact bitParts hm (by decide) | exact bitOff hm (by decide) | exact bitPlus hm (by decide) | exact bitKey hm (by decide) | rfl

theorem execTransmitDone_effect {msk : Nat} {s0 : State} (port : Fin 4) (s : State) (hm : 0x27efccc000c2000 &&& msk = 0x27efccc000c2000) (h_s : Effect msk s0 s) :
    EffectOut msk s0 (execTransmitDone port s) := by
  unfold execTransmitDone
  repeat' first | with_reducible intro _ | with_reducible assumption | with_reducible rfl | with_reducible refine EffectOut.gate ?_ ?_ | with_reducible refine EffectOut.next ?_ | exact subParts hm (by decide) | with_reducible apply State.txDone_effect | with_reducible apply Effect.ite | split | dsimp only | rfl

theorem State.launchCommit_effect {msk : Nat} {s0 : State} (s : State) (p ring : Nat) (hm : 0x27efcc0000c2000 &&& msk = 0x27efcc0000c2000) (h_s : Effect msk s0 s) :
    Effect msk s0 (State.launchCommit s p ring) := by
  unfold State.launchCommit
  repeat' first | with_reducible intro _ | with_reducible assumption | with_reducible rfl | exact subParts hm (by decide) | with_reducible apply State.modPort_effect | with_reducible apply State.runTo_effect | with_reducible apply Effect.ite | split | dsimp only | rfl

theorem execLaunchCommit_effect {msk : Nat} {s0 : State} (port : Fin 4) (ring : Fin 2) (s : State) (hm : 0x27efcc0000c2000 &&& msk = 0x27efcc0000c2000) (h_s : Effect msk s0 s) :
    EffectOut msk s0 (execLaunchCommit port ring s) := by
  unfold execLaunchCommit
  repeat' first | with_reducible intro _ | with_reducible assumption | with_reducible rfl | with_reducible refine EffectOut.gate ?_ ?_ | with_reducible refine EffectOut.next ?_ | exact subParts hm (by decide) | with_reducible apply State.launchCommit_effect | with_reducible apply Effect.ite | split | dsimp only | rfl

theorem State.departOne_effect {msk : Nat} {s0 : State} (s : State) (p ring : Nat) (hm : 0x27efccc000c2000 &&& msk = 0x27efccc000c2000) (h_s : Effect msk s0 s) :
    Effect msk s0 (State.departOne s p ring) := by
  unfold State.departOne
  repeat' first | with_reducible intro _ | with_reducible assumption | with_reducible rfl | exact subParts hm (by decide) | with_reducible apply State.sendFrame_effect | with_reducible apply State.drainLq_effect | with_reducible apply State.modPort_effect | with_reducible apply State.runTo_effect | with_reducible apply State.raiseIf_effect | with_reducible apply Effect.ite | split | dsimp only | exact bitParts hm (by decide) | exact bitOff hm (by decide) | exact bitPlus hm (by decide) | exact bitKey hm (by decide) | rfl

theorem State.departBefore_effect {m : Nat} {s0 : State} (p ro : Nat) (e : TxEntry) (n : Nat) (s : State) (hm : 0x27efccc000c2000 &&& m = 0x27efccc000c2000) (h_s : Effect m s0 s) :
    Effect m s0 (State.departBefore p ro e n s) := by
  induction n generalizing s with
  | zero => exact h_s
  | succ n ih =>
    unfold State.departBefore
    split
    · exact h_s
    · split
      · refine ih _ (State.departOne_effect _ _ _ (subParts hm (by decide)) ?_)
        split
        · exact h_s
        · exact State.launchCommit_effect _ _ _ (subParts hm (by decide)) h_s
      · exact h_s

theorem State.launchDepart_effect {msk : Nat} {s0 : State} (s : State) (p ring : Nat) (hm : 0x27efccc000c2000 &&& msk = 0x27efccc000c2000) (h_s : Effect msk s0 s) :
    Effect msk s0 (State.launchDepart s p ring) := by
  unfold State.launchDepart
  repeat' first | with_reducible intro _ | with_reducible assumption | with_reducible rfl | exact subParts hm (by decide) | with_reducible apply State.departBefore_effect | with_reducible apply State.departOne_effect | with_reducible apply Effect.ite | split | dsimp only | exact bitParts hm (by decide) | exact bitOff hm (by decide) | exact bitPlus hm (by decide) | exact bitKey hm (by decide) | rfl

theorem execLaunchDepart_effect {msk : Nat} {s0 : State} (port : Fin 4) (ring : Fin 2) (s : State) (hm : 0x27efccc000c2000 &&& msk = 0x27efccc000c2000) (h_s : Effect msk s0 s) :
    EffectOut msk s0 (execLaunchDepart port ring s) := by
  unfold execLaunchDepart
  repeat' first | with_reducible intro _ | with_reducible assumption | with_reducible rfl | with_reducible refine EffectOut.gate ?_ ?_ | with_reducible refine EffectOut.next ?_ | exact subParts hm (by decide) | with_reducible apply State.launchDepart_effect | with_reducible apply Effect.ite | split | dsimp only | rfl

theorem State.lqCancel_effect {msk : Nat} {s0 : State} (s : State) (p idx : Nat) (hm : 0x200c00002000 &&& msk = 0x200c00002000) (h_s : Effect msk s0 s) :
    Effect msk s0 (State.lqCancel s p idx) := by
  unfold State.lqCancel
  repeat' first | with_reducible intro _ | with_reducible assumption | with_reducible rfl | exact subParts hm (by decide) | with_reducible apply State.drainLq_effect | with_reducible apply State.modPort_effect | with_reducible apply State.setTo_effect | with_reducible apply State.put_effect | with_reducible apply Effect.ite | split | dsimp only | exact bitParts hm (by decide) | exact bitOff hm (by decide) | exact bitPlus hm (by decide) | exact bitKey hm (by decide) | rfl

theorem execEthLqCancel_effect {msk : Nat} {s0 : State} (_req : Req) (port : Fin 4) (index : Fin 256) (s : State) (hm : 0x200c00002000 &&& msk = 0x200c00002000) (h_s : Effect msk s0 s) :
    EffectOut msk s0 (execEthLqCancel _req port index s) := by
  unfold execEthLqCancel
  repeat' first | with_reducible intro _ | with_reducible assumption | with_reducible rfl | with_reducible refine EffectOut.gate ?_ ?_ | with_reducible refine EffectOut.next ?_ | exact subParts hm (by decide) | with_reducible apply State.lqCancel_effect | with_reducible apply Effect.ite | split | dsimp only | rfl

theorem State.abortTx_effect {msk : Nat} {s0 : State} (s : State) (p : Nat) (hm : 0x200c00002000 &&& msk = 0x200c00002000) (h_s : Effect msk s0 s) :
    Effect msk s0 (State.abortTx s p) := by
  unfold State.abortTx
  repeat' first | with_reducible intro _ | with_reducible assumption | with_reducible rfl | exact subParts hm (by decide) | with_reducible apply State.drainLq_effect | with_reducible apply State.drainTx_effect | with_reducible apply State.modPort_effect | with_reducible apply Effect.ite | split | dsimp only | rfl

theorem State.abortRx_effect {msk : Nat} {s0 : State} (s : State) (p : Nat) (hm : 0x200000002000 &&& msk = 0x200000002000) (h_s : Effect msk s0 s) :
    Effect msk s0 (State.abortRx s p) := by
  unfold State.abortRx
  repeat' first | with_reducible intro _ | with_reducible assumption | with_reducible rfl | exact subParts hm (by decide) | with_reducible apply State.modPort_effect | with_reducible apply State.put_effect | with_reducible apply Effect.ite | split | dsimp only | exact bitParts hm (by decide) | exact bitOff hm (by decide) | rfl

theorem State.ethLink_effect {msk : Nat} {s0 : State} (s : State) (p : Nat) (up : Bool) (speed : Nat) (hm : 0xc200c000c2000 &&& msk = 0xc200c000c2000) (h_s : Effect msk s0 s) :
    Effect msk s0 (State.ethLink s p up speed) := by
  unfold State.ethLink
  repeat' first | with_reducible intro _ | with_reducible assumption | with_reducible rfl | exact subParts hm (by decide) | with_reducible apply State.abortRx_effect | with_reducible apply State.abortTx_effect | with_reducible apply State.raise1_effect | with_reducible apply State.setTo_effect | with_reducible apply State.put_effect | with_reducible apply Effect.ite | split | dsimp only | exact bitParts hm (by decide) | exact bitOff hm (by decide) | exact bitPlus hm (by decide) | exact bitKey hm (by decide) | rfl

theorem execEthLinkChange_effect {msk : Nat} {s0 : State} (port : Fin 4) (up : Bool) (speed : Fin 4) (s : State) (hm : 0xc200c000c2000 &&& msk = 0xc200c000c2000) (h_s : Effect msk s0 s) :
    EffectOut msk s0 (execEthLinkChange port up speed s) := by
  unfold execEthLinkChange
  repeat' first | with_reducible intro _ | with_reducible assumption | with_reducible rfl | with_reducible refine EffectOut.gate ?_ ?_ | with_reducible refine EffectOut.next ?_ | exact subParts hm (by decide) | with_reducible apply State.ethLink_effect | with_reducible apply Effect.ite | split | dsimp only | exact bitParts hm (by decide) | exact bitOff hm (by decide) | exact bitPlus hm (by decide) | exact bitKey hm (by decide) | rfl

theorem State.portEnable_effect {msk : Nat} {s0 : State} (s : State) (p : Nat) (tx rx : Bool) (hm : 0x200c00002000 &&& msk = 0x200c00002000) (h_s : Effect msk s0 s) :
    Effect msk s0 (State.portEnable s p tx rx) := by
  unfold State.portEnable
  repeat' first | with_reducible intro _ | with_reducible assumption | with_reducible rfl | exact subParts hm (by decide) | with_reducible apply State.abortRx_effect | with_reducible apply State.abortTx_effect | with_reducible apply State.setTo_effect | with_reducible apply Effect.ite | split | dsimp only | exact bitParts hm (by decide) | exact bitOff hm (by decide) | rfl

theorem execEthPortEnable_effect {msk : Nat} {s0 : State} (_req : Req) (port : Fin 4) (txEn rxEn : Bool) (s : State) (hm : 0x200c00002000 &&& msk = 0x200c00002000) (h_s : Effect msk s0 s) :
    EffectOut msk s0 (execEthPortEnable _req port txEn rxEn s) := by
  unfold execEthPortEnable
  repeat' first | with_reducible intro _ | with_reducible assumption | with_reducible rfl | with_reducible refine EffectOut.gate ?_ ?_ | with_reducible refine EffectOut.next ?_ | exact subParts hm (by decide) | with_reducible apply State.portEnable_effect | with_reducible apply Effect.ite | split | dsimp only | rfl

theorem State.postLaunch0_effect {msk : Nat} {s0 : State} (s : State) (p : Nat) (frame : List Byte) (launch : Nat) (hm : 0xc2000000c0000 &&& msk = 0xc2000000c0000) (h_s : Effect msk s0 s) :
    Effect msk s0 (State.postLaunch0 s p frame launch) := by
  unfold State.postLaunch0
  repeat' first | with_reducible intro _ | with_reducible assumption | with_reducible rfl | exact subParts hm (by decide) | with_reducible apply State.modPort_effect | with_reducible apply State.raiseIf_effect | with_reducible apply Effect.ite | split | dsimp only | exact bitParts hm (by decide) | exact bitOff hm (by decide) | exact bitPlus hm (by decide) | exact bitKey hm (by decide) | rfl

end Sys2Proof.Machine
end

