-- ==== Sys2Proof/Laws/EffectEphemeris.lean ====
section
/-! SUPPORT. What the operations of Machine/Ephemeris.lean do: the parts of the state that each may change. -/

set_option linter.unusedTactic false
set_option linter.unusedVariables false
set_option linter.unreachableTactic false

namespace Sys2Proof.Machine

theorem State.modEph_effect {msk : Nat} {s0 : State} (s : State) (f : Eph → Eph) (hm : 0x100000000000000 &&& msk = 0x100000000000000) (h_s : Effect msk s0 s) :
    Effect msk s0 (State.modEph s f) := by
  unfold State.modEph
  repeat' first | with_reducible intro _ | with_reducible assumption | with_reducible rfl | with_reducible apply Effect.ite | split | dsimp only | with_reducible refine Effect.eph ?_ ?_ | exact bitParts hm (by decide) | rfl

theorem State.modHyp_effect {msk : Nat} {s0 : State} (s : State) (h : Nat) (f : Hyp → Hyp) (hm : 0x100000000000000 &&& msk = 0x100000000000000) (h_s : Effect msk s0 s) :
    Effect msk s0 (State.modHyp s h f) := by
  unfold State.modHyp
  repeat' first | with_reducible intro _ | with_reducible assumption | with_reducible rfl | exact subParts hm (by decide) | with_reducible apply State.modEph_effect | with_reducible apply Effect.ite | split | dsimp only | rfl

theorem State.setTable_effect {msk : Nat} {s0 : State} (s : State) (t : List Byte) (hm : 0x100000000000200 &&& msk = 0x100000000000200) (h_s : Effect msk s0 s) :
    Effect msk s0 (State.setTable s t) := by
  unfold State.setTable
  repeat' first | with_reducible intro _ | with_reducible assumption | with_reducible rfl | exact subParts hm (by decide) | with_reducible apply State.modEph_effect | with_reducible apply State.wrWords_effect | with_reducible apply State.wrn_effect | with_reducible apply Effect.ite | split | dsimp only | exact bitParts hm (by decide) | exact bitOff hm (by decide) | rfl

theorem State.ephAuto_effect {msk : Nat} {s0 : State} (s : State) (hm : 0x100000000000200 &&& msk = 0x100000000000200) (h_s : Effect msk s0 s) :
    Effect msk s0 (State.ephAuto s) := by
  unfold State.ephAuto
  repeat' first | with_reducible intro _ | with_reducible assumption | with_reducible rfl | exact subParts hm (by decide) | with_reducible apply State.setTable_effect | with_reducible apply Effect.ite | split | dsimp only | rfl

theorem State.tableCommit_effect {msk : Nat} {s0 : State} (s : State) (hm : 0x100000000000200 &&& msk = 0x100000000000200) (h_s : Effect msk s0 s) :
    Effect msk s0 (State.tableCommit s) := by
  unfold State.tableCommit
  repeat' first | with_reducible intro _ | with_reducible assumption | with_reducible rfl | exact subParts hm (by decide) | with_reducible apply State.modEph_effect | with_reducible apply State.setTo_effect | with_reducible apply Effect.ite | split | dsimp only | exact bitParts hm (by decide) | exact bitOff hm (by decide) | exact bitPlus hm (by decide) | exact bitKey hm (by decide) | rfl

theorem State.tableCheck_effect {msk : Nat} {s0 : State} (s : State) (hm : 0x10c0000000c0200 &&& msk = 0x10c0000000c0200) (h_s : Effect msk s0 s) :
    Effect msk s0 (State.tableCheck s) := by
  unfold State.tableCheck
  repeat' first | with_reducible intro _ | with_reducible assumption | with_reducible rfl | exact subParts hm (by decide) | with_reducible apply State.ephAuto_effect | with_reducible apply State.setTable_effect | with_reducible apply State.modEph_effect | with_reducible apply State.raise_effect | with_reducible apply State.setTo_effect | with_reducible apply Effect.ite | split | dsimp only | exact bitParts hm (by decide) | exact bitOff hm (by decide) | exact bitPlus hm (by decide) | exact bitKey hm (by decide) | rfl

theorem execTableCommit_effect {msk : Nat} {s0 : State} (_req : Req) (s : State) (hm : 0x100000000000200 &&& msk = 0x100000000000200) (h_s : Effect msk s0 s) :
    EffectOut msk s0 (execTableCommit _req s) := by
  unfold execTableCommit
  repeat' first | with_reducible intro _ | with_reducible assumption | with_reducible rfl | with_reducible refine EffectOut.gate ?_ ?_ | with_reducible refine EffectOut.rooted ?_ ?_ | with_reducible refine EffectOut.reach ?_ ?_ | with_reducible refine EffectOut.next ?_ | exact subParts hm (by decide) | with_reducible apply State.tableCommit_effect | with_reducible apply Effect.ite | split | dsimp only | exact bitParts hm (by decide) | exact bitOff hm (by decide) | exact bitPlus hm (by decide) | exact bitKey hm (by decide) | rfl

theorem State.showLatch_effect {msk : Nat} {s0 : State} (s : State) (hm : 0x200 &&& msk = 0x200) (h_s : Effect msk s0 s) :
    Effect msk s0 (State.showLatch s) := by
  unfold State.showLatch
  repeat' first | with_reducible intro _ | with_reducible assumption | with_reducible rfl | exact subParts hm (by decide) | with_reducible apply State.wrn_effect | with_reducible apply Effect.foldl | with_reducible apply Effect.ite | split | dsimp only | exact bitParts hm (by decide) | exact bitOff hm (by decide) | rfl

theorem State.latch_effect {msk : Nat} {s0 : State} (s : State) (h : Nat) (by_ : TrigBy) (hm : 0x10c0000000c0200 &&& msk = 0x10c0000000c0200) (h_s : Effect msk s0 s) :
    Effect msk s0 (State.latch s h by_) := by
  unfold State.latch
  repeat' first | with_reducible intro _ | with_reducible assumption | with_reducible rfl | exact subParts hm (by decide) | with_reducible apply State.showLatch_effect | with_reducible apply State.modHyp_effect | with_reducible apply State.modEph_effect | with_reducible apply State.raise1_effect | with_reducible apply State.bump_effect | with_reducible apply Effect.ite | split | dsimp only | exact bitParts hm (by decide) | exact bitOff hm (by decide) | rfl

theorem State.rearm_effect {msk : Nat} {s0 : State} (s : State) (h : Nat) (hm : 0x100000000000000 &&& msk = 0x100000000000000) (h_s : Effect msk s0 s) :
    Effect msk s0 (State.rearm s h) := by
  unfold State.rearm
  repeat' first | with_reducible intro _ | with_reducible assumption | with_reducible rfl | exact subParts hm (by decide) | with_reducible apply State.modHyp_effect | with_reducible apply Effect.ite | split | dsimp only | rfl

theorem State.pinTriggers_effect {msk : Nat} {s0 : State} (s : State) (hm : 0x10c0000000c0200 &&& msk = 0x10c0000000c0200) (h_s : Effect msk s0 s) :
    Effect msk s0 (State.pinTriggers s) := by
  unfold State.pinTriggers
  repeat' first | with_reducible intro _ | with_reducible assumption | with_reducible rfl | exact subParts hm (by decide) | with_reducible apply State.rearm_effect | with_reducible apply State.latch_effect | with_reducible apply Effect.forEach | with_reducible apply Effect.ite | split | dsimp only | rfl

theorem State.ringTriggers_effect {msk : Nat} {s0 : State} (s : State) (lost back : Nat → Bool) (hm : 0x10c0000000c0200 &&& msk = 0x10c0000000c0200) (h_s : Effect msk s0 s) :
    Effect msk s0 (State.ringTriggers s lost back) := by
  unfold State.ringTriggers
  repeat' first | with_reducible intro _ | with_reducible assumption | with_reducible rfl | exact subParts hm (by decide) | with_reducible apply State.rearm_effect | with_reducible apply State.latch_effect | with_reducible apply Effect.forEach | with_reducible apply Effect.ite | split | dsimp only | rfl

theorem State.ack_effect {msk : Nat} {s0 : State} (s : State) (h : Nat) (hm : 0x10c0000000c0200 &&& msk = 0x10c0000000c0200) (h_s : Effect msk s0 s) :
    Effect msk s0 (State.ack s h) := by
  unfold State.ack
  repeat' first | with_reducible intro _ | with_reducible assumption | with_reducible rfl | exact subParts hm (by decide) | with_reducible apply State.showLatch_effect | with_reducible apply State.modHyp_effect | with_reducible apply State.raise1_effect | with_reducible apply State.setTo_effect | with_reducible apply Effect.ite | split | dsimp only | exact bitParts hm (by decide) | exact bitOff hm (by decide) | rfl

theorem State.inputTake_effect {msk : Nat} {s0 : State} (s : State) (hm : 0x100000000000200 &&& msk = 0x100000000000200) (h_s : Effect msk s0 s) :
    Effect msk s0 (State.inputTake s) := by
  unfold State.inputTake
  repeat' first | with_reducible intro _ | with_reducible assumption | with_reducible rfl | exact subParts hm (by decide) | with_reducible apply State.modEph_effect | with_reducible apply State.setTo_effect | with_reducible apply Effect.ite | split | dsimp only | exact bitParts hm (by decide) | exact bitOff hm (by decide) | rfl

theorem State.ephFusion_effect {msk : Nat} {s0 : State} (s : State) (hm : 0x10c0000000c0200 &&& msk = 0x10c0000000c0200) (h_s : Effect msk s0 s) :
    Effect msk s0 (State.ephFusion s) := by
  unfold State.ephFusion
  repeat' first | with_reducible intro _ | with_reducible assumption | with_reducible rfl | exact subParts hm (by decide) | with_reducible apply State.inputTake_effect | with_reducible apply State.ack_effect | with_reducible apply State.rearm_effect | with_reducible apply State.latch_effect | with_reducible apply State.setTo_effect | with_reducible apply Effect.forEach | with_reducible apply Effect.ite | split | dsimp only | exact bitParts hm (by decide) | exact bitOff hm (by decide) | rfl

theorem execAckOverdue_effect {msk : Nat} {s0 : State} (h : Fin 63) (s : State) (hm : 0xc0000000c0200 &&& msk = 0xc0000000c0200) (h_s : Effect msk s0 s) :
    EffectOut msk s0 (execAckOverdue h s) := by
  unfold execAckOverdue
  repeat' first | with_reducible intro _ | with_reducible assumption | with_reducible rfl | with_reducible refine EffectOut.gate ?_ ?_ | with_reducible refine EffectOut.next ?_ | exact subParts hm (by decide) | with_reducible apply State.raise1_effect | with_reducible apply State.setTo_effect | with_reducible apply Effect.ite | split | dsimp only | exact bitParts hm (by decide) | exact bitOff hm (by decide) | rfl

theorem State.scnLoad_effect {msk : Nat} {s0 : State} (s : State) (h : Nat) (p : Nat × PlanEntry) (hm : 0x14c0004000c0080 &&& msk = 0x14c0004000c0080) (h_s : Effect msk s0 s) :
    Effect msk s0 (State.scnLoad s h p) := by
  unfold State.scnLoad
  repeat' first | with_reducible intro _ | with_reducible assumption | with_reducible rfl | exact subParts hm (by decide) | with_reducible apply State.modHyp_effect | with_reducible apply State.postJob_effect | with_reducible apply Effect.ite | split | dsimp only | rfl

theorem State.scnPair_effect {msk : Nat} {s0 : State} (s : State) (h : Nat) (p : Nat × PlanEntry) (sect poly : List Nat) (hm : 0x14c0004000c0080 &&& msk = 0x14c0004000c0080) (h_s : Effect msk s0 s) :
    Effect msk s0 (State.scnPair s h p sect poly) := by
  unfold State.scnPair
  repeat' first | with_reducible intro _ | with_reducible assumption | with_reducible rfl | exact subParts hm (by decide) | with_reducible apply State.modHyp_effect | with_reducible apply State.postJob_effect | with_reducible apply Effect.ite | split | dsimp only | exact bitParts hm (by decide) | exact bitOff hm (by decide) | exact bitPlus hm (by decide) | exact bitKey hm (by decide) | rfl

theorem State.scnPost_effect {msk : Nat} {s0 : State} (s : State) (sect poly : List Nat) (hm : 0x14c0004000c0280 &&& msk = 0x14c0004000c0280) (h_s : Effect msk s0 s) :
    Effect msk s0 (State.scnPost s sect poly) := by
  unfold State.scnPost
  repeat' first | with_reducible intro _ | with_reducible assumption | with_reducible rfl | exact subParts hm (by decide) | with_reducible apply State.scnPair_effect | with_reducible apply State.scnLoad_effect | with_reducible apply State.modHyp_effect | with_reducible apply State.modEph_effect | with_reducible apply State.setTo_effect | with_reducible apply Effect.forEach | with_reducible apply Effect.ite | split | dsimp only | exact bitParts hm (by decide) | exact bitOff hm (by decide) | rfl

theorem State.scnResult_effect {msk : Nat} {s0 : State} (s : State) (h : Nat) (d : JobDesc) (r : JobRes) (hm : 0x100000000000000 &&& msk = 0x100000000000000) (h_s : Effect msk s0 s) :
    Effect msk s0 (State.scnResult s h d r) := by
  unfold State.scnResult
  repeat' first | with_reducible intro _ | with_reducible assumption | with_reducible rfl | exact subParts hm (by decide) | with_reducible apply State.modHyp_effect | with_reducible apply Effect.ite | split | dsimp only | rfl

theorem State.loadShed_effect {msk : Nat} {s0 : State} (s : State) (hm : 0x100000000000000 &&& msk = 0x100000000000000) (h_s : Effect msk s0 s) :
    Effect msk s0 (State.loadShed s) := by
  unfold State.loadShed
  repeat' first | with_reducible intro _ | with_reducible assumption | with_reducible rfl | exact subParts hm (by decide) | with_reducible apply State.modEph_effect | with_reducible apply Effect.ite | split | dsimp only | rfl

theorem State.showHyps_effect {msk : Nat} {s0 : State} (s : State) (hm : 0x10c0000000c0200 &&& msk = 0x10c0000000c0200) (h_s : Effect msk s0 s) :
    Effect msk s0 (State.showHyps s) := by
  unfold State.showHyps
  repeat' first | with_reducible intro _ | with_reducible assumption | with_reducible rfl | exact subParts hm (by decide) | with_reducible apply State.modEph_effect | with_reducible apply State.raise_effect | with_reducible apply State.raise1_effect | with_reducible apply State.wrWords_effect | with_reducible apply Effect.forEach | with_reducible apply Effect.ite | split | dsimp only | exact bitParts hm (by decide) | exact bitOff hm (by decide) | rfl

theorem State.ephSolve_effect {msk : Nat} {s0 : State} (s : State) (hm : 0x10c0000000c0200 &&& msk = 0x10c0000000c0200) (h_s : Effect msk s0 s) :
    Effect msk s0 (State.ephSolve s).1 := by
  unfold State.ephSolve
  repeat' first | with_reducible intro _ | with_reducible assumption | with_reducible rfl | exact subParts hm (by decide) | with_reducible apply State.showHyps_effect | with_reducible apply State.loadShed_effect | with_reducible apply State.raise_effect | with_reducible apply State.bump_effect | with_reducible apply State.setTo_effect | with_reducible apply Effect.ite | split | dsimp only | exact bitParts hm (by decide) | exact bitOff hm (by decide) | rfl

theorem State.ephWords_effect {msk : Nat} {s0 : State} (s : State) (staged : Bool) (sel : Option (Nat × Fallback)) (part : Bool) (hm : 0x4000000000 &&& msk = 0x4000000000) (h_s : Effect msk s0 s) :
    Effect msk s0 (State.ephWords s staged sel part) := by
  unfold State.ephWords
  repeat' first | with_reducible intro _ | with_reducible assumption | with_reducible rfl | exact subParts hm (by decide) | with_reducible apply State.bufWords_effect | with_reducible apply Effect.ite | split | dsimp only | rfl

theorem State.stagedShow_effect {msk : Nat} {s0 : State} (s : State) (hm : 0x300 &&& msk = 0x300) (h_s : Effect msk s0 s) :
    Effect msk s0 (State.stagedShow s) := by
  unfold State.stagedShow
  repeat' first | with_reducible intro _ | with_reducible assumption | with_reducible rfl | exact subParts hm (by decide) | with_reducible apply State.bump_effect | with_reducible apply State.setTo_effect | with_reducible apply State.put_effect | with_reducible apply State.wrn_effect | with_reducible apply Effect.ite | split | dsimp only | exact bitParts hm (by decide) | exact bitOff hm (by decide) | rfl

theorem State.lsRelease_effect {msk : Nat} {s0 : State} (s : State) (hm : 0xd0000000d0200 &&& msk = 0xd0000000d0200) (h_s : Effect msk s0 s) :
    Effect msk s0 (State.lsRelease s) := by
  unfold State.lsRelease
  repeat' first | with_reducible intro _ | with_reducible assumption | with_reducible rfl | exact subParts hm (by decide) | with_reducible apply State.dioSettle_effect | with_reducible apply State.raise_effect | with_reducible apply State.setTo_effect | with_reducible apply Effect.ite | split | dsimp only | with_reducible refine Effect.dio ?_ ?_ | exact bitParts hm (by decide) | exact bitOff hm (by decide) | exact bitPlus hm (by decide) | exact bitKey hm (by decide) | rfl

theorem State.ephOut_effect {msk : Nat} {s0 : State} (s : State) (hm : 0x10d0000000d0200 &&& msk = 0x10d0000000d0200) (h_s : Effect msk s0 s) :
    Effect msk s0 (State.ephOut s) := by
  unfold State.ephOut
  repeat' first | with_reducible intro _ | with_reducible assumption | with_reducible rfl | exact subParts hm (by decide) | with_reducible apply State.lsRelease_effect | with_reducible apply State.modEph_effect | with_reducible apply State.dioSettle_effect | with_reducible apply State.raise_effect | with_reducible apply State.setTo_effect | with_reducible apply Effect.ite | split | dsimp only | with_reducible refine Effect.dio ?_ ?_ | exact bitParts hm (by decide) | exact bitOff hm (by decide) | exact bitPlus hm (by decide) | exact bitKey hm (by decide) | rfl

theorem execLsHoldExpiry_effect {msk : Nat} {s0 : State} (s : State) (hm : 0x27ffcc0000d2200 &&& msk = 0x27ffcc0000d2200) (h_s : Effect msk s0 s) :
    EffectOut msk s0 (execLsHoldExpiry s) := by
  unfold execLsHoldExpiry
  repeat' first | with_reducible intro _ | with_reducible assumption | with_reducible rfl | with_reducible refine EffectOut.gate ?_ ?_ | with_reducible refine EffectOut.next ?_ | exact subParts hm (by decide) | with_reducible apply State.lsRelease_effect | with_reducible apply State.runTo_effect | with_reducible apply Effect.ite | split | dsimp only | exact bitParts hm (by decide) | exact bitOff hm (by decide) | exact bitPlus hm (by decide) | exact bitKey hm (by decide) | rfl

theorem State.fbExpire_effect {msk : Nat} {s0 : State} (s : State) (h : Nat) (hm : 0x100000000000000 &&& msk = 0x100000000000000) (h_s : Effect msk s0 s) :
    Effect msk s0 (State.fbExpire s h) := by
  unfold State.fbExpire
  repeat' first | with_reducible intro _ | with_reducible assumption | with_reducible rfl | exact subParts hm (by decide) | with_reducible apply State.modHyp_effect | with_reducible apply Effect.ite | split | dsimp only | rfl

theorem execFallbackExpiry_effect {msk : Nat} {s0 : State} (h : Fin 63) (s : State) (hm : 0x100000000000000 &&& msk = 0x100000000000000) (h_s : Effect msk s0 s) :
    EffectOut msk s0 (execFallbackExpiry h s) := by
  unfold execFallbackExpiry
  repeat' first | with_reducible intro _ | with_reducible assumption | with_reducible rfl | with_reducible refine EffectOut.gate ?_ ?_ | with_reducible refine EffectOut.next ?_ | exact subParts hm (by decide) | with_reducible apply State.fbExpire_effect | with_reducible apply Effect.ite | split | dsimp only | rfl

end Sys2Proof.Machine
end

