-- ==== Sys2Proof/Laws/EffectRedundancy.lean ====
section
/-! SUPPORT. What the operations of Machine/Redundancy.lean do: the parts of the state that each may change. -/

set_option linter.unusedTactic false
set_option linter.unusedVariables false
set_option linter.unreachableTactic false

namespace Sys2Proof.Machine

theorem State.modRed_effect {msk : Nat} {s0 : State} (s : State) (f : Rdn → Rdn) (hm : 0x40000000000 &&& msk = 0x40000000000) (h_s : Effect msk s0 s) :
    Effect msk s0 (State.modRed s f) := by
  unfold State.modRed
  repeat' first | with_reducible intro _ | with_reducible assumption | with_reducible rfl | with_reducible apply Effect.ite | split | dsimp only | with_reducible refine Effect.red ?_ ?_ | exact bitParts hm (by decide) | rfl

theorem State.showLines_effect {msk : Nat} {s0 : State} (s : State) (l : Lines) (hm : 0x400 &&& msk = 0x400) (h_s : Effect msk s0 s) :
    Effect msk s0 (State.showLines s l) := by
  unfold State.showLines
  repeat' first | with_reducible intro _ | with_reducible assumption | with_reducible rfl | exact subParts hm (by decide) | with_reducible apply State.setTo_effect | with_reducible apply Effect.ite | split | dsimp only | exact bitParts hm (by decide) | exact bitOff hm (by decide) | rfl

theorem State.refit_effect {msk : Nat} {s0 : State} (s : State) (hm : 0xc0000000c0400 &&& msk = 0xc0000000c0400) (h_s : Effect msk s0 s) :
    Effect msk s0 (State.refit s) := by
  unfold State.refit
  repeat' first | with_reducible intro _ | with_reducible assumption | with_reducible rfl | exact subParts hm (by decide) | with_reducible apply State.raiseIf_effect | with_reducible apply State.setTo_effect | with_reducible apply State.put_effect | with_reducible apply Effect.ite | split | dsimp only | exact bitParts hm (by decide) | exact bitOff hm (by decide) | rfl

theorem execHoldoffExpiry_effect {msk : Nat} {s0 : State} (s : State) (hm : 0x27efcc0000c2400 &&& msk = 0x27efcc0000c2400) (h_s : Effect msk s0 s) :
    EffectOut msk s0 (execHoldoffExpiry s) := by
  unfold execHoldoffExpiry
  repeat' first | with_reducible intro _ | with_reducible assumption | with_reducible rfl | with_reducible refine EffectOut.gate ?_ ?_ | with_reducible refine EffectOut.next ?_ | exact subParts hm (by decide) | with_reducible apply State.refit_effect | with_reducible apply State.runTo_effect | with_reducible apply Effect.ite | split | dsimp only | rfl

theorem execFirstStartWaiver_effect {msk : Nat} {s0 : State} (s : State) (hm : 0xc0000000c0400 &&& msk = 0xc0000000c0400) (h_s : Effect msk s0 s) :
    EffectOut msk s0 (execFirstStartWaiver s) := by
  unfold execFirstStartWaiver
  repeat' first | with_reducible intro _ | with_reducible assumption | with_reducible rfl | with_reducible refine EffectOut.gate ?_ ?_ | with_reducible refine EffectOut.next ?_ | exact subParts hm (by decide) | with_reducible apply State.refit_effect | with_reducible apply State.setTo_effect | with_reducible apply Effect.ite | split | dsimp only | exact bitParts hm (by decide) | exact bitOff hm (by decide) | rfl

theorem State.hear_effect {msk : Nat} {s0 : State} (s : State) (hm : 0x40000000400 &&& msk = 0x40000000400) (h_s : Effect msk s0 s) :
    Effect msk s0 (State.hear s) := by
  unfold State.hear
  repeat' first | with_reducible intro _ | with_reducible assumption | with_reducible rfl | exact subParts hm (by decide) | with_reducible apply State.modRed_effect | with_reducible apply State.setTo_effect | with_reducible apply Effect.ite | split | dsimp only | exact bitParts hm (by decide) | exact bitOff hm (by decide) | rfl

theorem State.partnerSeen_effect {msk : Nat} {s0 : State} (s : State) (claims : Bool) (hm : 0xc0400000c0400 &&& msk = 0xc0400000c0400) (h_s : Effect msk s0 s) :
    Effect msk s0 (State.partnerSeen s claims) := by
  unfold State.partnerSeen
  repeat' first | with_reducible intro _ | with_reducible assumption | with_reducible rfl | exact subParts hm (by decide) | with_reducible apply State.hear_effect | with_reducible apply State.refit_effect | with_reducible apply Effect.ite | split | dsimp only | exact bitParts hm (by decide) | exact bitOff hm (by decide) | exact bitPlus hm (by decide) | exact bitKey hm (by decide) | rfl

theorem State.setRstate_effect {msk : Nat} {s0 : State} (s : State) (r : Nat) (hm : 0xd0000000d0600 &&& msk = 0xd0000000d0600) (h_s : Effect msk s0 s) :
    Effect msk s0 (State.setRstate s r) := by
  unfold State.setRstate
  repeat' first | with_reducible intro _ | with_reducible assumption | with_reducible rfl | exact subParts hm (by decide) | with_reducible apply State.dioSettle_effect | with_reducible apply State.raise1_effect | with_reducible apply State.put_effect | with_reducible apply Effect.ite | split | dsimp only | exact bitParts hm (by decide) | exact bitOff hm (by decide) | rfl

theorem State.standbyEntered_effect {msk : Nat} {s0 : State} (s : State) (hm : 0x40000000400 &&& msk = 0x40000000400) (h_s : Effect msk s0 s) :
    Effect msk s0 (State.standbyEntered s) := by
  unfold State.standbyEntered
  repeat' first | with_reducible intro _ | with_reducible assumption | with_reducible rfl | exact subParts hm (by decide) | with_reducible apply State.modRed_effect | with_reducible apply State.setTo_effect | with_reducible apply Effect.ite | split | dsimp only | exact bitParts hm (by decide) | exact bitOff hm (by decide) | rfl

theorem State.dropLine_effect {msk : Nat} {s0 : State} (s : State) (hm : 0x48000000c00 &&& msk = 0x48000000c00) (h_s : Effect msk s0 s) :
    Effect msk s0 (State.dropLine s) := by
  unfold State.dropLine
  repeat' first | with_reducible intro _ | with_reducible assumption | with_reducible rfl | exact subParts hm (by decide) | with_reducible apply State.modRed_effect | with_reducible apply State.claimFalls_effect | with_reducible apply State.setTo_effect | with_reducible apply Effect.ite | split | dsimp only | exact bitParts hm (by decide) | exact bitOff hm (by decide) | exact bitPlus hm (by decide) | exact bitKey hm (by decide) | rfl

theorem State.leaveActive_effect {msk : Nat} {s0 : State} (s : State) (role : Nat) (hm : 0xd0c80000d1e00 &&& msk = 0xd0c80000d1e00) (h_s : Effect msk s0 s) :
    Effect msk s0 (State.leaveActive s role) := by
  unfold State.leaveActive
  repeat' first | with_reducible intro _ | with_reducible assumption | with_reducible rfl | exact subParts hm (by decide) | with_reducible apply State.dropLine_effect | with_reducible apply State.standbyEntered_effect | with_reducible apply State.setRstate_effect | with_reducible apply State.refit_effect | with_reducible apply State.stnCmdRole_effect | with_reducible apply State.xlWithdraw_effect | with_reducible apply Effect.ite | split | dsimp only | rfl

theorem State.becomeActive_effect {msk : Nat} {s0 : State} (s : State) (hm : 0xd0000000d0600 &&& msk = 0xd0000000d0600) (h_s : Effect msk s0 s) :
    Effect msk s0 (State.becomeActive s) := by
  unfold State.becomeActive
  repeat' first | with_reducible intro _ | with_reducible assumption | with_reducible rfl | exact subParts hm (by decide) | with_reducible apply State.setRstate_effect | with_reducible apply State.refit_effect | with_reducible apply State.raise_effect | with_reducible apply State.wr64_effect | with_reducible apply State.bump_effect | with_reducible apply State.putSat_effect | with_reducible apply State.put_effect | with_reducible apply Effect.ite | split | dsimp only | exact bitParts hm (by decide) | exact bitOff hm (by decide) | rfl

theorem State.claimSample_effect {msk : Nat} {s0 : State} (s : State) (l : Lines) (free : Bool) (hm : 0x27efcc0000c2c00 &&& msk = 0x27efcc0000c2c00) (h_s : Effect msk s0 s) :
    Effect msk s0 (State.claimSample s l free) := by
  unfold State.claimSample
  repeat' first | with_reducible intro _ | with_reducible assumption | with_reducible rfl | exact subParts hm (by decide) | with_reducible apply State.hear_effect | with_reducible apply State.refit_effect | with_reducible apply State.showLines_effect | with_reducible apply State.modRed_effect | with_reducible apply State.grdShow_effect | with_reducible apply State.runTo_effect | with_reducible apply Effect.ite | split | dsimp only | exact bitParts hm (by decide) | exact bitOff hm (by decide) | exact bitPlus hm (by decide) | exact bitKey hm (by decide) | rfl

theorem execClaimSample_effect {msk : Nat} {s0 : State} (lines : Lines) (free : Bool) (s : State) (hm : 0x27efcc0000c2c00 &&& msk = 0x27efcc0000c2c00) (h_s : Effect msk s0 s) :
    EffectOut msk s0 (execClaimSample lines free s) := by
  unfold execClaimSample
  repeat' first | with_reducible intro _ | with_reducible assumption | with_reducible rfl | with_reducible refine EffectOut.gate ?_ ?_ | with_reducible refine EffectOut.next ?_ | exact subParts hm (by decide) | with_reducible apply State.claimSample_effect | with_reducible apply Effect.ite | split | dsimp only | rfl

theorem State.claimRead_effect {msk : Nat} {s0 : State} (s : State) (l : Lines) (tie : Bool) (hm : 0x27ffcc0000d2e00 &&& msk = 0x27ffcc0000d2e00) (h_s : Effect msk s0 s) :
    Effect msk s0 (State.claimRead s l tie) := by
  unfold State.claimRead
  repeat' first | with_reducible intro _ | with_reducible assumption | with_reducible rfl | exact subParts hm (by decide) | with_reducible apply State.becomeActive_effect | with_reducible apply State.dropLine_effect | with_reducible apply State.partnerSeen_effect | with_reducible apply State.showLines_effect | with_reducible apply State.runTo_effect | with_reducible apply State.raise_effect | with_reducible apply State.setTo_effect | with_reducible apply Effect.ite | split | dsimp only | exact bitParts hm (by decide) | exact bitOff hm (by decide) | exact bitPlus hm (by decide) | exact bitKey hm (by decide) | rfl

theorem execClaimReadback_effect {msk : Nat} {s0 : State} (lines : Lines) (tie : Bool) (s : State) (hm : 0x27ffcc0000d2e00 &&& msk = 0x27ffcc0000d2e00) (h_s : Effect msk s0 s) :
    EffectOut msk s0 (execClaimReadback lines tie s) := by
  unfold execClaimReadback
  repeat' first | with_reducible intro _ | with_reducible assumption | with_reducible rfl | with_reducible refine EffectOut.gate ?_ ?_ | with_reducible refine EffectOut.next ?_ | exact subParts hm (by decide) | with_reducible apply State.claimRead_effect | with_reducible apply Effect.ite | split | dsimp only | rfl

theorem State.contend_effect {msk : Nat} {s0 : State} (s : State) (partner : Nat) (hm : 0xd0c80000d1e00 &&& msk = 0xd0c80000d1e00) (h_s : Effect msk s0 s) :
    Effect msk s0 (State.contend s partner) := by
  unfold State.contend
  repeat' first | with_reducible intro _ | with_reducible assumption | with_reducible rfl | exact subParts hm (by decide) | with_reducible apply State.leaveActive_effect | with_reducible apply State.raise_effect | with_reducible apply State.setTo_effect | with_reducible apply Effect.ite | split | dsimp only | exact bitParts hm (by decide) | exact bitOff hm (by decide) | rfl

theorem State.partnerClaim_effect {msk : Nat} {s0 : State} (s : State) (line : Nat) (frame : Bool) (hm : 0xd0c80000d1e00 &&& msk = 0xd0c80000d1e00) (h_s : Effect msk s0 s) :
    Effect msk s0 (State.partnerClaim s line frame) := by
  unfold State.partnerClaim
  repeat' first | with_reducible intro _ | with_reducible assumption | with_reducible rfl | exact subParts hm (by decide) | with_reducible apply State.contend_effect | with_reducible apply State.partnerSeen_effect | with_reducible apply State.showLines_effect | with_reducible apply State.modRed_effect | with_reducible apply Effect.ite | split | dsimp only | exact bitParts hm (by decide) | exact bitOff hm (by decide) | exact bitPlus hm (by decide) | exact bitKey hm (by decide) | rfl

theorem execPartnerClaim_effect {msk : Nat} {s0 : State} (second frame : Bool) (s : State) (hm : 0xd0c80000d1e00 &&& msk = 0xd0c80000d1e00) (h_s : Effect msk s0 s) :
    EffectOut msk s0 (execPartnerClaim second frame s) := by
  unfold execPartnerClaim
  repeat' first | with_reducible intro _ | with_reducible assumption | with_reducible rfl | with_reducible refine EffectOut.gate ?_ ?_ | with_reducible refine EffectOut.next ?_ | exact subParts hm (by decide) | with_reducible apply State.partnerClaim_effect | with_reducible apply Effect.ite | split | dsimp only | rfl

theorem execOwnLineReleased_effect {msk : Nat} {s0 : State} (s : State) (hm : 0xd0c80000d1e00 &&& msk = 0xd0c80000d1e00) (h_s : Effect msk s0 s) :
    EffectOut msk s0 (execOwnLineReleased s) := by
  unfold execOwnLineReleased
  repeat' first | with_reducible intro _ | with_reducible assumption | with_reducible rfl | with_reducible refine EffectOut.gate ?_ ?_ | with_reducible refine EffectOut.next ?_ | exact subParts hm (by decide) | with_reducible apply State.leaveActive_effect | with_reducible apply State.raise_effect | with_reducible apply State.setTo_effect | with_reducible apply Effect.ite | split | dsimp only | exact bitParts hm (by decide) | exact bitOff hm (by decide) | rfl

theorem State.sendRecord_effect {msk : Nat} {s0 : State} (s : State) (rec : List Byte) (at_ : Nat) (hm : 0xc2000000c0000 &&& msk = 0xc2000000c0000) (h_s : Effect msk s0 s) :
    Effect msk s0 (State.sendRecord s rec at_) := by
  unfold State.sendRecord
  repeat' first | with_reducible intro _ | with_reducible assumption | with_reducible rfl | exact subParts hm (by decide) | with_reducible apply State.postLaunch0_effect | with_reducible apply Effect.forEach | with_reducible apply Effect.ite | split | dsimp only | exact bitParts hm (by decide) | exact bitOff hm (by decide) | exact bitPlus hm (by decide) | exact bitKey hm (by decide) | rfl

theorem State.compareSend_effect {msk : Nat} {s0 : State} (s : State) (hm : 0xc2000000c0000 &&& msk = 0xc2000000c0000) (h_s : Effect msk s0 s) :
    Effect msk s0 (State.compareSend s) := by
  unfold State.compareSend
  repeat' first | with_reducible intro _ | with_reducible assumption | with_reducible rfl | exact subParts hm (by decide) | with_reducible apply State.sendRecord_effect | with_reducible apply Effect.ite | split | dsimp only | rfl

theorem State.stateSend_effect {msk : Nat} {s0 : State} (s : State) (hm : 0xc2400000c0000 &&& msk = 0xc2400000c0000) (h_s : Effect msk s0 s) :
    Effect msk s0 (State.stateSend s) := by
  unfold State.stateSend
  repeat' first | with_reducible intro _ | with_reducible assumption | with_reducible rfl | exact subParts hm (by decide) | with_reducible apply State.sendRecord_effect | with_reducible apply State.modRed_effect | with_reducible apply Effect.ite | split | dsimp only | exact bitParts hm (by decide) | exact bitOff hm (by decide) | exact bitPlus hm (by decide) | exact bitKey hm (by decide) | rfl

theorem State.ethFrame_effect {msk : Nat} {s0 : State} (s : State) (p : Nat) (fr : List Byte) (fcsOk : Bool) (hm : 0xc240c000c2000 &&& msk = 0xc240c000c2000) (h_s : Effect msk s0 s) :
    Effect msk s0 (State.ethFrame s p fr fcsOk) := by
  unfold State.ethFrame
  repeat' first | with_reducible intro _ | with_reducible assumption | with_reducible rfl | exact subParts hm (by decide) | with_reducible apply State.modRed_effect | with_reducible apply State.rxFrame_effect | with_reducible apply Effect.ite | split | dsimp only | rfl

theorem execEthRxFrame_effect {msk : Nat} {s0 : State} (port : Fin 4) (frame : List Byte) (fcsOk : Bool) (s : State) (hm : 0xc240c000c2000 &&& msk = 0xc240c000c2000) (h_s : Effect msk s0 s) :
    EffectOut msk s0 (execEthRxFrame port frame fcsOk s) := by
  unfold execEthRxFrame
  repeat' first | with_reducible intro _ | with_reducible assumption | with_reducible rfl | with_reducible refine EffectOut.gate ?_ ?_ | with_reducible refine EffectOut.next ?_ | exact subParts hm (by decide) | with_reducible apply State.ethFrame_effect | with_reducible apply Effect.ite | split | dsimp only | rfl

theorem State.mirLate_effect {msk : Nat} {s0 : State} (s : State) (hm : 0xc0000000c0400 &&& msk = 0xc0000000c0400) (h_s : Effect msk s0 s) :
    Effect msk s0 (State.mirLate s) := by
  unfold State.mirLate
  repeat' first | with_reducible intro _ | with_reducible assumption | with_reducible rfl | exact subParts hm (by decide) | with_reducible apply State.raise_effect | with_reducible apply State.setTo_effect | with_reducible apply Effect.ite | split | dsimp only | exact bitParts hm (by decide) | exact bitOff hm (by decide) | rfl

theorem State.takeRun_effect {msk : Nat} {s0 : State} (s : State) (cyc idx : Nat) (hm : 0x8c0000000c0100 &&& msk = 0x8c0000000c0100) (h_s : Effect msk s0 s) :
    Effect msk s0 (State.takeRun s cyc idx) := by
  unfold State.takeRun
  repeat' first | with_reducible intro _ | with_reducible assumption | with_reducible rfl | exact subParts hm (by decide) | with_reducible apply State.modCtl_effect | with_reducible apply State.wr64_effect | with_reducible apply Effect.foldl | with_reducible apply Effect.ite | split | dsimp only | exact bitParts hm (by decide) | exact bitOff hm (by decide) | exact bitPlus hm (by decide) | exact bitKey hm (by decide) | rfl

theorem State.takeControl_effect {msk : Nat} {s0 : State} (s : State) (cyc : Nat) (b : List Byte) (hm : 0x8c0000000c0100 &&& msk = 0x8c0000000c0100) (h_s : Effect msk s0 s) :
    Effect msk s0 (State.takeControl s cyc b) := by
  unfold State.takeControl
  repeat' first | with_reducible intro _ | with_reducible assumption | with_reducible rfl | exact subParts hm (by decide) | with_reducible apply State.takeRun_effect | with_reducible apply State.setSector_effect | with_reducible apply State.modCtl_effect | with_reducible apply Effect.forEach | with_reducible apply Effect.ite | split | dsimp only | exact bitParts hm (by decide) | exact bitOff hm (by decide) | exact bitPlus hm (by decide) | exact bitKey hm (by decide) | rfl

theorem State.adopt_effect {msk : Nat} {s0 : State} (s : State) (b : List Byte) (hm : 0x8c0420000c0100 &&& msk = 0x8c0420000c0100) (h_s : Effect msk s0 s) :
    Effect msk s0 (State.adopt s b) := by
  unfold State.adopt
  repeat' first | with_reducible intro _ | with_reducible assumption | with_reducible rfl | exact subParts hm (by decide) | with_reducible apply State.takeControl_effect | with_reducible apply State.modRed_effect | with_reducible apply State.modCtl_effect | with_reducible apply Effect.ite | split | dsimp only | with_reducible refine Effect.retained ?_ ?_ ?_ | with_reducible apply swf_writeBytes | with_reducible apply swf_filter | with_reducible apply swf_writeWord | with_reducible apply swf_writeWords | exact bitParts hm (by decide) | exact bitOff hm (by decide) | exact bitPlus hm (by decide) | exact bitKey hm (by decide) | rfl

theorem State.stateTake_effect {msk : Nat} {s0 : State} (s : State) (b : List Byte) (hm : 0x8c0420000c0500 &&& msk = 0x8c0420000c0500) (h_s : Effect msk s0 s) :
    Effect msk s0 (State.stateTake s b) := by
  unfold State.stateTake
  repeat' first | with_reducible intro _ | with_reducible assumption | with_reducible rfl | exact subParts hm (by decide) | with_reducible apply State.adopt_effect | with_reducible apply State.hear_effect | with_reducible apply State.refit_effect | with_reducible apply State.modRed_effect | with_reducible apply Effect.ite | split | dsimp only | rfl

theorem State.stateReceive_effect {msk : Nat} {s0 : State} (s : State) (p : Nat) (hm : 0x8c0420000c0500 &&& msk = 0x8c0420000c0500) (h_s : Effect msk s0 s) :
    Effect msk s0 (State.stateReceive s p) := by
  unfold State.stateReceive
  repeat' first | with_reducible intro _ | with_reducible assumption | with_reducible rfl | exact subParts hm (by decide) | with_reducible apply State.stateTake_effect | with_reducible apply State.mirLate_effect | with_reducible apply State.modRed_effect | with_reducible apply Effect.ite | split | dsimp only | exact bitParts hm (by decide) | exact bitOff hm (by decide) | exact bitPlus hm (by decide) | exact bitKey hm (by decide) | rfl

theorem execStateRecordReceive_effect {msk : Nat} {s0 : State} (port : Fin 4) (s : State) (hm : 0x8c0420000c0500 &&& msk = 0x8c0420000c0500) (h_s : Effect msk s0 s) :
    EffectOut msk s0 (execStateRecordReceive port s) := by
  unfold execStateRecordReceive
  repeat' first | with_reducible intro _ | with_reducible assumption | with_reducible rfl | with_reducible refine EffectOut.gate ?_ ?_ | with_reducible refine EffectOut.next ?_ | exact subParts hm (by decide) | with_reducible apply State.stateReceive_effect | with_reducible apply Effect.ite | split | dsimp only | rfl

theorem State.modPartner_effect {msk : Nat} {s0 : State} (s : State) (line : Nat) (f : PartnerNow → PartnerNow) (hm : 0x40000000000 &&& msk = 0x40000000000) (h_s : Effect msk s0 s) :
    Effect msk s0 (State.modPartner s line f) := by
  unfold State.modPartner
  repeat' first | with_reducible intro _ | with_reducible assumption | with_reducible rfl | exact subParts hm (by decide) | with_reducible apply State.modRed_effect | with_reducible apply Effect.ite | split | dsimp only | rfl

theorem State.showPartner_effect {msk : Nat} {s0 : State} (s : State) (line : Nat) (b : List Byte) (hm : 0x400 &&& msk = 0x400) (h_s : Effect msk s0 s) :
    Effect msk s0 (State.showPartner s line b) := by
  unfold State.showPartner
  repeat' first | with_reducible intro _ | with_reducible assumption | with_reducible rfl | exact subParts hm (by decide) | with_reducible apply State.setTo_effect | with_reducible apply State.put_effect | with_reducible apply Effect.ite | split | dsimp only | exact bitParts hm (by decide) | exact bitOff hm (by decide) | rfl

theorem State.lineCheck_effect {msk : Nat} {s0 : State} (s : State) (line : Nat) (own : Bool) (hm : 0xc0400000c0400 &&& msk = 0xc0400000c0400) (h_s : Effect msk s0 s) :
    Effect msk s0 (State.lineCheck s line own) := by
  unfold State.lineCheck
  repeat' first | with_reducible intro _ | with_reducible assumption | with_reducible rfl | exact subParts hm (by decide) | with_reducible apply State.modRed_effect | with_reducible apply State.raise_effect | with_reducible apply State.setTo_effect | with_reducible apply Effect.ite | split | dsimp only | exact bitParts hm (by decide) | exact bitOff hm (by decide) | rfl

theorem State.compareTake_effect {msk : Nat} {s0 : State} (s : State) (line : Nat) (b : List Byte) (hm : 0xd0c80000d1e00 &&& msk = 0xd0c80000d1e00) (h_s : Effect msk s0 s) :
    Effect msk s0 (State.compareTake s line b) := by
  unfold State.compareTake
  repeat' first | with_reducible intro _ | with_reducible assumption | with_reducible rfl | exact subParts hm (by decide) | with_reducible apply State.lineCheck_effect | with_reducible apply State.showPartner_effect | with_reducible apply State.modPartner_effect | with_reducible apply State.contend_effect | with_reducible apply State.partnerSeen_effect | with_reducible apply State.refit_effect | with_reducible apply State.modRed_effect | with_reducible apply Effect.ite | split | dsimp only | exact bitParts hm (by decide) | exact bitOff hm (by decide) | exact bitPlus hm (by decide) | exact bitKey hm (by decide) | rfl

theorem State.compareReceive_effect {msk : Nat} {s0 : State} (s : State) (p : Nat) (hm : 0xd0c80000d1e00 &&& msk = 0xd0c80000d1e00) (h_s : Effect msk s0 s) :
    Effect msk s0 (State.compareReceive s p) := by
  unfold State.compareReceive
  repeat' first | with_reducible intro _ | with_reducible assumption | with_reducible rfl | exact subParts hm (by decide) | with_reducible apply State.compareTake_effect | with_reducible apply State.mirLate_effect | with_reducible apply State.modRed_effect | with_reducible apply Effect.ite | split | dsimp only | exact bitParts hm (by decide) | exact bitOff hm (by decide) | exact bitPlus hm (by decide) | exact bitKey hm (by decide) | rfl

theorem execCompareRecordReceive_effect {msk : Nat} {s0 : State} (port : Fin 4) (s : State) (hm : 0xd0c80000d1e00 &&& msk = 0xd0c80000d1e00) (h_s : Effect msk s0 s) :
    EffectOut msk s0 (execCompareRecordReceive port s) := by
  unfold execCompareRecordReceive
  repeat' first | with_reducible intro _ | with_reducible assumption | with_reducible rfl | with_reducible refine EffectOut.gate ?_ ?_ | with_reducible refine EffectOut.next ?_ | exact subParts hm (by decide) | with_reducible apply State.compareReceive_effect | with_reducible apply Effect.ite | split | dsimp only | rfl

theorem State.mirDeadline_effect {msk : Nat} {s0 : State} (s : State) (compare : Bool) (hm : 0x27efcc0000c2400 &&& msk = 0x27efcc0000c2400) (h_s : Effect msk s0 s) :
    Effect msk s0 (State.mirDeadline s compare) := by
  unfold State.mirDeadline
  repeat' first | with_reducible intro _ | with_reducible assumption | with_reducible rfl | exact subParts hm (by decide) | with_reducible apply State.mirLate_effect | with_reducible apply State.modRed_effect | with_reducible apply State.runTo_effect | with_reducible apply Effect.ite | split | dsimp only | rfl

theorem execMirrorDeadline_effect {msk : Nat} {s0 : State} (compare : Bool) (s : State) (hm : 0x27efcc0000c2400 &&& msk = 0x27efcc0000c2400) (h_s : Effect msk s0 s) :
    EffectOut msk s0 (execMirrorDeadline compare s) := by
  unfold execMirrorDeadline
  repeat' first | with_reducible intro _ | with_reducible assumption | with_reducible rfl | with_reducible refine EffectOut.gate ?_ ?_ | with_reducible refine EffectOut.next ?_ | exact subParts hm (by decide) | with_reducible apply State.mirDeadline_effect | with_reducible apply Effect.ite | split | dsimp only | rfl

theorem State.trackCounts_effect {msk : Nat} {s0 : State} (s : State) (hm : 0xc0000000c0400 &&& msk = 0xc0000000c0400) (h_s : Effect msk s0 s) :
    Effect msk s0 (State.trackCounts s) := by
  unfold State.trackCounts
  repeat' first | with_reducible intro _ | with_reducible assumption | with_reducible rfl | exact subParts hm (by decide) | with_reducible apply State.raise_effect | with_reducible apply State.bump_effect | with_reducible apply State.put_effect | with_reducible apply Effect.ite | split | dsimp only | exact bitParts hm (by decide) | exact bitOff hm (by decide) | exact bitPlus hm (by decide) | exact bitKey hm (by decide) | rfl

theorem State.rdnSample_effect {msk : Nat} {s0 : State} (s : State) (hm : 0xc0400000c0400 &&& msk = 0xc0400000c0400) (h_s : Effect msk s0 s) :
    Effect msk s0 (State.rdnSample s) := by
  unfold State.rdnSample
  repeat' first | with_reducible intro _ | with_reducible assumption | with_reducible rfl | exact subParts hm (by decide) | with_reducible apply State.trackCounts_effect | with_reducible apply State.refit_effect | with_reducible apply State.modRed_effect | with_reducible apply State.putSat_effect | with_reducible apply Effect.ite | split | dsimp only | exact bitParts hm (by decide) | exact bitOff hm (by decide) | rfl

theorem State.handDecide_effect {msk : Nat} {s0 : State} (s : State) (refOk : Bool) (hm : 0x40000000400 &&& msk = 0x40000000400) (h_s : Effect msk s0 s) :
    Effect msk s0 (State.handDecide s refOk) := by
  unfold State.handDecide
  repeat' first | with_reducible intro _ | with_reducible assumption | with_reducible rfl | exact subParts hm (by decide) | with_reducible apply State.modRed_effect | with_reducible apply State.setTo_effect | with_reducible apply Effect.ite | split | dsimp only | exact bitParts hm (by decide) | exact bitOff hm (by decide) | rfl

theorem State.standbyDiag_effect {msk : Nat} {s0 : State} (s : State) (hm : 0xd0480000d0e00 &&& msk = 0xd0480000d0e00) (h_s : Effect msk s0 s) :
    Effect msk s0 (State.standbyDiag s) := by
  unfold State.standbyDiag
  repeat' first | with_reducible intro _ | with_reducible assumption | with_reducible rfl | exact subParts hm (by decide) | with_reducible apply State.dropLine_effect | with_reducible apply State.setRstate_effect | with_reducible apply State.refit_effect | with_reducible apply State.modRed_effect | with_reducible apply Effect.ite | split | dsimp only | exact bitParts hm (by decide) | exact bitOff hm (by decide) | exact bitPlus hm (by decide) | exact bitKey hm (by decide) | rfl

theorem State.roleSwitch_effect {msk : Nat} {s0 : State} (s : State) (hm : 0xd0c80000d1e00 &&& msk = 0xd0c80000d1e00) (h_s : Effect msk s0 s) :
    Effect msk s0 (State.roleSwitch s) := by
  unfold State.roleSwitch
  repeat' first | with_reducible intro _ | with_reducible assumption | with_reducible rfl | exact subParts hm (by decide) | with_reducible apply State.standbyDiag_effect | with_reducible apply State.leaveActive_effect | with_reducible apply State.raise_effect | with_reducible apply State.setTo_effect | with_reducible apply Effect.ite | split | dsimp only | exact bitParts hm (by decide) | exact bitOff hm (by decide) | exact bitPlus hm (by decide) | exact bitKey hm (by decide) | rfl

theorem State.diagGo_effect {msk : Nat} {s0 : State} (s : State) (hm : 0xd0480000d0e00 &&& msk = 0xd0480000d0e00) (h_s : Effect msk s0 s) :
    Effect msk s0 (State.diagGo s) := by
  unfold State.diagGo
  repeat' first | with_reducible intro _ | with_reducible assumption | with_reducible rfl | exact subParts hm (by decide) | with_reducible apply State.standbyDiag_effect | with_reducible apply State.setTo_effect | with_reducible apply Effect.ite | split | dsimp only | exact bitParts hm (by decide) | exact bitOff hm (by decide) | exact bitPlus hm (by decide) | exact bitKey hm (by decide) | rfl

theorem execDiag_effect {msk : Nat} {s0 : State} (_req : Req) (s : State) (hm : 0xd0480000d0e00 &&& msk = 0xd0480000d0e00) (h_s : Effect msk s0 s) :
    EffectOut msk s0 (execDiag _req s) := by
  unfold execDiag
  repeat' first | with_reducible intro _ | with_reducible assumption | with_reducible rfl | with_reducible refine EffectOut.gate ?_ ?_ | with_reducible refine EffectOut.next ?_ | exact subParts hm (by decide) | with_reducible apply State.diagGo_effect | with_reducible apply Effect.ite | split | dsimp only | rfl

theorem execHandover_effect {msk : Nat} {s0 : State} (_req : Req) (s : State) (hm : 0x400 &&& msk = 0x400) (h_s : Effect msk s0 s) :
    EffectOut msk s0 (execHandover _req s) := by
  unfold execHandover
  repeat' first | with_reducible intro _ | with_reducible assumption | with_reducible rfl | with_reducible refine EffectOut.gate ?_ ?_ | with_reducible refine EffectOut.next ?_ | exact subParts hm (by decide) | with_reducible apply State.setTo_effect | with_reducible apply Effect.ite | split | dsimp only | exact bitParts hm (by decide) | exact bitOff hm (by decide) | rfl

theorem execRehearse_effect {msk : Nat} {s0 : State} (_req : Req) (s : State) (hm : 0x400 &&& msk = 0x400) (h_s : Effect msk s0 s) :
    EffectOut msk s0 (execRehearse _req s) := by
  unfold execRehearse
  repeat' first | with_reducible intro _ | with_reducible assumption | with_reducible rfl | with_reducible refine EffectOut.gate ?_ ?_ | with_reducible refine EffectOut.next ?_ | exact subParts hm (by decide) | with_reducible apply State.setTo_effect | with_reducible apply Effect.ite | split | dsimp only | exact bitParts hm (by decide) | exact bitOff hm (by decide) | rfl

theorem State.rehResult_effect {msk : Nat} {s0 : State} (s : State) (result : Nat) (p : Bool × Bool × Bool) (frames : Bool) (hm : 0xc0400000c0400 &&& msk = 0xc0400000c0400) (h_s : Effect msk s0 s) :
    Effect msk s0 (State.rehResult s result p frames) := by
  unfold State.rehResult
  repeat' first | with_reducible intro _ | with_reducible assumption | with_reducible rfl | exact subParts hm (by decide) | with_reducible apply State.modRed_effect | with_reducible apply State.raise1_effect | with_reducible apply State.setTo_effect | with_reducible apply State.wrn_effect | with_reducible apply Effect.ite | split | dsimp only | exact bitParts hm (by decide) | exact bitOff hm (by decide) | rfl

theorem State.rehGo_effect {msk : Nat} {s0 : State} (s : State) (l : Lines) (hm : 0x27efcc0000c2400 &&& msk = 0x27efcc0000c2400) (h_s : Effect msk s0 s) :
    Effect msk s0 (State.rehGo s l) := by
  unfold State.rehGo
  repeat' first | with_reducible intro _ | with_reducible assumption | with_reducible rfl | exact subParts hm (by decide) | with_reducible apply State.rehResult_effect | with_reducible apply State.partnerSeen_effect | with_reducible apply State.showLines_effect | with_reducible apply State.modRed_effect | with_reducible apply State.runTo_effect | with_reducible apply Effect.ite | split | dsimp only | exact bitParts hm (by decide) | exact bitOff hm (by decide) | exact bitPlus hm (by decide) | exact bitKey hm (by decide) | rfl

theorem execRehearsalPulse_effect {msk : Nat} {s0 : State} (lines : Lines) (s : State) (hm : 0x27efcc0000c2400 &&& msk = 0x27efcc0000c2400) (h_s : Effect msk s0 s) :
    EffectOut msk s0 (execRehearsalPulse lines s) := by
  unfold execRehearsalPulse
  repeat' first | with_reducible intro _ | with_reducible assumption | with_reducible rfl | with_reducible refine EffectOut.gate ?_ ?_ | with_reducible refine EffectOut.next ?_ | exact subParts hm (by decide) | with_reducible apply State.rehGo_effect | with_reducible apply Effect.ite | split | dsimp only | rfl

theorem State.rehFinish_effect {msk : Nat} {s0 : State} (s : State) (hm : 0xc0400000c0400 &&& msk = 0xc0400000c0400) (h_s : Effect msk s0 s) :
    Effect msk s0 (State.rehFinish s) := by
  unfold State.rehFinish
  repeat' first | with_reducible intro _ | with_reducible assumption | with_reducible rfl | exact subParts hm (by decide) | with_reducible apply State.rehResult_effect | with_reducible apply Effect.ite | split | dsimp only | rfl

end Sys2Proof.Machine
end

