-- ==== Sys2Proof/Laws/EffectJobs.lean ====
section
/-! SUPPORT. What the operations of Machine/Jobs.lean do: the parts of the state that each may change. -/

set_option linter.unusedTactic false
set_option linter.unusedVariables false
set_option linter.unreachableTactic false

namespace Sys2Proof.Machine

theorem State.hostResult_effect {msk : Nat} {s0 : State} (s : State) (k uid : Nat) (d : JobDesc) (r : JobRes) (hm : 0xc0000000c0000 &&& msk = 0xc0000000c0000) (h_s : Effect msk s0 s) :
    Effect msk s0 (State.hostResult s k uid d r) := by
  unfold State.hostResult
  repeat' first | with_reducible intro _ | with_reducible assumption | with_reducible rfl | exact subParts hm (by decide) | with_reducible apply State.endDesc_effect | with_reducible apply State.postData_effect | with_reducible apply Effect.ite | split | dsimp only | exact bitParts hm (by decide) | exact bitOff hm (by decide) | exact bitPlus hm (by decide) | exact bitKey hm (by decide) | rfl

theorem State.fusionResult_effect {msk : Nat} {s0 : State} (s : State) (which : Nat) (d : JobDesc) (r : JobRes) (hm : 0x4c0104000c00c0 &&& msk = 0x4c0104000c00c0) (h_s : Effect msk s0 s) :
    Effect msk s0 (State.fusionResult s which d r) := by
  unfold State.fusionResult
  repeat' first | with_reducible intro _ | with_reducible assumption | with_reducible rfl | exact subParts hm (by decide) | with_reducible apply State.pass2Result_effect | with_reducible apply State.pass1Result_effect | with_reducible apply State.modFus_effect | with_reducible apply Effect.ite | split | dsimp only | rfl

theorem State.assignResult_effect {msk : Nat} {s0 : State} (s : State) (d : JobDesc) (r : JobRes) (hm : 0xc0100000c0040 &&& msk = 0xc0100000c0040) (h_s : Effect msk s0 s) :
    Effect msk s0 (State.assignResult s d r) := by
  unfold State.assignResult
  repeat' first | with_reducible intro _ | with_reducible assumption | with_reducible rfl | exact subParts hm (by decide) | with_reducible apply State.lapResult_effect | with_reducible apply State.modFus_effect | with_reducible apply Effect.ite | split | dsimp only | rfl

theorem State.consume_effect {msk : Nat} {s0 : State} (s : State) (j : Job) (r : JobRes) (hm : 0x1cc0104000c01c0 &&& msk = 0x1cc0104000c01c0) (h_s : Effect msk s0 s) :
    Effect msk s0 (State.consume s j r) := by
  unfold State.consume
  repeat' first | with_reducible intro _ | with_reducible assumption | with_reducible rfl | exact subParts hm (by decide) | with_reducible apply State.assignResult_effect | with_reducible apply State.fusionResult_effect | with_reducible apply State.hostResult_effect | with_reducible apply State.scnResult_effect | with_reducible apply State.primaryResult_effect | with_reducible apply Effect.ite | split | dsimp only | rfl

theorem State.drainJobs_effect {m : Nat} {s0 : State} (n : Nat) (s : State) (hm : 0x1cc0104000c01c0 &&& m = 0x1cc0104000c01c0) (h_s : Effect m s0 s) :
    Effect m s0 (State.drainJobs n s) := by
  induction n generalizing s with
  | zero => exact h_s
  | succ n ih =>
    unfold State.drainJobs
    split
    · exact h_s
    · exact ih _ (State.consume_effect _ _ _ (subParts hm (by decide)) (State.modOry_effect _ _ (subParts hm (by decide)) h_s))

theorem State.drainDone_effect {msk : Nat} {s0 : State} (s : State) (hm : 0x1cc0104000c01c0 &&& msk = 0x1cc0104000c01c0) (h_s : Effect msk s0 s) :
    Effect msk s0 (State.drainDone s) := by
  unfold State.drainDone
  repeat' first | with_reducible intro _ | with_reducible assumption | with_reducible rfl | exact subParts hm (by decide) | with_reducible apply State.drainJobs_effect | with_reducible apply Effect.ite | split | dsimp only | rfl

theorem State.appPost_effect {msk : Nat} {s0 : State} (s : State) (ty : Nat) (desc : List Byte) (chain : Option (List Byte)) (hm : 0x1cc0104000c01c0 &&& msk = 0x1cc0104000c01c0) (h_s : Effect msk s0 s) :
    Effect msk s0 (State.appPost s ty desc chain) := by
  unfold State.appPost
  repeat' first | with_reducible intro _ | with_reducible assumption | with_reducible rfl | exact subParts hm (by decide) | with_reducible apply State.drainDone_effect | with_reducible apply State.postJob_effect | with_reducible apply Effect.ite | split | dsimp only | rfl

theorem execQpAdmm_effect {msk : Nat} {s0 : State} (_req : Req) (desc : List Byte) (chain : Option (List Byte)) (s : State) (hm : 0x1cc0104000c01c0 &&& msk = 0x1cc0104000c01c0) (h_s : Effect msk s0 s) :
    EffectOut msk s0 (execQpAdmm _req desc chain s) := by
  unfold execQpAdmm
  repeat' first | with_reducible intro _ | with_reducible assumption | with_reducible rfl | with_reducible refine EffectOut.gate ?_ ?_ | with_reducible refine EffectOut.rooted ?_ ?_ | with_reducible refine EffectOut.reach ?_ ?_ | with_reducible refine EffectOut.next ?_ | exact subParts hm (by decide) | with_reducible apply State.appPost_effect | with_reducible apply Effect.ite | split | dsimp only | exact bitParts hm (by decide) | exact bitOff hm (by decide) | exact bitPlus hm (by decide) | exact bitKey hm (by decide) | rfl

theorem execKfQr_effect {msk : Nat} {s0 : State} (_req : Req) (desc : List Byte) (s : State) (hm : 0x1cc0104000c01c0 &&& msk = 0x1cc0104000c01c0) (h_s : Effect msk s0 s) :
    EffectOut msk s0 (execKfQr _req desc s) := by
  unfold execKfQr
  repeat' first | with_reducible intro _ | with_reducible assumption | with_reducible rfl | with_reducible refine EffectOut.gate ?_ ?_ | with_reducible refine EffectOut.rooted ?_ ?_ | with_reducible refine EffectOut.reach ?_ ?_ | with_reducible refine EffectOut.next ?_ | exact subParts hm (by decide) | with_reducible apply State.appPost_effect | with_reducible apply Effect.ite | split | dsimp only | exact bitParts hm (by decide) | exact bitOff hm (by decide) | exact bitPlus hm (by decide) | exact bitKey hm (by decide) | rfl

theorem execLap_effect {msk : Nat} {s0 : State} (_req : Req) (desc : List Byte) (s : State) (hm : 0x1cc0104000c01c0 &&& msk = 0x1cc0104000c01c0) (h_s : Effect msk s0 s) :
    EffectOut msk s0 (execLap _req desc s) := by
  unfold execLap
  repeat' first | with_reducible intro _ | with_reducible assumption | with_reducible rfl | with_reducible refine EffectOut.gate ?_ ?_ | with_reducible refine EffectOut.rooted ?_ ?_ | with_reducible refine EffectOut.reach ?_ ?_ | with_reducible refine EffectOut.next ?_ | exact subParts hm (by decide) | with_reducible apply State.appPost_effect | with_reducible apply Effect.ite | split | dsimp only | exact bitParts hm (by decide) | exact bitOff hm (by decide) | exact bitPlus hm (by decide) | exact bitKey hm (by decide) | rfl

theorem execSim_effect {msk : Nat} {s0 : State} (_req : Req) (desc : List Byte) (s : State) (hm : 0x1cc0104000c01c0 &&& msk = 0x1cc0104000c01c0) (h_s : Effect msk s0 s) :
    EffectOut msk s0 (execSim _req desc s) := by
  unfold execSim
  repeat' first | with_reducible intro _ | with_reducible assumption | with_reducible rfl | with_reducible refine EffectOut.gate ?_ ?_ | with_reducible refine EffectOut.rooted ?_ ?_ | with_reducible refine EffectOut.reach ?_ ?_ | with_reducible refine EffectOut.next ?_ | exact subParts hm (by decide) | with_reducible apply State.appPost_effect | with_reducible apply Effect.ite | split | dsimp only | exact bitParts hm (by decide) | exact bitOff hm (by decide) | exact bitPlus hm (by decide) | exact bitKey hm (by decide) | rfl

theorem execLoad_effect {msk : Nat} {s0 : State} (_req : Req) (desc : List Byte) (s : State) (hm : 0x1cc0104000c01c0 &&& msk = 0x1cc0104000c01c0) (h_s : Effect msk s0 s) :
    EffectOut msk s0 (execLoad _req desc s) := by
  unfold execLoad
  repeat' first | with_reducible intro _ | with_reducible assumption | with_reducible rfl | with_reducible refine EffectOut.gate ?_ ?_ | with_reducible refine EffectOut.rooted ?_ ?_ | with_reducible refine EffectOut.reach ?_ ?_ | with_reducible refine EffectOut.next ?_ | exact subParts hm (by decide) | with_reducible apply State.appPost_effect | with_reducible apply Effect.ite | split | dsimp only | exact bitParts hm (by decide) | exact bitOff hm (by decide) | exact bitPlus hm (by decide) | exact bitKey hm (by decide) | rfl

theorem execFree_effect {msk : Nat} {s0 : State} (_req : Req) (desc : List Byte) (s : State) (hm : 0x1cc0104000c01c0 &&& msk = 0x1cc0104000c01c0) (h_s : Effect msk s0 s) :
    EffectOut msk s0 (execFree _req desc s) := by
  unfold execFree
  repeat' first | with_reducible intro _ | with_reducible assumption | with_reducible rfl | with_reducible refine EffectOut.gate ?_ ?_ | with_reducible refine EffectOut.rooted ?_ ?_ | with_reducible refine EffectOut.reach ?_ ?_ | with_reducible refine EffectOut.next ?_ | exact subParts hm (by decide) | with_reducible apply State.appPost_effect | with_reducible apply Effect.ite | split | dsimp only | exact bitParts hm (by decide) | exact bitOff hm (by decide) | exact bitPlus hm (by decide) | exact bitKey hm (by decide) | rfl

theorem execEngineGrant_effect {msk : Nat} {s0 : State} (eng : Fin 64) (s : State) (hm : 0x1cc0104000c01c0 &&& msk = 0x1cc0104000c01c0) (h_s : Effect msk s0 s) :
    EffectOut msk s0 (execEngineGrant eng s) := by
  unfold execEngineGrant
  repeat' first | with_reducible intro _ | with_reducible assumption | with_reducible rfl | with_reducible refine EffectOut.gate ?_ ?_ | with_reducible refine EffectOut.rooted ?_ ?_ | with_reducible refine EffectOut.reach ?_ ?_ | with_reducible refine EffectOut.next ?_ | exact subParts hm (by decide) | with_reducible apply State.drainDone_effect | with_reducible apply State.grant_effect | with_reducible apply Effect.ite | split | dsimp only | exact bitParts hm (by decide) | exact bitOff hm (by decide) | exact bitPlus hm (by decide) | exact bitKey hm (by decide) | rfl

theorem execJobResult_effect {msk : Nat} {s0 : State} (eng : Fin 64) (corr : Nat) (s : State) (hm : 0x7fefdc4000c21c0 &&& msk = 0x7fefdc4000c21c0) (h_s : Effect msk s0 s) :
    EffectOut msk s0 (execJobResult eng corr s) := by
  unfold execJobResult
  repeat' first | with_reducible intro _ | with_reducible assumption | with_reducible rfl | with_reducible refine EffectOut.gate ?_ ?_ | with_reducible refine EffectOut.rooted ?_ ?_ | with_reducible refine EffectOut.reach ?_ ?_ | with_reducible refine EffectOut.next ?_ | exact subParts hm (by decide) | with_reducible apply State.drainDone_effect | with_reducible apply State.jobResult_effect | with_reducible apply Effect.ite | split | dsimp only | exact bitParts hm (by decide) | exact bitOff hm (by decide) | exact bitPlus hm (by decide) | exact bitKey hm (by decide) | rfl

theorem execJobDeadline_effect {msk : Nat} {s0 : State} (slot : Fin 127) (done : Progress) (factored : Bool) (s : State) (hm : 0x7fefdc4000c21c0 &&& msk = 0x7fefdc4000c21c0) (h_s : Effect msk s0 s) :
    EffectOut msk s0 (execJobDeadline slot done factored s) := by
  unfold execJobDeadline
  repeat' first | with_reducible intro _ | with_reducible assumption | with_reducible rfl | with_reducible refine EffectOut.gate ?_ ?_ | with_reducible refine EffectOut.rooted ?_ ?_ | with_reducible refine EffectOut.reach ?_ ?_ | with_reducible refine EffectOut.next ?_ | exact subParts hm (by decide) | with_reducible apply State.drainDone_effect | with_reducible apply State.jobDeadline_effect | with_reducible apply Effect.ite | split | dsimp only | exact bitParts hm (by decide) | exact bitOff hm (by decide) | exact bitPlus hm (by decide) | exact bitKey hm (by decide) | rfl

theorem execHostAbort_effect {msk : Nat} {s0 : State} (_req : Req) (s : State) (hm : 0x5cc0104000c01c0 &&& msk = 0x5cc0104000c01c0) (h_s : Effect msk s0 s) :
    EffectOut msk s0 (execHostAbort _req s) := by
  unfold execHostAbort
  repeat' first | with_reducible intro _ | with_reducible assumption | with_reducible rfl | with_reducible refine EffectOut.gate ?_ ?_ | with_reducible refine EffectOut.rooted ?_ ?_ | with_reducible refine EffectOut.reach ?_ ?_ | with_reducible refine EffectOut.next ?_ | exact subParts hm (by decide) | with_reducible apply State.drainDone_effect | with_reducible apply State.hostAbort_effect | with_reducible apply Effect.ite | split | dsimp only | exact bitParts hm (by decide) | exact bitOff hm (by decide) | exact bitPlus hm (by decide) | exact bitKey hm (by decide) | rfl

theorem execSectorSwitch_effect {msk : Nat} {s0 : State} (thr : Fin 24) (s : State) (hm : 0x8c0000000c0100 &&& msk = 0x8c0000000c0100) (h_s : Effect msk s0 s) :
    EffectOut msk s0 (execSectorSwitch thr s) := by
  unfold execSectorSwitch
  repeat' first | with_reducible intro _ | with_reducible assumption | with_reducible rfl | with_reducible refine EffectOut.gate ?_ ?_ | with_reducible refine EffectOut.next ?_ | exact subParts hm (by decide) | with_reducible apply State.sectReach_effect | with_reducible apply Effect.ite | split | dsimp only | rfl

end Sys2Proof.Machine
end

