-- ==== Sys2Proof/Laws/EffectPower.lean ====
section
/-! SUPPORT. What the operations of Machine/Power.lean do: the parts of the state that each may change. -/

set_option linter.unusedTactic false
set_option linter.unusedVariables false
set_option linter.unreachableTactic false

namespace Sys2Proof.Machine

theorem State.modPow_effect {msk : Nat} {s0 : State} (s : State) (f : Power → Power) (hm : 0x20000000000000 &&& msk = 0x20000000000000) (h_s : Effect msk s0 s) :
    Effect msk s0 (State.modPow s f) := by
  unfold State.modPow
  repeat' first | with_reducible intro _ | with_reducible assumption | with_reducible rfl | with_reducible apply Effect.ite | split | dsimp only | with_reducible refine Effect.pow ?_ ?_ | exact bitParts hm (by decide) | rfl

theorem State.setDom_effect {msk : Nat} {s0 : State} (s : State) (d : Nat) (b : Bool) (hm : 0x4 &&& msk = 0x4) (h_s : Effect msk s0 s) :
    Effect msk s0 (State.setDom s d b) := by
  unfold State.setDom
  repeat' first | with_reducible intro _ | with_reducible assumption | with_reducible rfl | exact subParts hm (by decide) | with_reducible apply State.put_effect | with_reducible apply Effect.ite | split | dsimp only | exact bitParts hm (by decide) | exact bitOff hm (by decide) | rfl

theorem State.dropBlocks_effect {m : Nat} {s0 : State} (s : State) (bs : List Nat) (hm : 0x200ffffffff &&& m = 0x200ffffffff) (h_s : Effect m s0 s) :
    Effect m s0 (State.dropBlocks s bs) :=
  ⟨⟨fun w => swf_filter _ (h_s.kept.regs w), fun w e => swf_filter _ (h_s.kept.eff w e), h_s.kept.mem, h_s.kept.pending,
      h_s.kept.variant, h_s.kept.sizes, h_s.kept.fuses⟩,
    { h_s.within with
      regs := fun _ b => absurd (b.symm.trans (bitAll hm (by decide))) Bool.false_ne_true
      eff := fun b => absurd (b.symm.trans (bitParts hm (by decide))) Bool.false_ne_true }⟩

theorem State.dropCopy_effect {msk : Nat} {s0 : State} (s : State) (hm : 0x2000000000 &&& msk = 0x2000000000) (h_s : Effect msk s0 s) :
    Effect msk s0 (State.dropCopy s) := by
  unfold State.dropCopy
  repeat' first | with_reducible intro _ | with_reducible assumption | with_reducible rfl | exact subParts hm (by decide) | with_reducible apply State.retStore_effect | with_reducible apply Effect.ite | split | dsimp only | exact bitParts hm (by decide) | exact bitOff hm (by decide) | exact bitPlus hm (by decide) | exact bitKey hm (by decide) | rfl

theorem State.loseFab_effect {m : Nat} {s0 : State} (s : State) (hm : 0x38bc7e4ffffffff &&& m = 0x38bc7e4ffffffff) (h_s : Effect m s0 s) :
    Effect m s0 (State.loseFab s) := by
  have hb := State.dropBlocks_effect s.dropCopy [0x05, 0x06, 0x08, 0x09, 0x0A, 0x0F, 0x10, 0x11, 0x13] (subParts hm (by decide))
    (State.dropCopy_effect _ (subParts hm (by decide)) h_s)
  unfold State.loseFab
  generalize s.dropCopy.dropBlocks [0x05, 0x06, 0x08, 0x09, 0x0A, 0x0F, 0x10, 0x11, 0x13] = b at hb ⊢
  refine State.claimFalls_effect _ (subParts hm (by decide)) ?_
  refine Effect.upd (Effect.sram (x := []) (bitParts hm (by decide)) hb fun _ => rfl) ?_ ?_ ?_ ?_ ?_ ?_ ?_ ?_ ?_ ?_ ?_ ?_ ?_ ?_ ?_ ?_ ?_ ?_ ?_ ?_ ?_ ?_ ?_ <;>
    first | exact .inr rfl | exact .inl (bitParts hm (by decide)) | rfl

theorem State.loseSer_effect {m : Nat} {s0 : State} (s : State) (hm : 0x20c3a40ffffffff &&& m = 0x20c3a40ffffffff) (h_s : Effect m s0 s) :
    Effect m s0 (State.loseSer s) := by
  have hb := State.dropBlocks_effect s.newEpoch [0x0C, 0x0D, 0x12] (subParts hm (by decide))
    (State.newEpoch_effect _ (subParts hm (by decide)) h_s)
  unfold State.loseSer
  generalize s.newEpoch = a at hb ⊢
  dsimp only
  generalize a.dropBlocks [0x0C, 0x0D, 0x12] = b at hb ⊢
  refine Effect.upd hb ?_ ?_ ?_ ?_ ?_ ?_ ?_ ?_ ?_ ?_ ?_ ?_ ?_ ?_ ?_ ?_ ?_ ?_ ?_ ?_ ?_ ?_ ?_ <;>
    first | exact .inr rfl | exact .inl (bitParts hm (by decide)) | rfl

theorem State.loseDomain_effect {m : Nat} {s0 : State} (s : State) (d : Nat) (hm : 0x7cfffecffffffff &&& m = 0x7cfffecffffffff) (h_s : Effect m s0 s) :
    Effect m s0 (State.loseDomain s d) := by
  unfold State.loseDomain
  refine Effect.ite h_s ?_
  have ha : Effect m s0 (s.setDom d false) := State.setDom_effect _ _ _ (subParts hm (by decide)) h_s
  generalize s.setDom d false = a at ha ⊢
  have hq : ∀ k, Effect m s0 (a.quadDown k true).drainDone := fun k =>
    State.drainDone_effect _ (subParts hm (by decide)) (State.quadDown_effect _ _ _ (subParts hm (by decide)) ha)
  dsimp only
  split
  · exact Effect.boot (bitParts hm (by decide)) ha rfl
  · exact Effect.cdr (bitParts hm (by decide)) ha
  · exact hq _
  · exact hq _
  · exact hq _
  · exact hq _
  · exact State.loseFab_effect _ (subParts hm (by decide)) ha
  · exact State.loseSer_effect _ (subParts hm (by decide)) ha
  · exact Effect.ddr (bitParts hm (by decide)) ha fun _ => rfl
  · exact ha

theorem State.svStop_effect {msk : Nat} {s0 : State} (s : State) (hm : 0x20000000000000 &&& msk = 0x20000000000000) (h_s : Effect msk s0 s) :
    Effect msk s0 (State.svStop s) := by
  unfold State.svStop
  repeat' first | with_reducible intro _ | with_reducible assumption | with_reducible rfl | exact subParts hm (by decide) | with_reducible apply State.modPow_effect | with_reducible apply Effect.ite | split | dsimp only | exact bitParts hm (by decide) | exact bitOff hm (by decide) | exact bitPlus hm (by decide) | exact bitKey hm (by decide) | rfl

theorem State.setRail_effect {msk : Nat} {s0 : State} (s : State) (rail : Nat) (ok : Bool) (hm : 0xc0000000c0004 &&& msk = 0xc0000000c0004) (h_s : Effect msk s0 s) :
    Effect msk s0 (State.setRail s rail ok) := by
  unfold State.setRail
  repeat' first | with_reducible intro _ | with_reducible assumption | with_reducible rfl | exact subParts hm (by decide) | with_reducible apply State.raise1_effect | with_reducible apply State.put_effect | with_reducible apply Effect.ite | split | dsimp only | exact bitParts hm (by decide) | exact bitOff hm (by decide) | rfl

theorem State.railSeen_effect {msk : Nat} {s0 : State} (s : State) (rail : Nat) (ok : Bool) (hm : 0xc0000000c0004 &&& msk = 0xc0000000c0004) (h_s : Effect msk s0 s) :
    Effect msk s0 (State.railSeen s rail ok) := by
  unfold State.railSeen
  repeat' first | with_reducible intro _ | with_reducible assumption | with_reducible rfl | exact subParts hm (by decide) | with_reducible apply State.setRail_effect | with_reducible apply Effect.ite | split | dsimp only | exact bitParts hm (by decide) | exact bitOff hm (by decide) | exact bitPlus hm (by decide) | exact bitKey hm (by decide) | rfl

theorem State.grdPower_effect {msk : Nat} {s0 : State} (s : State) (on : Bool) (hm : 0x8000000004 &&& msk = 0x8000000004) (h_s : Effect msk s0 s) :
    Effect msk s0 (State.grdPower s on) := by
  unfold State.grdPower
  repeat' first | with_reducible intro _ | with_reducible assumption | with_reducible rfl | exact subParts hm (by decide) | with_reducible apply State.setDom_effect | with_reducible apply State.modGrd_effect | with_reducible apply Effect.ite | split | dsimp only | exact bitParts hm (by decide) | exact bitOff hm (by decide) | exact bitPlus hm (by decide) | exact bitKey hm (by decide) | rfl

theorem State.railLost_effect {msk : Nat} {s0 : State} (s : State) (rail : Nat) (hm : 0x7efffecffffffff &&& msk = 0x7efffecffffffff) (h_s : Effect msk s0 s) :
    Effect msk s0 (State.railLost s rail) := by
  unfold State.railLost
  repeat' first | with_reducible intro _ | with_reducible assumption | with_reducible rfl | exact subParts hm (by decide) | with_reducible apply State.grdPower_effect | with_reducible apply State.setRail_effect | with_reducible apply State.svStop_effect | with_reducible apply State.loseDomain_effect | with_reducible apply State.modPow_effect | with_reducible apply State.grdShow_effect | with_reducible apply Effect.foldl | with_reducible apply Effect.ite | split | dsimp only | exact bitParts hm (by decide) | exact bitOff hm (by decide) | exact bitPlus hm (by decide) | exact bitKey hm (by decide) | rfl

theorem execIoRailInvalid_effect {msk : Nat} {s0 : State} (b : Bool) (s : State) (hm : 0x7efffecffffffff &&& msk = 0x7efffecffffffff) (h_s : Effect msk s0 s) :
    EffectOut msk s0 (execIoRailInvalid b s) := by
  unfold execIoRailInvalid
  repeat' first | with_reducible intro _ | with_reducible assumption | with_reducible rfl | with_reducible refine EffectOut.next ?_ | exact subParts hm (by decide) | with_reducible apply State.railLost_effect | with_reducible apply Effect.ite | split | dsimp only | rfl

theorem execRailValid_effect {msk : Nat} {s0 : State} (rail : Fin 9) (s : State) (hm : 0xc0000000c0804 &&& msk = 0xc0000000c0804) (h_s : Effect msk s0 s) :
    EffectOut msk s0 (execRailValid rail s) := by
  unfold execRailValid
  repeat' first | with_reducible intro _ | with_reducible assumption | with_reducible rfl | with_reducible refine EffectOut.gate ?_ ?_ | with_reducible refine EffectOut.rooted ?_ ?_ | with_reducible refine EffectOut.reach ?_ ?_ | with_reducible refine EffectOut.next ?_ | exact subParts hm (by decide) | with_reducible apply State.setRail_effect | with_reducible apply State.grdShow_effect | with_reducible apply Effect.ite | split | dsimp only | exact bitParts hm (by decide) | exact bitOff hm (by decide) | exact bitPlus hm (by decide) | exact bitKey hm (by decide) | rfl

theorem State.domainReady_effect {msk : Nat} {s0 : State} (s : State) (hm : 0x20000000000004 &&& msk = 0x20000000000004) (h_s : Effect msk s0 s) :
    Effect msk s0 (State.domainReady s) := by
  unfold State.domainReady
  repeat' first | with_reducible intro _ | with_reducible assumption | with_reducible rfl | exact subParts hm (by decide) | with_reducible apply State.setDom_effect | with_reducible apply State.modPow_effect | with_reducible apply Effect.ite | split | dsimp only | rfl

theorem execDomainReady_effect {msk : Nat} {s0 : State} (s : State) (hm : 0x20000000000004 &&& msk = 0x20000000000004) (h_s : Effect msk s0 s) :
    EffectOut msk s0 (execDomainReady s) := by
  unfold execDomainReady
  repeat' first | with_reducible intro _ | with_reducible assumption | with_reducible rfl | with_reducible refine EffectOut.gate ?_ ?_ | with_reducible refine EffectOut.rooted ?_ ?_ | with_reducible refine EffectOut.reach ?_ ?_ | with_reducible refine EffectOut.next ?_ | exact subParts hm (by decide) | with_reducible apply State.domainReady_effect | with_reducible apply Effect.ite | split | dsimp only | exact bitParts hm (by decide) | exact bitOff hm (by decide) | exact bitPlus hm (by decide) | exact bitKey hm (by decide) | rfl

theorem State.quadStep_effect {msk : Nat} {s0 : State} (q : Nat) (s : State) (hm : 0x46c0004000c0084 &&& msk = 0x46c0004000c0084) (h_s : Effect msk s0 s) :
    Effect msk s0 (State.quadStep q s) := by
  unfold State.quadStep
  repeat' first | with_reducible intro _ | with_reducible assumption | with_reducible rfl | exact subParts hm (by decide) | with_reducible apply State.setDom_effect | with_reducible apply State.modPow_effect | with_reducible apply State.quadUp_effect | with_reducible apply State.quadDown_effect | with_reducible apply Effect.ite | split | dsimp only | exact bitParts hm (by decide) | exact bitOff hm (by decide) | exact bitPlus hm (by decide) | exact bitKey hm (by decide) | rfl

theorem State.quadSwitch_effect {msk : Nat} {s0 : State} (s : State) (hm : 0x46c0004000c0084 &&& msk = 0x46c0004000c0084) (h_s : Effect msk s0 s) :
    Effect msk s0 (State.quadSwitch s) := by
  unfold State.quadSwitch
  repeat' first | with_reducible intro _ | with_reducible assumption | with_reducible rfl | exact subParts hm (by decide) | with_reducible apply State.quadStep_effect | with_reducible apply State.quadUp_effect | with_reducible apply Effect.ite | split | dsimp only | rfl

theorem execOffReq_effect {msk : Nat} {s0 : State} (_req : Req) (v : Fin 8) (s : State) (hm : 0x4 &&& msk = 0x4) (h_s : Effect msk s0 s) :
    EffectOut msk s0 (execOffReq _req v s) := by
  unfold execOffReq
  repeat' first | with_reducible intro _ | with_reducible assumption | with_reducible rfl | with_reducible refine EffectOut.gate ?_ ?_ | with_reducible refine EffectOut.rooted ?_ ?_ | with_reducible refine EffectOut.reach ?_ ?_ | with_reducible refine EffectOut.next ?_ | exact subParts hm (by decide) | with_reducible apply State.put_effect | with_reducible apply Effect.ite | split | dsimp only | exact bitParts hm (by decide) | exact bitOff hm (by decide) | exact bitPlus hm (by decide) | exact bitKey hm (by decide) | rfl

theorem State.thCount_effect {msk : Nat} {s0 : State} (s : State) (hm : 0x20000000000010 &&& msk = 0x20000000000010) (h_s : Effect msk s0 s) :
    Effect msk s0 (State.thCount s) := by
  unfold State.thCount
  repeat' first | with_reducible intro _ | with_reducible assumption | with_reducible rfl | exact subParts hm (by decide) | with_reducible apply State.modPow_effect | with_reducible apply State.bump_effect | with_reducible apply Effect.ite | split | dsimp only | exact bitParts hm (by decide) | exact bitOff hm (by decide) | rfl

theorem State.throttleStep_effect {msk : Nat} {s0 : State} (s : State) (hm : 0x2c0000000c0010 &&& msk = 0x2c0000000c0010) (h_s : Effect msk s0 s) :
    Effect msk s0 (State.throttleStep s) := by
  unfold State.throttleStep
  repeat' first | with_reducible intro _ | with_reducible assumption | with_reducible rfl | exact subParts hm (by decide) | with_reducible apply State.thCount_effect | with_reducible apply State.modPow_effect | with_reducible apply State.raise1_effect | with_reducible apply State.put_effect | with_reducible apply Effect.ite | split | dsimp only | exact bitParts hm (by decide) | exact bitOff hm (by decide) | rfl

theorem State.dwellCheck_effect {msk : Nat} {s0 : State} (s : State) (m : Int) (hm : 0x20000000000000 &&& msk = 0x20000000000000) (h_s : Effect msk s0 s) :
    Effect msk s0 (State.dwellCheck s m) := by
  unfold State.dwellCheck
  repeat' first | with_reducible intro _ | with_reducible assumption | with_reducible rfl | exact subParts hm (by decide) | with_reducible apply State.modPow_effect | with_reducible apply Effect.ite | split | dsimp only | exact bitParts hm (by decide) | exact bitOff hm (by decide) | exact bitPlus hm (by decide) | exact bitKey hm (by decide) | rfl

theorem State.dwellExpiry_effect {msk : Nat} {s0 : State} (s : State) (hm : 0x27efcc0000c2000 &&& msk = 0x27efcc0000c2000) (h_s : Effect msk s0 s) :
    Effect msk s0 (State.dwellExpiry s) := by
  unfold State.dwellExpiry
  repeat' first | with_reducible intro _ | with_reducible assumption | with_reducible rfl | exact subParts hm (by decide) | with_reducible apply State.modPow_effect | with_reducible apply State.runTo_effect | with_reducible apply Effect.ite | split | dsimp only | rfl

theorem execThrottleDwell_effect {msk : Nat} {s0 : State} (s : State) (hm : 0x27efcc0000c2000 &&& msk = 0x27efcc0000c2000) (h_s : Effect msk s0 s) :
    EffectOut msk s0 (execThrottleDwell s) := by
  unfold execThrottleDwell
  repeat' first | with_reducible intro _ | with_reducible assumption | with_reducible rfl | with_reducible refine EffectOut.gate ?_ ?_ | with_reducible refine EffectOut.rooted ?_ ?_ | with_reducible refine EffectOut.reach ?_ ?_ | with_reducible refine EffectOut.next ?_ | exact subParts hm (by decide) | with_reducible apply State.dwellExpiry_effect | with_reducible apply Effect.ite | split | dsimp only | exact bitParts hm (by decide) | exact bitOff hm (by decide) | exact bitPlus hm (by decide) | exact bitKey hm (by decide) | rfl

theorem State.domainDown_effect {msk : Nat} {s0 : State} (s : State) (d : Nat) (hm : 0x7ffffecffffffff &&& msk = 0x7ffffecffffffff) (h_s : Effect msk s0 s) :
    Effect msk s0 (State.domainDown s d) := by
  unfold State.domainDown
  repeat' first | with_reducible intro _ | with_reducible assumption | with_reducible rfl | exact subParts hm (by decide) | with_reducible apply State.loseDomain_effect | with_reducible apply State.runTo_effect | with_reducible apply Effect.ite | split | dsimp only | exact bitParts hm (by decide) | exact bitOff hm (by decide) | exact bitPlus hm (by decide) | exact bitKey hm (by decide) | rfl

theorem State.domainsDown_effect {msk : Nat} {s0 : State} (s : State) (hm : 0x7ffffecffffffff &&& msk = 0x7ffffecffffffff) (h_s : Effect msk s0 s) :
    Effect msk s0 (State.domainsDown s) := by
  unfold State.domainsDown
  repeat' first | with_reducible intro _ | with_reducible assumption | with_reducible rfl | exact subParts hm (by decide) | with_reducible apply State.domainDown_effect | with_reducible apply State.modPow_effect | with_reducible apply Effect.foldl | with_reducible apply Effect.ite | split | dsimp only | exact bitParts hm (by decide) | exact bitOff hm (by decide) | exact bitPlus hm (by decide) | exact bitKey hm (by decide) | rfl

theorem State.cycleGo_effect {msk : Nat} {s0 : State} (s : State) (hm : 0x7ffffecffffffff &&& msk = 0x7ffffecffffffff) (h_s : Effect msk s0 s) :
    Effect msk s0 (State.cycleGo s) := by
  unfold State.cycleGo
  repeat' first | with_reducible intro _ | with_reducible assumption | with_reducible rfl | exact subParts hm (by decide) | with_reducible apply State.domainsDown_effect | with_reducible apply State.pwrStart_effect | with_reducible apply Effect.ite | split | dsimp only | exact bitParts hm (by decide) | exact bitOff hm (by decide) | exact bitPlus hm (by decide) | exact bitKey hm (by decide) | rfl

theorem State.merCycle_effect {msk : Nat} {s0 : State} (s : State) (reason : Nat) (hm : 0x7ffffecffffffff &&& msk = 0x7ffffecffffffff) (h_s : Effect msk s0 s) :
    Effect msk s0 (State.merCycle s reason) := by
  unfold State.merCycle
  repeat' first | with_reducible intro _ | with_reducible assumption | with_reducible rfl | exact subParts hm (by decide) | with_reducible apply State.cycleGo_effect | with_reducible apply State.lockedOut_effect | with_reducible apply State.put_effect | with_reducible apply Effect.ite | split | dsimp only | exact bitParts hm (by decide) | exact bitOff hm (by decide) | exact bitPlus hm (by decide) | exact bitKey hm (by decide) | rfl

theorem execCycle_effect {msk : Nat} {s0 : State} (_req : Req) (s : State) (hm : 0x7ffffecffffffff &&& msk = 0x7ffffecffffffff) (h_s : Effect msk s0 s) :
    EffectOut msk s0 (execCycle _req s) := by
  unfold execCycle
  repeat' first | with_reducible intro _ | with_reducible assumption | with_reducible rfl | with_reducible refine EffectOut.gate ?_ ?_ | with_reducible refine EffectOut.rooted ?_ ?_ | with_reducible refine EffectOut.reach ?_ ?_ | with_reducible refine EffectOut.next ?_ | exact subParts hm (by decide) | with_reducible apply State.cycleGo_effect | with_reducible apply State.lockedOut_effect | with_reducible apply Effect.ite | split | dsimp only | exact bitParts hm (by decide) | exact bitOff hm (by decide) | exact bitPlus hm (by decide) | exact bitKey hm (by decide) | rfl

theorem State.shutRequest_effect {msk : Nat} {s0 : State} (s : State) (hm : 0x2c0080000c0800 &&& msk = 0x2c0080000c0800) (h_s : Effect msk s0 s) :
    Effect msk s0 (State.shutRequest s) := by
  unfold State.shutRequest
  repeat' first | with_reducible intro _ | with_reducible assumption | with_reducible rfl | exact subParts hm (by decide) | with_reducible apply State.modPow_effect | with_reducible apply State.grdCause_effect | with_reducible apply State.raise_effect | with_reducible apply Effect.ite | split | dsimp only | rfl

theorem State.shutEnd_effect {msk : Nat} {s0 : State} (s : State) (level : Nat) (hm : 0x7ffffecffffffff &&& msk = 0x7ffffecffffffff) (h_s : Effect msk s0 s) :
    Effect msk s0 (State.shutEnd s level) := by
  unfold State.shutEnd
  repeat' first | with_reducible intro _ | with_reducible assumption | with_reducible rfl | exact subParts hm (by decide) | with_reducible apply State.merCycle_effect | with_reducible apply Effect.ite | split | dsimp only | rfl

theorem State.newMean_effect {msk : Nat} {s0 : State} (s : State) (m : Int) (hm : 0x7ffffecffffffff &&& msk = 0x7ffffecffffffff) (h_s : Effect msk s0 s) :
    Effect msk s0 (State.newMean s m) := by
  unfold State.newMean
  repeat' first | with_reducible intro _ | with_reducible assumption | with_reducible rfl | exact subParts hm (by decide) | with_reducible apply State.shutEnd_effect | with_reducible apply State.shutRequest_effect | with_reducible apply State.dwellCheck_effect | with_reducible apply State.raise_effect | with_reducible apply State.put_effect | with_reducible apply Effect.ite | split | dsimp only | exact bitParts hm (by decide) | exact bitOff hm (by decide) | rfl

theorem State.sensorFault_effect {msk : Nat} {s0 : State} (s : State) (hm : 0x2c0000000c0010 &&& msk = 0x2c0000000c0010) (h_s : Effect msk s0 s) :
    Effect msk s0 (State.sensorFault s) := by
  unfold State.sensorFault
  repeat' first | with_reducible intro _ | with_reducible assumption | with_reducible rfl | exact subParts hm (by decide) | with_reducible apply State.modPow_effect | with_reducible apply State.raise_effect | with_reducible apply State.setTo_effect | with_reducible apply Effect.ite | split | dsimp only | exact bitParts hm (by decide) | exact bitOff hm (by decide) | rfl

theorem State.tempConv_effect {msk : Nat} {s0 : State} (s : State) (v : Option Int) (hm : 0x7ffffecffffffff &&& msk = 0x7ffffecffffffff) (h_s : Effect msk s0 s) :
    Effect msk s0 (State.tempConv s v) := by
  unfold State.tempConv
  repeat' first | with_reducible intro _ | with_reducible assumption | with_reducible rfl | exact subParts hm (by decide) | with_reducible apply State.sensorFault_effect | with_reducible apply State.newMean_effect | with_reducible apply State.modPow_effect | with_reducible apply State.raise_effect | with_reducible apply State.setTo_effect | with_reducible apply Effect.ite | split | dsimp only | exact bitParts hm (by decide) | exact bitOff hm (by decide) | rfl

theorem State.shutDown_effect {msk : Nat} {s0 : State} (s : State) (hm : 0x7ffffecffffffff &&& msk = 0x7ffffecffffffff) (h_s : Effect msk s0 s) :
    Effect msk s0 (State.shutDown s) := by
  unfold State.shutDown
  repeat' first | with_reducible intro _ | with_reducible assumption | with_reducible rfl | exact subParts hm (by decide) | with_reducible apply State.domainsDown_effect | with_reducible apply State.runTo_effect | with_reducible apply Effect.ite | split | dsimp only | exact bitParts hm (by decide) | exact bitOff hm (by decide) | exact bitPlus hm (by decide) | exact bitKey hm (by decide) | rfl

theorem execShutdownPowerDown_effect {msk : Nat} {s0 : State} (s : State) (hm : 0x7ffffecffffffff &&& msk = 0x7ffffecffffffff) (h_s : Effect msk s0 s) :
    EffectOut msk s0 (execShutdownPowerDown s) := by
  unfold execShutdownPowerDown
  repeat' first | with_reducible intro _ | with_reducible assumption | with_reducible rfl | with_reducible refine EffectOut.gate ?_ ?_ | with_reducible refine EffectOut.rooted ?_ ?_ | with_reducible refine EffectOut.reach ?_ ?_ | with_reducible refine EffectOut.next ?_ | exact subParts hm (by decide) | with_reducible apply State.shutDown_effect | with_reducible apply Effect.ite | split | dsimp only | exact bitParts hm (by decide) | exact bitOff hm (by decide) | exact bitPlus hm (by decide) | exact bitKey hm (by decide) | rfl

theorem State.writeSsc_effect {msk : Nat} {s0 : State} (s : State) (v : Nat) (hm : 0x20000000000008 &&& msk = 0x20000000000008) (h_s : Effect msk s0 s) :
    Effect msk s0 (State.writeSsc s v) := by
  unfold State.writeSsc
  repeat' first | with_reducible intro _ | with_reducible assumption | with_reducible rfl | exact subParts hm (by decide) | with_reducible apply State.modPow_effect | with_reducible apply State.wrAcc_effect | with_reducible apply Effect.ite | split | dsimp only | exact bitParts hm (by decide) | exact bitOff hm (by decide) | exact bitPlus hm (by decide) | exact bitKey hm (by decide) | rfl

theorem execClkSsc_effect {msk : Nat} {s0 : State} (_req : Req) (v : Word) (s : State) (hm : 0x20000000000008 &&& msk = 0x20000000000008) (h_s : Effect msk s0 s) :
    EffectOut msk s0 (execClkSsc _req v s) := by
  unfold execClkSsc
  repeat' first | with_reducible intro _ | with_reducible assumption | with_reducible rfl | with_reducible refine EffectOut.gate ?_ ?_ | with_reducible refine EffectOut.rooted ?_ ?_ | with_reducible refine EffectOut.reach ?_ ?_ | with_reducible refine EffectOut.next ?_ | with_reducible exact EffectOut.fault | exact subParts hm (by decide) | with_reducible apply State.writeSsc_effect | with_reducible apply Effect.ite | split | dsimp only | exact bitParts hm (by decide) | exact bitOff hm (by decide) | exact bitPlus hm (by decide) | exact bitKey hm (by decide) | rfl

theorem State.spreadChange_effect {msk : Nat} {s0 : State} (s : State) (hm : 0x2c0000000c0008 &&& msk = 0x2c0000000c0008) (h_s : Effect msk s0 s) :
    Effect msk s0 (State.spreadChange s) := by
  unfold State.spreadChange
  repeat' first | with_reducible intro _ | with_reducible assumption | with_reducible rfl | exact subParts hm (by decide) | with_reducible apply State.modPow_effect | with_reducible apply State.raise_effect | with_reducible apply State.setTo_effect | with_reducible apply Effect.ite | split | dsimp only | exact bitParts hm (by decide) | exact bitOff hm (by decide) | exact bitPlus hm (by decide) | exact bitKey hm (by decide) | rfl

theorem State.rampEnd_effect {msk : Nat} {s0 : State} (s : State) (hm : 0x27efcc0000c2008 &&& msk = 0x27efcc0000c2008) (h_s : Effect msk s0 s) :
    Effect msk s0 (State.rampEnd s) := by
  unfold State.rampEnd
  repeat' first | with_reducible intro _ | with_reducible assumption | with_reducible rfl | exact subParts hm (by decide) | with_reducible apply State.modPow_effect | with_reducible apply State.runTo_effect | with_reducible apply State.setTo_effect | with_reducible apply Effect.ite | split | dsimp only | exact bitParts hm (by decide) | exact bitOff hm (by decide) | exact bitPlus hm (by decide) | exact bitKey hm (by decide) | rfl

theorem execSpreadRampEnd_effect {msk : Nat} {s0 : State} (s : State) (hm : 0x27efcc0000c2008 &&& msk = 0x27efcc0000c2008) (h_s : Effect msk s0 s) :
    EffectOut msk s0 (execSpreadRampEnd s) := by
  unfold execSpreadRampEnd
  repeat' first | with_reducible intro _ | with_reducible assumption | with_reducible rfl | with_reducible refine EffectOut.gate ?_ ?_ | with_reducible refine EffectOut.rooted ?_ ?_ | with_reducible refine EffectOut.reach ?_ ?_ | with_reducible refine EffectOut.next ?_ | exact subParts hm (by decide) | with_reducible apply State.rampEnd_effect | with_reducible apply Effect.ite | split | dsimp only | exact bitParts hm (by decide) | exact bitOff hm (by decide) | exact bitPlus hm (by decide) | exact bitKey hm (by decide) | rfl

theorem State.rootStop_effect {msk : Nat} {s0 : State} (s : State) (hm : 0x220004000000000 &&& msk = 0x220004000000000) (h_s : Effect msk s0 s) :
    Effect msk s0 (State.rootStop s) := by
  unfold State.rootStop
  repeat' first | with_reducible intro _ | with_reducible assumption | with_reducible rfl | with_reducible exact .inr rfl | exact .inl (bitParts hm (by decide)) | with_reducible refine Effect.upd ?_ ?_ ?_ ?_ ?_ ?_ ?_ ?_ ?_ ?_ ?_ ?_ ?_ ?_ ?_ ?_ ?_ ?_ ?_ ?_ ?_ ?_ ?_ ?_ | exact subParts hm (by decide) | with_reducible apply Effect.ite | split | dsimp only | with_reducible refine Effect.cdr ?_ ?_ | with_reducible refine Effect.pow ?_ ?_ | with_reducible refine Effect.boot ?_ ?_ ?_ | exact bitParts hm (by decide) | exact bitOff hm (by decide) | exact bitPlus hm (by decide) | exact bitKey hm (by decide) | rfl

theorem clockFld_blk (which : Nat) : (clockFld which).off / 0x10000 % 32 = 3 := by unfold clockFld; split <;> decide

theorem State.clockFail_effect {m : Nat} {s0 : State} (s : State) (which : Nat) (stops : Bool) (hm : 0x22c0040000c0008 &&& m = 0x22c0040000c0008)
    (h_s : Effect m s0 s) : Effect m s0 (State.clockFail s which stops) := by
  unfold State.clockFail
  have ha : Effect m s0 ((s.setTo (clockFld which) false).setTo F.CLK_STATUS_LOCK_LOST true) :=
    State.setTo_effect _ _ _ (bitParts hm (by decide))
      (State.setTo_effect _ _ _ (by rw [clockFld_blk]; exact bitParts hm (by decide)) h_s)
  exact Effect.ite (State.rootStop_effect _ (subParts hm (by decide)) ha) (State.svStop_effect _ (subParts hm (by decide))
    (Effect.ite ha (State.raise_effect _ _ _ _ (subParts hm (by decide)) ha)))

theorem execClockFailure_effect {msk : Nat} {s0 : State} (which : Fin 3) (stops : Bool) (s : State) (hm : 0x22c0040000c0008 &&& msk = 0x22c0040000c0008) (h_s : Effect msk s0 s) :
    EffectOut msk s0 (execClockFailure which stops s) := by
  unfold execClockFailure
  repeat' first | with_reducible intro _ | with_reducible assumption | with_reducible rfl | with_reducible refine EffectOut.next ?_ | exact subParts hm (by decide) | with_reducible apply State.clockFail_effect | with_reducible apply Effect.ite | split | dsimp only | rfl

theorem execSupervisorCycleDelay_effect {msk : Nat} {s0 : State} (s : State) (hm : 0x7ffffecffffffff &&& msk = 0x7ffffecffffffff) (h_s : Effect msk s0 s) :
    EffectOut msk s0 (execSupervisorCycleDelay s) := by
  unfold execSupervisorCycleDelay
  repeat' first | with_reducible intro _ | with_reducible assumption | with_reducible rfl | with_reducible refine EffectOut.gate ?_ ?_ | with_reducible refine EffectOut.next ?_ | exact subParts hm (by decide) | with_reducible apply State.modPow_effect | with_reducible apply State.runTo_effect | with_reducible apply State.merCycle_effect | with_reducible apply Effect.ite | split | dsimp only | exact bitParts hm (by decide) | exact bitOff hm (by decide) | exact bitPlus hm (by decide) | exact bitKey hm (by decide) | rfl

theorem State.refComp_effect {msk : Nat} {s0 : State} (s : State) (hm : 0xc0000000c0008 &&& msk = 0xc0000000c0008) (h_s : Effect msk s0 s) :
    Effect msk s0 (State.refComp s) := by
  unfold State.refComp
  repeat' first | with_reducible intro _ | with_reducible assumption | with_reducible rfl | exact subParts hm (by decide) | with_reducible apply State.raise_effect | with_reducible apply State.setTo_effect | with_reducible apply State.put_effect | with_reducible apply Effect.ite | split | dsimp only | exact bitParts hm (by decide) | exact bitOff hm (by decide) | rfl

theorem State.tempLatch_effect {msk : Nat} {s0 : State} (s : State) (hm : 0x10 &&& msk = 0x10) (h_s : Effect msk s0 s) :
    Effect msk s0 (State.tempLatch s) := by
  unfold State.tempLatch
  repeat' first | with_reducible intro _ | with_reducible assumption | with_reducible rfl | exact subParts hm (by decide) | with_reducible apply State.put_effect | with_reducible apply Effect.ite | split | dsimp only | exact bitParts hm (by decide) | exact bitOff hm (by decide) | rfl

end Sys2Proof.Machine
end

