-- ==== Sys2Proof/Laws/EffectGuardCmds.lean ====
section
/-! SUPPORT. What the operations of Machine/GuardCmds.lean do: the parts of the state that each may change. -/

set_option linter.unusedTactic false
set_option linter.unusedVariables false
set_option linter.unreachableTactic false

namespace Sys2Proof.Machine

theorem State.claimFell_effect {msk : Nat} {s0 : State} (s : State) (hm : 0xd0c80000d1e00 &&& msk = 0xd0c80000d1e00) (h_s : Effect msk s0 s) :
    Effect msk s0 (State.claimFell s) := by
  unfold State.claimFell
  repeat' first | with_reducible intro _ | with_reducible assumption | with_reducible rfl | exact subParts hm (by decide) | with_reducible apply State.leaveActive_effect | with_reducible apply State.dropLine_effect | with_reducible apply Effect.ite | split | dsimp only | rfl

theorem State.afterGuard_effect {msk : Nat} {s0 : State} (s old : State) (hm : 0xd0c80000d1e00 &&& msk = 0xd0c80000d1e00) (h_s : Effect msk s0 s) (h_old : Effect msk s0 old) :
    Effect msk s0 (State.afterGuard s old) := by
  unfold State.afterGuard
  repeat' first | with_reducible intro _ | with_reducible assumption | with_reducible rfl | exact subParts hm (by decide) | with_reducible apply State.claimFell_effect | with_reducible apply State.refit_effect | with_reducible apply State.xlWithdraw_effect | with_reducible apply State.dioSettle_effect | with_reducible apply Effect.ite | split | dsimp only | rfl

theorem execGuardPowerUp_effect {msk : Nat} {s0 : State} (slew : Fin 4) (s : State) (hm : 0xd0c80000d1e05 &&& msk = 0xd0c80000d1e05) (h_s : Effect msk s0 s) :
    EffectOut msk s0 (execGuardPowerUp slew s) := by
  unfold execGuardPowerUp
  repeat' first | with_reducible intro _ | with_reducible assumption | with_reducible rfl | with_reducible refine EffectOut.gate ?_ ?_ | with_reducible refine EffectOut.rooted ?_ ?_ | with_reducible refine EffectOut.reach ?_ ?_ | with_reducible refine EffectOut.next ?_ | exact subParts hm (by decide) | with_reducible apply State.afterGuard_effect | with_reducible apply State.setRail_effect | with_reducible apply State.setDom_effect | with_reducible apply State.grdPowerUp_effect | with_reducible apply Effect.ite | split | dsimp only | exact bitParts hm (by decide) | exact bitOff hm (by decide) | exact bitPlus hm (by decide) | exact bitKey hm (by decide) | rfl

theorem execGuardImageLoad_effect {msk : Nat} {s0 : State} (bytes : List Byte) (bistFail : Byte) (s : State) (hm : 0xd0c80000d1e01 &&& msk = 0xd0c80000d1e01) (h_s : Effect msk s0 s) :
    EffectOut msk s0 (execGuardImageLoad bytes bistFail s) := by
  unfold execGuardImageLoad
  repeat' first | with_reducible intro _ | with_reducible assumption | with_reducible rfl | with_reducible refine EffectOut.next ?_ | exact subParts hm (by decide) | with_reducible apply State.afterGuard_effect | with_reducible apply State.grdTake_effect | with_reducible apply Effect.ite | split | dsimp only | rfl

theorem execGuardLoadTimeout_effect {msk : Nat} {s0 : State} (s : State) (hm : 0xd0c80000d1e00 &&& msk = 0xd0c80000d1e00) (h_s : Effect msk s0 s) :
    EffectOut msk s0 (execGuardLoadTimeout s) := by
  unfold execGuardLoadTimeout
  repeat' first | with_reducible intro _ | with_reducible assumption | with_reducible rfl | with_reducible refine EffectOut.next ?_ | exact subParts hm (by decide) | with_reducible apply State.afterGuard_effect | with_reducible apply State.grdGo_effect | with_reducible apply Effect.ite | split | dsimp only | rfl

theorem execHeartbeatArrival_effect {msk : Nat} {s0 : State} (word : Word) (guardTime : Nat) (s : State) (hm : 0xd0c80000d1e00 &&& msk = 0xd0c80000d1e00) (h_s : Effect msk s0 s) :
    EffectOut msk s0 (execHeartbeatArrival word guardTime s) := by
  unfold execHeartbeatArrival
  repeat' first | with_reducible intro _ | with_reducible assumption | with_reducible rfl | with_reducible refine EffectOut.next ?_ | exact subParts hm (by decide) | with_reducible apply State.afterGuard_effect | with_reducible apply State.grdBeat_effect | with_reducible apply Effect.ite | split | dsimp only | rfl

theorem execHbWindowClose_effect {msk : Nat} {s0 : State} (s : State) (hm : 0x0 &&& msk = 0x0) (h_s : Effect msk s0 s) :
    EffectOut msk s0 (execHbWindowClose s) := by
  unfold execHbWindowClose
  repeat' first | with_reducible intro _ | with_reducible assumption | with_reducible rfl | with_reducible refine EffectOut.next ?_ | with_reducible apply Effect.ite | split | dsimp only | rfl

theorem State.guardDecision_effect {msk : Nat} {s0 : State} (s : State) (disagree : Nat) (hm : 0x27ffcc0000d3e00 &&& msk = 0x27ffcc0000d3e00) (h_s : Effect msk s0 s) :
    Effect msk s0 (State.guardDecision s disagree) := by
  unfold State.guardDecision
  repeat' first | with_reducible intro _ | with_reducible assumption | with_reducible rfl | exact subParts hm (by decide) | with_reducible apply State.afterGuard_effect | with_reducible apply State.compareSend_effect | with_reducible apply State.outputLaunch_effect | with_reducible apply State.grdDecide_effect | with_reducible apply State.grdInputs_effect | with_reducible apply State.modGrd_effect | with_reducible apply State.runTo_effect | with_reducible apply Effect.ite | split | dsimp only | exact bitParts hm (by decide) | exact bitOff hm (by decide) | exact bitPlus hm (by decide) | exact bitKey hm (by decide) | rfl

theorem execGuardDecision_effect {msk : Nat} {s0 : State} (disagree : Fin 64) (s : State) (hm : 0x27ffcc0000d3e00 &&& msk = 0x27ffcc0000d3e00) (h_s : Effect msk s0 s) :
    EffectOut msk s0 (execGuardDecision disagree s) := by
  unfold execGuardDecision
  repeat' first | with_reducible intro _ | with_reducible assumption | with_reducible rfl | with_reducible refine EffectOut.gate ?_ ?_ | with_reducible refine EffectOut.next ?_ | exact subParts hm (by decide) | with_reducible apply State.guardDecision_effect | with_reducible apply Effect.ite | split | dsimp only | exact bitParts hm (by decide) | exact bitOff hm (by decide) | exact bitPlus hm (by decide) | exact bitKey hm (by decide) | rfl

theorem execSupervisorHeartbeat_effect {msk : Nat} {s0 : State} (word : Word) (guardTime : Nat) (s : State) (hm : 0xd0c80000d1e00 &&& msk = 0xd0c80000d1e00) (h_s : Effect msk s0 s) :
    EffectOut msk s0 (execSupervisorHeartbeat word guardTime s) := by
  unfold execSupervisorHeartbeat
  repeat' first | with_reducible intro _ | with_reducible assumption | with_reducible rfl | with_reducible refine EffectOut.next ?_ | exact subParts hm (by decide) | with_reducible apply State.afterGuard_effect | with_reducible apply State.grdSvBeat_effect | with_reducible apply Effect.ite | split | dsimp only | rfl

theorem execSvHbTimeout_effect {msk : Nat} {s0 : State} (s : State) (hm : 0xd0c80000d1e00 &&& msk = 0xd0c80000d1e00) (h_s : Effect msk s0 s) :
    EffectOut msk s0 (execSvHbTimeout s) := by
  unfold execSvHbTimeout
  repeat' first | with_reducible intro _ | with_reducible assumption | with_reducible rfl | with_reducible refine EffectOut.next ?_ | exact subParts hm (by decide) | with_reducible apply State.afterGuard_effect | with_reducible apply State.grdCause_effect | with_reducible apply Effect.ite | split | dsimp only | rfl

theorem execEdsIn_effect {msk : Nat} {s0 : State} (s : State) (hm : 0x27ffcc0000d3e00 &&& msk = 0x27ffcc0000d3e00) (h_s : Effect msk s0 s) :
    EffectOut msk s0 (execEdsIn s) := by
  unfold execEdsIn
  repeat' first | with_reducible intro _ | with_reducible assumption | with_reducible rfl | with_reducible refine EffectOut.gate ?_ ?_ | with_reducible refine EffectOut.next ?_ | exact subParts hm (by decide) | with_reducible apply State.afterGuard_effect | with_reducible apply State.grdEds_effect | with_reducible apply State.grdStays_effect | with_reducible apply Effect.ite | split | dsimp only | exact bitParts hm (by decide) | exact bitOff hm (by decide) | exact bitPlus hm (by decide) | exact bitKey hm (by decide) | rfl

theorem execEdsInReleased_effect {msk : Nat} {s0 : State} (s : State) (hm : 0xd0c80000d1e00 &&& msk = 0xd0c80000d1e00) (h_s : Effect msk s0 s) :
    EffectOut msk s0 (execEdsInReleased s) := by
  unfold execEdsInReleased
  repeat' first | with_reducible intro _ | with_reducible assumption | with_reducible rfl | with_reducible refine EffectOut.next ?_ | exact subParts hm (by decide) | with_reducible apply State.afterGuard_effect | with_reducible apply State.grdAbsent_effect | with_reducible apply State.grdInputs_effect | with_reducible apply State.modGrd_effect | with_reducible apply State.setTo_effect | with_reducible apply Effect.ite | split | dsimp only | exact bitParts hm (by decide) | exact bitOff hm (by decide) | rfl

theorem execGuardTrip_effect {msk : Nat} {s0 : State} (s : State) (hm : 0x27ffcc0000d3e00 &&& msk = 0x27ffcc0000d3e00) (h_s : Effect msk s0 s) :
    EffectOut msk s0 (execGuardTrip s) := by
  unfold execGuardTrip
  repeat' first | with_reducible intro _ | with_reducible assumption | with_reducible rfl | with_reducible refine EffectOut.gate ?_ ?_ | with_reducible refine EffectOut.next ?_ | exact subParts hm (by decide) | with_reducible apply State.afterGuard_effect | with_reducible apply State.grdGt_effect | with_reducible apply State.grdStays_effect | with_reducible apply Effect.ite | split | dsimp only | exact bitParts hm (by decide) | exact bitOff hm (by decide) | exact bitPlus hm (by decide) | exact bitKey hm (by decide) | rfl

theorem execGuardTripReleased_effect {msk : Nat} {s0 : State} (s : State) (hm : 0xd0c80000d1e00 &&& msk = 0xd0c80000d1e00) (h_s : Effect msk s0 s) :
    EffectOut msk s0 (execGuardTripReleased s) := by
  unfold execGuardTripReleased
  repeat' first | with_reducible intro _ | with_reducible assumption | with_reducible rfl | with_reducible refine EffectOut.next ?_ | exact subParts hm (by decide) | with_reducible apply State.afterGuard_effect | with_reducible apply State.grdAbsent_effect | with_reducible apply State.grdInputs_effect | with_reducible apply State.modGrd_effect | with_reducible apply State.setTo_effect | with_reducible apply Effect.ite | split | dsimp only | exact bitParts hm (by decide) | exact bitOff hm (by decide) | rfl

theorem execGuardRst_effect {msk : Nat} {s0 : State} (lowTime : Nat) (s : State) (hm : 0xd0c80000d1e00 &&& msk = 0xd0c80000d1e00) (h_s : Effect msk s0 s) :
    EffectOut msk s0 (execGuardRst lowTime s) := by
  unfold execGuardRst
  repeat' first | with_reducible intro _ | with_reducible assumption | with_reducible rfl | with_reducible refine EffectOut.next ?_ | exact subParts hm (by decide) | with_reducible apply State.afterGuard_effect | with_reducible apply State.grdRst_effect | with_reducible apply Effect.ite | split | dsimp only | rfl

theorem execHoldFb_effect {msk : Nat} {s0 : State} (bad0 bad1 : Bool) (s : State) (hm : 0xd0c80000d1e00 &&& msk = 0xd0c80000d1e00) (h_s : Effect msk s0 s) :
    EffectOut msk s0 (execHoldFb bad0 bad1 s) := by
  unfold execHoldFb
  repeat' first | with_reducible intro _ | with_reducible assumption | with_reducible rfl | with_reducible refine EffectOut.next ?_ | exact subParts hm (by decide) | with_reducible apply State.afterGuard_effect | with_reducible apply State.grdReadback_effect | with_reducible apply Effect.ite | split | dsimp only | rfl

theorem execHoldReadbackRestored_effect {msk : Nat} {s0 : State} (s : State) (hm : 0xd0c80000d1e00 &&& msk = 0xd0c80000d1e00) (h_s : Effect msk s0 s) :
    EffectOut msk s0 (execHoldReadbackRestored s) := by
  unfold execHoldReadbackRestored
  repeat' first | with_reducible intro _ | with_reducible assumption | with_reducible rfl | with_reducible refine EffectOut.next ?_ | exact subParts hm (by decide) | with_reducible apply State.afterGuard_effect | with_reducible apply State.grdReadback_effect | with_reducible apply Effect.ite | split | dsimp only | rfl

theorem execClockMonitor_effect {msk : Nat} {s0 : State} (count : Nat) (s : State) (hm : 0xd0c80000d1e00 &&& msk = 0xd0c80000d1e00) (h_s : Effect msk s0 s) :
    EffectOut msk s0 (execClockMonitor count s) := by
  unfold execClockMonitor
  repeat' first | with_reducible intro _ | with_reducible assumption | with_reducible rfl | with_reducible refine EffectOut.next ?_ | exact subParts hm (by decide) | with_reducible apply State.afterGuard_effect | with_reducible apply State.grdCause_effect | with_reducible apply Effect.ite | split | dsimp only | rfl

theorem State.grdSupply_effect {msk : Nat} {s0 : State} (s : State) (mV : Nat) (hm : 0xc0080000c0804 &&& msk = 0xc0080000c0804) (h_s : Effect msk s0 s) :
    Effect msk s0 (State.grdSupply s mV) := by
  unfold State.grdSupply
  repeat' first | with_reducible intro _ | with_reducible assumption | with_reducible rfl | exact subParts hm (by decide) | with_reducible apply State.railSeen_effect | with_reducible apply State.grdDegrade_effect | with_reducible apply State.grdCause_effect | with_reducible apply Effect.ite | split | dsimp only | exact bitParts hm (by decide) | exact bitOff hm (by decide) | exact bitPlus hm (by decide) | exact bitKey hm (by decide) | rfl

theorem execVddGuardBand_effect {msk : Nat} {s0 : State} (mV : Nat) (s : State) (hm : 0xd0c80000d1e04 &&& msk = 0xd0c80000d1e04) (h_s : Effect msk s0 s) :
    EffectOut msk s0 (execVddGuardBand mV s) := by
  unfold execVddGuardBand
  repeat' first | with_reducible intro _ | with_reducible assumption | with_reducible rfl | with_reducible refine EffectOut.next ?_ | exact subParts hm (by decide) | with_reducible apply State.grdSupply_effect | with_reducible apply State.afterGuard_effect | with_reducible apply Effect.ite | split | dsimp only | rfl

theorem execCkbkpMissing_effect {msk : Nat} {s0 : State} (s : State) (hm : 0xd0c80000d1e00 &&& msk = 0xd0c80000d1e00) (h_s : Effect msk s0 s) :
    EffectOut msk s0 (execCkbkpMissing s) := by
  unfold execCkbkpMissing
  repeat' first | with_reducible intro _ | with_reducible assumption | with_reducible rfl | with_reducible refine EffectOut.next ?_ | exact subParts hm (by decide) | with_reducible apply State.afterGuard_effect | with_reducible apply State.grdDegrade_effect | with_reducible apply Effect.ite | split | dsimp only | rfl

theorem execParamMismatch_effect {msk : Nat} {s0 : State} (s : State) (hm : 0xd0c80000d1e00 &&& msk = 0xd0c80000d1e00) (h_s : Effect msk s0 s) :
    EffectOut msk s0 (execParamMismatch s) := by
  unfold execParamMismatch
  repeat' first | with_reducible intro _ | with_reducible assumption | with_reducible rfl | with_reducible refine EffectOut.next ?_ | exact subParts hm (by decide) | with_reducible apply State.afterGuard_effect | with_reducible apply State.grdCause_effect | with_reducible apply Effect.ite | split | dsimp only | rfl

theorem State.degExpire_effect {msk : Nat} {s0 : State} (s : State) (hm : 0x27efcc0000c2800 &&& msk = 0x27efcc0000c2800) (h_s : Effect msk s0 s) :
    Effect msk s0 (State.degExpire s) := by
  unfold State.degExpire
  repeat' first | with_reducible intro _ | with_reducible assumption | with_reducible rfl | exact subParts hm (by decide) | with_reducible apply State.grdCause_effect | with_reducible apply State.runTo_effect | with_reducible apply Effect.ite | split | dsimp only | rfl

theorem execDegLimitExpiry_effect {msk : Nat} {s0 : State} (s : State) (hm : 0x27ffcc0000d3e00 &&& msk = 0x27ffcc0000d3e00) (h_s : Effect msk s0 s) :
    EffectOut msk s0 (execDegLimitExpiry s) := by
  unfold execDegLimitExpiry
  repeat' first | with_reducible intro _ | with_reducible assumption | with_reducible rfl | with_reducible refine EffectOut.next ?_ | exact subParts hm (by decide) | with_reducible apply State.degExpire_effect | with_reducible apply State.afterGuard_effect | with_reducible apply Effect.ite | split | dsimp only | rfl

theorem execVddGuardLost_effect {msk : Nat} {s0 : State} (s : State) (hm : 0x7efffecffffffff &&& msk = 0x7efffecffffffff) (h_s : Effect msk s0 s) :
    EffectOut msk s0 (execVddGuardLost s) := by
  unfold execVddGuardLost
  repeat' first | with_reducible intro _ | with_reducible assumption | with_reducible rfl | with_reducible refine EffectOut.next ?_ | exact subParts hm (by decide) | with_reducible apply State.afterGuard_effect | with_reducible apply State.railLost_effect | with_reducible apply Effect.ite | split | dsimp only | rfl

theorem execRailInvalid_effect {msk : Nat} {s0 : State} (rail : Fin 9) (s : State) (hm : 0x7efffecffffffff &&& msk = 0x7efffecffffffff) (h_s : Effect msk s0 s) :
    EffectOut msk s0 (execRailInvalid rail s) := by
  unfold execRailInvalid
  repeat' first | with_reducible intro _ | with_reducible assumption | with_reducible rfl | with_reducible refine EffectOut.next ?_ | exact subParts hm (by decide) | with_reducible apply State.afterGuard_effect | with_reducible apply State.railLost_effect | with_reducible apply Effect.ite | split | dsimp only | rfl

theorem execTempConversion_effect {msk : Nat} {s0 : State} (value : Option (BitVec 12)) (s : State) (hm : 0x7ffffecffffffff &&& msk = 0x7ffffecffffffff) (h_s : Effect msk s0 s) :
    EffectOut msk s0 (execTempConversion value s) := by
  unfold execTempConversion
  repeat' first | with_reducible intro _ | with_reducible assumption | with_reducible rfl | with_reducible refine EffectOut.gate ?_ ?_ | with_reducible refine EffectOut.rooted ?_ ?_ | with_reducible refine EffectOut.reach ?_ ?_ | with_reducible refine EffectOut.next ?_ | exact subParts hm (by decide) | with_reducible apply State.afterGuard_effect | with_reducible apply State.tempConv_effect | with_reducible apply Effect.ite | split | dsimp only | exact bitParts hm (by decide) | exact bitOff hm (by decide) | exact bitPlus hm (by decide) | exact bitKey hm (by decide) | rfl

end Sys2Proof.Machine
end

