-- ==== Sys2Proof/Laws/EffectSdf.lean ====
section
/-! SUPPORT. What the operations of Machine/Sdf.lean do: the parts of the state that each may change. -/

set_option linter.unusedTactic false
set_option linter.unusedVariables false
set_option linter.unreachableTactic false

namespace Sys2Proof.Machine

theorem State.modChain_effect {msk : Nat} {s0 : State} (s : State) (c : Nat) (f : Chain → Chain) (hm : 0x2000000000000 &&& msk = 0x2000000000000) (h_s : Effect msk s0 s) :
    Effect msk s0 (State.modChain s c f) := by
  unfold State.modChain
  repeat' first | with_reducible intro _ | with_reducible assumption | with_reducible rfl | with_reducible apply Effect.ite | split | dsimp only | with_reducible refine Effect.sdf ?_ ?_ | exact bitParts hm (by decide) | rfl

theorem State.modFir_effect {msk : Nat} {s0 : State} (s : State) (c i : Nat) (f : FirStage → FirStage) (hm : 0x2000000000000 &&& msk = 0x2000000000000) (h_s : Effect msk s0 s) :
    Effect msk s0 (State.modFir s c i f) := by
  unfold State.modFir
  repeat' first | with_reducible intro _ | with_reducible assumption | with_reducible rfl | exact subParts hm (by decide) | with_reducible apply State.modChain_effect | with_reducible apply Effect.ite | split | dsimp only | rfl

theorem State.showChan_effect {msk : Nat} {s0 : State} (c : Nat) (s : State) (hm : 0x20000 &&& msk = 0x20000) (h_s : Effect msk s0 s) :
    Effect msk s0 (State.showChan c s) := by
  unfold State.showChan
  repeat' first | with_reducible intro _ | with_reducible assumption | with_reducible rfl | exact subParts hm (by decide) | with_reducible apply State.setTo_effect | with_reducible apply State.put_effect | with_reducible apply State.wrn_effect | with_reducible apply Effect.ite | split | dsimp only | exact bitParts hm (by decide) | exact bitOff hm (by decide) | rfl

theorem State.showSdf_effect {msk : Nat} {s0 : State} (s : State) (hm : 0x20000 &&& msk = 0x20000) (h_s : Effect msk s0 s) :
    Effect msk s0 (State.showSdf s) := by
  unfold State.showSdf
  repeat' first | with_reducible intro _ | with_reducible assumption | with_reducible rfl | exact subParts hm (by decide) | with_reducible apply State.showChan_effect | with_reducible apply State.setTo_effect | with_reducible apply State.put_effect | with_reducible apply Effect.forEach | with_reducible apply Effect.ite | split | dsimp only | exact bitParts hm (by decide) | exact bitOff hm (by decide) | rfl

theorem State.settle_effect {msk : Nat} {s0 : State} (c : Nat) (s : State) (hm : 0x20000 &&& msk = 0x20000) (h_s : Effect msk s0 s) :
    Effect msk s0 (State.settle c s) := by
  unfold State.settle
  repeat' first | with_reducible intro _ | with_reducible assumption | with_reducible rfl | exact subParts hm (by decide) | with_reducible apply State.put_effect | with_reducible apply Effect.ite | split | dsimp only | exact bitParts hm (by decide) | exact bitOff hm (by decide) | rfl

theorem State.sdfDeliver_effect {msk : Nat} {s0 : State} (s : State) (c t : Nat) (v : Int) (sat : Bool) (o1 o2 : StageOut) (hm : 0xe0000000e0000 &&& msk = 0xe0000000e0000) (h_s : Effect msk s0 s) :
    Effect msk s0 (State.sdfDeliver s c t v sat o1 o2) := by
  unfold State.sdfDeliver
  repeat' first | with_reducible intro _ | with_reducible assumption | with_reducible rfl | exact subParts hm (by decide) | with_reducible apply State.settle_effect | with_reducible apply State.modChain_effect | with_reducible apply State.raiseIf_effect | with_reducible apply State.raise1_effect | with_reducible apply State.setTo_effect | with_reducible apply State.put_effect | with_reducible apply State.wrn_effect | with_reducible apply Effect.foldl | with_reducible apply Effect.ite | split | dsimp only | exact bitParts hm (by decide) | exact bitOff hm (by decide) | exact bitPlus hm (by decide) | exact bitKey hm (by decide) | rfl

theorem State.sdfOutput_effect {msk : Nat} {s0 : State} (u0 : State) (c : Nat) (clks : List (Byte × Byte)) (hm : 0x27efcc0000e2000 &&& msk = 0x27efcc0000e2000) (h_u0 : Effect msk s0 u0) :
    Effect msk s0 (State.sdfOutput u0 c clks) := by
  unfold State.sdfOutput
  repeat' first | with_reducible intro _ | with_reducible assumption | with_reducible rfl | exact subParts hm (by decide) | with_reducible apply State.sdfDeliver_effect | with_reducible apply State.modChain_effect | with_reducible apply State.runTo_effect | with_reducible apply State.applyFreeStep_effect | with_reducible apply Effect.ite | split | dsimp only | exact bitParts hm (by decide) | exact bitOff hm (by decide) | exact bitPlus hm (by decide) | exact bitKey hm (by decide) | rfl

theorem execSdfOutput_effect {msk : Nat} {s0 : State} (c : Fin 32) (clks : List (Byte × Byte)) (s : State) (hm : 0x27efcc0000e2000 &&& msk = 0x27efcc0000e2000) (h_s : Effect msk s0 s) :
    EffectOut msk s0 (execSdfOutput c clks s) := by
  unfold execSdfOutput
  repeat' first | with_reducible intro _ | with_reducible assumption | with_reducible rfl | with_reducible refine EffectOut.gate ?_ ?_ | with_reducible refine EffectOut.rooted ?_ ?_ | with_reducible refine EffectOut.reach ?_ ?_ | with_reducible refine EffectOut.next ?_ | exact subParts hm (by decide) | with_reducible apply State.sdfOutput_effect | with_reducible apply Effect.ite | split | dsimp only | exact bitParts hm (by decide) | exact bitOff hm (by decide) | exact bitPlus hm (by decide) | exact bitKey hm (by decide) | rfl

theorem execSdmClockLost_effect {msk : Nat} {s0 : State} (g : Fin 4) (s : State) (hm : 0xc0000000e0000 &&& msk = 0xc0000000e0000) (h_s : Effect msk s0 s) :
    EffectOut msk s0 (execSdmClockLost g s) := by
  unfold execSdmClockLost
  repeat' first | with_reducible intro _ | with_reducible assumption | with_reducible rfl | with_reducible refine EffectOut.gate ?_ ?_ | with_reducible refine EffectOut.next ?_ | exact subParts hm (by decide) | with_reducible apply State.raise1_effect | with_reducible apply State.setTo_effect | with_reducible apply State.put_effect | with_reducible apply Effect.forEach | with_reducible apply Effect.ite | split | dsimp only | exact bitParts hm (by decide) | exact bitOff hm (by decide) | rfl

theorem execSdmClockRestored_effect {msk : Nat} {s0 : State} (g : Fin 4) (khz : Nat) (s : State) (hm : 0xe0000000e0000 &&& msk = 0xe0000000e0000) (h_s : Effect msk s0 s) :
    EffectOut msk s0 (execSdmClockRestored g khz s) := by
  unfold execSdmClockRestored
  repeat' first | with_reducible intro _ | with_reducible assumption | with_reducible rfl | with_reducible refine EffectOut.gate ?_ ?_ | with_reducible refine EffectOut.rooted ?_ ?_ | with_reducible refine EffectOut.reach ?_ ?_ | with_reducible refine EffectOut.next ?_ | exact subParts hm (by decide) | with_reducible apply State.settle_effect | with_reducible apply State.showChan_effect | with_reducible apply State.modChain_effect | with_reducible apply State.raise1_effect | with_reducible apply State.put_effect | with_reducible apply Effect.forEach | with_reducible apply Effect.ite | split | dsimp only | exact bitParts hm (by decide) | exact bitOff hm (by decide) | exact bitPlus hm (by decide) | exact bitKey hm (by decide) | rfl

theorem State.sdfEnable_effect {msk : Nat} {s0 : State} (c : Nat) (s : State) (hm : 0xe0000000e0000 &&& msk = 0xe0000000e0000) (h_s : Effect msk s0 s) :
    Effect msk s0 (State.sdfEnable c s) := by
  unfold State.sdfEnable
  repeat' first | with_reducible intro _ | with_reducible assumption | with_reducible rfl | exact subParts hm (by decide) | with_reducible apply State.settle_effect | with_reducible apply State.modChain_effect | with_reducible apply State.raise1_effect | with_reducible apply State.setTo_effect | with_reducible apply State.wrn_effect | with_reducible apply Effect.ite | split | dsimp only | exact bitParts hm (by decide) | exact bitOff hm (by decide) | exact bitPlus hm (by decide) | exact bitKey hm (by decide) | rfl

theorem State.sdfRest_effect {msk : Nat} {s0 : State} (c : Nat) (s : State) (hm : 0x2000000020000 &&& msk = 0x2000000020000) (h_s : Effect msk s0 s) :
    Effect msk s0 (State.sdfRest c s) := by
  unfold State.sdfRest
  repeat' first | with_reducible intro _ | with_reducible assumption | with_reducible rfl | exact subParts hm (by decide) | with_reducible apply State.modChain_effect | with_reducible apply State.setTo_effect | with_reducible apply Effect.ite | split | dsimp only | exact bitParts hm (by decide) | exact bitOff hm (by decide) | rfl

theorem State.writeSdfEn_effect {msk : Nat} {s0 : State} (s : State) (v : Nat) (hm : 0xe0000000e0000 &&& msk = 0xe0000000e0000) (h_s : Effect msk s0 s) :
    Effect msk s0 (State.writeSdfEn s v) := by
  unfold State.writeSdfEn
  repeat' first | with_reducible intro _ | with_reducible assumption | with_reducible rfl | exact subParts hm (by decide) | with_reducible apply State.sdfRest_effect | with_reducible apply State.sdfEnable_effect | with_reducible apply State.showSdf_effect | with_reducible apply State.wr_effect | with_reducible apply Effect.forEach | with_reducible apply Effect.ite | split | dsimp only | exact bitParts hm (by decide) | exact bitOff hm (by decide) | rfl

theorem execSdfEn_effect {msk : Nat} {s0 : State} (_req : Req) (v : Word) (s : State) (hm : 0xe0000000e0000 &&& msk = 0xe0000000e0000) (h_s : Effect msk s0 s) :
    EffectOut msk s0 (execSdfEn _req v s) := by
  unfold execSdfEn
  repeat' first | with_reducible intro _ | with_reducible assumption | with_reducible rfl | with_reducible refine EffectOut.gate ?_ ?_ | with_reducible refine EffectOut.next ?_ | exact subParts hm (by decide) | with_reducible apply State.writeSdfEn_effect | with_reducible apply Effect.ite | split | dsimp only | rfl

theorem State.writeFir_effect {msk : Nat} {s0 : State} (s : State) (c i v : Nat) (hm : 0x2000000020000 &&& msk = 0x2000000020000) (h_s : Effect msk s0 s) :
    Effect msk s0 (State.writeFir s c i v) := by
  unfold State.writeFir
  repeat' first | with_reducible intro _ | with_reducible assumption | with_reducible rfl | exact subParts hm (by decide) | with_reducible apply State.sdfRest_effect | with_reducible apply State.settle_effect | with_reducible apply State.showChan_effect | with_reducible apply State.modFir_effect | with_reducible apply State.setTo_effect | with_reducible apply State.wrAcc_effect | with_reducible apply Effect.ite | split | dsimp only | exact bitParts hm (by decide) | exact bitOff hm (by decide) | exact bitPlus hm (by decide) | exact bitKey hm (by decide) | rfl

theorem execFirSel_effect {msk : Nat} {s0 : State} (_req : Req) (c : Fin 32) (second : Bool) (v : Word) (s : State) (hm : 0x2000000020000 &&& msk = 0x2000000020000) (h_s : Effect msk s0 s) :
    EffectOut msk s0 (execFirSel _req c second v s) := by
  unfold execFirSel
  repeat' first | with_reducible intro _ | with_reducible assumption | with_reducible rfl | with_reducible refine EffectOut.gate ?_ ?_ | with_reducible refine EffectOut.next ?_ | exact subParts hm (by decide) | with_reducible apply State.writeFir_effect | with_reducible apply Effect.ite | split | dsimp only | rfl

theorem State.writeCoef_effect {msk : Nat} {s0 : State} (s : State) (set tap v : Nat) (hm : 0xc0000000e0000 &&& msk = 0xc0000000e0000) (h_s : Effect msk s0 s) :
    Effect msk s0 (State.writeCoef s set tap v) := by
  unfold State.writeCoef
  repeat' first | with_reducible intro _ | with_reducible assumption | with_reducible rfl | exact subParts hm (by decide) | with_reducible apply State.showSdf_effect | with_reducible apply State.raise1_effect | with_reducible apply State.setTo_effect | with_reducible apply State.wrn_effect | with_reducible apply Effect.ite | split | dsimp only | exact bitParts hm (by decide) | exact bitOff hm (by decide) | rfl

theorem execCoefficientWrite_effect {msk : Nat} {s0 : State} (_req : Req) (set : Fin 32) (tap : Fin 64) (v : Word) (s : State) (hm : 0xc0000000e0000 &&& msk = 0xc0000000e0000) (h_s : Effect msk s0 s) :
    EffectOut msk s0 (execCoefficientWrite _req set tap v s) := by
  unfold execCoefficientWrite
  repeat' first | with_reducible intro _ | with_reducible assumption | with_reducible rfl | with_reducible refine EffectOut.gate ?_ ?_ | with_reducible refine EffectOut.next ?_ | exact subParts hm (by decide) | with_reducible apply State.writeCoef_effect | with_reducible apply Effect.ite | split | dsimp only | rfl

theorem State.writeSdfCfg_effect {msk : Nat} {s0 : State} (s : State) (c v : Nat) (hm : 0xc0000000e0000 &&& msk = 0xc0000000e0000) (h_s : Effect msk s0 s) :
    Effect msk s0 (State.writeSdfCfg s c v) := by
  unfold State.writeSdfCfg
  repeat' first | with_reducible intro _ | with_reducible assumption | with_reducible rfl | exact subParts hm (by decide) | with_reducible apply State.settle_effect | with_reducible apply State.showSdf_effect | with_reducible apply State.raise1_effect | with_reducible apply State.setTo_effect | with_reducible apply State.wrAcc_effect | with_reducible apply Effect.ite | split | dsimp only | exact bitParts hm (by decide) | exact bitOff hm (by decide) | exact bitPlus hm (by decide) | exact bitKey hm (by decide) | rfl

theorem execSdfCfgWrite_effect {msk : Nat} {s0 : State} (_req : Req) (c : Fin 32) (v : Word) (s : State) (hm : 0xc0000000e0000 &&& msk = 0xc0000000e0000) (h_s : Effect msk s0 s) :
    EffectOut msk s0 (execSdfCfgWrite _req c v s) := by
  unfold execSdfCfgWrite
  repeat' first | with_reducible intro _ | with_reducible assumption | with_reducible rfl | with_reducible refine EffectOut.gate ?_ ?_ | with_reducible refine EffectOut.next ?_ | exact subParts hm (by decide) | with_reducible apply State.writeSdfCfg_effect | with_reducible apply Effect.ite | split | dsimp only | rfl

theorem State.writeSdmClk_effect {msk : Nat} {s0 : State} (s : State) (g v : Nat) (hm : 0x20000 &&& msk = 0x20000) (h_s : Effect msk s0 s) :
    Effect msk s0 (State.writeSdmClk s g v) := by
  unfold State.writeSdmClk
  repeat' first | with_reducible intro _ | with_reducible assumption | with_reducible rfl | exact subParts hm (by decide) | with_reducible apply State.showSdf_effect | with_reducible apply State.wrAcc_effect | with_reducible apply State.put_effect | with_reducible apply Effect.ite | split | dsimp only | exact bitParts hm (by decide) | exact bitOff hm (by decide) | rfl

theorem State.latchChan_effect {msk : Nat} {s0 : State} (c : Nat) (s : State) (hm : 0x10e0000000e0200 &&& msk = 0x10e0000000e0200) (h_s : Effect msk s0 s) :
    Effect msk s0 (State.latchChan c s) := by
  unfold State.latchChan
  repeat' first | with_reducible intro _ | with_reducible assumption | with_reducible rfl | exact subParts hm (by decide) | with_reducible apply State.modChain_effect | with_reducible apply State.wrn_effect | with_reducible apply State.wr_effect | with_reducible apply Effect.ite | split | dsimp only | exact bitParts hm (by decide) | exact bitOff hm (by decide) | exact bitPlus hm (by decide) | exact bitKey hm (by decide) | rfl

theorem State.sdfLatch_effect {msk : Nat} {s0 : State} (s : State) (hm : 0x10e0000000e0200 &&& msk = 0x10e0000000e0200) (h_s : Effect msk s0 s) :
    Effect msk s0 (State.sdfLatch s) := by
  unfold State.sdfLatch
  repeat' first | with_reducible intro _ | with_reducible assumption | with_reducible rfl | exact subParts hm (by decide) | with_reducible apply State.latchChan_effect | with_reducible apply State.showSdf_effect | with_reducible apply Effect.forEach | with_reducible apply Effect.ite | split | dsimp only | rfl

theorem State.sdfFastLatch_effect {msk : Nat} {s0 : State} (s : State) (hm : 0x10e0000000c0200 &&& msk = 0x10e0000000c0200) (h_s : Effect msk s0 s) :
    Effect msk s0 (State.sdfFastLatch s) := by
  unfold State.sdfFastLatch
  repeat' first | with_reducible intro _ | with_reducible assumption | with_reducible rfl | exact subParts hm (by decide) | with_reducible apply State.latch_effect | with_reducible apply Effect.ite | split | dsimp only | with_reducible refine Effect.sdf ?_ ?_ | exact bitParts hm (by decide) | rfl

end Sys2Proof.Machine
end

