-- ==== Sys2Proof/Laws/EffectPlate.lean ====
section
/-! SUPPORT. What the operations of Machine/Plate.lean do: the parts of the state that each may change. -/

set_option linter.unusedTactic false
set_option linter.unusedVariables false
set_option linter.unreachableTactic false

namespace Sys2Proof.Machine

theorem State.eraseArea_effect {msk : Nat} {s0 : State} (s : State) (hm : 0x1000000000 &&& msk = 0x1000000000) (h_s : Effect msk s0 s) :
    Effect msk s0 (State.eraseArea s) := by
  unfold State.eraseArea
  repeat' first | with_reducible intro _ | with_reducible assumption | with_reducible rfl | with_reducible apply Effect.ite | split | dsimp only | with_reducible refine Effect.flash ?_ ?_ ?_ | with_reducible apply swf_writeBytes | with_reducible apply swf_filter | with_reducible apply swf_writeWord | with_reducible apply swf_writeWords | exact bitParts hm (by decide) | rfl

theorem State.plateStop_effect {m : Nat} {s0 : State} (s : State) (reason : Nat) (hm : 0x22c0040000c0020 &&& m = 0x22c0040000c0020) (h_s : Effect m s0 s) :
    Effect m s0 (State.plateStop s reason) := by
  have w : ∀ a, Effect m s0 a → Effect m s0 { a with
      boot := { a.boot with appRuns := false }, pow := { a.pow with svStopped := true }, alm := { a.alm with frozen := true } } :=
    fun a h => by
      have h1 := Effect.alm (x := { a.alm with frozen := true }) (bitParts hm (by decide)) h
      have h2 := Effect.pow (x := { a.pow with svStopped := true }) (bitParts hm (by decide)) h1
      have h3 := Effect.boot (x := { a.boot with appRuns := false }) (bitParts hm (by decide)) h2 rfl
      exact h3
  unfold State.plateStop
  have hb := w _ (State.releaseAll_effect _ (subParts hm (by decide))
    (State.raise1_effect s 245 sevFatal srcAlm reason (subParts hm (by decide)) h_s))
  have hc := fun f => State.modCdr_effect _ f (subParts hm (by decide)) hb
  exact Effect.ite (hc _) (State.put_effect _ _ _ (bitParts hm (by decide)) (hc _))

theorem State.plateEnd_effect {msk : Nat} {s0 : State} (s : State) (hm : 0x7ffffecffffffff &&& msk = 0x7ffffecffffffff) (h_s : Effect msk s0 s) :
    Effect msk s0 (State.plateEnd s) := by
  unfold State.plateEnd
  repeat' first | with_reducible intro _ | with_reducible assumption | with_reducible rfl | exact subParts hm (by decide) | with_reducible apply State.merCycle_effect | with_reducible apply State.modAlm_effect | with_reducible apply Effect.ite | split | dsimp only | rfl

theorem State.plateWrite_effect {m : Nat} {s0 : State} (s : State) (reason : Nat) (hm : 0x400001800000000 &&& m = 0x400001800000000) (h_s : Effect m s0 s) :
    Effect m s0 (State.plateWrite s reason) := by
  have w : ∀ b x, Effect m s0 b → (swf ramByte b.mem.ddr = true → swf ramByte x = true) →
      Effect m s0 { b with mem := { b.mem with ddr := x } } := fun b x h g => Effect.ddr (bitParts hm (by decide)) h g
  have hn : Effect m s0 s.nextFree := State.nextFree_effect _ (subParts hm (by decide)) h_s
  unfold State.plateWrite
  generalize s.nextFree = a at hn ⊢
  extract_lets area a'
  split
  · exact Effect.ite (w _ _ hn fun g => swf_writeBytes g _ _) h_s
  · exact State.flashWrite_effect _ _ _ (subParts hm (by decide)) (State.eraseArea_effect _ (subParts hm (by decide)) hn)
  · exact h_s

theorem State.plateFatal_effect {msk : Nat} {s0 : State} (s : State) (reason : Nat) (hm : 0x7fffffcffffffff &&& msk = 0x7fffffcffffffff) (h_s : Effect msk s0 s) :
    Effect msk s0 (State.plateFatal s reason) := by
  unfold State.plateFatal
  repeat' first | with_reducible intro _ | with_reducible assumption | with_reducible rfl | exact subParts hm (by decide) | with_reducible apply State.plateWrite_effect | with_reducible apply State.plateEnd_effect | with_reducible apply State.plateStop_effect | with_reducible apply State.eraseArea_effect | with_reducible apply State.modAlm_effect | with_reducible apply State.bump_effect | with_reducible apply Effect.ite | split | dsimp only | exact bitParts hm (by decide) | exact bitOff hm (by decide) | exact bitPlus hm (by decide) | exact bitKey hm (by decide) | rfl

theorem execFabricTimeout_effect {msk : Nat} {s0 : State} (s : State) (hm : 0x7fffffcffffffff &&& msk = 0x7fffffcffffffff) (h_s : Effect msk s0 s) :
    EffectOut msk s0 (execFabricTimeout s) := by
  unfold execFabricTimeout
  repeat' first | with_reducible intro _ | with_reducible assumption | with_reducible rfl | with_reducible refine EffectOut.next ?_ | exact subParts hm (by decide) | with_reducible apply State.plateFatal_effect | with_reducible apply Effect.ite | split | dsimp only | rfl

theorem execSramDoubleEcc_effect {msk : Nat} {s0 : State} (s : State) (hm : 0x7fffffcffffffff &&& msk = 0x7fffffcffffffff) (h_s : Effect msk s0 s) :
    EffectOut msk s0 (execSramDoubleEcc s) := by
  unfold execSramDoubleEcc
  repeat' first | with_reducible intro _ | with_reducible assumption | with_reducible rfl | with_reducible refine EffectOut.next ?_ | exact subParts hm (by decide) | with_reducible apply State.plateFatal_effect | with_reducible apply Effect.ite | split | dsimp only | rfl

theorem execDdrUncorrectable_effect {msk : Nat} {s0 : State} (addr : Nat) (s : State) (hm : 0x7fffffcffffffff &&& msk = 0x7fffffcffffffff) (h_s : Effect msk s0 s) :
    EffectOut msk s0 (execDdrUncorrectable addr s) := by
  unfold execDdrUncorrectable
  repeat' first | with_reducible intro _ | with_reducible assumption | with_reducible rfl | with_reducible refine EffectOut.next ?_ | exact subParts hm (by decide) | with_reducible apply State.plateFatal_effect | with_reducible apply Effect.ite | split | dsimp only | rfl

theorem execCoresTrapped_effect {msk : Nat} {s0 : State} (s : State) (hm : 0x7fffffcffffffff &&& msk = 0x7fffffcffffffff) (h_s : Effect msk s0 s) :
    EffectOut msk s0 (execCoresTrapped s) := by
  unfold execCoresTrapped
  repeat' first | with_reducible intro _ | with_reducible assumption | with_reducible rfl | with_reducible refine EffectOut.next ?_ | exact subParts hm (by decide) | with_reducible apply State.plateFatal_effect | with_reducible apply Effect.ite | split | dsimp only | rfl

theorem State.plateTrigger_effect {msk : Nat} {s0 : State} (s : State) (hm : 0x7fffffcffffffff &&& msk = 0x7fffffcffffffff) (h_s : Effect msk s0 s) :
    Effect msk s0 (State.plateTrigger s) := by
  unfold State.plateTrigger
  repeat' first | with_reducible intro _ | with_reducible assumption | with_reducible rfl | exact subParts hm (by decide) | with_reducible apply State.plateFatal_effect | with_reducible apply State.setTo_effect | with_reducible apply Effect.ite | split | dsimp only | exact bitParts hm (by decide) | exact bitOff hm (by decide) | rfl

theorem execTrigger_effect {msk : Nat} {s0 : State} (_req : Req) (s : State) (hm : 0x7fffffcffffffff &&& msk = 0x7fffffcffffffff) (h_s : Effect msk s0 s) :
    EffectOut msk s0 (execTrigger _req s) := by
  unfold execTrigger
  repeat' first | with_reducible intro _ | with_reducible assumption | with_reducible rfl | with_reducible refine EffectOut.gate ?_ ?_ | with_reducible refine EffectOut.next ?_ | exact subParts hm (by decide) | with_reducible apply State.plateTrigger_effect | with_reducible apply Effect.ite | split | dsimp only | rfl

theorem State.plateCopy_effect {msk : Nat} {s0 : State} (s : State) (ok : Bool) (hm : 0x1000000000 &&& msk = 0x1000000000) (h_s : Effect msk s0 s) :
    Effect msk s0 (State.plateCopy s ok) := by
  unfold State.plateCopy
  repeat' first | with_reducible intro _ | with_reducible assumption | with_reducible rfl | exact subParts hm (by decide) | with_reducible apply State.eraseArea_effect | with_reducible apply State.flashWrite_effect | with_reducible apply Effect.ite | split | dsimp only | rfl

theorem execPlateCopyDone_effect {msk : Nat} {s0 : State} (ok : Bool) (s : State) (hm : 0x7fffffcffffffff &&& msk = 0x7fffffcffffffff) (h_s : Effect msk s0 s) :
    EffectOut msk s0 (execPlateCopyDone ok s) := by
  unfold execPlateCopyDone
  repeat' first | with_reducible intro _ | with_reducible assumption | with_reducible rfl | with_reducible refine EffectOut.next ?_ | exact subParts hm (by decide) | with_reducible apply State.plateCopy_effect | with_reducible apply State.plateEnd_effect | with_reducible apply Effect.ite | split | dsimp only | rfl

theorem State.plateRelease_effect {msk : Nat} {s0 : State} (s : State) (hm : 0xc0010000c0000 &&& msk = 0xc0010000c0000) (h_s : Effect msk s0 s) :
    Effect msk s0 (State.plateRelease s) := by
  unfold State.plateRelease
  repeat' first | with_reducible intro _ | with_reducible assumption | with_reducible rfl | exact subParts hm (by decide) | with_reducible apply State.eraseArea_effect | with_reducible apply State.raise_effect | with_reducible apply State.setTo_effect | with_reducible apply Effect.ite | split | dsimp only | exact bitParts hm (by decide) | exact bitOff hm (by decide) | rfl

theorem execReleasePlate_effect {msk : Nat} {s0 : State} (_req : Req) (s : State) (hm : 0xc0010000c0000 &&& msk = 0xc0010000c0000) (h_s : Effect msk s0 s) :
    EffectOut msk s0 (execReleasePlate _req s) := by
  unfold execReleasePlate
  repeat' first | with_reducible intro _ | with_reducible assumption | with_reducible rfl | with_reducible refine EffectOut.gate ?_ ?_ | with_reducible refine EffectOut.next ?_ | exact subParts hm (by decide) | with_reducible apply State.plateRelease_effect | with_reducible apply Effect.ite | split | dsimp only | rfl

theorem State.plateRestore_effect {msk : Nat} {s0 : State} (s : State) (hm : 0xc0008000c0000 &&& msk = 0xc0008000c0000) (h_s : Effect msk s0 s) :
    Effect msk s0 (State.plateRestore s) := by
  unfold State.plateRestore
  repeat' first | with_reducible intro _ | with_reducible assumption | with_reducible rfl | exact subParts hm (by decide) | with_reducible apply State.raise1_effect | with_reducible apply State.setTo_effect | with_reducible apply State.put_effect | with_reducible apply Effect.ite | split | dsimp only | with_reducible refine Effect.ddr ?_ ?_ ?_ | with_reducible apply swf_writeBytes | with_reducible apply swf_filter | with_reducible apply swf_writeWord | with_reducible apply swf_writeWords | exact bitParts hm (by decide) | exact bitOff hm (by decide) | rfl

end Sys2Proof.Machine
end

