-- ==== Sys2Proof/Laws/EffectSections.lean ====
section
/-! SUPPORT. What the operations of Machine/Sections.lean do: the parts of the state that each may change. -/

set_option linter.unusedTactic false
set_option linter.unusedVariables false
set_option linter.unreachableTactic false

namespace Sys2Proof.Machine

theorem State.ocGo_effect {msk : Nat} {s0 : State} (s : State) (st : Nat) (hm : 0xc0000000c0020 &&& msk = 0xc0000000c0020) (h_s : Effect msk s0 s) :
    Effect msk s0 (State.ocGo s st) := by
  unfold State.ocGo
  repeat' first | with_reducible intro _ | with_reducible assumption | with_reducible rfl | exact subParts hm (by decide) | with_reducible apply State.raise1_effect | with_reducible apply State.put_effect | with_reducible apply Effect.ite | split | dsimp only | exact bitParts hm (by decide) | exact bitOff hm (by decide) | rfl

theorem State.ocIdle_effect {msk : Nat} {s0 : State} (s : State) (result : Nat) (hm : 0xc0040000c0020 &&& msk = 0xc0040000c0020) (h_s : Effect msk s0 s) :
    Effect msk s0 (State.ocIdle s result) := by
  unfold State.ocIdle
  repeat' first | with_reducible intro _ | with_reducible assumption | with_reducible rfl | exact subParts hm (by decide) | with_reducible apply State.ocGo_effect | with_reducible apply State.setSpare_effect | with_reducible apply State.modCdr_effect | with_reducible apply State.endDesc_effect | with_reducible apply State.put_effect | with_reducible apply Effect.ite | split | dsimp only | exact bitParts hm (by decide) | exact bitOff hm (by decide) | rfl

theorem State.ocCancel_effect {msk : Nat} {s0 : State} (s : State) (hm : 0xc0040000c0020 &&& msk = 0xc0040000c0020) (h_s : Effect msk s0 s) :
    Effect msk s0 (State.ocCancel s) := by
  unfold State.ocCancel
  repeat' first | with_reducible intro _ | with_reducible assumption | with_reducible rfl | exact subParts hm (by decide) | with_reducible apply State.ocIdle_effect | with_reducible apply State.modCdr_effect | with_reducible apply Effect.ite | split | dsimp only | rfl

theorem State.rollBack_effect {msk : Nat} {s0 : State} (s : State) (r : Rollback) (hm : 0x4000000000 &&& msk = 0x4000000000) (h_s : Effect msk s0 s) :
    Effect msk s0 (State.rollBack s r) := by
  unfold State.rollBack
  repeat' first | with_reducible intro _ | with_reducible assumption | with_reducible rfl | exact subParts hm (by decide) | with_reducible apply State.modCdr_effect | with_reducible apply Effect.ite | split | dsimp only | rfl

theorem State.autoBack_effect {msk : Nat} {s0 : State} (s : State) (r : Rollback) (hm : 0x4000000000 &&& msk = 0x4000000000) (h_s : Effect msk s0 s) :
    Effect msk s0 (State.autoBack s r) := by
  unfold State.autoBack
  repeat' first | with_reducible intro _ | with_reducible assumption | with_reducible rfl | exact subParts hm (by decide) | with_reducible apply State.rollBack_effect | with_reducible apply Effect.ite | split | dsimp only | rfl

theorem State.ocRestart_effect {msk : Nat} {s0 : State} (s : State) (hm : 0xc0040000c0020 &&& msk = 0xc0040000c0020) (h_s : Effect msk s0 s) :
    Effect msk s0 (State.ocRestart s) := by
  unfold State.ocRestart
  repeat' first | with_reducible intro _ | with_reducible assumption | with_reducible rfl | exact subParts hm (by decide) | with_reducible apply State.rollBack_effect | with_reducible apply State.ocCancel_effect | with_reducible apply Effect.ite | split | dsimp only | rfl

theorem State.exchangeHalves_effect {msk : Nat} {s0 : State} (s : State) (hm : 0x20 &&& msk = 0x20) (h_s : Effect msk s0 s) :
    Effect msk s0 (State.exchangeHalves s) := by
  unfold State.exchangeHalves
  repeat' first | with_reducible intro _ | with_reducible assumption | with_reducible rfl | exact subParts hm (by decide) | with_reducible apply State.setTo_effect | with_reducible apply State.wrn_effect | with_reducible apply Effect.ite | split | dsimp only | exact bitParts hm (by decide) | exact bitOff hm (by decide) | rfl

theorem State.switchNow_effect {msk : Nat} {s0 : State} (s : State) (stores : List (Nat × Byte) × List (Nat × Byte)) (hm : 0xc0040000c0020 &&& msk = 0xc0040000c0020) (h_s : Effect msk s0 s) :
    Effect msk s0 (State.switchNow s stores) := by
  unfold State.switchNow
  repeat' first | with_reducible intro _ | with_reducible assumption | with_reducible rfl | exact subParts hm (by decide) | with_reducible apply State.exchangeHalves_effect | with_reducible apply State.ocGo_effect | with_reducible apply State.setSpare_effect | with_reducible apply State.modCdr_effect | with_reducible apply Effect.ite | split | dsimp only | rfl

theorem State.rollNow_effect {msk : Nat} {s0 : State} (s : State) (r : Rollback) (hm : 0xc0040000c0020 &&& msk = 0xc0040000c0020) (h_s : Effect msk s0 s) :
    Effect msk s0 (State.rollNow s r) := by
  unfold State.rollNow
  repeat' first | with_reducible intro _ | with_reducible assumption | with_reducible rfl | exact subParts hm (by decide) | with_reducible apply State.exchangeHalves_effect | with_reducible apply State.ocIdle_effect | with_reducible apply State.setSpare_effect | with_reducible apply State.modCdr_effect | with_reducible apply State.setTo_effect | with_reducible apply Effect.ite | split | dsimp only | exact bitParts hm (by decide) | exact bitOff hm (by decide) | rfl

theorem State.runWindow_effect {msk : Nat} {s0 : State} (s : State) (hm : 0xc0040000c0020 &&& msk = 0xc0040000c0020) (h_s : Effect msk s0 s) :
    Effect msk s0 (State.runWindow s) := by
  unfold State.runWindow
  repeat' first | with_reducible intro _ | with_reducible assumption | with_reducible rfl | exact subParts hm (by decide) | with_reducible apply State.rollNow_effect | with_reducible apply State.switchNow_effect | with_reducible apply State.post_effect | with_reducible apply Effect.ite | split | dsimp only | exact bitParts hm (by decide) | exact bitOff hm (by decide) | exact bitPlus hm (by decide) | exact bitKey hm (by decide) | rfl

theorem State.openWindow_effect {msk : Nat} {s0 : State} (s : State) (hm : 0xc0040000c0020 &&& msk = 0xc0040000c0020) (h_s : Effect msk s0 s) :
    Effect msk s0 (State.openWindow s) := by
  unfold State.openWindow
  repeat' first | with_reducible intro _ | with_reducible assumption | with_reducible rfl | exact subParts hm (by decide) | with_reducible apply State.runWindow_effect | with_reducible apply State.modCdr_effect | with_reducible apply Effect.ite | split | dsimp only | rfl

theorem State.windowAt_effect {msk : Nat} {s0 : State} (s : State) (m : Option (List (Nat × Byte) × List (Nat × Byte))) (hm : 0xc0040000c0020 &&& msk = 0xc0040000c0020) (h_s : Effect msk s0 s) :
    Effect msk s0 (State.windowAt s m) := by
  unfold State.windowAt
  repeat' first | with_reducible intro _ | with_reducible assumption | with_reducible rfl | exact subParts hm (by decide) | with_reducible apply State.openWindow_effect | with_reducible apply State.modCdr_effect | with_reducible apply Effect.ite | split | dsimp only | rfl

theorem State.closeWindow_effect {msk : Nat} {s0 : State} (s : State) (hm : 0xc0040000c0020 &&& msk = 0xc0040000c0020) (h_s : Effect msk s0 s) :
    Effect msk s0 (State.closeWindow s) := by
  unfold State.closeWindow
  repeat' first | with_reducible intro _ | with_reducible assumption | with_reducible rfl | exact subParts hm (by decide) | with_reducible apply State.ocRestart_effect | with_reducible apply State.ocIdle_effect | with_reducible apply State.modCdr_effect | with_reducible apply Effect.ite | split | dsimp only | rfl

theorem execSwitchWindowClose_effect {msk : Nat} {s0 : State} (s : State) (hm : 0x27efcc0000c2020 &&& msk = 0x27efcc0000c2020) (h_s : Effect msk s0 s) :
    EffectOut msk s0 (execSwitchWindowClose s) := by
  unfold execSwitchWindowClose
  repeat' first | with_reducible intro _ | with_reducible assumption | with_reducible rfl | with_reducible refine EffectOut.gate ?_ ?_ | with_reducible refine EffectOut.rooted ?_ ?_ | with_reducible refine EffectOut.reach ?_ ?_ | with_reducible refine EffectOut.next ?_ | exact subParts hm (by decide) | with_reducible apply State.closeWindow_effect | with_reducible apply State.runTo_effect | with_reducible apply Effect.ite | split | dsimp only | exact bitParts hm (by decide) | exact bitOff hm (by decide) | exact bitPlus hm (by decide) | exact bitKey hm (by decide) | rfl

theorem State.stopCores_effect {msk : Nat} {s0 : State} (s : State) (hm : 0x4000000020 &&& msk = 0x4000000020) (h_s : Effect msk s0 s) :
    Effect msk s0 (State.stopCores s) := by
  unfold State.stopCores
  repeat' first | with_reducible intro _ | with_reducible assumption | with_reducible rfl | exact subParts hm (by decide) | with_reducible apply State.modCdr_effect | with_reducible apply State.put_effect | with_reducible apply Effect.ite | split | dsimp only | exact bitParts hm (by decide) | exact bitOff hm (by decide) | exact bitPlus hm (by decide) | exact bitKey hm (by decide) | rfl

theorem State.afterFault_effect {msk : Nat} {s0 : State} (s : State) (initFaults cause : Nat) (hm : 0x7fffffcffffffff &&& msk = 0x7fffffcffffffff) (h_s : Effect msk s0 s) :
    Effect msk s0 (State.afterFault s initFaults cause) := by
  unfold State.afterFault
  repeat' first | with_reducible intro _ | with_reducible assumption | with_reducible rfl | exact subParts hm (by decide) | with_reducible apply State.ocRestart_effect | with_reducible apply State.rollBack_effect | with_reducible apply State.plateFatal_effect | with_reducible apply State.modCdr_effect | with_reducible apply State.raise_effect | with_reducible apply State.put_effect | with_reducible apply Effect.ite | split | dsimp only | exact bitParts hm (by decide) | exact bitOff hm (by decide) | rfl

theorem State.cycleFault_effect {msk : Nat} {s0 : State} (s : State) (cause : Nat) (hm : 0x7fffffcffffffff &&& msk = 0x7fffffcffffffff) (h_s : Effect msk s0 s) :
    Effect msk s0 (State.cycleFault s cause) := by
  unfold State.cycleFault
  repeat' first | with_reducible intro _ | with_reducible assumption | with_reducible rfl | exact subParts hm (by decide) | with_reducible apply State.afterFault_effect | with_reducible apply State.stopCores_effect | with_reducible apply State.modCdr_effect | with_reducible apply State.raise2_effect | with_reducible apply State.setTo_effect | with_reducible apply Effect.ite | split | dsimp only | exact bitParts hm (by decide) | exact bitOff hm (by decide) | rfl

theorem State.watchdog_effect {msk : Nat} {s0 : State} (s : State) (sec : Fin 4) (hm : 0x7fffffcffffffff &&& msk = 0x7fffffcffffffff) (h_s : Effect msk s0 s) :
    Effect msk s0 (State.watchdog s sec) := by
  unfold State.watchdog
  repeat' first | with_reducible intro _ | with_reducible assumption | with_reducible rfl | exact subParts hm (by decide) | with_reducible apply State.cycleFault_effect | with_reducible apply State.runTo_effect | with_reducible apply State.post_effect | with_reducible apply Effect.ite | split | dsimp only | rfl

theorem execSectionWatchdog_effect {msk : Nat} {s0 : State} (sec : Fin 4) (s : State) (hm : 0x7fffffcffffffff &&& msk = 0x7fffffcffffffff) (h_s : Effect msk s0 s) :
    EffectOut msk s0 (execSectionWatchdog sec s) := by
  unfold execSectionWatchdog
  repeat' first | with_reducible intro _ | with_reducible assumption | with_reducible rfl | with_reducible refine EffectOut.gate ?_ ?_ | with_reducible refine EffectOut.rooted ?_ ?_ | with_reducible refine EffectOut.reach ?_ ?_ | with_reducible refine EffectOut.next ?_ | exact subParts hm (by decide) | with_reducible apply State.watchdog_effect | with_reducible apply Effect.ite | split | dsimp only | exact bitParts hm (by decide) | exact bitOff hm (by decide) | exact bitPlus hm (by decide) | exact bitKey hm (by decide) | rfl

theorem execCoreFault_effect {msk : Nat} {s0 : State} (kind : Fin 3) (s : State) (hm : 0x7fffffcffffffff &&& msk = 0x7fffffcffffffff) (h_s : Effect msk s0 s) :
    EffectOut msk s0 (execCoreFault kind s) := by
  unfold execCoreFault
  repeat' first | with_reducible intro _ | with_reducible assumption | with_reducible rfl | with_reducible refine EffectOut.gate ?_ ?_ | with_reducible refine EffectOut.next ?_ | exact subParts hm (by decide) | with_reducible apply State.cycleFault_effect | with_reducible apply Effect.ite | split | dsimp only | exact bitParts hm (by decide) | exact bitOff hm (by decide) | exact bitPlus hm (by decide) | exact bitKey hm (by decide) | rfl

theorem execEccCorrected_effect {msk : Nat} {s0 : State} (s : State) (hm : 0xc0000000c0020 &&& msk = 0xc0000000c0020) (h_s : Effect msk s0 s) :
    EffectOut msk s0 (execEccCorrected s) := by
  unfold execEccCorrected
  repeat' first | with_reducible intro _ | with_reducible assumption | with_reducible rfl | with_reducible refine EffectOut.gate ?_ ?_ | with_reducible refine EffectOut.next ?_ | exact subParts hm (by decide) | with_reducible apply State.raise_effect | with_reducible apply State.setTo_effect | with_reducible apply Effect.ite | split | dsimp only | exact bitParts hm (by decide) | exact bitOff hm (by decide) | exact bitPlus hm (by decide) | exact bitKey hm (by decide) | rfl

theorem execOvrLimit_effect {msk : Nat} {s0 : State} (s : State) (hm : 0x7fffffcffffffff &&& msk = 0x7fffffcffffffff) (h_s : Effect msk s0 s) :
    EffectOut msk s0 (execOvrLimit s) := by
  unfold execOvrLimit
  repeat' first | with_reducible intro _ | with_reducible assumption | with_reducible rfl | with_reducible refine EffectOut.gate ?_ ?_ | with_reducible refine EffectOut.rooted ?_ ?_ | with_reducible refine EffectOut.reach ?_ ?_ | with_reducible refine EffectOut.next ?_ | exact subParts hm (by decide) | with_reducible apply State.cycleFault_effect | with_reducible apply Effect.ite | split | dsimp only | exact bitParts hm (by decide) | exact bitOff hm (by decide) | exact bitPlus hm (by decide) | exact bitKey hm (by decide) | rfl

theorem execFastOvrLimit_effect {msk : Nat} {s0 : State} (s : State) (hm : 0x7fffffcffffffff &&& msk = 0x7fffffcffffffff) (h_s : Effect msk s0 s) :
    EffectOut msk s0 (execFastOvrLimit s) := by
  unfold execFastOvrLimit
  repeat' first | with_reducible intro _ | with_reducible assumption | with_reducible rfl | with_reducible refine EffectOut.gate ?_ ?_ | with_reducible refine EffectOut.rooted ?_ ?_ | with_reducible refine EffectOut.reach ?_ ?_ | with_reducible refine EffectOut.next ?_ | exact subParts hm (by decide) | with_reducible apply State.cycleFault_effect | with_reducible apply Effect.ite | split | dsimp only | exact bitParts hm (by decide) | exact bitOff hm (by decide) | exact bitPlus hm (by decide) | exact bitKey hm (by decide) | rfl

theorem State.overrun_effect {msk : Nat} {s0 : State} (s : State) (hm : 0xc0040000c0020 &&& msk = 0xc0040000c0020) (h_s : Effect msk s0 s) :
    Effect msk s0 (State.overrun s) := by
  unfold State.overrun
  repeat' first | with_reducible intro _ | with_reducible assumption | with_reducible rfl | exact subParts hm (by decide) | with_reducible apply State.autoBack_effect | with_reducible apply State.modCdr_effect | with_reducible apply State.raise1_effect | with_reducible apply State.bump_effect | with_reducible apply Effect.ite | split | dsimp only | exact bitParts hm (by decide) | exact bitOff hm (by decide) | rfl

theorem State.preLate_effect {msk : Nat} {s0 : State} (s : State) (hm : 0xc0000000c0020 &&& msk = 0xc0000000c0020) (h_s : Effect msk s0 s) :
    Effect msk s0 (State.preLate s) := by
  unfold State.preLate
  repeat' first | with_reducible intro _ | with_reducible assumption | with_reducible rfl | exact subParts hm (by decide) | with_reducible apply State.raise1_effect | with_reducible apply State.setTo_effect | with_reducible apply Effect.ite | split | dsimp only | exact bitParts hm (by decide) | exact bitOff hm (by decide) | rfl

theorem State.restartBegin_effect {msk : Nat} {s0 : State} (s : State) (r : Restart) (hm : 0xc0040000c0020 &&& msk = 0xc0040000c0020) (h_s : Effect msk s0 s) :
    Effect msk s0 (State.restartBegin s r) := by
  unfold State.restartBegin
  repeat' first | with_reducible intro _ | with_reducible assumption | with_reducible rfl | exact subParts hm (by decide) | with_reducible apply State.stopCores_effect | with_reducible apply State.setHalf_effect | with_reducible apply State.modCdr_effect | with_reducible apply State.raise1_effect | with_reducible apply State.bump_effect | with_reducible apply State.setTo_effect | with_reducible apply State.put_effect | with_reducible apply Effect.ite | split | dsimp only | exact bitParts hm (by decide) | exact bitOff hm (by decide) | exact bitPlus hm (by decide) | exact bitKey hm (by decide) | rfl

theorem State.coreStore_effect {msk : Nat} {s0 : State} (s : State) (core : Nat) (p : Nat × Byte) (hm : 0x4000000000 &&& msk = 0x4000000000) (h_s : Effect msk s0 s) :
    Effect msk s0 (State.coreStore s core p) := by
  unfold State.coreStore
  repeat' first | with_reducible intro _ | with_reducible assumption | with_reducible rfl | exact subParts hm (by decide) | with_reducible apply State.setHalf_effect | with_reducible apply State.modCdr_effect | with_reducible apply Effect.ite | split | dsimp only | exact bitParts hm (by decide) | exact bitOff hm (by decide) | exact bitPlus hm (by decide) | exact bitKey hm (by decide) | rfl

theorem State.coreStores_effect {msk : Nat} {s0 : State} (s : State) (core : Nat) (ps : List (Nat × Byte)) (hm : 0x4000000000 &&& msk = 0x4000000000) (h_s : Effect msk s0 s) :
    Effect msk s0 (State.coreStores s core ps) := by
  unfold State.coreStores
  repeat' first | with_reducible intro _ | with_reducible assumption | with_reducible rfl | exact subParts hm (by decide) | with_reducible apply State.coreStore_effect | with_reducible apply Effect.forEach | with_reducible apply Effect.ite | split | dsimp only | rfl

theorem State.initEnd_effect {msk : Nat} {s0 : State} (s : State) (hm : 0x6000004020 &&& msk = 0x6000004020) (h_s : Effect msk s0 s) :
    Effect msk s0 (State.initEnd s) := by
  unfold State.initEnd
  repeat' first | with_reducible intro _ | with_reducible assumption | with_reducible rfl | exact subParts hm (by decide) | with_reducible apply State.dropCopies_effect | with_reducible apply State.modCdr_effect | with_reducible apply State.put_effect | with_reducible apply Effect.ite | split | dsimp only | exact bitParts hm (by decide) | exact bitOff hm (by decide) | rfl

theorem State.initDone_effect {msk : Nat} {s0 : State} (s : State) (core : Nat) (stores : List (Nat × Byte)) (hm : 0x6000004020 &&& msk = 0x6000004020) (h_s : Effect msk s0 s) :
    Effect msk s0 (State.initDone s core stores) := by
  unfold State.initDone
  repeat' first | with_reducible intro _ | with_reducible assumption | with_reducible rfl | exact subParts hm (by decide) | with_reducible apply State.initEnd_effect | with_reducible apply State.coreStores_effect | with_reducible apply State.modCdr_effect | with_reducible apply Effect.ite | split | dsimp only | rfl

theorem execInitEntryDone_effect {msk : Nat} {s0 : State} (core : Fin 2) (stores : List (Nat × Byte)) (s : State) (hm : 0x6000004020 &&& msk = 0x6000004020) (h_s : Effect msk s0 s) :
    EffectOut msk s0 (execInitEntryDone core stores s) := by
  unfold execInitEntryDone
  repeat' first | with_reducible intro _ | with_reducible assumption | with_reducible rfl | with_reducible refine EffectOut.gate ?_ ?_ | with_reducible refine EffectOut.next ?_ | exact subParts hm (by decide) | with_reducible apply State.initDone_effect | with_reducible apply Effect.ite | split | dsimp only | exact bitParts hm (by decide) | exact bitOff hm (by decide) | exact bitPlus hm (by decide) | exact bitKey hm (by decide) | rfl

theorem State.initLate_effect {msk : Nat} {s0 : State} (s : State) (hm : 0x7fffffcffffffff &&& msk = 0x7fffffcffffffff) (h_s : Effect msk s0 s) :
    Effect msk s0 (State.initLate s) := by
  unfold State.initLate
  repeat' first | with_reducible intro _ | with_reducible assumption | with_reducible rfl | exact subParts hm (by decide) | with_reducible apply State.cycleFault_effect | with_reducible apply State.runTo_effect | with_reducible apply Effect.ite | split | dsimp only | exact bitParts hm (by decide) | exact bitOff hm (by decide) | exact bitPlus hm (by decide) | exact bitKey hm (by decide) | rfl

theorem execInitBudgetExpiry_effect {msk : Nat} {s0 : State} (s : State) (hm : 0x7fffffcffffffff &&& msk = 0x7fffffcffffffff) (h_s : Effect msk s0 s) :
    EffectOut msk s0 (execInitBudgetExpiry s) := by
  unfold execInitBudgetExpiry
  repeat' first | with_reducible intro _ | with_reducible assumption | with_reducible rfl | with_reducible refine EffectOut.gate ?_ ?_ | with_reducible refine EffectOut.rooted ?_ ?_ | with_reducible refine EffectOut.reach ?_ ?_ | with_reducible refine EffectOut.next ?_ | exact subParts hm (by decide) | with_reducible apply State.initLate_effect | with_reducible apply Effect.ite | split | dsimp only | exact bitParts hm (by decide) | exact bitOff hm (by decide) | exact bitPlus hm (by decide) | exact bitKey hm (by decide) | rfl

theorem State.restartReq_effect {msk : Nat} {s0 : State} (s : State) (cold : Bool) (hm : 0xc0040000c0020 &&& msk = 0xc0040000c0020) (h_s : Effect msk s0 s) :
    Effect msk s0 (State.restartReq s cold) := by
  unfold State.restartReq
  repeat' first | with_reducible intro _ | with_reducible assumption | with_reducible rfl | exact subParts hm (by decide) | with_reducible apply State.ocRestart_effect | with_reducible apply State.modCdr_effect | with_reducible apply State.setTo_effect | with_reducible apply Effect.ite | split | dsimp only | exact bitParts hm (by decide) | exact bitOff hm (by decide) | rfl

theorem execRestart_effect {msk : Nat} {s0 : State} (_req : Req) (cold : Bool) (s : State) (hm : 0xc0040000c0020 &&& msk = 0xc0040000c0020) (h_s : Effect msk s0 s) :
    EffectOut msk s0 (execRestart _req cold s) := by
  unfold execRestart
  repeat' first | with_reducible intro _ | with_reducible assumption | with_reducible rfl | with_reducible refine EffectOut.gate ?_ ?_ | with_reducible refine EffectOut.rooted ?_ ?_ | with_reducible refine EffectOut.reach ?_ ?_ | with_reducible refine EffectOut.next ?_ | exact subParts hm (by decide) | with_reducible apply State.restartReq_effect | with_reducible apply Effect.ite | split | dsimp only | exact bitParts hm (by decide) | exact bitOff hm (by decide) | exact bitPlus hm (by decide) | exact bitKey hm (by decide) | rfl

theorem execProgramStop_effect {msk : Nat} {s0 : State} (_req : Req) (b : Bool) (s : State) (hm : 0x20 &&& msk = 0x20) (h_s : Effect msk s0 s) :
    EffectOut msk s0 (execProgramStop _req b s) := by
  unfold execProgramStop
  repeat' first | with_reducible intro _ | with_reducible assumption | with_reducible rfl | with_reducible refine EffectOut.gate ?_ ?_ | with_reducible refine EffectOut.rooted ?_ ?_ | with_reducible refine EffectOut.reach ?_ ?_ | with_reducible refine EffectOut.next ?_ | exact subParts hm (by decide) | with_reducible apply State.setTo_effect | with_reducible apply Effect.ite | split | dsimp only | exact bitParts hm (by decide) | exact bitOff hm (by decide) | exact bitPlus hm (by decide) | exact bitKey hm (by decide) | rfl

theorem State.payloadStore_effect {msk : Nat} {s0 : State} (s : State) (ps : List (Nat × Byte)) (hm : 0x80000000000 &&& msk = 0x80000000000) (h_s : Effect msk s0 s) :
    Effect msk s0 (State.payloadStore s ps) := by
  unfold State.payloadStore
  repeat' first | with_reducible intro _ | with_reducible assumption | with_reducible rfl | with_reducible apply Effect.foldl | with_reducible apply Effect.ite | split | dsimp only | with_reducible refine Effect.xl ?_ ?_ | exact bitParts hm (by decide) | rfl

theorem State.sectionEnd_effect {msk : Nat} {s0 : State} (s : State) (sec : Fin 4) (stores : List (Nat × Byte)) (hm : 0xc0840000c0020 &&& msk = 0xc0840000c0020) (h_s : Effect msk s0 s) :
    Effect msk s0 (State.sectionEnd s sec stores) := by
  unfold State.sectionEnd
  repeat' first | with_reducible intro _ | with_reducible assumption | with_reducible rfl | exact subParts hm (by decide) | with_reducible apply State.payloadStore_effect | with_reducible apply State.coreStores_effect | with_reducible apply State.openWindow_effect | with_reducible apply State.modCdr_effect | with_reducible apply State.post_effect | with_reducible apply Effect.ite | split | dsimp only | rfl

theorem execSectionEnd_effect {msk : Nat} {s0 : State} (sec : Fin 4) (stores : List (Nat × Byte)) (s : State) (hm : 0xc0840000c0020 &&& msk = 0xc0840000c0020) (h_s : Effect msk s0 s) :
    EffectOut msk s0 (execSectionEnd sec stores s) := by
  unfold execSectionEnd
  repeat' first | with_reducible intro _ | with_reducible assumption | with_reducible rfl | with_reducible refine EffectOut.gate ?_ ?_ | with_reducible refine EffectOut.next ?_ | exact subParts hm (by decide) | with_reducible apply State.sectionEnd_effect | with_reducible apply Effect.ite | split | dsimp only | exact bitParts hm (by decide) | exact bitOff hm (by decide) | exact bitPlus hm (by decide) | exact bitKey hm (by decide) | rfl

theorem State.stageWrite_effect {msk : Nat} {s0 : State} (s : State) (core index : Nat) (v : Word) (other : Option Word) (hm : 0xc0040000c0020 &&& msk = 0xc0040000c0020) (h_s : Effect msk s0 s) :
    Effect msk s0 (State.stageWrite s core index v other) := by
  unfold State.stageWrite
  repeat' first | with_reducible intro _ | with_reducible assumption | with_reducible rfl | exact subParts hm (by decide) | with_reducible apply State.modCdr_effect | with_reducible apply State.raise2_effect | with_reducible apply State.post_effect | with_reducible apply State.setTo_effect | with_reducible apply Effect.ite | split | dsimp only | exact bitParts hm (by decide) | exact bitOff hm (by decide) | rfl

theorem execStagingWrite_effect {msk : Nat} {s0 : State} (core : Fin 2) (index : Fin 2048) (value : Word) (other : Option Word) (s : State) (hm : 0xc0040000c0020 &&& msk = 0xc0040000c0020) (h_s : Effect msk s0 s) :
    EffectOut msk s0 (execStagingWrite core index value other s) := by
  unfold execStagingWrite
  repeat' first | with_reducible intro _ | with_reducible assumption | with_reducible rfl | with_reducible refine EffectOut.gate ?_ ?_ | with_reducible refine EffectOut.next ?_ | exact subParts hm (by decide) | with_reducible apply State.stageWrite_effect | with_reducible apply Effect.ite | split | dsimp only | exact bitParts hm (by decide) | exact bitOff hm (by decide) | exact bitPlus hm (by decide) | exact bitKey hm (by decide) | rfl

theorem execCheckpointWrite_effect {msk : Nat} {s0 : State} (value : Word) (s : State) (hm : 0x4000000000 &&& msk = 0x4000000000) (h_s : Effect msk s0 s) :
    EffectOut msk s0 (execCheckpointWrite value s) := by
  unfold execCheckpointWrite
  repeat' first | with_reducible intro _ | with_reducible assumption | with_reducible rfl | with_reducible refine EffectOut.gate ?_ ?_ | with_reducible refine EffectOut.next ?_ | exact subParts hm (by decide) | with_reducible apply State.modCdr_effect | with_reducible apply Effect.ite | split | dsimp only | exact bitParts hm (by decide) | exact bitOff hm (by decide) | exact bitPlus hm (by decide) | exact bitKey hm (by decide) | rfl

theorem State.readCyc_effect {msk : Nat} {s0 : State} (s : State) (hm : 0x200000020 &&& msk = 0x200000020) (h_s : Effect msk s0 s) :
    Effect msk s0 (State.readCyc s) := by
  unfold State.readCyc
  repeat' first | with_reducible intro _ | with_reducible assumption | with_reducible rfl | exact subParts hm (by decide) | with_reducible apply State.wrn_effect | with_reducible apply Effect.ite | split | dsimp only | with_reducible refine Effect.readData ?_ ?_ | exact bitParts hm (by decide) | exact bitOff hm (by decide) | rfl

theorem execCdrCycLoRead_effect {msk : Nat} {s0 : State} (_req : Req) (s : State) (hm : 0x200000020 &&& msk = 0x200000020) (h_s : Effect msk s0 s) :
    EffectOut msk s0 (execCdrCycLoRead _req s) := by
  unfold execCdrCycLoRead
  repeat' first | with_reducible intro _ | with_reducible assumption | with_reducible rfl | with_reducible refine EffectOut.gate ?_ ?_ | with_reducible refine EffectOut.rooted ?_ ?_ | with_reducible refine EffectOut.reach ?_ ?_ | with_reducible refine EffectOut.next ?_ | exact subParts hm (by decide) | with_reducible apply State.readCyc_effect | with_reducible apply State.gateRead_effect | with_reducible apply Effect.ite | split | dsimp only | exact bitParts hm (by decide) | exact bitOff hm (by decide) | exact bitPlus hm (by decide) | exact bitKey hm (by decide) | rfl

theorem State.readPt_effect {msk : Nat} {s0 : State} (s : State) (hm : 0x200000020 &&& msk = 0x200000020) (h_s : Effect msk s0 s) :
    Effect msk s0 (State.readPt s) := by
  unfold State.readPt
  repeat' first | with_reducible intro _ | with_reducible assumption | with_reducible rfl | exact subParts hm (by decide) | with_reducible apply State.wrn_effect | with_reducible apply Effect.ite | split | dsimp only | with_reducible refine Effect.readData ?_ ?_ | exact bitParts hm (by decide) | exact bitOff hm (by decide) | rfl

theorem execCdrPtLoRead_effect {msk : Nat} {s0 : State} (_req : Req) (s : State) (hm : 0x200000020 &&& msk = 0x200000020) (h_s : Effect msk s0 s) :
    EffectOut msk s0 (execCdrPtLoRead _req s) := by
  unfold execCdrPtLoRead
  repeat' first | with_reducible intro _ | with_reducible assumption | with_reducible rfl | with_reducible refine EffectOut.gate ?_ ?_ | with_reducible refine EffectOut.rooted ?_ ?_ | with_reducible refine EffectOut.reach ?_ ?_ | with_reducible refine EffectOut.next ?_ | exact subParts hm (by decide) | with_reducible apply State.readPt_effect | with_reducible apply State.gateRead_effect | with_reducible apply Effect.ite | split | dsimp only | exact bitParts hm (by decide) | exact bitOff hm (by decide) | exact bitPlus hm (by decide) | exact bitKey hm (by decide) | rfl

theorem State.readPtAdj_effect {msk : Nat} {s0 : State} (s : State) (hm : 0x200000020 &&& msk = 0x200000020) (h_s : Effect msk s0 s) :
    Effect msk s0 (State.readPtAdj s) := by
  unfold State.readPtAdj
  repeat' first | with_reducible intro _ | with_reducible assumption | with_reducible rfl | exact subParts hm (by decide) | with_reducible apply State.wrn_effect | with_reducible apply Effect.ite | split | dsimp only | with_reducible refine Effect.readData ?_ ?_ | exact bitParts hm (by decide) | exact bitOff hm (by decide) | rfl

theorem execCdrPtAdjLoRead_effect {msk : Nat} {s0 : State} (_req : Req) (s : State) (hm : 0x200000020 &&& msk = 0x200000020) (h_s : Effect msk s0 s) :
    EffectOut msk s0 (execCdrPtAdjLoRead _req s) := by
  unfold execCdrPtAdjLoRead
  repeat' first | with_reducible intro _ | with_reducible assumption | with_reducible rfl | with_reducible refine EffectOut.gate ?_ ?_ | with_reducible refine EffectOut.rooted ?_ ?_ | with_reducible refine EffectOut.reach ?_ ?_ | with_reducible refine EffectOut.next ?_ | exact subParts hm (by decide) | with_reducible apply State.readPtAdj_effect | with_reducible apply State.gateRead_effect | with_reducible apply Effect.ite | split | dsimp only | exact bitParts hm (by decide) | exact bitOff hm (by decide) | exact bitPlus hm (by decide) | exact bitKey hm (by decide) | rfl

theorem State.ocLoad_effect {msk : Nat} {s0 : State} (s : State) (hm : 0xc0040000c0020 &&& msk = 0xc0040000c0020) (h_s : Effect msk s0 s) :
    Effect msk s0 (State.ocLoad s) := by
  unfold State.ocLoad
  repeat' first | with_reducible intro _ | with_reducible assumption | with_reducible rfl | exact subParts hm (by decide) | with_reducible apply State.ocGo_effect | with_reducible apply State.modCdr_effect | with_reducible apply State.wrn_effect | with_reducible apply Effect.ite | split | dsimp only | exact bitParts hm (by decide) | exact bitOff hm (by decide) | rfl

theorem execOnlineChangeLoad_effect {msk : Nat} {s0 : State} (_req : Req) (s : State) (hm : 0xc0040000c0020 &&& msk = 0xc0040000c0020) (h_s : Effect msk s0 s) :
    EffectOut msk s0 (execOnlineChangeLoad _req s) := by
  unfold execOnlineChangeLoad
  repeat' first | with_reducible intro _ | with_reducible assumption | with_reducible rfl | with_reducible refine EffectOut.gate ?_ ?_ | with_reducible refine EffectOut.rooted ?_ ?_ | with_reducible refine EffectOut.reach ?_ ?_ | with_reducible refine EffectOut.next ?_ | exact subParts hm (by decide) | with_reducible apply State.ocLoad_effect | with_reducible apply Effect.ite | split | dsimp only | exact bitParts hm (by decide) | exact bitOff hm (by decide) | exact bitPlus hm (by decide) | exact bitKey hm (by decide) | rfl

theorem State.ocSwitch_effect {msk : Nat} {s0 : State} (s : State) (hm : 0xc0000000c0020 &&& msk = 0xc0000000c0020) (h_s : Effect msk s0 s) :
    Effect msk s0 (State.ocSwitch s) := by
  unfold State.ocSwitch
  repeat' first | with_reducible intro _ | with_reducible assumption | with_reducible rfl | exact subParts hm (by decide) | with_reducible apply State.ocGo_effect | with_reducible apply State.put_effect | with_reducible apply Effect.ite | split | dsimp only | exact bitParts hm (by decide) | exact bitOff hm (by decide) | rfl

theorem execOnlineChangeSwitch_effect {msk : Nat} {s0 : State} (_req : Req) (s : State) (hm : 0xc0000000c0020 &&& msk = 0xc0000000c0020) (h_s : Effect msk s0 s) :
    EffectOut msk s0 (execOnlineChangeSwitch _req s) := by
  unfold execOnlineChangeSwitch
  repeat' first | with_reducible intro _ | with_reducible assumption | with_reducible rfl | with_reducible refine EffectOut.gate ?_ ?_ | with_reducible refine EffectOut.rooted ?_ ?_ | with_reducible refine EffectOut.reach ?_ ?_ | with_reducible refine EffectOut.next ?_ | exact subParts hm (by decide) | with_reducible apply State.ocSwitch_effect | with_reducible apply Effect.ite | split | dsimp only | exact bitParts hm (by decide) | exact bitOff hm (by decide) | exact bitPlus hm (by decide) | exact bitKey hm (by decide) | rfl

theorem State.ocChecked_effect {msk : Nat} {s0 : State} (s : State) (hm : 0xc0040000c0020 &&& msk = 0xc0040000c0020) (h_s : Effect msk s0 s) :
    Effect msk s0 (State.ocChecked s) := by
  unfold State.ocChecked
  repeat' first | with_reducible intro _ | with_reducible assumption | with_reducible rfl | exact subParts hm (by decide) | with_reducible apply State.ocSwitch_effect | with_reducible apply State.ocIdle_effect | with_reducible apply State.ocGo_effect | with_reducible apply State.setSpare_effect | with_reducible apply State.wr64_effect | with_reducible apply State.put_effect | with_reducible apply Effect.ite | split | dsimp only | exact bitParts hm (by decide) | exact bitOff hm (by decide) | rfl

theorem execLoadChecksDone_effect {msk : Nat} {s0 : State} (s : State) (hm : 0xc0040000c0020 &&& msk = 0xc0040000c0020) (h_s : Effect msk s0 s) :
    EffectOut msk s0 (execLoadChecksDone s) := by
  unfold execLoadChecksDone
  repeat' first | with_reducible intro _ | with_reducible assumption | with_reducible rfl | with_reducible refine EffectOut.gate ?_ ?_ | with_reducible refine EffectOut.rooted ?_ ?_ | with_reducible refine EffectOut.reach ?_ ?_ | with_reducible refine EffectOut.next ?_ | exact subParts hm (by decide) | with_reducible apply State.ocChecked_effect | with_reducible apply Effect.ite | split | dsimp only | exact bitParts hm (by decide) | exact bitOff hm (by decide) | exact bitPlus hm (by decide) | exact bitKey hm (by decide) | rfl

theorem State.ocCommit_effect {msk : Nat} {s0 : State} (s : State) (hm : 0xc0040000c0020 &&& msk = 0xc0040000c0020) (h_s : Effect msk s0 s) :
    Effect msk s0 (State.ocCommit s) := by
  unfold State.ocCommit
  repeat' first | with_reducible intro _ | with_reducible assumption | with_reducible rfl | exact subParts hm (by decide) | with_reducible apply State.ocIdle_effect | with_reducible apply Effect.ite | split | dsimp only | rfl

theorem execOnlineChangeCommit_effect {msk : Nat} {s0 : State} (_req : Req) (s : State) (hm : 0xc0040000c0020 &&& msk = 0xc0040000c0020) (h_s : Effect msk s0 s) :
    EffectOut msk s0 (execOnlineChangeCommit _req s) := by
  unfold execOnlineChangeCommit
  repeat' first | with_reducible intro _ | with_reducible assumption | with_reducible rfl | with_reducible refine EffectOut.gate ?_ ?_ | with_reducible refine EffectOut.rooted ?_ ?_ | with_reducible refine EffectOut.reach ?_ ?_ | with_reducible refine EffectOut.next ?_ | exact subParts hm (by decide) | with_reducible apply State.ocCommit_effect | with_reducible apply Effect.ite | split | dsimp only | exact bitParts hm (by decide) | exact bitOff hm (by decide) | exact bitPlus hm (by decide) | exact bitKey hm (by decide) | rfl

theorem execOnlineChangeRollback_effect {msk : Nat} {s0 : State} (_req : Req) (s : State) (hm : 0x4000000000 &&& msk = 0x4000000000) (h_s : Effect msk s0 s) :
    EffectOut msk s0 (execOnlineChangeRollback _req s) := by
  unfold execOnlineChangeRollback
  repeat' first | with_reducible intro _ | with_reducible assumption | with_reducible rfl | with_reducible refine EffectOut.gate ?_ ?_ | with_reducible refine EffectOut.rooted ?_ ?_ | with_reducible refine EffectOut.reach ?_ ?_ | with_reducible refine EffectOut.next ?_ | exact subParts hm (by decide) | with_reducible apply State.rollBack_effect | with_reducible apply Effect.ite | split | dsimp only | exact bitParts hm (by decide) | exact bitOff hm (by decide) | exact bitPlus hm (by decide) | exact bitKey hm (by decide) | rfl

theorem execOnlineChangeCancel_effect {msk : Nat} {s0 : State} (_req : Req) (s : State) (hm : 0xc0040000c0020 &&& msk = 0xc0040000c0020) (h_s : Effect msk s0 s) :
    EffectOut msk s0 (execOnlineChangeCancel _req s) := by
  unfold execOnlineChangeCancel
  repeat' first | with_reducible intro _ | with_reducible assumption | with_reducible rfl | with_reducible refine EffectOut.gate ?_ ?_ | with_reducible refine EffectOut.rooted ?_ ?_ | with_reducible refine EffectOut.reach ?_ ?_ | with_reducible refine EffectOut.next ?_ | exact subParts hm (by decide) | with_reducible apply State.ocCancel_effect | with_reducible apply Effect.ite | split | dsimp only | exact bitParts hm (by decide) | exact bitOff hm (by decide) | exact bitPlus hm (by decide) | exact bitKey hm (by decide) | rfl

theorem execTrialLenExpiry_effect {msk : Nat} {s0 : State} (s : State) (hm : 0xc0040000c0020 &&& msk = 0xc0040000c0020) (h_s : Effect msk s0 s) :
    EffectOut msk s0 (execTrialLenExpiry s) := by
  unfold execTrialLenExpiry
  repeat' first | with_reducible intro _ | with_reducible assumption | with_reducible rfl | with_reducible refine EffectOut.gate ?_ ?_ | with_reducible refine EffectOut.rooted ?_ ?_ | with_reducible refine EffectOut.reach ?_ ?_ | with_reducible refine EffectOut.next ?_ | exact subParts hm (by decide) | with_reducible apply State.ocCommit_effect | with_reducible apply Effect.ite | split | dsimp only | exact bitParts hm (by decide) | exact bitOff hm (by decide) | exact bitPlus hm (by decide) | exact bitKey hm (by decide) | rfl

end Sys2Proof.Machine
end

