-- ==== Sys2Proof/Laws/EffectHostDispatch.lean ====
section
/-! SUPPORT. What the operations of Machine/HostDispatch.lean do: the parts of the state that each may change. -/

set_option linter.unusedTactic false
set_option linter.unusedVariables false
set_option linter.unreachableTactic false

namespace Sys2Proof.Machine

theorem State.hostPost_effect {msk : Nat} {s0 : State} (s : State) (k uid : Nat) (j : JobDesc) (hm : 0x4c0004000c0080 &&& msk = 0x4c0004000c0080) (h_s : Effect msk s0 s) :
    Effect msk s0 (State.hostPost s k uid j) := by
  unfold State.hostPost
  repeat' first | with_reducible intro _ | with_reducible assumption | with_reducible rfl | exact subParts hm (by decide) | with_reducible apply State.modRing_effect | with_reducible apply State.postJob_effect | with_reducible apply State.postPair_effect | with_reducible apply Effect.ite | split | dsimp only | exact bitParts hm (by decide) | exact bitOff hm (by decide) | exact bitPlus hm (by decide) | exact bitKey hm (by decide) | rfl

theorem State.hostUnchain_effect {msk : Nat} {s0 : State} (s : State) (k : Nat) (hm : 0x1cc0104000c01c0 &&& msk = 0x1cc0104000c01c0) (h_s : Effect msk s0 s) :
    Effect msk s0 (State.hostUnchain s k) := by
  unfold State.hostUnchain
  repeat' first | with_reducible intro _ | with_reducible assumption | with_reducible rfl | exact subParts hm (by decide) | with_reducible apply State.drainDone_effect | with_reducible apply State.modRing_effect | with_reducible apply State.postJob_effect | with_reducible apply Effect.ite | split | dsimp only | exact bitParts hm (by decide) | exact bitOff hm (by decide) | exact bitPlus hm (by decide) | exact bitKey hm (by decide) | rfl

theorem State.chainSettle_effect {msk : Nat} {s0 : State} (s : State) (k : Nat) (hm : 0x1cc0104000c01c0 &&& msk = 0x1cc0104000c01c0) (h_s : Effect msk s0 s) :
    Effect msk s0 (State.chainSettle s k) := by
  unfold State.chainSettle
  repeat' first | with_reducible intro _ | with_reducible assumption | with_reducible rfl | exact subParts hm (by decide) | with_reducible apply State.hostUnchain_effect | with_reducible apply Effect.ite | split | dsimp only | exact bitParts hm (by decide) | exact bitOff hm (by decide) | exact bitPlus hm (by decide) | exact bitKey hm (by decide) | rfl

theorem execDescriptorFetch_effect {msk : Nat} {s0 : State} (k : Fin 16) (entry : HostData) (s : State) (hm : 0x1cc0104000c01c0 &&& msk = 0x1cc0104000c01c0) (h_s : Effect msk s0 s) :
    EffectOut msk s0 (execDescriptorFetch k entry s) := by
  unfold execDescriptorFetch
  repeat' first | with_reducible intro _ | with_reducible assumption | with_reducible rfl | with_reducible refine EffectOut.gate ?_ ?_ | with_reducible refine EffectOut.rooted ?_ ?_ | with_reducible refine EffectOut.reach ?_ ?_ | with_reducible refine EffectOut.next ?_ | exact subParts hm (by decide) | with_reducible apply State.chainSettle_effect | with_reducible apply State.fetchEntry_effect | with_reducible apply Effect.ite | split | dsimp only | exact bitParts hm (by decide) | exact bitOff hm (by decide) | exact bitPlus hm (by decide) | exact bitKey hm (by decide) | rfl

theorem execCompletionTimeout_effect {msk : Nat} {s0 : State} (k : Fin 16) (s : State) (hm : 0x3fefdc4000c21c0 &&& msk = 0x3fefdc4000c21c0) (h_s : Effect msk s0 s) :
    EffectOut msk s0 (execCompletionTimeout k s) := by
  unfold execCompletionTimeout
  repeat' first | with_reducible intro _ | with_reducible assumption | with_reducible rfl | with_reducible refine EffectOut.gate ?_ ?_ | with_reducible refine EffectOut.rooted ?_ ?_ | with_reducible refine EffectOut.reach ?_ ?_ | with_reducible refine EffectOut.next ?_ | exact subParts hm (by decide) | with_reducible apply State.chainSettle_effect | with_reducible apply State.hostTimeout_effect | with_reducible apply Effect.ite | split | dsimp only | exact bitParts hm (by decide) | exact bitOff hm (by decide) | exact bitPlus hm (by decide) | exact bitKey hm (by decide) | rfl

theorem execNop_effect {msk : Nat} {s0 : State} (k : Fin 16) (s : State) (hm : 0x1cc0104000c01c0 &&& msk = 0x1cc0104000c01c0) (h_s : Effect msk s0 s) :
    EffectOut msk s0 (execNop k s) := by
  unfold execNop
  repeat' first | with_reducible intro _ | with_reducible assumption | with_reducible rfl | with_reducible refine EffectOut.gate ?_ ?_ | with_reducible refine EffectOut.next ?_ | exact subParts hm (by decide) | with_reducible apply State.hostUnchain_effect | with_reducible apply State.hostNop_effect | with_reducible apply Effect.ite | split | dsimp only | exact bitParts hm (by decide) | exact bitOff hm (by decide) | exact bitPlus hm (by decide) | exact bitKey hm (by decide) | rfl

theorem execCopyOut_effect {msk : Nat} {s0 : State} (k : Fin 16) (s : State) (hm : 0x1cc0104000c01c0 &&& msk = 0x1cc0104000c01c0) (h_s : Effect msk s0 s) :
    EffectOut msk s0 (execCopyOut k s) := by
  unfold execCopyOut
  repeat' first | with_reducible intro _ | with_reducible assumption | with_reducible rfl | with_reducible refine EffectOut.gate ?_ ?_ | with_reducible refine EffectOut.next ?_ | exact subParts hm (by decide) | with_reducible apply State.hostUnchain_effect | with_reducible apply State.copyOut_effect | with_reducible apply Effect.ite | split | dsimp only | exact bitParts hm (by decide) | exact bitOff hm (by decide) | exact bitPlus hm (by decide) | exact bitKey hm (by decide) | rfl

theorem State.hostPayload_effect {msk : Nat} {s0 : State} (s : State) (load : Bool) (bs : List Byte) (hm : 0xc00000000 &&& msk = 0xc00000000)
    (h_s : Effect msk s0 s) : Effect msk s0 (State.hostPayload s load bs) := by
  unfold State.hostPayload
  dsimp only
  split
  · exact Effect.ddr (bitParts hm (by decide)) h_s fun g => swf_writeBytes g _ _
  · exact Effect.sram (bitParts hm (by decide)) h_s fun g => swf_writeBytes g _ _

theorem State.oryJob_effect {msk : Nat} {s0 : State} (s : State) (k : Nat) (d : HostDesc) (b : List Byte) (hm : 0x5cc010c000c01c0 &&& msk = 0x5cc010c000c01c0) (h_s : Effect msk s0 s) :
    Effect msk s0 (State.oryJob s k d b) := by
  unfold State.oryJob
  repeat' first | with_reducible intro _ | with_reducible assumption | with_reducible rfl | exact subParts hm (by decide) | with_reducible apply State.hostPayload_effect | with_reducible apply State.chainSettle_effect | with_reducible apply State.hostUnchain_effect | with_reducible apply State.hostPost_effect | with_reducible apply State.drainDone_effect | with_reducible apply State.runDesc_effect | with_reducible apply State.endDesc_effect | with_reducible apply State.nextFree_effect | with_reducible apply Effect.ite | split | dsimp only | exact bitParts hm (by decide) | exact bitOff hm (by decide) | exact bitPlus hm (by decide) | exact bitKey hm (by decide) | rfl

theorem State.copyIn_effect {msk : Nat} {s0 : State} (s : State) (k : Nat) (d : HostDesc) (b : List Byte) (hm : 0xc0008000c0000 &&& msk = 0xc0008000c0000) (h_s : Effect msk s0 s) :
    Effect msk s0 (State.copyIn s k d b) := by
  unfold State.copyIn
  repeat' first | with_reducible intro _ | with_reducible assumption | with_reducible rfl | exact subParts hm (by decide) | with_reducible apply State.endDesc_effect | with_reducible apply Effect.ite | split | dsimp only | with_reducible refine Effect.ddr ?_ ?_ ?_ | with_reducible apply swf_writeBytes | with_reducible apply swf_filter | with_reducible apply swf_writeWord | with_reducible apply swf_writeWords | exact bitParts hm (by decide) | exact bitOff hm (by decide) | exact bitPlus hm (by decide) | exact bitKey hm (by decide) | rfl

theorem State.flashOps_effect {msk : Nat} {s0 : State} (s : State) (k : Nat) (d : HostDesc) (b : List Byte) (hm : 0xc0000000c0000 &&& msk = 0xc0000000c0000) (h_s : Effect msk s0 s) :
    Effect msk s0 (State.flashOps s k d b) := by
  unfold State.flashOps
  repeat' first | with_reducible intro _ | with_reducible assumption | with_reducible rfl | exact subParts hm (by decide) | with_reducible apply State.runDesc_effect | with_reducible apply State.endDesc_effect | with_reducible apply State.flashPush_effect | with_reducible apply Effect.forEach | with_reducible apply Effect.ite | split | dsimp only | exact bitParts hm (by decide) | exact bitOff hm (by decide) | exact bitPlus hm (by decide) | exact bitKey hm (by decide) | rfl

theorem State.hostSector_effect {msk : Nat} {s0 : State} (s : State) (ok : Bool) (k uid addr : Nat) (bs : List Byte) (last : Bool) (hm : 0xc0010000c0000 &&& msk = 0xc0010000c0000) (h_s : Effect msk s0 s) :
    Effect msk s0 (State.hostSector s ok k uid addr bs last) := by
  unfold State.hostSector
  repeat' first | with_reducible intro _ | with_reducible assumption | with_reducible rfl | exact subParts hm (by decide) | with_reducible apply State.endDesc_effect | with_reducible apply State.flashErase_effect | with_reducible apply State.flashWrite_effect | with_reducible apply State.modAlm_effect | with_reducible apply State.raise_effect | with_reducible apply State.setTo_effect | with_reducible apply Effect.ite | split | dsimp only | exact bitParts hm (by decide) | exact bitOff hm (by decide) | exact bitPlus hm (by decide) | exact bitKey hm (by decide) | rfl

theorem State.sectorDone_effect {msk : Nat} {s0 : State} (s : State) (ok : Bool) (hm : 0xc0010000c0000 &&& msk = 0xc0010000c0000) (h_s : Effect msk s0 s) :
    Effect msk s0 (State.sectorDone s ok) := by
  unfold State.sectorDone
  repeat' first | with_reducible intro _ | with_reducible assumption | with_reducible rfl | exact subParts hm (by decide) | with_reducible apply State.hostSector_effect | with_reducible apply State.logDone_effect | with_reducible apply State.flashKick_effect | with_reducible apply State.modAlm_effect | with_reducible apply Effect.ite | split | dsimp only | exact bitParts hm (by decide) | exact bitOff hm (by decide) | exact bitPlus hm (by decide) | exact bitKey hm (by decide) | rfl

theorem execFlashSectorDone_effect {msk : Nat} {s0 : State} (ok : Bool) (s : State) (hm : 0xc0010000c0000 &&& msk = 0xc0010000c0000) (h_s : Effect msk s0 s) :
    EffectOut msk s0 (execFlashSectorDone ok s) := by
  unfold execFlashSectorDone
  repeat' first | with_reducible intro _ | with_reducible assumption | with_reducible rfl | with_reducible refine EffectOut.gate ?_ ?_ | with_reducible refine EffectOut.next ?_ | exact subParts hm (by decide) | with_reducible apply State.sectorDone_effect | with_reducible apply Effect.ite | split | dsimp only | rfl

theorem State.ocJob_effect {m : Nat} {s0 : State} (s : State) (k : Nat) (d : HostDesc) (b : List Byte) (hm : 0xc0048000c0020 &&& m = 0xc0048000c0020)
    (h_s : Effect m s0 s) : Effect m s0 (State.ocJob s k d b) := by
  have w : ∀ b x, Effect m s0 b → (swf ramByte b.mem.ddr = true → swf ramByte x = true) →
      Effect m s0 { b with mem := { b.mem with ddr := x } } := fun b x h g => Effect.ddr (bitParts hm (by decide)) h g
  unfold State.ocJob
  split
  · exact State.endDesc_effect _ _ _ _ _ _ (subParts hm (by decide)) h_s
  · exact State.ocLoad_effect _ (subParts hm (by decide)) (State.modCdr_effect _ _ (subParts hm (by decide))
      (State.put_effect _ _ _ (bitParts hm (by decide)) (State.put_effect _ _ _ (bitParts hm (by decide))
        (State.put_effect _ _ _ (bitParts hm (by decide)) (State.wr64_effect _ _ _ _ (bitParts hm (by decide))
          (bitParts hm (by decide)) (w _ _ (State.runDesc_effect _ _ _ (subParts hm (by decide)) h_s)
            fun g => swf_writeBytes g _ _))))))

theorem State.stnJob_effect {msk : Nat} {s0 : State} (s : State) (k : Nat) (d : HostDesc) (hm : 0xc0800000c1000 &&& msk = 0xc0800000c1000) (h_s : Effect msk s0 s) :
    Effect msk s0 (State.stnJob s k d) := by
  unfold State.stnJob
  repeat' first | with_reducible intro _ | with_reducible assumption | with_reducible rfl | exact subParts hm (by decide) | with_reducible apply State.stnCmdBegin_effect | with_reducible apply State.runDesc_effect | with_reducible apply State.endDesc_effect | with_reducible apply Effect.ite | split | dsimp only | exact bitParts hm (by decide) | exact bitOff hm (by decide) | exact bitPlus hm (by decide) | exact bitKey hm (by decide) | rfl

theorem execStnCmd_effect {msk : Nat} {s0 : State} (k : Fin 16) (s : State) (hm : 0x1cc0904000c11c0 &&& msk = 0x1cc0904000c11c0) (h_s : Effect msk s0 s) :
    EffectOut msk s0 (execStnCmd k s) := by
  unfold execStnCmd
  repeat' first | with_reducible intro _ | with_reducible assumption | with_reducible rfl | with_reducible refine EffectOut.gate ?_ ?_ | with_reducible refine EffectOut.next ?_ | exact subParts hm (by decide) | with_reducible apply State.stnJob_effect | with_reducible apply State.hostUnchain_effect | with_reducible apply Effect.ite | split | dsimp only | exact bitParts hm (by decide) | exact bitOff hm (by decide) | exact bitPlus hm (by decide) | exact bitKey hm (by decide) | rfl

theorem State.runData_effect {msk : Nat} {s0 : State} (s : State) (k : Nat) (d : HostDesc) (b : List Byte) (hm : 0x5cc014c000c01e0 &&& msk = 0x5cc014c000c01e0) (h_s : Effect msk s0 s) :
    Effect msk s0 (State.runData s k d b) := by
  unfold State.runData
  repeat' first | with_reducible intro _ | with_reducible assumption | with_reducible rfl | exact subParts hm (by decide) | with_reducible apply State.ocJob_effect | with_reducible apply State.flashOps_effect | with_reducible apply State.copyIn_effect | with_reducible apply State.oryJob_effect | with_reducible apply State.hostUnchain_effect | with_reducible apply Effect.ite | split | dsimp only | exact bitParts hm (by decide) | exact bitOff hm (by decide) | exact bitPlus hm (by decide) | exact bitKey hm (by decide) | rfl

theorem State.partCopy_effect {msk : Nat} {s0 : State} (s : State) (k : Nat) (d : HostDesc) (b : List Byte) (hm : 0x4000800000000 &&& msk = 0x4000800000000) (h_s : Effect msk s0 s) :
    Effect msk s0 (State.partCopy s k d b) := by
  unfold State.partCopy
  repeat' first | with_reducible intro _ | with_reducible assumption | with_reducible rfl | exact subParts hm (by decide) | with_reducible apply State.modDesc_effect | with_reducible apply Effect.ite | split | dsimp only | with_reducible refine Effect.ddr ?_ ?_ ?_ | with_reducible apply swf_writeBytes | with_reducible apply swf_filter | with_reducible apply swf_writeWord | with_reducible apply swf_writeWords | exact bitParts hm (by decide) | exact bitOff hm (by decide) | exact bitPlus hm (by decide) | exact bitKey hm (by decide) | rfl

theorem State.dispatchData_effect {msk : Nat} {s0 : State} (s : State) (k op : Nat) (data : HostData) (hm : 0x5cc014c000c01e0 &&& msk = 0x5cc014c000c01e0) (h_s : Effect msk s0 s) :
    Effect msk s0 (State.dispatchData s k op data) := by
  unfold State.dispatchData
  repeat' first | with_reducible intro _ | with_reducible assumption | with_reducible rfl | exact subParts hm (by decide) | with_reducible apply State.partCopy_effect | with_reducible apply State.runData_effect | with_reducible apply State.hostUnchain_effect | with_reducible apply State.endDesc_effect | with_reducible apply State.sendRead_effect | with_reducible apply State.readFailed_effect | with_reducible apply Effect.ite | split | dsimp only | exact bitParts hm (by decide) | exact bitOff hm (by decide) | exact bitPlus hm (by decide) | exact bitKey hm (by decide) | rfl

theorem execOryJob_effect {msk : Nat} {s0 : State} (k : Fin 16) (data : HostData) (s : State) (hm : 0x5cc014c000c01e0 &&& msk = 0x5cc014c000c01e0) (h_s : Effect msk s0 s) :
    EffectOut msk s0 (execOryJob k data s) := by
  unfold execOryJob
  repeat' first | with_reducible intro _ | with_reducible assumption | with_reducible rfl | with_reducible refine EffectOut.gate ?_ ?_ | with_reducible refine EffectOut.next ?_ | exact subParts hm (by decide) | with_reducible apply State.dispatchData_effect | with_reducible apply Effect.ite | split | dsimp only | rfl

theorem execCopyIn_effect {msk : Nat} {s0 : State} (k : Fin 16) (data : HostData) (s : State) (hm : 0x5cc014c000c01e0 &&& msk = 0x5cc014c000c01e0) (h_s : Effect msk s0 s) :
    EffectOut msk s0 (execCopyIn k data s) := by
  unfold execCopyIn
  repeat' first | with_reducible intro _ | with_reducible assumption | with_reducible rfl | with_reducible refine EffectOut.gate ?_ ?_ | with_reducible refine EffectOut.next ?_ | exact subParts hm (by decide) | with_reducible apply State.dispatchData_effect | with_reducible apply Effect.ite | split | dsimp only | rfl

theorem execOcLoad_effect {msk : Nat} {s0 : State} (k : Fin 16) (data : HostData) (s : State) (hm : 0x5cc014c000c01e0 &&& msk = 0x5cc014c000c01e0) (h_s : Effect msk s0 s) :
    EffectOut msk s0 (execOcLoad k data s) := by
  unfold execOcLoad
  repeat' first | with_reducible intro _ | with_reducible assumption | with_reducible rfl | with_reducible refine EffectOut.gate ?_ ?_ | with_reducible refine EffectOut.next ?_ | exact subParts hm (by decide) | with_reducible apply State.dispatchData_effect | with_reducible apply Effect.ite | split | dsimp only | rfl

theorem execFlashWrite_effect {msk : Nat} {s0 : State} (k : Fin 16) (data : HostData) (s : State) (hm : 0x5cc014c000c01e0 &&& msk = 0x5cc014c000c01e0) (h_s : Effect msk s0 s) :
    EffectOut msk s0 (execFlashWrite k data s) := by
  unfold execFlashWrite
  repeat' first | with_reducible intro _ | with_reducible assumption | with_reducible rfl | with_reducible refine EffectOut.gate ?_ ?_ | with_reducible refine EffectOut.next ?_ | exact subParts hm (by decide) | with_reducible apply State.dispatchData_effect | with_reducible apply Effect.ite | split | dsimp only | rfl

theorem State.retryRead_effect {msk : Nat} {s0 : State} (s : State) (k : Nat) (data : HostData) (hm : 0x7fefdcc000c21e0 &&& msk = 0x7fefdcc000c21e0) (h_s : Effect msk s0 s) :
    Effect msk s0 (State.retryRead s k data) := by
  unfold State.retryRead
  repeat' first | with_reducible intro _ | with_reducible assumption | with_reducible rfl | exact subParts hm (by decide) | with_reducible apply State.partCopy_effect | with_reducible apply State.runData_effect | with_reducible apply State.dmaError_effect | with_reducible apply State.endDesc_effect | with_reducible apply State.sendRead_effect | with_reducible apply State.takeEntry_effect | with_reducible apply State.modRing_effect | with_reducible apply State.runTo_effect | with_reducible apply State.bump_effect | with_reducible apply Effect.ite | split | dsimp only | exact bitParts hm (by decide) | exact bitOff hm (by decide) | exact bitPlus hm (by decide) | exact bitKey hm (by decide) | rfl

theorem execHostReadRetry_effect {msk : Nat} {s0 : State} (k : Fin 16) (data : HostData) (s : State) (hm : 0x7fefdcc000c21e0 &&& msk = 0x7fefdcc000c21e0) (h_s : Effect msk s0 s) :
    EffectOut msk s0 (execHostReadRetry k data s) := by
  unfold execHostReadRetry
  repeat' first | with_reducible intro _ | with_reducible assumption | with_reducible rfl | with_reducible refine EffectOut.gate ?_ ?_ | with_reducible refine EffectOut.rooted ?_ ?_ | with_reducible refine EffectOut.reach ?_ ?_ | with_reducible refine EffectOut.next ?_ | exact subParts hm (by decide) | with_reducible apply State.retryRead_effect | with_reducible apply State.chainSettle_effect | with_reducible apply Effect.ite | split | dsimp only | exact bitParts hm (by decide) | exact bitOff hm (by decide) | exact bitPlus hm (by decide) | exact bitKey hm (by decide) | rfl

theorem State.endChained_effect {msk : Nat} {s0 : State} (s : State) (k : Nat) (j : Job) (hm : 0xc0000000c0000 &&& msk = 0xc0000000c0000) (h_s : Effect msk s0 s) :
    Effect msk s0 (State.endChained s k j) := by
  unfold State.endChained
  repeat' first | with_reducible intro _ | with_reducible assumption | with_reducible rfl | exact subParts hm (by decide) | with_reducible apply State.endDesc_effect | with_reducible apply Effect.ite | split | dsimp only | exact bitParts hm (by decide) | exact bitOff hm (by decide) | exact bitPlus hm (by decide) | exact bitKey hm (by decide) | rfl

theorem State.dropQueued_effect {msk : Nat} {s0 : State} (s : State) (k : Nat) (hm : 0x4c0004000c0080 &&& msk = 0x4c0004000c0080) (h_s : Effect msk s0 s) :
    Effect msk s0 (State.dropQueued s k) := by
  unfold State.dropQueued
  repeat' first | with_reducible intro _ | with_reducible assumption | with_reducible rfl | exact subParts hm (by decide) | with_reducible apply State.endChained_effect | with_reducible apply State.endDesc_effect | with_reducible apply State.modRing_effect | with_reducible apply State.unqueue_effect | with_reducible apply State.endEarly_effect | with_reducible apply Effect.forEach | with_reducible apply Effect.ite | split | dsimp only | exact bitParts hm (by decide) | exact bitOff hm (by decide) | exact bitPlus hm (by decide) | exact bitKey hm (by decide) | rfl

theorem State.ringOff_effect {msk : Nat} {s0 : State} (s : State) (k : Nat) (hm : 0x1cc0144000c01e0 &&& msk = 0x1cc0144000c01e0) (h_s : Effect msk s0 s) :
    Effect msk s0 (State.ringOff s k) := by
  unfold State.ringOff
  repeat' first | with_reducible intro _ | with_reducible assumption | with_reducible rfl | exact subParts hm (by decide) | with_reducible apply State.dropQueued_effect | with_reducible apply State.ocCancel_effect | with_reducible apply State.drainDone_effect | with_reducible apply State.endDesc_effect | with_reducible apply State.drainEnd_effect | with_reducible apply State.modRing_effect | with_reducible apply State.put_effect | with_reducible apply Effect.forEach | with_reducible apply Effect.ite | split | dsimp only | exact bitParts hm (by decide) | exact bitOff hm (by decide) | exact bitPlus hm (by decide) | exact bitKey hm (by decide) | rfl

theorem execRingDisable_effect {msk : Nat} {s0 : State} (_req : Req) (k : Fin 16) (s : State) (hm : 0x1cc0144000c01e0 &&& msk = 0x1cc0144000c01e0) (h_s : Effect msk s0 s) :
    EffectOut msk s0 (execRingDisable _req k s) := by
  unfold execRingDisable
  repeat' first | with_reducible intro _ | with_reducible assumption | with_reducible rfl | with_reducible refine EffectOut.gate ?_ ?_ | with_reducible refine EffectOut.next ?_ | exact subParts hm (by decide) | with_reducible apply State.ringOff_effect | with_reducible apply Effect.ite | split | dsimp only | rfl

theorem State.ocCancelHost_effect {msk : Nat} {s0 : State} (s : State) (hm : 0xc0040000c0020 &&& msk = 0xc0040000c0020) (h_s : Effect msk s0 s) :
    Effect msk s0 (State.ocCancelHost s) := by
  unfold State.ocCancelHost
  repeat' first | with_reducible intro _ | with_reducible assumption | with_reducible rfl | exact subParts hm (by decide) | with_reducible apply State.ocCancel_effect | with_reducible apply Effect.ite | split | dsimp only | exact bitParts hm (by decide) | exact bitOff hm (by decide) | exact bitPlus hm (by decide) | exact bitKey hm (by decide) | rfl

theorem State.ringsLost_effect {msk : Nat} {s0 : State} (s old : State) (hm : 0xc0000000c0000 &&& msk = 0xc0000000c0000) (h_s : Effect msk s0 s) (h_old : Effect msk s0 old) :
    Effect msk s0 (State.ringsLost s old) := by
  unfold State.ringsLost
  repeat' first | with_reducible intro _ | with_reducible assumption | with_reducible rfl | exact subParts hm (by decide) | with_reducible apply State.raise_effect | with_reducible apply Effect.forEach | with_reducible apply Effect.ite | split | dsimp only | exact bitParts hm (by decide) | exact bitOff hm (by decide) | exact bitPlus hm (by decide) | exact bitKey hm (by decide) | rfl

theorem State.linkRecovery_effect {m : Nat} {s0 : State} (s : State) (linkUp : Bool) (hm : 0x5cc0144ffffffff &&& m = 0x5cc0144ffffffff)
    (h_s : Effect m s0 s) : Effect m s0 (State.linkRecovery s linkUp) := by
  have w : ∀ h p, Effect m s0 { s with hif := h, regs := s.regs.filter p } := fun h p =>
    ⟨⟨fun w => swf_filter _ (h_s.kept.regs w), fun w e => h_s.kept.eff w e, h_s.kept.mem, h_s.kept.pending, h_s.kept.variant,
      h_s.kept.sizes, h_s.kept.fuses⟩,
      { h_s.within with
        regs := fun _ b => absurd (b.symm.trans (bitAll hm (by decide))) Bool.false_ne_true
        hif := fun b => absurd (b.symm.trans (bitParts hm (by decide))) Bool.false_ne_true }⟩
  unfold State.linkRecovery
  refine Effect.ite h_s ?_
  have he := fun (x : State) (hx : Effect m s0 x) (a b : Fld) (c d : Bool) (n : Nat) f g => State.setTo_effect _ b d (bitAll hm (by decide))
    (State.setTo_effect _ a c (bitAll hm (by decide)) (State.wrn_effect _ Reg.HIF_LINK n (bitParts hm (by decide))
      (State.modHif_effect _ f (subParts hm (by decide)) (State.modAlm_effect _ g (subParts hm (by decide))
        (State.ocCancelHost_effect _ (subParts hm (by decide)) (State.drainDone_effect _ (subParts hm (by decide))
          (State.abortJobs_effect _ (fun j => j.cls == 9) (subParts hm (by decide)) hx)))))))
  exact State.raise_effect _ _ _ _ (subParts hm (by decide)) (State.ringsLost_effect _ _ (subParts hm (by decide))
    (Effect.ite (State.raise1_effect _ _ _ _ _ (subParts hm (by decide)) (he _ (w _ _) _ _ _ _ _ _ _))
      (he _ (w _ _) _ _ _ _ _ _ _)) h_s)

theorem execLinkRecovery_effect {msk : Nat} {s0 : State} (linkUp : Bool) (s : State) (hm : 0x5cc0144ffffffff &&& msk = 0x5cc0144ffffffff) (h_s : Effect msk s0 s) :
    EffectOut msk s0 (execLinkRecovery linkUp s) := by
  unfold execLinkRecovery
  repeat' first | with_reducible intro _ | with_reducible assumption | with_reducible rfl | with_reducible refine EffectOut.gate ?_ ?_ | with_reducible refine EffectOut.next ?_ | exact subParts hm (by decide) | with_reducible apply State.linkRecovery_effect | with_reducible apply Effect.ite | split | dsimp only | rfl

end Sys2Proof.Machine
end

