-- ==== Sys2Proof/Laws/EffectCan.lean ====
section
/-! SUPPORT. What the operations of Machine/Can.lean do: the parts of the state that each may change. -/

set_option linter.unusedTactic false
set_option linter.unusedVariables false
set_option linter.unreachableTactic false

namespace Sys2Proof.Machine

theorem State.modCan_effect {msk : Nat} {s0 : State} (s : State) (c : Nat) (f : Can → Can) (hm : 0x400000000000 &&& msk = 0x400000000000) (h_s : Effect msk s0 s) :
    Effect msk s0 (State.modCan s c f) := by
  unfold State.modCan
  repeat' first | with_reducible intro _ | with_reducible assumption | with_reducible rfl | with_reducible apply Effect.ite | split | dsimp only | with_reducible refine Effect.can ?_ ?_ | exact bitParts hm (by decide) | rfl

theorem State.setNewdat_effect {msk : Nat} {s0 : State} (s : State) (c k : Nat) (b : Bool) (hm : 0x8000 &&& msk = 0x8000) (h_s : Effect msk s0 s) :
    Effect msk s0 (State.setNewdat s c k b) := by
  unfold State.setNewdat
  repeat' first | with_reducible intro _ | with_reducible assumption | with_reducible rfl | exact subParts hm (by decide) | with_reducible apply State.setTo_effect | with_reducible apply Effect.ite | split | dsimp only | exact bitParts hm (by decide) | exact bitOff hm (by decide) | rfl

theorem State.txComplete_effect {msk : Nat} {s0 : State} (s : State) (c k res : Nat) (hm : 0x400000008000 &&& msk = 0x400000008000) (h_s : Effect msk s0 s) :
    Effect msk s0 (State.txComplete s c k res) := by
  unfold State.txComplete
  repeat' first | with_reducible intro _ | with_reducible assumption | with_reducible rfl | exact subParts hm (by decide) | with_reducible apply State.modCan_effect | with_reducible apply State.setTo_effect | with_reducible apply State.put_effect | with_reducible apply Effect.ite | split | dsimp only | exact bitParts hm (by decide) | exact bitOff hm (by decide) | exact bitPlus hm (by decide) | exact bitKey hm (by decide) | rfl

theorem State.cancelRes_effect {msk : Nat} {s0 : State} (s : State) (c r : Nat) (hm : 0x8000 &&& msk = 0x8000) (h_s : Effect msk s0 s) :
    Effect msk s0 (State.cancelRes s c r) := by
  unfold State.cancelRes
  repeat' first | with_reducible intro _ | with_reducible assumption | with_reducible rfl | exact subParts hm (by decide) | with_reducible apply State.setTo_effect | with_reducible apply State.put_effect | with_reducible apply Effect.ite | split | dsimp only | exact bitParts hm (by decide) | exact bitOff hm (by decide) | rfl

theorem State.canCounts_effect {msk : Nat} {s0 : State} (s : State) (c : Nat) (hm : 0xc0000000c8000 &&& msk = 0xc0000000c8000) (h_s : Effect msk s0 s) :
    Effect msk s0 (State.canCounts s c) := by
  unfold State.canCounts
  repeat' first | with_reducible intro _ | with_reducible assumption | with_reducible rfl | exact subParts hm (by decide) | with_reducible apply State.raise1_effect | with_reducible apply State.putSat_effect | with_reducible apply State.put_effect | with_reducible apply Effect.ite | split | dsimp only | exact bitParts hm (by decide) | exact bitOff hm (by decide) | rfl

theorem State.canRecover_effect {msk : Nat} {s0 : State} (s : State) (c : Nat) (hm : 0x8000 &&& msk = 0x8000) (h_s : Effect msk s0 s) :
    Effect msk s0 (State.canRecover s c) := by
  unfold State.canRecover
  repeat' first | with_reducible intro _ | with_reducible assumption | with_reducible rfl | exact subParts hm (by decide) | with_reducible apply State.setTo_effect | with_reducible apply Effect.ite | split | dsimp only | exact bitParts hm (by decide) | exact bitOff hm (by decide) | rfl

theorem State.enterBusOff_effect {msk : Nat} {s0 : State} (s : State) (c : Nat) (hm : 0x400000008000 &&& msk = 0x400000008000) (h_s : Effect msk s0 s) :
    Effect msk s0 (State.enterBusOff s c) := by
  unfold State.enterBusOff
  repeat' first | with_reducible intro _ | with_reducible assumption | with_reducible rfl | exact subParts hm (by decide) | with_reducible apply State.canRecover_effect | with_reducible apply State.txComplete_effect | with_reducible apply State.bump_effect | with_reducible apply State.setTo_effect | with_reducible apply Effect.forEach | with_reducible apply Effect.ite | split | dsimp only | exact bitParts hm (by decide) | exact bitOff hm (by decide) | rfl

theorem State.canError_effect {msk : Nat} {s0 : State} (s : State) (c : Nat) (f : Can → Can) (hm : 0xc4000000c8000 &&& msk = 0xc4000000c8000) (h_s : Effect msk s0 s) :
    Effect msk s0 (State.canError s c f) := by
  unfold State.canError
  repeat' first | with_reducible intro _ | with_reducible assumption | with_reducible rfl | exact subParts hm (by decide) | with_reducible apply State.enterBusOff_effect | with_reducible apply State.canCounts_effect | with_reducible apply State.modCan_effect | with_reducible apply Effect.ite | split | dsimp only | rfl

theorem State.canStore_effect {msk : Nat} {s0 : State} (s : State) (c k : Nat) (f : CanFrame) (hm : 0x400000000008000 &&& msk = 0x400000000008000) (h_s : Effect msk s0 s) :
    Effect msk s0 (State.canStore s c k f) := by
  unfold State.canStore
  repeat' first | with_reducible intro _ | with_reducible assumption | with_reducible rfl | exact subParts hm (by decide) | with_reducible apply State.setNewdat_effect | with_reducible apply State.nextFree_effect | with_reducible apply State.setTo_effect | with_reducible apply State.put_effect | with_reducible apply State.wr_effect | with_reducible apply Effect.forEach | with_reducible apply Effect.ite | split | dsimp only | exact bitParts hm (by decide) | exact bitOff hm (by decide) | rfl

theorem State.canLost_effect {msk : Nat} {s0 : State} (s : State) (c k : Nat) (hm : 0xc0000000c8000 &&& msk = 0xc0000000c8000) (h_s : Effect msk s0 s) :
    Effect msk s0 (State.canLost s c k) := by
  unfold State.canLost
  repeat' first | with_reducible intro _ | with_reducible assumption | with_reducible rfl | exact subParts hm (by decide) | with_reducible apply State.raise2_effect | with_reducible apply State.bump_effect | with_reducible apply State.setTo_effect | with_reducible apply Effect.ite | split | dsimp only | exact bitParts hm (by decide) | exact bitOff hm (by decide) | rfl

theorem State.canTake_effect {msk : Nat} {s0 : State} (s : State) (c k : Nat) (f : CanFrame) (hm : 0x40c4000000c8000 &&& msk = 0x40c4000000c8000) (h_s : Effect msk s0 s) :
    Effect msk s0 (State.canTake s c k f) := by
  unfold State.canTake
  repeat' first | with_reducible intro _ | with_reducible assumption | with_reducible rfl | exact subParts hm (by decide) | with_reducible apply State.canLost_effect | with_reducible apply State.canStore_effect | with_reducible apply State.modCan_effect | with_reducible apply Effect.ite | split | dsimp only | rfl

theorem State.canTried_effect {msk : Nat} {s0 : State} (s : State) (c : Nat) (hm : 0x400000000000 &&& msk = 0x400000000000) (h_s : Effect msk s0 s) :
    Effect msk s0 (State.canTried s c) := by
  unfold State.canTried
  repeat' first | with_reducible intro _ | with_reducible assumption | with_reducible rfl | exact subParts hm (by decide) | with_reducible apply State.modCan_effect | with_reducible apply Effect.ite | split | dsimp only | exact bitParts hm (by decide) | exact bitOff hm (by decide) | exact bitPlus hm (by decide) | exact bitKey hm (by decide) | rfl

theorem State.canReceive_effect {msk : Nat} {s0 : State} (u : State) (c : Nat) (f0 : CanFrame) (hm : 0x40c4000000c8000 &&& msk = 0x40c4000000c8000) (h_u : Effect msk s0 u) :
    Effect msk s0 (State.canReceive u c f0) := by
  unfold State.canReceive
  repeat' first | with_reducible intro _ | with_reducible assumption | with_reducible rfl | exact subParts hm (by decide) | with_reducible apply State.canTried_effect | with_reducible apply State.canTake_effect | with_reducible apply State.canError_effect | with_reducible apply State.nextFree_effect | with_reducible apply State.bump_effect | with_reducible apply Effect.ite | split | dsimp only | exact bitParts hm (by decide) | exact bitOff hm (by decide) | exact bitPlus hm (by decide) | exact bitKey hm (by decide) | rfl

theorem execCanFrameReceived_effect {msk : Nat} {s0 : State} (c : Fin 4) (f : CanFrame) (s : State) (hm : 0x40c4000000c8000 &&& msk = 0x40c4000000c8000) (h_s : Effect msk s0 s) :
    EffectOut msk s0 (execCanFrameReceived c f s) := by
  unfold execCanFrameReceived
  repeat' first | with_reducible intro _ | with_reducible assumption | with_reducible rfl | with_reducible refine EffectOut.gate ?_ ?_ | with_reducible refine EffectOut.next ?_ | exact subParts hm (by decide) | with_reducible apply State.canReceive_effect | with_reducible apply Effect.ite | split | dsimp only | rfl

theorem State.canLast_effect {msk : Nat} {s0 : State} (s : State) (c k : Nat) (hm : 0x400000000000 &&& msk = 0x400000000000) (h_s : Effect msk s0 s) :
    Effect msk s0 (State.canLast s c k) := by
  unfold State.canLast
  repeat' first | with_reducible intro _ | with_reducible assumption | with_reducible rfl | exact subParts hm (by decide) | with_reducible apply State.modCan_effect | with_reducible apply Effect.ite | split | dsimp only | exact bitParts hm (by decide) | exact bitOff hm (by decide) | exact bitPlus hm (by decide) | exact bitKey hm (by decide) | rfl

theorem State.cancelLate_effect {msk : Nat} {s0 : State} (s : State) (c k : Nat) (hm : 0x400000008000 &&& msk = 0x400000008000) (h_s : Effect msk s0 s) :
    Effect msk s0 (State.cancelLate s c k) := by
  unfold State.cancelLate
  repeat' first | with_reducible intro _ | with_reducible assumption | with_reducible rfl | exact subParts hm (by decide) | with_reducible apply State.canLast_effect | with_reducible apply State.cancelRes_effect | with_reducible apply Effect.ite | split | dsimp only | exact bitParts hm (by decide) | exact bitOff hm (by decide) | exact bitPlus hm (by decide) | exact bitKey hm (by decide) | rfl

theorem State.canSent_effect {msk : Nat} {s0 : State} (s : State) (c k : Nat) (hm : 0xc4000000c8000 &&& msk = 0xc4000000c8000) (h_s : Effect msk s0 s) :
    Effect msk s0 (State.canSent s c k) := by
  unfold State.canSent
  repeat' first | with_reducible intro _ | with_reducible assumption | with_reducible rfl | exact subParts hm (by decide) | with_reducible apply State.cancelLate_effect | with_reducible apply State.canTried_effect | with_reducible apply State.canError_effect | with_reducible apply State.txComplete_effect | with_reducible apply State.modCan_effect | with_reducible apply Effect.ite | split | dsimp only | exact bitParts hm (by decide) | exact bitOff hm (by decide) | exact bitPlus hm (by decide) | exact bitKey hm (by decide) | rfl

theorem execCanTxDone_effect {msk : Nat} {s0 : State} (c : Fin 4) (obj : Fin 128) (s : State) (hm : 0xc4000000c8000 &&& msk = 0xc4000000c8000) (h_s : Effect msk s0 s) :
    EffectOut msk s0 (execCanTxDone c obj s) := by
  unfold execCanTxDone
  repeat' first | with_reducible intro _ | with_reducible assumption | with_reducible rfl | with_reducible refine EffectOut.gate ?_ ?_ | with_reducible refine EffectOut.next ?_ | exact subParts hm (by decide) | with_reducible apply State.canSent_effect | with_reducible apply Effect.ite | split | dsimp only | rfl

theorem State.canAgain_effect {msk : Nat} {s0 : State} (s : State) (c k : Nat) (hm : 0xc4000000c8000 &&& msk = 0xc4000000c8000) (h_s : Effect msk s0 s) :
    Effect msk s0 (State.canAgain s c k) := by
  unfold State.canAgain
  repeat' first | with_reducible intro _ | with_reducible assumption | with_reducible rfl | exact subParts hm (by decide) | with_reducible apply State.txComplete_effect | with_reducible apply State.modCan_effect | with_reducible apply State.raise2_effect | with_reducible apply State.setTo_effect | with_reducible apply Effect.ite | split | dsimp only | exact bitParts hm (by decide) | exact bitOff hm (by decide) | rfl

theorem State.canLostTry_effect {msk : Nat} {s0 : State} (s : State) (c k : Nat) (hm : 0xc4000000c8000 &&& msk = 0xc4000000c8000) (h_s : Effect msk s0 s) :
    Effect msk s0 (State.canLostTry s c k) := by
  unfold State.canLostTry
  repeat' first | with_reducible intro _ | with_reducible assumption | with_reducible rfl | exact subParts hm (by decide) | with_reducible apply State.canAgain_effect | with_reducible apply State.cancelRes_effect | with_reducible apply State.txComplete_effect | with_reducible apply Effect.ite | split | dsimp only | rfl

theorem execCanArbitrationLost_effect {msk : Nat} {s0 : State} (c : Fin 4) (obj : Fin 128) (s : State) (hm : 0xc4000000c8000 &&& msk = 0xc4000000c8000) (h_s : Effect msk s0 s) :
    EffectOut msk s0 (execCanArbitrationLost c obj s) := by
  unfold execCanArbitrationLost
  repeat' first | with_reducible intro _ | with_reducible assumption | with_reducible rfl | with_reducible refine EffectOut.gate ?_ ?_ | with_reducible refine EffectOut.next ?_ | exact subParts hm (by decide) | with_reducible apply State.canLostTry_effect | with_reducible apply State.canTried_effect | with_reducible apply Effect.ite | split | dsimp only | exact bitParts hm (by decide) | exact bitOff hm (by decide) | exact bitPlus hm (by decide) | exact bitKey hm (by decide) | rfl

theorem State.canTxError_effect {msk : Nat} {s0 : State} (s : State) (c k : Nat) (won bit counted : Bool) (hm : 0xc4000000c8000 &&& msk = 0xc4000000c8000) (h_s : Effect msk s0 s) :
    Effect msk s0 (State.canTxError s c k won bit counted) := by
  unfold State.canTxError
  repeat' first | with_reducible intro _ | with_reducible assumption | with_reducible rfl | exact subParts hm (by decide) | with_reducible apply State.canLostTry_effect | with_reducible apply State.canAgain_effect | with_reducible apply State.cancelLate_effect | with_reducible apply State.canTried_effect | with_reducible apply State.canError_effect | with_reducible apply State.raise1_effect | with_reducible apply State.setTo_effect | with_reducible apply Effect.ite | split | dsimp only | exact bitParts hm (by decide) | exact bitOff hm (by decide) | exact bitPlus hm (by decide) | exact bitKey hm (by decide) | rfl

theorem execCanError_effect {msk : Nat} {s0 : State} (c : Fin 4) (err : CanErr) (s : State) (hm : 0xc4000000c8000 &&& msk = 0xc4000000c8000) (h_s : Effect msk s0 s) :
    EffectOut msk s0 (execCanError c err s) := by
  unfold execCanError
  repeat' first | with_reducible intro _ | with_reducible assumption | with_reducible rfl | with_reducible refine EffectOut.gate ?_ ?_ | with_reducible refine EffectOut.rooted ?_ ?_ | with_reducible refine EffectOut.reach ?_ ?_ | with_reducible refine EffectOut.next ?_ | exact subParts hm (by decide) | with_reducible apply State.canTxError_effect | with_reducible apply State.canTried_effect | with_reducible apply State.canError_effect | with_reducible apply Effect.ite | split | dsimp only | exact bitParts hm (by decide) | exact bitOff hm (by decide) | exact bitPlus hm (by decide) | exact bitKey hm (by decide) | rfl

theorem State.canRecovered_effect {msk : Nat} {s0 : State} (s : State) (c : Nat) (hm : 0xc4000000c8000 &&& msk = 0xc4000000c8000) (h_s : Effect msk s0 s) :
    Effect msk s0 (State.canRecovered s c) := by
  unfold State.canRecovered
  repeat' first | with_reducible intro _ | with_reducible assumption | with_reducible rfl | exact subParts hm (by decide) | with_reducible apply State.canCounts_effect | with_reducible apply State.modCan_effect | with_reducible apply State.raise1_effect | with_reducible apply State.setTo_effect | with_reducible apply Effect.ite | split | dsimp only | exact bitParts hm (by decide) | exact bitOff hm (by decide) | exact bitPlus hm (by decide) | exact bitKey hm (by decide) | rfl

theorem execCanRecoveryDone_effect {msk : Nat} {s0 : State} (c : Fin 4) (s : State) (hm : 0xc4000000c8000 &&& msk = 0xc4000000c8000) (h_s : Effect msk s0 s) :
    EffectOut msk s0 (execCanRecoveryDone c s) := by
  unfold execCanRecoveryDone
  repeat' first | with_reducible intro _ | with_reducible assumption | with_reducible rfl | with_reducible refine EffectOut.gate ?_ ?_ | with_reducible refine EffectOut.next ?_ | exact subParts hm (by decide) | with_reducible apply State.canRecovered_effect | with_reducible apply Effect.ite | split | dsimp only | rfl

theorem State.canUnlock_effect {msk : Nat} {s0 : State} (s : State) (c k : Nat) (hm : 0x400400000008000 &&& msk = 0x400400000008000) (h_s : Effect msk s0 s) :
    Effect msk s0 (State.canUnlock s c k) := by
  unfold State.canUnlock
  repeat' first | with_reducible intro _ | with_reducible assumption | with_reducible rfl | exact subParts hm (by decide) | with_reducible apply State.canStore_effect | with_reducible apply State.modCan_effect | with_reducible apply State.setTo_effect | with_reducible apply Effect.ite | split | dsimp only | exact bitParts hm (by decide) | exact bitOff hm (by decide) | rfl

theorem State.canLockTmo_effect {msk : Nat} {s0 : State} (s : State) (c k : Nat) (hm : 0x67efcc0000ca000 &&& msk = 0x67efcc0000ca000) (h_s : Effect msk s0 s) :
    Effect msk s0 (State.canLockTmo s c k) := by
  unfold State.canLockTmo
  repeat' first | with_reducible intro _ | with_reducible assumption | with_reducible rfl | exact subParts hm (by decide) | with_reducible apply State.canUnlock_effect | with_reducible apply State.runTo_effect | with_reducible apply State.raise2_effect | with_reducible apply State.setTo_effect | with_reducible apply Effect.ite | split | dsimp only | exact bitParts hm (by decide) | exact bitOff hm (by decide) | rfl

theorem execCanLockTimeout_effect {msk : Nat} {s0 : State} (c : Fin 4) (obj : Fin 128) (s : State) (hm : 0x67efcc0000ca000 &&& msk = 0x67efcc0000ca000) (h_s : Effect msk s0 s) :
    EffectOut msk s0 (execCanLockTimeout c obj s) := by
  unfold execCanLockTimeout
  repeat' first | with_reducible intro _ | with_reducible assumption | with_reducible rfl | with_reducible refine EffectOut.gate ?_ ?_ | with_reducible refine EffectOut.next ?_ | exact subParts hm (by decide) | with_reducible apply State.canLockTmo_effect | with_reducible apply Effect.ite | split | dsimp only | rfl

theorem State.canPend_effect {msk : Nat} {s0 : State} (s : State) (c k : Nat) (hm : 0x400000008000 &&& msk = 0x400000008000) (h_s : Effect msk s0 s) :
    Effect msk s0 (State.canPend s c k) := by
  unfold State.canPend
  repeat' first | with_reducible intro _ | with_reducible assumption | with_reducible rfl | exact subParts hm (by decide) | with_reducible apply State.modCan_effect | with_reducible apply State.setTo_effect | with_reducible apply State.put_effect | with_reducible apply Effect.ite | split | dsimp only | exact bitParts hm (by decide) | exact bitOff hm (by decide) | exact bitPlus hm (by decide) | exact bitKey hm (by decide) | rfl

theorem State.canTxreq_effect {msk : Nat} {s0 : State} (s : State) (c r mask : Nat) (hm : 0x400000008000 &&& msk = 0x400000008000) (h_s : Effect msk s0 s) :
    Effect msk s0 (State.canTxreq s c r mask) := by
  unfold State.canTxreq
  repeat' first | with_reducible intro _ | with_reducible assumption | with_reducible rfl | exact subParts hm (by decide) | with_reducible apply State.canPend_effect | with_reducible apply State.modCan_effect | with_reducible apply Effect.forEach | with_reducible apply Effect.ite | split | dsimp only | exact bitParts hm (by decide) | exact bitOff hm (by decide) | exact bitPlus hm (by decide) | exact bitKey hm (by decide) | rfl

theorem execCanTxreq_effect {msk : Nat} {s0 : State} (_req : Req) (c r : Fin 4) (mask : Word) (s : State) (hm : 0x400000008000 &&& msk = 0x400000008000) (h_s : Effect msk s0 s) :
    EffectOut msk s0 (execCanTxreq _req c r mask s) := by
  unfold execCanTxreq
  repeat' first | with_reducible intro _ | with_reducible assumption | with_reducible rfl | with_reducible refine EffectOut.gate ?_ ?_ | with_reducible refine EffectOut.next ?_ | exact subParts hm (by decide) | with_reducible apply State.canTxreq_effect | with_reducible apply Effect.ite | split | dsimp only | rfl

theorem State.canCancel_effect {msk : Nat} {s0 : State} (s : State) (c k : Nat) (pos : CanPos) (hm : 0x400000008000 &&& msk = 0x400000008000) (h_s : Effect msk s0 s) :
    Effect msk s0 (State.canCancel s c k pos) := by
  unfold State.canCancel
  repeat' first | with_reducible intro _ | with_reducible assumption | with_reducible rfl | exact subParts hm (by decide) | with_reducible apply State.canLast_effect | with_reducible apply State.cancelRes_effect | with_reducible apply State.txComplete_effect | with_reducible apply State.modCan_effect | with_reducible apply State.setTo_effect | with_reducible apply State.put_effect | with_reducible apply Effect.ite | split | dsimp only | exact bitParts hm (by decide) | exact bitOff hm (by decide) | exact bitPlus hm (by decide) | exact bitKey hm (by decide) | rfl

theorem execCanCancel_effect {msk : Nat} {s0 : State} (_req : Req) (c : Fin 4) (obj : Fin 128) (pos : CanPos) (s : State) (hm : 0x400000008000 &&& msk = 0x400000008000) (h_s : Effect msk s0 s) :
    EffectOut msk s0 (execCanCancel _req c obj pos s) := by
  unfold execCanCancel
  repeat' first | with_reducible intro _ | with_reducible assumption | with_reducible rfl | with_reducible refine EffectOut.gate ?_ ?_ | with_reducible refine EffectOut.next ?_ | exact subParts hm (by decide) | with_reducible apply State.canCancel_effect | with_reducible apply Effect.ite | split | dsimp only | rfl

theorem execRecover_effect {msk : Nat} {s0 : State} (_req : Req) (c : Fin 4) (s : State) (hm : 0x8000 &&& msk = 0x8000) (h_s : Effect msk s0 s) :
    EffectOut msk s0 (execRecover _req c s) := by
  unfold execRecover
  repeat' first | with_reducible intro _ | with_reducible assumption | with_reducible rfl | with_reducible refine EffectOut.gate ?_ ?_ | with_reducible refine EffectOut.next ?_ | exact subParts hm (by decide) | with_reducible apply State.canRecover_effect | with_reducible apply Effect.ite | split | dsimp only | rfl

theorem State.canEnable_effect {msk : Nat} {s0 : State} (s : State) (c : Nat) (en : Bool) (hm : 0xc4000000c8000 &&& msk = 0xc4000000c8000) (h_s : Effect msk s0 s) :
    Effect msk s0 (State.canEnable s c en) := by
  unfold State.canEnable
  repeat' first | with_reducible intro _ | with_reducible assumption | with_reducible rfl | exact subParts hm (by decide) | with_reducible apply State.canTried_effect | with_reducible apply State.enterBusOff_effect | with_reducible apply State.canCounts_effect | with_reducible apply State.raise1_effect | with_reducible apply State.setTo_effect | with_reducible apply State.put_effect | with_reducible apply Effect.ite | split | dsimp only | exact bitParts hm (by decide) | exact bitOff hm (by decide) | exact bitPlus hm (by decide) | exact bitKey hm (by decide) | rfl

theorem execCanEnable_effect {msk : Nat} {s0 : State} (_req : Req) (c : Fin 4) (en : Bool) (s : State) (hm : 0xc4000000c8000 &&& msk = 0xc4000000c8000) (h_s : Effect msk s0 s) :
    EffectOut msk s0 (execCanEnable _req c en s) := by
  unfold execCanEnable
  repeat' first | with_reducible intro _ | with_reducible assumption | with_reducible rfl | with_reducible refine EffectOut.gate ?_ ?_ | with_reducible refine EffectOut.next ?_ | exact subParts hm (by decide) | with_reducible apply State.canEnable_effect | with_reducible apply Effect.ite | split | dsimp only | rfl

theorem State.canRead0_effect {msk : Nat} {s0 : State} (s : State) (c k : Nat) (hm : 0x400000008000 &&& msk = 0x400000008000) (h_s : Effect msk s0 s) :
    Effect msk s0 (State.canRead0 s c k).2 := by
  unfold State.canRead0
  repeat' first | with_reducible intro _ | with_reducible assumption | with_reducible rfl | exact subParts hm (by decide) | with_reducible apply State.modCan_effect | with_reducible apply State.setTo_effect | with_reducible apply Effect.ite | split | dsimp only | exact bitParts hm (by decide) | exact bitOff hm (by decide) | rfl

theorem execCanWord0Read_effect {msk : Nat} {s0 : State} (_req : Req) (c : Fin 4) (obj : Fin 128) (s : State) (hm : 0x400200008000 &&& msk = 0x400200008000) (h_s : Effect msk s0 s) :
    EffectOut msk s0 (execCanWord0Read _req c obj s) := by
  unfold execCanWord0Read
  repeat' first | with_reducible intro _ | with_reducible assumption | with_reducible rfl | with_reducible refine EffectOut.gate ?_ ?_ | with_reducible refine EffectOut.rooted ?_ ?_ | with_reducible refine EffectOut.reach ?_ ?_ | with_reducible refine EffectOut.next ?_ | exact subParts hm (by decide) | with_reducible apply State.canRead0_effect | with_reducible apply State.gateRead_effect | with_reducible apply Effect.ite | split | dsimp only | with_reducible refine Effect.readData ?_ ?_ | exact bitParts hm (by decide) | exact bitOff hm (by decide) | exact bitPlus hm (by decide) | exact bitKey hm (by decide) | rfl

theorem State.canReadLast_effect {msk : Nat} {s0 : State} (s : State) (c k : Nat) (hm : 0x400400000008000 &&& msk = 0x400400000008000) (h_s : Effect msk s0 s) :
    Effect msk s0 (State.canReadLast s c k).2 := by
  unfold State.canReadLast
  repeat' first | with_reducible intro _ | with_reducible assumption | with_reducible rfl | exact subParts hm (by decide) | with_reducible apply State.canUnlock_effect | with_reducible apply State.setNewdat_effect | with_reducible apply Effect.ite | split | dsimp only | rfl

theorem execCanLastRead_effect {msk : Nat} {s0 : State} (_req : Req) (c : Fin 4) (obj : Fin 128) (s : State) (hm : 0x400400200008000 &&& msk = 0x400400200008000) (h_s : Effect msk s0 s) :
    EffectOut msk s0 (execCanLastRead _req c obj s) := by
  unfold execCanLastRead
  repeat' first | with_reducible intro _ | with_reducible assumption | with_reducible rfl | with_reducible refine EffectOut.gate ?_ ?_ | with_reducible refine EffectOut.rooted ?_ ?_ | with_reducible refine EffectOut.reach ?_ ?_ | with_reducible refine EffectOut.next ?_ | exact subParts hm (by decide) | with_reducible apply State.canReadLast_effect | with_reducible apply State.gateRead_effect | with_reducible apply Effect.ite | split | dsimp only | with_reducible refine Effect.readData ?_ ?_ | exact bitParts hm (by decide) | exact bitOff hm (by decide) | exact bitPlus hm (by decide) | exact bitKey hm (by decide) | rfl

end Sys2Proof.Machine
end

