-- ==== Sys2Proof/Laws/EffectSerial.lean ====
section
/-! SUPPORT. What the operations of Machine/Serial.lean do: the parts of the state that each may change. -/

set_option linter.unusedTactic false
set_option linter.unusedVariables false
set_option linter.unreachableTactic false

namespace Sys2Proof.Machine

theorem State.modUart_effect {msk : Nat} {s0 : State} (s : State) (u : Nat) (f : Uart → Uart) (hm : 0x800000000000 &&& msk = 0x800000000000) (h_s : Effect msk s0 s) :
    Effect msk s0 (State.modUart s u f) := by
  unfold State.modUart
  repeat' first | with_reducible intro _ | with_reducible assumption | with_reducible rfl | with_reducible apply Effect.ite | split | dsimp only | with_reducible refine Effect.uart ?_ ?_ | exact bitParts hm (by decide) | rfl

theorem State.serPush_effect {msk : Nat} {s0 : State} (s : State) (u time flags : Nat) (text : List Byte) (hm : 0xc0004000d0000 &&& msk = 0xc0004000d0000) (h_s : Effect msk s0 s) :
    Effect msk s0 (State.serPush s u time flags text) := by
  unfold State.serPush
  repeat' first | with_reducible intro _ | with_reducible assumption | with_reducible rfl | exact subParts hm (by decide) | with_reducible apply State.sramWrite_effect | with_reducible apply State.raise1_effect | with_reducible apply State.bump_effect | with_reducible apply State.setTo_effect | with_reducible apply State.put_effect | with_reducible apply Effect.ite | split | dsimp only | exact bitParts hm (by decide) | exact bitOff hm (by decide) | rfl

theorem State.serRecord_effect {msk : Nat} {s0 : State} (s : State) (u slot : Nat) (hdg rate : Word) (hm : 0xc8100000d0040 &&& msk = 0xc8100000d0040) (h_s : Effect msk s0 s) :
    Effect msk s0 (State.serRecord s u slot hdg rate) := by
  unfold State.serRecord
  repeat' first | with_reducible intro _ | with_reducible assumption | with_reducible rfl | exact subParts hm (by decide) | with_reducible apply State.modUart_effect | with_reducible apply State.intake_effect | with_reducible apply State.bump_effect | with_reducible apply Effect.ite | split | dsimp only | exact bitParts hm (by decide) | exact bitOff hm (by decide) | rfl

theorem State.legacyHeading_effect {msk : Nat} {s0 : State} (s : State) (u slot : Nat) (h st r : List Byte) (hm : 0xc8100000d0040 &&& msk = 0xc8100000d0040) (h_s : Effect msk s0 s) :
    Effect msk s0 (State.legacyHeading s u slot h st r) := by
  unfold State.legacyHeading
  repeat' first | with_reducible intro _ | with_reducible assumption | with_reducible rfl | exact subParts hm (by decide) | with_reducible apply State.serRecord_effect | with_reducible apply Effect.ite | split | dsimp only | exact bitParts hm (by decide) | exact bitOff hm (by decide) | exact bitPlus hm (by decide) | exact bitKey hm (by decide) | rfl

theorem State.serDecode_effect {msk : Nat} {s0 : State} (s : State) (u : Nat) (dollar : Bool) (fs : List (List Byte)) (hm : 0xc8100000d0040 &&& msk = 0xc8100000d0040) (h_s : Effect msk s0 s) :
    Effect msk s0 (State.serDecode s u dollar fs) := by
  unfold State.serDecode
  repeat' first | with_reducible intro _ | with_reducible assumption | with_reducible rfl | exact subParts hm (by decide) | with_reducible apply State.legacyHeading_effect | with_reducible apply State.serRecord_effect | with_reducible apply State.modUart_effect | with_reducible apply Effect.ite | split | dsimp only | exact bitParts hm (by decide) | exact bitOff hm (by decide) | exact bitPlus hm (by decide) | exact bitKey hm (by decide) | rfl

theorem State.serClear_effect {msk : Nat} {s0 : State} (s : State) (u : Nat) (hm : 0x800000000000 &&& msk = 0x800000000000) (h_s : Effect msk s0 s) :
    Effect msk s0 (State.serClear s u) := by
  unfold State.serClear
  repeat' first | with_reducible intro _ | with_reducible assumption | with_reducible rfl | exact subParts hm (by decide) | with_reducible apply State.modUart_effect | with_reducible apply Effect.ite | split | dsimp only | rfl

theorem State.serDiscard_effect {msk : Nat} {s0 : State} (s : State) (u : Nat) (hm : 0xc8000000d0000 &&& msk = 0xc8000000d0000) (h_s : Effect msk s0 s) :
    Effect msk s0 (State.serDiscard s u) := by
  unfold State.serDiscard
  repeat' first | with_reducible intro _ | with_reducible assumption | with_reducible rfl | exact subParts hm (by decide) | with_reducible apply State.serClear_effect | with_reducible apply State.raise1_effect | with_reducible apply State.bump_effect | with_reducible apply Effect.ite | split | dsimp only | exact bitParts hm (by decide) | exact bitOff hm (by decide) | rfl

theorem State.serSentence_effect {msk : Nat} {s0 : State} (s : State) (u : Nat) (hm : 0xc8104000d0040 &&& msk = 0xc8104000d0040) (h_s : Effect msk s0 s) :
    Effect msk s0 (State.serSentence s u) := by
  unfold State.serSentence
  repeat' first | with_reducible intro _ | with_reducible assumption | with_reducible rfl | exact subParts hm (by decide) | with_reducible apply State.serDiscard_effect | with_reducible apply State.serClear_effect | with_reducible apply State.serDecode_effect | with_reducible apply State.serPush_effect | with_reducible apply State.setTo_effect | with_reducible apply Effect.ite | split | dsimp only | exact bitParts hm (by decide) | exact bitOff hm (by decide) | exact bitPlus hm (by decide) | exact bitKey hm (by decide) | rfl

theorem State.serText_effect {msk : Nat} {s0 : State} (s : State) (u : Nat) (ch : Byte) (err : Bool) (start : Nat) (hm : 0xc8104000d0040 &&& msk = 0xc8104000d0040) (h_s : Effect msk s0 s) :
    Effect msk s0 (State.serText s u ch err start) := by
  unfold State.serText
  repeat' first | with_reducible intro _ | with_reducible assumption | with_reducible rfl | exact subParts hm (by decide) | with_reducible apply State.serSentence_effect | with_reducible apply State.serDiscard_effect | with_reducible apply State.modUart_effect | with_reducible apply Effect.ite | split | dsimp only | rfl

theorem State.rawEnd_effect {msk : Nat} {s0 : State} (s : State) (u : Nat) (err : Bool) (hm : 0xc8004000d0000 &&& msk = 0xc8004000d0000) (h_s : Effect msk s0 s) :
    Effect msk s0 (State.rawEnd s u err) := by
  unfold State.rawEnd
  repeat' first | with_reducible intro _ | with_reducible assumption | with_reducible rfl | exact subParts hm (by decide) | with_reducible apply State.serPush_effect | with_reducible apply State.modUart_effect | with_reducible apply Effect.ite | split | dsimp only | rfl

theorem State.serRaw_effect {msk : Nat} {s0 : State} (s : State) (u : Nat) (ch : Byte) (err : Bool) (start : Nat) (hm : 0xc8004000d0000 &&& msk = 0xc8004000d0000) (h_s : Effect msk s0 s) :
    Effect msk s0 (State.serRaw s u ch err start) := by
  unfold State.serRaw
  repeat' first | with_reducible intro _ | with_reducible assumption | with_reducible rfl | exact subParts hm (by decide) | with_reducible apply State.rawEnd_effect | with_reducible apply State.modUart_effect | with_reducible apply Effect.ite | split | dsimp only | rfl

theorem State.serChar_effect {msk : Nat} {s0 : State} (s : State) (u : Nat) (ch : Byte) (framing parity overrun brk : Bool) (start : Nat) (hm : 0xc8104000d0040 &&& msk = 0xc8104000d0040) (h_s : Effect msk s0 s) :
    Effect msk s0 (State.serChar s u ch framing parity overrun brk start) := by
  unfold State.serChar
  repeat' first | with_reducible intro _ | with_reducible assumption | with_reducible rfl | exact subParts hm (by decide) | with_reducible apply State.serRaw_effect | with_reducible apply State.serText_effect | with_reducible apply State.modUart_effect | with_reducible apply State.setTo_effect | with_reducible apply Effect.ite | split | dsimp only | exact bitParts hm (by decide) | exact bitOff hm (by decide) | exact bitPlus hm (by decide) | exact bitKey hm (by decide) | rfl

theorem execCharacterReceived_effect {msk : Nat} {s0 : State} (u : Fin 8) (ch : Byte) (framing parity overrun brk : Bool) (start : Nat) (s : State) (hm : 0xc8104000d0040 &&& msk = 0xc8104000d0040) (h_s : Effect msk s0 s) :
    EffectOut msk s0 (execCharacterReceived u ch framing parity overrun brk start s) := by
  unfold execCharacterReceived
  repeat' first | with_reducible intro _ | with_reducible assumption | with_reducible rfl | with_reducible refine EffectOut.gate ?_ ?_ | with_reducible refine EffectOut.next ?_ | exact subParts hm (by decide) | with_reducible apply State.serChar_effect | with_reducible apply Effect.ite | split | dsimp only | rfl

theorem State.rawIdle_effect {msk : Nat} {s0 : State} (s : State) (u : Nat) (hm : 0x27efcc4000d2000 &&& msk = 0x27efcc4000d2000) (h_s : Effect msk s0 s) :
    Effect msk s0 (State.rawIdle s u) := by
  unfold State.rawIdle
  repeat' first | with_reducible intro _ | with_reducible assumption | with_reducible rfl | exact subParts hm (by decide) | with_reducible apply State.rawEnd_effect | with_reducible apply State.runTo_effect | with_reducible apply Effect.ite | split | dsimp only | exact bitParts hm (by decide) | exact bitOff hm (by decide) | exact bitPlus hm (by decide) | exact bitKey hm (by decide) | rfl

theorem execRawIdle_effect {msk : Nat} {s0 : State} (u : Fin 8) (s : State) (hm : 0x27efcc4000d2000 &&& msk = 0x27efcc4000d2000) (h_s : Effect msk s0 s) :
    EffectOut msk s0 (execRawIdle u s) := by
  unfold execRawIdle
  repeat' first | with_reducible intro _ | with_reducible assumption | with_reducible rfl | with_reducible refine EffectOut.gate ?_ ?_ | with_reducible refine EffectOut.next ?_ | exact subParts hm (by decide) | with_reducible apply State.rawIdle_effect | with_reducible apply Effect.ite | split | dsimp only | exact bitParts hm (by decide) | exact bitOff hm (by decide) | exact bitPlus hm (by decide) | exact bitKey hm (by decide) | rfl

theorem execLineSilence_effect {msk : Nat} {s0 : State} (u : Fin 8) (brk : Bool) (s : State) (hm : 0x27efcc0000d2000 &&& msk = 0x27efcc0000d2000) (h_s : Effect msk s0 s) :
    EffectOut msk s0 (execLineSilence u brk s) := by
  unfold execLineSilence
  repeat' first | with_reducible intro _ | with_reducible assumption | with_reducible rfl | with_reducible refine EffectOut.gate ?_ ?_ | with_reducible refine EffectOut.next ?_ | exact subParts hm (by decide) | with_reducible apply State.runTo_effect | with_reducible apply State.raise1_effect | with_reducible apply State.setTo_effect | with_reducible apply Effect.ite | split | dsimp only | exact bitParts hm (by decide) | exact bitOff hm (by decide) | exact bitPlus hm (by decide) | exact bitKey hm (by decide) | rfl

theorem State.showTx_effect {msk : Nat} {s0 : State} (s : State) (u : Nat) (hm : 0x10000 &&& msk = 0x10000) (h_s : Effect msk s0 s) :
    Effect msk s0 (State.showTx s u) := by
  unfold State.showTx
  repeat' first | with_reducible intro _ | with_reducible assumption | with_reducible rfl | exact subParts hm (by decide) | with_reducible apply State.setTo_effect | with_reducible apply State.put_effect | with_reducible apply Effect.ite | split | dsimp only | exact bitParts hm (by decide) | exact bitOff hm (by decide) | rfl

theorem State.writeTx_effect {msk : Nat} {s0 : State} (s : State) (u : Nat) (b : Byte) (hm : 0x800000010000 &&& msk = 0x800000010000) (h_s : Effect msk s0 s) :
    Effect msk s0 (State.writeTx s u b) := by
  unfold State.writeTx
  repeat' first | with_reducible intro _ | with_reducible assumption | with_reducible rfl | exact subParts hm (by decide) | with_reducible apply State.showTx_effect | with_reducible apply State.modUart_effect | with_reducible apply State.bump_effect | with_reducible apply Effect.ite | split | dsimp only | exact bitParts hm (by decide) | exact bitOff hm (by decide) | rfl

theorem execSerTxdata_effect {msk : Nat} {s0 : State} (_req : Req) (u : Fin 8) (b : Byte) (s : State) (hm : 0x800000010000 &&& msk = 0x800000010000) (h_s : Effect msk s0 s) :
    EffectOut msk s0 (execSerTxdata _req u b s) := by
  unfold execSerTxdata
  repeat' first | with_reducible intro _ | with_reducible assumption | with_reducible rfl | with_reducible refine EffectOut.gate ?_ ?_ | with_reducible refine EffectOut.next ?_ | exact subParts hm (by decide) | with_reducible apply State.writeTx_effect | with_reducible apply Effect.ite | split | dsimp only | rfl

theorem execCharacterSent_effect {msk : Nat} {s0 : State} (u : Fin 8) (s : State) (hm : 0x800000010000 &&& msk = 0x800000010000) (h_s : Effect msk s0 s) :
    EffectOut msk s0 (execCharacterSent u s) := by
  unfold execCharacterSent
  repeat' first | with_reducible intro _ | with_reducible assumption | with_reducible rfl | with_reducible refine EffectOut.gate ?_ ?_ | with_reducible refine EffectOut.next ?_ | exact subParts hm (by decide) | with_reducible apply State.showTx_effect | with_reducible apply State.modUart_effect | with_reducible apply Effect.ite | split | dsimp only | exact bitParts hm (by decide) | exact bitOff hm (by decide) | exact bitPlus hm (by decide) | exact bitKey hm (by decide) | rfl

theorem execSerConsWrite_effect {msk : Nat} {s0 : State} (_req : Req) (u : Fin 8) (cons : Fin 64) (s : State) (hm : 0x10000 &&& msk = 0x10000) (h_s : Effect msk s0 s) :
    EffectOut msk s0 (execSerConsWrite _req u cons s) := by
  unfold execSerConsWrite
  repeat' first | with_reducible intro _ | with_reducible assumption | with_reducible rfl | with_reducible refine EffectOut.gate ?_ ?_ | with_reducible refine EffectOut.next ?_ | exact subParts hm (by decide) | with_reducible apply State.put_effect | with_reducible apply Effect.ite | split | dsimp only | exact bitParts hm (by decide) | exact bitOff hm (by decide) | rfl

end Sys2Proof.Machine
end

