-- ==== Sys2Proof/Laws/EffectLife.lean ====
section
/-! SUPPORT. What the operations of Machine/Life.lean do: the parts of the state that each may change. -/

set_option linter.unusedTactic false
set_option linter.unusedVariables false
set_option linter.unreachableTactic false

namespace Sys2Proof.Machine

theorem State.gridStart_effect {msk : Nat} {s0 : State} (s : State) (hm : 0x200000000000000 &&& msk = 0x200000000000000) (h_s : Effect msk s0 s) :
    Effect msk s0 (State.gridStart s) := by
  unfold State.gridStart
  repeat' first | with_reducible intro _ | with_reducible assumption | with_reducible rfl | exact subParts hm (by decide) | with_reducible apply State.modBoot_effect | with_reducible apply Effect.ite | split | dsimp only | exact bitParts hm (by decide) | exact bitOff hm (by decide) | exact bitPlus hm (by decide) | exact bitKey hm (by decide) | rfl

theorem State.timeReady_effect {msk : Nat} {s0 : State} (s : State) (hm : 0x200000000000002 &&& msk = 0x200000000000002) (h_s : Effect msk s0 s) :
    Effect msk s0 (State.timeReady s) := by
  unfold State.timeReady
  repeat' first | with_reducible intro _ | with_reducible assumption | with_reducible rfl | exact subParts hm (by decide) | with_reducible apply State.gridStart_effect | with_reducible apply State.setTo_effect | with_reducible apply Effect.ite | split | dsimp only | exact bitParts hm (by decide) | exact bitOff hm (by decide) | rfl

theorem execTimeReady_effect {msk : Nat} {s0 : State} (_req : Req) (s : State) (hm : 0x200000000000002 &&& msk = 0x200000000000002) (h_s : Effect msk s0 s) :
    EffectOut msk s0 (execTimeReady _req s) := by
  unfold execTimeReady
  repeat' first | with_reducible intro _ | with_reducible assumption | with_reducible rfl | with_reducible refine EffectOut.gate ?_ ?_ | with_reducible refine EffectOut.rooted ?_ ?_ | with_reducible refine EffectOut.reach ?_ ?_ | with_reducible refine EffectOut.next ?_ | exact subParts hm (by decide) | with_reducible apply State.timeReady_effect | with_reducible apply Effect.ite | split | dsimp only | exact bitParts hm (by decide) | exact bitOff hm (by decide) | exact bitPlus hm (by decide) | exact bitKey hm (by decide) | rfl

theorem State.gridTimeout_effect {msk : Nat} {s0 : State} (s : State) (hm : 0x27efcc0000c2002 &&& msk = 0x27efcc0000c2002) (h_s : Effect msk s0 s) :
    Effect msk s0 (State.gridTimeout s) := by
  unfold State.gridTimeout
  repeat' first | with_reducible intro _ | with_reducible assumption | with_reducible rfl | exact subParts hm (by decide) | with_reducible apply State.gridStart_effect | with_reducible apply State.runTo_effect | with_reducible apply State.raise_effect | with_reducible apply State.setTo_effect | with_reducible apply Effect.ite | split | dsimp only | exact bitParts hm (by decide) | exact bitOff hm (by decide) | rfl

theorem execGridWaitExpiry_effect {msk : Nat} {s0 : State} (s : State) (hm : 0x27efcc0000c2002 &&& msk = 0x27efcc0000c2002) (h_s : Effect msk s0 s) :
    EffectOut msk s0 (execGridWaitExpiry s) := by
  unfold execGridWaitExpiry
  repeat' first | with_reducible intro _ | with_reducible assumption | with_reducible rfl | with_reducible refine EffectOut.gate ?_ ?_ | with_reducible refine EffectOut.rooted ?_ ?_ | with_reducible refine EffectOut.reach ?_ ?_ | with_reducible refine EffectOut.next ?_ | exact subParts hm (by decide) | with_reducible apply State.gridTimeout_effect | with_reducible apply Effect.ite | split | dsimp only | exact bitParts hm (by decide) | exact bitOff hm (by decide) | exact bitPlus hm (by decide) | exact bitKey hm (by decide) | rfl

theorem State.flashClear_effect {msk : Nat} {s0 : State} (s : State) (a n : Nat) (hm : 0x1000000000 &&& msk = 0x1000000000) (h_s : Effect msk s0 s) :
    Effect msk s0 (State.flashClear s a n) := by
  unfold State.flashClear
  repeat' first | with_reducible intro _ | with_reducible assumption | with_reducible rfl | with_reducible apply Effect.ite | split | dsimp only | with_reducible refine Effect.flash ?_ ?_ ?_ | with_reducible apply swf_writeBytes | with_reducible apply swf_filter | with_reducible apply swf_writeWord | with_reducible apply swf_writeWords | exact bitParts hm (by decide) | rfl

theorem State.eraseEntry_effect {msk : Nat} {s0 : State} (s : State) (e : List Byte) (hm : 0x1000000000 &&& msk = 0x1000000000) (h_s : Effect msk s0 s) :
    Effect msk s0 (State.eraseEntry s e) := by
  unfold State.eraseEntry
  repeat' first | with_reducible intro _ | with_reducible assumption | with_reducible rfl | exact subParts hm (by decide) | with_reducible apply State.flashClear_effect | with_reducible apply Effect.foldl | with_reducible apply Effect.ite | split | dsimp only | rfl

theorem State.eraseUser_effect {msk : Nat} {s0 : State} (s : State) (hm : 0x1000000000 &&& msk = 0x1000000000) (h_s : Effect msk s0 s) :
    Effect msk s0 (State.eraseUser s) := by
  unfold State.eraseUser
  repeat' first | with_reducible intro _ | with_reducible assumption | with_reducible rfl | exact subParts hm (by decide) | with_reducible apply State.eraseEntry_effect | with_reducible apply State.flashClear_effect | with_reducible apply Effect.foldl | with_reducible apply Effect.ite | split | dsimp only | rfl

/-- A bit of `m` is kept in `m ||| n`. -/
theorem blownIn_or (m n : Nat) : blownIn m (m ||| n) := fun k h => by simp [Nat.testBit_or, h]

theorem State.blow_effect {m : Nat} {s0 : State} (s : State) (ok : Bool) (revoke bit : Nat) (digests : Option (List Byte))
    (hm : 0x600000000000002 &&& m = 0x600000000000002) (h_s : Effect m s0 s) : Effect m s0 (State.blow s ok revoke bit digests) := by
  have b : m.testBit 57 = true := bitParts hm (by decide)
  have key : ∀ f : Fuses, s.boot.fuses.Kept f → Effect m s0 (s.modBoot fun b => { b with fuses := f }) := fun f hf =>
    ⟨⟨h_s.kept.regs, h_s.kept.eff, h_s.kept.mem, h_s.kept.pending, h_s.kept.variant, h_s.kept.sizes, h_s.kept.fuses.trans hf⟩,
      { h_s.within with boot := fun c => absurd (c.symm.trans b) Bool.false_ne_true }⟩
  unfold State.blow
  refine Effect.ite ?_ (State.nextFree_effect _ (subParts hm (by decide)) ?_) <;>
    exact State.put_effect _ _ _ (bitParts hm (by decide)) (State.put_effect _ _ _ (bitParts hm (by decide))
      (key _ ⟨blownIn_or _ _, blownIn_or _ _, blownIn_or _ _, rfl⟩))

theorem State.lcReturn_effect {msk : Nat} {s0 : State} (s : State) (ok : Bool) (steps : Nat) (hm : 0x600001000000002 &&& msk = 0x600001000000002) (h_s : Effect msk s0 s) :
    Effect msk s0 (State.lcReturn s ok steps) := by
  unfold State.lcReturn
  repeat' first | with_reducible intro _ | with_reducible assumption | with_reducible rfl | exact subParts hm (by decide) | with_reducible apply State.blow_effect | with_reducible apply State.eraseUser_effect | with_reducible apply Effect.ite | split | dsimp only | exact bitParts hm (by decide) | exact bitOff hm (by decide) | exact bitPlus hm (by decide) | exact bitKey hm (by decide) | rfl

theorem State.lcAct_effect {msk : Nat} {s0 : State} (s : State) (op keys : Nat) (ok : Bool) (steps : Nat) (hm : 0x600001000000002 &&& msk = 0x600001000000002) (h_s : Effect msk s0 s) :
    Effect msk s0 (State.lcAct s op keys ok steps) := by
  unfold State.lcAct
  repeat' first | with_reducible intro _ | with_reducible assumption | with_reducible rfl | exact subParts hm (by decide) | with_reducible apply State.lcReturn_effect | with_reducible apply State.blow_effect | with_reducible apply Effect.ite | split | dsimp only | exact bitParts hm (by decide) | exact bitOff hm (by decide) | exact bitPlus hm (by decide) | exact bitKey hm (by decide) | rfl

theorem State.lcCommand_effect {msk : Nat} {s0 : State} (s : State) (op confirm keys : Nat) (ok : Bool) (steps : Nat) (hm : 0x60c0010000c0002 &&& msk = 0x60c0010000c0002) (h_s : Effect msk s0 s) :
    Effect msk s0 (State.lcCommand s op confirm keys ok steps) := by
  unfold State.lcCommand
  repeat' first | with_reducible intro _ | with_reducible assumption | with_reducible rfl | exact subParts hm (by decide) | with_reducible apply State.lcAct_effect | with_reducible apply State.raise2_effect | with_reducible apply State.setTo_effect | with_reducible apply State.put_effect | with_reducible apply Effect.ite | split | dsimp only | exact bitParts hm (by decide) | exact bitOff hm (by decide) | exact bitPlus hm (by decide) | exact bitKey hm (by decide) | rfl

theorem State.lcRow_effect {msk : Nat} {s0 : State} (s : State) (p : Port) (op : Nat) (confirm : Byte) (keys : Nat) (ok : Bool) (steps : Nat) (hm : 0x60c0010000c0002 &&& msk = 0x60c0010000c0002) (h_s : Effect msk s0 s) :
    EffectOut msk s0 (State.lcRow s p op confirm keys ok steps) := by
  unfold State.lcRow
  repeat' first | with_reducible intro _ | with_reducible assumption | with_reducible rfl | with_reducible refine EffectOut.gate ?_ ?_ | with_reducible refine EffectOut.rooted ?_ ?_ | with_reducible refine EffectOut.reach ?_ ?_ | with_reducible refine EffectOut.next ?_ | exact subParts hm (by decide) | with_reducible apply State.lcCommand_effect | with_reducible apply Effect.ite | split | dsimp only | exact bitParts hm (by decide) | exact bitOff hm (by decide) | exact bitPlus hm (by decide) | exact bitKey hm (by decide) | rfl

theorem execProvision_effect {msk : Nat} {s0 : State} (port : Port) (confirm : Byte) (ok : Bool) (s : State) (hm : 0x60c0010000c0002 &&& msk = 0x60c0010000c0002) (h_s : Effect msk s0 s) :
    EffectOut msk s0 (execProvision port confirm ok s) := by
  unfold execProvision
  repeat' first | with_reducible intro _ | with_reducible assumption | with_reducible rfl | with_reducible refine EffectOut.gate ?_ ?_ | with_reducible refine EffectOut.rooted ?_ ?_ | with_reducible refine EffectOut.reach ?_ ?_ | with_reducible refine EffectOut.next ?_ | exact subParts hm (by decide) | with_reducible apply State.lcRow_effect | with_reducible apply Effect.ite | split | dsimp only | exact bitParts hm (by decide) | exact bitOff hm (by decide) | exact bitPlus hm (by decide) | exact bitKey hm (by decide) | rfl

theorem execSeal_effect {msk : Nat} {s0 : State} (port : Port) (confirm : Byte) (ok : Bool) (s : State) (hm : 0x60c0010000c0002 &&& msk = 0x60c0010000c0002) (h_s : Effect msk s0 s) :
    EffectOut msk s0 (execSeal port confirm ok s) := by
  unfold execSeal
  repeat' first | with_reducible intro _ | with_reducible assumption | with_reducible rfl | with_reducible refine EffectOut.gate ?_ ?_ | with_reducible refine EffectOut.rooted ?_ ?_ | with_reducible refine EffectOut.reach ?_ ?_ | with_reducible refine EffectOut.next ?_ | exact subParts hm (by decide) | with_reducible apply State.lcRow_effect | with_reducible apply Effect.ite | split | dsimp only | exact bitParts hm (by decide) | exact bitOff hm (by decide) | exact bitPlus hm (by decide) | exact bitKey hm (by decide) | rfl

theorem execReturnLc_effect {msk : Nat} {s0 : State} (port : Port) (confirm : Byte) (run : ReturnRun) (s : State) (hm : 0x60c0010000c0002 &&& msk = 0x60c0010000c0002) (h_s : Effect msk s0 s) :
    EffectOut msk s0 (execReturnLc port confirm run s) := by
  unfold execReturnLc
  repeat' first | with_reducible intro _ | with_reducible assumption | with_reducible rfl | with_reducible refine EffectOut.gate ?_ ?_ | with_reducible refine EffectOut.rooted ?_ ?_ | with_reducible refine EffectOut.reach ?_ ?_ | with_reducible refine EffectOut.next ?_ | exact subParts hm (by decide) | with_reducible apply State.lcRow_effect | with_reducible apply Effect.ite | split | dsimp only | exact bitParts hm (by decide) | exact bitOff hm (by decide) | exact bitPlus hm (by decide) | exact bitKey hm (by decide) | rfl

theorem execDecommission_effect {msk : Nat} {s0 : State} (port : Port) (confirm : Byte) (ok : Bool) (s : State) (hm : 0x60c0010000c0002 &&& msk = 0x60c0010000c0002) (h_s : Effect msk s0 s) :
    EffectOut msk s0 (execDecommission port confirm ok s) := by
  unfold execDecommission
  repeat' first | with_reducible intro _ | with_reducible assumption | with_reducible rfl | with_reducible refine EffectOut.gate ?_ ?_ | with_reducible refine EffectOut.rooted ?_ ?_ | with_reducible refine EffectOut.reach ?_ ?_ | with_reducible refine EffectOut.next ?_ | exact subParts hm (by decide) | with_reducible apply State.lcRow_effect | with_reducible apply Effect.ite | split | dsimp only | exact bitParts hm (by decide) | exact bitOff hm (by decide) | exact bitPlus hm (by decide) | exact bitKey hm (by decide) | rfl

theorem execRevoke_effect {msk : Nat} {s0 : State} (port : Port) (confirm : Byte) (keys : Fin 16) (ok : Bool) (s : State) (hm : 0x60c0010000c0002 &&& msk = 0x60c0010000c0002) (h_s : Effect msk s0 s) :
    EffectOut msk s0 (execRevoke port confirm keys ok s) := by
  unfold execRevoke
  repeat' first | with_reducible intro _ | with_reducible assumption | with_reducible rfl | with_reducible refine EffectOut.gate ?_ ?_ | with_reducible refine EffectOut.rooted ?_ ?_ | with_reducible refine EffectOut.reach ?_ ?_ | with_reducible refine EffectOut.next ?_ | exact subParts hm (by decide) | with_reducible apply State.lcRow_effect | with_reducible apply Effect.ite | split | dsimp only | exact bitParts hm (by decide) | exact bitOff hm (by decide) | exact bitPlus hm (by decide) | exact bitKey hm (by decide) | rfl

end Sys2Proof.Machine
end

