-- ==== Sys2Proof/Laws/EffectRegisters.lean ====
section
/-! SUPPORT. What the operations of Machine/Registers.lean do: the parts of the state that each may change. -/

set_option linter.unusedTactic false
set_option linter.unusedVariables false
set_option linter.unreachableTactic false

namespace Sys2Proof.Machine

theorem State.goIf_effect {msk : Nat} {s0 : State} (s : State) (f : Fld) (v : Nat) (g : State → State) (hm : 0x0 &&& msk = 0x0) (h_s : Effect msk s0 s) (h_g : ∀ t, Effect msk s0 t → Effect msk s0 (g t)) :
    Effect msk s0 (State.goIf s f v g) := by
  unfold State.goIf
  repeat' first | with_reducible intro _ | with_reducible assumption | with_reducible rfl | with_reducible apply h_g | with_reducible apply Effect.ite | split | dsimp only | rfl

theorem State.keepNextStart_effect {msk : Nat} {s0 : State} (s : State) (n : Nat) (hm : 0x2000004000 &&& msk = 0x2000004000) (h_s : Effect msk s0 s) :
    Effect msk s0 (State.keepNextStart s n) := by
  unfold State.keepNextStart
  repeat' first | with_reducible intro _ | with_reducible assumption | with_reducible rfl | exact subParts hm (by decide) | with_reducible apply State.retPut_effect | with_reducible apply Effect.ite | split | dsimp only | exact bitParts hm (by decide) | exact bitOff hm (by decide) | exact bitPlus hm (by decide) | exact bitKey hm (by decide) | rfl

theorem State.writeBoot_effect {msk : Nat} {s0 : State} (p : State) (req : Req) (off v : Nat) (hm : 0x60c0030000c4002 &&& msk = 0x60c0030000c4002) (h_p : Effect msk s0 p) :
    Effect msk s0 (State.writeBoot p req off v) := by
  unfold State.writeBoot
  repeat' first | with_reducible intro _ | with_reducible assumption | with_reducible rfl | exact subParts hm (by decide) | with_reducible apply State.keepNextStart_effect | with_reducible apply State.goIf_effect | with_reducible apply State.lcCommand_effect | with_reducible apply State.timeReady_effect | with_reducible apply Effect.ite | split | dsimp only | exact bitParts hm (by decide) | exact bitOff hm (by decide) | exact bitPlus hm (by decide) | exact bitKey hm (by decide) | rfl

theorem State.writeCdr_effect {msk : Nat} {s0 : State} (p : State) (off v : Nat) (hm : 0xc0040000c0020 &&& msk = 0xc0040000c0020) (h_p : Effect msk s0 p) :
    Effect msk s0 (State.writeCdr p off v) := by
  unfold State.writeCdr
  repeat' first | with_reducible intro _ | with_reducible assumption | with_reducible rfl | exact subParts hm (by decide) | with_reducible apply State.goIf_effect | with_reducible apply State.ocCommit_effect | with_reducible apply State.ocSwitch_effect | with_reducible apply State.ocLoad_effect | with_reducible apply State.restartReq_effect | with_reducible apply State.rollBack_effect | with_reducible apply State.ocCancel_effect | with_reducible apply Effect.ite | split | dsimp only | rfl

theorem State.writeFus_effect {msk : Nat} {s0 : State} (p : State) (off v : Nat) (hm : 0x10000000040 &&& msk = 0x10000000040) (h_p : Effect msk s0 p) :
    Effect msk s0 (State.writeFus p off v) := by
  unfold State.writeFus
  repeat' first | with_reducible intro _ | with_reducible assumption | with_reducible rfl | exact subParts hm (by decide) | with_reducible apply State.goIf_effect | with_reducible apply State.datumCommit_effect | with_reducible apply State.retCommit_effect | with_reducible apply State.modFus_effect | with_reducible apply State.setTo_effect | with_reducible apply Effect.ite | split | dsimp only | exact bitParts hm (by decide) | exact bitOff hm (by decide) | exact bitPlus hm (by decide) | exact bitKey hm (by decide) | rfl

theorem State.writeOry_effect {msk : Nat} {s0 : State} (p : State) (off v : Nat) (hm : 0x5cc0104000c01c0 &&& msk = 0x5cc0104000c01c0) (h_p : Effect msk s0 p) :
    Effect msk s0 (State.writeOry p off v) := by
  unfold State.writeOry
  repeat' first | with_reducible intro _ | with_reducible assumption | with_reducible rfl | exact subParts hm (by decide) | with_reducible apply State.goIf_effect | with_reducible apply State.drainDone_effect | with_reducible apply State.hostAbort_effect | with_reducible apply State.showOry_effect | with_reducible apply State.planCommit_effect | with_reducible apply Effect.ite | split | dsimp only | rfl

theorem State.writeCtl_effect {msk : Nat} {s0 : State} (p : State) (off v : Nat) (hm : 0x8c0000000c0100 &&& msk = 0x8c0000000c0100) (h_p : Effect msk s0 p) :
    Effect msk s0 (State.writeCtl p off v) := by
  unfold State.writeCtl
  repeat' first | with_reducible intro _ | with_reducible assumption | with_reducible rfl | exact subParts hm (by decide) | with_reducible apply State.goIf_effect | with_reducible apply State.colStop_effect | with_reducible apply State.colStart_effect | with_reducible apply State.paramCommit_effect | with_reducible apply State.setCommit_effect | with_reducible apply Effect.ite | split | dsimp only | exact bitParts hm (by decide) | exact bitOff hm (by decide) | exact bitPlus hm (by decide) | exact bitKey hm (by decide) | rfl

theorem State.writeEph_effect {msk : Nat} {s0 : State} (p : State) (off v : Nat) (hm : 0x100000000000200 &&& msk = 0x100000000000200) (h_p : Effect msk s0 p) :
    Effect msk s0 (State.writeEph p off v) := by
  unfold State.writeEph
  repeat' first | with_reducible intro _ | with_reducible assumption | with_reducible rfl | exact subParts hm (by decide) | with_reducible apply State.goIf_effect | with_reducible apply State.tableCommit_effect | with_reducible apply Effect.ite | split | dsimp only | exact bitParts hm (by decide) | exact bitOff hm (by decide) | exact bitPlus hm (by decide) | exact bitKey hm (by decide) | rfl

theorem State.writeRdn_effect {msk : Nat} {s0 : State} (p : State) (off v : Nat) (hm : 0xd0480000d0e00 &&& msk = 0xd0480000d0e00) (h_p : Effect msk s0 p) :
    Effect msk s0 (State.writeRdn p off v) := by
  unfold State.writeRdn
  repeat' first | with_reducible intro _ | with_reducible assumption | with_reducible rfl | exact subParts hm (by decide) | with_reducible apply State.goIf_effect | with_reducible apply State.diagGo_effect | with_reducible apply State.setTo_effect | with_reducible apply Effect.ite | split | dsimp only | exact bitParts hm (by decide) | exact bitOff hm (by decide) | rfl

theorem State.writeXl_effect {msk : Nat} {s0 : State} (s p : State) (off v : Nat) (hm : 0xc0800000c1000 &&& msk = 0xc0800000c1000) (h_s : Effect msk s0 s) (h_p : Effect msk s0 p) :
    Effect msk s0 (State.writeXl s p off v) := by
  unfold State.writeXl
  repeat' first | with_reducible intro _ | with_reducible assumption | with_reducible rfl | exact subParts hm (by decide) | with_reducible apply State.stnCmdGo_effect | with_reducible apply Effect.ite | split | dsimp only | rfl

theorem State.writePort_effect {msk : Nat} {s0 : State} (s p : State) (n reg v : Nat) (hm : 0x200c00002000 &&& msk = 0x200c00002000) (h_s : Effect msk s0 s) (h_p : Effect msk s0 p) :
    Effect msk s0 (State.writePort s p n reg v) := by
  unfold State.writePort
  repeat' first | with_reducible intro _ | with_reducible assumption | with_reducible rfl | exact subParts hm (by decide) | with_reducible apply State.portEnable_effect | with_reducible apply State.setTo_effect | with_reducible apply Effect.ite | split | dsimp only | exact bitParts hm (by decide) | exact bitOff hm (by decide) | rfl

theorem State.writeEth_effect {msk : Nat} {s0 : State} (s p : State) (off v : Nat) (hm : 0xc300c000c2000 &&& msk = 0xc300c000c2000) (h_s : Effect msk s0 s) (h_p : Effect msk s0 p) :
    Effect msk s0 (State.writeEth s p off v) := by
  unfold State.writeEth
  repeat' first | with_reducible intro _ | with_reducible assumption | with_reducible rfl | exact subParts hm (by decide) | with_reducible apply State.writePort_effect | with_reducible apply State.goIf_effect | with_reducible apply State.lqCancel_effect | with_reducible apply State.writeIncr_effect | with_reducible apply State.slewGo_effect | with_reducible apply State.stepGo_effect | with_reducible apply State.freeRate_effect | with_reducible apply State.showTb_effect | with_reducible apply Effect.ite | split | dsimp only | rfl

theorem State.writeMerCtrl_effect {msk : Nat} {s0 : State} (s p : State) (v : Nat) (hm : 0x10000000004000 &&& msk = 0x10000000004000) (h_s : Effect msk s0 s) (h_p : Effect msk s0 p) :
    Effect msk s0 (State.writeMerCtrl s p v) := by
  unfold State.writeMerCtrl
  repeat' first | with_reducible intro _ | with_reducible assumption | with_reducible rfl | exact subParts hm (by decide) | with_reducible apply State.goIf_effect | with_reducible apply State.shiftGo_effect | with_reducible apply State.merHalt_effect | with_reducible apply Effect.ite | split | dsimp only | rfl

theorem State.writeMer_effect {msk : Nat} {s0 : State} (s p : State) (off v hwSet : Nat) (hm : 0x7ffffecffffffff &&& msk = 0x7ffffecffffffff) (h_s : Effect msk s0 s) (h_p : Effect msk s0 p) :
    Effect msk s0 (State.writeMer s p off v hwSet) := by
  unfold State.writeMer
  repeat' first | with_reducible intro _ | with_reducible assumption | with_reducible rfl | exact subParts hm (by decide) | with_reducible apply State.writeMerCtrl_effect | with_reducible apply State.goIf_effect | with_reducible apply State.cycleGo_effect | with_reducible apply State.timeLostClear_effect | with_reducible apply State.calWrite_effect | with_reducible apply State.pwrStart_effect | with_reducible apply Effect.ite | split | dsimp only | exact bitParts hm (by decide) | exact bitOff hm (by decide) | exact bitPlus hm (by decide) | exact bitKey hm (by decide) | rfl

theorem State.writeObj_effect {msk : Nat} {s0 : State} (s p : State) (c k w : Nat) (hm : 0x8000 &&& msk = 0x8000) (h_s : Effect msk s0 s) (h_p : Effect msk s0 p) :
    Effect msk s0 (State.writeObj s p c k w) := by
  unfold State.writeObj
  repeat' first | with_reducible intro _ | with_reducible assumption | with_reducible rfl | exact subParts hm (by decide) | with_reducible apply State.bump_effect | with_reducible apply State.put_effect | with_reducible apply Effect.ite | split | dsimp only | exact bitParts hm (by decide) | exact bitOff hm (by decide) | rfl

theorem State.writeCan_effect {msk : Nat} {s0 : State} (s p : State) (off v : Nat) (hm : 0xc4000000c8000 &&& msk = 0xc4000000c8000) (h_s : Effect msk s0 s) (h_p : Effect msk s0 p) :
    Effect msk s0 (State.writeCan s p off v) := by
  unfold State.writeCan
  repeat' first | with_reducible intro _ | with_reducible assumption | with_reducible rfl | exact subParts hm (by decide) | with_reducible apply State.writeObj_effect | with_reducible apply State.goIf_effect | with_reducible apply State.canEnable_effect | with_reducible apply State.canTxreq_effect | with_reducible apply State.canRecover_effect | with_reducible apply State.setTo_effect | with_reducible apply Effect.ite | split | dsimp only | exact bitParts hm (by decide) | exact bitOff hm (by decide) | rfl

theorem State.writeSerDio_effect {msk : Nat} {s0 : State} (s p : State) (req : Req) (off v : Nat) (hm : 0xd8000000d0200 &&& msk = 0xd8000000d0200) (h_s : Effect msk s0 s) (h_p : Effect msk s0 p) :
    Effect msk s0 (State.writeSerDio s p req off v) := by
  unfold State.writeSerDio
  repeat' first | with_reducible intro _ | with_reducible assumption | with_reducible rfl | exact subParts hm (by decide) | with_reducible apply State.writeClaim_effect | with_reducible apply State.invChange_effect | with_reducible apply State.dioSettle_effect | with_reducible apply State.writeTx_effect | with_reducible apply Effect.ite | split | dsimp only | exact bitParts hm (by decide) | exact bitOff hm (by decide) | exact bitPlus hm (by decide) | exact bitKey hm (by decide) | rfl

theorem State.writeSdf_effect {msk : Nat} {s0 : State} (s p : State) (off v : Nat) (hm : 0xe0000000e0000 &&& msk = 0xe0000000e0000) (h_s : Effect msk s0 s) (h_p : Effect msk s0 p) :
    Effect msk s0 (State.writeSdf s p off v) := by
  unfold State.writeSdf
  repeat' first | with_reducible intro _ | with_reducible assumption | with_reducible rfl | exact subParts hm (by decide) | with_reducible apply State.writeSdmClk_effect | with_reducible apply State.writeSdfCfg_effect | with_reducible apply State.writeCoef_effect | with_reducible apply State.writeFir_effect | with_reducible apply State.writeSdfEn_effect | with_reducible apply State.showSdf_effect | with_reducible apply Effect.ite | split | dsimp only | rfl

theorem State.evEnable_effect {msk : Nat} {s0 : State} (s p : State) (i : Nat) (hm : 0x4000000040000 &&& msk = 0x4000000040000) (h_s : Effect msk s0 s) (h_p : Effect msk s0 p) :
    Effect msk s0 (State.evEnable s p i) := by
  unfold State.evEnable
  repeat' first | with_reducible intro _ | with_reducible assumption | with_reducible rfl | exact subParts hm (by decide) | with_reducible apply State.notifyGroup_effect | with_reducible apply Effect.ite | split | dsimp only | rfl

theorem State.writeRing_effect {msk : Nat} {s0 : State} (s p : State) (k reg v : Nat) (hm : 0x1cc0144000c01e0 &&& msk = 0x1cc0144000c01e0) (h_s : Effect msk s0 s) (h_p : Effect msk s0 p) :
    Effect msk s0 (State.writeRing s p k reg v) := by
  unfold State.writeRing
  repeat' first | with_reducible intro _ | with_reducible assumption | with_reducible rfl | exact subParts hm (by decide) | with_reducible apply State.ringOff_effect | with_reducible apply State.threshMessage_effect | with_reducible apply State.ringOn_effect | with_reducible apply State.setTo_effect | with_reducible apply Effect.ite | split | dsimp only | exact bitParts hm (by decide) | exact bitOff hm (by decide) | exact bitPlus hm (by decide) | exact bitKey hm (by decide) | rfl

theorem State.writeHif_effect {msk : Nat} {s0 : State} (s p : State) (req : Req) (off v hwSet : Nat) (hm : 0x1cc0144000c01e0 &&& msk = 0x1cc0144000c01e0) (h_s : Effect msk s0 s) (h_p : Effect msk s0 p) :
    Effect msk s0 (State.writeHif s p req off v hwSet) := by
  unfold State.writeHif
  repeat' first | with_reducible intro _ | with_reducible assumption | with_reducible rfl | exact subParts hm (by decide) | with_reducible apply State.writeRing_effect | with_reducible apply State.evEnable_effect | with_reducible apply State.unmask_effect | with_reducible apply State.clearPend_effect | with_reducible apply Effect.ite | split | dsimp only | rfl

theorem State.writeAlm_effect {msk : Nat} {s0 : State} (s p : State) (req : Req) (off v : Nat) (hm : 0x7fffffcffffffff &&& msk = 0x7fffffcffffffff) (h_s : Effect msk s0 s) (h_p : Effect msk s0 p) :
    Effect msk s0 (State.writeAlm s p req off v) := by
  unfold State.writeAlm
  repeat' first | with_reducible intro _ | with_reducible assumption | with_reducible rfl | exact subParts hm (by decide) | with_reducible apply State.goIf_effect | with_reducible apply State.plateRelease_effect | with_reducible apply State.plateTrigger_effect | with_reducible apply State.rdGo_effect | with_reducible apply State.swGo_effect | with_reducible apply Effect.ite | split | dsimp only | rfl

theorem State.writeBlock_effect {msk : Nat} {s0 : State} (s p : State) (req : Req) (off v hwSet : Nat) (hm : 0x7fffffcffffffff &&& msk = 0x7fffffcffffffff) (h_s : Effect msk s0 s) (h_p : Effect msk s0 p) :
    Effect msk s0 (State.writeBlock s p req off v hwSet) := by
  unfold State.writeBlock
  repeat' first | with_reducible intro _ | with_reducible assumption | with_reducible rfl | exact subParts hm (by decide) | with_reducible apply State.writeAlm_effect | with_reducible apply State.writeHif_effect | with_reducible apply State.writeSdf_effect | with_reducible apply State.writeSerDio_effect | with_reducible apply State.writeCan_effect | with_reducible apply State.writeMer_effect | with_reducible apply State.writeEth_effect | with_reducible apply State.writeXl_effect | with_reducible apply State.writeRdn_effect | with_reducible apply State.writeEph_effect | with_reducible apply State.writeCtl_effect | with_reducible apply State.writeOry_effect | with_reducible apply State.writeFus_effect | with_reducible apply State.writeCdr_effect | with_reducible apply State.writeBoot_effect | with_reducible apply State.writeSsc_effect | with_reducible apply State.dmWrite_effect | with_reducible apply Effect.ite | split | dsimp only | exact bitParts hm (by decide) | exact bitOff hm (by decide) | exact bitPlus hm (by decide) | exact bitKey hm (by decide) | rfl

theorem State.retWrite_effect {msk : Nat} {s0 : State} (s : State) (req : Req) (a v : Nat) (hm : 0x2000004000 &&& msk = 0x2000004000) (h_s : Effect msk s0 s) :
    Effect msk s0 (State.retWrite s req a v) := by
  unfold State.retWrite
  repeat' first | with_reducible intro _ | with_reducible assumption | with_reducible rfl | exact subParts hm (by decide) | with_reducible apply State.bump_effect | with_reducible apply Effect.ite | split | dsimp only | with_reducible refine Effect.retained ?_ ?_ ?_ | with_reducible apply swf_writeBytes | with_reducible apply swf_filter | with_reducible apply swf_writeWord | with_reducible apply swf_writeWords | exact bitParts hm (by decide) | exact bitOff hm (by decide) | rfl

theorem State.regWrite_effect {msk : Nat} {s0 : State} (s : State) (req : Req) (off v hwSet : Nat) (hm : 0x7fffffcffffffff &&& msk = 0x7fffffcffffffff) (h_s : Effect msk s0 s) :
    Effect msk s0 (State.regWrite s req off v hwSet) := by
  unfold State.regWrite
  repeat' first | with_reducible intro _ | with_reducible assumption | with_reducible rfl | exact subParts hm (by decide) | with_reducible apply State.retWrite_effect | with_reducible apply State.writeBlock_effect | with_reducible apply State.lockedOut_effect | with_reducible apply State.wrAcc_effect | with_reducible apply Effect.ite | split | dsimp only | exact bitParts hm (by decide) | exact bitOff hm (by decide) | exact bitKey hm (by decide) | exact bitAll hm (by decide) | rfl

theorem State.windowWrite_effect {msk : Nat} {s0 : State} (s : State) (req : Req) (off size v : Nat) (hm : 0x400000000 &&& msk = 0x400000000) (h_s : Effect msk s0 s) :
    Effect msk s0 (State.windowWrite s req off size v) := by
  unfold State.windowWrite
  repeat' first | with_reducible intro _ | with_reducible assumption | with_reducible rfl | exact subParts hm (by decide) | with_reducible apply State.sramWrite_effect | with_reducible apply Effect.ite | split | dsimp only | rfl

theorem State.doorWrite_effect {msk : Nat} {s0 : State} (s : State) (req : Req) (off size v : Nat) (hm : 0xc0000000c0000 &&& msk = 0xc0000000c0000) (h_s : Effect msk s0 s) :
    Effect msk s0 (State.doorWrite s req off size v) := by
  unfold State.doorWrite
  repeat' first | with_reducible intro _ | with_reducible assumption | with_reducible rfl | exact subParts hm (by decide) | with_reducible apply State.cqDoor_effect | with_reducible apply State.sqDoor_effect | with_reducible apply Effect.ite | split | dsimp only | exact bitParts hm (by decide) | exact bitOff hm (by decide) | exact bitPlus hm (by decide) | exact bitKey hm (by decide) | rfl

theorem execRegisterWrite_effect {msk : Nat} {s0 : State} (req : Req) (bar : Bar) (off : BitVec 24) (size : Fin 9) (v : BitVec 64) (hwSet : Word) (s : State) (hm : 0x7fffffcffffffff &&& msk = 0x7fffffcffffffff) (h_s : Effect msk s0 s) :
    EffectOut msk s0 (execRegisterWrite req bar off size v hwSet s) := by
  unfold execRegisterWrite
  repeat' first | with_reducible intro _ | with_reducible assumption | with_reducible rfl | with_reducible refine EffectOut.gate ?_ ?_ | with_reducible refine EffectOut.next ?_ | with_reducible exact EffectOut.fault | exact subParts hm (by decide) | with_reducible apply State.doorWrite_effect | with_reducible apply State.windowWrite_effect | with_reducible apply State.regWrite_effect | with_reducible apply Effect.foldl | with_reducible apply Effect.ite | split | dsimp only | exact bitParts hm (by decide) | exact bitOff hm (by decide) | exact bitPlus hm (by decide) | exact bitKey hm (by decide) | rfl

theorem State.readLatch_effect {msk : Nat} {s0 : State} (s : State) (req : Req) (off : Nat) (hm : 0x4105002ffffffff &&& msk = 0x4105002ffffffff) (h_s : Effect msk s0 s) :
    Effect msk s0 (State.readLatch s req off) := by
  unfold State.readLatch
  repeat' first | with_reducible intro _ | with_reducible assumption | with_reducible rfl | exact subParts hm (by decide) | with_reducible apply State.canReadLast_effect | with_reducible apply State.canRead0_effect | with_reducible apply State.readPtAdj_effect | with_reducible apply State.readPt_effect | with_reducible apply State.readCyc_effect | with_reducible apply State.evf2Read_effect | with_reducible apply State.evf0Read_effect | with_reducible apply State.subsecRead_effect | with_reducible apply State.readTxts1_effect | with_reducible apply State.readTxts0_effect | with_reducible apply State.readTimeNs_effect | with_reducible apply State.rdAcc_effect | with_reducible apply State.wrn_effect | with_reducible apply Effect.ite | split | dsimp only | exact bitParts hm (by decide) | exact bitOff hm (by decide) | exact bitKey hm (by decide) | exact bitAll hm (by decide) | rfl

theorem State.readActed_effect {msk : Nat} {s0 : State} (s : State) (req : Req) (off : Nat) (hm : 0x4105002ffffffff &&& msk = 0x4105002ffffffff) (h_s : Effect msk s0 s) :
    Effect msk s0 (State.readActed s req off) := by
  unfold State.readActed
  repeat' first | with_reducible intro _ | with_reducible assumption | with_reducible rfl | exact subParts hm (by decide) | with_reducible apply State.readLatch_effect | with_reducible apply Effect.ite | split | dsimp only | rfl

theorem State.readWords_effect {m : Nat} {s0 : State} (s : State) (req : Req) (os : List Nat) (hm : 0x4105002ffffffff &&& m = 0x4105002ffffffff)
    (h_s : Effect m s0 s) : Effect m s0 (State.readWords s req os).2 := by
  induction os generalizing s with
  | nil => exact h_s
  | cons o os ih => exact ih _ (State.readActed_effect _ _ _ (subParts hm (by decide)) h_s)

theorem State.barRead_effect {msk : Nat} {s0 : State} (s : State) (req : Req) (off size : Nat) (hm : 0x4105002ffffffff &&& msk = 0x4105002ffffffff) (h_s : Effect msk s0 s) :
    Effect msk s0 (State.barRead s req off size) := by
  unfold State.barRead
  repeat' first | with_reducible intro _ | with_reducible assumption | with_reducible rfl | exact subParts hm (by decide) | with_reducible apply State.readWords_effect | with_reducible apply Effect.ite | split | dsimp only | with_reducible refine Effect.readData ?_ ?_ | exact bitParts hm (by decide) | rfl

theorem State.windowRead_effect {msk : Nat} {s0 : State} (s : State) (req : Req) (off size : Nat) (hm : 0x200000000 &&& msk = 0x200000000) (h_s : Effect msk s0 s) :
    Effect msk s0 (State.windowRead s req off size) := by
  unfold State.windowRead
  repeat' first | with_reducible intro _ | with_reducible assumption | with_reducible rfl | with_reducible apply Effect.ite | split | dsimp only | with_reducible refine Effect.readData ?_ ?_ | exact bitParts hm (by decide) | rfl

theorem State.doorRead_effect {msk : Nat} {s0 : State} (s : State) (req : Req) (off size : Nat) (hm : 0x200000000 &&& msk = 0x200000000) (h_s : Effect msk s0 s) :
    Effect msk s0 (State.doorRead s req off size) := by
  unfold State.doorRead
  repeat' first | with_reducible intro _ | with_reducible assumption | with_reducible rfl | exact subParts hm (by decide) | with_reducible apply Effect.ite | split | dsimp only | with_reducible refine Effect.readData ?_ ?_ | exact bitParts hm (by decide) | exact bitOff hm (by decide) | exact bitPlus hm (by decide) | exact bitKey hm (by decide) | rfl

theorem execReadClear_effect {msk : Nat} {s0 : State} (req : Req) (bar : Bar) (off : BitVec 24) (size : Fin 9) (s : State) (hm : 0x4105002ffffffff &&& msk = 0x4105002ffffffff) (h_s : Effect msk s0 s) :
    EffectOut msk s0 (execReadClear req bar off size s) := by
  unfold execReadClear
  repeat' first | with_reducible intro _ | with_reducible assumption | with_reducible rfl | with_reducible refine EffectOut.gate ?_ ?_ | with_reducible refine EffectOut.next ?_ | exact subParts hm (by decide) | with_reducible apply State.doorRead_effect | with_reducible apply State.windowRead_effect | with_reducible apply State.barRead_effect | with_reducible apply Effect.ite | split | dsimp only | exact bitParts hm (by decide) | exact bitOff hm (by decide) | exact bitPlus hm (by decide) | exact bitKey hm (by decide) | rfl

theorem execDebugModuleAccess_effect {msk : Nat} {s0 : State} (port : Port) (a : BitVec 7) (write : Option Word) (s : State) (hm : 0x7fffffeffffffff &&& msk = 0x7fffffeffffffff) (h_s : Effect msk s0 s) :
    EffectOut msk s0 (execDebugModuleAccess port a write s) := by
  unfold execDebugModuleAccess
  repeat' first | with_reducible intro _ | with_reducible assumption | with_reducible rfl | with_reducible refine EffectOut.gate ?_ ?_ | with_reducible refine EffectOut.rooted ?_ ?_ | with_reducible refine EffectOut.reach ?_ ?_ | with_reducible refine EffectOut.next ?_ | exact subParts hm (by decide) | with_reducible apply State.barRead_effect | with_reducible apply State.regWrite_effect | with_reducible apply State.dmWrite_effect | with_reducible apply Effect.ite | split | dsimp only | with_reducible refine Effect.readData ?_ ?_ | exact bitParts hm (by decide) | exact bitOff hm (by decide) | exact bitPlus hm (by decide) | exact bitKey hm (by decide) | rfl

end Sys2Proof.Machine
end

