-- ==== Sys2Proof/Laws/EffectBootImage.lean ====
section
/-! SUPPORT. What the operations of Machine/BootImage.lean do: the parts of the state that each may change. -/

set_option linter.unusedTactic false
set_option linter.unusedVariables false
set_option linter.unreachableTactic false

namespace Sys2Proof.Machine

theorem State.bootEvents_effect {msk : Nat} {s0 : State} (s : State) (es : List BootEv) (hm : 0xc0000000c0000 &&& msk = 0xc0000000c0000) (h_s : Effect msk s0 s) :
    Effect msk s0 (State.bootEvents s es) := by
  unfold State.bootEvents
  repeat' first | with_reducible intro _ | with_reducible assumption | with_reducible rfl | exact subParts hm (by decide) | with_reducible apply State.raise3_effect | with_reducible apply Effect.foldl | with_reducible apply Effect.ite | split | dsimp only | exact bitParts hm (by decide) | exact bitOff hm (by decide) | exact bitPlus hm (by decide) | exact bitKey hm (by decide) | rfl

end Sys2Proof.Machine
end

