-- ==== Sys2Proof/Laws/EffectStation.lean ====
section
/-! SUPPORT. What the operations of Machine/Station.lean do: the parts of the state that each may change. -/

set_option linter.unusedTactic false
set_option linter.unusedVariables false
set_option linter.unreachableTactic false

namespace Sys2Proof.Machine

theorem State.modSt_effect {msk : Nat} {s0 : State} (s : State) (f : XlStation → XlStation) (hm : 0x80000000000 &&& msk = 0x80000000000) (h_s : Effect msk s0 s) :
    Effect msk s0 (State.modSt s f) := by
  unfold State.modSt
  repeat' first | with_reducible intro _ | with_reducible assumption | with_reducible rfl | exact subParts hm (by decide) | with_reducible apply State.modXl_effect | with_reducible apply Effect.ite | split | dsimp only | rfl

theorem State.setRingTime_effect {msk : Nat} {s0 : State} (s : State) (x instant : Nat) (hm : 0x276fcc000000000 &&& msk = 0x276fcc000000000) (h_s : Effect msk s0 s) :
    Effect msk s0 (State.setRingTime s x instant) := by
  unfold State.setRingTime
  repeat' first | with_reducible intro _ | with_reducible assumption | with_reducible rfl | exact subParts hm (by decide) | with_reducible apply State.moveTimers_effect | with_reducible apply State.modTb_effect | with_reducible apply Effect.ite | split | dsimp only | with_reducible refine Effect.cdr ?_ ?_ | with_reducible refine Effect.boot ?_ ?_ ?_ | exact bitParts hm (by decide) | exact bitOff hm (by decide) | exact bitPlus hm (by decide) | exact bitKey hm (by decide) | rfl

theorem State.cycleTake_effect {msk : Nat} {s0 : State} (s : State) (p : Nat) (frame : List Byte) (hm : 0x676fcc000003000 &&& msk = 0x676fcc000003000) (h_s : Effect msk s0 s) :
    Effect msk s0 (State.cycleTake s p frame) := by
  unfold State.cycleTake
  repeat' first | with_reducible intro _ | with_reducible assumption | with_reducible rfl | exact subParts hm (by decide) | with_reducible apply State.setRingTime_effect | with_reducible apply State.modSt_effect | with_reducible apply State.showTb_effect | with_reducible apply State.modTb_effect | with_reducible apply State.nextFree_effect | with_reducible apply State.setTo_effect | with_reducible apply Effect.ite | split | dsimp only | exact bitParts hm (by decide) | exact bitOff hm (by decide) | exact bitPlus hm (by decide) | exact bitKey hm (by decide) | rfl

theorem execCycleFrame_effect {msk : Nat} {s0 : State} (port : Fin 4) (frame : List Byte) (fcs : XlFcs) (residence : Nat) (s : State) (hm : 0x676fcc000003000 &&& msk = 0x676fcc000003000) (h_s : Effect msk s0 s) :
    EffectOut msk s0 (execCycleFrame port frame fcs residence s) := by
  unfold execCycleFrame
  repeat' first | with_reducible intro _ | with_reducible assumption | with_reducible rfl | with_reducible refine EffectOut.gate ?_ ?_ | with_reducible refine EffectOut.next ?_ | exact subParts hm (by decide) | with_reducible apply State.cycleTake_effect | with_reducible apply State.xlPass_effect | with_reducible apply Effect.ite | split | dsimp only | rfl

theorem State.stationSample_effect {msk : Nat} {s0 : State} (u : State) (hm : 0x27efcc0000c2000 &&& msk = 0x27efcc0000c2000) (h_u : Effect msk s0 u) :
    Effect msk s0 (State.stationSample u) := by
  unfold State.stationSample
  repeat' first | with_reducible intro _ | with_reducible assumption | with_reducible rfl | exact subParts hm (by decide) | with_reducible apply State.modSt_effect | with_reducible apply State.runTo_effect | with_reducible apply State.stepTime_effect | with_reducible apply State.raiseStep_effect | with_reducible apply Effect.ite | split | dsimp only | with_reducible refine Effect.cdr ?_ ?_ | exact bitParts hm (by decide) | exact bitOff hm (by decide) | exact bitPlus hm (by decide) | exact bitKey hm (by decide) | rfl

theorem execStationSample_effect {msk : Nat} {s0 : State} (s : State) (hm : 0x27efcc0000c2000 &&& msk = 0x27efcc0000c2000) (h_s : Effect msk s0 s) :
    EffectOut msk s0 (execStationSample s) := by
  unfold execStationSample
  repeat' first | with_reducible intro _ | with_reducible assumption | with_reducible rfl | with_reducible refine EffectOut.gate ?_ ?_ | with_reducible refine EffectOut.next ?_ | exact subParts hm (by decide) | with_reducible apply State.stationSample_effect | with_reducible apply Effect.ite | split | dsimp only | rfl

theorem execStationCycleLoss_effect {msk : Nat} {s0 : State} (s : State) (hm : 0x80000001000 &&& msk = 0x80000001000) (h_s : Effect msk s0 s) :
    EffectOut msk s0 (execStationCycleLoss s) := by
  unfold execStationCycleLoss
  repeat' first | with_reducible intro _ | with_reducible assumption | with_reducible rfl | with_reducible refine EffectOut.gate ?_ ?_ | with_reducible refine EffectOut.next ?_ | exact subParts hm (by decide) | with_reducible apply State.modSt_effect | with_reducible apply State.put_effect | with_reducible apply Effect.ite | split | dsimp only | exact bitParts hm (by decide) | exact bitOff hm (by decide) | rfl

theorem execStationSyncComplete_effect {msk : Nat} {s0 : State} (s : State) (hm : 0x1000 &&& msk = 0x1000) (h_s : Effect msk s0 s) :
    EffectOut msk s0 (execStationSyncComplete s) := by
  unfold execStationSyncComplete
  repeat' first | with_reducible intro _ | with_reducible assumption | with_reducible rfl | with_reducible refine EffectOut.gate ?_ ?_ | with_reducible refine EffectOut.next ?_ | exact subParts hm (by decide) | with_reducible apply State.put_effect | with_reducible apply Effect.ite | split | dsimp only | exact bitParts hm (by decide) | exact bitOff hm (by decide) | rfl

theorem execStationPowerReady_effect {msk : Nat} {s0 : State} (s : State) (hm : 0x80000001000 &&& msk = 0x80000001000) (h_s : Effect msk s0 s) :
    EffectOut msk s0 (execStationPowerReady s) := by
  unfold execStationPowerReady
  repeat' first | with_reducible intro _ | with_reducible assumption | with_reducible rfl | with_reducible refine EffectOut.gate ?_ ?_ | with_reducible refine EffectOut.next ?_ | exact subParts hm (by decide) | with_reducible apply State.modSt_effect | with_reducible apply State.stnMeasured_effect | with_reducible apply State.put_effect | with_reducible apply Effect.ite | split | dsimp only | exact bitParts hm (by decide) | exact bitOff hm (by decide) | rfl

theorem execInputFrame_effect {msk : Nat} {s0 : State} (port : Fin 4) (frame : List Byte) (fcs : XlFcs) (s : State) (hm : 0x80000001000 &&& msk = 0x80000001000) (h_s : Effect msk s0 s) :
    EffectOut msk s0 (execInputFrame port frame fcs s) := by
  unfold execInputFrame
  repeat' first | with_reducible intro _ | with_reducible assumption | with_reducible rfl | with_reducible refine EffectOut.gate ?_ ?_ | with_reducible refine EffectOut.next ?_ | exact subParts hm (by decide) | with_reducible apply State.xlPass_effect | with_reducible apply Effect.ite | split | dsimp only | rfl

theorem State.slotIntoBuf_effect {msk : Nat} {s0 : State} (s : State) (hm : 0x4000000000 &&& msk = 0x4000000000) (h_s : Effect msk s0 s) :
    Effect msk s0 (State.slotIntoBuf s) := by
  unfold State.slotIntoBuf
  repeat' first | with_reducible intro _ | with_reducible assumption | with_reducible rfl | exact subParts hm (by decide) | with_reducible apply Effect.foldl | with_reducible apply Effect.ite | split | dsimp only | with_reducible refine Effect.cdr ?_ ?_ | exact bitParts hm (by decide) | exact bitOff hm (by decide) | exact bitPlus hm (by decide) | exact bitKey hm (by decide) | rfl

theorem State.storeOut_effect {msk : Nat} {s0 : State} (s : State) (frame : List Byte) (e : List Byte) (flags : Nat) (words : List Word) (hm : 0x84000000000 &&& msk = 0x84000000000) (h_s : Effect msk s0 s) :
    Effect msk s0 (State.storeOut s frame e flags words) := by
  unfold State.storeOut
  repeat' first | with_reducible intro _ | with_reducible assumption | with_reducible rfl | exact subParts hm (by decide) | with_reducible apply State.slotIntoBuf_effect | with_reducible apply State.modSt_effect | with_reducible apply Effect.ite | split | dsimp only | exact bitParts hm (by decide) | exact bitOff hm (by decide) | exact bitPlus hm (by decide) | exact bitKey hm (by decide) | rfl

theorem State.outputTake_effect {msk : Nat} {s0 : State} (s : State) (frame : List Byte) (fcs : XlFcs) (hm : 0x84000000000 &&& msk = 0x84000000000) (h_s : Effect msk s0 s) :
    Effect msk s0 (State.outputTake s frame fcs).2 := by
  unfold State.outputTake
  repeat' first | with_reducible intro _ | with_reducible assumption | with_reducible rfl | exact subParts hm (by decide) | with_reducible apply State.storeOut_effect | with_reducible apply State.modSt_effect | with_reducible apply Effect.ite | split | dsimp only | exact bitParts hm (by decide) | exact bitOff hm (by decide) | exact bitPlus hm (by decide) | exact bitKey hm (by decide) | rfl

theorem State.outputWatch_effect {msk : Nat} {s0 : State} (s : State) (r : Nat) (frame : List Byte) (fcs : XlFcs) (hm : 0x80000000000 &&& msk = 0x80000000000) (h_s : Effect msk s0 s) :
    Effect msk s0 (State.outputWatch s r frame fcs) := by
  unfold State.outputWatch
  repeat' first | with_reducible intro _ | with_reducible assumption | with_reducible rfl | exact subParts hm (by decide) | with_reducible apply State.modXring_effect | with_reducible apply Effect.ite | split | dsimp only | rfl

theorem execOutputFrame_effect {msk : Nat} {s0 : State} (port : Fin 4) (frame : List Byte) (fcs : XlFcs) (s : State) (hm : 0x84000001000 &&& msk = 0x84000001000) (h_s : Effect msk s0 s) :
    EffectOut msk s0 (execOutputFrame port frame fcs s) := by
  unfold execOutputFrame
  repeat' first | with_reducible intro _ | with_reducible assumption | with_reducible rfl | with_reducible refine EffectOut.gate ?_ ?_ | with_reducible refine EffectOut.next ?_ | exact subParts hm (by decide) | with_reducible apply State.outputWatch_effect | with_reducible apply State.outputTake_effect | with_reducible apply State.xlPass_effect | with_reducible apply Effect.ite | split | dsimp only | rfl

theorem State.withdrawTake_effect {msk : Nat} {s0 : State} (s : State) (frame : List Byte) (hm : 0x88000000800 &&& msk = 0x88000000800) (h_s : Effect msk s0 s) :
    Effect msk s0 (State.withdrawTake s frame) := by
  unfold State.withdrawTake
  repeat' first | with_reducible intro _ | with_reducible assumption | with_reducible rfl | exact subParts hm (by decide) | with_reducible apply State.modSt_effect | with_reducible apply State.grdWithdrawn_effect | with_reducible apply Effect.ite | split | dsimp only | rfl

theorem execWithdrawFrame_effect {msk : Nat} {s0 : State} (port : Fin 4) (frame : List Byte) (fcs : XlFcs) (s : State) (hm : 0x88000001800 &&& msk = 0x88000001800) (h_s : Effect msk s0 s) :
    EffectOut msk s0 (execWithdrawFrame port frame fcs s) := by
  unfold execWithdrawFrame
  repeat' first | with_reducible intro _ | with_reducible assumption | with_reducible rfl | with_reducible refine EffectOut.gate ?_ ?_ | with_reducible refine EffectOut.next ?_ | exact subParts hm (by decide) | with_reducible apply State.withdrawTake_effect | with_reducible apply State.xlPass_effect | with_reducible apply Effect.ite | split | dsimp only | rfl

theorem State.mgmtTake_effect {msk : Nat} {s0 : State} (s : State) (payload : List Byte) (ok : Bool) (hm : 0x80000000000 &&& msk = 0x80000000000) (h_s : Effect msk s0 s) :
    Effect msk s0 (State.mgmtTake s payload ok).2 := by
  unfold State.mgmtTake
  repeat' first | with_reducible intro _ | with_reducible assumption | with_reducible rfl | exact subParts hm (by decide) | with_reducible apply State.modSt_effect | with_reducible apply Effect.ite | split | dsimp only | rfl

theorem execMgmtFrame_effect {msk : Nat} {s0 : State} (port : Fin 4) (frame : List Byte) (fcs : XlFcs) (s : State) (hm : 0x80000001000 &&& msk = 0x80000001000) (h_s : Effect msk s0 s) :
    EffectOut msk s0 (execMgmtFrame port frame fcs s) := by
  unfold execMgmtFrame
  repeat' first | with_reducible intro _ | with_reducible assumption | with_reducible rfl | with_reducible refine EffectOut.gate ?_ ?_ | with_reducible refine EffectOut.next ?_ | exact subParts hm (by decide) | with_reducible apply State.mgmtTake_effect | with_reducible apply State.xlPass_effect | with_reducible apply Effect.ite | split | dsimp only | rfl

theorem State.putHold_effect {msk : Nat} {s0 : State} (s : State) (n : Nat) (hm : 0x1000 &&& msk = 0x1000) (h_s : Effect msk s0 s) :
    Effect msk s0 (State.putHold s n) := by
  unfold State.putHold
  repeat' first | with_reducible intro _ | with_reducible assumption | with_reducible rfl | exact subParts hm (by decide) | with_reducible apply State.putSat_effect | with_reducible apply Effect.ite | split | dsimp only | exact bitParts hm (by decide) | exact bitOff hm (by decide) | rfl

theorem State.stnApply_effect {msk : Nat} {s0 : State} (s : State) (o : StnOut) (hm : 0x1080000001000 &&& msk = 0x1080000001000) (h_s : Effect msk s0 s) :
    Effect msk s0 (State.stnApply s o) := by
  unfold State.stnApply
  repeat' first | with_reducible intro _ | with_reducible assumption | with_reducible rfl | exact subParts hm (by decide) | with_reducible apply State.modSt_effect | with_reducible apply State.applyStagedDio_effect | with_reducible apply State.put_effect | with_reducible apply Effect.ite | split | dsimp only | exact bitParts hm (by decide) | exact bitOff hm (by decide) | exact bitPlus hm (by decide) | exact bitKey hm (by decide) | rfl

theorem State.stnOutput_effect {msk : Nat} {s0 : State} (s : State) (hm : 0x27ffcc0000c3000 &&& msk = 0x27ffcc0000c3000) (h_s : Effect msk s0 s) :
    Effect msk s0 (State.stnOutput s) := by
  unfold State.stnOutput
  repeat' first | with_reducible intro _ | with_reducible assumption | with_reducible rfl | exact subParts hm (by decide) | with_reducible apply State.stnApply_effect | with_reducible apply State.putHold_effect | with_reducible apply State.modSt_effect | with_reducible apply State.runTo_effect | with_reducible apply State.put_effect | with_reducible apply Effect.ite | split | dsimp only | exact bitParts hm (by decide) | exact bitOff hm (by decide) | rfl

theorem execStationOutputInstant_effect {msk : Nat} {s0 : State} (s : State) (hm : 0x27ffcc0000c3000 &&& msk = 0x27ffcc0000c3000) (h_s : Effect msk s0 s) :
    EffectOut msk s0 (execStationOutputInstant s) := by
  unfold execStationOutputInstant
  repeat' first | with_reducible intro _ | with_reducible assumption | with_reducible rfl | with_reducible refine EffectOut.gate ?_ ?_ | with_reducible refine EffectOut.next ?_ | exact subParts hm (by decide) | with_reducible apply State.stnOutput_effect | with_reducible apply Effect.ite | split | dsimp only | rfl

theorem execStationHoldLimit_effect {msk : Nat} {s0 : State} (s : State) (hm : 0x80000001000 &&& msk = 0x80000001000) (h_s : Effect msk s0 s) :
    EffectOut msk s0 (execStationHoldLimit s) := by
  unfold execStationHoldLimit
  repeat' first | with_reducible intro _ | with_reducible assumption | with_reducible rfl | with_reducible refine EffectOut.gate ?_ ?_ | with_reducible refine EffectOut.next ?_ | exact subParts hm (by decide) | with_reducible apply State.modSt_effect | with_reducible apply State.put_effect | with_reducible apply Effect.ite | split | dsimp only | exact bitParts hm (by decide) | exact bitOff hm (by decide) | rfl

end Sys2Proof.Machine
end

