-- ==== Sys2Proof/Laws/EffectBootConfig.lean ====
section
/-! SUPPORT. What the operations of Machine/BootConfig.lean do: the parts of the state that each may change. -/

set_option linter.unusedTactic false
set_option linter.unusedVariables false
set_option linter.unreachableTactic false

namespace Sys2Proof.Machine

theorem State.putCycle_effect {msk : Nat} {s0 : State} (s : State) (c : CycleConf) (hm : 0x20 &&& msk = 0x20) (h_s : Effect msk s0 s) :
    Effect msk s0 (State.putCycle s c) := by
  unfold State.putCycle
  repeat' first | with_reducible intro _ | with_reducible assumption | with_reducible rfl | exact subParts hm (by decide) | with_reducible apply State.put_effect | with_reducible apply Effect.ite | split | dsimp only | exact bitParts hm (by decide) | exact bitOff hm (by decide) | rfl

theorem State.applyCycle_effect {msk : Nat} {s0 : State} (s : State) (b : Option (List Byte)) (hm : 0xc0000000c0020 &&& msk = 0xc0000000c0020) (h_s : Effect msk s0 s) :
    Effect msk s0 (State.applyCycle s b) := by
  unfold State.applyCycle
  repeat' first | with_reducible intro _ | with_reducible assumption | with_reducible rfl | exact subParts hm (by decide) | with_reducible apply State.putCycle_effect | with_reducible apply State.bootEvents_effect | with_reducible apply State.setTo_effect | with_reducible apply Effect.ite | split | dsimp only | exact bitParts hm (by decide) | exact bitOff hm (by decide) | rfl

theorem State.applyEth_effect {msk : Nat} {s0 : State} (s : State) (b : Option (List Byte)) (hm : 0x2000 &&& msk = 0x2000) (h_s : Effect msk s0 s) :
    Effect msk s0 (State.applyEth s b) := by
  unfold State.applyEth
  repeat' first | with_reducible intro _ | with_reducible assumption | with_reducible rfl | exact subParts hm (by decide) | with_reducible apply State.put_effect | with_reducible apply Effect.forEach | with_reducible apply Effect.ite | split | dsimp only | exact bitParts hm (by decide) | exact bitOff hm (by decide) | rfl

theorem State.withSect_effect {msk : Nat} {s0 : State} (s : State) (b : Option (List Byte)) (f : List Byte → State → State) (hm : 0x0 &&& msk = 0x0) (h_s : Effect msk s0 s) (h_f : ∀ x t, Effect msk s0 t → Effect msk s0 (f x t)) :
    Effect msk s0 (State.withSect s b f) := by
  unfold State.withSect
  repeat' first | with_reducible intro _ | with_reducible assumption | with_reducible rfl | with_reducible apply h_f | with_reducible apply Effect.ite | split | dsimp only | rfl

theorem State.inDom_effect {msk : Nat} {s0 : State} (s : State) (d : Nat) (f : State → State) (hm : 0x0 &&& msk = 0x0) (h_s : Effect msk s0 s) (h_f : ∀ t, Effect msk s0 t → Effect msk s0 (f t)) :
    Effect msk s0 (State.inDom s d f) := by
  unfold State.inDom
  repeat' first | with_reducible intro _ | with_reducible assumption | with_reducible rfl | with_reducible apply h_f | with_reducible apply Effect.ite | split | dsimp only | rfl

theorem State.applySets_effect {msk : Nat} {s0 : State} (s : State) (secs : List (Nat × List Byte)) (hm : 0x180000000000340 &&& msk = 0x180000000000340) (h_s : Effect msk s0 s) :
    Effect msk s0 (State.applySets s secs) := by
  unfold State.applySets
  repeat' first | with_reducible intro _ | with_reducible assumption | with_reducible rfl | exact subParts hm (by decide) | with_reducible apply State.withSect_effect | with_reducible apply State.ephAuto_effect | with_reducible apply State.setTable_effect | with_reducible apply State.modEph_effect | with_reducible apply State.setActive_effect | with_reducible apply State.setReticle_effect | with_reducible apply State.wrWords_effect | with_reducible apply Effect.ite | split | dsimp only | exact bitParts hm (by decide) | exact bitOff hm (by decide) | exact bitPlus hm (by decide) | exact bitKey hm (by decide) | rfl

theorem State.applySys_effect {m : Nat} {s0 : State} (s : State) (y : SysConf) (ret ctl : Bool) (hm : 0x7cfffedffffffff &&& m = 0x7cfffedffffffff) (h_s : Effect m s0 s) :
    Effect m s0 (State.applySys s y ret ctl) := by
  have ht : ∀ (t : State) f b, m.testBit (f.off / 0x10000 % 32) = true → Effect m s0 t → Effect m s0 (t.setTo f b) :=
    fun t f b k h => State.setTo_effect _ _ _ k h
  unfold State.applySys
  extract_lets st r a b c d
  have ha : Effect m s0 a := State.modBoot_effect _ _ (subParts hm (by decide)) 
    (Effect.red (x := { s.red with diagRole := y.diag, ports := y.mirror }) (bitParts hm (by decide)) (Effect.station (x := st) (bitParts hm (by decide)) h_s)) rfl
  have hb : Effect m s0 b := ht _ _ _ (bitParts hm (by decide)) (ht _ _ _ (bitParts hm (by decide)) (State.put_effect _ _ _ (bitParts hm (by decide)) ha))
  have hc : Effect m s0 c := State.inDom_effect _ _ _ (subParts hm (by decide)) hb fun t h => ht _ _ _ (bitParts hm (by decide)) (ht _ _ _ (bitParts hm (by decide))
    (ht _ _ _ (bitParts hm (by decide)) (ht _ _ _ (bitParts hm (by decide)) (ht _ _ _ (bitParts hm (by decide)) (State.put_effect _ _ _ (bitParts hm (by decide)) h)))))
  have hd : Effect m s0 d := State.showOry_effect _ (subParts hm (by decide)) (ht _ _ _ (bitParts hm (by decide)) hc)
  exact Effect.ite (State.loseDomain_effect _ _ (subParts hm (by decide)) hd) hd

theorem State.openLog_effect {msk : Nat} {s0 : State} (s : State) (p : Nat × Nat) (hm : 0x8000000000000 &&& msk = 0x8000000000000) (h_s : Effect msk s0 s) :
    Effect msk s0 (State.openLog s p) := by
  unfold State.openLog
  repeat' first | with_reducible intro _ | with_reducible assumption | with_reducible rfl | exact subParts hm (by decide) | with_reducible apply State.modAlm_effect | with_reducible apply Effect.foldl | with_reducible apply Effect.ite | split | dsimp only | rfl

theorem State.applyRegions_effect {msk : Nat} {s0 : State} (s : State) (b : List Byte) (hm : 0x208000000000000 &&& msk = 0x208000000000000) (h_s : Effect msk s0 s) :
    Effect msk s0 (State.applyRegions s b) := by
  unfold State.applyRegions
  repeat' first | with_reducible intro _ | with_reducible assumption | with_reducible rfl | exact subParts hm (by decide) | with_reducible apply State.openLog_effect | with_reducible apply State.modBoot_effect | with_reducible apply State.modAlm_effect | with_reducible apply Effect.ite | split | dsimp only | exact bitParts hm (by decide) | exact bitOff hm (by decide) | exact bitPlus hm (by decide) | exact bitKey hm (by decide) | rfl

theorem State.applyStation_effect {msk : Nat} {s0 : State} (s : State) (b : List Byte) (hm : 0x80000001000 &&& msk = 0x80000001000) (h_s : Effect msk s0 s) :
    Effect msk s0 (State.applyStation s b) := by
  unfold State.applyStation
  repeat' first | with_reducible intro _ | with_reducible assumption | with_reducible rfl | exact subParts hm (by decide) | with_reducible apply State.modSt_effect | with_reducible apply State.put_effect | with_reducible apply Effect.ite | split | dsimp only | exact bitParts hm (by decide) | exact bitOff hm (by decide) | exact bitPlus hm (by decide) | exact bitKey hm (by decide) | rfl

theorem State.preset_effect {msk : Nat} {s0 : State} (s : State) (off v : Nat) (hm : 0x7fffffcffffffff &&& msk = 0x7fffffcffffffff) (h_s : Effect msk s0 s) :
    Effect msk s0 (State.preset s off v) := by
  unfold State.preset
  repeat' first | with_reducible intro _ | with_reducible assumption | with_reducible rfl | exact subParts hm (by decide) | with_reducible apply State.regWrite_effect | with_reducible apply Effect.ite | split | dsimp only | exact bitParts hm (by decide) | exact bitOff hm (by decide) | exact bitPlus hm (by decide) | exact bitKey hm (by decide) | rfl

theorem State.applyPresets_effect {msk : Nat} {s0 : State} (s : State) (b : List Byte) (hm : 0x7fffffcffffffff &&& msk = 0x7fffffcffffffff) (h_s : Effect msk s0 s) :
    Effect msk s0 (State.applyPresets s b) := by
  unfold State.applyPresets
  repeat' first | with_reducible intro _ | with_reducible assumption | with_reducible rfl | exact subParts hm (by decide) | with_reducible apply State.preset_effect | with_reducible apply Effect.forEach | with_reducible apply Effect.ite | split | dsimp only | rfl

theorem State.applyConfig_effect {msk : Nat} {s0 : State} (s : State) (secs : List (Nat × List Byte)) (hm : 0x7fffffdffffffff &&& msk = 0x7fffffdffffffff) (h_s : Effect msk s0 s) :
    Effect msk s0 (State.applyConfig s secs) := by
  unfold State.applyConfig
  repeat' first | with_reducible intro _ | with_reducible assumption | with_reducible rfl | exact subParts hm (by decide) | with_reducible apply State.applyPresets_effect | with_reducible apply State.applyStation_effect | with_reducible apply State.applyRegions_effect | with_reducible apply State.applySys_effect | with_reducible apply State.applySets_effect | with_reducible apply State.inDom_effect | with_reducible apply State.withSect_effect | with_reducible apply State.applyEth_effect | with_reducible apply State.applyCycle_effect | with_reducible apply State.xlConfig_effect | with_reducible apply State.setPlan_effect | with_reducible apply Effect.ite | split | dsimp only | exact bitParts hm (by decide) | exact bitOff hm (by decide) | exact bitPlus hm (by decide) | exact bitKey hm (by decide) | rfl

theorem State.bootConfig_effect {msk : Nat} {s0 : State} (s : State) (d : List (List Byte)) (hm : 0x7fffffdffffffff &&& msk = 0x7fffffdffffffff) (h_s : Effect msk s0 s) :
    Effect msk s0 (State.bootConfig s d) := by
  unfold State.bootConfig
  repeat' first | with_reducible intro _ | with_reducible assumption | with_reducible rfl | exact subParts hm (by decide) | with_reducible apply State.applyConfig_effect | with_reducible apply State.inDom_effect | with_reducible apply State.bootEvents_effect | with_reducible apply State.setTo_effect | with_reducible apply State.put_effect | with_reducible apply State.wrn_effect | with_reducible apply Effect.ite | split | dsimp only | exact bitParts hm (by decide) | exact bitOff hm (by decide) | exact bitAll hm (by decide) | rfl

end Sys2Proof.Machine
end

