-- ==== Sys2Proof/Laws/EffectBoot.lean ====
section
/-! SUPPORT. What the operations of Machine/Boot.lean do: the parts of the state that each may change. -/

set_option linter.unusedTactic false
set_option linter.unusedVariables false
set_option linter.unreachableTactic false

namespace Sys2Proof.Machine

theorem State.deviceOff_effect {m : Nat} {s0 : State} (s : State) (hm : 0x7ffffcfffffffff &&& m = 0x7ffffcfffffffff) (h_s : Effect m s0 s) :
    Effect m s0 (State.deviceOff s) := by
  have off : ∀ (i : Nat) {p : Prop}, 0x7ffffcfffffffff.testBit i = true → m.testBit i = false → p := fun i p a b =>
    absurd (b.symm.trans (bitParts hm a)) Bool.false_ne_true
  unfold State.deviceOff
  refine State.grdShow_effect _ (subParts hm (by decide)) (State.put_effect _ _ _ (bitParts hm (by decide))
    (State.put_effect _ _ _ (bitParts hm (by decide)) (State.setDom_effect _ _ _ (subParts hm (by decide))
      (State.setTo_effect _ _ _ (bitParts hm (by decide)) ?_))))
  refine ⟨⟨fun w => swf_filter _ (h_s.kept.regs w), fun _ _ => rfl, fun w => ?_,
    h_s.kept.pending, h_s.kept.variant, h_s.kept.sizes, h_s.kept.fuses⟩, ?_⟩
  · have := (Memory.wf_iff _).1 (h_s.kept.mem w)
    exact (Memory.wf_iff _).2 ⟨rfl, rfl, this.2.2.1, this.2.2.2⟩
  · exact {
      regs := fun _ b => absurd (b.symm.trans (bitAll hm (by decide))) Bool.false_ne_true
      flash := h_s.within.flash
      retained := h_s.within.retained
      station := off 32 (by decide)
      readData := off 33 (by decide)
      sram := off 34 (by decide)
      ddr := off 35 (by decide)
      cdr := off 38 (by decide)
      grd := off 39 (by decide)
      fus := off 40 (by decide)
      eff := off 41 (by decide)
      red := off 42 (by decide)
      xl := off 43 (by decide)
      tb := off 44 (by decide)
      eth := off 45 (by decide)
      can := off 46 (by decide)
      uart := off 47 (by decide)
      dio := off 48 (by decide)
      sdf := off 49 (by decide)
      hif := off 50 (by decide)
      alm := off 51 (by decide)
      mer := off 52 (by decide)
      pow := off 53 (by decide)
      ory := off 54 (by decide)
      ctl := off 55 (by decide)
      eph := off 56 (by decide)
      boot := off 57 (by decide)
      freeCtr := off 58 (by decide) }

theorem State.mainLost_effect {msk : Nat} {s0 : State} (s : State) (vbat : Bool) (sub : Nat) (hm : 0x7ffffcfffffffff &&& msk = 0x7ffffcfffffffff) (h_s : Effect msk s0 s) :
    Effect msk s0 (State.mainLost s vbat sub) := by
  unfold State.mainLost
  repeat' first | with_reducible intro _ | with_reducible assumption | with_reducible rfl | exact subParts hm (by decide) | with_reducible apply State.deviceOff_effect | with_reducible apply State.takeVbat_effect | with_reducible apply Effect.ite | split | dsimp only | rfl

theorem execVbatSwitch_effect {msk : Nat} {s0 : State} (vbat : Bool) (sub : Fin 32768) (s : State) (hm : 0x7ffffcfffffffff &&& msk = 0x7ffffcfffffffff) (h_s : Effect msk s0 s) :
    EffectOut msk s0 (execVbatSwitch vbat sub s) := by
  unfold execVbatSwitch
  repeat' first | with_reducible intro _ | with_reducible assumption | with_reducible rfl | with_reducible refine EffectOut.next ?_ | exact subParts hm (by decide) | with_reducible apply State.mainLost_effect | with_reducible apply Effect.ite | split | dsimp only | rfl

theorem execFastFall_effect {msk : Nat} {s0 : State} (vbat : Bool) (sub : Fin 32768) (s : State) (hm : 0x7ffffcfffffffff &&& msk = 0x7ffffcfffffffff) (h_s : Effect msk s0 s) :
    EffectOut msk s0 (execFastFall vbat sub s) := by
  unfold execFastFall
  repeat' first | with_reducible intro _ | with_reducible assumption | with_reducible rfl | with_reducible refine EffectOut.next ?_ | exact subParts hm (by decide) | with_reducible apply State.mainLost_effect | with_reducible apply State.modMer_effect | with_reducible apply State.setTo_effect | with_reducible apply Effect.ite | split | dsimp only | exact bitParts hm (by decide) | exact bitOff hm (by decide) | exact bitAll hm (by decide) | rfl

theorem State.aonRise_effect {msk : Nat} {s0 : State} (s : State) (hm : 0x7ffffefffffffff &&& msk = 0x7ffffefffffffff) (h_s : Effect msk s0 s) :
    Effect msk s0 (State.aonRise s) := by
  unfold State.aonRise
  repeat' first | with_reducible intro _ | with_reducible assumption | with_reducible rfl | exact subParts hm (by decide) | with_reducible apply State.deviceOff_effect | with_reducible apply State.aonAbove_effect | with_reducible apply State.merLost_effect | with_reducible apply State.modMer_effect | with_reducible apply State.setTo_effect | with_reducible apply State.put_effect | with_reducible apply Effect.ite | split | dsimp only | exact bitParts hm (by decide) | exact bitOff hm (by decide) | exact bitPlus hm (by decide) | exact bitKey hm (by decide) | rfl

theorem execVddAonValid_effect {msk : Nat} {s0 : State} (s : State) (hm : 0x7ffffefffffffff &&& msk = 0x7ffffefffffffff) (h_s : Effect msk s0 s) :
    EffectOut msk s0 (execVddAonValid s) := by
  unfold execVddAonValid
  repeat' first | with_reducible intro _ | with_reducible assumption | with_reducible rfl | with_reducible refine EffectOut.gate ?_ ?_ | with_reducible refine EffectOut.rooted ?_ ?_ | with_reducible refine EffectOut.reach ?_ ?_ | with_reducible refine EffectOut.next ?_ | exact subParts hm (by decide) | with_reducible apply State.aonRise_effect | with_reducible apply Effect.ite | split | dsimp only | exact bitParts hm (by decide) | exact bitOff hm (by decide) | exact bitPlus hm (by decide) | exact bitKey hm (by decide) | rfl

theorem State.bootRom_effect {msk : Nat} {s0 : State} (s : State) (hm : 0x41000000000400a &&& msk = 0x41000000000400a) (h_s : Effect msk s0 s) :
    Effect msk s0 (State.bootRom s) := by
  unfold State.bootRom
  repeat' first | with_reducible intro _ | with_reducible assumption | with_reducible rfl | exact subParts hm (by decide) | with_reducible apply State.modMer_effect | with_reducible apply State.nextFree_effect | with_reducible apply State.setTo_effect | with_reducible apply State.put_effect | with_reducible apply State.wr_effect | with_reducible apply Effect.ite | split | dsimp only | exact bitParts hm (by decide) | exact bitOff hm (by decide) | exact bitPlus hm (by decide) | exact bitKey hm (by decide) | rfl

theorem State.guardHalt_effect {msk : Nat} {s0 : State} (s : State) (hm : 0xc0080000c0800 &&& msk = 0xc0080000c0800) (h_s : Effect msk s0 s) :
    Effect msk s0 (State.guardHalt s) := by
  unfold State.guardHalt
  repeat' first | with_reducible intro _ | with_reducible assumption | with_reducible rfl | exact subParts hm (by decide) | with_reducible apply State.grdGo_effect | with_reducible apply Effect.ite | split | dsimp only | exact bitParts hm (by decide) | exact bitOff hm (by decide) | exact bitPlus hm (by decide) | exact bitKey hm (by decide) | rfl

theorem State.bootHalt_effect {msk : Nat} {s0 : State} (s : State) (hm : 0x7cfffecffffffff &&& msk = 0x7cfffecffffffff) (h_s : Effect msk s0 s) :
    Effect msk s0 (State.bootHalt s) := by
  unfold State.bootHalt
  repeat' first | with_reducible intro _ | with_reducible assumption | with_reducible rfl | exact subParts hm (by decide) | with_reducible apply State.guardHalt_effect | with_reducible apply State.loseDomain_effect | with_reducible apply State.put_effect | with_reducible apply Effect.foldl | with_reducible apply Effect.ite | split | dsimp only | exact bitParts hm (by decide) | exact bitOff hm (by decide) | exact bitPlus hm (by decide) | exact bitKey hm (by decide) | rfl

theorem State.bootGuard_effect {msk : Nat} {s0 : State} (s : State) (e : BootEnv) (r : Option (List Byte × Bool)) (hm : 0x27efcc0000c2803 &&& msk = 0x27efcc0000c2803) (h_s : Effect msk s0 s) :
    Effect msk s0 (State.bootGuard s e r) := by
  unfold State.bootGuard
  repeat' first | with_reducible intro _ | with_reducible assumption | with_reducible rfl | exact subParts hm (by decide) | with_reducible apply State.grdTake_effect | with_reducible apply State.runTo_effect | with_reducible apply State.putSat_effect | with_reducible apply State.setTo_effect | with_reducible apply Effect.ite | split | dsimp only | exact bitParts hm (by decide) | exact bitOff hm (by decide) | rfl

theorem State.bootPower_effect {msk : Nat} {s0 : State} (s : State) (e : BootEnv) (hm : 0x27efcc0000c3c0e &&& msk = 0x27efcc0000c3c0e) (h_s : Effect msk s0 s) :
    Effect msk s0 (State.bootPower s e) := by
  unfold State.bootPower
  repeat' first | with_reducible intro _ | with_reducible assumption | with_reducible rfl | exact subParts hm (by decide) | with_reducible apply State.inDom_effect | with_reducible apply State.setDom_effect | with_reducible apply State.grdShow_effect | with_reducible apply State.runTo_effect | with_reducible apply State.setTo_effect | with_reducible apply State.put_effect | with_reducible apply State.wr64_effect | with_reducible apply Effect.foldl | with_reducible apply Effect.ite | split | dsimp only | exact bitParts hm (by decide) | exact bitOff hm (by decide) | exact bitPlus hm (by decide) | exact bitKey hm (by decide) | rfl

theorem State.bootFirmware_effect {m : Nat} {s0 : State} (s : State) (d : List (List Byte)) (hm : 0x20c0000000c0002 &&& m = 0x20c0000000c0002)
    (h_s : Effect m s0 s) : Effect m s0 (State.bootFirmware s d) := by
  have key : ∀ t, Effect m s0 t → Effect m s0 (t.modBoot fun x => { x with appRuns := true }) := fun t h =>
    State.modBoot_effect _ _ (subParts hm (by decide)) h rfl
  unfold State.bootFirmware
  have ha : Effect m s0 (s.put F.BOOT_STATUS_STAGE 6) := State.put_effect _ _ _ (bitParts hm (by decide)) h_s
  generalize s.put F.BOOT_STATUS_STAGE 6 = a at ha ⊢
  extract_lets
  refine Effect.ite ha ?_
  split
  · exact key _ (State.setTo_effect _ _ _ (bitParts hm (by decide)) (State.bootEvents_effect _ _ (subParts hm (by decide)) ha))
  · exact State.bootEvents_effect _ _ (subParts hm (by decide)) ha

theorem State.clearBootRecord_effect {msk : Nat} {s0 : State} (s : State) (hm : 0x2000004000 &&& msk = 0x2000004000) (h_s : Effect msk s0 s) :
    Effect msk s0 (State.clearBootRecord s) := by
  unfold State.clearBootRecord
  repeat' first | with_reducible intro _ | with_reducible assumption | with_reducible rfl | exact subParts hm (by decide) | with_reducible apply State.retPut_effect | with_reducible apply Effect.ite | split | dsimp only | exact bitParts hm (by decide) | exact bitOff hm (by decide) | exact bitPlus hm (by decide) | exact bitKey hm (by decide) | rfl

theorem State.bootProgram_effect {msk : Nat} {s0 : State} (s : State) (d : List (List Byte)) (next : Nat) (hm : 0xc0060000c4022 &&& msk = 0xc0060000c4022) (h_s : Effect msk s0 s) :
    Effect msk s0 (State.bootProgram s d next) := by
  unfold State.bootProgram
  repeat' first | with_reducible intro _ | with_reducible assumption | with_reducible rfl | exact subParts hm (by decide) | with_reducible apply State.bootEvents_effect | with_reducible apply State.setHalf_effect | with_reducible apply State.modCdr_effect | with_reducible apply State.setTo_effect | with_reducible apply State.put_effect | with_reducible apply State.wrn_effect | with_reducible apply Effect.ite | split | dsimp only | exact bitParts hm (by decide) | exact bitOff hm (by decide) | exact bitPlus hm (by decide) | exact bitKey hm (by decide) | rfl

theorem State.seedTime_effect {msk : Nat} {s0 : State} (s : State) (sub : Nat) (hm : 0x27efcc0000c6002 &&& msk = 0x27efcc0000c6002) (h_s : Effect msk s0 s) :
    Effect msk s0 (State.seedTime s sub) := by
  unfold State.seedTime
  repeat' first | with_reducible intro _ | with_reducible assumption | with_reducible rfl | exact subParts hm (by decide) | with_reducible apply State.applyStep_effect | with_reducible apply State.merTo_effect | with_reducible apply State.setTo_effect | with_reducible apply Effect.ite | split | dsimp only | exact bitParts hm (by decide) | exact bitOff hm (by decide) | exact bitPlus hm (by decide) | exact bitKey hm (by decide) | rfl

theorem State.bootTime_effect {m : Nat} {s0 : State} (s : State) (e : BootEnv) (hm : 0x27efcc0000c6002 &&& m = 0x27efcc0000c6002) (h_s : Effect m s0 s) :
    Effect m s0 (State.bootTime s e) := by
  have key : ∀ t, Effect m s0 t → ∀ w, Effect m s0 (t.modBoot fun x => { x with waitFrom := w }) := fun t h _ =>
    State.modBoot_effect _ _ (subParts hm (by decide)) h rfl
  have sub : ∀ t, Effect m s0 t → Effect m s0 t.gridStart := fun t h => State.gridStart_effect _ (subParts hm (by decide)) h
  unfold State.bootTime
  have ha : Effect m s0 (s.runTo e.timeAt) := State.runTo_effect _ _ (subParts hm (by decide)) h_s
  generalize s.runTo e.timeAt = a at ha ⊢
  extract_lets _ b c
  have hc : Effect m s0 c := key _ (State.seedTime_effect _ e.sub (subParts hm (by decide))
    (State.put_effect _ F.BOOT_STATUS_STAGE 8 (bitParts hm (by decide)) ha)) _
  exact Effect.ite (sub _ ha) (Effect.ite (sub _ hc) hc)

theorem State.bootLate_effect {msk : Nat} {s0 : State} (s : State) (d : List (List Byte)) (e : BootEnv) (hm : 0x7fffffdffffffff &&& msk = 0x7fffffdffffffff) (h_s : Effect msk s0 s) :
    Effect msk s0 (State.bootLate s d e) := by
  unfold State.bootLate
  repeat' first | with_reducible intro _ | with_reducible assumption | with_reducible rfl | exact subParts hm (by decide) | with_reducible apply State.bootTime_effect | with_reducible apply State.bootProgram_effect | with_reducible apply State.clearBootRecord_effect | with_reducible apply State.bootFirmware_effect | with_reducible apply State.bootConfig_effect | with_reducible apply State.inDom_effect | with_reducible apply State.plateRestore_effect | with_reducible apply Effect.ite | split | dsimp only | exact bitParts hm (by decide) | exact bitOff hm (by decide) | exact bitPlus hm (by decide) | exact bitKey hm (by decide) | rfl

theorem State.bootMain_effect {msk : Nat} {s0 : State} (s : State) (d : List (List Byte)) (e : BootEnv) (evs : List BootEv) (hm : 0x7fffffdffffffff &&& msk = 0x7fffffdffffffff) (h_s : Effect msk s0 s) :
    Effect msk s0 (State.bootMain s d e evs) := by
  unfold State.bootMain
  repeat' first | with_reducible intro _ | with_reducible assumption | with_reducible rfl | exact subParts hm (by decide) | with_reducible apply State.runTo_effect | with_reducible apply State.bootLate_effect | with_reducible apply State.bootPower_effect | with_reducible apply State.bootHalt_effect | with_reducible apply State.bootEvents_effect | with_reducible apply State.modPow_effect | with_reducible apply State.put_effect | with_reducible apply Effect.ite | split | dsimp only | exact bitParts hm (by decide) | exact bitOff hm (by decide) | exact bitAll hm (by decide) | rfl

theorem State.bootRun_effect {msk : Nat} {s0 : State} (s : State) (e : BootEnv) (hm : 0x7fffffdffffffff &&& msk = 0x7fffffdffffffff) (h_s : Effect msk s0 s) :
    Effect msk s0 (State.bootRun s e) := by
  unfold State.bootRun
  repeat' first | with_reducible intro _ | with_reducible assumption | with_reducible rfl | exact subParts hm (by decide) | with_reducible apply State.bootMain_effect | with_reducible apply State.bootGuard_effect | with_reducible apply State.bootHalt_effect | with_reducible apply State.bootRom_effect | with_reducible apply State.setTo_effect | with_reducible apply State.put_effect | with_reducible apply Effect.ite | split | dsimp only | exact bitParts hm (by decide) | exact bitOff hm (by decide) | exact bitPlus hm (by decide) | exact bitKey hm (by decide) | rfl

theorem State.lockoutRelease_effect {msk : Nat} {s0 : State} (s : State) (e : BootEnv) (hm : 0x7fffffdffffffff &&& msk = 0x7fffffdffffffff) (h_s : Effect msk s0 s) :
    Effect msk s0 (State.lockoutRelease s e) := by
  unfold State.lockoutRelease
  repeat' first | with_reducible intro _ | with_reducible assumption | with_reducible rfl | exact subParts hm (by decide) | with_reducible apply State.bootRun_effect | with_reducible apply State.afterGuard_effect | with_reducible apply State.drainDone_effect | with_reducible apply State.runTo_effect | with_reducible apply State.resumeCopy_effect | with_reducible apply State.modMer_effect | with_reducible apply Effect.ite | split | dsimp only | exact bitParts hm (by decide) | exact bitOff hm (by decide) | exact bitPlus hm (by decide) | exact bitKey hm (by decide) | rfl

theorem execLockoutRelease_effect {msk : Nat} {s0 : State} (rank : Fin 4) (rails : Fin 512) (ddrOk : Bool) (bistFail : Byte) (guardAt powerAt ddrAt timeAt : Nat) (sub : Fin 32768) (s : State) (hm : 0x7fffffdffffffff &&& msk = 0x7fffffdffffffff) (h_s : Effect msk s0 s) :
    EffectOut msk s0 (execLockoutRelease rank rails ddrOk bistFail guardAt powerAt ddrAt timeAt sub s) := by
  unfold execLockoutRelease
  repeat' first | with_reducible intro _ | with_reducible assumption | with_reducible rfl | with_reducible refine EffectOut.gate ?_ ?_ | with_reducible refine EffectOut.rooted ?_ ?_ | with_reducible refine EffectOut.reach ?_ ?_ | with_reducible refine EffectOut.next ?_ | exact subParts hm (by decide) | with_reducible apply State.lockoutRelease_effect | with_reducible apply Effect.ite | split | dsimp only | exact bitParts hm (by decide) | exact bitOff hm (by decide) | exact bitPlus hm (by decide) | exact bitKey hm (by decide) | rfl

end Sys2Proof.Machine
end

