-- ==== Sys2Proof/Laws/EffectCycle.lean ====
section
/-! SUPPORT. What the operations of Machine/Cycle.lean do: the parts of the state that each may change. -/

set_option linter.unusedTactic false
set_option linter.unusedVariables false
set_option linter.unreachableTactic false

namespace Sys2Proof.Machine

theorem State.resyncNow_effect {msk : Nat} {s0 : State} (s : State) (hm : 0xc1440000c0400 &&& msk = 0xc1440000c0400) (h_s : Effect msk s0 s) :
    Effect msk s0 (State.resyncNow s) := by
  unfold State.resyncNow
  repeat' first | with_reducible intro _ | with_reducible assumption | with_reducible rfl | exact subParts hm (by decide) | with_reducible apply State.modRed_effect | with_reducible apply State.modCdr_effect | with_reducible apply State.modTb_effect | with_reducible apply State.raise_effect | with_reducible apply State.setTo_effect | with_reducible apply Effect.ite | split | dsimp only | exact bitParts hm (by decide) | exact bitOff hm (by decide) | exact bitPlus hm (by decide) | exact bitKey hm (by decide) | rfl

theorem State.takeEffect_effect {m : Nat} {s0 : State} (s : State) (hm : 0x20000000000 &&& m = 0x20000000000) (h_s : Effect m s0 s) :
    Effect m s0 (State.takeEffect s) :=
  ⟨⟨h_s.kept.regs, fun w _ => swf_filter _ (h_s.kept.regs w), h_s.kept.mem, h_s.kept.pending, h_s.kept.variant,
      h_s.kept.sizes, h_s.kept.fuses⟩,
    { h_s.within with eff := fun b => absurd (b.symm.trans (bitParts hm (by decide))) Bool.false_ne_true }⟩

theorem State.beginCycle_effect {msk : Nat} {s0 : State} (u : State) (t : Nat) (hm : 0x27efcc0000c2420 &&& msk = 0x27efcc0000c2420) (h_u : Effect msk s0 u) :
    Effect msk s0 (State.beginCycle u t) := by
  unfold State.beginCycle
  repeat' first | with_reducible intro _ | with_reducible assumption | with_reducible rfl | exact subParts hm (by decide) | with_reducible apply State.resyncNow_effect | with_reducible apply State.modCdr_effect | with_reducible apply State.takeStep_effect | with_reducible apply State.applyStep_effect | with_reducible apply State.put_effect | with_reducible apply Effect.ite | split | dsimp only | exact bitParts hm (by decide) | exact bitOff hm (by decide) | exact bitPlus hm (by decide) | exact bitKey hm (by decide) | rfl

theorem State.slowStart_effect {msk : Nat} {s0 : State} (s : State) (hm : 0xc0040000c0020 &&& msk = 0xc0040000c0020) (h_s : Effect msk s0 s) :
    Effect msk s0 (State.slowStart s) := by
  unfold State.slowStart
  repeat' first | with_reducible intro _ | with_reducible assumption | with_reducible rfl | exact subParts hm (by decide) | with_reducible apply State.modCdr_effect | with_reducible apply State.raise_effect | with_reducible apply State.bump_effect | with_reducible apply State.setTo_effect | with_reducible apply Effect.ite | split | dsimp only | exact bitParts hm (by decide) | exact bitOff hm (by decide) | exact bitPlus hm (by decide) | exact bitKey hm (by decide) | rfl

theorem State.bootDone_effect {msk : Nat} {s0 : State} (s : State) (hm : 0xd0400000d2602 &&& msk = 0xd0400000d2602) (h_s : Effect msk s0 s) :
    Effect msk s0 (State.bootDone s) := by
  unfold State.bootDone
  repeat' first | with_reducible intro _ | with_reducible assumption | with_reducible rfl | exact subParts hm (by decide) | with_reducible apply State.standbyEntered_effect | with_reducible apply State.setRstate_effect | with_reducible apply State.raise_effect | with_reducible apply State.raise1_effect | with_reducible apply State.putSat_effect | with_reducible apply State.setTo_effect | with_reducible apply State.put_effect | with_reducible apply Effect.ite | split | dsimp only | exact bitParts hm (by decide) | exact bitOff hm (by decide) | rfl

theorem State.cycleBlocks_effect {msk : Nat} {s0 : State} (s : State) (hm : 0x5ef1304000f23dc &&& msk = 0x5ef1304000f23dc) (h_s : Effect msk s0 s) :
    Effect msk s0 (State.cycleBlocks s) := by
  unfold State.cycleBlocks
  repeat' first | with_reducible intro _ | with_reducible assumption | with_reducible rfl | exact subParts hm (by decide) | with_reducible apply State.takeEffect_effect | with_reducible apply State.sdfLatch_effect | with_reducible apply State.tempLatch_effect | with_reducible apply State.refComp_effect | with_reducible apply State.spreadChange_effect | with_reducible apply State.throttleStep_effect | with_reducible apply State.quadSwitch_effect | with_reducible apply State.pinTriggers_effect | with_reducible apply State.tableCheck_effect | with_reducible apply State.modEph_effect | with_reducible apply State.dioLatch_effect | with_reducible apply State.dioSettle_effect | with_reducible apply State.ctlCycle_effect | with_reducible apply State.colArm_effect | with_reducible apply State.colDone_effect | with_reducible apply State.setCheck_effect | with_reducible apply State.paramCheck_effect | with_reducible apply State.datumApply_effect | with_reducible apply State.reticleCheck_effect | with_reducible apply State.fusSample_effect | with_reducible apply State.planCheck_effect | with_reducible apply State.modOry_effect | with_reducible apply State.lockedRate_effect | with_reducible apply Effect.ite | split | dsimp only | rfl

theorem State.sampleInstant_effect {msk : Nat} {s0 : State} (s : State) (hm : 0x7ffffc4000f27fe &&& msk = 0x7ffffc4000f27fe) (h_s : Effect msk s0 s) :
    Effect msk s0 (State.sampleInstant s) := by
  unfold State.sampleInstant
  repeat' first | with_reducible intro _ | with_reducible assumption | with_reducible rfl | exact subParts hm (by decide) | with_reducible apply State.cycleBlocks_effect | with_reducible apply State.bootDone_effect | with_reducible apply State.slowStart_effect | with_reducible apply State.beginCycle_effect | with_reducible apply State.closeWindow_effect | with_reducible apply State.rdnSample_effect | with_reducible apply State.drainDone_effect | with_reducible apply State.modXl_effect | with_reducible apply State.modGrd_effect | with_reducible apply State.runTo_effect | with_reducible apply Effect.ite | split | dsimp only | exact bitParts hm (by decide) | exact bitOff hm (by decide) | exact bitPlus hm (by decide) | exact bitKey hm (by decide) | rfl

theorem execSampleInstant_effect {msk : Nat} {s0 : State} (s : State) (hm : 0x7ffffc4000f27fe &&& msk = 0x7ffffc4000f27fe) (h_s : Effect msk s0 s) :
    EffectOut msk s0 (execSampleInstant s) := by
  unfold execSampleInstant
  repeat' first | with_reducible intro _ | with_reducible assumption | with_reducible rfl | with_reducible refine EffectOut.next ?_ | exact subParts hm (by decide) | with_reducible apply State.sampleInstant_effect | with_reducible apply Effect.ite | split | dsimp only | rfl

theorem State.toBoundary_effect {msk : Nat} {s0 : State} (s : State) (f : Fld) (hm : 0x27efcc0000c2000 &&& msk = 0x27efcc0000c2000) (h_s : Effect msk s0 s) :
    Effect msk s0 (State.toBoundary s f) := by
  unfold State.toBoundary
  repeat' first | with_reducible intro _ | with_reducible assumption | with_reducible rfl | exact subParts hm (by decide) | with_reducible apply State.runTo_effect | with_reducible apply Effect.ite | split | dsimp only | rfl

theorem State.restoreMirrored_effect {msk : Nat} {s0 : State} (s : State) (hm : 0x46000000000 &&& msk = 0x46000000000) (h_s : Effect msk s0 s) :
    Effect msk s0 (State.restoreMirrored s) := by
  unfold State.restoreMirrored
  repeat' first | with_reducible intro _ | with_reducible assumption | with_reducible rfl | exact subParts hm (by decide) | with_reducible apply State.modRed_effect | with_reducible apply State.setHalf_effect | with_reducible apply Effect.ite | split | dsimp only | rfl

theorem State.preStart_effect {msk : Nat} {s0 : State} (s : State) (hm : 0x7fffffcffffffff &&& msk = 0x7fffffcffffffff) (h_s : Effect msk s0 s) :
    Effect msk s0 (State.preStart s) := by
  unfold State.preStart
  repeat' first | with_reducible intro _ | with_reducible assumption | with_reducible rfl | exact subParts hm (by decide) | with_reducible apply State.preLate_effect | with_reducible apply State.overrun_effect | with_reducible apply State.cycleFault_effect | with_reducible apply State.modCdr_effect | with_reducible apply State.post_effect | with_reducible apply State.setTo_effect | with_reducible apply State.put_effect | with_reducible apply Effect.ite | split | dsimp only | exact bitParts hm (by decide) | exact bitOff hm (by decide) | exact bitPlus hm (by decide) | exact bitKey hm (by decide) | rfl

theorem State.programIntake_effect {msk : Nat} {s0 : State} (s : State) (hm : 0x7fffffcffffffff &&& msk = 0x7fffffcffffffff) (h_s : Effect msk s0 s) :
    Effect msk s0 (State.programIntake s) := by
  unfold State.programIntake
  repeat' first | with_reducible intro _ | with_reducible assumption | with_reducible rfl | exact subParts hm (by decide) | with_reducible apply State.preStart_effect | with_reducible apply State.restartBegin_effect | with_reducible apply State.stopCores_effect | with_reducible apply Effect.ite | split | dsimp only | exact bitParts hm (by decide) | exact bitOff hm (by decide) | exact bitPlus hm (by decide) | exact bitKey hm (by decide) | rfl

theorem State.intakeClose_effect {msk : Nat} {s0 : State} (s : State) (hm : 0x7fffffcffffffff &&& msk = 0x7fffffcffffffff) (h_s : Effect msk s0 s) :
    Effect msk s0 (State.intakeClose s) := by
  unfold State.intakeClose
  repeat' first | with_reducible intro _ | with_reducible assumption | with_reducible rfl | exact subParts hm (by decide) | with_reducible apply State.programIntake_effect | with_reducible apply State.restoreMirrored_effect | with_reducible apply State.toBoundary_effect | with_reducible apply State.drainDone_effect | with_reducible apply State.ringTriggers_effect | with_reducible apply State.stationViews_effect | with_reducible apply State.fusIntakeCl_effect | with_reducible apply Effect.ite | split | dsimp only | rfl

theorem execIntakeCl_effect {msk : Nat} {s0 : State} (s : State) (hm : 0x7fffffcffffffff &&& msk = 0x7fffffcffffffff) (h_s : Effect msk s0 s) :
    EffectOut msk s0 (execIntakeCl s) := by
  unfold execIntakeCl
  repeat' first | with_reducible intro _ | with_reducible assumption | with_reducible rfl | with_reducible refine EffectOut.next ?_ | exact subParts hm (by decide) | with_reducible apply State.intakeClose_effect | with_reducible apply Effect.ite | split | dsimp only | rfl

theorem State.takeBlocks_effect {msk : Nat} {s0 : State} (s : State) (hm : 0xc0040000c0020 &&& msk = 0xc0040000c0020) (h_s : Effect msk s0 s) :
    Effect msk s0 (State.takeBlocks s) := by
  unfold State.takeBlocks
  repeat' first | with_reducible intro _ | with_reducible assumption | with_reducible rfl | exact subParts hm (by decide) | with_reducible apply State.preLate_effect | with_reducible apply State.modCdr_effect | with_reducible apply Effect.ite | split | dsimp only | rfl

theorem State.fusionDeadline_effect {msk : Nat} {s0 : State} (s : State) (hm : 0x3fefdc4000c23e0 &&& msk = 0x3fefdc4000c23e0) (h_s : Effect msk s0 s) :
    Effect msk s0 (State.fusionDeadline s) := by
  unfold State.fusionDeadline
  repeat' first | with_reducible intro _ | with_reducible assumption | with_reducible rfl | exact subParts hm (by decide) | with_reducible apply State.takeBlocks_effect | with_reducible apply State.toBoundary_effect | with_reducible apply State.drainDone_effect | with_reducible apply State.ephFusion_effect | with_reducible apply State.ctlFusion_effect | with_reducible apply State.lapPost_effect | with_reducible apply State.fusDeadline_effect | with_reducible apply Effect.ite | split | dsimp only | exact bitParts hm (by decide) | exact bitOff hm (by decide) | exact bitPlus hm (by decide) | exact bitKey hm (by decide) | rfl

theorem execFusionDl_effect {msk : Nat} {s0 : State} (s : State) (hm : 0x3fefdc4000c23e0 &&& msk = 0x3fefdc4000c23e0) (h_s : Effect msk s0 s) :
    EffectOut msk s0 (execFusionDl s) := by
  unfold execFusionDl
  repeat' first | with_reducible intro _ | with_reducible assumption | with_reducible rfl | with_reducible refine EffectOut.next ?_ | exact subParts hm (by decide) | with_reducible apply State.fusionDeadline_effect | with_reducible apply Effect.ite | split | dsimp only | rfl

theorem State.postJobs_effect {msk : Nat} {s0 : State} (s : State) (hm : 0x3fefdc4000c23c0 &&& msk = 0x3fefdc4000c23c0) (h_s : Effect msk s0 s) :
    Effect msk s0 (State.postJobs s) := by
  unfold State.postJobs
  repeat' first | with_reducible intro _ | with_reducible assumption | with_reducible rfl | exact subParts hm (by decide) | with_reducible apply State.drainDone_effect | with_reducible apply State.scnPost_effect | with_reducible apply State.primaryPost_effect | with_reducible apply State.runTo_effect | with_reducible apply Effect.ite | split | dsimp only | exact bitParts hm (by decide) | exact bitOff hm (by decide) | exact bitPlus hm (by decide) | exact bitKey hm (by decide) | rfl

theorem execPrimaryPost_effect {msk : Nat} {s0 : State} (s : State) (hm : 0x3fefdc4000c23c0 &&& msk = 0x3fefdc4000c23c0) (h_s : Effect msk s0 s) :
    EffectOut msk s0 (execPrimaryPost s) := by
  unfold execPrimaryPost
  repeat' first | with_reducible intro _ | with_reducible assumption | with_reducible rfl | with_reducible refine EffectOut.next ?_ | exact subParts hm (by decide) | with_reducible apply State.postJobs_effect | with_reducible apply Effect.ite | split | dsimp only | rfl

theorem State.openBuffer_effect {msk : Nat} {s0 : State} (s : State) (hm : 0x4000000000 &&& msk = 0x4000000000) (h_s : Effect msk s0 s) :
    Effect msk s0 (State.openBuffer s) := by
  unfold State.openBuffer
  repeat' first | with_reducible intro _ | with_reducible assumption | with_reducible rfl | exact subParts hm (by decide) | with_reducible apply State.slotIntoBuf_effect | with_reducible apply State.modCdr_effect | with_reducible apply Effect.foldl | with_reducible apply Effect.ite | split | dsimp only | exact bitParts hm (by decide) | exact bitOff hm (by decide) | exact bitPlus hm (by decide) | exact bitKey hm (by decide) | rfl

theorem State.writeRegions_effect {msk : Nat} {s0 : State} (s : State) (hm : 0x58c0148000c0300 &&& msk = 0x58c0148000c0300) (h_s : Effect msk s0 s) :
    Effect msk s0 (State.writeRegions s) := by
  unfold State.writeRegions
  repeat' first | with_reducible intro _ | with_reducible assumption | with_reducible rfl | exact subParts hm (by decide) | with_reducible apply State.ephWords_effect | with_reducible apply State.ephSolve_effect | with_reducible apply State.colCapture_effect | with_reducible apply State.controlRegion_effect | with_reducible apply State.lapMissed_effect | with_reducible apply Effect.ite | split | dsimp only | rfl

theorem State.postStart_effect {msk : Nat} {s0 : State} (s : State) (hm : 0xc0040000c0020 &&& msk = 0xc0040000c0020) (h_s : Effect msk s0 s) :
    Effect msk s0 (State.postStart s) := by
  unfold State.postStart
  repeat' first | with_reducible intro _ | with_reducible assumption | with_reducible rfl | exact subParts hm (by decide) | with_reducible apply State.overrun_effect | with_reducible apply State.modCdr_effect | with_reducible apply State.setTo_effect | with_reducible apply Effect.ite | split | dsimp only | exact bitParts hm (by decide) | exact bitOff hm (by decide) | exact bitPlus hm (by decide) | exact bitKey hm (by decide) | rfl

theorem State.solveDeadline_effect {msk : Nat} {s0 : State} (s : State) (hm : 0x7fefdc8000c2320 &&& msk = 0x7fefdc8000c2320) (h_s : Effect msk s0 s) :
    Effect msk s0 (State.solveDeadline s) := by
  unfold State.solveDeadline
  repeat' first | with_reducible intro _ | with_reducible assumption | with_reducible rfl | exact subParts hm (by decide) | with_reducible apply State.postStart_effect | with_reducible apply State.writeRegions_effect | with_reducible apply State.openBuffer_effect | with_reducible apply State.toBoundary_effect | with_reducible apply Effect.ite | split | dsimp only | rfl

theorem execSolveDl_effect {msk : Nat} {s0 : State} (s : State) (hm : 0x7fefdc8000c2320 &&& msk = 0x7fefdc8000c2320) (h_s : Effect msk s0 s) :
    EffectOut msk s0 (execSolveDl s) := by
  unfold execSolveDl
  repeat' first | with_reducible intro _ | with_reducible assumption | with_reducible rfl | with_reducible refine EffectOut.next ?_ | exact subParts hm (by decide) | with_reducible apply State.solveDeadline_effect | with_reducible apply Effect.ite | split | dsimp only | rfl

theorem State.keepTau_effect {msk : Nat} {s0 : State} (s : State) (hm : 0x80000000000000 &&& msk = 0x80000000000000) (h_s : Effect msk s0 s) :
    Effect msk s0 (State.keepTau s) := by
  unfold State.keepTau
  repeat' first | with_reducible intro _ | with_reducible assumption | with_reducible rfl | exact subParts hm (by decide) | with_reducible apply State.modCtl_effect | with_reducible apply Effect.ite | split | dsimp only | exact bitParts hm (by decide) | exact bitOff hm (by decide) | exact bitPlus hm (by decide) | exact bitKey hm (by decide) | rfl

theorem State.stageSet_effect {msk : Nat} {s0 : State} (s : State) (hm : 0x8c0040000c0020 &&& msk = 0x8c0040000c0020) (h_s : Effect msk s0 s) :
    Effect msk s0 (State.stageSet s) := by
  unfold State.stageSet
  repeat' first | with_reducible intro _ | with_reducible assumption | with_reducible rfl | exact subParts hm (by decide) | with_reducible apply State.keepTau_effect | with_reducible apply State.autoBack_effect | with_reducible apply State.modCdr_effect | with_reducible apply State.raise2_effect | with_reducible apply State.setTo_effect | with_reducible apply State.put_effect | with_reducible apply State.wrn_effect | with_reducible apply Effect.ite | split | dsimp only | exact bitParts hm (by decide) | exact bitOff hm (by decide) | exact bitPlus hm (by decide) | exact bitKey hm (by decide) | rfl

theorem State.freezeSet_effect {msk : Nat} {s0 : State} (s : State) (hm : 0x8c0040000c0020 &&& msk = 0x8c0040000c0020) (h_s : Effect msk s0 s) :
    Effect msk s0 (State.freezeSet s) := by
  unfold State.freezeSet
  repeat' first | with_reducible intro _ | with_reducible assumption | with_reducible rfl | exact subParts hm (by decide) | with_reducible apply State.stageSet_effect | with_reducible apply State.overrun_effect | with_reducible apply State.modCdr_effect | with_reducible apply State.post_effect | with_reducible apply State.setTo_effect | with_reducible apply Effect.ite | split | dsimp only | exact bitParts hm (by decide) | exact bitOff hm (by decide) | rfl

theorem State.stageDeadline_effect {msk : Nat} {s0 : State} (s : State) (l : Lines) (hm : 0x2fefcc0000c2720 &&& msk = 0x2fefcc0000c2720) (h_s : Effect msk s0 s) :
    Effect msk s0 (State.stageDeadline s l) := by
  unfold State.stageDeadline
  repeat' first | with_reducible intro _ | with_reducible assumption | with_reducible rfl | exact subParts hm (by decide) | with_reducible apply State.freezeSet_effect | with_reducible apply State.toBoundary_effect | with_reducible apply State.compareSend_effect | with_reducible apply State.partnerSeen_effect | with_reducible apply State.refit_effect | with_reducible apply State.showLines_effect | with_reducible apply State.modRed_effect | with_reducible apply State.stagedShow_effect | with_reducible apply Effect.ite | split | dsimp only | exact bitParts hm (by decide) | exact bitOff hm (by decide) | exact bitPlus hm (by decide) | exact bitKey hm (by decide) | rfl

theorem execStageDl_effect {msk : Nat} {s0 : State} (lines : Lines) (s : State) (hm : 0x2fefcc0000c2720 &&& msk = 0x2fefcc0000c2720) (h_s : Effect msk s0 s) :
    EffectOut msk s0 (execStageDl lines s) := by
  unfold execStageDl
  repeat' first | with_reducible intro _ | with_reducible assumption | with_reducible rfl | with_reducible refine EffectOut.next ?_ | exact subParts hm (by decide) | with_reducible apply State.stageDeadline_effect | with_reducible apply Effect.ite | split | dsimp only | rfl

theorem State.stationStage_effect {msk : Nat} {s0 : State} (s : State) (hm : 0x2fefcc0000c2020 &&& msk = 0x2fefcc0000c2020) (h_s : Effect msk s0 s) :
    Effect msk s0 (State.stationStage s) := by
  unfold State.stationStage
  repeat' first | with_reducible intro _ | with_reducible assumption | with_reducible rfl | exact subParts hm (by decide) | with_reducible apply State.freezeSet_effect | with_reducible apply State.bufWords_effect | with_reducible apply State.runTo_effect | with_reducible apply Effect.ite | split | dsimp only | rfl

theorem execStationStageDl_effect {msk : Nat} {s0 : State} (s : State) (hm : 0x2fefcc0000c2020 &&& msk = 0x2fefcc0000c2020) (h_s : Effect msk s0 s) :
    EffectOut msk s0 (execStationStageDl s) := by
  unfold execStationStageDl
  repeat' first | with_reducible intro _ | with_reducible assumption | with_reducible rfl | with_reducible refine EffectOut.next ?_ | exact subParts hm (by decide) | with_reducible apply State.stationStage_effect | with_reducible apply Effect.ite | split | dsimp only | rfl

theorem State.applyOutputs_effect {msk : Nat} {s0 : State} (s : State) (hm : 0x1004000000000 &&& msk = 0x1004000000000) (h_s : Effect msk s0 s) :
    Effect msk s0 (State.applyOutputs s) := by
  unfold State.applyOutputs
  repeat' first | with_reducible intro _ | with_reducible assumption | with_reducible rfl | exact subParts hm (by decide) | with_reducible apply State.modCdr_effect | with_reducible apply State.applyStagedDio_effect | with_reducible apply Effect.ite | split | dsimp only | exact bitParts hm (by decide) | exact bitOff hm (by decide) | exact bitPlus hm (by decide) | exact bitKey hm (by decide) | rfl

theorem State.outputInstant_effect {msk : Nat} {s0 : State} (s : State) (refOk : Bool) (hm : 0x37ffce0000d7600 &&& msk = 0x37ffce0000d7600) (h_s : Effect msk s0 s) :
    Effect msk s0 (State.outputInstant s refOk) := by
  unfold State.outputInstant
  repeat' first | with_reducible intro _ | with_reducible assumption | with_reducible rfl | exact subParts hm (by decide) | with_reducible apply State.applyOutputs_effect | with_reducible apply State.toBoundary_effect | with_reducible apply State.handDecide_effect | with_reducible apply State.stateSend_effect | with_reducible apply State.ephOut_effect | with_reducible apply State.copyRetained_effect | with_reducible apply State.mgmtSend_effect | with_reducible apply State.portUnwrap_effect | with_reducible apply State.almFlush_effect | with_reducible apply Effect.ite | split | dsimp only | rfl

theorem execOutOffset_effect {msk : Nat} {s0 : State} (refOk : Bool) (s : State) (hm : 0x37ffce0000d7600 &&& msk = 0x37ffce0000d7600) (h_s : Effect msk s0 s) :
    EffectOut msk s0 (execOutOffset refOk s) := by
  unfold execOutOffset
  repeat' first | with_reducible intro _ | with_reducible assumption | with_reducible rfl | with_reducible refine EffectOut.next ?_ | exact subParts hm (by decide) | with_reducible apply State.outputInstant_effect | with_reducible apply Effect.ite | split | dsimp only | rfl

theorem State.switchBoundary_effect {msk : Nat} {s0 : State} (s : State) (mig : Option (List (Nat × Byte) × List (Nat × Byte))) (hm : 0x27ffcc0000d3e20 &&& msk = 0x27ffcc0000d3e20) (h_s : Effect msk s0 s) :
    Effect msk s0 (State.switchBoundary s mig) := by
  unfold State.switchBoundary
  repeat' first | with_reducible intro _ | with_reducible assumption | with_reducible rfl | exact subParts hm (by decide) | with_reducible apply State.toBoundary_effect | with_reducible apply State.windowAt_effect | with_reducible apply State.rehFinish_effect | with_reducible apply State.roleSwitch_effect | with_reducible apply Effect.ite | split | dsimp only | rfl

theorem execSwitchBoundary_effect {msk : Nat} {s0 : State} (mig : Option (List (Nat × Byte) × List (Nat × Byte))) (s : State) (hm : 0x27ffcc0000d3e20 &&& msk = 0x27ffcc0000d3e20) (h_s : Effect msk s0 s) :
    EffectOut msk s0 (execSwitchBoundary mig s) := by
  unfold execSwitchBoundary
  repeat' first | with_reducible intro _ | with_reducible assumption | with_reducible rfl | with_reducible refine EffectOut.next ?_ | exact subParts hm (by decide) | with_reducible apply State.switchBoundary_effect | with_reducible apply Effect.ite | split | dsimp only | rfl

theorem State.fastStart_effect {msk : Nat} {s0 : State} (s : State) (hm : 0xc0040000c0020 &&& msk = 0xc0040000c0020) (h_s : Effect msk s0 s) :
    Effect msk s0 (State.fastStart s) := by
  unfold State.fastStart
  repeat' first | with_reducible intro _ | with_reducible assumption | with_reducible rfl | exact subParts hm (by decide) | with_reducible apply State.modCdr_effect | with_reducible apply State.raise_effect | with_reducible apply State.bump_effect | with_reducible apply State.setTo_effect | with_reducible apply Effect.ite | split | dsimp only | exact bitParts hm (by decide) | exact bitOff hm (by decide) | exact bitPlus hm (by decide) | exact bitKey hm (by decide) | rfl

theorem State.fastReleases_effect {msk : Nat} {s0 : State} (s : State) (hm : 0x40000000000000 &&& msk = 0x40000000000000) (h_s : Effect msk s0 s) :
    Effect msk s0 (State.fastReleases s) := by
  unfold State.fastReleases
  repeat' first | with_reducible intro _ | with_reducible assumption | with_reducible rfl | exact subParts hm (by decide) | with_reducible apply State.modOry_effect | with_reducible apply Effect.ite | split | dsimp only | rfl

theorem State.fastTick_effect {msk : Nat} {s0 : State} (s : State) (hm : 0x37ffdc0000c2260 &&& msk = 0x37ffdc0000c2260) (h_s : Effect msk s0 s) :
    Effect msk s0 (State.fastTick s) := by
  unfold State.fastTick
  repeat' first | with_reducible intro _ | with_reducible assumption | with_reducible rfl | exact subParts hm (by decide) | with_reducible apply State.fastReleases_effect | with_reducible apply State.fastStart_effect | with_reducible apply State.closeWindow_effect | with_reducible apply State.modCdr_effect | with_reducible apply State.insTick_effect | with_reducible apply State.dioFastLatch_effect | with_reducible apply State.sdfFastLatch_effect | with_reducible apply State.runTo_effect | with_reducible apply Effect.ite | split | dsimp only | exact bitParts hm (by decide) | exact bitOff hm (by decide) | exact bitPlus hm (by decide) | exact bitKey hm (by decide) | rfl

theorem execFastTick_effect {msk : Nat} {s0 : State} (s : State) (hm : 0x37ffdc0000c2260 &&& msk = 0x37ffdc0000c2260) (h_s : Effect msk s0 s) :
    EffectOut msk s0 (execFastTick s) := by
  unfold execFastTick
  repeat' first | with_reducible intro _ | with_reducible assumption | with_reducible rfl | with_reducible refine EffectOut.next ?_ | exact subParts hm (by decide) | with_reducible apply State.fastTick_effect | with_reducible apply Effect.ite | split | dsimp only | rfl

theorem State.fastBudgetOver_effect {msk : Nat} {s0 : State} (s : State) (hm : 0x27efcc0000c2020 &&& msk = 0x27efcc0000c2020) (h_s : Effect msk s0 s) :
    Effect msk s0 (State.fastBudgetOver s) := by
  unfold State.fastBudgetOver
  repeat' first | with_reducible intro _ | with_reducible assumption | with_reducible rfl | exact subParts hm (by decide) | with_reducible apply State.modCdr_effect | with_reducible apply State.runTo_effect | with_reducible apply State.raise_effect | with_reducible apply State.setTo_effect | with_reducible apply Effect.ite | split | dsimp only | exact bitParts hm (by decide) | exact bitOff hm (by decide) | rfl

theorem execFastBudgetExpiry_effect {msk : Nat} {s0 : State} (s : State) (hm : 0x27efcc0000c2020 &&& msk = 0x27efcc0000c2020) (h_s : Effect msk s0 s) :
    EffectOut msk s0 (execFastBudgetExpiry s) := by
  unfold execFastBudgetExpiry
  repeat' first | with_reducible intro _ | with_reducible assumption | with_reducible rfl | with_reducible refine EffectOut.gate ?_ ?_ | with_reducible refine EffectOut.rooted ?_ ?_ | with_reducible refine EffectOut.reach ?_ ?_ | with_reducible refine EffectOut.next ?_ | exact subParts hm (by decide) | with_reducible apply State.fastBudgetOver_effect | with_reducible apply Effect.ite | split | dsimp only | exact bitParts hm (by decide) | exact bitOff hm (by decide) | exact bitPlus hm (by decide) | exact bitKey hm (by decide) | rfl

end Sys2Proof.Machine
end

