-- ==== Sys2Proof/Laws/EffectExec.lean ====
section
/-! SUPPORT. What every command does: it changes no part of the state but those named for it, and keeps what every operation
keeps. -/

namespace Sys2Proof.Machine

/-- What a command does. -/
theorem exec_effect (i : Instr) (s : State) : EffectOut (parts (partsOf i)) s (exec i s) := by
  unfold exec
  cases i
  · exact execRegisterWrite_effect _ _ _ _ _ _ _ (by dsimp only [partsOf]; decide) (.refl _ s)
  · exact execReadClear_effect _ _ _ _ _ (by dsimp only [partsOf]; decide) (.refl _ s)
  · exact execDebugModuleAccess_effect _ _ _ _ (by dsimp only [partsOf]; decide) (.refl _ s)
  · exact execSampleInstant_effect _ (by dsimp only [partsOf]; decide) (.refl _ s)
  · exact execIntakeCl_effect _ (by dsimp only [partsOf]; decide) (.refl _ s)
  · exact execFusionDl_effect _ (by dsimp only [partsOf]; decide) (.refl _ s)
  · exact execPrimaryPost_effect _ (by dsimp only [partsOf]; decide) (.refl _ s)
  · exact execSolveDl_effect _ (by dsimp only [partsOf]; decide) (.refl _ s)
  · exact execStageDl_effect _ _ (by dsimp only [partsOf]; decide) (.refl _ s)
  · exact execOutOffset_effect _ _ (by dsimp only [partsOf]; decide) (.refl _ s)
  · exact execSwitchBoundary_effect _ _ (by dsimp only [partsOf]; decide) (.refl _ s)
  · exact execSwitchWindowClose_effect _ (by dsimp only [partsOf]; decide) (.refl _ s)
  · exact execFastTick_effect _ (by dsimp only [partsOf]; decide) (.refl _ s)
  · exact execFastBudgetExpiry_effect _ (by dsimp only [partsOf]; decide) (.refl _ s)
  · exact execSectionEnd_effect _ _ _ (by dsimp only [partsOf]; decide) (.refl _ s)
  · exact execSectionWatchdog_effect _ _ (by dsimp only [partsOf]; decide) (.refl _ s)
  · exact execCoreFault_effect _ _ (by dsimp only [partsOf]; decide) (.refl _ s)
  · exact execEccCorrected_effect _ (by dsimp only [partsOf]; decide) (.refl _ s)
  · exact execOvrLimit_effect _ (by dsimp only [partsOf]; decide) (.refl _ s)
  · exact execFastOvrLimit_effect _ (by dsimp only [partsOf]; decide) (.refl _ s)
  · exact execInitEntryDone_effect _ _ _ (by dsimp only [partsOf]; decide) (.refl _ s)
  · exact execInitBudgetExpiry_effect _ (by dsimp only [partsOf]; decide) (.refl _ s)
  · exact execStagingWrite_effect _ _ _ _ _ (by dsimp only [partsOf]; decide) (.refl _ s)
  · exact execCheckpointWrite_effect _ _ (by dsimp only [partsOf]; decide) (.refl _ s)
  · exact execRestart_effect _ _ _ (by dsimp only [partsOf]; decide) (.refl _ s)
  · exact execProgramStop_effect _ _ _ (by dsimp only [partsOf]; decide) (.refl _ s)
  · exact execCdrCycLoRead_effect _ _ (by dsimp only [partsOf]; decide) (.refl _ s)
  · exact execCdrPtLoRead_effect _ _ (by dsimp only [partsOf]; decide) (.refl _ s)
  · exact execCdrPtAdjLoRead_effect _ _ (by dsimp only [partsOf]; decide) (.refl _ s)
  · exact execOnlineChangeLoad_effect _ _ (by dsimp only [partsOf]; decide) (.refl _ s)
  · exact execLoadChecksDone_effect _ (by dsimp only [partsOf]; decide) (.refl _ s)
  · exact execOnlineChangeSwitch_effect _ _ (by dsimp only [partsOf]; decide) (.refl _ s)
  · exact execOnlineChangeCommit_effect _ _ (by dsimp only [partsOf]; decide) (.refl _ s)
  · exact execOnlineChangeRollback_effect _ _ (by dsimp only [partsOf]; decide) (.refl _ s)
  · exact execOnlineChangeCancel_effect _ _ (by dsimp only [partsOf]; decide) (.refl _ s)
  · exact execTrialLenExpiry_effect _ (by dsimp only [partsOf]; decide) (.refl _ s)
  · exact execIntakeRecord_effect _ _ (by dsimp only [partsOf]; decide) (.refl _ s)
  · exact execFusEnable_effect _ _ (by dsimp only [partsOf]; decide) (.refl _ s)
  · exact execRetCommit_effect _ _ (by dsimp only [partsOf]; decide) (.refl _ s)
  · exact execDatumCommit_effect _ _ (by dsimp only [partsOf]; decide) (.refl _ s)
  · exact execResetFilter_effect _ _ (by dsimp only [partsOf]; decide) (.refl _ s)
  · exact execInertialUnitLost_effect _ _ (by dsimp only [partsOf]; decide) (.refl _ s)
  · exact execRefCoastLimit_effect _ (by dsimp only [partsOf]; decide) (.refl _ s)
  · exact execSatExclExpiry_effect _ _ _ _ (by dsimp only [partsOf]; decide) (.refl _ s)
  · exact execRiserValidLoss_effect _ (by dsimp only [partsOf]; decide) (.refl _ s)
  · exact execReferenceRequalify_effect _ _ (by dsimp only [partsOf]; decide) (.refl _ s)
  · exact execTrackDelete_effect _ _ (by dsimp only [partsOf]; decide) (.refl _ s)
  · exact execQpAdmm_effect _ _ _ _ (by dsimp only [partsOf]; decide) (.refl _ s)
  · exact execKfQr_effect _ _ _ (by dsimp only [partsOf]; decide) (.refl _ s)
  · exact execLap_effect _ _ _ (by dsimp only [partsOf]; decide) (.refl _ s)
  · exact execSim_effect _ _ _ (by dsimp only [partsOf]; decide) (.refl _ s)
  · exact execLoad_effect _ _ _ (by dsimp only [partsOf]; decide) (.refl _ s)
  · exact execFree_effect _ _ _ (by dsimp only [partsOf]; decide) (.refl _ s)
  · exact execJobRelease_effect _ _ (by dsimp only [partsOf]; decide) (.refl _ s)
  · exact execEngineGrant_effect _ _ (by dsimp only [partsOf]; decide) (.refl _ s)
  · exact execJobResult_effect _ _ _ (by dsimp only [partsOf]; decide) (.refl _ s)
  · exact execSectorSwitch_effect _ _ (by dsimp only [partsOf]; decide) (.refl _ s)
  · exact execSolverLost_effect _ (by dsimp only [partsOf]; decide) (.refl _ s)
  · exact execJobDeadline_effect _ _ _ _ (by dsimp only [partsOf]; decide) (.refl _ s)
  · exact execStructEccLost_effect _ _ _ (by dsimp only [partsOf]; decide) (.refl _ s)
  · exact execHostAbort_effect _ _ (by dsimp only [partsOf]; decide) (.refl _ s)
  · exact execPlanCommit_effect _ _ (by dsimp only [partsOf]; decide) (.refl _ s)
  · exact execSetCommit_effect _ _ (by dsimp only [partsOf]; decide) (.refl _ s)
  · exact execParamCommit_effect _ _ (by dsimp only [partsOf]; decide) (.refl _ s)
  · exact execCollimationStart_effect _ _ (by dsimp only [partsOf]; decide) (.refl _ s)
  · exact execCollimationStop_effect _ _ (by dsimp only [partsOf]; decide) (.refl _ s)
  · exact execCollimationDone_effect _ (by dsimp only [partsOf]; decide) (.refl _ s)
  · exact execTableCommit_effect _ _ (by dsimp only [partsOf]; decide) (.refl _ s)
  · exact execAckOverdue_effect _ _ (by dsimp only [partsOf]; decide) (.refl _ s)
  · exact execLsHoldExpiry_effect _ (by dsimp only [partsOf]; decide) (.refl _ s)
  · exact execFallbackExpiry_effect _ _ (by dsimp only [partsOf]; decide) (.refl _ s)
  · exact execGuardPowerUp_effect _ _ (by dsimp only [partsOf]; decide) (.refl _ s)
  · exact execGuardImageLoad_effect _ _ _ (by dsimp only [partsOf]; decide) (.refl _ s)
  · exact execGuardLoadTimeout_effect _ (by dsimp only [partsOf]; decide) (.refl _ s)
  · exact execHeartbeatArrival_effect _ _ _ (by dsimp only [partsOf]; decide) (.refl _ s)
  · exact execHbWindowClose_effect _ (by dsimp only [partsOf]; decide) (.refl _ s)
  · exact execGuardDecision_effect _ _ (by dsimp only [partsOf]; decide) (.refl _ s)
  · exact execSupervisorHeartbeat_effect _ _ _ (by dsimp only [partsOf]; decide) (.refl _ s)
  · exact execSvHbTimeout_effect _ (by dsimp only [partsOf]; decide) (.refl _ s)
  · exact execEdsIn_effect _ (by dsimp only [partsOf]; decide) (.refl _ s)
  · exact execGuardTrip_effect _ (by dsimp only [partsOf]; decide) (.refl _ s)
  · exact execGuardRst_effect _ _ (by dsimp only [partsOf]; decide) (.refl _ s)
  · exact execHoldFb_effect _ _ _ (by dsimp only [partsOf]; decide) (.refl _ s)
  · exact execClockMonitor_effect _ _ (by dsimp only [partsOf]; decide) (.refl _ s)
  · exact execVddGuardBand_effect _ _ (by dsimp only [partsOf]; decide) (.refl _ s)
  · exact execCkbkpMissing_effect _ (by dsimp only [partsOf]; decide) (.refl _ s)
  · exact execParamMismatch_effect _ (by dsimp only [partsOf]; decide) (.refl _ s)
  · exact execDegLimitExpiry_effect _ (by dsimp only [partsOf]; decide) (.refl _ s)
  · exact execVddGuardLost_effect _ (by dsimp only [partsOf]; decide) (.refl _ s)
  · exact execClaimSample_effect _ _ _ (by dsimp only [partsOf]; decide) (.refl _ s)
  · exact execClaimReadback_effect _ _ _ (by dsimp only [partsOf]; decide) (.refl _ s)
  · exact execPartnerClaim_effect _ _ _ (by dsimp only [partsOf]; decide) (.refl _ s)
  · exact execOwnLineReleased_effect _ (by dsimp only [partsOf]; decide) (.refl _ s)
  · exact execStateRecordReceive_effect _ _ (by dsimp only [partsOf]; decide) (.refl _ s)
  · exact execCompareRecordReceive_effect _ _ (by dsimp only [partsOf]; decide) (.refl _ s)
  · exact execMirrorDeadline_effect _ _ (by dsimp only [partsOf]; decide) (.refl _ s)
  · exact execDiag_effect _ _ (by dsimp only [partsOf]; decide) (.refl _ s)
  · exact execHandover_effect _ _ (by dsimp only [partsOf]; decide) (.refl _ s)
  · exact execRehearse_effect _ _ (by dsimp only [partsOf]; decide) (.refl _ s)
  · exact execRehearsalPulse_effect _ _ (by dsimp only [partsOf]; decide) (.refl _ s)
  · exact execHoldoffExpiry_effect _ (by dsimp only [partsOf]; decide) (.refl _ s)
  · exact execFirstStartWaiver_effect _ (by dsimp only [partsOf]; decide) (.refl _ s)
  · exact execCycleLaunch_effect _ _ (by dsimp only [partsOf]; decide) (.refl _ s)
  · exact execInputLaunch_effect _ _ (by dsimp only [partsOf]; decide) (.refl _ s)
  · exact execCycleFrame_effect _ _ _ _ _ (by dsimp only [partsOf]; decide) (.refl _ s)
  · exact execInputFrame_effect _ _ _ _ (by dsimp only [partsOf]; decide) (.refl _ s)
  · exact execOutputFrame_effect _ _ _ _ (by dsimp only [partsOf]; decide) (.refl _ s)
  · exact execWithdrawFrame_effect _ _ _ _ (by dsimp only [partsOf]; decide) (.refl _ s)
  · exact execDelayReq_effect _ _ _ _ _ (by dsimp only [partsOf]; decide) (.refl _ s)
  · exact execDelayResp_effect _ _ _ _ (by dsimp only [partsOf]; decide) (.refl _ s)
  · exact execMgmtFrame_effect _ _ _ _ (by dsimp only [partsOf]; decide) (.refl _ s)
  · exact execInputReturn_effect _ _ _ _ (by dsimp only [partsOf]; decide) (.refl _ s)
  · exact execOutputReturn_effect _ _ _ _ (by dsimp only [partsOf]; decide) (.refl _ s)
  · exact execStationSample_effect _ (by dsimp only [partsOf]; decide) (.refl _ s)
  · exact execStationOutputInstant_effect _ (by dsimp only [partsOf]; decide) (.refl _ s)
  · exact execStationHoldLimit_effect _ (by dsimp only [partsOf]; decide) (.refl _ s)
  · exact execStationCycleLoss_effect _ (by dsimp only [partsOf]; decide) (.refl _ s)
  · exact execStationSyncComplete_effect _ (by dsimp only [partsOf]; decide) (.refl _ s)
  · exact execStationPowerReady_effect _ (by dsimp only [partsOf]; decide) (.refl _ s)
  · exact execStationStageDl_effect _ (by dsimp only [partsOf]; decide) (.refl _ s)
  · exact execLinkDelayMeasure_effect _ _ _ (by dsimp only [partsOf]; decide) (.refl _ s)
  · exact execPortLinkLoss_effect _ _ (by dsimp only [partsOf]; decide) (.refl _ s)
  · exact execPortLinkHeld_effect _ _ (by dsimp only [partsOf]; decide) (.refl _ s)
  · exact execReadId_effect _ _ _ _ (by dsimp only [partsOf]; decide) (.refl _ s)
  · exact execIdentify_effect _ _ _ _ (by dsimp only [partsOf]; decide) (.refl _ s)
  · exact execResume_effect _ _ _ _ (by dsimp only [partsOf]; decide) (.refl _ s)
  · exact execDupClear_effect _ _ _ _ (by dsimp only [partsOf]; decide) (.refl _ s)
  · exact execStnCmdTimeout_effect _ (by dsimp only [partsOf]; decide) (.refl _ s)
  · exact execDuplicateClearCount_effect _ _ _ (by dsimp only [partsOf]; decide) (.refl _ s)
  · exact execEthRxFrame_effect _ _ _ _ (by dsimp only [partsOf]; decide) (.refl _ s)
  · exact execEthProd_effect _ _ _ _ _ _ _ _ (by dsimp only [partsOf]; decide) (.refl _ s)
  · exact execTransmitDone_effect _ _ (by dsimp only [partsOf]; decide) (.refl _ s)
  · exact execLaunchCommit_effect _ _ _ (by dsimp only [partsOf]; decide) (.refl _ s)
  · exact execLaunchDepart_effect _ _ _ (by dsimp only [partsOf]; decide) (.refl _ s)
  · exact execEthLqCancel_effect _ _ _ _ (by dsimp only [partsOf]; decide) (.refl _ s)
  · exact execEthLinkChange_effect _ _ _ _ (by dsimp only [partsOf]; decide) (.refl _ s)
  · exact execEthPortEnable_effect _ _ _ _ _ (by dsimp only [partsOf]; decide) (.refl _ s)
  · exact execTxtsExpiry_effect _ (by dsimp only [partsOf]; decide) (.refl _ s)
  · exact execPtpTxtsW0_effect _ _ (by dsimp only [partsOf]; decide) (.refl _ s)
  · exact execPtpTxtsW1_effect _ _ (by dsimp only [partsOf]; decide) (.refl _ s)
  · exact execPtpTimeNs_effect _ _ (by dsimp only [partsOf]; decide) (.refl _ s)
  · exact execPtpIncr_effect _ _ _ (by dsimp only [partsOf]; decide) (.refl _ s)
  · exact execStep_effect _ _ (by dsimp only [partsOf]; decide) (.refl _ s)
  · exact execSlewGo_effect _ _ (by dsimp only [partsOf]; decide) (.refl _ s)
  · exact execVddAonValid_effect _ (by dsimp only [partsOf]; decide) (.refl _ s)
  · exact execLockoutRelease_effect _ _ _ _ _ _ _ _ _ _ (by dsimp only [partsOf]; decide) (.refl _ s)
  · exact execTimeReady_effect _ _ (by dsimp only [partsOf]; decide) (.refl _ s)
  · exact execGridWaitExpiry_effect _ (by dsimp only [partsOf]; decide) (.refl _ s)
  · exact execProvision_effect _ _ _ _ (by dsimp only [partsOf]; decide) (.refl _ s)
  · exact execSeal_effect _ _ _ _ (by dsimp only [partsOf]; decide) (.refl _ s)
  · exact execReturnLc_effect _ _ _ _ (by dsimp only [partsOf]; decide) (.refl _ s)
  · exact execDecommission_effect _ _ _ _ (by dsimp only [partsOf]; decide) (.refl _ s)
  · exact execRevoke_effect _ _ _ _ _ (by dsimp only [partsOf]; decide) (.refl _ s)
  · exact execVddAonWarning_effect _ (by dsimp only [partsOf]; decide) (.refl _ s)
  · exact execVbatSwitch_effect _ _ _ (by dsimp only [partsOf]; decide) (.refl _ s)
  · exact execFastFall_effect _ _ _ (by dsimp only [partsOf]; decide) (.refl _ s)
  · exact execTimeLost_effect _ _ (by dsimp only [partsOf]; decide) (.refl _ s)
  · exact execMeridianPowerUp_effect _ _ (by dsimp only [partsOf]; decide) (.refl _ s)
  · exact execBatLow_effect _ _ (by dsimp only [partsOf]; decide) (.refl _ s)
  · exact execPrescalerWrap_effect _ (by dsimp only [partsOf]; decide) (.refl _ s)
  · exact execCompensationWindow_effect _ _ (by dsimp only [partsOf]; decide) (.refl _ s)
  · exact execEventInputEdge_effect _ _ _ _ (by dsimp only [partsOf]; decide) (.refl _ s)
  · exact execHalt_effect _ _ _ _ _ (by dsimp only [partsOf]; decide) (.refl _ s)
  · exact execCalendarWrite_effect _ _ _ _ (by dsimp only [partsOf]; decide) (.refl _ s)
  · exact execShiftGo_effect _ _ (by dsimp only [partsOf]; decide) (.refl _ s)
  · exact execMerSubsecRead_effect _ _ _ (by dsimp only [partsOf]; decide) (.refl _ s)
  · exact execMerEvf0Read_effect _ _ (by dsimp only [partsOf]; decide) (.refl _ s)
  · exact execMerEvf2Read_effect _ _ (by dsimp only [partsOf]; decide) (.refl _ s)
  · exact execTimeLostClear_effect _ _ (by dsimp only [partsOf]; decide) (.refl _ s)
  · exact execCycle_effect _ _ (by dsimp only [partsOf]; decide) (.refl _ s)
  · exact execSleep_effect _ _ (by dsimp only [partsOf]; decide) (.refl _ s)
  · exact execOffTimeExpiry_effect _ (by dsimp only [partsOf]; decide) (.refl _ s)
  · exact execPwrIgnored_effect _ (by dsimp only [partsOf]; decide) (.refl _ s)
  · exact execCanFrameReceived_effect _ _ _ (by dsimp only [partsOf]; decide) (.refl _ s)
  · exact execCanTxDone_effect _ _ _ (by dsimp only [partsOf]; decide) (.refl _ s)
  · exact execCanArbitrationLost_effect _ _ _ (by dsimp only [partsOf]; decide) (.refl _ s)
  · exact execCanError_effect _ _ _ (by dsimp only [partsOf]; decide) (.refl _ s)
  · exact execCanRecoveryDone_effect _ _ (by dsimp only [partsOf]; decide) (.refl _ s)
  · exact execCanLockTimeout_effect _ _ _ (by dsimp only [partsOf]; decide) (.refl _ s)
  · exact execCanTxreq_effect _ _ _ _ _ (by dsimp only [partsOf]; decide) (.refl _ s)
  · exact execCanCancel_effect _ _ _ _ _ (by dsimp only [partsOf]; decide) (.refl _ s)
  · exact execRecover_effect _ _ _ (by dsimp only [partsOf]; decide) (.refl _ s)
  · exact execCanEnable_effect _ _ _ _ (by dsimp only [partsOf]; decide) (.refl _ s)
  · exact execCanWord0Read_effect _ _ _ _ (by dsimp only [partsOf]; decide) (.refl _ s)
  · exact execCanLastRead_effect _ _ _ _ (by dsimp only [partsOf]; decide) (.refl _ s)
  · exact execCharacterReceived_effect _ _ _ _ _ _ _ _ (by dsimp only [partsOf]; decide) (.refl _ s)
  · exact execRawIdle_effect _ _ (by dsimp only [partsOf]; decide) (.refl _ s)
  · exact execLineSilence_effect _ _ _ (by dsimp only [partsOf]; decide) (.refl _ s)
  · exact execSerTxdata_effect _ _ _ _ (by dsimp only [partsOf]; decide) (.refl _ s)
  · exact execSerConsWrite_effect _ _ _ _ (by dsimp only [partsOf]; decide) (.refl _ s)
  · exact execDioEdge_effect _ _ _ (by dsimp only [partsOf]; decide) (.refl _ s)
  · exact execDioClaim_effect _ _ _ _ (by dsimp only [partsOf]; decide) (.refl _ s)
  · exact execDioOut_effect _ _ _ _ (by dsimp only [partsOf]; decide) (.refl _ s)
  · exact execSdfOutput_effect _ _ _ (by dsimp only [partsOf]; decide) (.refl _ s)
  · exact execSdmClockLost_effect _ _ (by dsimp only [partsOf]; decide) (.refl _ s)
  · exact execSdmClockRestored_effect _ _ _ (by dsimp only [partsOf]; decide) (.refl _ s)
  · exact execSdfEn_effect _ _ _ (by dsimp only [partsOf]; decide) (.refl _ s)
  · exact execFirSel_effect _ _ _ _ _ (by dsimp only [partsOf]; decide) (.refl _ s)
  · exact execCoefficientWrite_effect _ _ _ _ _ (by dsimp only [partsOf]; decide) (.refl _ s)
  · exact execSdfCfgWrite_effect _ _ _ _ (by dsimp only [partsOf]; decide) (.refl _ s)
  · exact execPcieLinkChange_effect _ _ _ _ (by dsimp only [partsOf]; decide) (.refl _ s)
  · exact execLinkRecovery_effect _ _ (by dsimp only [partsOf]; decide) (.refl _ s)
  · exact execBusMasterChange_effect _ _ _ (by dsimp only [partsOf]; decide) (.refl _ s)
  · exact execRingEnable_effect _ _ _ (by dsimp only [partsOf]; decide) (.refl _ s)
  · exact execRingDisable_effect _ _ _ (by dsimp only [partsOf]; decide) (.refl _ s)
  · exact execSqTail_effect _ _ _ (by dsimp only [partsOf]; decide) (.refl _ s)
  · exact execCqHead_effect _ _ _ (by dsimp only [partsOf]; decide) (.refl _ s)
  · exact execDescriptorFetch_effect _ _ _ (by dsimp only [partsOf]; decide) (.refl _ s)
  · exact execNop_effect _ _ (by dsimp only [partsOf]; decide) (.refl _ s)
  · exact execOryJob_effect _ _ _ (by dsimp only [partsOf]; decide) (.refl _ s)
  · exact execCopyOut_effect _ _ (by dsimp only [partsOf]; decide) (.refl _ s)
  · exact execCopyIn_effect _ _ _ (by dsimp only [partsOf]; decide) (.refl _ s)
  · exact execOcLoad_effect _ _ _ (by dsimp only [partsOf]; decide) (.refl _ s)
  · exact execStnCmd_effect _ _ (by dsimp only [partsOf]; decide) (.refl _ s)
  · exact execFlashWrite_effect _ _ _ (by dsimp only [partsOf]; decide) (.refl _ s)
  · exact execCompletionWrite_effect _ _ (by dsimp only [partsOf]; decide) (.refl _ s)
  · exact execHostReadRetry_effect _ _ _ (by dsimp only [partsOf]; decide) (.refl _ s)
  · exact execCqTimer_effect _ _ (by dsimp only [partsOf]; decide) (.refl _ s)
  · exact execHifEvPendClear_effect _ _ _ _ _ (by dsimp only [partsOf]; decide) (.refl _ s)
  · exact execMsixUnmask_effect _ _ (by dsimp only [partsOf]; decide) (.refl _ s)
  · exact execAlmanacRelease_effect _ (by dsimp only [partsOf]; decide) (.refl _ s)
  · exact execAlmSwGo_effect _ _ (by dsimp only [partsOf]; decide) (.refl _ s)
  · exact execAlmRead_effect _ _ (by dsimp only [partsOf]; decide) (.refl _ s)
  · exact execAlmReadReady_effect _ _ (by dsimp only [partsOf]; decide) (.refl _ s)
  · exact execFlashSectorDone_effect _ _ (by dsimp only [partsOf]; decide) (.refl _ s)
  · exact execFabricTimeout_effect _ (by dsimp only [partsOf]; decide) (.refl _ s)
  · exact execSramDoubleEcc_effect _ (by dsimp only [partsOf]; decide) (.refl _ s)
  · exact execDdrUncorrectable_effect _ _ (by dsimp only [partsOf]; decide) (.refl _ s)
  · exact execCoresTrapped_effect _ (by dsimp only [partsOf]; decide) (.refl _ s)
  · exact execTrigger_effect _ _ (by dsimp only [partsOf]; decide) (.refl _ s)
  · exact execPlateCopyDone_effect _ _ (by dsimp only [partsOf]; decide) (.refl _ s)
  · exact execReleasePlate_effect _ _ (by dsimp only [partsOf]; decide) (.refl _ s)
  · exact execRailInvalid_effect _ _ (by dsimp only [partsOf]; decide) (.refl _ s)
  · exact execIoRailInvalid_effect _ _ (by dsimp only [partsOf]; decide) (.refl _ s)
  · exact execDomainReady_effect _ (by dsimp only [partsOf]; decide) (.refl _ s)
  · exact execTempConversion_effect _ _ (by dsimp only [partsOf]; decide) (.refl _ s)
  · exact execThrottleDwell_effect _ (by dsimp only [partsOf]; decide) (.refl _ s)
  · exact execShutdownPowerDown_effect _ (by dsimp only [partsOf]; decide) (.refl _ s)
  · exact execClockFailure_effect _ _ _ (by dsimp only [partsOf]; decide) (.refl _ s)
  · exact execSupervisorCycleDelay_effect _ (by dsimp only [partsOf]; decide) (.refl _ s)
  · exact execOffReq_effect _ _ _ (by dsimp only [partsOf]; decide) (.refl _ s)
  · exact execClkSsc_effect _ _ _ (by dsimp only [partsOf]; decide) (.refl _ s)
  · exact execPortLinkUp_effect _ _ (by dsimp only [partsOf]; decide) (.refl _ s)
  · exact execMgmtReturn_effect _ _ _ _ (by dsimp only [partsOf]; decide) (.refl _ s)
  · exact execEdsInReleased_effect _ (by dsimp only [partsOf]; decide) (.refl _ s)
  · exact execGuardTripReleased_effect _ (by dsimp only [partsOf]; decide) (.refl _ s)
  · exact execHoldReadbackRestored_effect _ (by dsimp only [partsOf]; decide) (.refl _ s)
  · exact execRailValid_effect _ _ (by dsimp only [partsOf]; decide) (.refl _ s)
  · exact execSpreadRampEnd_effect _ (by dsimp only [partsOf]; decide) (.refl _ s)
  · exact execSlewDone_effect _ (by dsimp only [partsOf]; decide) (.refl _ s)
  · exact execCharacterSent_effect _ _ (by dsimp only [partsOf]; decide) (.refl _ s)
  · exact execCompletionTimeout_effect _ _ (by dsimp only [partsOf]; decide) (.refl _ s)

end Sys2Proof.Machine
end

