-- ==== Sys2Proof/Laws/State.lean ====
section
/-! SUPPORT. One lemma per field per update of the state, so that no proof unfolds a record update.
The proofs are `(rfl)` and not `rfl`, so that simp rewrites with them and leaves no comparison of whole states to the kernel. -/

namespace Sys2Proof.Machine

/-! A register write changes the register map alone: wr. -/

@[simp] theorem State.wr_variant (s : State) (k : Nat) (w : Word) : (s.wr k w).variant = s.variant := (rfl)
@[simp] theorem State.wr_station (s : State) (k : Nat) (w : Word) : (s.wr k w).station = s.station := (rfl)
@[simp] theorem State.wr_readData (s : State) (k : Nat) (w : Word) : (s.wr k w).readData = s.readData := (rfl)
@[simp] theorem State.wr_mem (s : State) (k : Nat) (w : Word) : (s.wr k w).mem = s.mem := (rfl)
@[simp] theorem State.wr_cdr (s : State) (k : Nat) (w : Word) : (s.wr k w).cdr = s.cdr := (rfl)
@[simp] theorem State.wr_grd (s : State) (k : Nat) (w : Word) : (s.wr k w).grd = s.grd := (rfl)
@[simp] theorem State.wr_fus (s : State) (k : Nat) (w : Word) : (s.wr k w).fus = s.fus := (rfl)
@[simp] theorem State.wr_eff (s : State) (k : Nat) (w : Word) : (s.wr k w).eff = s.eff := (rfl)
@[simp] theorem State.wr_red (s : State) (k : Nat) (w : Word) : (s.wr k w).red = s.red := (rfl)
@[simp] theorem State.wr_xl (s : State) (k : Nat) (w : Word) : (s.wr k w).xl = s.xl := (rfl)
@[simp] theorem State.wr_tb (s : State) (k : Nat) (w : Word) : (s.wr k w).tb = s.tb := (rfl)
@[simp] theorem State.wr_now (s : State) (k : Nat) (w : Word) : (s.wr k w).now = s.now := (rfl)
@[simp] theorem State.wr_eth (s : State) (k : Nat) (w : Word) : (s.wr k w).eth = s.eth := (rfl)
@[simp] theorem State.wr_can (s : State) (k : Nat) (w : Word) : (s.wr k w).can = s.can := (rfl)
@[simp] theorem State.wr_uart (s : State) (k : Nat) (w : Word) : (s.wr k w).uart = s.uart := (rfl)
@[simp] theorem State.wr_dio (s : State) (k : Nat) (w : Word) : (s.wr k w).dio = s.dio := (rfl)
@[simp] theorem State.wr_sdf (s : State) (k : Nat) (w : Word) : (s.wr k w).sdf = s.sdf := (rfl)
@[simp] theorem State.wr_hif (s : State) (k : Nat) (w : Word) : (s.wr k w).hif = s.hif := (rfl)
@[simp] theorem State.wr_alm (s : State) (k : Nat) (w : Word) : (s.wr k w).alm = s.alm := (rfl)
@[simp] theorem State.wr_mer (s : State) (k : Nat) (w : Word) : (s.wr k w).mer = s.mer := (rfl)
@[simp] theorem State.wr_pow (s : State) (k : Nat) (w : Word) : (s.wr k w).pow = s.pow := (rfl)
@[simp] theorem State.wr_ory (s : State) (k : Nat) (w : Word) : (s.wr k w).ory = s.ory := (rfl)
@[simp] theorem State.wr_ctl (s : State) (k : Nat) (w : Word) : (s.wr k w).ctl = s.ctl := (rfl)
@[simp] theorem State.wr_eph (s : State) (k : Nat) (w : Word) : (s.wr k w).eph = s.eph := (rfl)
@[simp] theorem State.wr_boot (s : State) (k : Nat) (w : Word) : (s.wr k w).boot = s.boot := (rfl)
@[simp] theorem State.wr_freeCtr (s : State) (k : Nat) (w : Word) : (s.wr k w).freeCtr = s.freeCtr := (rfl)
@[simp] theorem State.wr_pending (s : State) (k : Nat) (w : Word) : (s.wr k w).pending = s.pending := (rfl)

/-! A register write changes the register map alone: wrn. -/

@[simp] theorem State.wrn_variant (s : State) (k v : Nat) : (s.wrn k v).variant = s.variant := (rfl)
@[simp] theorem State.wrn_station (s : State) (k v : Nat) : (s.wrn k v).station = s.station := (rfl)
@[simp] theorem State.wrn_readData (s : State) (k v : Nat) : (s.wrn k v).readData = s.readData := (rfl)
@[simp] theorem State.wrn_mem (s : State) (k v : Nat) : (s.wrn k v).mem = s.mem := (rfl)
@[simp] theorem State.wrn_cdr (s : State) (k v : Nat) : (s.wrn k v).cdr = s.cdr := (rfl)
@[simp] theorem State.wrn_grd (s : State) (k v : Nat) : (s.wrn k v).grd = s.grd := (rfl)
@[simp] theorem State.wrn_fus (s : State) (k v : Nat) : (s.wrn k v).fus = s.fus := (rfl)
@[simp] theorem State.wrn_eff (s : State) (k v : Nat) : (s.wrn k v).eff = s.eff := (rfl)
@[simp] theorem State.wrn_red (s : State) (k v : Nat) : (s.wrn k v).red = s.red := (rfl)
@[simp] theorem State.wrn_xl (s : State) (k v : Nat) : (s.wrn k v).xl = s.xl := (rfl)
@[simp] theorem State.wrn_tb (s : State) (k v : Nat) : (s.wrn k v).tb = s.tb := (rfl)
@[simp] theorem State.wrn_now (s : State) (k v : Nat) : (s.wrn k v).now = s.now := (rfl)
@[simp] theorem State.wrn_eth (s : State) (k v : Nat) : (s.wrn k v).eth = s.eth := (rfl)
@[simp] theorem State.wrn_can (s : State) (k v : Nat) : (s.wrn k v).can = s.can := (rfl)
@[simp] theorem State.wrn_uart (s : State) (k v : Nat) : (s.wrn k v).uart = s.uart := (rfl)
@[simp] theorem State.wrn_dio (s : State) (k v : Nat) : (s.wrn k v).dio = s.dio := (rfl)
@[simp] theorem State.wrn_sdf (s : State) (k v : Nat) : (s.wrn k v).sdf = s.sdf := (rfl)
@[simp] theorem State.wrn_hif (s : State) (k v : Nat) : (s.wrn k v).hif = s.hif := (rfl)
@[simp] theorem State.wrn_alm (s : State) (k v : Nat) : (s.wrn k v).alm = s.alm := (rfl)
@[simp] theorem State.wrn_mer (s : State) (k v : Nat) : (s.wrn k v).mer = s.mer := (rfl)
@[simp] theorem State.wrn_pow (s : State) (k v : Nat) : (s.wrn k v).pow = s.pow := (rfl)
@[simp] theorem State.wrn_ory (s : State) (k v : Nat) : (s.wrn k v).ory = s.ory := (rfl)
@[simp] theorem State.wrn_ctl (s : State) (k v : Nat) : (s.wrn k v).ctl = s.ctl := (rfl)
@[simp] theorem State.wrn_eph (s : State) (k v : Nat) : (s.wrn k v).eph = s.eph := (rfl)
@[simp] theorem State.wrn_boot (s : State) (k v : Nat) : (s.wrn k v).boot = s.boot := (rfl)
@[simp] theorem State.wrn_freeCtr (s : State) (k v : Nat) : (s.wrn k v).freeCtr = s.freeCtr := (rfl)
@[simp] theorem State.wrn_pending (s : State) (k v : Nat) : (s.wrn k v).pending = s.pending := (rfl)

/-! A register write changes the register map alone: put. -/

@[simp] theorem State.put_variant (s : State) (f : Fld) (v : Nat) : (s.put f v).variant = s.variant := (rfl)
@[simp] theorem State.put_station (s : State) (f : Fld) (v : Nat) : (s.put f v).station = s.station := (rfl)
@[simp] theorem State.put_readData (s : State) (f : Fld) (v : Nat) : (s.put f v).readData = s.readData := (rfl)
@[simp] theorem State.put_mem (s : State) (f : Fld) (v : Nat) : (s.put f v).mem = s.mem := (rfl)
@[simp] theorem State.put_cdr (s : State) (f : Fld) (v : Nat) : (s.put f v).cdr = s.cdr := (rfl)
@[simp] theorem State.put_grd (s : State) (f : Fld) (v : Nat) : (s.put f v).grd = s.grd := (rfl)
@[simp] theorem State.put_fus (s : State) (f : Fld) (v : Nat) : (s.put f v).fus = s.fus := (rfl)
@[simp] theorem State.put_eff (s : State) (f : Fld) (v : Nat) : (s.put f v).eff = s.eff := (rfl)
@[simp] theorem State.put_red (s : State) (f : Fld) (v : Nat) : (s.put f v).red = s.red := (rfl)
@[simp] theorem State.put_xl (s : State) (f : Fld) (v : Nat) : (s.put f v).xl = s.xl := (rfl)
@[simp] theorem State.put_tb (s : State) (f : Fld) (v : Nat) : (s.put f v).tb = s.tb := (rfl)
@[simp] theorem State.put_now (s : State) (f : Fld) (v : Nat) : (s.put f v).now = s.now := (rfl)
@[simp] theorem State.put_eth (s : State) (f : Fld) (v : Nat) : (s.put f v).eth = s.eth := (rfl)
@[simp] theorem State.put_can (s : State) (f : Fld) (v : Nat) : (s.put f v).can = s.can := (rfl)
@[simp] theorem State.put_uart (s : State) (f : Fld) (v : Nat) : (s.put f v).uart = s.uart := (rfl)
@[simp] theorem State.put_dio (s : State) (f : Fld) (v : Nat) : (s.put f v).dio = s.dio := (rfl)
@[simp] theorem State.put_sdf (s : State) (f : Fld) (v : Nat) : (s.put f v).sdf = s.sdf := (rfl)
@[simp] theorem State.put_hif (s : State) (f : Fld) (v : Nat) : (s.put f v).hif = s.hif := (rfl)
@[simp] theorem State.put_alm (s : State) (f : Fld) (v : Nat) : (s.put f v).alm = s.alm := (rfl)
@[simp] theorem State.put_mer (s : State) (f : Fld) (v : Nat) : (s.put f v).mer = s.mer := (rfl)
@[simp] theorem State.put_pow (s : State) (f : Fld) (v : Nat) : (s.put f v).pow = s.pow := (rfl)
@[simp] theorem State.put_ory (s : State) (f : Fld) (v : Nat) : (s.put f v).ory = s.ory := (rfl)
@[simp] theorem State.put_ctl (s : State) (f : Fld) (v : Nat) : (s.put f v).ctl = s.ctl := (rfl)
@[simp] theorem State.put_eph (s : State) (f : Fld) (v : Nat) : (s.put f v).eph = s.eph := (rfl)
@[simp] theorem State.put_boot (s : State) (f : Fld) (v : Nat) : (s.put f v).boot = s.boot := (rfl)
@[simp] theorem State.put_freeCtr (s : State) (f : Fld) (v : Nat) : (s.put f v).freeCtr = s.freeCtr := (rfl)
@[simp] theorem State.put_pending (s : State) (f : Fld) (v : Nat) : (s.put f v).pending = s.pending := (rfl)

/-! A register write changes the register map alone: setTo. -/

@[simp] theorem State.setTo_variant (s : State) (f : Fld) (b : Bool) : (s.setTo f b).variant = s.variant := (rfl)
@[simp] theorem State.setTo_station (s : State) (f : Fld) (b : Bool) : (s.setTo f b).station = s.station := (rfl)
@[simp] theorem State.setTo_readData (s : State) (f : Fld) (b : Bool) : (s.setTo f b).readData = s.readData := (rfl)
@[simp] theorem State.setTo_mem (s : State) (f : Fld) (b : Bool) : (s.setTo f b).mem = s.mem := (rfl)
@[simp] theorem State.setTo_cdr (s : State) (f : Fld) (b : Bool) : (s.setTo f b).cdr = s.cdr := (rfl)
@[simp] theorem State.setTo_grd (s : State) (f : Fld) (b : Bool) : (s.setTo f b).grd = s.grd := (rfl)
@[simp] theorem State.setTo_fus (s : State) (f : Fld) (b : Bool) : (s.setTo f b).fus = s.fus := (rfl)
@[simp] theorem State.setTo_eff (s : State) (f : Fld) (b : Bool) : (s.setTo f b).eff = s.eff := (rfl)
@[simp] theorem State.setTo_red (s : State) (f : Fld) (b : Bool) : (s.setTo f b).red = s.red := (rfl)
@[simp] theorem State.setTo_xl (s : State) (f : Fld) (b : Bool) : (s.setTo f b).xl = s.xl := (rfl)
@[simp] theorem State.setTo_tb (s : State) (f : Fld) (b : Bool) : (s.setTo f b).tb = s.tb := (rfl)
@[simp] theorem State.setTo_now (s : State) (f : Fld) (b : Bool) : (s.setTo f b).now = s.now := (rfl)
@[simp] theorem State.setTo_eth (s : State) (f : Fld) (b : Bool) : (s.setTo f b).eth = s.eth := (rfl)
@[simp] theorem State.setTo_can (s : State) (f : Fld) (b : Bool) : (s.setTo f b).can = s.can := (rfl)
@[simp] theorem State.setTo_uart (s : State) (f : Fld) (b : Bool) : (s.setTo f b).uart = s.uart := (rfl)
@[simp] theorem State.setTo_dio (s : State) (f : Fld) (b : Bool) : (s.setTo f b).dio = s.dio := (rfl)
@[simp] theorem State.setTo_sdf (s : State) (f : Fld) (b : Bool) : (s.setTo f b).sdf = s.sdf := (rfl)
@[simp] theorem State.setTo_hif (s : State) (f : Fld) (b : Bool) : (s.setTo f b).hif = s.hif := (rfl)
@[simp] theorem State.setTo_alm (s : State) (f : Fld) (b : Bool) : (s.setTo f b).alm = s.alm := (rfl)
@[simp] theorem State.setTo_mer (s : State) (f : Fld) (b : Bool) : (s.setTo f b).mer = s.mer := (rfl)
@[simp] theorem State.setTo_pow (s : State) (f : Fld) (b : Bool) : (s.setTo f b).pow = s.pow := (rfl)
@[simp] theorem State.setTo_ory (s : State) (f : Fld) (b : Bool) : (s.setTo f b).ory = s.ory := (rfl)
@[simp] theorem State.setTo_ctl (s : State) (f : Fld) (b : Bool) : (s.setTo f b).ctl = s.ctl := (rfl)
@[simp] theorem State.setTo_eph (s : State) (f : Fld) (b : Bool) : (s.setTo f b).eph = s.eph := (rfl)
@[simp] theorem State.setTo_boot (s : State) (f : Fld) (b : Bool) : (s.setTo f b).boot = s.boot := (rfl)
@[simp] theorem State.setTo_freeCtr (s : State) (f : Fld) (b : Bool) : (s.setTo f b).freeCtr = s.freeCtr := (rfl)
@[simp] theorem State.setTo_pending (s : State) (f : Fld) (b : Bool) : (s.setTo f b).pending = s.pending := (rfl)

/-! A register write changes the register map alone: putSat. -/

@[simp] theorem State.putSat_variant (s : State) (f : Fld) (v : Nat) : (s.putSat f v).variant = s.variant := (rfl)
@[simp] theorem State.putSat_station (s : State) (f : Fld) (v : Nat) : (s.putSat f v).station = s.station := (rfl)
@[simp] theorem State.putSat_readData (s : State) (f : Fld) (v : Nat) : (s.putSat f v).readData = s.readData := (rfl)
@[simp] theorem State.putSat_mem (s : State) (f : Fld) (v : Nat) : (s.putSat f v).mem = s.mem := (rfl)
@[simp] theorem State.putSat_cdr (s : State) (f : Fld) (v : Nat) : (s.putSat f v).cdr = s.cdr := (rfl)
@[simp] theorem State.putSat_grd (s : State) (f : Fld) (v : Nat) : (s.putSat f v).grd = s.grd := (rfl)
@[simp] theorem State.putSat_fus (s : State) (f : Fld) (v : Nat) : (s.putSat f v).fus = s.fus := (rfl)
@[simp] theorem State.putSat_eff (s : State) (f : Fld) (v : Nat) : (s.putSat f v).eff = s.eff := (rfl)
@[simp] theorem State.putSat_red (s : State) (f : Fld) (v : Nat) : (s.putSat f v).red = s.red := (rfl)
@[simp] theorem State.putSat_xl (s : State) (f : Fld) (v : Nat) : (s.putSat f v).xl = s.xl := (rfl)
@[simp] theorem State.putSat_tb (s : State) (f : Fld) (v : Nat) : (s.putSat f v).tb = s.tb := (rfl)
@[simp] theorem State.putSat_now (s : State) (f : Fld) (v : Nat) : (s.putSat f v).now = s.now := (rfl)
@[simp] theorem State.putSat_eth (s : State) (f : Fld) (v : Nat) : (s.putSat f v).eth = s.eth := (rfl)
@[simp] theorem State.putSat_can (s : State) (f : Fld) (v : Nat) : (s.putSat f v).can = s.can := (rfl)
@[simp] theorem State.putSat_uart (s : State) (f : Fld) (v : Nat) : (s.putSat f v).uart = s.uart := (rfl)
@[simp] theorem State.putSat_dio (s : State) (f : Fld) (v : Nat) : (s.putSat f v).dio = s.dio := (rfl)
@[simp] theorem State.putSat_sdf (s : State) (f : Fld) (v : Nat) : (s.putSat f v).sdf = s.sdf := (rfl)
@[simp] theorem State.putSat_hif (s : State) (f : Fld) (v : Nat) : (s.putSat f v).hif = s.hif := (rfl)
@[simp] theorem State.putSat_alm (s : State) (f : Fld) (v : Nat) : (s.putSat f v).alm = s.alm := (rfl)
@[simp] theorem State.putSat_mer (s : State) (f : Fld) (v : Nat) : (s.putSat f v).mer = s.mer := (rfl)
@[simp] theorem State.putSat_pow (s : State) (f : Fld) (v : Nat) : (s.putSat f v).pow = s.pow := (rfl)
@[simp] theorem State.putSat_ory (s : State) (f : Fld) (v : Nat) : (s.putSat f v).ory = s.ory := (rfl)
@[simp] theorem State.putSat_ctl (s : State) (f : Fld) (v : Nat) : (s.putSat f v).ctl = s.ctl := (rfl)
@[simp] theorem State.putSat_eph (s : State) (f : Fld) (v : Nat) : (s.putSat f v).eph = s.eph := (rfl)
@[simp] theorem State.putSat_boot (s : State) (f : Fld) (v : Nat) : (s.putSat f v).boot = s.boot := (rfl)
@[simp] theorem State.putSat_freeCtr (s : State) (f : Fld) (v : Nat) : (s.putSat f v).freeCtr = s.freeCtr := (rfl)
@[simp] theorem State.putSat_pending (s : State) (f : Fld) (v : Nat) : (s.putSat f v).pending = s.pending := (rfl)

/-! A register write changes the register map alone: bump. -/

@[simp] theorem State.bump_variant (s : State) (f : Fld) (n : Nat) : (s.bump f n).variant = s.variant := (rfl)
@[simp] theorem State.bump_station (s : State) (f : Fld) (n : Nat) : (s.bump f n).station = s.station := (rfl)
@[simp] theorem State.bump_readData (s : State) (f : Fld) (n : Nat) : (s.bump f n).readData = s.readData := (rfl)
@[simp] theorem State.bump_mem (s : State) (f : Fld) (n : Nat) : (s.bump f n).mem = s.mem := (rfl)
@[simp] theorem State.bump_cdr (s : State) (f : Fld) (n : Nat) : (s.bump f n).cdr = s.cdr := (rfl)
@[simp] theorem State.bump_grd (s : State) (f : Fld) (n : Nat) : (s.bump f n).grd = s.grd := (rfl)
@[simp] theorem State.bump_fus (s : State) (f : Fld) (n : Nat) : (s.bump f n).fus = s.fus := (rfl)
@[simp] theorem State.bump_eff (s : State) (f : Fld) (n : Nat) : (s.bump f n).eff = s.eff := (rfl)
@[simp] theorem State.bump_red (s : State) (f : Fld) (n : Nat) : (s.bump f n).red = s.red := (rfl)
@[simp] theorem State.bump_xl (s : State) (f : Fld) (n : Nat) : (s.bump f n).xl = s.xl := (rfl)
@[simp] theorem State.bump_tb (s : State) (f : Fld) (n : Nat) : (s.bump f n).tb = s.tb := (rfl)
@[simp] theorem State.bump_now (s : State) (f : Fld) (n : Nat) : (s.bump f n).now = s.now := (rfl)
@[simp] theorem State.bump_eth (s : State) (f : Fld) (n : Nat) : (s.bump f n).eth = s.eth := (rfl)
@[simp] theorem State.bump_can (s : State) (f : Fld) (n : Nat) : (s.bump f n).can = s.can := (rfl)
@[simp] theorem State.bump_uart (s : State) (f : Fld) (n : Nat) : (s.bump f n).uart = s.uart := (rfl)
@[simp] theorem State.bump_dio (s : State) (f : Fld) (n : Nat) : (s.bump f n).dio = s.dio := (rfl)
@[simp] theorem State.bump_sdf (s : State) (f : Fld) (n : Nat) : (s.bump f n).sdf = s.sdf := (rfl)
@[simp] theorem State.bump_hif (s : State) (f : Fld) (n : Nat) : (s.bump f n).hif = s.hif := (rfl)
@[simp] theorem State.bump_alm (s : State) (f : Fld) (n : Nat) : (s.bump f n).alm = s.alm := (rfl)
@[simp] theorem State.bump_mer (s : State) (f : Fld) (n : Nat) : (s.bump f n).mer = s.mer := (rfl)
@[simp] theorem State.bump_pow (s : State) (f : Fld) (n : Nat) : (s.bump f n).pow = s.pow := (rfl)
@[simp] theorem State.bump_ory (s : State) (f : Fld) (n : Nat) : (s.bump f n).ory = s.ory := (rfl)
@[simp] theorem State.bump_ctl (s : State) (f : Fld) (n : Nat) : (s.bump f n).ctl = s.ctl := (rfl)
@[simp] theorem State.bump_eph (s : State) (f : Fld) (n : Nat) : (s.bump f n).eph = s.eph := (rfl)
@[simp] theorem State.bump_boot (s : State) (f : Fld) (n : Nat) : (s.bump f n).boot = s.boot := (rfl)
@[simp] theorem State.bump_freeCtr (s : State) (f : Fld) (n : Nat) : (s.bump f n).freeCtr = s.freeCtr := (rfl)
@[simp] theorem State.bump_pending (s : State) (f : Fld) (n : Nat) : (s.bump f n).pending = s.pending := (rfl)

/-! A register write changes the register map alone: wr64. -/

@[simp] theorem State.wr64_variant (s : State) (lo hi v : Nat) : (s.wr64 lo hi v).variant = s.variant := (rfl)
@[simp] theorem State.wr64_station (s : State) (lo hi v : Nat) : (s.wr64 lo hi v).station = s.station := (rfl)
@[simp] theorem State.wr64_readData (s : State) (lo hi v : Nat) : (s.wr64 lo hi v).readData = s.readData := (rfl)
@[simp] theorem State.wr64_mem (s : State) (lo hi v : Nat) : (s.wr64 lo hi v).mem = s.mem := (rfl)
@[simp] theorem State.wr64_cdr (s : State) (lo hi v : Nat) : (s.wr64 lo hi v).cdr = s.cdr := (rfl)
@[simp] theorem State.wr64_grd (s : State) (lo hi v : Nat) : (s.wr64 lo hi v).grd = s.grd := (rfl)
@[simp] theorem State.wr64_fus (s : State) (lo hi v : Nat) : (s.wr64 lo hi v).fus = s.fus := (rfl)
@[simp] theorem State.wr64_eff (s : State) (lo hi v : Nat) : (s.wr64 lo hi v).eff = s.eff := (rfl)
@[simp] theorem State.wr64_red (s : State) (lo hi v : Nat) : (s.wr64 lo hi v).red = s.red := (rfl)
@[simp] theorem State.wr64_xl (s : State) (lo hi v : Nat) : (s.wr64 lo hi v).xl = s.xl := (rfl)
@[simp] theorem State.wr64_tb (s : State) (lo hi v : Nat) : (s.wr64 lo hi v).tb = s.tb := (rfl)
@[simp] theorem State.wr64_now (s : State) (lo hi v : Nat) : (s.wr64 lo hi v).now = s.now := (rfl)
@[simp] theorem State.wr64_eth (s : State) (lo hi v : Nat) : (s.wr64 lo hi v).eth = s.eth := (rfl)
@[simp] theorem State.wr64_can (s : State) (lo hi v : Nat) : (s.wr64 lo hi v).can = s.can := (rfl)
@[simp] theorem State.wr64_uart (s : State) (lo hi v : Nat) : (s.wr64 lo hi v).uart = s.uart := (rfl)
@[simp] theorem State.wr64_dio (s : State) (lo hi v : Nat) : (s.wr64 lo hi v).dio = s.dio := (rfl)
@[simp] theorem State.wr64_sdf (s : State) (lo hi v : Nat) : (s.wr64 lo hi v).sdf = s.sdf := (rfl)
@[simp] theorem State.wr64_hif (s : State) (lo hi v : Nat) : (s.wr64 lo hi v).hif = s.hif := (rfl)
@[simp] theorem State.wr64_alm (s : State) (lo hi v : Nat) : (s.wr64 lo hi v).alm = s.alm := (rfl)
@[simp] theorem State.wr64_mer (s : State) (lo hi v : Nat) : (s.wr64 lo hi v).mer = s.mer := (rfl)
@[simp] theorem State.wr64_pow (s : State) (lo hi v : Nat) : (s.wr64 lo hi v).pow = s.pow := (rfl)
@[simp] theorem State.wr64_ory (s : State) (lo hi v : Nat) : (s.wr64 lo hi v).ory = s.ory := (rfl)
@[simp] theorem State.wr64_ctl (s : State) (lo hi v : Nat) : (s.wr64 lo hi v).ctl = s.ctl := (rfl)
@[simp] theorem State.wr64_eph (s : State) (lo hi v : Nat) : (s.wr64 lo hi v).eph = s.eph := (rfl)
@[simp] theorem State.wr64_boot (s : State) (lo hi v : Nat) : (s.wr64 lo hi v).boot = s.boot := (rfl)
@[simp] theorem State.wr64_freeCtr (s : State) (lo hi v : Nat) : (s.wr64 lo hi v).freeCtr = s.freeCtr := (rfl)
@[simp] theorem State.wr64_pending (s : State) (lo hi v : Nat) : (s.wr64 lo hi v).pending = s.pending := (rfl)

/-! Drawing a free value. -/

@[simp] theorem State.nextFree_variant (s : State) : s.nextFree.variant = s.variant := (rfl)
@[simp] theorem State.nextFree_station (s : State) : s.nextFree.station = s.station := (rfl)
@[simp] theorem State.nextFree_readData (s : State) : s.nextFree.readData = s.readData := (rfl)
@[simp] theorem State.nextFree_regs (s : State) : s.nextFree.regs = s.regs := (rfl)
@[simp] theorem State.nextFree_mem (s : State) : s.nextFree.mem = s.mem := (rfl)
@[simp] theorem State.nextFree_cdr (s : State) : s.nextFree.cdr = s.cdr := (rfl)
@[simp] theorem State.nextFree_grd (s : State) : s.nextFree.grd = s.grd := (rfl)
@[simp] theorem State.nextFree_fus (s : State) : s.nextFree.fus = s.fus := (rfl)
@[simp] theorem State.nextFree_eff (s : State) : s.nextFree.eff = s.eff := (rfl)
@[simp] theorem State.nextFree_red (s : State) : s.nextFree.red = s.red := (rfl)
@[simp] theorem State.nextFree_xl (s : State) : s.nextFree.xl = s.xl := (rfl)
@[simp] theorem State.nextFree_tb (s : State) : s.nextFree.tb = s.tb := (rfl)
@[simp] theorem State.nextFree_now (s : State) : (s.nextFree).now = s.now := (rfl)
@[simp] theorem State.nextFree_eth (s : State) : s.nextFree.eth = s.eth := (rfl)
@[simp] theorem State.nextFree_can (s : State) : s.nextFree.can = s.can := (rfl)
@[simp] theorem State.nextFree_uart (s : State) : s.nextFree.uart = s.uart := (rfl)
@[simp] theorem State.nextFree_dio (s : State) : s.nextFree.dio = s.dio := (rfl)
@[simp] theorem State.nextFree_sdf (s : State) : s.nextFree.sdf = s.sdf := (rfl)
@[simp] theorem State.nextFree_hif (s : State) : s.nextFree.hif = s.hif := (rfl)
@[simp] theorem State.nextFree_alm (s : State) : s.nextFree.alm = s.alm := (rfl)
@[simp] theorem State.nextFree_mer (s : State) : s.nextFree.mer = s.mer := (rfl)
@[simp] theorem State.nextFree_pow (s : State) : s.nextFree.pow = s.pow := (rfl)
@[simp] theorem State.nextFree_ory (s : State) : s.nextFree.ory = s.ory := (rfl)
@[simp] theorem State.nextFree_ctl (s : State) : s.nextFree.ctl = s.ctl := (rfl)
@[simp] theorem State.nextFree_eph (s : State) : s.nextFree.eph = s.eph := (rfl)
@[simp] theorem State.nextFree_boot (s : State) : s.nextFree.boot = s.boot := (rfl)
@[simp] theorem State.nextFree_freeCtr (s : State) : s.nextFree.freeCtr = s.freeCtr + 1 := (rfl)
@[simp] theorem State.nextFree_pending (s : State) : s.nextFree.pending = s.pending := (rfl)

/-! modCan changes one part of the state. -/

@[simp] theorem State.modCan_variant (s : State) (c : Nat) (f : Can → Can) : (s.modCan c f).variant = s.variant := (rfl)
@[simp] theorem State.modCan_station (s : State) (c : Nat) (f : Can → Can) : (s.modCan c f).station = s.station := (rfl)
@[simp] theorem State.modCan_readData (s : State) (c : Nat) (f : Can → Can) : (s.modCan c f).readData = s.readData := (rfl)
@[simp] theorem State.modCan_regs (s : State) (c : Nat) (f : Can → Can) : (s.modCan c f).regs = s.regs := (rfl)
@[simp] theorem State.modCan_mem (s : State) (c : Nat) (f : Can → Can) : (s.modCan c f).mem = s.mem := (rfl)
@[simp] theorem State.modCan_cdr (s : State) (c : Nat) (f : Can → Can) : (s.modCan c f).cdr = s.cdr := (rfl)
@[simp] theorem State.modCan_grd (s : State) (c : Nat) (f : Can → Can) : (s.modCan c f).grd = s.grd := (rfl)
@[simp] theorem State.modCan_fus (s : State) (c : Nat) (f : Can → Can) : (s.modCan c f).fus = s.fus := (rfl)
@[simp] theorem State.modCan_eff (s : State) (c : Nat) (f : Can → Can) : (s.modCan c f).eff = s.eff := (rfl)
@[simp] theorem State.modCan_red (s : State) (c : Nat) (f : Can → Can) : (s.modCan c f).red = s.red := (rfl)
@[simp] theorem State.modCan_xl (s : State) (c : Nat) (f : Can → Can) : (s.modCan c f).xl = s.xl := (rfl)
@[simp] theorem State.modCan_tb (s : State) (c : Nat) (f : Can → Can) : (s.modCan c f).tb = s.tb := (rfl)
@[simp] theorem State.modCan_eth (s : State) (c : Nat) (f : Can → Can) : (s.modCan c f).eth = s.eth := (rfl)
@[simp] theorem State.modCan_can (s : State) (c : Nat) (f : Can → Can) : (s.modCan c f).can = modAt s.can c f := (rfl)
@[simp] theorem State.modCan_uart (s : State) (c : Nat) (f : Can → Can) : (s.modCan c f).uart = s.uart := (rfl)
@[simp] theorem State.modCan_dio (s : State) (c : Nat) (f : Can → Can) : (s.modCan c f).dio = s.dio := (rfl)
@[simp] theorem State.modCan_sdf (s : State) (c : Nat) (f : Can → Can) : (s.modCan c f).sdf = s.sdf := (rfl)
@[simp] theorem State.modCan_hif (s : State) (c : Nat) (f : Can → Can) : (s.modCan c f).hif = s.hif := (rfl)
@[simp] theorem State.modCan_alm (s : State) (c : Nat) (f : Can → Can) : (s.modCan c f).alm = s.alm := (rfl)
@[simp] theorem State.modCan_mer (s : State) (c : Nat) (f : Can → Can) : (s.modCan c f).mer = s.mer := (rfl)
@[simp] theorem State.modCan_pow (s : State) (c : Nat) (f : Can → Can) : (s.modCan c f).pow = s.pow := (rfl)
@[simp] theorem State.modCan_ory (s : State) (c : Nat) (f : Can → Can) : (s.modCan c f).ory = s.ory := (rfl)
@[simp] theorem State.modCan_ctl (s : State) (c : Nat) (f : Can → Can) : (s.modCan c f).ctl = s.ctl := (rfl)
@[simp] theorem State.modCan_eph (s : State) (c : Nat) (f : Can → Can) : (s.modCan c f).eph = s.eph := (rfl)
@[simp] theorem State.modCan_boot (s : State) (c : Nat) (f : Can → Can) : (s.modCan c f).boot = s.boot := (rfl)
@[simp] theorem State.modCan_freeCtr (s : State) (c : Nat) (f : Can → Can) : (s.modCan c f).freeCtr = s.freeCtr := (rfl)
@[simp] theorem State.modCan_pending (s : State) (c : Nat) (f : Can → Can) : (s.modCan c f).pending = s.pending := (rfl)
@[simp] theorem State.modCan_rd (s : State) (c : Nat) (f : Can → Can) (k : Nat) : (s.modCan c f).rd k = s.rd k := (rfl)
@[simp] theorem State.modCan_fld (s : State) (c : Nat) (f : Can → Can) (x : Fld) : (s.modCan c f).fld x = s.fld x := (rfl)
@[simp] theorem State.modCan_on (s : State) (c : Nat) (f : Can → Can) (x : Fld) : (s.modCan c f).on x = s.on x := (rfl)
@[simp] theorem State.modCan_now (s : State) (c : Nat) (f : Can → Can) : (s.modCan c f).now = s.now := (rfl)

/-! modEph changes one part of the state. -/

@[simp] theorem State.modEph_variant (s : State) (f : Eph → Eph) : (s.modEph f).variant = s.variant := (rfl)
@[simp] theorem State.modEph_station (s : State) (f : Eph → Eph) : (s.modEph f).station = s.station := (rfl)
@[simp] theorem State.modEph_readData (s : State) (f : Eph → Eph) : (s.modEph f).readData = s.readData := (rfl)
@[simp] theorem State.modEph_regs (s : State) (f : Eph → Eph) : (s.modEph f).regs = s.regs := (rfl)
@[simp] theorem State.modEph_mem (s : State) (f : Eph → Eph) : (s.modEph f).mem = s.mem := (rfl)
@[simp] theorem State.modEph_cdr (s : State) (f : Eph → Eph) : (s.modEph f).cdr = s.cdr := (rfl)
@[simp] theorem State.modEph_grd (s : State) (f : Eph → Eph) : (s.modEph f).grd = s.grd := (rfl)
@[simp] theorem State.modEph_fus (s : State) (f : Eph → Eph) : (s.modEph f).fus = s.fus := (rfl)
@[simp] theorem State.modEph_eff (s : State) (f : Eph → Eph) : (s.modEph f).eff = s.eff := (rfl)
@[simp] theorem State.modEph_red (s : State) (f : Eph → Eph) : (s.modEph f).red = s.red := (rfl)
@[simp] theorem State.modEph_xl (s : State) (f : Eph → Eph) : (s.modEph f).xl = s.xl := (rfl)
@[simp] theorem State.modEph_tb (s : State) (f : Eph → Eph) : (s.modEph f).tb = s.tb := (rfl)
@[simp] theorem State.modEph_eth (s : State) (f : Eph → Eph) : (s.modEph f).eth = s.eth := (rfl)
@[simp] theorem State.modEph_can (s : State) (f : Eph → Eph) : (s.modEph f).can = s.can := (rfl)
@[simp] theorem State.modEph_uart (s : State) (f : Eph → Eph) : (s.modEph f).uart = s.uart := (rfl)
@[simp] theorem State.modEph_dio (s : State) (f : Eph → Eph) : (s.modEph f).dio = s.dio := (rfl)
@[simp] theorem State.modEph_sdf (s : State) (f : Eph → Eph) : (s.modEph f).sdf = s.sdf := (rfl)
@[simp] theorem State.modEph_hif (s : State) (f : Eph → Eph) : (s.modEph f).hif = s.hif := (rfl)
@[simp] theorem State.modEph_alm (s : State) (f : Eph → Eph) : (s.modEph f).alm = s.alm := (rfl)
@[simp] theorem State.modEph_mer (s : State) (f : Eph → Eph) : (s.modEph f).mer = s.mer := (rfl)
@[simp] theorem State.modEph_pow (s : State) (f : Eph → Eph) : (s.modEph f).pow = s.pow := (rfl)
@[simp] theorem State.modEph_ory (s : State) (f : Eph → Eph) : (s.modEph f).ory = s.ory := (rfl)
@[simp] theorem State.modEph_ctl (s : State) (f : Eph → Eph) : (s.modEph f).ctl = s.ctl := (rfl)
@[simp] theorem State.modEph_eph (s : State) (f : Eph → Eph) : (s.modEph f).eph = f s.eph := (rfl)
@[simp] theorem State.modEph_boot (s : State) (f : Eph → Eph) : (s.modEph f).boot = s.boot := (rfl)
@[simp] theorem State.modEph_freeCtr (s : State) (f : Eph → Eph) : (s.modEph f).freeCtr = s.freeCtr := (rfl)
@[simp] theorem State.modEph_pending (s : State) (f : Eph → Eph) : (s.modEph f).pending = s.pending := (rfl)
@[simp] theorem State.modEph_rd (s : State) (f : Eph → Eph) (k : Nat) : (s.modEph f).rd k = s.rd k := (rfl)
@[simp] theorem State.modEph_fld (s : State) (f : Eph → Eph) (x : Fld) : (s.modEph f).fld x = s.fld x := (rfl)
@[simp] theorem State.modEph_on (s : State) (f : Eph → Eph) (x : Fld) : (s.modEph f).on x = s.on x := (rfl)
@[simp] theorem State.modEph_now (s : State) (f : Eph → Eph) : (s.modEph f).now = s.now := (rfl)

/-! modPort changes one part of the state. -/

@[simp] theorem State.modPort_variant (s : State) (p : Nat) (f : EthPort → EthPort) : (s.modPort p f).variant = s.variant := (rfl)
@[simp] theorem State.modPort_station (s : State) (p : Nat) (f : EthPort → EthPort) : (s.modPort p f).station = s.station := (rfl)
@[simp] theorem State.modPort_readData (s : State) (p : Nat) (f : EthPort → EthPort) : (s.modPort p f).readData = s.readData := (rfl)
@[simp] theorem State.modPort_regs (s : State) (p : Nat) (f : EthPort → EthPort) : (s.modPort p f).regs = s.regs := (rfl)
@[simp] theorem State.modPort_mem (s : State) (p : Nat) (f : EthPort → EthPort) : (s.modPort p f).mem = s.mem := (rfl)
@[simp] theorem State.modPort_cdr (s : State) (p : Nat) (f : EthPort → EthPort) : (s.modPort p f).cdr = s.cdr := (rfl)
@[simp] theorem State.modPort_grd (s : State) (p : Nat) (f : EthPort → EthPort) : (s.modPort p f).grd = s.grd := (rfl)
@[simp] theorem State.modPort_fus (s : State) (p : Nat) (f : EthPort → EthPort) : (s.modPort p f).fus = s.fus := (rfl)
@[simp] theorem State.modPort_eff (s : State) (p : Nat) (f : EthPort → EthPort) : (s.modPort p f).eff = s.eff := (rfl)
@[simp] theorem State.modPort_red (s : State) (p : Nat) (f : EthPort → EthPort) : (s.modPort p f).red = s.red := (rfl)
@[simp] theorem State.modPort_xl (s : State) (p : Nat) (f : EthPort → EthPort) : (s.modPort p f).xl = s.xl := (rfl)
@[simp] theorem State.modPort_tb (s : State) (p : Nat) (f : EthPort → EthPort) : (s.modPort p f).tb = s.tb := (rfl)
@[simp] theorem State.modPort_eth (s : State) (p : Nat) (f : EthPort → EthPort) : (s.modPort p f).eth = modAt s.eth p f := (rfl)
@[simp] theorem State.modPort_can (s : State) (p : Nat) (f : EthPort → EthPort) : (s.modPort p f).can = s.can := (rfl)
@[simp] theorem State.modPort_uart (s : State) (p : Nat) (f : EthPort → EthPort) : (s.modPort p f).uart = s.uart := (rfl)
@[simp] theorem State.modPort_dio (s : State) (p : Nat) (f : EthPort → EthPort) : (s.modPort p f).dio = s.dio := (rfl)
@[simp] theorem State.modPort_sdf (s : State) (p : Nat) (f : EthPort → EthPort) : (s.modPort p f).sdf = s.sdf := (rfl)
@[simp] theorem State.modPort_hif (s : State) (p : Nat) (f : EthPort → EthPort) : (s.modPort p f).hif = s.hif := (rfl)
@[simp] theorem State.modPort_alm (s : State) (p : Nat) (f : EthPort → EthPort) : (s.modPort p f).alm = s.alm := (rfl)
@[simp] theorem State.modPort_mer (s : State) (p : Nat) (f : EthPort → EthPort) : (s.modPort p f).mer = s.mer := (rfl)
@[simp] theorem State.modPort_pow (s : State) (p : Nat) (f : EthPort → EthPort) : (s.modPort p f).pow = s.pow := (rfl)
@[simp] theorem State.modPort_ory (s : State) (p : Nat) (f : EthPort → EthPort) : (s.modPort p f).ory = s.ory := (rfl)
@[simp] theorem State.modPort_ctl (s : State) (p : Nat) (f : EthPort → EthPort) : (s.modPort p f).ctl = s.ctl := (rfl)
@[simp] theorem State.modPort_eph (s : State) (p : Nat) (f : EthPort → EthPort) : (s.modPort p f).eph = s.eph := (rfl)
@[simp] theorem State.modPort_boot (s : State) (p : Nat) (f : EthPort → EthPort) : (s.modPort p f).boot = s.boot := (rfl)
@[simp] theorem State.modPort_freeCtr (s : State) (p : Nat) (f : EthPort → EthPort) : (s.modPort p f).freeCtr = s.freeCtr := (rfl)
@[simp] theorem State.modPort_pending (s : State) (p : Nat) (f : EthPort → EthPort) : (s.modPort p f).pending = s.pending := (rfl)
@[simp] theorem State.modPort_rd (s : State) (p : Nat) (f : EthPort → EthPort) (k : Nat) : (s.modPort p f).rd k = s.rd k := (rfl)
@[simp] theorem State.modPort_fld (s : State) (p : Nat) (f : EthPort → EthPort) (x : Fld) : (s.modPort p f).fld x = s.fld x := (rfl)
@[simp] theorem State.modPort_on (s : State) (p : Nat) (f : EthPort → EthPort) (x : Fld) : (s.modPort p f).on x = s.on x := (rfl)
@[simp] theorem State.modPort_now (s : State) (p : Nat) (f : EthPort → EthPort) : (s.modPort p f).now = s.now := (rfl)

/-! modGrd changes one part of the state. -/

@[simp] theorem State.modGrd_variant (s : State) (f : Guard → Guard) : (s.modGrd f).variant = s.variant := (rfl)
@[simp] theorem State.modGrd_station (s : State) (f : Guard → Guard) : (s.modGrd f).station = s.station := (rfl)
@[simp] theorem State.modGrd_readData (s : State) (f : Guard → Guard) : (s.modGrd f).readData = s.readData := (rfl)
@[simp] theorem State.modGrd_regs (s : State) (f : Guard → Guard) : (s.modGrd f).regs = s.regs := (rfl)
@[simp] theorem State.modGrd_mem (s : State) (f : Guard → Guard) : (s.modGrd f).mem = s.mem := (rfl)
@[simp] theorem State.modGrd_cdr (s : State) (f : Guard → Guard) : (s.modGrd f).cdr = s.cdr := (rfl)
@[simp] theorem State.modGrd_grd (s : State) (f : Guard → Guard) : (s.modGrd f).grd = f s.grd := (rfl)
@[simp] theorem State.modGrd_fus (s : State) (f : Guard → Guard) : (s.modGrd f).fus = s.fus := (rfl)
@[simp] theorem State.modGrd_eff (s : State) (f : Guard → Guard) : (s.modGrd f).eff = s.eff := (rfl)
@[simp] theorem State.modGrd_red (s : State) (f : Guard → Guard) : (s.modGrd f).red = s.red := (rfl)
@[simp] theorem State.modGrd_xl (s : State) (f : Guard → Guard) : (s.modGrd f).xl = s.xl := (rfl)
@[simp] theorem State.modGrd_tb (s : State) (f : Guard → Guard) : (s.modGrd f).tb = s.tb := (rfl)
@[simp] theorem State.modGrd_eth (s : State) (f : Guard → Guard) : (s.modGrd f).eth = s.eth := (rfl)
@[simp] theorem State.modGrd_can (s : State) (f : Guard → Guard) : (s.modGrd f).can = s.can := (rfl)
@[simp] theorem State.modGrd_uart (s : State) (f : Guard → Guard) : (s.modGrd f).uart = s.uart := (rfl)
@[simp] theorem State.modGrd_dio (s : State) (f : Guard → Guard) : (s.modGrd f).dio = s.dio := (rfl)
@[simp] theorem State.modGrd_sdf (s : State) (f : Guard → Guard) : (s.modGrd f).sdf = s.sdf := (rfl)
@[simp] theorem State.modGrd_hif (s : State) (f : Guard → Guard) : (s.modGrd f).hif = s.hif := (rfl)
@[simp] theorem State.modGrd_alm (s : State) (f : Guard → Guard) : (s.modGrd f).alm = s.alm := (rfl)
@[simp] theorem State.modGrd_mer (s : State) (f : Guard → Guard) : (s.modGrd f).mer = s.mer := (rfl)
@[simp] theorem State.modGrd_pow (s : State) (f : Guard → Guard) : (s.modGrd f).pow = s.pow := (rfl)
@[simp] theorem State.modGrd_ory (s : State) (f : Guard → Guard) : (s.modGrd f).ory = s.ory := (rfl)
@[simp] theorem State.modGrd_ctl (s : State) (f : Guard → Guard) : (s.modGrd f).ctl = s.ctl := (rfl)
@[simp] theorem State.modGrd_eph (s : State) (f : Guard → Guard) : (s.modGrd f).eph = s.eph := (rfl)
@[simp] theorem State.modGrd_boot (s : State) (f : Guard → Guard) : (s.modGrd f).boot = s.boot := (rfl)
@[simp] theorem State.modGrd_freeCtr (s : State) (f : Guard → Guard) : (s.modGrd f).freeCtr = s.freeCtr := (rfl)
@[simp] theorem State.modGrd_pending (s : State) (f : Guard → Guard) : (s.modGrd f).pending = s.pending := (rfl)
@[simp] theorem State.modGrd_rd (s : State) (f : Guard → Guard) (k : Nat) : (s.modGrd f).rd k = s.rd k := (rfl)
@[simp] theorem State.modGrd_fld (s : State) (f : Guard → Guard) (x : Fld) : (s.modGrd f).fld x = s.fld x := (rfl)
@[simp] theorem State.modGrd_on (s : State) (f : Guard → Guard) (x : Fld) : (s.modGrd f).on x = s.on x := (rfl)
@[simp] theorem State.modGrd_now (s : State) (f : Guard → Guard) : (s.modGrd f).now = s.now := (rfl)

/-! modHif changes one part of the state. -/

@[simp] theorem State.modHif_variant (s : State) (f : HostIf → HostIf) : (s.modHif f).variant = s.variant := (rfl)
@[simp] theorem State.modHif_station (s : State) (f : HostIf → HostIf) : (s.modHif f).station = s.station := (rfl)
@[simp] theorem State.modHif_readData (s : State) (f : HostIf → HostIf) : (s.modHif f).readData = s.readData := (rfl)
@[simp] theorem State.modHif_regs (s : State) (f : HostIf → HostIf) : (s.modHif f).regs = s.regs := (rfl)
@[simp] theorem State.modHif_mem (s : State) (f : HostIf → HostIf) : (s.modHif f).mem = s.mem := (rfl)
@[simp] theorem State.modHif_cdr (s : State) (f : HostIf → HostIf) : (s.modHif f).cdr = s.cdr := (rfl)
@[simp] theorem State.modHif_grd (s : State) (f : HostIf → HostIf) : (s.modHif f).grd = s.grd := (rfl)
@[simp] theorem State.modHif_fus (s : State) (f : HostIf → HostIf) : (s.modHif f).fus = s.fus := (rfl)
@[simp] theorem State.modHif_eff (s : State) (f : HostIf → HostIf) : (s.modHif f).eff = s.eff := (rfl)
@[simp] theorem State.modHif_red (s : State) (f : HostIf → HostIf) : (s.modHif f).red = s.red := (rfl)
@[simp] theorem State.modHif_xl (s : State) (f : HostIf → HostIf) : (s.modHif f).xl = s.xl := (rfl)
@[simp] theorem State.modHif_tb (s : State) (f : HostIf → HostIf) : (s.modHif f).tb = s.tb := (rfl)
@[simp] theorem State.modHif_eth (s : State) (f : HostIf → HostIf) : (s.modHif f).eth = s.eth := (rfl)
@[simp] theorem State.modHif_can (s : State) (f : HostIf → HostIf) : (s.modHif f).can = s.can := (rfl)
@[simp] theorem State.modHif_uart (s : State) (f : HostIf → HostIf) : (s.modHif f).uart = s.uart := (rfl)
@[simp] theorem State.modHif_dio (s : State) (f : HostIf → HostIf) : (s.modHif f).dio = s.dio := (rfl)
@[simp] theorem State.modHif_sdf (s : State) (f : HostIf → HostIf) : (s.modHif f).sdf = s.sdf := (rfl)
@[simp] theorem State.modHif_hif (s : State) (f : HostIf → HostIf) : (s.modHif f).hif = f s.hif := (rfl)
@[simp] theorem State.modHif_alm (s : State) (f : HostIf → HostIf) : (s.modHif f).alm = s.alm := (rfl)
@[simp] theorem State.modHif_mer (s : State) (f : HostIf → HostIf) : (s.modHif f).mer = s.mer := (rfl)
@[simp] theorem State.modHif_pow (s : State) (f : HostIf → HostIf) : (s.modHif f).pow = s.pow := (rfl)
@[simp] theorem State.modHif_ory (s : State) (f : HostIf → HostIf) : (s.modHif f).ory = s.ory := (rfl)
@[simp] theorem State.modHif_ctl (s : State) (f : HostIf → HostIf) : (s.modHif f).ctl = s.ctl := (rfl)
@[simp] theorem State.modHif_eph (s : State) (f : HostIf → HostIf) : (s.modHif f).eph = s.eph := (rfl)
@[simp] theorem State.modHif_boot (s : State) (f : HostIf → HostIf) : (s.modHif f).boot = s.boot := (rfl)
@[simp] theorem State.modHif_freeCtr (s : State) (f : HostIf → HostIf) : (s.modHif f).freeCtr = s.freeCtr := (rfl)
@[simp] theorem State.modHif_pending (s : State) (f : HostIf → HostIf) : (s.modHif f).pending = s.pending := (rfl)
@[simp] theorem State.modHif_rd (s : State) (f : HostIf → HostIf) (k : Nat) : (s.modHif f).rd k = s.rd k := (rfl)
@[simp] theorem State.modHif_fld (s : State) (f : HostIf → HostIf) (x : Fld) : (s.modHif f).fld x = s.fld x := (rfl)
@[simp] theorem State.modHif_on (s : State) (f : HostIf → HostIf) (x : Fld) : (s.modHif f).on x = s.on x := (rfl)
@[simp] theorem State.modHif_now (s : State) (f : HostIf → HostIf) : (s.modHif f).now = s.now := (rfl)

/-! modFus changes one part of the state. -/

@[simp] theorem State.modFus_variant (s : State) (f : Fusion → Fusion) : (s.modFus f).variant = s.variant := (rfl)
@[simp] theorem State.modFus_station (s : State) (f : Fusion → Fusion) : (s.modFus f).station = s.station := (rfl)
@[simp] theorem State.modFus_readData (s : State) (f : Fusion → Fusion) : (s.modFus f).readData = s.readData := (rfl)
@[simp] theorem State.modFus_regs (s : State) (f : Fusion → Fusion) : (s.modFus f).regs = s.regs := (rfl)
@[simp] theorem State.modFus_mem (s : State) (f : Fusion → Fusion) : (s.modFus f).mem = s.mem := (rfl)
@[simp] theorem State.modFus_cdr (s : State) (f : Fusion → Fusion) : (s.modFus f).cdr = s.cdr := (rfl)
@[simp] theorem State.modFus_grd (s : State) (f : Fusion → Fusion) : (s.modFus f).grd = s.grd := (rfl)
@[simp] theorem State.modFus_fus (s : State) (f : Fusion → Fusion) : (s.modFus f).fus = f s.fus := (rfl)
@[simp] theorem State.modFus_eff (s : State) (f : Fusion → Fusion) : (s.modFus f).eff = s.eff := (rfl)
@[simp] theorem State.modFus_red (s : State) (f : Fusion → Fusion) : (s.modFus f).red = s.red := (rfl)
@[simp] theorem State.modFus_xl (s : State) (f : Fusion → Fusion) : (s.modFus f).xl = s.xl := (rfl)
@[simp] theorem State.modFus_tb (s : State) (f : Fusion → Fusion) : (s.modFus f).tb = s.tb := (rfl)
@[simp] theorem State.modFus_eth (s : State) (f : Fusion → Fusion) : (s.modFus f).eth = s.eth := (rfl)
@[simp] theorem State.modFus_can (s : State) (f : Fusion → Fusion) : (s.modFus f).can = s.can := (rfl)
@[simp] theorem State.modFus_uart (s : State) (f : Fusion → Fusion) : (s.modFus f).uart = s.uart := (rfl)
@[simp] theorem State.modFus_dio (s : State) (f : Fusion → Fusion) : (s.modFus f).dio = s.dio := (rfl)
@[simp] theorem State.modFus_sdf (s : State) (f : Fusion → Fusion) : (s.modFus f).sdf = s.sdf := (rfl)
@[simp] theorem State.modFus_hif (s : State) (f : Fusion → Fusion) : (s.modFus f).hif = s.hif := (rfl)
@[simp] theorem State.modFus_alm (s : State) (f : Fusion → Fusion) : (s.modFus f).alm = s.alm := (rfl)
@[simp] theorem State.modFus_mer (s : State) (f : Fusion → Fusion) : (s.modFus f).mer = s.mer := (rfl)
@[simp] theorem State.modFus_pow (s : State) (f : Fusion → Fusion) : (s.modFus f).pow = s.pow := (rfl)
@[simp] theorem State.modFus_ory (s : State) (f : Fusion → Fusion) : (s.modFus f).ory = s.ory := (rfl)
@[simp] theorem State.modFus_ctl (s : State) (f : Fusion → Fusion) : (s.modFus f).ctl = s.ctl := (rfl)
@[simp] theorem State.modFus_eph (s : State) (f : Fusion → Fusion) : (s.modFus f).eph = s.eph := (rfl)
@[simp] theorem State.modFus_boot (s : State) (f : Fusion → Fusion) : (s.modFus f).boot = s.boot := (rfl)
@[simp] theorem State.modFus_freeCtr (s : State) (f : Fusion → Fusion) : (s.modFus f).freeCtr = s.freeCtr := (rfl)
@[simp] theorem State.modFus_pending (s : State) (f : Fusion → Fusion) : (s.modFus f).pending = s.pending := (rfl)
@[simp] theorem State.modFus_rd (s : State) (f : Fusion → Fusion) (k : Nat) : (s.modFus f).rd k = s.rd k := (rfl)
@[simp] theorem State.modFus_fld (s : State) (f : Fusion → Fusion) (x : Fld) : (s.modFus f).fld x = s.fld x := (rfl)
@[simp] theorem State.modFus_on (s : State) (f : Fusion → Fusion) (x : Fld) : (s.modFus f).on x = s.on x := (rfl)
@[simp] theorem State.modFus_now (s : State) (f : Fusion → Fusion) : (s.modFus f).now = s.now := (rfl)

/-! modMer changes one part of the state. -/

@[simp] theorem State.modMer_variant (s : State) (f : Meridian → Meridian) : (s.modMer f).variant = s.variant := (rfl)
@[simp] theorem State.modMer_station (s : State) (f : Meridian → Meridian) : (s.modMer f).station = s.station := (rfl)
@[simp] theorem State.modMer_readData (s : State) (f : Meridian → Meridian) : (s.modMer f).readData = s.readData := (rfl)
@[simp] theorem State.modMer_regs (s : State) (f : Meridian → Meridian) : (s.modMer f).regs = s.regs := (rfl)
@[simp] theorem State.modMer_mem (s : State) (f : Meridian → Meridian) : (s.modMer f).mem = s.mem := (rfl)
@[simp] theorem State.modMer_cdr (s : State) (f : Meridian → Meridian) : (s.modMer f).cdr = s.cdr := (rfl)
@[simp] theorem State.modMer_grd (s : State) (f : Meridian → Meridian) : (s.modMer f).grd = s.grd := (rfl)
@[simp] theorem State.modMer_fus (s : State) (f : Meridian → Meridian) : (s.modMer f).fus = s.fus := (rfl)
@[simp] theorem State.modMer_eff (s : State) (f : Meridian → Meridian) : (s.modMer f).eff = s.eff := (rfl)
@[simp] theorem State.modMer_red (s : State) (f : Meridian → Meridian) : (s.modMer f).red = s.red := (rfl)
@[simp] theorem State.modMer_xl (s : State) (f : Meridian → Meridian) : (s.modMer f).xl = s.xl := (rfl)
@[simp] theorem State.modMer_tb (s : State) (f : Meridian → Meridian) : (s.modMer f).tb = s.tb := (rfl)
@[simp] theorem State.modMer_eth (s : State) (f : Meridian → Meridian) : (s.modMer f).eth = s.eth := (rfl)
@[simp] theorem State.modMer_can (s : State) (f : Meridian → Meridian) : (s.modMer f).can = s.can := (rfl)
@[simp] theorem State.modMer_uart (s : State) (f : Meridian → Meridian) : (s.modMer f).uart = s.uart := (rfl)
@[simp] theorem State.modMer_dio (s : State) (f : Meridian → Meridian) : (s.modMer f).dio = s.dio := (rfl)
@[simp] theorem State.modMer_sdf (s : State) (f : Meridian → Meridian) : (s.modMer f).sdf = s.sdf := (rfl)
@[simp] theorem State.modMer_hif (s : State) (f : Meridian → Meridian) : (s.modMer f).hif = s.hif := (rfl)
@[simp] theorem State.modMer_alm (s : State) (f : Meridian → Meridian) : (s.modMer f).alm = s.alm := (rfl)
@[simp] theorem State.modMer_mer (s : State) (f : Meridian → Meridian) : (s.modMer f).mer = f s.mer := (rfl)
@[simp] theorem State.modMer_pow (s : State) (f : Meridian → Meridian) : (s.modMer f).pow = s.pow := (rfl)
@[simp] theorem State.modMer_ory (s : State) (f : Meridian → Meridian) : (s.modMer f).ory = s.ory := (rfl)
@[simp] theorem State.modMer_ctl (s : State) (f : Meridian → Meridian) : (s.modMer f).ctl = s.ctl := (rfl)
@[simp] theorem State.modMer_eph (s : State) (f : Meridian → Meridian) : (s.modMer f).eph = s.eph := (rfl)
@[simp] theorem State.modMer_boot (s : State) (f : Meridian → Meridian) : (s.modMer f).boot = s.boot := (rfl)
@[simp] theorem State.modMer_freeCtr (s : State) (f : Meridian → Meridian) : (s.modMer f).freeCtr = s.freeCtr := (rfl)
@[simp] theorem State.modMer_pending (s : State) (f : Meridian → Meridian) : (s.modMer f).pending = s.pending := (rfl)
@[simp] theorem State.modMer_rd (s : State) (f : Meridian → Meridian) (k : Nat) : (s.modMer f).rd k = s.rd k := (rfl)
@[simp] theorem State.modMer_fld (s : State) (f : Meridian → Meridian) (x : Fld) : (s.modMer f).fld x = s.fld x := (rfl)
@[simp] theorem State.modMer_on (s : State) (f : Meridian → Meridian) (x : Fld) : (s.modMer f).on x = s.on x := (rfl)
@[simp] theorem State.modMer_now (s : State) (f : Meridian → Meridian) : (s.modMer f).now = s.now := (rfl)

/-! modCtl changes one part of the state. -/

@[simp] theorem State.modCtl_variant (s : State) (f : Control → Control) : (s.modCtl f).variant = s.variant := (rfl)
@[simp] theorem State.modCtl_station (s : State) (f : Control → Control) : (s.modCtl f).station = s.station := (rfl)
@[simp] theorem State.modCtl_readData (s : State) (f : Control → Control) : (s.modCtl f).readData = s.readData := (rfl)
@[simp] theorem State.modCtl_regs (s : State) (f : Control → Control) : (s.modCtl f).regs = s.regs := (rfl)
@[simp] theorem State.modCtl_mem (s : State) (f : Control → Control) : (s.modCtl f).mem = s.mem := (rfl)
@[simp] theorem State.modCtl_cdr (s : State) (f : Control → Control) : (s.modCtl f).cdr = s.cdr := (rfl)
@[simp] theorem State.modCtl_grd (s : State) (f : Control → Control) : (s.modCtl f).grd = s.grd := (rfl)
@[simp] theorem State.modCtl_fus (s : State) (f : Control → Control) : (s.modCtl f).fus = s.fus := (rfl)
@[simp] theorem State.modCtl_eff (s : State) (f : Control → Control) : (s.modCtl f).eff = s.eff := (rfl)
@[simp] theorem State.modCtl_red (s : State) (f : Control → Control) : (s.modCtl f).red = s.red := (rfl)
@[simp] theorem State.modCtl_xl (s : State) (f : Control → Control) : (s.modCtl f).xl = s.xl := (rfl)
@[simp] theorem State.modCtl_tb (s : State) (f : Control → Control) : (s.modCtl f).tb = s.tb := (rfl)
@[simp] theorem State.modCtl_eth (s : State) (f : Control → Control) : (s.modCtl f).eth = s.eth := (rfl)
@[simp] theorem State.modCtl_can (s : State) (f : Control → Control) : (s.modCtl f).can = s.can := (rfl)
@[simp] theorem State.modCtl_uart (s : State) (f : Control → Control) : (s.modCtl f).uart = s.uart := (rfl)
@[simp] theorem State.modCtl_dio (s : State) (f : Control → Control) : (s.modCtl f).dio = s.dio := (rfl)
@[simp] theorem State.modCtl_sdf (s : State) (f : Control → Control) : (s.modCtl f).sdf = s.sdf := (rfl)
@[simp] theorem State.modCtl_hif (s : State) (f : Control → Control) : (s.modCtl f).hif = s.hif := (rfl)
@[simp] theorem State.modCtl_alm (s : State) (f : Control → Control) : (s.modCtl f).alm = s.alm := (rfl)
@[simp] theorem State.modCtl_mer (s : State) (f : Control → Control) : (s.modCtl f).mer = s.mer := (rfl)
@[simp] theorem State.modCtl_pow (s : State) (f : Control → Control) : (s.modCtl f).pow = s.pow := (rfl)
@[simp] theorem State.modCtl_ory (s : State) (f : Control → Control) : (s.modCtl f).ory = s.ory := (rfl)
@[simp] theorem State.modCtl_ctl (s : State) (f : Control → Control) : (s.modCtl f).ctl = f s.ctl := (rfl)
@[simp] theorem State.modCtl_eph (s : State) (f : Control → Control) : (s.modCtl f).eph = s.eph := (rfl)
@[simp] theorem State.modCtl_boot (s : State) (f : Control → Control) : (s.modCtl f).boot = s.boot := (rfl)
@[simp] theorem State.modCtl_freeCtr (s : State) (f : Control → Control) : (s.modCtl f).freeCtr = s.freeCtr := (rfl)
@[simp] theorem State.modCtl_pending (s : State) (f : Control → Control) : (s.modCtl f).pending = s.pending := (rfl)
@[simp] theorem State.modCtl_rd (s : State) (f : Control → Control) (k : Nat) : (s.modCtl f).rd k = s.rd k := (rfl)
@[simp] theorem State.modCtl_fld (s : State) (f : Control → Control) (x : Fld) : (s.modCtl f).fld x = s.fld x := (rfl)
@[simp] theorem State.modCtl_on (s : State) (f : Control → Control) (x : Fld) : (s.modCtl f).on x = s.on x := (rfl)
@[simp] theorem State.modCtl_now (s : State) (f : Control → Control) : (s.modCtl f).now = s.now := (rfl)

/-! modOry changes one part of the state. -/

@[simp] theorem State.modOry_variant (s : State) (f : Orrery → Orrery) : (s.modOry f).variant = s.variant := (rfl)
@[simp] theorem State.modOry_station (s : State) (f : Orrery → Orrery) : (s.modOry f).station = s.station := (rfl)
@[simp] theorem State.modOry_readData (s : State) (f : Orrery → Orrery) : (s.modOry f).readData = s.readData := (rfl)
@[simp] theorem State.modOry_regs (s : State) (f : Orrery → Orrery) : (s.modOry f).regs = s.regs := (rfl)
@[simp] theorem State.modOry_mem (s : State) (f : Orrery → Orrery) : (s.modOry f).mem = s.mem := (rfl)
@[simp] theorem State.modOry_cdr (s : State) (f : Orrery → Orrery) : (s.modOry f).cdr = s.cdr := (rfl)
@[simp] theorem State.modOry_grd (s : State) (f : Orrery → Orrery) : (s.modOry f).grd = s.grd := (rfl)
@[simp] theorem State.modOry_fus (s : State) (f : Orrery → Orrery) : (s.modOry f).fus = s.fus := (rfl)
@[simp] theorem State.modOry_eff (s : State) (f : Orrery → Orrery) : (s.modOry f).eff = s.eff := (rfl)
@[simp] theorem State.modOry_red (s : State) (f : Orrery → Orrery) : (s.modOry f).red = s.red := (rfl)
@[simp] theorem State.modOry_xl (s : State) (f : Orrery → Orrery) : (s.modOry f).xl = s.xl := (rfl)
@[simp] theorem State.modOry_tb (s : State) (f : Orrery → Orrery) : (s.modOry f).tb = s.tb := (rfl)
@[simp] theorem State.modOry_eth (s : State) (f : Orrery → Orrery) : (s.modOry f).eth = s.eth := (rfl)
@[simp] theorem State.modOry_can (s : State) (f : Orrery → Orrery) : (s.modOry f).can = s.can := (rfl)
@[simp] theorem State.modOry_uart (s : State) (f : Orrery → Orrery) : (s.modOry f).uart = s.uart := (rfl)
@[simp] theorem State.modOry_dio (s : State) (f : Orrery → Orrery) : (s.modOry f).dio = s.dio := (rfl)
@[simp] theorem State.modOry_sdf (s : State) (f : Orrery → Orrery) : (s.modOry f).sdf = s.sdf := (rfl)
@[simp] theorem State.modOry_hif (s : State) (f : Orrery → Orrery) : (s.modOry f).hif = s.hif := (rfl)
@[simp] theorem State.modOry_alm (s : State) (f : Orrery → Orrery) : (s.modOry f).alm = s.alm := (rfl)
@[simp] theorem State.modOry_mer (s : State) (f : Orrery → Orrery) : (s.modOry f).mer = s.mer := (rfl)
@[simp] theorem State.modOry_pow (s : State) (f : Orrery → Orrery) : (s.modOry f).pow = s.pow := (rfl)
@[simp] theorem State.modOry_ory (s : State) (f : Orrery → Orrery) : (s.modOry f).ory = f s.ory := (rfl)
@[simp] theorem State.modOry_ctl (s : State) (f : Orrery → Orrery) : (s.modOry f).ctl = s.ctl := (rfl)
@[simp] theorem State.modOry_eph (s : State) (f : Orrery → Orrery) : (s.modOry f).eph = s.eph := (rfl)
@[simp] theorem State.modOry_boot (s : State) (f : Orrery → Orrery) : (s.modOry f).boot = s.boot := (rfl)
@[simp] theorem State.modOry_freeCtr (s : State) (f : Orrery → Orrery) : (s.modOry f).freeCtr = s.freeCtr := (rfl)
@[simp] theorem State.modOry_pending (s : State) (f : Orrery → Orrery) : (s.modOry f).pending = s.pending := (rfl)
@[simp] theorem State.modOry_rd (s : State) (f : Orrery → Orrery) (k : Nat) : (s.modOry f).rd k = s.rd k := (rfl)
@[simp] theorem State.modOry_fld (s : State) (f : Orrery → Orrery) (x : Fld) : (s.modOry f).fld x = s.fld x := (rfl)
@[simp] theorem State.modOry_on (s : State) (f : Orrery → Orrery) (x : Fld) : (s.modOry f).on x = s.on x := (rfl)
@[simp] theorem State.modOry_now (s : State) (f : Orrery → Orrery) : (s.modOry f).now = s.now := (rfl)

/-! modPow changes one part of the state. -/

@[simp] theorem State.modPow_variant (s : State) (f : Power → Power) : (s.modPow f).variant = s.variant := (rfl)
@[simp] theorem State.modPow_station (s : State) (f : Power → Power) : (s.modPow f).station = s.station := (rfl)
@[simp] theorem State.modPow_readData (s : State) (f : Power → Power) : (s.modPow f).readData = s.readData := (rfl)
@[simp] theorem State.modPow_regs (s : State) (f : Power → Power) : (s.modPow f).regs = s.regs := (rfl)
@[simp] theorem State.modPow_mem (s : State) (f : Power → Power) : (s.modPow f).mem = s.mem := (rfl)
@[simp] theorem State.modPow_cdr (s : State) (f : Power → Power) : (s.modPow f).cdr = s.cdr := (rfl)
@[simp] theorem State.modPow_grd (s : State) (f : Power → Power) : (s.modPow f).grd = s.grd := (rfl)
@[simp] theorem State.modPow_fus (s : State) (f : Power → Power) : (s.modPow f).fus = s.fus := (rfl)
@[simp] theorem State.modPow_eff (s : State) (f : Power → Power) : (s.modPow f).eff = s.eff := (rfl)
@[simp] theorem State.modPow_red (s : State) (f : Power → Power) : (s.modPow f).red = s.red := (rfl)
@[simp] theorem State.modPow_xl (s : State) (f : Power → Power) : (s.modPow f).xl = s.xl := (rfl)
@[simp] theorem State.modPow_tb (s : State) (f : Power → Power) : (s.modPow f).tb = s.tb := (rfl)
@[simp] theorem State.modPow_eth (s : State) (f : Power → Power) : (s.modPow f).eth = s.eth := (rfl)
@[simp] theorem State.modPow_can (s : State) (f : Power → Power) : (s.modPow f).can = s.can := (rfl)
@[simp] theorem State.modPow_uart (s : State) (f : Power → Power) : (s.modPow f).uart = s.uart := (rfl)
@[simp] theorem State.modPow_dio (s : State) (f : Power → Power) : (s.modPow f).dio = s.dio := (rfl)
@[simp] theorem State.modPow_sdf (s : State) (f : Power → Power) : (s.modPow f).sdf = s.sdf := (rfl)
@[simp] theorem State.modPow_hif (s : State) (f : Power → Power) : (s.modPow f).hif = s.hif := (rfl)
@[simp] theorem State.modPow_alm (s : State) (f : Power → Power) : (s.modPow f).alm = s.alm := (rfl)
@[simp] theorem State.modPow_mer (s : State) (f : Power → Power) : (s.modPow f).mer = s.mer := (rfl)
@[simp] theorem State.modPow_pow (s : State) (f : Power → Power) : (s.modPow f).pow = f s.pow := (rfl)
@[simp] theorem State.modPow_ory (s : State) (f : Power → Power) : (s.modPow f).ory = s.ory := (rfl)
@[simp] theorem State.modPow_ctl (s : State) (f : Power → Power) : (s.modPow f).ctl = s.ctl := (rfl)
@[simp] theorem State.modPow_eph (s : State) (f : Power → Power) : (s.modPow f).eph = s.eph := (rfl)
@[simp] theorem State.modPow_boot (s : State) (f : Power → Power) : (s.modPow f).boot = s.boot := (rfl)
@[simp] theorem State.modPow_freeCtr (s : State) (f : Power → Power) : (s.modPow f).freeCtr = s.freeCtr := (rfl)
@[simp] theorem State.modPow_pending (s : State) (f : Power → Power) : (s.modPow f).pending = s.pending := (rfl)
@[simp] theorem State.modPow_rd (s : State) (f : Power → Power) (k : Nat) : (s.modPow f).rd k = s.rd k := (rfl)
@[simp] theorem State.modPow_fld (s : State) (f : Power → Power) (x : Fld) : (s.modPow f).fld x = s.fld x := (rfl)
@[simp] theorem State.modPow_on (s : State) (f : Power → Power) (x : Fld) : (s.modPow f).on x = s.on x := (rfl)
@[simp] theorem State.modPow_now (s : State) (f : Power → Power) : (s.modPow f).now = s.now := (rfl)

/-! modCdr changes one part of the state. -/

@[simp] theorem State.modCdr_variant (s : State) (f : ClockDrive → ClockDrive) : (s.modCdr f).variant = s.variant := (rfl)
@[simp] theorem State.modCdr_station (s : State) (f : ClockDrive → ClockDrive) : (s.modCdr f).station = s.station := (rfl)
@[simp] theorem State.modCdr_readData (s : State) (f : ClockDrive → ClockDrive) : (s.modCdr f).readData = s.readData := (rfl)
@[simp] theorem State.modCdr_regs (s : State) (f : ClockDrive → ClockDrive) : (s.modCdr f).regs = s.regs := (rfl)
@[simp] theorem State.modCdr_mem (s : State) (f : ClockDrive → ClockDrive) : (s.modCdr f).mem = s.mem := (rfl)
@[simp] theorem State.modCdr_cdr (s : State) (f : ClockDrive → ClockDrive) : (s.modCdr f).cdr = f s.cdr := (rfl)
@[simp] theorem State.modCdr_grd (s : State) (f : ClockDrive → ClockDrive) : (s.modCdr f).grd = s.grd := (rfl)
@[simp] theorem State.modCdr_fus (s : State) (f : ClockDrive → ClockDrive) : (s.modCdr f).fus = s.fus := (rfl)
@[simp] theorem State.modCdr_eff (s : State) (f : ClockDrive → ClockDrive) : (s.modCdr f).eff = s.eff := (rfl)
@[simp] theorem State.modCdr_red (s : State) (f : ClockDrive → ClockDrive) : (s.modCdr f).red = s.red := (rfl)
@[simp] theorem State.modCdr_xl (s : State) (f : ClockDrive → ClockDrive) : (s.modCdr f).xl = s.xl := (rfl)
@[simp] theorem State.modCdr_tb (s : State) (f : ClockDrive → ClockDrive) : (s.modCdr f).tb = s.tb := (rfl)
@[simp] theorem State.modCdr_eth (s : State) (f : ClockDrive → ClockDrive) : (s.modCdr f).eth = s.eth := (rfl)
@[simp] theorem State.modCdr_can (s : State) (f : ClockDrive → ClockDrive) : (s.modCdr f).can = s.can := (rfl)
@[simp] theorem State.modCdr_uart (s : State) (f : ClockDrive → ClockDrive) : (s.modCdr f).uart = s.uart := (rfl)
@[simp] theorem State.modCdr_dio (s : State) (f : ClockDrive → ClockDrive) : (s.modCdr f).dio = s.dio := (rfl)
@[simp] theorem State.modCdr_sdf (s : State) (f : ClockDrive → ClockDrive) : (s.modCdr f).sdf = s.sdf := (rfl)
@[simp] theorem State.modCdr_hif (s : State) (f : ClockDrive → ClockDrive) : (s.modCdr f).hif = s.hif := (rfl)
@[simp] theorem State.modCdr_alm (s : State) (f : ClockDrive → ClockDrive) : (s.modCdr f).alm = s.alm := (rfl)
@[simp] theorem State.modCdr_mer (s : State) (f : ClockDrive → ClockDrive) : (s.modCdr f).mer = s.mer := (rfl)
@[simp] theorem State.modCdr_pow (s : State) (f : ClockDrive → ClockDrive) : (s.modCdr f).pow = s.pow := (rfl)
@[simp] theorem State.modCdr_ory (s : State) (f : ClockDrive → ClockDrive) : (s.modCdr f).ory = s.ory := (rfl)
@[simp] theorem State.modCdr_ctl (s : State) (f : ClockDrive → ClockDrive) : (s.modCdr f).ctl = s.ctl := (rfl)
@[simp] theorem State.modCdr_eph (s : State) (f : ClockDrive → ClockDrive) : (s.modCdr f).eph = s.eph := (rfl)
@[simp] theorem State.modCdr_boot (s : State) (f : ClockDrive → ClockDrive) : (s.modCdr f).boot = s.boot := (rfl)
@[simp] theorem State.modCdr_freeCtr (s : State) (f : ClockDrive → ClockDrive) : (s.modCdr f).freeCtr = s.freeCtr := (rfl)
@[simp] theorem State.modCdr_pending (s : State) (f : ClockDrive → ClockDrive) : (s.modCdr f).pending = s.pending := (rfl)
@[simp] theorem State.modCdr_rd (s : State) (f : ClockDrive → ClockDrive) (k : Nat) : (s.modCdr f).rd k = s.rd k := (rfl)
@[simp] theorem State.modCdr_fld (s : State) (f : ClockDrive → ClockDrive) (x : Fld) : (s.modCdr f).fld x = s.fld x := (rfl)
@[simp] theorem State.modCdr_on (s : State) (f : ClockDrive → ClockDrive) (x : Fld) : (s.modCdr f).on x = s.on x := (rfl)
@[simp] theorem State.modCdr_now (s : State) (f : ClockDrive → ClockDrive) : (s.modCdr f).now = s.now := (rfl)

/-! modTb changes one part of the state. -/

@[simp] theorem State.modTb_variant (s : State) (f : TimeBase → TimeBase) : (s.modTb f).variant = s.variant := (rfl)
@[simp] theorem State.modTb_station (s : State) (f : TimeBase → TimeBase) : (s.modTb f).station = s.station := (rfl)
@[simp] theorem State.modTb_readData (s : State) (f : TimeBase → TimeBase) : (s.modTb f).readData = s.readData := (rfl)
@[simp] theorem State.modTb_regs (s : State) (f : TimeBase → TimeBase) : (s.modTb f).regs = s.regs := (rfl)
@[simp] theorem State.modTb_mem (s : State) (f : TimeBase → TimeBase) : (s.modTb f).mem = s.mem := (rfl)
@[simp] theorem State.modTb_cdr (s : State) (f : TimeBase → TimeBase) : (s.modTb f).cdr = s.cdr := (rfl)
@[simp] theorem State.modTb_grd (s : State) (f : TimeBase → TimeBase) : (s.modTb f).grd = s.grd := (rfl)
@[simp] theorem State.modTb_fus (s : State) (f : TimeBase → TimeBase) : (s.modTb f).fus = s.fus := (rfl)
@[simp] theorem State.modTb_eff (s : State) (f : TimeBase → TimeBase) : (s.modTb f).eff = s.eff := (rfl)
@[simp] theorem State.modTb_red (s : State) (f : TimeBase → TimeBase) : (s.modTb f).red = s.red := (rfl)
@[simp] theorem State.modTb_xl (s : State) (f : TimeBase → TimeBase) : (s.modTb f).xl = s.xl := (rfl)
@[simp] theorem State.modTb_tb (s : State) (f : TimeBase → TimeBase) : (s.modTb f).tb = f s.tb := (rfl)
@[simp] theorem State.modTb_eth (s : State) (f : TimeBase → TimeBase) : (s.modTb f).eth = s.eth := (rfl)
@[simp] theorem State.modTb_can (s : State) (f : TimeBase → TimeBase) : (s.modTb f).can = s.can := (rfl)
@[simp] theorem State.modTb_uart (s : State) (f : TimeBase → TimeBase) : (s.modTb f).uart = s.uart := (rfl)
@[simp] theorem State.modTb_dio (s : State) (f : TimeBase → TimeBase) : (s.modTb f).dio = s.dio := (rfl)
@[simp] theorem State.modTb_sdf (s : State) (f : TimeBase → TimeBase) : (s.modTb f).sdf = s.sdf := (rfl)
@[simp] theorem State.modTb_hif (s : State) (f : TimeBase → TimeBase) : (s.modTb f).hif = s.hif := (rfl)
@[simp] theorem State.modTb_alm (s : State) (f : TimeBase → TimeBase) : (s.modTb f).alm = s.alm := (rfl)
@[simp] theorem State.modTb_mer (s : State) (f : TimeBase → TimeBase) : (s.modTb f).mer = s.mer := (rfl)
@[simp] theorem State.modTb_pow (s : State) (f : TimeBase → TimeBase) : (s.modTb f).pow = s.pow := (rfl)
@[simp] theorem State.modTb_ory (s : State) (f : TimeBase → TimeBase) : (s.modTb f).ory = s.ory := (rfl)
@[simp] theorem State.modTb_ctl (s : State) (f : TimeBase → TimeBase) : (s.modTb f).ctl = s.ctl := (rfl)
@[simp] theorem State.modTb_eph (s : State) (f : TimeBase → TimeBase) : (s.modTb f).eph = s.eph := (rfl)
@[simp] theorem State.modTb_boot (s : State) (f : TimeBase → TimeBase) : (s.modTb f).boot = s.boot := (rfl)
@[simp] theorem State.modTb_freeCtr (s : State) (f : TimeBase → TimeBase) : (s.modTb f).freeCtr = s.freeCtr := (rfl)
@[simp] theorem State.modTb_pending (s : State) (f : TimeBase → TimeBase) : (s.modTb f).pending = s.pending := (rfl)
@[simp] theorem State.modTb_rd (s : State) (f : TimeBase → TimeBase) (k : Nat) : (s.modTb f).rd k = s.rd k := (rfl)
@[simp] theorem State.modTb_fld (s : State) (f : TimeBase → TimeBase) (x : Fld) : (s.modTb f).fld x = s.fld x := (rfl)
@[simp] theorem State.modTb_on (s : State) (f : TimeBase → TimeBase) (x : Fld) : (s.modTb f).on x = s.on x := (rfl)

/-! modAlm changes one part of the state. -/

@[simp] theorem State.modAlm_variant (s : State) (f : Almanac → Almanac) : (s.modAlm f).variant = s.variant := (rfl)
@[simp] theorem State.modAlm_station (s : State) (f : Almanac → Almanac) : (s.modAlm f).station = s.station := (rfl)
@[simp] theorem State.modAlm_readData (s : State) (f : Almanac → Almanac) : (s.modAlm f).readData = s.readData := (rfl)
@[simp] theorem State.modAlm_regs (s : State) (f : Almanac → Almanac) : (s.modAlm f).regs = s.regs := (rfl)
@[simp] theorem State.modAlm_mem (s : State) (f : Almanac → Almanac) : (s.modAlm f).mem = s.mem := (rfl)
@[simp] theorem State.modAlm_cdr (s : State) (f : Almanac → Almanac) : (s.modAlm f).cdr = s.cdr := (rfl)
@[simp] theorem State.modAlm_grd (s : State) (f : Almanac → Almanac) : (s.modAlm f).grd = s.grd := (rfl)
@[simp] theorem State.modAlm_fus (s : State) (f : Almanac → Almanac) : (s.modAlm f).fus = s.fus := (rfl)
@[simp] theorem State.modAlm_eff (s : State) (f : Almanac → Almanac) : (s.modAlm f).eff = s.eff := (rfl)
@[simp] theorem State.modAlm_red (s : State) (f : Almanac → Almanac) : (s.modAlm f).red = s.red := (rfl)
@[simp] theorem State.modAlm_xl (s : State) (f : Almanac → Almanac) : (s.modAlm f).xl = s.xl := (rfl)
@[simp] theorem State.modAlm_tb (s : State) (f : Almanac → Almanac) : (s.modAlm f).tb = s.tb := (rfl)
@[simp] theorem State.modAlm_eth (s : State) (f : Almanac → Almanac) : (s.modAlm f).eth = s.eth := (rfl)
@[simp] theorem State.modAlm_can (s : State) (f : Almanac → Almanac) : (s.modAlm f).can = s.can := (rfl)
@[simp] theorem State.modAlm_uart (s : State) (f : Almanac → Almanac) : (s.modAlm f).uart = s.uart := (rfl)
@[simp] theorem State.modAlm_dio (s : State) (f : Almanac → Almanac) : (s.modAlm f).dio = s.dio := (rfl)
@[simp] theorem State.modAlm_sdf (s : State) (f : Almanac → Almanac) : (s.modAlm f).sdf = s.sdf := (rfl)
@[simp] theorem State.modAlm_hif (s : State) (f : Almanac → Almanac) : (s.modAlm f).hif = s.hif := (rfl)
@[simp] theorem State.modAlm_alm (s : State) (f : Almanac → Almanac) : (s.modAlm f).alm = f s.alm := (rfl)
@[simp] theorem State.modAlm_mer (s : State) (f : Almanac → Almanac) : (s.modAlm f).mer = s.mer := (rfl)
@[simp] theorem State.modAlm_pow (s : State) (f : Almanac → Almanac) : (s.modAlm f).pow = s.pow := (rfl)
@[simp] theorem State.modAlm_ory (s : State) (f : Almanac → Almanac) : (s.modAlm f).ory = s.ory := (rfl)
@[simp] theorem State.modAlm_ctl (s : State) (f : Almanac → Almanac) : (s.modAlm f).ctl = s.ctl := (rfl)
@[simp] theorem State.modAlm_eph (s : State) (f : Almanac → Almanac) : (s.modAlm f).eph = s.eph := (rfl)
@[simp] theorem State.modAlm_boot (s : State) (f : Almanac → Almanac) : (s.modAlm f).boot = s.boot := (rfl)
@[simp] theorem State.modAlm_freeCtr (s : State) (f : Almanac → Almanac) : (s.modAlm f).freeCtr = s.freeCtr := (rfl)
@[simp] theorem State.modAlm_pending (s : State) (f : Almanac → Almanac) : (s.modAlm f).pending = s.pending := (rfl)
@[simp] theorem State.modAlm_rd (s : State) (f : Almanac → Almanac) (k : Nat) : (s.modAlm f).rd k = s.rd k := (rfl)
@[simp] theorem State.modAlm_fld (s : State) (f : Almanac → Almanac) (x : Fld) : (s.modAlm f).fld x = s.fld x := (rfl)
@[simp] theorem State.modAlm_on (s : State) (f : Almanac → Almanac) (x : Fld) : (s.modAlm f).on x = s.on x := (rfl)
@[simp] theorem State.modAlm_now (s : State) (f : Almanac → Almanac) : (s.modAlm f).now = s.now := (rfl)

/-! modRed changes one part of the state. -/

@[simp] theorem State.modRed_variant (s : State) (f : Rdn → Rdn) : (s.modRed f).variant = s.variant := (rfl)
@[simp] theorem State.modRed_station (s : State) (f : Rdn → Rdn) : (s.modRed f).station = s.station := (rfl)
@[simp] theorem State.modRed_readData (s : State) (f : Rdn → Rdn) : (s.modRed f).readData = s.readData := (rfl)
@[simp] theorem State.modRed_regs (s : State) (f : Rdn → Rdn) : (s.modRed f).regs = s.regs := (rfl)
@[simp] theorem State.modRed_mem (s : State) (f : Rdn → Rdn) : (s.modRed f).mem = s.mem := (rfl)
@[simp] theorem State.modRed_cdr (s : State) (f : Rdn → Rdn) : (s.modRed f).cdr = s.cdr := (rfl)
@[simp] theorem State.modRed_grd (s : State) (f : Rdn → Rdn) : (s.modRed f).grd = s.grd := (rfl)
@[simp] theorem State.modRed_fus (s : State) (f : Rdn → Rdn) : (s.modRed f).fus = s.fus := (rfl)
@[simp] theorem State.modRed_eff (s : State) (f : Rdn → Rdn) : (s.modRed f).eff = s.eff := (rfl)
@[simp] theorem State.modRed_red (s : State) (f : Rdn → Rdn) : (s.modRed f).red = f s.red := (rfl)
@[simp] theorem State.modRed_xl (s : State) (f : Rdn → Rdn) : (s.modRed f).xl = s.xl := (rfl)
@[simp] theorem State.modRed_tb (s : State) (f : Rdn → Rdn) : (s.modRed f).tb = s.tb := (rfl)
@[simp] theorem State.modRed_eth (s : State) (f : Rdn → Rdn) : (s.modRed f).eth = s.eth := (rfl)
@[simp] theorem State.modRed_can (s : State) (f : Rdn → Rdn) : (s.modRed f).can = s.can := (rfl)
@[simp] theorem State.modRed_uart (s : State) (f : Rdn → Rdn) : (s.modRed f).uart = s.uart := (rfl)
@[simp] theorem State.modRed_dio (s : State) (f : Rdn → Rdn) : (s.modRed f).dio = s.dio := (rfl)
@[simp] theorem State.modRed_sdf (s : State) (f : Rdn → Rdn) : (s.modRed f).sdf = s.sdf := (rfl)
@[simp] theorem State.modRed_hif (s : State) (f : Rdn → Rdn) : (s.modRed f).hif = s.hif := (rfl)
@[simp] theorem State.modRed_alm (s : State) (f : Rdn → Rdn) : (s.modRed f).alm = s.alm := (rfl)
@[simp] theorem State.modRed_mer (s : State) (f : Rdn → Rdn) : (s.modRed f).mer = s.mer := (rfl)
@[simp] theorem State.modRed_pow (s : State) (f : Rdn → Rdn) : (s.modRed f).pow = s.pow := (rfl)
@[simp] theorem State.modRed_ory (s : State) (f : Rdn → Rdn) : (s.modRed f).ory = s.ory := (rfl)
@[simp] theorem State.modRed_ctl (s : State) (f : Rdn → Rdn) : (s.modRed f).ctl = s.ctl := (rfl)
@[simp] theorem State.modRed_eph (s : State) (f : Rdn → Rdn) : (s.modRed f).eph = s.eph := (rfl)
@[simp] theorem State.modRed_boot (s : State) (f : Rdn → Rdn) : (s.modRed f).boot = s.boot := (rfl)
@[simp] theorem State.modRed_freeCtr (s : State) (f : Rdn → Rdn) : (s.modRed f).freeCtr = s.freeCtr := (rfl)
@[simp] theorem State.modRed_pending (s : State) (f : Rdn → Rdn) : (s.modRed f).pending = s.pending := (rfl)
@[simp] theorem State.modRed_rd (s : State) (f : Rdn → Rdn) (k : Nat) : (s.modRed f).rd k = s.rd k := (rfl)
@[simp] theorem State.modRed_fld (s : State) (f : Rdn → Rdn) (x : Fld) : (s.modRed f).fld x = s.fld x := (rfl)
@[simp] theorem State.modRed_on (s : State) (f : Rdn → Rdn) (x : Fld) : (s.modRed f).on x = s.on x := (rfl)
@[simp] theorem State.modRed_now (s : State) (f : Rdn → Rdn) : (s.modRed f).now = s.now := (rfl)

/-! modChain changes one part of the state. -/

@[simp] theorem State.modChain_variant (s : State) (c : Nat) (f : Chain → Chain) : (s.modChain c f).variant = s.variant := (rfl)
@[simp] theorem State.modChain_station (s : State) (c : Nat) (f : Chain → Chain) : (s.modChain c f).station = s.station := (rfl)
@[simp] theorem State.modChain_readData (s : State) (c : Nat) (f : Chain → Chain) : (s.modChain c f).readData = s.readData := (rfl)
@[simp] theorem State.modChain_regs (s : State) (c : Nat) (f : Chain → Chain) : (s.modChain c f).regs = s.regs := (rfl)
@[simp] theorem State.modChain_mem (s : State) (c : Nat) (f : Chain → Chain) : (s.modChain c f).mem = s.mem := (rfl)
@[simp] theorem State.modChain_cdr (s : State) (c : Nat) (f : Chain → Chain) : (s.modChain c f).cdr = s.cdr := (rfl)
@[simp] theorem State.modChain_grd (s : State) (c : Nat) (f : Chain → Chain) : (s.modChain c f).grd = s.grd := (rfl)
@[simp] theorem State.modChain_fus (s : State) (c : Nat) (f : Chain → Chain) : (s.modChain c f).fus = s.fus := (rfl)
@[simp] theorem State.modChain_eff (s : State) (c : Nat) (f : Chain → Chain) : (s.modChain c f).eff = s.eff := (rfl)
@[simp] theorem State.modChain_red (s : State) (c : Nat) (f : Chain → Chain) : (s.modChain c f).red = s.red := (rfl)
@[simp] theorem State.modChain_xl (s : State) (c : Nat) (f : Chain → Chain) : (s.modChain c f).xl = s.xl := (rfl)
@[simp] theorem State.modChain_tb (s : State) (c : Nat) (f : Chain → Chain) : (s.modChain c f).tb = s.tb := (rfl)
@[simp] theorem State.modChain_eth (s : State) (c : Nat) (f : Chain → Chain) : (s.modChain c f).eth = s.eth := (rfl)
@[simp] theorem State.modChain_can (s : State) (c : Nat) (f : Chain → Chain) : (s.modChain c f).can = s.can := (rfl)
@[simp] theorem State.modChain_uart (s : State) (c : Nat) (f : Chain → Chain) : (s.modChain c f).uart = s.uart := (rfl)
@[simp] theorem State.modChain_dio (s : State) (c : Nat) (f : Chain → Chain) : (s.modChain c f).dio = s.dio := (rfl)
@[simp] theorem State.modChain_sdf (s : State) (c : Nat) (f : Chain → Chain) : (s.modChain c f).sdf = modAt s.sdf c f := (rfl)
@[simp] theorem State.modChain_hif (s : State) (c : Nat) (f : Chain → Chain) : (s.modChain c f).hif = s.hif := (rfl)
@[simp] theorem State.modChain_alm (s : State) (c : Nat) (f : Chain → Chain) : (s.modChain c f).alm = s.alm := (rfl)
@[simp] theorem State.modChain_mer (s : State) (c : Nat) (f : Chain → Chain) : (s.modChain c f).mer = s.mer := (rfl)
@[simp] theorem State.modChain_pow (s : State) (c : Nat) (f : Chain → Chain) : (s.modChain c f).pow = s.pow := (rfl)
@[simp] theorem State.modChain_ory (s : State) (c : Nat) (f : Chain → Chain) : (s.modChain c f).ory = s.ory := (rfl)
@[simp] theorem State.modChain_ctl (s : State) (c : Nat) (f : Chain → Chain) : (s.modChain c f).ctl = s.ctl := (rfl)
@[simp] theorem State.modChain_eph (s : State) (c : Nat) (f : Chain → Chain) : (s.modChain c f).eph = s.eph := (rfl)
@[simp] theorem State.modChain_boot (s : State) (c : Nat) (f : Chain → Chain) : (s.modChain c f).boot = s.boot := (rfl)
@[simp] theorem State.modChain_freeCtr (s : State) (c : Nat) (f : Chain → Chain) : (s.modChain c f).freeCtr = s.freeCtr := (rfl)
@[simp] theorem State.modChain_pending (s : State) (c : Nat) (f : Chain → Chain) : (s.modChain c f).pending = s.pending := (rfl)
@[simp] theorem State.modChain_rd (s : State) (c : Nat) (f : Chain → Chain) (k : Nat) : (s.modChain c f).rd k = s.rd k := (rfl)
@[simp] theorem State.modChain_fld (s : State) (c : Nat) (f : Chain → Chain) (x : Fld) : (s.modChain c f).fld x = s.fld x := (rfl)
@[simp] theorem State.modChain_on (s : State) (c : Nat) (f : Chain → Chain) (x : Fld) : (s.modChain c f).on x = s.on x := (rfl)
@[simp] theorem State.modChain_now (s : State) (c : Nat) (f : Chain → Chain) : (s.modChain c f).now = s.now := (rfl)

/-! modUart changes one part of the state. -/

@[simp] theorem State.modUart_variant (s : State) (u : Nat) (f : Uart → Uart) : (s.modUart u f).variant = s.variant := (rfl)
@[simp] theorem State.modUart_station (s : State) (u : Nat) (f : Uart → Uart) : (s.modUart u f).station = s.station := (rfl)
@[simp] theorem State.modUart_readData (s : State) (u : Nat) (f : Uart → Uart) : (s.modUart u f).readData = s.readData := (rfl)
@[simp] theorem State.modUart_regs (s : State) (u : Nat) (f : Uart → Uart) : (s.modUart u f).regs = s.regs := (rfl)
@[simp] theorem State.modUart_mem (s : State) (u : Nat) (f : Uart → Uart) : (s.modUart u f).mem = s.mem := (rfl)
@[simp] theorem State.modUart_cdr (s : State) (u : Nat) (f : Uart → Uart) : (s.modUart u f).cdr = s.cdr := (rfl)
@[simp] theorem State.modUart_grd (s : State) (u : Nat) (f : Uart → Uart) : (s.modUart u f).grd = s.grd := (rfl)
@[simp] theorem State.modUart_fus (s : State) (u : Nat) (f : Uart → Uart) : (s.modUart u f).fus = s.fus := (rfl)
@[simp] theorem State.modUart_eff (s : State) (u : Nat) (f : Uart → Uart) : (s.modUart u f).eff = s.eff := (rfl)
@[simp] theorem State.modUart_red (s : State) (u : Nat) (f : Uart → Uart) : (s.modUart u f).red = s.red := (rfl)
@[simp] theorem State.modUart_xl (s : State) (u : Nat) (f : Uart → Uart) : (s.modUart u f).xl = s.xl := (rfl)
@[simp] theorem State.modUart_tb (s : State) (u : Nat) (f : Uart → Uart) : (s.modUart u f).tb = s.tb := (rfl)
@[simp] theorem State.modUart_eth (s : State) (u : Nat) (f : Uart → Uart) : (s.modUart u f).eth = s.eth := (rfl)
@[simp] theorem State.modUart_can (s : State) (u : Nat) (f : Uart → Uart) : (s.modUart u f).can = s.can := (rfl)
@[simp] theorem State.modUart_uart (s : State) (u : Nat) (f : Uart → Uart) : (s.modUart u f).uart = modAt s.uart u f := (rfl)
@[simp] theorem State.modUart_dio (s : State) (u : Nat) (f : Uart → Uart) : (s.modUart u f).dio = s.dio := (rfl)
@[simp] theorem State.modUart_sdf (s : State) (u : Nat) (f : Uart → Uart) : (s.modUart u f).sdf = s.sdf := (rfl)
@[simp] theorem State.modUart_hif (s : State) (u : Nat) (f : Uart → Uart) : (s.modUart u f).hif = s.hif := (rfl)
@[simp] theorem State.modUart_alm (s : State) (u : Nat) (f : Uart → Uart) : (s.modUart u f).alm = s.alm := (rfl)
@[simp] theorem State.modUart_mer (s : State) (u : Nat) (f : Uart → Uart) : (s.modUart u f).mer = s.mer := (rfl)
@[simp] theorem State.modUart_pow (s : State) (u : Nat) (f : Uart → Uart) : (s.modUart u f).pow = s.pow := (rfl)
@[simp] theorem State.modUart_ory (s : State) (u : Nat) (f : Uart → Uart) : (s.modUart u f).ory = s.ory := (rfl)
@[simp] theorem State.modUart_ctl (s : State) (u : Nat) (f : Uart → Uart) : (s.modUart u f).ctl = s.ctl := (rfl)
@[simp] theorem State.modUart_eph (s : State) (u : Nat) (f : Uart → Uart) : (s.modUart u f).eph = s.eph := (rfl)
@[simp] theorem State.modUart_boot (s : State) (u : Nat) (f : Uart → Uart) : (s.modUart u f).boot = s.boot := (rfl)
@[simp] theorem State.modUart_freeCtr (s : State) (u : Nat) (f : Uart → Uart) : (s.modUart u f).freeCtr = s.freeCtr := (rfl)
@[simp] theorem State.modUart_pending (s : State) (u : Nat) (f : Uart → Uart) : (s.modUart u f).pending = s.pending := (rfl)
@[simp] theorem State.modUart_rd (s : State) (u : Nat) (f : Uart → Uart) (k : Nat) : (s.modUart u f).rd k = s.rd k := (rfl)
@[simp] theorem State.modUart_fld (s : State) (u : Nat) (f : Uart → Uart) (x : Fld) : (s.modUart u f).fld x = s.fld x := (rfl)
@[simp] theorem State.modUart_on (s : State) (u : Nat) (f : Uart → Uart) (x : Fld) : (s.modUart u f).on x = s.on x := (rfl)
@[simp] theorem State.modUart_now (s : State) (u : Nat) (f : Uart → Uart) : (s.modUart u f).now = s.now := (rfl)

/-! modBoot changes one part of the state. -/

@[simp] theorem State.modBoot_variant (s : State) (f : Boot → Boot) : (s.modBoot f).variant = s.variant := (rfl)
@[simp] theorem State.modBoot_station (s : State) (f : Boot → Boot) : (s.modBoot f).station = s.station := (rfl)
@[simp] theorem State.modBoot_readData (s : State) (f : Boot → Boot) : (s.modBoot f).readData = s.readData := (rfl)
@[simp] theorem State.modBoot_regs (s : State) (f : Boot → Boot) : (s.modBoot f).regs = s.regs := (rfl)
@[simp] theorem State.modBoot_mem (s : State) (f : Boot → Boot) : (s.modBoot f).mem = s.mem := (rfl)
@[simp] theorem State.modBoot_cdr (s : State) (f : Boot → Boot) : (s.modBoot f).cdr = s.cdr := (rfl)
@[simp] theorem State.modBoot_grd (s : State) (f : Boot → Boot) : (s.modBoot f).grd = s.grd := (rfl)
@[simp] theorem State.modBoot_fus (s : State) (f : Boot → Boot) : (s.modBoot f).fus = s.fus := (rfl)
@[simp] theorem State.modBoot_eff (s : State) (f : Boot → Boot) : (s.modBoot f).eff = s.eff := (rfl)
@[simp] theorem State.modBoot_red (s : State) (f : Boot → Boot) : (s.modBoot f).red = s.red := (rfl)
@[simp] theorem State.modBoot_xl (s : State) (f : Boot → Boot) : (s.modBoot f).xl = s.xl := (rfl)
@[simp] theorem State.modBoot_tb (s : State) (f : Boot → Boot) : (s.modBoot f).tb = s.tb := (rfl)
@[simp] theorem State.modBoot_eth (s : State) (f : Boot → Boot) : (s.modBoot f).eth = s.eth := (rfl)
@[simp] theorem State.modBoot_can (s : State) (f : Boot → Boot) : (s.modBoot f).can = s.can := (rfl)
@[simp] theorem State.modBoot_uart (s : State) (f : Boot → Boot) : (s.modBoot f).uart = s.uart := (rfl)
@[simp] theorem State.modBoot_dio (s : State) (f : Boot → Boot) : (s.modBoot f).dio = s.dio := (rfl)
@[simp] theorem State.modBoot_sdf (s : State) (f : Boot → Boot) : (s.modBoot f).sdf = s.sdf := (rfl)
@[simp] theorem State.modBoot_hif (s : State) (f : Boot → Boot) : (s.modBoot f).hif = s.hif := (rfl)
@[simp] theorem State.modBoot_alm (s : State) (f : Boot → Boot) : (s.modBoot f).alm = s.alm := (rfl)
@[simp] theorem State.modBoot_mer (s : State) (f : Boot → Boot) : (s.modBoot f).mer = s.mer := (rfl)
@[simp] theorem State.modBoot_pow (s : State) (f : Boot → Boot) : (s.modBoot f).pow = s.pow := (rfl)
@[simp] theorem State.modBoot_ory (s : State) (f : Boot → Boot) : (s.modBoot f).ory = s.ory := (rfl)
@[simp] theorem State.modBoot_ctl (s : State) (f : Boot → Boot) : (s.modBoot f).ctl = s.ctl := (rfl)
@[simp] theorem State.modBoot_eph (s : State) (f : Boot → Boot) : (s.modBoot f).eph = s.eph := (rfl)
@[simp] theorem State.modBoot_boot (s : State) (f : Boot → Boot) : (s.modBoot f).boot = f s.boot := (rfl)
@[simp] theorem State.modBoot_freeCtr (s : State) (f : Boot → Boot) : (s.modBoot f).freeCtr = s.freeCtr := (rfl)
@[simp] theorem State.modBoot_pending (s : State) (f : Boot → Boot) : (s.modBoot f).pending = s.pending := (rfl)
@[simp] theorem State.modBoot_rd (s : State) (f : Boot → Boot) (k : Nat) : (s.modBoot f).rd k = s.rd k := (rfl)
@[simp] theorem State.modBoot_fld (s : State) (f : Boot → Boot) (x : Fld) : (s.modBoot f).fld x = s.fld x := (rfl)
@[simp] theorem State.modBoot_on (s : State) (f : Boot → Boot) (x : Fld) : (s.modBoot f).on x = s.on x := (rfl)
@[simp] theorem State.modBoot_now (s : State) (f : Boot → Boot) : (s.modBoot f).now = s.now := (rfl)

/-! modXl changes one part of the state. -/

@[simp] theorem State.modXl_variant (s : State) (f : Xl → Xl) : (s.modXl f).variant = s.variant := (rfl)
@[simp] theorem State.modXl_station (s : State) (f : Xl → Xl) : (s.modXl f).station = s.station := (rfl)
@[simp] theorem State.modXl_readData (s : State) (f : Xl → Xl) : (s.modXl f).readData = s.readData := (rfl)
@[simp] theorem State.modXl_regs (s : State) (f : Xl → Xl) : (s.modXl f).regs = s.regs := (rfl)
@[simp] theorem State.modXl_mem (s : State) (f : Xl → Xl) : (s.modXl f).mem = s.mem := (rfl)
@[simp] theorem State.modXl_cdr (s : State) (f : Xl → Xl) : (s.modXl f).cdr = s.cdr := (rfl)
@[simp] theorem State.modXl_grd (s : State) (f : Xl → Xl) : (s.modXl f).grd = s.grd := (rfl)
@[simp] theorem State.modXl_fus (s : State) (f : Xl → Xl) : (s.modXl f).fus = s.fus := (rfl)
@[simp] theorem State.modXl_eff (s : State) (f : Xl → Xl) : (s.modXl f).eff = s.eff := (rfl)
@[simp] theorem State.modXl_red (s : State) (f : Xl → Xl) : (s.modXl f).red = s.red := (rfl)
@[simp] theorem State.modXl_xl (s : State) (f : Xl → Xl) : (s.modXl f).xl = f s.xl := (rfl)
@[simp] theorem State.modXl_tb (s : State) (f : Xl → Xl) : (s.modXl f).tb = s.tb := (rfl)
@[simp] theorem State.modXl_eth (s : State) (f : Xl → Xl) : (s.modXl f).eth = s.eth := (rfl)
@[simp] theorem State.modXl_can (s : State) (f : Xl → Xl) : (s.modXl f).can = s.can := (rfl)
@[simp] theorem State.modXl_uart (s : State) (f : Xl → Xl) : (s.modXl f).uart = s.uart := (rfl)
@[simp] theorem State.modXl_dio (s : State) (f : Xl → Xl) : (s.modXl f).dio = s.dio := (rfl)
@[simp] theorem State.modXl_sdf (s : State) (f : Xl → Xl) : (s.modXl f).sdf = s.sdf := (rfl)
@[simp] theorem State.modXl_hif (s : State) (f : Xl → Xl) : (s.modXl f).hif = s.hif := (rfl)
@[simp] theorem State.modXl_alm (s : State) (f : Xl → Xl) : (s.modXl f).alm = s.alm := (rfl)
@[simp] theorem State.modXl_mer (s : State) (f : Xl → Xl) : (s.modXl f).mer = s.mer := (rfl)
@[simp] theorem State.modXl_pow (s : State) (f : Xl → Xl) : (s.modXl f).pow = s.pow := (rfl)
@[simp] theorem State.modXl_ory (s : State) (f : Xl → Xl) : (s.modXl f).ory = s.ory := (rfl)
@[simp] theorem State.modXl_ctl (s : State) (f : Xl → Xl) : (s.modXl f).ctl = s.ctl := (rfl)
@[simp] theorem State.modXl_eph (s : State) (f : Xl → Xl) : (s.modXl f).eph = s.eph := (rfl)
@[simp] theorem State.modXl_boot (s : State) (f : Xl → Xl) : (s.modXl f).boot = s.boot := (rfl)
@[simp] theorem State.modXl_freeCtr (s : State) (f : Xl → Xl) : (s.modXl f).freeCtr = s.freeCtr := (rfl)
@[simp] theorem State.modXl_pending (s : State) (f : Xl → Xl) : (s.modXl f).pending = s.pending := (rfl)
@[simp] theorem State.modXl_rd (s : State) (f : Xl → Xl) (k : Nat) : (s.modXl f).rd k = s.rd k := (rfl)
@[simp] theorem State.modXl_fld (s : State) (f : Xl → Xl) (x : Fld) : (s.modXl f).fld x = s.fld x := (rfl)
@[simp] theorem State.modXl_on (s : State) (f : Xl → Xl) (x : Fld) : (s.modXl f).on x = s.on x := (rfl)
@[simp] theorem State.modXl_now (s : State) (f : Xl → Xl) : (s.modXl f).now = s.now := (rfl)

end Sys2Proof.Machine
end

