-- ==== Sys2Proof/Laws/Ops.lean ====
section
/-! SUPPORT. What the shared operations of Machine/Ops.lean answer: a register or a field reads what was written to it, and an
event changes no other register. -/

namespace Sys2Proof.Machine

/-- The register map's canonical form. -/
theorem State.canonical_regs {s : State} (h : s.canonical = true) : swf regReset s.regs = true := by
  simp only [State.canonical, Bool.and_eq_true] at h
  exact h.1.1

/-- No bit is fused off outside the host interface and the Orrery (R2). -/
theorem fusedMask_zero (v : Variant) {k : Nat} (h : k / 0x10000 ≠ 0x12) (g : k / 0x10000 ≠ 7) : fusedMask v k = 0 := by
  cases v
  · rfl
  · simp only [fusedMask, if_neg h]
    have n : ∀ j, j / 0x10000 = 7 → k ≠ j := fun j e c => g (c ▸ e)
    rw [if_neg (n _ (by decide)), if_neg (n _ (by decide)), if_neg (n _ (by decide)), if_neg (n _ (by decide)), if_neg (by omega)]

/-- No bit is fused off in the HXZ9410-CI (R2). -/
@[simp] theorem fusedMask_ci (k : Nat) : fusedMask .ci k = 0 := rfl

/-- A register reads what was written to it. -/
theorem State.rd_wr_same {s : State} (h : swf regReset s.regs = true) {k : Nat} (g : fusedMask s.variant k = 0) (w : Word) :
    (s.wr k w).rd k = w := by
  have z (x : Word) : (w &&& ~~~0#32) ||| (x &&& 0#32) = w := by
    rw [BitVec.and_zero, BitVec.or_zero, BitVec.not_zero, BitVec.and_allOnes]
  simp only [State.wr, g, State.rd, sget_sset_same h]
  exact z _

/-- Another register reads as before. -/
theorem State.rd_wr_ne (s : State) {k j : Nat} (h : j ≠ k) (w : Word) : (s.wr k w).rd j = s.rd j := sget_sset_ne h _ _

/-- A number written to a register. -/
theorem State.rdn_wrn_same {s : State} (h : swf regReset s.regs = true) {k : Nat} (g : fusedMask s.variant k = 0) (v : Nat) :
    (s.wrn k v).rdn k = v % 2 ^ 32 := by simp [State.wrn, State.rdn, State.rd_wr_same h g]

theorem State.rdn_wrn_ne (s : State) {k j : Nat} (h : j ≠ k) (v : Nat) : (s.wrn k v).rdn j = s.rdn j := by
  simp [State.wrn, State.rdn, State.rd_wr_ne s h]

/-- A field of another register reads as before. -/
theorem State.fld_wrn_ne (s : State) {k : Nat} {f : Fld} (h : f.off ≠ k) (v : Nat) : (s.wrn k v).fld f = s.fld f := by
  simp [State.fld, State.rdn_wrn_ne s h]

/-- A field reads what was written to it. -/
theorem State.fld_put_same {s : State} (h : swf regReset s.regs = true) {f : Fld} (g : fusedMask s.variant f.off = 0)
    (lh : f.lo ≤ f.hi) (hi : f.hi < 32) (v : Nat) : (s.put f v).fld f = v % 2 ^ (f.hi + 1 - f.lo) := by
  unfold State.put State.fld
  rw [State.rdn_wrn_same h g, Nat.mod_eq_of_lt (putBits_lt lh hi (by unfold State.rdn; exact (s.rd _).isLt) v),
    bitsOf_putBits_same lh]

/-- A field of another register reads as before. -/
theorem State.fld_put_ne (s : State) {f g : Fld} (h : g.off ≠ f.off) (v : Nat) : (s.put f v).fld g = s.fld g := by
  unfold State.put; exact State.fld_wrn_ne s h _

/-- Another field of the same register reads as before. -/
theorem State.fld_put_beside {s : State} (h : swf regReset s.regs = true) {f g : Fld} (o : g.off = f.off)
    (m : fusedMask s.variant f.off = 0) (lh : f.lo ≤ f.hi) (hi : f.hi < 32) (d : g.hi < f.lo ∨ f.hi < g.lo) (v : Nat) :
    (s.put f v).fld g = s.fld g := by
  unfold State.put State.fld
  rw [o, State.rdn_wrn_same h m, Nat.mod_eq_of_lt (putBits_lt lh hi (by unfold State.rdn; exact (s.rd _).isLt) v),
    bitsOf_putBits_ne lh _ _ d]

/-- A flag reads what was written to it. -/
theorem State.on_setTo_same {s : State} (h : swf regReset s.regs = true) {f : Fld} (g : fusedMask s.variant f.off = 0)
    (e : f.hi = f.lo) (hi : f.hi < 32) (b : Bool) : (s.setTo f b).on f = b := by
  unfold State.on State.setTo
  rw [State.fld_put_same h g (by omega) hi, e]
  have : f.lo + 1 - f.lo = 1 := by omega
  rw [this]; cases b <;> rfl

/-- A field the operation's parts leave out reads as before. -/
theorem Effect.fld {m : Nat} {s t : State} (h : Effect m s t) (f : Fld) (b : m.testBit (f.off / 0x10000 % 32) = false) :
    t.fld f = s.fld f := h.within.fld f b

/-- The canonical form is kept. -/
theorem Effect.canonical {m : Nat} {s t : State} (h : Effect m s t) (c : s.canonical = true) : t.canonical = true :=
  h.kept.canonical c

/-- What raising an event changes: the event registers and the Almanac. -/
theorem State.raise3_event (s : State) (n sev src : Nat) (p0 p1 p2 : Word) :
    Effect (parts evParts) s (s.raise3 n sev src p0 p1 p2) := State.raise3_effect _ _ _ _ _ _ _ (by decide) (.refl _ s)

theorem State.raise2_event (s : State) (n sev src p0 p1 : Nat) : Effect (parts evParts) s (s.raise2 n sev src p0 p1) :=
  State.raise3_event _ _ _ _ _ _ _

theorem State.raise1_event (s : State) (n sev src p0 : Nat) : Effect (parts evParts) s (s.raise1 n sev src p0) :=
  State.raise3_event _ _ _ _ _ _ _

theorem State.raise_event (s : State) (n sev src : Nat) : Effect (parts evParts) s (s.raise n sev src) :=
  State.raise3_event _ _ _ _ _ _ _

/-- A field outside the event registers and the Almanac. -/
theorem State.fld_raise3 (s : State) (n sev src : Nat) (p0 p1 p2 : Word) {f : Fld}
    (h : (parts evParts).testBit (f.off / 0x10000 % 32) = false) : (s.raise3 n sev src p0 p1 p2).fld f = s.fld f :=
  (State.raise3_event s n sev src p0 p1 p2).fld f h

@[simp] theorem State.raise3_variant (s : State) (n sev src : Nat) (p0 p1 p2 : Word) : (s.raise3 n sev src p0 p1 p2).variant = s.variant :=
  (State.raise3_event s n sev src p0 p1 p2).kept.variant
@[simp] theorem State.raise3_station (s : State) (n sev src : Nat) (p0 p1 p2 : Word) : (s.raise3 n sev src p0 p1 p2).station = s.station :=
  (State.raise3_event s n sev src p0 p1 p2).within.station (by decide)
@[simp] theorem State.raise3_readData (s : State) (n sev src : Nat) (p0 p1 p2 : Word) : (s.raise3 n sev src p0 p1 p2).readData = s.readData :=
  (State.raise3_event s n sev src p0 p1 p2).within.readData (by decide)
@[simp] theorem State.raise3_cdr (s : State) (n sev src : Nat) (p0 p1 p2 : Word) : (s.raise3 n sev src p0 p1 p2).cdr = s.cdr :=
  (State.raise3_event s n sev src p0 p1 p2).within.cdr (by decide)
@[simp] theorem State.raise3_grd (s : State) (n sev src : Nat) (p0 p1 p2 : Word) : (s.raise3 n sev src p0 p1 p2).grd = s.grd :=
  (State.raise3_event s n sev src p0 p1 p2).within.grd (by decide)
@[simp] theorem State.raise3_fus (s : State) (n sev src : Nat) (p0 p1 p2 : Word) : (s.raise3 n sev src p0 p1 p2).fus = s.fus :=
  (State.raise3_event s n sev src p0 p1 p2).within.fus (by decide)
@[simp] theorem State.raise3_eff (s : State) (n sev src : Nat) (p0 p1 p2 : Word) : (s.raise3 n sev src p0 p1 p2).eff = s.eff :=
  (State.raise3_event s n sev src p0 p1 p2).within.eff (by decide)
@[simp] theorem State.raise3_red (s : State) (n sev src : Nat) (p0 p1 p2 : Word) : (s.raise3 n sev src p0 p1 p2).red = s.red :=
  (State.raise3_event s n sev src p0 p1 p2).within.red (by decide)
@[simp] theorem State.raise3_xl (s : State) (n sev src : Nat) (p0 p1 p2 : Word) : (s.raise3 n sev src p0 p1 p2).xl = s.xl :=
  (State.raise3_event s n sev src p0 p1 p2).within.xl (by decide)
@[simp] theorem State.raise3_tb (s : State) (n sev src : Nat) (p0 p1 p2 : Word) : (s.raise3 n sev src p0 p1 p2).tb = s.tb :=
  (State.raise3_event s n sev src p0 p1 p2).within.tb (by decide)
@[simp] theorem State.raise3_now (s : State) (n sev src : Nat) (p0 p1 p2 : Word) : (s.raise3 n sev src p0 p1 p2).now = s.now := by
  simp only [State.now, State.raise3_tb]
@[simp] theorem State.raise3_eth (s : State) (n sev src : Nat) (p0 p1 p2 : Word) : (s.raise3 n sev src p0 p1 p2).eth = s.eth :=
  (State.raise3_event s n sev src p0 p1 p2).within.eth (by decide)
@[simp] theorem State.raise3_can (s : State) (n sev src : Nat) (p0 p1 p2 : Word) : (s.raise3 n sev src p0 p1 p2).can = s.can :=
  (State.raise3_event s n sev src p0 p1 p2).within.can (by decide)
@[simp] theorem State.raise3_uart (s : State) (n sev src : Nat) (p0 p1 p2 : Word) : (s.raise3 n sev src p0 p1 p2).uart = s.uart :=
  (State.raise3_event s n sev src p0 p1 p2).within.uart (by decide)
@[simp] theorem State.raise3_dio (s : State) (n sev src : Nat) (p0 p1 p2 : Word) : (s.raise3 n sev src p0 p1 p2).dio = s.dio :=
  (State.raise3_event s n sev src p0 p1 p2).within.dio (by decide)
@[simp] theorem State.raise3_sdf (s : State) (n sev src : Nat) (p0 p1 p2 : Word) : (s.raise3 n sev src p0 p1 p2).sdf = s.sdf :=
  (State.raise3_event s n sev src p0 p1 p2).within.sdf (by decide)
@[simp] theorem State.raise3_mer (s : State) (n sev src : Nat) (p0 p1 p2 : Word) : (s.raise3 n sev src p0 p1 p2).mer = s.mer :=
  (State.raise3_event s n sev src p0 p1 p2).within.mer (by decide)
@[simp] theorem State.raise3_pow (s : State) (n sev src : Nat) (p0 p1 p2 : Word) : (s.raise3 n sev src p0 p1 p2).pow = s.pow :=
  (State.raise3_event s n sev src p0 p1 p2).within.pow (by decide)
@[simp] theorem State.raise3_ory (s : State) (n sev src : Nat) (p0 p1 p2 : Word) : (s.raise3 n sev src p0 p1 p2).ory = s.ory :=
  (State.raise3_event s n sev src p0 p1 p2).within.ory (by decide)
@[simp] theorem State.raise3_ctl (s : State) (n sev src : Nat) (p0 p1 p2 : Word) : (s.raise3 n sev src p0 p1 p2).ctl = s.ctl :=
  (State.raise3_event s n sev src p0 p1 p2).within.ctl (by decide)
@[simp] theorem State.raise3_eph (s : State) (n sev src : Nat) (p0 p1 p2 : Word) : (s.raise3 n sev src p0 p1 p2).eph = s.eph :=
  (State.raise3_event s n sev src p0 p1 p2).within.eph (by decide)
@[simp] theorem State.raise3_boot (s : State) (n sev src : Nat) (p0 p1 p2 : Word) : (s.raise3 n sev src p0 p1 p2).boot = s.boot :=
  (State.raise3_event s n sev src p0 p1 p2).within.boot (by decide)
@[simp] theorem State.raise3_freeCtr (s : State) (n sev src : Nat) (p0 p1 p2 : Word) : (s.raise3 n sev src p0 p1 p2).freeCtr = s.freeCtr :=
  (State.raise3_event s n sev src p0 p1 p2).within.freeCtr (by decide)

/-- A field outside the event registers and the Almanac. -/
theorem State.fld_raise2 (s : State) (n sev src : Nat) (p0 p1 : Nat) {f : Fld}
    (h : (parts evParts).testBit (f.off / 0x10000 % 32) = false) : (s.raise2 n sev src p0 p1).fld f = s.fld f :=
  (State.raise2_event s n sev src p0 p1).fld f h

@[simp] theorem State.raise2_variant (s : State) (n sev src : Nat) (p0 p1 : Nat) : (s.raise2 n sev src p0 p1).variant = s.variant :=
  (State.raise2_event s n sev src p0 p1).kept.variant
@[simp] theorem State.raise2_station (s : State) (n sev src : Nat) (p0 p1 : Nat) : (s.raise2 n sev src p0 p1).station = s.station :=
  (State.raise2_event s n sev src p0 p1).within.station (by decide)
@[simp] theorem State.raise2_readData (s : State) (n sev src : Nat) (p0 p1 : Nat) : (s.raise2 n sev src p0 p1).readData = s.readData :=
  (State.raise2_event s n sev src p0 p1).within.readData (by decide)
@[simp] theorem State.raise2_cdr (s : State) (n sev src : Nat) (p0 p1 : Nat) : (s.raise2 n sev src p0 p1).cdr = s.cdr :=
  (State.raise2_event s n sev src p0 p1).within.cdr (by decide)
@[simp] theorem State.raise2_grd (s : State) (n sev src : Nat) (p0 p1 : Nat) : (s.raise2 n sev src p0 p1).grd = s.grd :=
  (State.raise2_event s n sev src p0 p1).within.grd (by decide)
@[simp] theorem State.raise2_fus (s : State) (n sev src : Nat) (p0 p1 : Nat) : (s.raise2 n sev src p0 p1).fus = s.fus :=
  (State.raise2_event s n sev src p0 p1).within.fus (by decide)
@[simp] theorem State.raise2_eff (s : State) (n sev src : Nat) (p0 p1 : Nat) : (s.raise2 n sev src p0 p1).eff = s.eff :=
  (State.raise2_event s n sev src p0 p1).within.eff (by decide)
@[simp] theorem State.raise2_red (s : State) (n sev src : Nat) (p0 p1 : Nat) : (s.raise2 n sev src p0 p1).red = s.red :=
  (State.raise2_event s n sev src p0 p1).within.red (by decide)
@[simp] theorem State.raise2_xl (s : State) (n sev src : Nat) (p0 p1 : Nat) : (s.raise2 n sev src p0 p1).xl = s.xl :=
  (State.raise2_event s n sev src p0 p1).within.xl (by decide)
@[simp] theorem State.raise2_tb (s : State) (n sev src : Nat) (p0 p1 : Nat) : (s.raise2 n sev src p0 p1).tb = s.tb :=
  (State.raise2_event s n sev src p0 p1).within.tb (by decide)
@[simp] theorem State.raise2_now (s : State) (n sev src : Nat) (p0 p1 : Nat) : (s.raise2 n sev src p0 p1).now = s.now := by
  simp only [State.now, State.raise2_tb]
@[simp] theorem State.raise2_eth (s : State) (n sev src : Nat) (p0 p1 : Nat) : (s.raise2 n sev src p0 p1).eth = s.eth :=
  (State.raise2_event s n sev src p0 p1).within.eth (by decide)
@[simp] theorem State.raise2_can (s : State) (n sev src : Nat) (p0 p1 : Nat) : (s.raise2 n sev src p0 p1).can = s.can :=
  (State.raise2_event s n sev src p0 p1).within.can (by decide)
@[simp] theorem State.raise2_uart (s : State) (n sev src : Nat) (p0 p1 : Nat) : (s.raise2 n sev src p0 p1).uart = s.uart :=
  (State.raise2_event s n sev src p0 p1).within.uart (by decide)
@[simp] theorem State.raise2_dio (s : State) (n sev src : Nat) (p0 p1 : Nat) : (s.raise2 n sev src p0 p1).dio = s.dio :=
  (State.raise2_event s n sev src p0 p1).within.dio (by decide)
@[simp] theorem State.raise2_sdf (s : State) (n sev src : Nat) (p0 p1 : Nat) : (s.raise2 n sev src p0 p1).sdf = s.sdf :=
  (State.raise2_event s n sev src p0 p1).within.sdf (by decide)
@[simp] theorem State.raise2_mer (s : State) (n sev src : Nat) (p0 p1 : Nat) : (s.raise2 n sev src p0 p1).mer = s.mer :=
  (State.raise2_event s n sev src p0 p1).within.mer (by decide)
@[simp] theorem State.raise2_pow (s : State) (n sev src : Nat) (p0 p1 : Nat) : (s.raise2 n sev src p0 p1).pow = s.pow :=
  (State.raise2_event s n sev src p0 p1).within.pow (by decide)
@[simp] theorem State.raise2_ory (s : State) (n sev src : Nat) (p0 p1 : Nat) : (s.raise2 n sev src p0 p1).ory = s.ory :=
  (State.raise2_event s n sev src p0 p1).within.ory (by decide)
@[simp] theorem State.raise2_ctl (s : State) (n sev src : Nat) (p0 p1 : Nat) : (s.raise2 n sev src p0 p1).ctl = s.ctl :=
  (State.raise2_event s n sev src p0 p1).within.ctl (by decide)
@[simp] theorem State.raise2_eph (s : State) (n sev src : Nat) (p0 p1 : Nat) : (s.raise2 n sev src p0 p1).eph = s.eph :=
  (State.raise2_event s n sev src p0 p1).within.eph (by decide)
@[simp] theorem State.raise2_boot (s : State) (n sev src : Nat) (p0 p1 : Nat) : (s.raise2 n sev src p0 p1).boot = s.boot :=
  (State.raise2_event s n sev src p0 p1).within.boot (by decide)
@[simp] theorem State.raise2_freeCtr (s : State) (n sev src : Nat) (p0 p1 : Nat) : (s.raise2 n sev src p0 p1).freeCtr = s.freeCtr :=
  (State.raise2_event s n sev src p0 p1).within.freeCtr (by decide)

/-- A field outside the event registers and the Almanac. -/
theorem State.fld_raise1 (s : State) (n sev src : Nat) (p0 : Nat) {f : Fld}
    (h : (parts evParts).testBit (f.off / 0x10000 % 32) = false) : (s.raise1 n sev src p0).fld f = s.fld f :=
  (State.raise1_event s n sev src p0).fld f h

@[simp] theorem State.raise1_variant (s : State) (n sev src : Nat) (p0 : Nat) : (s.raise1 n sev src p0).variant = s.variant :=
  (State.raise1_event s n sev src p0).kept.variant
@[simp] theorem State.raise1_station (s : State) (n sev src : Nat) (p0 : Nat) : (s.raise1 n sev src p0).station = s.station :=
  (State.raise1_event s n sev src p0).within.station (by decide)
@[simp] theorem State.raise1_readData (s : State) (n sev src : Nat) (p0 : Nat) : (s.raise1 n sev src p0).readData = s.readData :=
  (State.raise1_event s n sev src p0).within.readData (by decide)
@[simp] theorem State.raise1_cdr (s : State) (n sev src : Nat) (p0 : Nat) : (s.raise1 n sev src p0).cdr = s.cdr :=
  (State.raise1_event s n sev src p0).within.cdr (by decide)
@[simp] theorem State.raise1_grd (s : State) (n sev src : Nat) (p0 : Nat) : (s.raise1 n sev src p0).grd = s.grd :=
  (State.raise1_event s n sev src p0).within.grd (by decide)
@[simp] theorem State.raise1_fus (s : State) (n sev src : Nat) (p0 : Nat) : (s.raise1 n sev src p0).fus = s.fus :=
  (State.raise1_event s n sev src p0).within.fus (by decide)
@[simp] theorem State.raise1_eff (s : State) (n sev src : Nat) (p0 : Nat) : (s.raise1 n sev src p0).eff = s.eff :=
  (State.raise1_event s n sev src p0).within.eff (by decide)
@[simp] theorem State.raise1_red (s : State) (n sev src : Nat) (p0 : Nat) : (s.raise1 n sev src p0).red = s.red :=
  (State.raise1_event s n sev src p0).within.red (by decide)
@[simp] theorem State.raise1_xl (s : State) (n sev src : Nat) (p0 : Nat) : (s.raise1 n sev src p0).xl = s.xl :=
  (State.raise1_event s n sev src p0).within.xl (by decide)
@[simp] theorem State.raise1_tb (s : State) (n sev src : Nat) (p0 : Nat) : (s.raise1 n sev src p0).tb = s.tb :=
  (State.raise1_event s n sev src p0).within.tb (by decide)
@[simp] theorem State.raise1_now (s : State) (n sev src : Nat) (p0 : Nat) : (s.raise1 n sev src p0).now = s.now := by
  simp only [State.now, State.raise1_tb]
@[simp] theorem State.raise1_eth (s : State) (n sev src : Nat) (p0 : Nat) : (s.raise1 n sev src p0).eth = s.eth :=
  (State.raise1_event s n sev src p0).within.eth (by decide)
@[simp] theorem State.raise1_can (s : State) (n sev src : Nat) (p0 : Nat) : (s.raise1 n sev src p0).can = s.can :=
  (State.raise1_event s n sev src p0).within.can (by decide)
@[simp] theorem State.raise1_uart (s : State) (n sev src : Nat) (p0 : Nat) : (s.raise1 n sev src p0).uart = s.uart :=
  (State.raise1_event s n sev src p0).within.uart (by decide)
@[simp] theorem State.raise1_dio (s : State) (n sev src : Nat) (p0 : Nat) : (s.raise1 n sev src p0).dio = s.dio :=
  (State.raise1_event s n sev src p0).within.dio (by decide)
@[simp] theorem State.raise1_sdf (s : State) (n sev src : Nat) (p0 : Nat) : (s.raise1 n sev src p0).sdf = s.sdf :=
  (State.raise1_event s n sev src p0).within.sdf (by decide)
@[simp] theorem State.raise1_mer (s : State) (n sev src : Nat) (p0 : Nat) : (s.raise1 n sev src p0).mer = s.mer :=
  (State.raise1_event s n sev src p0).within.mer (by decide)
@[simp] theorem State.raise1_pow (s : State) (n sev src : Nat) (p0 : Nat) : (s.raise1 n sev src p0).pow = s.pow :=
  (State.raise1_event s n sev src p0).within.pow (by decide)
@[simp] theorem State.raise1_ory (s : State) (n sev src : Nat) (p0 : Nat) : (s.raise1 n sev src p0).ory = s.ory :=
  (State.raise1_event s n sev src p0).within.ory (by decide)
@[simp] theorem State.raise1_ctl (s : State) (n sev src : Nat) (p0 : Nat) : (s.raise1 n sev src p0).ctl = s.ctl :=
  (State.raise1_event s n sev src p0).within.ctl (by decide)
@[simp] theorem State.raise1_eph (s : State) (n sev src : Nat) (p0 : Nat) : (s.raise1 n sev src p0).eph = s.eph :=
  (State.raise1_event s n sev src p0).within.eph (by decide)
@[simp] theorem State.raise1_boot (s : State) (n sev src : Nat) (p0 : Nat) : (s.raise1 n sev src p0).boot = s.boot :=
  (State.raise1_event s n sev src p0).within.boot (by decide)
@[simp] theorem State.raise1_freeCtr (s : State) (n sev src : Nat) (p0 : Nat) : (s.raise1 n sev src p0).freeCtr = s.freeCtr :=
  (State.raise1_event s n sev src p0).within.freeCtr (by decide)

/-- A field outside the event registers and the Almanac. -/
theorem State.fld_raise (s : State) (n sev src : Nat) {f : Fld}
    (h : (parts evParts).testBit (f.off / 0x10000 % 32) = false) : (s.raise n sev src).fld f = s.fld f :=
  (State.raise_event s n sev src).fld f h

@[simp] theorem State.raise_variant (s : State) (n sev src : Nat) : (s.raise n sev src).variant = s.variant :=
  (State.raise_event s n sev src).kept.variant
@[simp] theorem State.raise_station (s : State) (n sev src : Nat) : (s.raise n sev src).station = s.station :=
  (State.raise_event s n sev src).within.station (by decide)
@[simp] theorem State.raise_readData (s : State) (n sev src : Nat) : (s.raise n sev src).readData = s.readData :=
  (State.raise_event s n sev src).within.readData (by decide)
@[simp] theorem State.raise_cdr (s : State) (n sev src : Nat) : (s.raise n sev src).cdr = s.cdr :=
  (State.raise_event s n sev src).within.cdr (by decide)
@[simp] theorem State.raise_grd (s : State) (n sev src : Nat) : (s.raise n sev src).grd = s.grd :=
  (State.raise_event s n sev src).within.grd (by decide)
@[simp] theorem State.raise_fus (s : State) (n sev src : Nat) : (s.raise n sev src).fus = s.fus :=
  (State.raise_event s n sev src).within.fus (by decide)
@[simp] theorem State.raise_eff (s : State) (n sev src : Nat) : (s.raise n sev src).eff = s.eff :=
  (State.raise_event s n sev src).within.eff (by decide)
@[simp] theorem State.raise_red (s : State) (n sev src : Nat) : (s.raise n sev src).red = s.red :=
  (State.raise_event s n sev src).within.red (by decide)
@[simp] theorem State.raise_xl (s : State) (n sev src : Nat) : (s.raise n sev src).xl = s.xl :=
  (State.raise_event s n sev src).within.xl (by decide)
@[simp] theorem State.raise_tb (s : State) (n sev src : Nat) : (s.raise n sev src).tb = s.tb :=
  (State.raise_event s n sev src).within.tb (by decide)
@[simp] theorem State.raise_now (s : State) (n sev src : Nat) : (s.raise n sev src).now = s.now := by
  simp only [State.now, State.raise_tb]
@[simp] theorem State.raise_eth (s : State) (n sev src : Nat) : (s.raise n sev src).eth = s.eth :=
  (State.raise_event s n sev src).within.eth (by decide)
@[simp] theorem State.raise_can (s : State) (n sev src : Nat) : (s.raise n sev src).can = s.can :=
  (State.raise_event s n sev src).within.can (by decide)
@[simp] theorem State.raise_uart (s : State) (n sev src : Nat) : (s.raise n sev src).uart = s.uart :=
  (State.raise_event s n sev src).within.uart (by decide)
@[simp] theorem State.raise_dio (s : State) (n sev src : Nat) : (s.raise n sev src).dio = s.dio :=
  (State.raise_event s n sev src).within.dio (by decide)
@[simp] theorem State.raise_sdf (s : State) (n sev src : Nat) : (s.raise n sev src).sdf = s.sdf :=
  (State.raise_event s n sev src).within.sdf (by decide)
@[simp] theorem State.raise_mer (s : State) (n sev src : Nat) : (s.raise n sev src).mer = s.mer :=
  (State.raise_event s n sev src).within.mer (by decide)
@[simp] theorem State.raise_pow (s : State) (n sev src : Nat) : (s.raise n sev src).pow = s.pow :=
  (State.raise_event s n sev src).within.pow (by decide)
@[simp] theorem State.raise_ory (s : State) (n sev src : Nat) : (s.raise n sev src).ory = s.ory :=
  (State.raise_event s n sev src).within.ory (by decide)
@[simp] theorem State.raise_ctl (s : State) (n sev src : Nat) : (s.raise n sev src).ctl = s.ctl :=
  (State.raise_event s n sev src).within.ctl (by decide)
@[simp] theorem State.raise_eph (s : State) (n sev src : Nat) : (s.raise n sev src).eph = s.eph :=
  (State.raise_event s n sev src).within.eph (by decide)
@[simp] theorem State.raise_boot (s : State) (n sev src : Nat) : (s.raise n sev src).boot = s.boot :=
  (State.raise_event s n sev src).within.boot (by decide)
@[simp] theorem State.raise_freeCtr (s : State) (n sev src : Nat) : (s.raise n sev src).freeCtr = s.freeCtr :=
  (State.raise_event s n sev src).within.freeCtr (by decide)

/-- The register map stays canonical under a write. -/
theorem State.regs_wr {s : State} (h : swf regReset s.regs = true) (k : Nat) (w : Word) : swf regReset (s.wr k w).regs = true :=
  swf_sset h _ _

theorem State.regs_put {s : State} (h : swf regReset s.regs = true) (f : Fld) (v : Nat) : swf regReset (s.put f v).regs = true :=
  swf_sset h _ _

theorem State.regs_setTo {s : State} (h : swf regReset s.regs = true) (f : Fld) (b : Bool) :
    swf regReset (s.setTo f b).regs = true := swf_sset h _ _

/-- What the passing of time changes. -/
theorem State.runTo_event (s : State) (ns : Nat) : Effect (parts timeParts) s (s.runTo ns) :=
  State.runTo_effect _ _ (by decide) (.refl _ s)

/-- Showing the time base does not move it. -/
@[simp] theorem State.showTb_tb (s : State) : s.showTb.tb = s.tb :=
  (State.showTb_effect (msk := parts [.blk 0x0D]) s (by decide) (.refl _ s)).within.tb (by decide)

/-- A nanosecond has a fraction. -/
theorem nsUnits_pos : 0 < nsUnits := by decide

/-- Whole increments from `u` reach `x`. -/
theorem reach_units (x u i : Nat) (hi : 0 < i) : x ≤ u + (x - u + i - 1) / i * i := by
  have h := Nat.div_add_mod (x - u + i - 1) i
  have := Nat.mod_lt (x - u + i - 1) hi
  rw [Nat.mul_comm] at h
  omega

/-- A time base moved to a count of units that holds the instant shows at least the instant. -/
theorem State.now_of_units (s : State) (f : TimeBase → TimeBase) (ns x u : Nat) (hu : 0 < u) (hx : ns * u ≤ x)
    (h : (f s.tb).now.ns = x / u) : ns ≤ (s.modTb f).showTb.now := by
  unfold State.now; rw [State.showTb_tb, State.modTb_tb, h]
  exact (Nat.le_div_iff_mul_le hu).2 hx

/-- Device time runs at least to the instant. -/
theorem State.runTo_now (s : State) (ns : Nat) : ns ≤ (s.runTo ns).now := by
  unfold State.runTo
  refine iteInduction (motive := fun x : State => ns ≤ x.now) (fun h => h) fun _ => ?_
  extract_lets a i n
  have hi : 0 < i := iteInduction (motive := fun x : Nat => 0 < x) (fun _ => Nat.one_pos) Nat.pos_of_ne_zero
  refine iteInduction (motive := fun x : State => ns ≤ x.now) (fun h => ?_) fun _ =>
    State.now_of_units a _ ns _ nsUnits nsUnits_pos (reach_units (ns * nsUnits) a.tb.now.units i hi) rfl
  unfold State.now at h ⊢; rw [State.showTb_tb]; exact h

@[simp] theorem State.runTo_variant (s : State) (ns : Nat) : (s.runTo ns).variant = s.variant :=
  (State.runTo_event s ns).kept.variant
@[simp] theorem State.runTo_station (s : State) (ns : Nat) : (s.runTo ns).station = s.station :=
  (State.runTo_event s ns).within.station (by decide)
@[simp] theorem State.runTo_readData (s : State) (ns : Nat) : (s.runTo ns).readData = s.readData :=
  (State.runTo_event s ns).within.readData (by decide)
@[simp] theorem State.runTo_fus (s : State) (ns : Nat) : (s.runTo ns).fus = s.fus :=
  (State.runTo_event s ns).within.fus (by decide)
@[simp] theorem State.runTo_eff (s : State) (ns : Nat) : (s.runTo ns).eff = s.eff :=
  (State.runTo_event s ns).within.eff (by decide)
@[simp] theorem State.runTo_dio (s : State) (ns : Nat) : (s.runTo ns).dio = s.dio :=
  (State.runTo_event s ns).within.dio (by decide)
@[simp] theorem State.runTo_ctl (s : State) (ns : Nat) : (s.runTo ns).ctl = s.ctl :=
  (State.runTo_event s ns).within.ctl (by decide)
@[simp] theorem State.runTo_eph (s : State) (ns : Nat) : (s.runTo ns).eph = s.eph :=
  (State.runTo_event s ns).within.eph (by decide)
@[simp] theorem State.runTo_freeCtr (s : State) (ns : Nat) : (s.runTo ns).freeCtr = s.freeCtr :=
  (State.runTo_event s ns).within.freeCtr (by decide)
@[simp] theorem State.runTo_sram (s : State) (ns : Nat) : (s.runTo ns).mem.sram = s.mem.sram :=
  (State.runTo_event s ns).within.sram (by decide)
@[simp] theorem State.runTo_ddr (s : State) (ns : Nat) : (s.runTo ns).mem.ddr = s.mem.ddr :=
  (State.runTo_event s ns).within.ddr (by decide)
@[simp] theorem State.runTo_flash (s : State) (ns : Nat) : (s.runTo ns).mem.flash = s.mem.flash :=
  (State.runTo_event s ns).within.flash (by decide)
@[simp] theorem State.runTo_retained (s : State) (ns : Nat) : (s.runTo ns).mem.retained = s.mem.retained :=
  (State.runTo_event s ns).within.retained (by decide)

theorem State.fld_runTo (s : State) (ns : Nat) {f : Fld} (h : (parts timeParts).testBit (f.off / 0x10000 % 32) = false) :
    (s.runTo ns).fld f = s.fld f := (State.runTo_event s ns).fld f h

/-- A gate that is open. -/
theorem State.gate_on {s : State} {d : Nat} (h : s.domOn d = true) (o : Host.Outcome State Fault Refusal) : s.gate d o = o := by
  simp [State.gate, h]

/-- A gate that is closed: nothing changes. -/
theorem State.gate_off {s : State} {d : Nat} (h : s.domOn d = false) (o : Host.Outcome State Fault Refusal) :
    s.gate d o = .next s := by simp [State.gate, h]

/-- A gated effect goes on. -/
theorem State.gate_goes (s t : State) (d : Nat) : ∃ u, s.gate d (.next t) = .next u := by
  unfold State.gate; split <;> exact ⟨_, rfl⟩

end Sys2Proof.Machine
end

