-- ==== Sys2Proof/Laws/PerInstr.lean ====
section
/-! SUPPORT. Every command belongs to a row of spec/opcode_table.json. -/

namespace Sys2Proof.Laws

/-- The command belongs to one of the 252 rows. -/
def OwnRow.Statement (i : Instr) : Prop := i.row < 252

/-- REGISTER_WRITE. -/
theorem OwnRow.registerWrite (req : Req) (bar : Bar) (off : BitVec 24) (size : Fin 9) (v : BitVec 64) (hwSet : Word) :
        OwnRow.Statement (.registerWrite req bar off size v hwSet) := show 0 < 252 by decide

/-- READ_CLEAR. -/
theorem OwnRow.readClear (req : Req) (bar : Bar) (off : BitVec 24) (size : Fin 9) :
        OwnRow.Statement (.readClear req bar off size) := show 1 < 252 by decide

/-- DEBUG_MODULE_ACCESS. -/
theorem OwnRow.debugModuleAccess (port : Port) (a : BitVec 7) (write : Option Word) :
        OwnRow.Statement (.debugModuleAccess port a write) := show 2 < 252 by decide

/-- SAMPLE_INSTANT. -/
theorem OwnRow.sampleInstant :
        OwnRow.Statement (.sampleInstant) := show 3 < 252 by decide

/-- INTAKE_CL. -/
theorem OwnRow.intakeCl :
        OwnRow.Statement (.intakeCl) := show 4 < 252 by decide

/-- FUSION_DL. -/
theorem OwnRow.fusionDl :
        OwnRow.Statement (.fusionDl) := show 5 < 252 by decide

/-- PRIMARY_POST. -/
theorem OwnRow.primaryPost :
        OwnRow.Statement (.primaryPost) := show 6 < 252 by decide

/-- SOLVE_DL. -/
theorem OwnRow.solveDl :
        OwnRow.Statement (.solveDl) := show 7 < 252 by decide

/-- STAGE_DL. -/
theorem OwnRow.stageDl (lines : Lines) :
        OwnRow.Statement (.stageDl lines) := show 8 < 252 by decide

/-- OUT_OFFSET. -/
theorem OwnRow.outOffset (refOk : Bool) :
        OwnRow.Statement (.outOffset refOk) := show 9 < 252 by decide

/-- SWITCH_BOUNDARY. -/
theorem OwnRow.switchBoundary (mig : Option (List (Nat × Byte) × List (Nat × Byte))) :
        OwnRow.Statement (.switchBoundary mig) := show 10 < 252 by decide

/-- SWITCH_WINDOW_CLOSE. -/
theorem OwnRow.switchWindowClose :
        OwnRow.Statement (.switchWindowClose) := show 11 < 252 by decide

/-- FAST_TICK. -/
theorem OwnRow.fastTick :
        OwnRow.Statement (.fastTick) := show 12 < 252 by decide

/-- FAST_BUDGET_EXPIRY. -/
theorem OwnRow.fastBudgetExpiry :
        OwnRow.Statement (.fastBudgetExpiry) := show 13 < 252 by decide

/-- SECTION_END. -/
theorem OwnRow.sectionEnd (sec : Fin 4) (stores : List (Nat × Byte)) :
        OwnRow.Statement (.sectionEnd sec stores) := show 14 < 252 by decide

/-- SECTION_WATCHDOG. -/
theorem OwnRow.sectionWatchdog (sec : Fin 4) :
        OwnRow.Statement (.sectionWatchdog sec) := show 15 < 252 by decide

/-- CORE_FAULT. -/
theorem OwnRow.coreFault (kind : Fin 3) :
        OwnRow.Statement (.coreFault kind) := show 16 < 252 by decide

/-- ECC_CORRECTED. -/
theorem OwnRow.eccCorrected :
        OwnRow.Statement (.eccCorrected) := show 17 < 252 by decide

/-- OVR_LIMIT. -/
theorem OwnRow.ovrLimit :
        OwnRow.Statement (.ovrLimit) := show 18 < 252 by decide

/-- FAST_OVR_LIMIT. -/
theorem OwnRow.fastOvrLimit :
        OwnRow.Statement (.fastOvrLimit) := show 19 < 252 by decide

/-- INIT_ENTRY_DONE. -/
theorem OwnRow.initEntryDone (core : Fin 2) (stores : List (Nat × Byte)) :
        OwnRow.Statement (.initEntryDone core stores) := show 20 < 252 by decide

/-- INIT_BUDGET_EXPIRY. -/
theorem OwnRow.initBudgetExpiry :
        OwnRow.Statement (.initBudgetExpiry) := show 21 < 252 by decide

/-- STAGING_WRITE. -/
theorem OwnRow.stagingWrite (core : Fin 2) (index : Fin 2048) (value : Word) (other : Option Word) :
        OwnRow.Statement (.stagingWrite core index value other) := show 22 < 252 by decide

/-- CHECKPOINT_WRITE. -/
theorem OwnRow.checkpointWrite (value : Word) :
        OwnRow.Statement (.checkpointWrite value) := show 23 < 252 by decide

/-- RESTART. -/
theorem OwnRow.restart (req : Req) (cold : Bool) :
        OwnRow.Statement (.restart req cold) := show 24 < 252 by decide

/-- PROGRAM_STOP. -/
theorem OwnRow.programStop (req : Req) (b : Bool) :
        OwnRow.Statement (.programStop req b) := show 25 < 252 by decide

/-- CDR_CYC_LO_READ. -/
theorem OwnRow.cdrCycLoRead (req : Req) :
        OwnRow.Statement (.cdrCycLoRead req) := show 26 < 252 by decide

/-- CDR_PT_LO_READ. -/
theorem OwnRow.cdrPtLoRead (req : Req) :
        OwnRow.Statement (.cdrPtLoRead req) := show 27 < 252 by decide

/-- CDR_PT_ADJ_LO_READ. -/
theorem OwnRow.cdrPtAdjLoRead (req : Req) :
        OwnRow.Statement (.cdrPtAdjLoRead req) := show 28 < 252 by decide

/-- ONLINE_CHANGE_LOAD. -/
theorem OwnRow.onlineChangeLoad (req : Req) :
        OwnRow.Statement (.onlineChangeLoad req) := show 29 < 252 by decide

/-- LOAD_CHECKS_DONE. -/
theorem OwnRow.loadChecksDone :
        OwnRow.Statement (.loadChecksDone) := show 30 < 252 by decide

/-- ONLINE_CHANGE_SWITCH. -/
theorem OwnRow.onlineChangeSwitch (req : Req) :
        OwnRow.Statement (.onlineChangeSwitch req) := show 31 < 252 by decide

/-- ONLINE_CHANGE_COMMIT. -/
theorem OwnRow.onlineChangeCommit (req : Req) :
        OwnRow.Statement (.onlineChangeCommit req) := show 32 < 252 by decide

/-- ONLINE_CHANGE_ROLLBACK. -/
theorem OwnRow.onlineChangeRollback (req : Req) :
        OwnRow.Statement (.onlineChangeRollback req) := show 33 < 252 by decide

/-- ONLINE_CHANGE_CANCEL. -/
theorem OwnRow.onlineChangeCancel (req : Req) :
        OwnRow.Statement (.onlineChangeCancel req) := show 34 < 252 by decide

/-- TRIAL_LEN_EXPIRY. -/
theorem OwnRow.trialLenExpiry :
        OwnRow.Statement (.trialLenExpiry) := show 35 < 252 by decide

/-- INTAKE_RECORD. -/
theorem OwnRow.intakeRecord (bytes : List Byte) :
        OwnRow.Statement (.intakeRecord bytes) := show 36 < 252 by decide

/-- FUS_ENABLE. -/
theorem OwnRow.fusEnable (req : Req) :
        OwnRow.Statement (.fusEnable req) := show 37 < 252 by decide

/-- RET_COMMIT. -/
theorem OwnRow.retCommit (req : Req) :
        OwnRow.Statement (.retCommit req) := show 38 < 252 by decide

/-- DATUM_COMMIT. -/
theorem OwnRow.datumCommit (req : Req) :
        OwnRow.Statement (.datumCommit req) := show 39 < 252 by decide

/-- RESET_FILTER. -/
theorem OwnRow.resetFilter (req : Req) :
        OwnRow.Statement (.resetFilter req) := show 40 < 252 by decide

/-- INERTIAL_UNIT_LOST. -/
theorem OwnRow.inertialUnitLost (unit : Fin 2) :
        OwnRow.Statement (.inertialUnitLost unit) := show 41 < 252 by decide

/-- REF_COAST_LIMIT. -/
theorem OwnRow.refCoastLimit :
        OwnRow.Statement (.refCoastLimit) := show 42 < 252 by decide

/-- SAT_EXCL_EXPIRY. -/
theorem OwnRow.satExclExpiry (slot : Fin 16) (sys svid : Byte) :
        OwnRow.Statement (.satExclExpiry slot sys svid) := show 43 < 252 by decide

/-- RISER_VALID_LOSS. -/
theorem OwnRow.riserValidLoss :
        OwnRow.Statement (.riserValidLoss) := show 44 < 252 by decide

/-- REFERENCE_REQUALIFY. -/
theorem OwnRow.referenceRequalify (slot : Fin 16) :
        OwnRow.Statement (.referenceRequalify slot) := show 45 < 252 by decide

/-- TRACK_DELETE. -/
theorem OwnRow.trackDelete (n : Fin 64) :
        OwnRow.Statement (.trackDelete n) := show 46 < 252 by decide

/-- QP_ADMM. -/
theorem OwnRow.qpAdmm (req : Req) (desc : List Byte) (chain : Option (List Byte)) :
        OwnRow.Statement (.qpAdmm req desc chain) := show 47 < 252 by decide

/-- KF_QR. -/
theorem OwnRow.kfQr (req : Req) (desc : List Byte) :
        OwnRow.Statement (.kfQr req desc) := show 48 < 252 by decide

/-- LAP. -/
theorem OwnRow.lap (req : Req) (desc : List Byte) :
        OwnRow.Statement (.lap req desc) := show 49 < 252 by decide

/-- SIM. -/
theorem OwnRow.sim (req : Req) (desc : List Byte) :
        OwnRow.Statement (.sim req desc) := show 50 < 252 by decide

/-- LOAD. -/
theorem OwnRow.load (req : Req) (desc : List Byte) :
        OwnRow.Statement (.load req desc) := show 51 < 252 by decide

/-- FREE. -/
theorem OwnRow.free (req : Req) (desc : List Byte) :
        OwnRow.Statement (.free req desc) := show 52 < 252 by decide

/-- JOB_RELEASE. -/
theorem OwnRow.jobRelease (slot : Fin 127) :
        OwnRow.Statement (.jobRelease slot) := show 53 < 252 by decide

/-- ENGINE_GRANT. -/
theorem OwnRow.engineGrant (eng : Fin 64) :
        OwnRow.Statement (.engineGrant eng) := show 54 < 252 by decide

/-- JOB_RESULT. -/
theorem OwnRow.jobResult (eng : Fin 64) (corr : Nat) :
        OwnRow.Statement (.jobResult eng corr) := show 55 < 252 by decide

/-- SECTOR_SWITCH. -/
theorem OwnRow.sectorSwitch (thr : Fin 24) :
        OwnRow.Statement (.sectorSwitch thr) := show 56 < 252 by decide

/-- SOLVER_LOST. -/
theorem OwnRow.solverLost :
        OwnRow.Statement (.solverLost) := show 57 < 252 by decide

/-- JOB_DEADLINE. -/
theorem OwnRow.jobDeadline (slot : Fin 127) (done : Progress) (factored : Bool) :
        OwnRow.Statement (.jobDeadline slot done factored) := show 58 < 252 by decide

/-- STRUCT_ECC_LOST. -/
theorem OwnRow.structEccLost (eng : Fin 64) (ss : Fin 4) :
        OwnRow.Statement (.structEccLost eng ss) := show 59 < 252 by decide

/-- HOST_ABORT. -/
theorem OwnRow.hostAbort (req : Req) :
        OwnRow.Statement (.hostAbort req) := show 60 < 252 by decide

/-- PLAN_COMMIT. -/
theorem OwnRow.planCommit (req : Req) :
        OwnRow.Statement (.planCommit req) := show 61 < 252 by decide

/-- SET_COMMIT. -/
theorem OwnRow.setCommit (req : Req) :
        OwnRow.Statement (.setCommit req) := show 62 < 252 by decide

/-- PARAM_COMMIT. -/
theorem OwnRow.paramCommit (req : Req) :
        OwnRow.Statement (.paramCommit req) := show 63 < 252 by decide

/-- COLLIMATION_START. -/
theorem OwnRow.collimationStart (req : Req) :
        OwnRow.Statement (.collimationStart req) := show 64 < 252 by decide

/-- COLLIMATION_STOP. -/
theorem OwnRow.collimationStop (req : Req) :
        OwnRow.Statement (.collimationStop req) := show 65 < 252 by decide

/-- COLLIMATION_DONE. -/
theorem OwnRow.collimationDone :
        OwnRow.Statement (.collimationDone) := show 66 < 252 by decide

/-- TABLE_COMMIT. -/
theorem OwnRow.tableCommit (req : Req) :
        OwnRow.Statement (.tableCommit req) := show 67 < 252 by decide

/-- ACK_OVERDUE. -/
theorem OwnRow.ackOverdue (h : Fin 63) :
        OwnRow.Statement (.ackOverdue h) := show 68 < 252 by decide

/-- LS_HOLD_EXPIRY. -/
theorem OwnRow.lsHoldExpiry :
        OwnRow.Statement (.lsHoldExpiry) := show 69 < 252 by decide

/-- FALLBACK_EXPIRY. -/
theorem OwnRow.fallbackExpiry (h : Fin 63) :
        OwnRow.Statement (.fallbackExpiry h) := show 70 < 252 by decide

/-- GUARD_POWER_UP. -/
theorem OwnRow.guardPowerUp (slew : Fin 4) :
        OwnRow.Statement (.guardPowerUp slew) := show 71 < 252 by decide

/-- GUARD_IMAGE_LOAD. -/
theorem OwnRow.guardImageLoad (bytes : List Byte) (bistFail : Byte) :
        OwnRow.Statement (.guardImageLoad bytes bistFail) := show 72 < 252 by decide

/-- GUARD_LOAD_TIMEOUT. -/
theorem OwnRow.guardLoadTimeout :
        OwnRow.Statement (.guardLoadTimeout) := show 73 < 252 by decide

/-- HEARTBEAT_ARRIVAL. -/
theorem OwnRow.heartbeatArrival (word : Word) (guardTime : Nat) :
        OwnRow.Statement (.heartbeatArrival word guardTime) := show 74 < 252 by decide

/-- HB_WINDOW_CLOSE. -/
theorem OwnRow.hbWindowClose :
        OwnRow.Statement (.hbWindowClose) := show 75 < 252 by decide

/-- GUARD_DECISION. -/
theorem OwnRow.guardDecision (disagree : Fin 64) :
        OwnRow.Statement (.guardDecision disagree) := show 76 < 252 by decide

/-- SUPERVISOR_HEARTBEAT. -/
theorem OwnRow.supervisorHeartbeat (word : Word) (guardTime : Nat) :
        OwnRow.Statement (.supervisorHeartbeat word guardTime) := show 77 < 252 by decide

/-- SV_HB_TIMEOUT. -/
theorem OwnRow.svHbTimeout :
        OwnRow.Statement (.svHbTimeout) := show 78 < 252 by decide

/-- EDS_IN. -/
theorem OwnRow.edsIn :
        OwnRow.Statement .edsIn := show 79 < 252 by decide

/-- GUARD_TRIP. -/
theorem OwnRow.guardTrip :
        OwnRow.Statement .guardTrip := show 80 < 252 by decide

/-- GUARD_RST. -/
theorem OwnRow.guardRst (lowTime : Nat) :
        OwnRow.Statement (.guardRst lowTime) := show 81 < 252 by decide

/-- HOLD_FB. -/
theorem OwnRow.holdFb (bad0 bad1 : Bool) :
        OwnRow.Statement (.holdFb bad0 bad1) := show 82 < 252 by decide

/-- CLOCK_MONITOR. -/
theorem OwnRow.clockMonitor (count : Nat) :
        OwnRow.Statement (.clockMonitor count) := show 83 < 252 by decide

/-- VDD_GUARD_BAND. -/
theorem OwnRow.vddGuardBand (mV : Nat) :
        OwnRow.Statement (.vddGuardBand mV) := show 84 < 252 by decide

/-- CKBKP_MISSING. -/
theorem OwnRow.ckbkpMissing :
        OwnRow.Statement (.ckbkpMissing) := show 85 < 252 by decide

/-- PARAM_MISMATCH. -/
theorem OwnRow.paramMismatch :
        OwnRow.Statement (.paramMismatch) := show 86 < 252 by decide

/-- DEG_LIMIT_EXPIRY. -/
theorem OwnRow.degLimitExpiry :
        OwnRow.Statement (.degLimitExpiry) := show 87 < 252 by decide

/-- VDD_GUARD_LOST. -/
theorem OwnRow.vddGuardLost :
        OwnRow.Statement (.vddGuardLost) := show 88 < 252 by decide

/-- CLAIM_SAMPLE. -/
theorem OwnRow.claimSample (lines : Lines) (free : Bool) :
        OwnRow.Statement (.claimSample lines free) := show 89 < 252 by decide

/-- CLAIM_READBACK. -/
theorem OwnRow.claimReadback (lines : Lines) (tie : Bool) :
        OwnRow.Statement (.claimReadback lines tie) := show 90 < 252 by decide

/-- PARTNER_CLAIM. -/
theorem OwnRow.partnerClaim (second : Bool) (frame : Bool) :
        OwnRow.Statement (.partnerClaim second frame) := show 91 < 252 by decide

/-- OWN_LINE_RELEASED. -/
theorem OwnRow.ownLineReleased :
        OwnRow.Statement (.ownLineReleased) := show 92 < 252 by decide

/-- STATE_RECORD_RECEIVE. -/
theorem OwnRow.stateRecordReceive (port : Fin 4) :
        OwnRow.Statement (.stateRecordReceive port) := show 93 < 252 by decide

/-- COMPARE_RECORD_RECEIVE. -/
theorem OwnRow.compareRecordReceive (port : Fin 4) :
        OwnRow.Statement (.compareRecordReceive port) := show 94 < 252 by decide

/-- MIRROR_DEADLINE. -/
theorem OwnRow.mirrorDeadline (compare : Bool) :
        OwnRow.Statement (.mirrorDeadline compare) := show 95 < 252 by decide

/-- DIAG. -/
theorem OwnRow.diag (req : Req) :
        OwnRow.Statement (.diag req) := show 96 < 252 by decide

/-- HANDOVER. -/
theorem OwnRow.handover (req : Req) :
        OwnRow.Statement (.handover req) := show 97 < 252 by decide

/-- REHEARSE. -/
theorem OwnRow.rehearse (req : Req) :
        OwnRow.Statement (.rehearse req) := show 98 < 252 by decide

/-- REHEARSAL_PULSE. -/
theorem OwnRow.rehearsalPulse (lines : Lines) :
        OwnRow.Statement (.rehearsalPulse lines) := show 99 < 252 by decide

/-- HOLDOFF_EXPIRY. -/
theorem OwnRow.holdoffExpiry :
        OwnRow.Statement (.holdoffExpiry) := show 100 < 252 by decide

/-- FIRST_START_WAIVER. -/
theorem OwnRow.firstStartWaiver :
        OwnRow.Statement (.firstStartWaiver) := show 101 < 252 by decide

/-- CYCLE_LAUNCH. -/
theorem OwnRow.cycleLaunch (ring : Fin 2) :
        OwnRow.Statement (.cycleLaunch ring) := show 102 < 252 by decide

/-- INPUT_LAUNCH. -/
theorem OwnRow.inputLaunch (ring : Fin 2) :
        OwnRow.Statement (.inputLaunch ring) := show 103 < 252 by decide

/-- CYCLE_FRAME. -/
theorem OwnRow.cycleFrame (port : Fin 4) (frame : List Byte) (fcs : XlFcs) (residence : Nat) :
        OwnRow.Statement (.cycleFrame port frame fcs residence) := show 104 < 252 by decide

/-- INPUT_FRAME. -/
theorem OwnRow.inputFrame (port : Fin 4) (frame : List Byte) (fcs : XlFcs) :
        OwnRow.Statement (.inputFrame port frame fcs) := show 105 < 252 by decide

/-- OUTPUT_FRAME. -/
theorem OwnRow.outputFrame (port : Fin 4) (frame : List Byte) (fcs : XlFcs) :
        OwnRow.Statement (.outputFrame port frame fcs) := show 106 < 252 by decide

/-- WITHDRAW_FRAME. -/
theorem OwnRow.withdrawFrame (port : Fin 4) (frame : List Byte) (fcs : XlFcs) :
        OwnRow.Statement (.withdrawFrame port frame fcs) := show 107 < 252 by decide

/-- DELAY_REQ. -/
theorem OwnRow.delayReq (port : Fin 4) (frame : List Byte) (fcs : XlFcs) (turn : Nat) :
        OwnRow.Statement (.delayReq port frame fcs turn) := show 108 < 252 by decide

/-- DELAY_RESP. -/
theorem OwnRow.delayResp (port : Fin 4) (frame : List Byte) (fcs : XlFcs) :
        OwnRow.Statement (.delayResp port frame fcs) := show 109 < 252 by decide

/-- MGMT_FRAME. -/
theorem OwnRow.mgmtFrame (port : Fin 4) (frame : List Byte) (fcs : XlFcs) :
        OwnRow.Statement (.mgmtFrame port frame fcs) := show 110 < 252 by decide

/-- INPUT_RETURN. -/
theorem OwnRow.inputReturn (ring : Fin 2) (frame : List Byte) (fcs : XlFcs) :
        OwnRow.Statement (.inputReturn ring frame fcs) := show 111 < 252 by decide

/-- OUTPUT_RETURN. -/
theorem OwnRow.outputReturn (ring : Fin 2) (frame : List Byte) (fcs : XlFcs) :
        OwnRow.Statement (.outputReturn ring frame fcs) := show 112 < 252 by decide

/-- STATION_SAMPLE. -/
theorem OwnRow.stationSample :
        OwnRow.Statement (.stationSample) := show 113 < 252 by decide

/-- STATION_OUTPUT_INSTANT. -/
theorem OwnRow.stationOutputInstant :
        OwnRow.Statement (.stationOutputInstant) := show 114 < 252 by decide

/-- STATION_HOLD_LIMIT. -/
theorem OwnRow.stationHoldLimit :
        OwnRow.Statement (.stationHoldLimit) := show 115 < 252 by decide

/-- STATION_CYCLE_LOSS. -/
theorem OwnRow.stationCycleLoss :
        OwnRow.Statement (.stationCycleLoss) := show 116 < 252 by decide

/-- STATION_SYNC_COMPLETE. -/
theorem OwnRow.stationSyncComplete :
        OwnRow.Statement (.stationSyncComplete) := show 117 < 252 by decide

/-- STATION_POWER_READY. -/
theorem OwnRow.stationPowerReady :
        OwnRow.Statement (.stationPowerReady) := show 118 < 252 by decide

/-- STATION_STAGE_DL. -/
theorem OwnRow.stationStageDl :
        OwnRow.Statement (.stationStageDl) := show 119 < 252 by decide

/-- LINK_DELAY_MEASURE. -/
theorem OwnRow.linkDelayMeasure (loop0 loop1 : Option Nat) :
        OwnRow.Statement (.linkDelayMeasure loop0 loop1) := show 120 < 252 by decide

/-- PORT_LINK_LOSS. -/
theorem OwnRow.portLinkLoss (port : Fin 4) :
        OwnRow.Statement (.portLinkLoss port) := show 121 < 252 by decide

/-- PORT_LINK_HELD. -/
theorem OwnRow.portLinkHeld (port : Fin 4) :
        OwnRow.Statement (.portLinkHeld port) := show 122 < 252 by decide

/-- READ_ID. -/
theorem OwnRow.readId (req : Req) (ring : Fin 2) (stn : Byte) :
        OwnRow.Statement (.readId req ring stn) := show 123 < 252 by decide

/-- IDENTIFY. -/
theorem OwnRow.identify (req : Req) (ring : Fin 2) (stn : Byte) :
        OwnRow.Statement (.identify req ring stn) := show 124 < 252 by decide

/-- RESUME. -/
theorem OwnRow.resume (req : Req) (ring : Fin 2) (stn : Byte) :
        OwnRow.Statement (.resume req ring stn) := show 125 < 252 by decide

/-- DUP_CLEAR. -/
theorem OwnRow.dupClear (req : Req) (ring : Fin 2) (stn : Byte) :
        OwnRow.Statement (.dupClear req ring stn) := show 126 < 252 by decide

/-- STN_CMD_TIMEOUT. -/
theorem OwnRow.stnCmdTimeout :
        OwnRow.Statement (.stnCmdTimeout) := show 127 < 252 by decide

/-- DUPLICATE_CLEAR_COUNT. -/
theorem OwnRow.duplicateClearCount (ring : Fin 2) (stn : Byte) :
        OwnRow.Statement (.duplicateClearCount ring stn) := show 128 < 252 by decide

/-- ETH_RX_FRAME. -/
theorem OwnRow.ethRxFrame (port : Fin 4) (frame : List Byte) (fcsOk : Bool) :
        OwnRow.Statement (.ethRxFrame port frame fcsOk) := show 129 < 252 by decide

/-- ETH_PROD. -/
theorem OwnRow.ethProd (req : Req) (port : Fin 4) (rx tx lq : Fin 256) (txd lqd : List TxDesc) :
        OwnRow.Statement (.ethProd req port rx tx lq txd lqd) := show 130 < 252 by decide

/-- TRANSMIT_DONE. -/
theorem OwnRow.transmitDone (port : Fin 4) :
        OwnRow.Statement (.transmitDone port) := show 131 < 252 by decide

/-- LAUNCH_COMMIT. -/
theorem OwnRow.launchCommit (port : Fin 4) (ring : Fin 2) :
        OwnRow.Statement (.launchCommit port ring) := show 132 < 252 by decide

/-- LAUNCH_DEPART. -/
theorem OwnRow.launchDepart (port : Fin 4) (ring : Fin 2) :
        OwnRow.Statement (.launchDepart port ring) := show 133 < 252 by decide

/-- ETH_LQ_CANCEL. -/
theorem OwnRow.ethLqCancel (req : Req) (port : Fin 4) (index : Fin 256) :
        OwnRow.Statement (.ethLqCancel req port index) := show 134 < 252 by decide

/-- ETH_LINK_CHANGE. -/
theorem OwnRow.ethLinkChange (port : Fin 4) (up : Bool) (speed : Fin 4) :
        OwnRow.Statement (.ethLinkChange port up speed) := show 135 < 252 by decide

/-- ETH_PORT_ENABLE. -/
theorem OwnRow.ethPortEnable (req : Req) (port : Fin 4) (txEn rxEn : Bool) :
        OwnRow.Statement (.ethPortEnable req port txEn rxEn) := show 136 < 252 by decide

/-- TXTS_EXPIRY. -/
theorem OwnRow.txtsExpiry :
        OwnRow.Statement (.txtsExpiry) := show 137 < 252 by decide

/-- PTP_TXTS_W0. -/
theorem OwnRow.ptpTxtsW0 (req : Req) :
        OwnRow.Statement (.ptpTxtsW0 req) := show 138 < 252 by decide

/-- PTP_TXTS_W1. -/
theorem OwnRow.ptpTxtsW1 (req : Req) :
        OwnRow.Statement (.ptpTxtsW1 req) := show 139 < 252 by decide

/-- PTP_TIME_NS. -/
theorem OwnRow.ptpTimeNs (req : Req) :
        OwnRow.Statement (.ptpTimeNs req) := show 140 < 252 by decide

/-- PTP_INCR. -/
theorem OwnRow.ptpIncr (req : Req) (v : Word) :
        OwnRow.Statement (.ptpIncr req v) := show 141 < 252 by decide

/-- STEP. -/
theorem OwnRow.step (req : Req) :
        OwnRow.Statement (.step req) := show 142 < 252 by decide

/-- SLEW_GO. -/
theorem OwnRow.slewGo (req : Req) :
        OwnRow.Statement (.slewGo req) := show 143 < 252 by decide

/-- VDD_AON_VALID. -/
theorem OwnRow.vddAonValid :
        OwnRow.Statement .vddAonValid := show 144 < 252 by decide

/-- LOCKOUT_RELEASE. -/
theorem OwnRow.lockoutRelease (rank : Fin 4) (rails : Fin 512) (ddrOk : Bool) (bistFail : Byte) (guardAt powerAt ddrAt timeAt : Nat) (sub : Fin 32768) :
        OwnRow.Statement (.lockoutRelease rank rails ddrOk bistFail guardAt powerAt ddrAt timeAt sub) := show 145 < 252 by decide

/-- TIME_READY. -/
theorem OwnRow.timeReady (req : Req) :
        OwnRow.Statement (.timeReady req) := show 146 < 252 by decide

/-- GRID_WAIT_EXPIRY. -/
theorem OwnRow.gridWaitExpiry :
        OwnRow.Statement (.gridWaitExpiry) := show 147 < 252 by decide

/-- PROVISION. -/
theorem OwnRow.provision (port : Port) (confirm : Byte) (ok : Bool) :
        OwnRow.Statement (.provision port confirm ok) := show 148 < 252 by decide

/-- SEAL. -/
theorem OwnRow.seal (port : Port) (confirm : Byte) (ok : Bool) :
        OwnRow.Statement (.seal port confirm ok) := show 149 < 252 by decide

/-- RETURN. -/
theorem OwnRow.returnLc (port : Port) (confirm : Byte) (run : ReturnRun) :
        OwnRow.Statement (.returnLc port confirm run) := show 150 < 252 by decide

/-- DECOMMISSION. -/
theorem OwnRow.decommission (port : Port) (confirm : Byte) (ok : Bool) :
        OwnRow.Statement (.decommission port confirm ok) := show 151 < 252 by decide

/-- REVOKE. -/
theorem OwnRow.revoke (port : Port) (confirm : Byte) (keys : Fin 16) (ok : Bool) :
        OwnRow.Statement (.revoke port confirm keys ok) := show 152 < 252 by decide

/-- VDD_AON_WARNING. -/
theorem OwnRow.vddAonWarning :
        OwnRow.Statement (.vddAonWarning) := show 153 < 252 by decide

/-- VBAT_SWITCH. -/
theorem OwnRow.vbatSwitch (vbat : Bool) (sub : Fin 32768) :
        OwnRow.Statement (.vbatSwitch vbat sub) := show 154 < 252 by decide

/-- FAST_FALL. -/
theorem OwnRow.fastFall (vbat : Bool) (sub : Fin 32768) :
        OwnRow.Statement (.fastFall vbat sub) := show 155 < 252 by decide

/-- TIME_LOST. -/
theorem OwnRow.timeLost (close : Bool) :
        OwnRow.Statement (.timeLost close) := show 156 < 252 by decide

/-- MERIDIAN_POWER_UP. -/
theorem OwnRow.meridianPowerUp (vbat : Bool) :
        OwnRow.Statement (.meridianPowerUp vbat) := show 157 < 252 by decide

/-- BAT_LOW. -/
theorem OwnRow.batLow (low : Bool) :
        OwnRow.Statement (.batLow low) := show 158 < 252 by decide

/-- PRESCALER_WRAP. -/
theorem OwnRow.prescalerWrap :
        OwnRow.Statement (.prescalerWrap) := show 159 < 252 by decide

/-- COMPENSATION_WINDOW. -/
theorem OwnRow.compensationWindow (temp : BitVec 8) :
        OwnRow.Statement (.compensationWindow temp) := show 160 < 252 by decide

/-- EVENT_INPUT_EDGE. -/
theorem OwnRow.eventInputEdge (input : Fin 4) (rise : Bool) (sub : Fin 32768) :
        OwnRow.Statement (.eventInputEdge input rise sub) := show 161 < 252 by decide

/-- HALT. -/
theorem OwnRow.halt (req : Req) (halt : Bool) (sub : Fin 32768) (atWrap : Bool) :
        OwnRow.Statement (.halt req halt sub atWrap) := show 162 < 252 by decide

/-- CALENDAR_WRITE. -/
theorem OwnRow.calendarWrite (req : Req) (which : Fin 3) (v : Word) :
        OwnRow.Statement (.calendarWrite req which v) := show 163 < 252 by decide

/-- SHIFT_GO. -/
theorem OwnRow.shiftGo (req : Req) :
        OwnRow.Statement (.shiftGo req) := show 164 < 252 by decide

/-- MER_SUBSEC_READ. -/
theorem OwnRow.merSubsecRead (req : Req) (sub : Fin 32768) :
        OwnRow.Statement (.merSubsecRead req sub) := show 165 < 252 by decide

/-- MER_EVF0_READ. -/
theorem OwnRow.merEvf0Read (req : Req) :
        OwnRow.Statement (.merEvf0Read req) := show 166 < 252 by decide

/-- MER_EVF2_READ. -/
theorem OwnRow.merEvf2Read (req : Req) :
        OwnRow.Statement (.merEvf2Read req) := show 167 < 252 by decide

/-- TIME_LOST_CLEAR. -/
theorem OwnRow.timeLostClear (req : Req) :
        OwnRow.Statement (.timeLostClear req) := show 168 < 252 by decide

/-- CYCLE. -/
theorem OwnRow.cycle (req : Req) :
        OwnRow.Statement (.cycle req) := show 169 < 252 by decide

/-- SLEEP. -/
theorem OwnRow.sleep (req : Req) :
        OwnRow.Statement (.sleep req) := show 170 < 252 by decide

/-- OFF_TIME_EXPIRY. -/
theorem OwnRow.offTimeExpiry :
        OwnRow.Statement (.offTimeExpiry) := show 171 < 252 by decide

/-- PWR_IGNORED. -/
theorem OwnRow.pwrIgnored :
        OwnRow.Statement (.pwrIgnored) := show 172 < 252 by decide

/-- CAN_FRAME_RECEIVED. -/
theorem OwnRow.canFrameReceived (c : Fin 4) (f : CanFrame) :
        OwnRow.Statement (.canFrameReceived c f) := show 173 < 252 by decide

/-- CAN_TX_DONE. -/
theorem OwnRow.canTxDone (c : Fin 4) (obj : Fin 128) :
        OwnRow.Statement (.canTxDone c obj) := show 174 < 252 by decide

/-- CAN_ARBITRATION_LOST. -/
theorem OwnRow.canArbitrationLost (c : Fin 4) (obj : Fin 128) :
        OwnRow.Statement (.canArbitrationLost c obj) := show 175 < 252 by decide

/-- CAN_ERROR. -/
theorem OwnRow.canError (c : Fin 4) (err : CanErr) :
        OwnRow.Statement (.canError c err) := show 176 < 252 by decide

/-- CAN_RECOVERY_DONE. -/
theorem OwnRow.canRecoveryDone (c : Fin 4) :
        OwnRow.Statement (.canRecoveryDone c) := show 177 < 252 by decide

/-- CAN_LOCK_TIMEOUT. -/
theorem OwnRow.canLockTimeout (c : Fin 4) (obj : Fin 128) :
        OwnRow.Statement (.canLockTimeout c obj) := show 178 < 252 by decide

/-- CAN_TXREQ. -/
theorem OwnRow.canTxreq (req : Req) (c : Fin 4) (r : Fin 4) (mask : Word) :
        OwnRow.Statement (.canTxreq req c r mask) := show 179 < 252 by decide

/-- CAN_CANCEL. -/
theorem OwnRow.canCancel (req : Req) (c : Fin 4) (obj : Fin 128) (pos : CanPos) :
        OwnRow.Statement (.canCancel req c obj pos) := show 180 < 252 by decide

/-- RECOVER. -/
theorem OwnRow.recover (req : Req) (c : Fin 4) :
        OwnRow.Statement (.recover req c) := show 181 < 252 by decide

/-- CAN_ENABLE. -/
theorem OwnRow.canEnable (req : Req) (c : Fin 4) (en : Bool) :
        OwnRow.Statement (.canEnable req c en) := show 182 < 252 by decide

/-- CAN_WORD0_READ. -/
theorem OwnRow.canWord0Read (req : Req) (c : Fin 4) (obj : Fin 128) :
        OwnRow.Statement (.canWord0Read req c obj) := show 183 < 252 by decide

/-- CAN_LAST_READ. -/
theorem OwnRow.canLastRead (req : Req) (c : Fin 4) (obj : Fin 128) :
        OwnRow.Statement (.canLastRead req c obj) := show 184 < 252 by decide

/-- CHARACTER_RECEIVED. -/
theorem OwnRow.characterReceived (u : Fin 8) (ch : Byte) (framing parity overrun brk : Bool) (start : Nat) :
        OwnRow.Statement (.characterReceived u ch framing parity overrun brk start) := show 185 < 252 by decide

/-- RAW_IDLE. -/
theorem OwnRow.rawIdle (u : Fin 8) :
        OwnRow.Statement (.rawIdle u) := show 186 < 252 by decide

/-- LINE_SILENCE. -/
theorem OwnRow.lineSilence (u : Fin 8) (brk : Bool) :
        OwnRow.Statement (.lineSilence u brk) := show 187 < 252 by decide

/-- SER_TXDATA. -/
theorem OwnRow.serTxdata (req : Req) (u : Fin 8) (b : Byte) :
        OwnRow.Statement (.serTxdata req u b) := show 188 < 252 by decide

/-- SER_CONS_WRITE. -/
theorem OwnRow.serConsWrite (req : Req) (u : Fin 8) (cons : Fin 64) :
        OwnRow.Statement (.serConsWrite req u cons) := show 189 < 252 by decide

/-- DIO_EDGE. -/
theorem OwnRow.dioEdge (pin : Fin 64) (level : Bool) :
        OwnRow.Statement (.dioEdge pin level) := show 190 < 252 by decide

/-- DIO_CLAIM. -/
theorem OwnRow.dioClaim (req : Req) (hi : Bool) (mask : Word) :
        OwnRow.Statement (.dioClaim req hi mask) := show 191 < 252 by decide

/-- DIO_OUT. -/
theorem OwnRow.dioOut (req : Req) (hi : Bool) (v : Word) :
        OwnRow.Statement (.dioOut req hi v) := show 192 < 252 by decide

/-- SDF_OUTPUT. -/
theorem OwnRow.sdfOutput (c : Fin 32) (clks : List (Byte × Byte)) :
        OwnRow.Statement (.sdfOutput c clks) := show 193 < 252 by decide

/-- SDM_CLOCK_LOST. -/
theorem OwnRow.sdmClockLost (g : Fin 4) :
        OwnRow.Statement (.sdmClockLost g) := show 194 < 252 by decide

/-- SDM_CLOCK_RESTORED. -/
theorem OwnRow.sdmClockRestored (g : Fin 4) (khz : Nat) :
        OwnRow.Statement (.sdmClockRestored g khz) := show 195 < 252 by decide

/-- SDF_EN. -/
theorem OwnRow.sdfEn (req : Req) (v : Word) :
        OwnRow.Statement (.sdfEn req v) := show 196 < 252 by decide

/-- FIR_SEL. -/
theorem OwnRow.firSel (req : Req) (c : Fin 32) (second : Bool) (v : Word) :
        OwnRow.Statement (.firSel req c second v) := show 197 < 252 by decide

/-- COEFFICIENT_WRITE. -/
theorem OwnRow.coefficientWrite (req : Req) (set : Fin 32) (tap : Fin 64) (v : Word) :
        OwnRow.Statement (.coefficientWrite req set tap v) := show 198 < 252 by decide

/-- SDF_CFG_WRITE. -/
theorem OwnRow.sdfCfgWrite (req : Req) (c : Fin 32) (v : Word) :
        OwnRow.Statement (.sdfCfgWrite req c v) := show 199 < 252 by decide

/-- PCIE_LINK_CHANGE. -/
theorem OwnRow.pcieLinkChange (up : Bool) (speed : Fin 5) (width : Fin 5) :
        OwnRow.Statement (.pcieLinkChange up speed width) := show 200 < 252 by decide

/-- LINK_RECOVERY. -/
theorem OwnRow.linkRecovery (linkUp : Bool) :
        OwnRow.Statement (.linkRecovery linkUp) := show 201 < 252 by decide

/-- BUS_MASTER_CHANGE. -/
theorem OwnRow.busMasterChange (bme d3hot : Bool) :
        OwnRow.Statement (.busMasterChange bme d3hot) := show 202 < 252 by decide

/-- RING_ENABLE. -/
theorem OwnRow.ringEnable (req : Req) (k : Fin 16) :
        OwnRow.Statement (.ringEnable req k) := show 203 < 252 by decide

/-- RING_DISABLE. -/
theorem OwnRow.ringDisable (req : Req) (k : Fin 16) :
        OwnRow.Statement (.ringDisable req k) := show 204 < 252 by decide

/-- SQ_TAIL. -/
theorem OwnRow.sqTail (k : Fin 16) (t : Word) :
        OwnRow.Statement (.sqTail k t) := show 205 < 252 by decide

/-- CQ_HEAD. -/
theorem OwnRow.cqHead (k : Fin 16) (h : Word) :
        OwnRow.Statement (.cqHead k h) := show 206 < 252 by decide

/-- DESCRIPTOR_FETCH. -/
theorem OwnRow.descriptorFetch (k : Fin 16) (entry : HostData) :
        OwnRow.Statement (.descriptorFetch k entry) := show 207 < 252 by decide

/-- NOP. -/
theorem OwnRow.nop (k : Fin 16) :
        OwnRow.Statement (.nop k) := show 208 < 252 by decide

/-- ORY_JOB. -/
theorem OwnRow.oryJob (k : Fin 16) (data : HostData) :
        OwnRow.Statement (.oryJob k data) := show 209 < 252 by decide

/-- COPY_OUT. -/
theorem OwnRow.copyOut (k : Fin 16) :
        OwnRow.Statement (.copyOut k) := show 210 < 252 by decide

/-- COPY_IN. -/
theorem OwnRow.copyIn (k : Fin 16) (data : HostData) :
        OwnRow.Statement (.copyIn k data) := show 211 < 252 by decide

/-- OC_LOAD. -/
theorem OwnRow.ocLoad (k : Fin 16) (data : HostData) :
        OwnRow.Statement (.ocLoad k data) := show 212 < 252 by decide

/-- STN_CMD. -/
theorem OwnRow.stnCmd (k : Fin 16) :
        OwnRow.Statement (.stnCmd k) := show 213 < 252 by decide

/-- FLASH_WRITE. -/
theorem OwnRow.flashWrite (k : Fin 16) (data : HostData) :
        OwnRow.Statement (.flashWrite k data) := show 214 < 252 by decide

/-- COMPLETION_WRITE. -/
theorem OwnRow.completionWrite (k : Fin 16) :
        OwnRow.Statement (.completionWrite k) := show 215 < 252 by decide

/-- HOST_READ_RETRY. -/
theorem OwnRow.hostReadRetry (k : Fin 16) (data : HostData) :
        OwnRow.Statement (.hostReadRetry k data) := show 216 < 252 by decide

/-- CQ_TIMER. -/
theorem OwnRow.cqTimer (k : Fin 16) :
        OwnRow.Statement (.cqTimer k) := show 217 < 252 by decide

/-- HIF_EV_PEND_CLEAR. -/
theorem OwnRow.hifEvPendClear (req : Req) (word : Fin 8) (mask : Word) (hwSet : Nat) :
        OwnRow.Statement (.hifEvPendClear req word mask hwSet) := show 218 < 252 by decide

/-- MSIX_UNMASK. -/
theorem OwnRow.msixUnmask (v : Fin 64) :
        OwnRow.Statement (.msixUnmask v) := show 219 < 252 by decide

/-- ALMANAC_RELEASE. -/
theorem OwnRow.almanacRelease :
        OwnRow.Statement (.almanacRelease) := show 220 < 252 by decide

/-- ALM_SW_GO. -/
theorem OwnRow.almSwGo (req : Req) :
        OwnRow.Statement (.almSwGo req) := show 221 < 252 by decide

/-- ALM_READ. -/
theorem OwnRow.almRead (req : Req) :
        OwnRow.Statement (.almRead req) := show 222 < 252 by decide

/-- ALM_READ_READY. -/
theorem OwnRow.almReadReady (req : Req) :
        OwnRow.Statement (.almReadReady req) := show 223 < 252 by decide

/-- FLASH_SECTOR_DONE. -/
theorem OwnRow.flashSectorDone (ok : Bool) :
        OwnRow.Statement (.flashSectorDone ok) := show 224 < 252 by decide

/-- FABRIC_TIMEOUT. -/
theorem OwnRow.fabricTimeout :
        OwnRow.Statement (.fabricTimeout) := show 225 < 252 by decide

/-- SRAM_DOUBLE_ECC. -/
theorem OwnRow.sramDoubleEcc :
        OwnRow.Statement (.sramDoubleEcc) := show 226 < 252 by decide

/-- DDR_UNCORRECTABLE. -/
theorem OwnRow.ddrUncorrectable (addr : Nat) :
        OwnRow.Statement (.ddrUncorrectable addr) := show 227 < 252 by decide

/-- CORES_TRAPPED. -/
theorem OwnRow.coresTrapped :
        OwnRow.Statement (.coresTrapped) := show 228 < 252 by decide

/-- TRIGGER. -/
theorem OwnRow.trigger (req : Req) :
        OwnRow.Statement (.trigger req) := show 229 < 252 by decide

/-- PLATE_COPY_DONE. -/
theorem OwnRow.plateCopyDone (ok : Bool) :
        OwnRow.Statement (.plateCopyDone ok) := show 230 < 252 by decide

/-- RELEASE. -/
theorem OwnRow.releasePlate (req : Req) :
        OwnRow.Statement (.releasePlate req) := show 231 < 252 by decide

/-- RAIL_INVALID. -/
theorem OwnRow.railInvalid (rail : Fin 9) :
        OwnRow.Statement (.railInvalid rail) := show 232 < 252 by decide

/-- IO_RAIL_INVALID. -/
theorem OwnRow.ioRailInvalid (b : Bool) :
        OwnRow.Statement (.ioRailInvalid b) := show 233 < 252 by decide

/-- DOMAIN_READY. -/
theorem OwnRow.domainReady :
        OwnRow.Statement (.domainReady) := show 234 < 252 by decide

/-- TEMP_CONVERSION. -/
theorem OwnRow.tempConversion (value : Option (BitVec 12)) :
        OwnRow.Statement (.tempConversion value) := show 235 < 252 by decide

/-- THROTTLE_DWELL. -/
theorem OwnRow.throttleDwell :
        OwnRow.Statement (.throttleDwell) := show 236 < 252 by decide

/-- SHUTDOWN_POWER_DOWN. -/
theorem OwnRow.shutdownPowerDown :
        OwnRow.Statement (.shutdownPowerDown) := show 237 < 252 by decide

/-- CLOCK_FAILURE. -/
theorem OwnRow.clockFailure (which : Fin 3) (stops : Bool) :
        OwnRow.Statement (.clockFailure which stops) := show 238 < 252 by decide

/-- SUPERVISOR_CYCLE_DELAY. -/
theorem OwnRow.supervisorCycleDelay :
        OwnRow.Statement (.supervisorCycleDelay) := show 239 < 252 by decide

/-- OFF_REQ. -/
theorem OwnRow.offReq (req : Req) (v : Fin 8) :
        OwnRow.Statement (.offReq req v) := show 240 < 252 by decide

/-- CLK_SSC. -/
theorem OwnRow.clkSsc (req : Req) (v : Word) :
        OwnRow.Statement (.clkSsc req v) := show 241 < 252 by decide

/-- PORT_LINK_UP. -/
theorem OwnRow.portLinkUp (port : Fin 4) :
        OwnRow.Statement (.portLinkUp port) := show 242 < 252 by decide

/-- MGMT_RETURN. -/
theorem OwnRow.mgmtReturn (ring : Fin 2) (frame : List Byte) (fcs : XlFcs) :
        OwnRow.Statement (.mgmtReturn ring frame fcs) := show 243 < 252 by decide

/-- EDS_IN_RELEASED. -/
theorem OwnRow.edsInReleased :
        OwnRow.Statement (.edsInReleased) := show 244 < 252 by decide

/-- GUARD_TRIP_RELEASED. -/
theorem OwnRow.guardTripReleased :
        OwnRow.Statement (.guardTripReleased) := show 245 < 252 by decide

/-- HOLD_READBACK_RESTORED. -/
theorem OwnRow.holdReadbackRestored :
        OwnRow.Statement (.holdReadbackRestored) := show 246 < 252 by decide

/-- RAIL_VALID. -/
theorem OwnRow.railValid (rail : Fin 9) :
        OwnRow.Statement (.railValid rail) := show 247 < 252 by decide

/-- SPREAD_RAMP_END. -/
theorem OwnRow.spreadRampEnd :
        OwnRow.Statement (.spreadRampEnd) := show 248 < 252 by decide

/-- SLEW_DONE. -/
theorem OwnRow.slewDone :
        OwnRow.Statement (.slewDone) := show 249 < 252 by decide

/-- CHARACTER_SENT. -/
theorem OwnRow.characterSent (u : Fin 8) :
        OwnRow.Statement (.characterSent u) := show 250 < 252 by decide

/-- COMPLETION_TIMEOUT. -/
theorem OwnRow.completionTimeout (k : Fin 16) :
        OwnRow.Statement (.completionTimeout k) := show 251 < 252 by decide

end Sys2Proof.Laws
end

