-- ==== Sys2Proof/Machine/Factory.lean ====
section
/-! DEFINITION. What the table of R447 says of the taps of the factory sets, as a property of a list of taps.  The spec gives the
figures and no taps: nothing of the machine's behaviour rests on this property (log entry 50). -/

namespace Sys2Proof.Machine

/-- `z` is the response of the taps at the frequency `x`, a fraction of the stage's output rate with decimation `d`. -/
def FirResponse (taps : List Int) (d : Nat) (x : ℝ) (z : ℂ) : Prop :=
  z = (taps.zipIdx.map fun p => ((p.1 : ℝ) / 2 ^ 23 : ℂ) * Complex.exp (-(2 * Real.pi * x / d * p.2 : ℝ) * Complex.I)).sum

/-- `g` is the group delay of the taps at the frequency `x`, in input samples. -/
def FirDelay (taps : List Int) (d : Nat) (x g : ℝ) : Prop :=
  ∃ z w : ℂ, FirResponse taps d x z ∧ z ≠ 0 ∧ g = (w / z).re ∧
    w = (taps.zipIdx.map fun p => (((p.1 : ℝ) * p.2 / 2 ^ 23 : ℝ) : ℂ) * Complex.exp (-(2 * Real.pi * x / d * p.2 : ℝ) * Complex.I)).sum

/-- The passband: up to 0.40 of the output rate the gain stays within the ripple; a set that corrects the droop does so for the sinc stage
of one of the two orders, at a large R (DEDUCED, log entry 50). -/
def FactoryRow.Pass (r : FactoryRow) (taps : List Int) : Prop :=
  ∃ n : Nat, (if r.droop then n = 3 ∨ n = 5 else n = 0) ∧ ∀ x : ℝ, 0 < x → x ≤ 0.40 → ∀ z, FirResponse taps r.d x z →
    |20 * Real.logb 10 (‖z‖ * (Real.sin (Real.pi * x) / (Real.pi * x)) ^ n)| ≤ r.ripple / 1000

/-- The stop band: from 0.60 of the output rate the gain is down by the row's figure. -/
def FactoryRow.Stop (r : FactoryRow) (taps : List Int) : Prop :=
  ∀ a, r.stop = some a → ∀ x : ℝ, 0.60 ≤ x → x ≤ r.d / 2 → ∀ z, FirResponse taps r.d x z → ‖z‖ ≤ 10 ^ (-(a : ℝ) / 20)

/-- The phase: linear taps are symmetric; those of minimum phase have no zero outside the unit circle, and their delay rises toward the
passband edge, to at most twice its value at DC. -/
def FactoryRow.Phase (r : FactoryRow) (taps : List Int) : Prop :=
  if r.minimum then
    (∀ z : ℂ, 1 < ‖z‖ → (taps.zipIdx.map fun p => (p.1 : ℂ) * z ^ (63 - p.2)).sum ≠ 0) ∧
    ∀ x y a b c : ℝ, 0 ≤ x → x ≤ y → y ≤ 0.40 → FirDelay taps r.d x a → FirDelay taps r.d y b → FirDelay taps r.d 0 c → a ≤ b ∧ b ≤ 2 * c
  else taps = taps.reverse

/-- The delay at DC, to the tenth of a sample that the table gives. -/
def FactoryRow.Delay (r : FactoryRow) (taps : List Int) : Prop := ∃ g : ℝ, FirDelay taps r.d 0 g ∧ |g - r.delay / 10| ≤ 0.05

/-- The taps of a factory set are what its row of the table says (R447). -/
def FactoryRow.Meets (r : FactoryRow) (taps : List Int) : Prop :=
  taps.length = 64 ∧ r.Pass taps ∧ r.Stop taps ∧ r.Phase taps ∧ r.Delay taps

/-- The part's coefficient ROM holds the sets of the table (R446, R447). -/
def State.FactorySets (s : State) : Prop := ∀ (i : Nat) (r : FactoryRow), factoryRows[i]? = some r → r.Meets (s.taps i)

end Sys2Proof.Machine
end

