-- ==== Sys2Proof/Machine/Pins.lean ====
section
/-! DEFINITION. What the device drives on its output pins (R553, R560; log entry 53). -/

namespace Sys2Proof.Machine

/-- The output pins of R560. -/
inductive OutPin where
  /-- GUARD_HOLD0 and GUARD_HOLD1. -/
  | guardHold (i : Fin 2)
  /-- INTLK_OUT. -/
  | intlkOut
  /-- PWR_ON_REQ. -/
  | pwrOnReq
  /-- DIO0 to DIO63. -/
  | dio (p : Fin 64)
  /-- BYP_E and BYP_W of a ring. -/
  | byp (ring : Fin 2) (west : Bool)
  /-- SDM_CLK0 to SDM_CLK3. -/
  | sdmClk (g : Fin 4)
  /-- CAN_TX0 to CAN_TX3. -/
  | canTx (c : Fin 4)
  /-- SER_TX0 to SER_TX7. -/
  | serTx (u : Fin 8)
  /-- SER_DE0 to SER_DE7. -/
  | serDe (u : Fin 8)
  /-- The outputs to the flash. -/
  | ospi
  /-- TDO. -/
  | tdo
  /-- The outputs to DDR. -/
  | ddr
  /-- The transmit lanes of PCIe, Ethernet and Xonlink. -/
  | lanes
  deriving DecidableEq, Repr

/-- What a pin is driven to. -/
inductive Drive where
  /-- High impedance. -/
  | z
  /-- Low. -/
  | low
  /-- High. -/
  | high
  /-- Driven with a block's signal, whose levels in time the model does not hold. -/
  | signal
  deriving DecidableEq, Repr

/-- The drive of a level. -/
def Drive.of (b : Bool) : Drive := if b then .high else .low

/-- The switched domain that drives a pin; none for the guard's, Meridian's and the debug port's. -/
def OutPin.dom : OutPin → Option Nat
  | .guardHold _ => none
  | .intlkOut => none
  | .pwrOnReq => none
  | .tdo => none
  | .dio _ => some 9
  | .sdmClk _ => some 9
  | .canTx _ => some 9
  | .serTx _ => some 9
  | .serDe _ => some 9
  | .ospi => some 9
  | .byp _ _ => some 10
  | .lanes => some 10
  | .ddr => some 11

/-- Has boot enabled a pin: its domain has come on at stage POWER, and has not lost its power since?  A stopped clock isolates no domain. -/
def State.pinOn (s : State) (p : OutPin) : Bool :=
  match p.dom with
  | some d => bitAt (s.fld F.PWR_STATUS_ON) d
  | none => true

/-- What an enabled pin is driven to at an instant: GUARD_HOLD only with the guard's supply, and high only with VDDIO_A (R261, R263, R549);
INTLK_OUT and PWR_ON_REQ are pulled low or released (R294, R408); the bypass drives of a station's ring alone (R353); SDM_CLK in OUT mode
(R439). -/
def State.pinSignal (s : State) (t : Nat) (p : OutPin) : Drive :=
  match p with
  | .guardHold _ => if !s.grd.powered then .z else if s.grdHolds then .low else if s.railOk 4 then .high else .z
  | .intlkOut => if s.holdsIntlk then .low else .z
  | .pwrOnReq => if s.mer.low then .low else .z
  | .dio i => match s.pinDrive i.val with | some b => .of b | none => .z
  | .byp r w => if s.station && r == 0 then .of (if w then s.bypass.2 else s.bypass.1) else .z
  | .sdmClk g => if s.sdmOut g.val then .of (s.sdmClk g.val t) else .z
  | .canTx c => if s.on (cf F.CAN_CTRL_EN c.val) then .signal else .high
  | .serDe u => .of (s.ser u.val).de
  | _ => .signal

/-- What the device drives on a pin at an instant: high impedance until boot enables it and while its domain is off (R553). -/
def State.outPin (s : State) (t : Nat) (p : OutPin) : Drive := if s.pinOn p then s.pinSignal t p else .z

end Sys2Proof.Machine
end

