-- ==== Sys2Proof/WellFormed.lean ====
section
/-! DEFINITION. Which commands are well formed: what the types of their operands do not say already. -/

namespace Sys2Proof

/-- The sizes of a fabric access, in bytes (R7). -/
def sizeOk (n : Nat) : Bool := n == 1 || n == 2 || n == 4 || n == 8

/-- A transmit or launch descriptor in the range of its fields (R365). -/
def txOk (d : TxDesc) : Bool :=
  decide (d.tsId < 65536) && decide (d.launch < 2 ^ 64) && decide (d.buf < 2 ^ 64) && decide (d.frame.length = d.len) &&
    decide (d.len < 65536) && decide (d.t2 < 2 ^ 32) && decide (d.tag < 2 ^ 32)

/-- A CAN frame: at most 64 data bytes, at most 8 in a frame that is not FD, none in a remote frame (R412, R414). -/
def canOk (f : CanFrame) : Bool :=
  decide (f.data.length ≤ 64) && (f.fdf || decide (f.data.length ≤ 8)) && (!f.rtr || (f.data.isEmpty && !f.fdf))

/-- Is a command well formed? -/
def Instr.wf (i : Instr) : Bool :=
  match i with
  | .registerWrite _ _ _ size _ _ => sizeOk size.val
  | .readClear _ _ _ size => sizeOk size.val
  | .debugModuleAccess _ _ _ => true
  | .sampleInstant => true
  | .intakeCl => true
  | .fusionDl => true
  | .primaryPost => true
  | .solveDl => true
  | .stageDl _ => true
  | .outOffset _ => true
  | .switchBoundary _ => true
  | .switchWindowClose => true
  | .fastTick => true
  | .fastBudgetExpiry => true
  | .sectionEnd _ _ => true
  | .sectionWatchdog _ => true
  | .coreFault _ => true
  | .eccCorrected => true
  | .ovrLimit => true
  | .fastOvrLimit => true
  | .initEntryDone _ _ => true
  | .initBudgetExpiry => true
  | .stagingWrite _ _ _ _ => true
  | .checkpointWrite _ => true
  | .restart _ _ => true
  | .programStop _ _ => true
  | .cdrCycLoRead _ => true
  | .cdrPtLoRead _ => true
  | .cdrPtAdjLoRead _ => true
  | .onlineChangeLoad _ => true
  | .loadChecksDone => true
  | .onlineChangeSwitch _ => true
  | .onlineChangeCommit _ => true
  | .onlineChangeRollback _ => true
  | .onlineChangeCancel _ => true
  | .trialLenExpiry => true
  | .intakeRecord bytes => decide (0 < bytes.length) && bytes.length % 8 == 0
  | .fusEnable _ => true
  | .retCommit _ => true
  | .datumCommit _ => true
  | .resetFilter _ => true
  | .inertialUnitLost _ => true
  | .refCoastLimit => true
  | .satExclExpiry _ _ _ => true
  | .riserValidLoss => true
  | .referenceRequalify _ => true
  | .trackDelete _ => true
  | .qpAdmm _ desc chain => desc.length == 64 && chain.all fun b => b.length == 64
  | .kfQr _ desc => desc.length == 64
  | .lap _ desc => desc.length == 64
  | .sim _ desc => desc.length == 64
  | .load _ desc => desc.length == 64
  | .free _ desc => desc.length == 64
  | .jobRelease _ => true
  | .engineGrant _ => true
  | .jobResult _ _ => true
  | .sectorSwitch _ => true
  | .solverLost => true
  | .jobDeadline _ _ _ => true
  | .structEccLost _ _ => true
  | .hostAbort _ => true
  | .planCommit _ => true
  | .setCommit _ => true
  | .paramCommit _ => true
  | .collimationStart _ => true
  | .collimationStop _ => true
  | .collimationDone => true
  | .tableCommit _ => true
  | .ackOverdue _ => true
  | .lsHoldExpiry => true
  | .fallbackExpiry _ => true
  | .guardPowerUp _ => true
  | .guardImageLoad bytes _ => !bytes.isEmpty
  | .guardLoadTimeout => true
  | .heartbeatArrival _ _ => true
  | .hbWindowClose => true
  | .guardDecision _ => true
  | .supervisorHeartbeat _ _ => true
  | .svHbTimeout => true
  | .edsIn => true
  | .guardTrip => true
  | .guardRst _ => true
  | .holdFb _ _ => true
  | .clockMonitor _ => true
  | .vddGuardBand _ => true
  | .ckbkpMissing => true
  | .paramMismatch => true
  | .degLimitExpiry => true
  | .vddGuardLost => true
  | .claimSample _ _ => true
  | .claimReadback _ _ => true
  | .partnerClaim _ _ => true
  | .ownLineReleased => true
  | .stateRecordReceive _ => true
  | .compareRecordReceive _ => true
  | .mirrorDeadline _ => true
  | .diag _ => true
  | .handover _ => true
  | .rehearse _ => true
  | .rehearsalPulse _ => true
  | .holdoffExpiry => true
  | .firstStartWaiver => true
  | .cycleLaunch _ => true
  | .inputLaunch _ => true
  | .cycleFrame _ _ _ _ => true
  | .inputFrame _ _ _ => true
  | .outputFrame _ _ _ => true
  | .withdrawFrame _ _ _ => true
  | .delayReq _ _ _ _ => true
  | .delayResp _ _ _ => true
  | .mgmtFrame _ _ _ => true
  | .inputReturn _ _ _ => true
  | .outputReturn _ _ _ => true
  | .stationSample => true
  | .stationOutputInstant => true
  | .stationHoldLimit => true
  | .stationCycleLoss => true
  | .stationSyncComplete => true
  | .stationPowerReady => true
  | .stationStageDl => true
  | .linkDelayMeasure _ _ => true
  | .portLinkLoss _ => true
  | .portLinkHeld _ => true
  | .readId _ _ _ => true
  | .identify _ _ _ => true
  | .resume _ _ _ => true
  | .dupClear _ _ _ => true
  | .stnCmdTimeout => true
  | .duplicateClearCount _ _ => true
  | .ethRxFrame _ frame _ => decide (14 ≤ frame.length)
  | .ethProd _ _ _ _ _ txd lqd => txd.all txOk && lqd.all txOk
  | .transmitDone _ => true
  | .launchCommit _ _ => true
  | .launchDepart _ _ => true
  | .ethLqCancel _ _ _ => true
  | .ethLinkChange _ _ _ => true
  | .ethPortEnable _ _ _ _ => true
  | .txtsExpiry => true
  | .ptpTxtsW0 _ => true
  | .ptpTxtsW1 _ => true
  | .ptpTimeNs _ => true
  | .ptpIncr _ _ => true
  | .step _ => true
  | .slewGo _ => true
  | .vddAonValid => true
  | .lockoutRelease _ _ _ _ guardAt powerAt ddrAt timeAt _ => decide (2000000 ≤ guardAt ∧ guardAt ≤ powerAt ∧ powerAt ≤ ddrAt ∧ ddrAt ≤ timeAt)
  | .timeReady _ => true
  | .gridWaitExpiry => true
  | .provision _ _ _ => true
  | .seal _ _ _ => true
  | .returnLc _ _ _ => true
  | .decommission _ _ _ => true
  | .revoke _ _ _ _ => true
  | .vddAonWarning => true
  | .vbatSwitch _ _ => true
  | .fastFall _ _ => true
  | .timeLost _ => true
  | .meridianPowerUp _ => true
  | .batLow _ => true
  | .prescalerWrap => true
  | .compensationWindow _ => true
  | .eventInputEdge _ _ _ => true
  | .halt _ _ _ _ => true
  | .calendarWrite _ _ _ => true
  | .shiftGo _ => true
  | .merSubsecRead _ _ => true
  | .merEvf0Read _ => true
  | .merEvf2Read _ => true
  | .timeLostClear _ => true
  | .cycle _ => true
  | .sleep _ => true
  | .offTimeExpiry => true
  | .pwrIgnored => true
  | .canFrameReceived _ f => canOk f
  | .canTxDone _ _ => true
  | .canArbitrationLost _ _ => true
  | .canError _ _ => true
  | .canRecoveryDone _ => true
  | .canLockTimeout _ _ => true
  | .canTxreq _ _ _ _ => true
  | .canCancel _ _ _ _ => true
  | .recover _ _ => true
  | .canEnable _ _ _ => true
  | .canWord0Read _ _ _ => true
  | .canLastRead _ _ _ => true
  | .characterReceived _ _ _ _ _ _ _ => true
  | .rawIdle _ => true
  | .lineSilence _ _ => true
  | .serTxdata _ _ _ => true
  | .serConsWrite _ _ _ => true
  | .dioEdge _ _ => true
  | .dioClaim _ _ _ => true
  | .dioOut _ _ _ => true
  | .sdfOutput _ _ => true
  | .sdmClockLost _ => true
  | .sdmClockRestored _ khz => decide (5000 ≤ khz ∧ khz ≤ 20000)
  | .sdfEn _ _ => true
  | .firSel _ _ _ _ => true
  | .coefficientWrite _ _ _ _ => true
  | .sdfCfgWrite _ _ _ => true
  | .pcieLinkChange up speed width =>
    !up || (decide (1 ≤ speed.val) && (width.val == 1 || width.val == 2 || width.val == 4))
  | .linkRecovery _ => true
  | .busMasterChange _ _ => true
  | .ringEnable _ _ => true
  | .ringDisable _ _ => true
  | .sqTail _ _ => true
  | .cqHead _ _ => true
  | .descriptorFetch _ entry => entry.all fun b => b.length == 64
  | .nop _ => true
  | .oryJob _ _ => true
  | .copyOut _ => true
  | .copyIn _ _ => true
  | .ocLoad _ _ => true
  | .stnCmd _ => true
  | .flashWrite _ _ => true
  | .completionWrite _ => true
  | .hostReadRetry _ _ => true
  | .cqTimer _ => true
  | .hifEvPendClear _ _ _ _ => true
  | .msixUnmask _ => true
  | .almanacRelease => true
  | .almSwGo _ => true
  | .almRead _ => true
  | .almReadReady _ => true
  | .flashSectorDone _ => true
  | .fabricTimeout => true
  | .sramDoubleEcc => true
  | .ddrUncorrectable _ => true
  | .coresTrapped => true
  | .trigger _ => true
  | .plateCopyDone _ => true
  | .releasePlate _ => true
  | .railInvalid _ => true
  | .ioRailInvalid _ => true
  | .domainReady => true
  | .tempConversion _ => true
  | .throttleDwell => true
  | .shutdownPowerDown => true
  | .clockFailure which stops => !stops || which.val == 0
  | .supervisorCycleDelay => true
  | .offReq _ _ => true
  | .clkSsc _ _ => true
  | .portLinkUp _ => true
  | .mgmtReturn _ _ _ => true
  | .edsInReleased => true
  | .guardTripReleased => true
  | .holdReadbackRestored => true
  | .railValid _ => true
  | .spreadRampEnd => true
  | .slewDone => true
  | .characterSent _ => true
  | .completionTimeout _ => true

end Sys2Proof
end

