-- ==== Sys2Proof/Tests/Slice0.lean ====
section
/-! SUPPORT. Tests: ill-formed commands are refused by the well-formedness check, and single steps with results taken from
the spec. -/

open Sys2Proof Sys2Proof.Machine

namespace Sys2Proof.Tests

-- One theorem at a time: the threads of many kernel evaluations at once would take more memory than the check allows.
set_option Elab.async false

/-! ### The well-formedness check refuses -/

theorem test_wf_write_size : Instr.wf (.registerWrite .host .bar0 0 3 0 0) = false := by decide
theorem test_wf_read_size : Instr.wf (.readClear .host .bar0 0 0) = false := by decide
theorem test_wf_record_length : Instr.wf (.intakeRecord [1, 2, 3]) = false := by decide
theorem test_wf_record_empty : Instr.wf (.intakeRecord []) = false := by decide
theorem test_wf_descriptor : Instr.wf (.lap .host [0, 0]) = false := by decide
theorem test_wf_chain : Instr.wf (.qpAdmm .host (List.replicate 64 0) (some [0])) = false := by decide
theorem test_wf_guard_image : Instr.wf (.guardImageLoad [] 0) = false := by decide
theorem test_wf_eth_frame : Instr.wf (.ethRxFrame 0 (List.replicate 13 0) true) = false := by decide
theorem test_wf_lockout_order : Instr.wf (.lockoutRelease 0 0 true 0 5 4 3 3 0) = false := by decide
theorem test_wf_can_length : Instr.wf (.canFrameReceived 0 ⟨false, false, false, false, 0, 9, List.replicate 9 0, 0⟩) = false := by decide
theorem test_wf_ring_entry : Instr.wf (.descriptorFetch 0 (some [0])) = false := by decide
theorem test_wf_clock_failure : Instr.wf (.clockFailure 1 true) = false := by decide
theorem test_wf_tx_id :
    Instr.wf (.ethProd .host 0 0 0 0 [⟨0, [], 0, false, false, false, 65536, 0, 0, 0⟩] []) = false := by decide
theorem test_wf_accepts : Instr.wf (.registerWrite .host .bar0 0 4 0 0) = true := by decide

/-- A state that idles. -/
theorem witness_IdleStepIsATick : State.reset.pending = [] ∧ State.reset.tb.freeStep = none := by decide

/-- A canonical state that steps. -/
theorem witness_StepKeepsCanonicalForm : State.reset.canonical = true ∧ State.reset.goesOn := ⟨by decide, _, rfl⟩

/-- A command that answers a next state. -/
theorem witness_CommandsChangeOnlyTheirParts : ∃ t, exec .hbWindowClose State.reset = .next t := ⟨_, rfl⟩

/-- A fuse that is blown, and a command that goes on. -/
theorem witness_FusesNeverUnblow : ∃ s t : State, exec .hbWindowClose s = .next t ∧ s.boot.fuses.lc.testBit 0 = true :=
  ⟨{ State.reset with boot := { State.reset.boot with fuses := { State.reset.boot.fuses with lc := 1 } } }, _, rfl, by decide⟩

/-- A state with every domain on. -/
def up : State := State.reset.put F.PWR_STATUS_ON 0xFFF
/-- The next state of an outcome that has one. -/
def getNext : Host.Outcome State Fault Refusal → State | .next t => t | _ => State.reset

/-- The base-cycle grid runs, and a switch window is open. -/
def upGrid : State := up.modCdr fun c => { c with grid := true, window := some ⟨true, 0, none⟩ }

theorem witness_CycleBoundaries : upGrid.cdr.grid = true ∧ upGrid.station = false ∧ upGrid.cdr.ticks * upGrid.fastNs < upGrid.tbase ∧
    upGrid.windowOpen = true ∧ upGrid.nextSample.isSome = true ∧ up.cdr.grid = false ∧ up.boot.gridAt = none := by decide

/-- The grid with PRE and POST done or running, and a program that may start, restart or be stopped. -/
def upCyc (stop preRuns preDone postRuns postDone : Bool) : State := (upGrid.setTo F.CDR_CTRL_STOP stop).modCdr fun c => { c with
  stopped := false, initLeft := [], startAt := some 0, pre := ⟨preRuns, 0, 0, 0, 0⟩, preDone, post := ⟨postRuns, 0, 0, 0, 0⟩, postDone }

theorem witness_CycleBoundaries_program : (upCyc false false true false true).canonical = true ∧
    (upCyc true true false false false).on F.CDR_CTRL_STOP = true ∧ (upCyc false false true false true).on F.CDR_CTRL_STOP = false ∧
    (upCyc false false true false true).mayRestart = none ∧ (upCyc false false true false true).cdr.startAt = some 0 ∧
    0 ≤ (upCyc false false true false true).now ∧ (upCyc false true false true false).cdr.pre.running = true ∧
    (upCyc false true false true false).cdr.post.running = true ∧ (upCyc false false true false true).cdr.preDone = true ∧
    (upCyc false false true false true).cdr.postDone = true ∧
    ((upCyc false false true false true).modCdr fun c => { c with half0 := { c.half0 with image := [1] }, waiting := some ⟨true, 1⟩ }).mayRestart =
      some ⟨true, 1⟩ ∧
    (upCyc false true false true false).cdr.pre.cyc = (upCyc false true false true false).cdr.cyc ∧ upGrid.cdr.skip = false ∧
    upGrid.red.resync = none ∧ upGrid.ocState ≠ 3 ∧ upGrid.ocState ≠ 4 ∧ upGrid.isActive = false ∧
    ((upGrid.put F.CDR_OC_STATUS_STATE 3).switchDue = true) ∧ upGrid.switchDue = false ∧ (upGrid.put F.CDR_STATUS_STATE 3).fld F.CDR_STATUS_STATE = 3 := by
  decide

/-- The plan has an entry for the primary job, and a control set is active. -/
def upPrimary : State :=
  ((((((upGrid.wrn (planAct + 8) 1).wrn (planAct + 16) 2).setTo F.ORY_CTRL_ENABLE true).put F.ORY_STATUS_Q_ON 15).setTo F.CTL_CTRL_ENABLE true).wrn
    0x82000 0x534C5443).wrn 0x82074 8

theorem witness_CycleBoundaries_primary : (upPrimary.planSlot 2 0).map (·.1) = some 0 ∧ upPrimary.on F.CTL_CTRL_ENABLE = true ∧
    upPrimary.ctlHas = true ∧ upPrimary.ctl.loadDue = false ∧ upPrimary.alm.frozen = false ∧ upPrimary.on F.ORY_CTRL_ENABLE = true ∧
    (upPrimary.planSlot 2 0).map (fun p => (upPrimary.quadOn (p.2.eng / 16), upPrimary.planEntry p.1 == p.2)) = some (true, true) ∧
    fieldLe upPrimary.ctlSet 116 2 = 8 ∧ upPrimary.primaryDeltas.length ≤ 4096 ∧ upPrimary.canonical = true := by decide +kernel

/-- The program runs: PRE and FAST, past their overrun limits. -/
def upRun : State :=
  ((up.put F.CDR_BUDGET_OVR_LIMIT 0).put F.CDR_STATUS_OVR_RUN 3).modCdr fun c => { c with
    stopped := false, initLeft := [], fastSkips := 15, pre := ⟨true, 0, 0, 0, 0⟩, fast := ⟨true, 0, 0, 0, 0⟩ }
/-- The first initialisation entry runs. -/
def upInit : State := up.modCdr fun c => { c with initLeft := [0, 1], initFaults := 0 }

theorem witness_CycleFaults : upRun.canonical = true ∧ upRun.cdr.stopped = false ∧ upRun.cdr.initLeft = [] ∧
    upRun.cdr.pre.running = true ∧ upRun.fld F.CDR_BUDGET_OVR_LIMIT < upRun.fld F.CDR_STATUS_OVR_RUN ∧
    upRun.fld F.CDR_BUDGET_FAST_OVR_LIMIT ≤ upRun.cdr.fastSkips ∧ upRun.cdr.fast.running = true ∧
    upInit.canonical = true ∧ upInit.cdr.initLeft ≠ [] ∧ upInit.cdr.initFaults = 0 := by decide

/-- Every domain is on, and the state is canonical. -/
theorem witness_up : up.domOn 3 = true ∧ up.domOn 4 = true ∧ up.domOn 9 = true ∧ up.domOn 10 = true ∧ up.domOn 11 = true ∧
    up.canonical = true := by decide

/-- An inertial unit that is valid, a coast at its limit, a riser record, a qualified reference and a track at its limit. -/
def upFusion : State :=
  { (up.put F.FUS_COAST_CNT_COUNT 0xFFFF) with fus := { up.fus with insOk := (true, true), riserAt := some 0, qual := List.replicate 30 11 } }

theorem witness_FusionEvents : upFusion.domOn 9 = true ∧ upFusion.canonical = true ∧ upFusion.insOk 28 = true ∧
    upFusion.insOk 29 = true ∧ upFusion.coastLimit ≤ upFusion.fld F.FUS_COAST_CNT_COUNT ∧
    upFusion.on F.FUS_STATUS_REF_DEGRADED = false ∧ upFusion.fus.riserAt = some 0 ∧ 11 ≤ nth upFusion.fus.qual 15 ∧
    State.reset.domOn 9 = false ∧ up.insOk 28 = false ∧ up.fld F.FUS_COAST_CNT_COUNT < up.coastLimit ∧ up.fus.riserAt = none ∧
    nth up.fus.qual 0 < 11 := by decide

/-- The Reticle enables a gyrocompass at slot 16. -/
def upSource : State := up.wrn (0x62000 + 64 + 64 * 16) 0x00010105
/-- A heading of slot 16 at a time. -/
def headingAt (time : Nat) : List Byte := headingRecord 16 0 time 0 0

/-- A record that is taken at time 0, once, and one of the future that is not. -/
theorem witness_IntakeQueue_good : upSource.recBad (headingAt 0) = false ∧ upSource.queueBytes + (headingAt 0).length ≤ 65536 ∧
    upSource.fus.taken.contains (recSource (headingAt 0), recTime (headingAt 0)) = false ∧ upSource.measTime (headingAt 0) ≤ upSource.now ∧
    (upSource.now : Int) < upSource.measTime (headingAt 1) ∧ upSource.canonical = true := by decide +kernel

/-- A record that does not fit, and a bad one. -/
theorem witness_IntakeQueue : 65536 < up.queueBytes + (List.replicate 65537 (0 : Byte)).length ∧ up.recBad [] = true := by
  refine ⟨?_, by decide⟩
  rw [List.length_replicate]; decide

/-! ### States that meet the hypotheses of the statements, clause by clause -/

/-- The first and the last reserved offset, and one in the register blocks, with the lockout off. -/
theorem witness_ReservedOffsets : regRow? 0x150000 = none ∧ inRetained 0x150000 = false ∧ regRow? 0x1FFFFC = none ∧
    inRetained 0x1FFFFC = false ∧ regRow? 0x1C = none ∧ inRetained 0x1C = false ∧ inMeridian 0x1C = false := by decide

theorem witness_RegisterWritesFollowAccessCodes : up.canonical = true ∧ up.blockOn Reg.RDN_CMP_CFG = true ∧
    up.blockOn Reg.PWR_IO_SLEW = true ∧ ((regRow? Reg.CDR_STATUS).map fun r => decide (r.rsv ≠ 0)) = some true := by decide

theorem witness_ReadsClear : up.canonical = true ∧ up.variant = .ci ∧ up.blockOn Reg.ALM_MERGED = true ∧
    up.blockOn Reg.THM_MAX = true := by decide

theorem witness_DebugModuleAccesses : up.lc = 0 ∧ (up.put F.BOOT_STATUS_LC 2).lc = 2 ∧ (up.put F.BOOT_STATUS_LC 4).lc = 4 ∧
    (up.put F.BOOT_STATUS_LC 4).canonical = true := by decide

/-- All four sections run. -/
def upSections : State := up.modCdr fun c => { c with
  stopped := false, initLeft := [], pre := ⟨true, 0, 0, 0, 0⟩, post := ⟨true, 0, 0, 0, 0⟩, fast := ⟨true, 0, 0, 0, 0⟩, slow := ⟨true, 0, 0, 0, 0⟩ }
/-- Only the slow section runs. -/
def upSlow : State := up.modCdr fun c => { c with stopped := false, initLeft := [], slow := ⟨true, 0, 0, 0, 0⟩ }

theorem witness_SectionsEnd : upSections.cdr.pre.running = true ∧ upSections.cdr.post.running = true ∧
    upSections.cdr.fast.running = true ∧ upSections.cdr.slow.running = true ∧ upSlow.cdr.slow.running = true ∧
    upSlow.cdr.fast.running = false ∧ upSlow.windowOpen = false ∧ upSlow.cdr.pre.running = false ∧
    upSlow.cdr.post.running = false := by decide

theorem witness_WatchdogAndStoppedCores : upSections.canonical = true ∧ upSections.cdr.stopped = false ∧
    upSections.cdr.initLeft = [] ∧ upSections.cdr.post.running = true ∧ upSections.cdr.fast.running = true ∧
    ({ up with cdr := { up.cdr with stopped := true, initLeft := [] } } : State).canonical = true := by decide

theorem witness_InitialisationEnds : upInit.canonical = true ∧ (0 : Fin 2).val ∈ upInit.cdr.initLeft ∧
    (∃ c ∈ upInit.cdr.initLeft, c ≠ (0 : Fin 2).val) ∧ (1 : Fin 2).val ∈ (upInit.modCdr fun c => { c with initLeft := [1] }).cdr.initLeft ∧
    (∀ c ∈ (upInit.modCdr fun c => { c with initLeft := [1] }).cdr.initLeft, c = (1 : Fin 2).val) ∧
    (0 : Fin 2).val ∉ (upInit.modCdr fun c => { c with initLeft := [1] }).cdr.initLeft := by decide

theorem witness_RestartAndStop : up.windowOpen = false ∧ (up.put F.CDR_OC_STATUS_STATE 1).ocState = 1 ∧
    (up.put F.CDR_OC_STATUS_STATE 3).ocState = 3 ∧ (up.put F.CDR_OC_STATUS_STATE 3).canonical = true ∧
    (up.put F.CDR_OC_STATUS_STATE 3).windowOpen = false := by decide

/-- Between SOLVE_DL and STAGE_DL both cores run sections. -/
def upStage : State := upSections.modCdr fun c => { c with grid := true, stageOpen := true }

theorem witness_StagingWrites : upStage.canonical = true ∧ upStage.mayStage 0 = true ∧ upStage.mayStage 1 = true ∧
    256 ≤ (256 : Fin 2048).val ∧ (255 : Fin 2048).val < 256 ∧ up.mayStage 0 = false ∧ up.mayStage 1 = false := by decide

theorem witness_CheckpointsExtendTheSignature : upSections.core0Runs = true ∧ up.core0Runs = false := by decide

theorem witness_ClockDriveReadsLatch : up.canonical = true := by decide

/-- An online change in state `n`, with a switch cycle ahead where `cyc` is not 0. -/
def upOnline (n cyc : Nat) : State := (up.put F.CDR_OC_STATUS_STATE n).wr64 Reg.CDR_OC_CYC_LO Reg.CDR_OC_CYC_HI cyc
/-- A trial that AUTO_COMMIT ends. -/
def upTrial : State := ((upOnline 4 0).setTo F.CDR_OC_CTRL_AUTO_COMMIT true).modCdr fun c => { c with trial := 65536 }

theorem witness_OnlineChangeStates : (upOnline 0 0).ocState = 0 ∧ (upOnline 1 0).ocState = 1 ∧ (upOnline 1 0).carrierCyc = 0 ∧
    (upOnline 1 0).loadReject (upOnline 1 0).cdr.loading (upOnline 1 0).cdr.loadSig ≠ 0 ∧ (upOnline 2 1).ocState = 2 ∧
    (upOnline 2 1).cdr.cyc < (upOnline 2 1).rd64 Reg.CDR_OC_CYC_LO Reg.CDR_OC_CYC_HI ∧
    (upOnline 2 0).rd64 Reg.CDR_OC_CYC_LO Reg.CDR_OC_CYC_HI ≤ (upOnline 2 0).cdr.cyc ∧ (upOnline 3 0).ocState = 3 ∧
    upTrial.ocState = 4 ∧ upTrial.cdr.rollback = none ∧ upTrial.on F.CDR_OC_CTRL_AUTO_COMMIT = true ∧
    upTrial.trialLen ≤ upTrial.cdr.trial ∧ upTrial.canonical = true ∧ (upOnline 2 1).canonical = true ∧
    up.on F.CDR_OC_CTRL_AUTO_COMMIT = false := by decide

/-- The Orrery enabled under a plan of one entry, of the application cluster on engine 0, its quadrants on. -/
def upOrrery : State :=
  (((up.wrn (planAct + 8) 1).wrn (planAct + 16) 5).setTo F.ORY_CTRL_ENABLE true).put F.ORY_STATUS_Q_ON 15
/-- A descriptor of slot 0 of a job type; with `link`, CHAIN is set. -/
def jobBytes (ty link : Nat) : List Byte :=
  [BitVec.ofNat 8 link, BitVec.ofNat 8 link] ++ [0, 0, 7, 0, 0, 0, if ty = 1 ∨ ty = 3 then 8 else 0, 0, if ty = 3 then 8 else 0, 0] ++
    List.replicate 16 0 ++ [0, 1] ++ List.replicate 34 0
/-- A job of the application cluster. -/
def upJob : Job := ⟨readDesc 2 (jobBytes 2 0), .app, 8, none, some 5000, 0⟩
/-- A full queue. -/
def upFull : State := upOrrery.modOry fun o => { o with queue := List.replicate 48 upJob }

theorem witness_OrreryPosts : upOrrery.canonical = true ∧ upOrrery.ory.done = [] ∧ upOrrery.alm.frozen = false ∧
    upOrrery.on F.ORY_CTRL_ENABLE = true ∧ up.on F.ORY_CTRL_ENABLE = false ∧ upOrrery.quadOn 0 = true ∧
    (∀ ty ∈ [1, 2, 3, 4, 14, 15], descOk (readDesc ty (jobBytes ty 0)) = true ∧ upOrrery.slotOk 5 (readDesc ty (jobBytes ty 0)) = true ∧
      bitAt (readDesc ty (jobBytes ty 0)).ctrl 1 = false ∧ (readDesc ty (jobBytes ty 0)).eng / 16 = 0) ∧
    upOrrery.openLevel 0 + 1 ≤ upOrrery.freeEntries 0 ∧ descOk (readDesc 2 (jobBytes 3 0)) = false ∧
    upFull.freeEntries 0 < upFull.openLevel 0 + 1 := by decide

theorem witness_OrreryChainedPost : descOk (readDesc 1 (jobBytes 1 2)) = true ∧
    chainOk (readDesc 1 (jobBytes 1 2)) (some (readDesc 4 (jobBytes 4 0))) = true ∧
    upOrrery.slotOk 5 (readDesc 1 (jobBytes 1 2)) = true ∧ upOrrery.slotOk 5 (readDesc 4 (jobBytes 4 0)) = true ∧
    upOrrery.openLevel 0 + 2 ≤ upOrrery.freeEntries 0 := by decide

/-- A structure loaded for jobs of type 2. -/
def upStruct : Struct := { noStruct with ty := 2, state := 1, sid := 7 }
/-- The cycle after a job's release, its structure loaded. -/
def upGrant : State := { upOrrery with cdr := { upOrrery.cdr with cyc := 1 }, ory := { upOrrery.ory with queue := [upJob], structs := [(0, upStruct)] } }
/-- A job of the application cluster runs. -/
def upRuns : State := upOrrery.modOry fun o => { o with runs := [⟨0, upJob, 0, 0, 77, [], [], none, none, none, none, []⟩] }

theorem witness_OrreryRunsJobs : upGrant.canonical = true ∧ (upGrant.planEntry 0).role ≠ 0 ∧ (upGrant.planEntry 126).role = 0 ∧
    upGrant.runOf 0 = none ∧ upGrant.quadOn 0 = true ∧ firstJob (upGrant.grantable 0) = some upJob ∧ upJob.pass2 = false ∧
    upGrant.finds upJob.d = some upStruct ∧ (upGrant.jobDeltas upJob.d).all (deltaOk upStruct) = true ∧ up.quadOn 3 = false ∧
    (upRuns.runOf 0).isSome = true ∧ upGrant.tb.freeStep = none ∧ (upGrant.ory.queue.filter fun x => x.d.slot == 0) = [upJob] ∧
    upGrant.ory.runs = [] ∧ up.ory.queue = [] ∧ upRuns.ory.done = [] := by decide

/-- A queue of one job. -/
def upQueue (j : Job) : State := { upGrant with ory := { upGrant.ory with queue := [j] } }
/-- A FREE, of the structure loaded or of another. -/
def freeJob (sid : Nat) : Job := { upJob with d := { readDesc 15 (jobBytes 15 0) with sid } }
/-- A LOAD of the smallest KF-QR structure. -/
def loadJob : Job := { upJob with d := { readDesc 14 (jobBytes 14 0) with img := some { noStruct with ty := 2, n := 1, m := 1, size := footprint 2 1 1 0 0 } } }

theorem witness_OrreryRunsJobs_area : firstJob ((upQueue (freeJob 7)).grantable 0) = some (freeJob 7) ∧
    ((upQueue (freeJob 7)).finds (freeJob 7).d).isSome = true ∧ firstJob ((upQueue (freeJob 8)).grantable 0) = some (freeJob 8) ∧
    (upQueue (freeJob 8)).finds (freeJob 8).d = none ∧ (freeJob 8).chain = none ∧ (freeJob 8).pass2 = false ∧
    firstJob ((upQueue loadJob).grantable 0) = some loadJob ∧ ((upQueue loadJob).loadStruct loadJob.d).isSome = true ∧ loadJob.pass2 = false ∧
    (upQueue loadJob).areaUsed 0 0 + footprint 2 1 1 0 0 ≤ 245760 ∧ (upRuns.ory.runs.filter fun r => r.job.d.slot == 0).length = 1 ∧
    upRuns.tb.freeStep = none ∧ upJob.d.ty = 2 ∧ firstJob (up.grantable 0) = none := by decide +kernel

theorem witness_OrreryStructuresAndPlan : upGrant.struct? 0 0 = some upStruct ∧ upGrant.struct? 63 3 = none ∧
    upGrant.ory.done = [] ∧ upGrant.canonical = true := by decide

theorem witness_ControlCommits : up.domOn 9 = true ∧ up.canonical = true := by decide

/-- A Collimation run in state `st` with CTL_COL_CYC at `cyc`. -/
def upCol (st cyc : Nat) : State := (up.put F.CTL_COL_STATUS_STATE st).wrn Reg.CTL_COL_CYC_LO cyc

theorem witness_CollimationStates : (upCol 0 1).fld F.CTL_COL_STATUS_STATE = 0 ∧ (upCol 0 1).cdr.cyc < (upCol 0 1).colCyc ∧
    (upCol 0 0).colCyc ≤ (upCol 0 0).cdr.cyc ∧ (upCol 1 1).fld F.CTL_COL_STATUS_STATE = 1 ∧ (upCol 2 0).fld F.CTL_COL_STATUS_STATE = 2 ∧
    (upCol 2 0).colCyc + (upCol 2 0).fld F.CTL_COL_DUR_DUR ≤ (upCol 2 0).cdr.cyc ∧
    (upCol 2 1).cdr.cyc < (upCol 2 1).colCyc + (upCol 2 1).fld F.CTL_COL_DUR_DUR ∧ (upCol 2 0).canonical = true ∧
    (upCol 2 0).domOn 9 = true := by decide

/-- The control set holds one azimuth thruster of two sectors, which has counted toward its lower edge. -/
def upAz : State :=
  (((((up.wrn 0x82000 0x534C5443).wrn 0x82004 0x00010000).wrn 0x82080 0x00020002).wrn 0x820A0 0xFFFF0000).wrn 0x820A4 0xFFFF0000).modCtl
    fun c => { c with edges := [(1, 65535)] }

theorem witness_SolverAndSectors : (up.put F.CTL_MISS_MISS_RUN 255).missLimit ≤ (up.put F.CTL_MISS_MISS_RUN 255).fld F.CTL_MISS_MISS_RUN ∧
    (up.put F.CTL_MISS_MISS_RUN 255).on F.CTL_STATUS_SOLVER_LOST = false ∧ (upCol 2 0).colRuns = true ∧ up.colRuns = false ∧ up.fld F.CTL_MISS_MISS_RUN < up.missLimit ∧
    upAz.canonical = true ∧ upAz.domOn 9 = true ∧ upAz.dwell ≤ 65535 ∧
    ((upAz.thrs.find? fun z => z.idx == 0 && z.isAz).map fun x => decide ((upAz.ctl.edges.getD x.idx (0, 0)).1 ≠ 0 ∧
      upAz.dwell ≤ (upAz.ctl.edges.getD x.idx (0, 0)).2 ∧
      inSector (x.sects.getD (sectAcross x.sects.length (upAz.sector x.idx) (upAz.ctl.edges.getD x.idx (0, 0)).1) (0, 0))
        (upAz.fbAz x.idx) = true)) = some true ∧ up.thrs = [] := by decide +kernel

/-- A hypothesis latched and not acknowledged, with a fallback that is too old. -/
def upEph : State := { up with
  cdr := { up.cdr with cyc := 100000000 }
  eph := { up.eph with hyps := List.replicate 63 ⟨.latched .pin 0, some ⟨[], [], [], 0, false⟩, false, .none⟩ } }
theorem witness_EphemerisTimers : upEph.overdue 62 = true ∧ up.overdue 0 = false ∧
    ({ upEph with eph := { upEph.eph with lsDue := true } } : State).eph.lsDue = true ∧ upEph.eph.lsDue = false ∧
    (upEph.setTo F.EPH_STATUS_LS_ACTIVE true).on F.EPH_STATUS_LS_ACTIVE = true ∧ upEph.eph.lsEnd ≤ upEph.cdr.cyc ∧
    ((upEph.hyp 62).fb.map fun f => decide (f.cyc + upEph.fbMaxAge < upEph.cdr.cyc)) = some true ∧ (up.hyp 0).fb = none ∧
    upEph.canonical = true ∧ upEph.domOn 9 = true ∧ up.on F.EPH_STATUS_LS_ACTIVE = false := by decide

/-- The parameters of a guard image of one thruster, bytes 0 to 679. -/
def guardBody : List Byte :=
  [0x47, 0x52, 0x44, 0x50, 1, 0, 1, 1, 0, 0, 0, 0, 10, 1, 2, 0, 30, 0] ++ List.replicate 18 0 ++ [1] ++ List.replicate 27 0 ++
    [1, 0, 0xFF, 0x7F, 0xFF, 0x7F, 0xFF, 0x7F, 0xFF, 0x7F] ++ List.replicate 606 0
/-- The image with its check word, confirmed. -/
def guardImage : List Byte := guardBody ++ leBytes 4 (imageCv guardBody) ++ leBytes 4 (imageCv guardBody)
/-- The guard is powered and in a state, with its parameters and the beats it has taken. -/
def upGuard (g : Nat) : State := { up.put F.GRD_STATUS_GSTATE g with
  grd := { up.grd with powered := true, image := if g = gLoad then [] else guardBody, beat := some ⟨0xA5000000, 5⟩, sv := some ⟨svWord0, 7⟩ } }

/-- A guard armed with EDS_FILT and GT_FILT of an image. -/
def upFilter (f : Byte) : State := { (upGuard gArmed).put F.GRD_STATUS_IMAGE 3 with
  grd := { (upGuard gArmed).grd with image := setAt (setAt guardBody 15 f) 18 f } }

/-- Both inputs are active and outlast their filters at a device time. -/
def upFiltering (at' : Int) : State := { upGuard gArmed with
  grd := { (upGuard gArmed).grd with eds := true, gt := true, edsAt := some at', gtAt := some at' } }

/-- R283: an EDS_IN that outlasts its filter trips, a shorter one leaves no cause. -/
theorem test_eds_filter : (match execEdsIn (upFilter 1), execEdsIn (upFiltering 7), execEdsInReleased (upFilter 1) with
      | .next a, .next b, .next c => (a.gstate, a.grd.edsAt, b.gstate, b.grd.latched, c.gstate, c.grd.latched)
      | _, _, _ => (0, none, 0, 0, 0, 0)) = (gArmed, some 10, gTripped, 1, gArmed, 0) := by decide +kernel

theorem witness_TripCauses : (∀ g ∈ [gSafe, gArmed, gDegraded], (upGuard g).canonical = true ∧ (upGuard g).grd.powered = true ∧
      (upGuard g).gstate = g) ∧ (upGuard gArmed).grd.eds = false ∧ ((upGuard gArmed).put F.GRD_STATUS_IMAGE 3).edsEn = true ∧
    (upGuard gArmed).grd.sv.isSome = true ∧ beatOk (upGuard gArmed).grdTbase ⟨0xA5000000, 5⟩ 0 0 = false ∧
    svOk (upGuard gArmed).grdTfast ⟨svWord0, 7⟩ 5 5 = false ∧ (89843 < 89844 ∧ 105469 < 105470) ∧ (upGuard gArmed).grdRuns = true ∧
    (upFilter 0).edsEn = true ∧ (upFilter 0).grd.eds = false ∧ (upFilter 0).grdFilt 15 = 0 ∧ (upFilter 0).grd.gt = false ∧
    (upFilter 0).grdFilt 18 = 0 ∧ (upFiltering 7).canonical = true ∧ (upFiltering 7).grd.powered = true ∧ (upFiltering 7).grd.eds = true ∧
    (upFiltering 7).grd.edsAt.isSome = true ∧ (upFiltering 7).grd.gt = true ∧ (upFiltering 7).grd.gtAt.isSome = true ∧ (upGuard gLoad).canonical = true ∧
    (upGuard gLoad).grd.powered = true := by decide

theorem witness_GuardIgnores : ({ upGuard gArmed with grd := { (upGuard gArmed).grd with eds := true } } : State).grd.eds = true ∧
    ({ up with grd := { up.grd with powered := false } } : State).grdRuns = false ∧ up.grd.degStart = none ∧
    (upGuard gSafe).gstate ≠ gLoad ∧ up.cdr.grid = false ∧ up.grd.sv = none ∧ (upGuard gArmed).edsEn = false ∧ (upGuard gArmed).grd.eds = false ∧
    ({ upGuard gArmed with grd := { (upGuard gArmed).grd with eds := true } } : State).grd.edsAt = none ∧
    ({ upGuard gArmed with grd := { (upGuard gArmed).grd with gt := true } } : State).grd.gt = true ∧
    ({ upGuard gArmed with grd := { (upGuard gArmed).grd with gt := true } } : State).grd.gtAt = none ∧
    0 < (upFilter 1).grdFilt 15 ∧ 0 < (upFilter 1).grdFilt 18 ∧ (upFilter 1).canonical = true ∧ (upFilter 1).grd.eds = false ∧
    (upFilter 1).edsEn = true ∧ (upFilter 1).grd.gt = false ∧ (upGuard gArmed).canonical = true ∧
    ({ up with grd := { up.grd with powered := false } } : State).grd.powered = false ∧
    ({ up with grd := { up.grd with decided := true } } : State).grd.decided = true := by decide

/-- The guard tripped, with causes latched and present. -/
def upTripped (latched present : Nat) : State :=
  { upGuard gTripped with grd := { (upGuard gTripped).grd with latched, present } }

theorem witness_CausesClear_due : (upFiltering 0).inputDue (upFiltering 0).grd.edsAt = true ∧ (upFiltering 0).inputDue (upFiltering 0).grd.gtAt = true ∧
    (upFiltering 0).canonical = true ∧ (upFiltering 0).grd.powered = true := by decide

theorem witness_CausesClear : (upTripped 3 0).inputDue (upTripped 3 0).grd.edsAt = false ∧
    (upTripped 3 0).inputDue (upTripped 3 0).grd.gtAt = false ∧ (upTripped 3 0).canonical = true ∧ (upTripped 3 0).grdRuns = true ∧ (upTripped 3 0).gstate = gTripped ∧
    (upTripped 3 0).grd.latched &&& 0x7DC = 0 ∧ (upTripped 3 1).grd.present ≠ 0 ∧ (upTripped 3 0).grd.powered = true ∧
    (upGuard gSafe).gstate ≠ gTripped ∧ (upGuard gSafe).grd.powered = true ∧
    (upGuard gSafe).inputDue (upGuard gSafe).grd.edsAt = false ∧ (upGuard gSafe).inputDue (upGuard gSafe).grd.gtAt = false ∧
    (upTripped 3 1).gstate = gTripped ∧ (upTripped 3 1).canonical = true := by decide

theorem witness_GuardLoads : (upGuard gLoad).gstate = gLoad ∧ (upGuard gLoad).grd.powered = true ∧ (upGuard gLoad).canonical = true ∧
    (upGuard gLoad).grd.image.length + 1 < 688 ∧ (upGuard gLoad).grd.latched = 0 ∧ (upGuard gLoad).grd.eds = false ∧
    688 ≤ (upGuard gLoad).grd.image.length + (List.replicate 688 (0 : Byte)).length ∧
    imageOk ((upGuard gLoad).grd.image ++ List.replicate 688 0) = false := by decide +kernel

set_option maxRecDepth 100000 in
theorem witness_GuardLoads_good : guardImage.length = 688 ∧ imageOk guardImage = true := by decide +kernel

theorem witness_HeartbeatsAccepted : (upGuard gArmed).canonical = true ∧ (upGuard gArmed).grdRuns = true ∧
    beatOk (upGuard gArmed).grdTbase ⟨0xA5000000, 5⟩ 0x5A010000 10000005 = true ∧
    svPair (upGuard gArmed).grdTfast ⟨svWord0, 7⟩ svWord1 1000007 = true ∧
    ({ upGuard gArmed with grd := { (upGuard gArmed).grd with sv := none } } : State).grd.sv = none := by decide

/-- A staged set that meets every check. -/
def releasable : List (Nat × Word) := [(0, 0x01), (8, 0x40000000), (9, 0x80000000)]
/-- A staged set of the cycle before the guard in state `g`, after `q` cycles that qualify. -/
def upDecide (g q : Nat) (staged : List (Nat × Word)) : State := { upGuard g with
  cdr := { up.cdr with grid := true, staged, cyc := 1, stagedCyc := some 1, stageTime := 100 }
  grd := { (upGuard g).grd with beat := some ⟨0x5A018000, 5⟩, sv := some ⟨svWord0, 7⟩, beatAt := 100, qualify := q } }

theorem witness_GuardDecides : (upDecide gArmed 0 releasable).canonical = true ∧ (upDecide gArmed 0 releasable).grd.decided = false ∧
    (upDecide gArmed 0 releasable).grd.released = false ∧ (upDecide gArmed 0 releasable).cdr.grid = true ∧
    (upDecide gArmed 0 releasable).tb.freeStep = none ∧ (upDecide gArmed 0 releasable).gstate = gArmed ∧
    (upDecide gDegraded 0 releasable).gstate = gDegraded ∧
    ((upDecide gArmed 0 [(0, 1)]).grdVerdict 0).why ≠ 0 ∧
    ((upDecide gArmed 0 releasable).grdVerdict 0).why = 0 ∧
    (upDecide gSafe 7 releasable).grd.qualify = 7 ∧ (upDecide gSafe 6 releasable).grd.qualify < 7 ∧
    (upDecide gSafe 7 releasable).svValid = true ∧ (upDecide gSafe 7 releasable).rdn Reg.GRD_DEG = 0 ∧
    (upDecide gArmed 0 releasable).grd.edsAt = none ∧ (upDecide gArmed 0 releasable).grd.gtAt = none ∧
    ({ upDecide gArmed 0 releasable with grd := { (upDecide gArmed 0 releasable).grd with edsAt := some 130 } } : State).canonical = true ∧
    (130 : Int) ≤ ((upDecide gArmed 0 releasable).cdr.stageTime + 30 : Nat) := by decide +kernel

theorem witness_GuardDegrades : bitAt ((upGuard gArmed).rdn Reg.GRD_DEG) 2 = false ∧ bitAt ((upGuard gArmed).rdn Reg.GRD_DEG) 3 = false ∧
    (upGuard gDegraded).gstate = gDegraded ∧ (upGuard gArmed).grd.degStart = none ∧
    ({ upGuard gDegraded with grd := { (upGuard gDegraded).grd with degStart := some 5 } } : State).grd.degStart = some 5 ∧
    ({ upGuard gDegraded with grd := { (upGuard gDegraded).grd with degStart := some 5 } } : State).canonical = true := by decide

/-- A unit of a group of two, in RSTATE `r`, with the first-start waiver. -/
def upPair (r : Nat) : State :=
  ((((((up.put F.RDN_STATUS_GRP_SIZE 2).put F.RDN_STATUS_RANK 1).put F.RDN_STATUS_RSTATE r).setTo F.RDN_FIT_WAIVED true).put
    F.CDR_STATUS_STATE 3).put F.GRD_STATUS_GSTATE gArmed).put F.GRD_STATUS_IMAGE 3
/-- It is fit: the guard is powered and the fusion unit publishes. -/
def upFit : State := { (upPair rStandby).wrn 0x6308C 2 with grd := { up.grd with powered := true } }
/-- It drives its line, and 3 µs have passed since it claimed. -/
def upClaims (r : Nat) : State := { (upPair r).modRed fun x => { x with out := true, claimAt := 0 } with tb := { up.tb with now := ⟨3000, 0⟩ } }

theorem witness_InterlockClaims : upFit.canonical = true ∧ upFit.domOn 9 = true ∧ upFit.tb.freeStep = none ∧ upFit.station = false ∧
    upFit.rstate = rStandby ∧ upFit.claimedBy ⟨false, false, false⟩ = [] ∧ upFit.claimedBy ⟨true, true, false⟩ ≠ [] ∧
    upFit.eon F.RDN_CTRL_STANDBY_ONLY = false ∧ upFit.failMask = 0 ∧ upFit.partners ≠ [] ∧ (upClaims rActive).rstate ≠ rStandby ∧
    (upClaims rStandby).rstate = rStandby ∧ (upClaims rStandby).red.out = true ∧
    (∃ p ∈ (upClaims rStandby).claimedBy ⟨true, true, false⟩, p.2 ≤ (upClaims rStandby).rank) ∧
    (∀ p ∈ ((upClaims rStandby).put F.RDN_STATUS_RANK 0).claimedBy ⟨true, true, false⟩,
      ((upClaims rStandby).put F.RDN_STATUS_RANK 0).rank < p.2) := by decide

theorem witness_RolesChange : (upClaims rActive).canonical = true ∧ (upClaims rActive).isActive = true ∧
    (b2n false, 0) ∈ (upClaims rActive).partners ∧ 0 < (upClaims rActive).rank ∧
    (upClaims rActive).red.claimAt + 2000 < (upClaims rActive).now ∧
    (b2n false, 1) ∈ ((upClaims rActive).put F.RDN_STATUS_RANK 0).partners ∧ ((upClaims rActive).put F.RDN_STATUS_RANK 0).rank < 1 ∧
    (∀ p ∈ (upClaims rActive).partners, p.1 ≠ b2n true) ∧ upFit.isActive = false ∧ upFit.station = false ∧ upFit.rstate = rStandby ∧
    (upPair rDiagnostic).rstate ≠ rStandby ∧ (upPair rDiagnostic).isActive = false ∧ State.reset.domOn 9 = false ∧
    (upFit.modRed fun x => { x with quiet := 500, heard := false }).red.quiet = 500 ∧
    (upFit.modRed fun x => { x with quiet := 499, heard := false }).red.quiet < 500 := by decide

/-- A record of a kind that fails its checks, in one fragment. -/
def upFrags (r : Nat) : State := (upPair r).modRed fun x => { x with frags := [⟨3, 0, 1, 0, 1, [1]⟩, ⟨3, 0, 2, 0, 1, [1]⟩] }

theorem witness_MirrorRecords : (upFrags rStandby).canonical = true ∧ (upFrags rStandby).domOn 9 = true ∧
    ((upFrags rStandby).wholeRecord 3 1).map (·.2) = some [1] ∧ (upFrags rStandby).recordOk 1 [1] = false ∧
    (upFrags rStandby).wholeRecord 0 2 = none ∧ (upFrags rStandby).cdr.grid = false ∧
    ((upFrags rStandby).modCdr fun c => { c with grid := true, t0 := 5 }).now < ((upFrags rStandby).modCdr fun c => { c with grid := true, t0 := 5 }).at F.CDR_OFS_C_OUT_OFFSET ∧
    ((upFrags rStandby).modCdr fun c => { c with grid := true, t0 := 5 }).now < ((upFrags rStandby).modCdr fun c => { c with grid := true, t0 := 5 }).at F.CDR_OFS_B_STAGE_DL ∧
    ((upFrags rStandby).setTo F.RDN_CTRL_REHEARSE true).on F.RDN_CTRL_REHEARSE = true ∧
    ((upFrags rStandby).setTo F.RDN_CTRL_REHEARSE true).rehCyc = ((upFrags rStandby).setTo F.RDN_CTRL_REHEARSE true).cdr.cyc ∧
    ((upFrags rStandby).claimedBy ⟨true, true, false⟩).length = 1 ∧ ((upFrags rStandby).claimedBy ⟨true, false, false⟩).length ≠ 1 ∧
    (∃ p ∈ (upFrags rStandby).partners, (upFrags rStandby).recordMissing true p.1 = true ∨
      ((upFrags rStandby).put F.RDN_PARTNER0_RSTATE 2).recordMissing true p.1 = true) := by decide

/-- The 64-byte header of a record of a kind with `n` bytes behind it, from partner 0. -/
def recHead (kind n crc : Nat) : List Byte :=
  [0x4D, 0x52, 0x4C, 0x4B, BitVec.ofNat 8 kind, 0, 0, 2] ++ List.replicate 44 0 ++ leBytes 2 (64 + n) ++ List.replicate 6 0 ++ leBytes 4 crc
/-- A whole record. -/
def goodRecord (kind n : Nat) : List Byte :=
  recHead kind n (crc32c ((recHead kind n 0) ++ List.replicate n 0)) ++ List.replicate n 0

set_option maxRecDepth 100000 in
theorem witness_MirrorRecords_good : (upPair rStandby).recordOk 2 (goodRecord 2 316) = true ∧
    (upPair rStandby).partners.find? (·.2 == fieldLe (goodRecord 2 316) 5 1) = some (0, 0) ∧
    (upPair rStandby).recordOk 1 (goodRecord 1 512) = true := by decide +kernel

/-- A station on ring 0 in SSTATE `k`, its ports up. -/
def upStation (k : Nat) : State :=
  let s := ((up.put F.XL_SELF_STN 5).put F.XL_STATUS_LINK 15).put F.XL_SELF_SSTATE k
  { s with station := true, xl := { s.xl with rings := [{ XlRing.init with table := [1] }, .init] } }

theorem witness_StationRole : (upStation 0).canonical = true ∧ (upStation 0).station = true ∧ (upStation 0).domOn 10 = true ∧
    (upStation 0).sstate = 0 ∧ (upStation 0).xLink 0 = true ∧ (upStation 0).xLink 1 = true ∧ ((upStation 0).xring 0).table ≠ [] ∧
    (upStation 0).fld F.XL_SELF_STN ≠ 0 ∧ (upStation 3).sstate = 3 ∧ (upStation 6).sstate = 6 ∧ (upStation 2).sstate = 2 ∧
    (upStation 2).on F.XL_SELF_PARAM_MISMATCH = false ∧ ((upStation 2).put F.XL_SELF_PARAM_MISMATCH 1).on F.XL_SELF_PARAM_MISMATCH = true ∧
    (upStation 5).fld F.XL_RING0_CFG_HOLD_LIMIT ≤ ((upStation 5).put F.XL_SELF_HOLD_CNT 255).fld F.XL_SELF_HOLD_CNT ∧
    ((upStation 5).put F.XL_RING0_CFG_HOLD_LIMIT 1).fld F.XL_SELF_HOLD_CNT < ((upStation 5).put F.XL_RING0_CFG_HOLD_LIMIT 1).fld F.XL_RING0_CFG_HOLD_LIMIT ∧
    (upStation 4).outValid = none ∧ (upStation 4).tb.freeStep = none ∧
    ({ upStation 4 with
        grd := { up.grd with released := true }
        xl := { (upStation 4).xl with stn := { (upStation 4).xl.stn with stored := some ⟨7, true, []⟩ } } } : State).outValid.isSome = true ∧
    up.station = false ∧ (upStation 4).cdr.grid = false ∧ (upStation 4).xl.stn.step = 0 ∧
    ({ upStation 4 with cdr := upGrid.cdr } : State).cdr.t0 = ({ upStation 4 with cdr := upGrid.cdr } : State).now ∧
    (({ upStation 4 with cdr := { upGrid.cdr with t0 := 5 } } : State).nextSample.isSome = true) ∧
    bitAt ((upStation 0).fld F.XL_STATUS_CFG_REFUSED) 0 = false := by decide

/-- All four Xonlink ports are up. -/
def upPorts : State := up.put F.XL_STATUS_LINK 15
/-- A frame of a kind for the node of this unit, in cycle 4. -/
def xlTest (kind : Nat) (payload : List Byte) : List Byte := upPorts.xlFrame 1 kind 0 0xFF 0 3 4 payload

theorem witness_XonlinkPorts : upPorts.canonical = true ∧ upPorts.domOn 10 = true ∧ upPorts.xl.ports.length = 4 ∧ upPorts.xLink 3 = true ∧
    up.xLink 3 = false ∧ (upPorts.put F.XL_STATUS_WRAP 15).xWrap 3 = true ∧ upPorts.xWrap 3 = false ∧
    upPorts.delayOk 0 (xlTest 5 []) .ok 5 = true ∧ fNode (xlTest 5 []) / 256 = upPorts.xSeg 0 ∧
    upPorts.delayOk 0 (xlTest 6 (leBytes 8 10 ++ leBytes 8 20)) .ok 6 = true ∧ fKind (xlTest 6 []) = 6 ∧ upPorts.delayDue 3 = true ∧
    up.delayDue 3 = false := by decide +kernel

/-- The ports' delays are measured, and the rings run; ring 0 has a table. -/
def upRings (r : Nat) : State := { ((upPorts.put F.XL_STATUS_RUN 3).put F.RDN_STATUS_RSTATE r) with
  xl := { up.xl with
    ports := List.replicate 4 ⟨some 5, 0, none, false, none⟩, rings := [{ XlRing.init with table := [1] }, .init] } }
/-- The same frame from a unit of rank 1. -/
def xlOther (kind : Nat) (payload : List Byte) : List Byte := ((upRings rActive).put F.RDN_STATUS_RANK 1).xlFrame 0 kind 0 0xFF 0 3 4 payload

theorem witness_XonlinkFramesPass : (upRings rActive).canonical = true ∧ (upRings rActive).xReady 0 = true ∧ up.xReady 3 = false ∧
    (upRings rActive).xUsable 1 = true ∧ upPorts.xUsable 1 = false ∧
    (∀ k ∈ [1, 2, 3, 4, 7], isXl (xlOther k (List.replicate 48 0)) = true ∧ hdrOk (xlOther k (List.replicate 48 0)) = true ∧
      (upRings rActive).isForeign 0 (xlOther k (List.replicate 48 0)) = false ∧ fKind (xlOther k (List.replicate 48 0)) = k ∧
      (upRings rActive).xlOwn 0 (xlOther k (List.replicate 48 0)) = false) ∧ isXl [] = false := by decide +kernel

/-- A ring table of one station, 5. -/
def oneStation : List Byte :=
  [0x58, 0x4C, 0x52, 0x47, 0, 1, 3, 1, 1, 1, 20, 0] ++ leBytes 4 1000 ++ leBytes 2 0 ++ List.replicate 14 0 ++
    [5, 255, 0, 0, 0, 0, 16, 0, 0, 0, 8, 0, 0, 0, 0, 0]
/-- Ring 0 with that table, and a station command in progress. -/
def upCommand (cmd : Option StnCmd) : State :=
  { upRings rActive with xl := { (upRings rActive).xl with cmd, rings := [{ XlRing.init with table := oneStation, stns := [.new 5] }, .init] } }

theorem witness_XonlinkLaunchesAndCommands : (upCommand none).canonical = true ∧ (upCommand none).mayLaunch 0 = true ∧
    up.mayLaunch 0 = false ∧ (upCommand none).tb.freeStep = none ∧ (upCommand none).isActive = true ∧
    (upCommand none).xlReturned 0 ((upCommand none).xlFrame 0 2 0 0xFF 0 0 0 (List.replicate 9 0 ++ [1] ++ List.replicate 6 0)) .ok 2 = true ∧
    (upCommand none).xlReturned 0 ((upCommand none).xlFrame 0 3 0 0xFF 0 0 0 (4 :: List.replicate 15 0)) .ok 3 = true ∧
    (∃ e ∈ tblEntries ((upCommand none).xring 0).table, eStn e = 5 ∧ eInFrame e = 0 ∧ eOutFrame e = 0 ∧ eNoOut e = false) ∧
    (∃ q ∈ ((upCommand none).xring 0).stns, q.stn = 5) ∧ (upCommand (some ⟨1, 0, 5, some 9, none⟩)).xl.cmd.isSome = true ∧
    (upRings rStandby).isActive = false ∧ ((upCommand none).stnSeen 0 5).clean < 16 ∧
    16 ≤ (((upCommand none).modStn 0 5 fun q => { q with clean := 16 }).stnSeen 0 5).clean ∧ (upStation 0).station = true ∧
    (upCommand (some ⟨1, 0, 5, some 0, none⟩)).cdr.cyc < 0 + 2 ∧
    ((upCommand (some ⟨1, 0, 5, some 0, none⟩)).modCdr fun c => { c with cyc := 2 }).cdr.cyc = 2 := by
  decide +kernel

theorem witness_DeviceTimeReads : (getNext (exec (.ptpTimeNs .host) up)).latchOf .host = (getNext (exec (.ptpTimeNs .host) up)).latchOf .host ∧
    Req.sup ≠ Req.host := by decide

/-- The time base LOCKED, with a step of `n` ns asked for. -/
def upStep (n : Nat) : State := (up.put F.PTP_STATUS_TB_STATE 1).wrn Reg.PTP_STEP_LO n
/-- A transmit timestamp waits since 0, and device time is `n`. -/
def upStamp (n : Nat) : State := { up.pushStamp 9 2 77 with tb := { (up.pushStamp 9 2 77).tb with now := ⟨n, 0⟩ } }

theorem witness_TimeBaseCommands : up.canonical = true ∧ up.station = false ∧ ({ up with station := true } : State).station = true ∧
    up.locked = false ∧ (upStep 0).locked = true ∧ (upStep 0).stepReg = 0 ∧ (upStep 77).stepReg.natAbs % (upStep 77).tbase ≠ 0 ∧
    (upStep 10000000).stepReg ≠ 0 ∧ (upStep 10000000).stepReg.natAbs % (upStep 10000000).tbase = 0 ∧ up.tb.remain = 0 ∧
    (up.modTb fun b => { b with remain := 1 }).tb.remain ≠ 0 ∧
    ((upStamp 5).tb.stamps.map fun e => decide (e.since = 77)) = [true] ∧
    (upStamp 0).tb.freeStep = none ∧
    ((upStamp 0).modTb fun b => { b with headLatched := true }).tb.headLatched = true ∧ up.tb.stamps = [] := by decide

/-- Port 1 sends and receives. -/
def upEth : State :=
  (((up.put (pf F.ETH_Pp_CFG_MODE 1) 1).setTo (pf F.ETH_Pp_STATUS_LINK 1) true).setTo (pf F.ETH_Pp_CFG_RX_EN 1) true).setTo
    (pf F.ETH_Pp_CFG_TX_EN 1) true
/-- A broadcast frame of a length. -/
def broadcast (n : Nat) : List Byte := List.replicate 6 0xFF ++ List.replicate (n - 6) 0
/-- A transmit descriptor launched at an instant. -/
def txAt (n : Nat) : TxDesc := ⟨0x1000, broadcast 60, 66, true, false, false, 5, n, 0, 0⟩
/-- Rings filled by software: eight receive buffers, one frame to send, one to launch. -/
def upEthRings : State := ((((upEth.put (pf F.ETH_Pp_PROD_RX 1) 8).put (pf F.ETH_Pp_PROD_TX 1) 1).put (pf F.ETH_Pp_PROD_LQ 1) 1)).modPort 1
  fun q => { q with tx := [⟨0, txAt 0, false, false, .pending⟩], lq := [⟨0, txAt 5000000, false, false, .pending⟩] }

theorem witness_EthernetPorts : upEth.canonical = true ∧ upEth.domOn 10 = true ∧ upEth.eth.length = 4 ∧ isMirror (broadcast 60) = false ∧
    upEth.rxRuns 1 = true ∧ upEth.txRuns 1 = true ∧ up.rxRuns 1 = false ∧ up.txRuns 1 = false ∧ (broadcast 60).length ≤ 1518 ∧
    isPause (broadcast 60) = false ∧ upEth.accepts 1 (broadcast 60) = true ∧ upEth.f450Hits 1 (broadcast 60) = [] ∧
    upEth.accepts 1 (List.replicate 60 2) = false ∧ upEth.fld (pf F.ETH_Pp_CONS_RX 1) = upEth.fld (pf F.ETH_Pp_PROD_RX 1) ∧
    upEthRings.fld (pf F.ETH_Pp_CONS_RX 1) ≠ upEthRings.fld (pf F.ETH_Pp_PROD_RX 1) ∧ (upEthRings.port 1).tx ≠ [] ∧
    (nextCommit (upEthRings.port 1).lq).isSome = true ∧ cancelResult upEthRings.now (upEthRings.port 1) 0 = 1 ∧ cancelResult upEth.now (upEth.port 1) 0 ≠ 1 ∧
    upEth.on (pf F.ETH_Pp_STATUS_LINK 1) = true ∧ upEth.on (pf F.ETH_Pp_STATUS_LINK 0) = false ∧
    upEth.on (pf F.ETH_Pp_CFG_RX_EN 1) = true ∧ upEth.on (pf F.ETH_Pp_CFG_TX_EN 1) = true := by decide +kernel

theorem witness_EthernetPorts_launch : ((getNext (exec (.launchCommit 1 1) upEthRings)).port 1).lq.map
    (fun e => decide (e.status = .pending) && e.committed) = [true] ∧ 1518 < (List.replicate 1519 (0 : Byte)).length := by
  rw [List.length_replicate]; decide +kernel

/-- Both launch rings of port 1 hold a committed frame, of ring 0 at `a` and of ring 1 at `b`. -/
def upLaunch (a b : Nat) : State := upEthRings.modPort 1 fun q => { q with
  lq0 := [⟨0, txAt a, true, false, .pending⟩], lq := [⟨0, txAt b, true, false, .pending⟩] }

theorem witness_EthernetPorts_order : (upEthRings.runTo (upEthRings.port 1).busyUntil).mayStart 1 60 = true ∧
    ((upLaunch 4 5000).runTo ((upLaunch 4 5000).port 1).busyUntil).mayStart 1 60 = false ∧ (upEth.port 1).tx = [] ∧
    ((upLaunch 4 8).nextLaunch 1 0).map (·.desc.launch) = some 4 ∧ ((upLaunch 4 8).nextLaunch 1 1).map (·.desc.launch) = some 8 ∧
    ((upLaunch 4 7).nextPending 1 0).bind (fun o => ((upLaunch 4 7).nextLaunch 1 1).map fun e => (upLaunch 4 7).commitsFirst o e 0) = some true ∧
    ((upLaunch 4 7).nextPending 1 1).bind (fun o => ((upLaunch 4 7).nextLaunch 1 0).map fun e => (upLaunch 4 7).commitsFirst o e 1) = some false ∧
    upEth.nextLaunch 1 0 = none ∧ up.fld (pf F.ETH_Pp_CFG_MODE 1) = 0 ∧ upEth.fld (pf F.ETH_Pp_CFG_MODE 1) ≠ 0 := by decide +kernel

/-- Main power with the supply valid, outside the lockout unless `lock`, and a sequence on PWR_ON_REQ. -/
def upMer (lock : Bool) (seq : PwrSeq) : State := up.modMer fun m => { m with lockout := lock, seq }
/-- The same, on a supply. -/
def offMer (vbat : Bool) : State := up.modMer fun m => { m with lockout := true, aonValid := false, onVbat := vbat }

theorem witness_MeridianSupplies : (upMer true .cycle).canonical = true ∧ (upMer true .cycle).mer.aonValid = true ∧
    (upMer true .cycle).mer.lockout = true ∧ (upMer false .none).mer.lockout = false ∧ (offMer true).mer.aonValid = false ∧
    (offMer true).mer.onVbat = true ∧ (offMer false).mer.onVbat = false ∧ (upMer true .none).fld F.BOOT_STATUS_STAGE = 0 ∧
    ((upMer true .none).put F.BOOT_STATUS_STAGE 8).fld F.BOOT_STATUS_STAGE ≠ 0 ∧ (upMer true .none).mer.seq = .none ∧
    ((upMer true .none).setTo F.MER_PWR_BO_EN true).on F.MER_PWR_BO_EN = true ∧ lcOf 8 = 4 ∧ up.on F.MER_STATUS_BAT_LOW = false ∧
    (up.setTo F.MER_STATUS_BAT_LOW true).on F.MER_STATUS_BAT_LOW = true ∧ (upMer false .none).merActive = false ∧
    ((upMer false .none).put F.RDN_STATUS_RSTATE 2).merActive = true ∧ up.mer.offRun = false ∧
    ((upMer false .cycle).modMer fun m => { m with offRun := true }).mer.offRun = true ∧ (upMer false .sleep).mer.onVbat = false := by
  decide

/-- Input edges of both kinds are enabled, and the FIFO holds `n` events. -/
def upEdges (n : Nat) : State := ((upMer false .none).wrn Reg.MER_EVI_CFG 0xFFFFFFFF).modMer fun m => { m with
  fifo := List.replicate n ⟨0, 0, 0⟩, latched := true }

theorem witness_MeridianCalendar : (upMer false .none).canonical = true ∧ ((upMer false .none).setTo F.MER_STATUS_HALTED true).on F.MER_STATUS_HALTED = true ∧
    (upMer false .none).on F.MER_STATUS_HALTED = false ∧ bitAt ((upEdges 0).eviEdges 3) 0 = true ∧ bitAt ((upEdges 0).eviEdges 0) 1 = true ∧
    bitAt ((upMer false .none).eviEdges 0) 0 = false ∧ 32 ≤ (upEdges 32).mer.fifo.length ∧ (upEdges 31).mer.fifo.length < 32 ∧
    (upEdges 1).mer.latched = true ∧ (upEdges 1).mer.fifo ≠ [] ∧ (upMer true .none).mer.lockout = true ∧
    ((upMer false .none).modMer fun m => { m with shift := some 70000 }).mer.shift.isSome = true ∧
    ((regRow? (calReg 1)).map fun r => decide (r.rsv ≠ 0)) = some true ∧ ((upMer false .none).setTo F.MER_CTRL_REL_EVI0 true).on F.MER_CTRL_REL_EVI0 = true := by
  decide

/-- A frame of 12 data bytes. -/
def canTest : CanFrame := ⟨false, true, false, false, 0x123, 9, List.replicate 12 7, 77⟩
/-- Channel 1 is live with FD, and object 5 receives the frame. -/
def upCan : State :=
  (((((up.setTo (cf F.CAN_CTRL_EN 1) true).setTo (cf F.CAN_CTRL_FD_EN 1) true).put (cf F.CAN_STATUS_STATE 1) 0).put
    (of F.CAN_OBJ_CFG_DIR 1 5) 1).setTo (of F.CAN_OBJ_CFG_FDF 1 5) true).wrn (objWord 1 5 1) 0x123
/-- It has received one, and its first word was read. -/
def upCanLocked : State := getNext (exec (.canWord0Read .host 1 5) (getNext (exec (.canFrameReceived 1 canTest) upCan)))

theorem witness_CanReceives : upCan.canonical = true ∧ upCan.domOn 9 = true ∧ upCan.can.length = 4 ∧ upCan.canLive 1 = true ∧
    up.canLive 1 = false ∧ upCan.on (cf F.CAN_CTRL_FD_EN 1) = true ∧ upCan.canMatch 1 5 canTest = true ∧ (∀ j, j < 5 → upCan.canMatch 1 j canTest = false) ∧
    upCan.on (of F.CAN_OBJ_CFG_LOCK 1 5) = false ∧ upCanLocked.on (of F.CAN_OBJ_CFG_LOCK 1 5) = true ∧ (upCanLocked.canOf 1).shadows = [] ∧
    canTest.data.length = dlcLen canTest.fdf canTest.dlc.val ∧ upCanLocked.isRx 1 5 = true ∧ upCanLocked.on (of F.CAN_OBJ_CFG_NEWDAT 1 5) = true ∧
    up.isRx 1 5 = false ∧ ((upCanLocked.canOf 1).locks.find? fun p => p.1 == 5).isSome = true ∧ (upCan.canOf 1).locks = [] := by decide +kernel

/-- Object 5 is pending, with the transmit error count `tec`. -/
def upCanTx (tec : Nat) : State :=
  (getNext (exec (.canTxreq .host 1 0 0x20) (upCan.put (of F.CAN_OBJ_CFG_DIR 1 5) 2))).modCan 1 fun q => { q with tec }

theorem witness_CanTransmits : (upCanTx 250).canonical = true ∧ (upCanTx 250).isPending 1 5 = true ∧ (upCanTx 250).canLive 1 = true ∧
    (upCanTx 250).can.length = 4 ∧ up.isPending 1 5 = false ∧ 255 < ((upCanTx 250).canOf 1).tec + 8 ∧
    (up.setTo (cf F.CAN_STATUS_RECOVERING 1) true).on (cf F.CAN_STATUS_RECOVERING 1) = true ∧ up.on (cf F.CAN_STATUS_RECOVERING 1) = false ∧
    upCan.on (cf F.CAN_CTRL_EN 1) = true ∧ up.on (cf F.CAN_CTRL_EN 1) = false ∧ up.on (cf F.CAN_CTRL_EN 3) = false := by decide +kernel

/-- UART 3 in a mode, with what it has received and what it is to send. -/
def upSer (mode : Nat) (line raw fifo : List Byte) : State :=
  (up.put (serFld F.SER_CFG_MODE 3) mode).modUart 3 fun q => { q with line, raw, fifo }

theorem witness_SerialAndPins : (upSer 1 [] [7] [7]).canonical = true ∧ up.domOn 9 = true ∧ (upSer 1 [] [7] [7]).uart.length = 8 ∧
    up.dio.pins.length = 64 ∧ (upSer 0 [] [] []).serMode 3 = 0 ∧ (upSer 1 [] [] []).serMode 3 = 1 ∧ 2 ≤ (upSer 2 [] [] []).serMode 3 ∧
    ((upSer 2 [0x24] [] []).ser 3).line ≠ [] ∧ 82 ≤ ((upSer 2 (List.replicate 82 0x24) [] []).ser 3).line.length ∧
    83 ≤ ((upSer 1 [] (List.replicate 83 0) []).ser 3).raw.length ∧ ((upSer 1 [] [7] [7]).ser 3).raw ≠ [] ∧
    ((upSer 1 [] [7] [7]).ser 3).fifo = [7] ∧ ((upSer 1 [] [] []).ser 3).fifo.length < 256 ∧
    (up.setTo (serFld F.SER_STATUS_RX_ACTIVE 3) true).on (serFld F.SER_STATUS_RX_ACTIVE 3) = true ∧
    up.on (serFld F.SER_STATUS_RX_ACTIVE 3) = false ∧ (up.pin 63).level = false ∧ up.cdr.servoHeld = false ∧
    (up.modCdr fun c => { c with servoHeld := true }).cdr.servoHeld = true := by decide

/-- Channel 1 is on, configured as order and ratio ask, with coefficient bank 9 in its first filter. -/
def upSdf : State := (up.put F.SDF_EN_EN 2).put (chFld F.SDF_CHc_CFG_STAGE1 1) 1

theorem witness_SigmaDeltaChannels : upSdf.canonical = true ∧ upSdf.domOn 9 = true ∧ upSdf.sdf.length = 32 ∧ upSdf.sdfOn 1 = true ∧
    upSdf.sdfOn 0 = false ∧ upSdf.clkLost 0 = false ∧ upSdf.sdmOut 0 = false ∧ ((upSdf.chain 1).fir 2).fade = none ∧
    ((upSdf.modFir 1 2 fun f => { f with fade := some (3, 5) }).chain 1 |>.fir 2).fade.isSome = true ∧
    (∃ c, c < 32 ∧ (upSdf.put (firFld F.SDF_CHc_FIR1_SET_A 1 1) 9).setUsedBy 9 c = true) ∧ (∀ c, c < 32 → up.setUsedBy 9 c = false) := by
  decide +kernel

/-- Ring 3 configured for eight entries each way, requests allowed. -/
def upRingCfg : State := ((up.put (rf F.HIF_Rk_SIZE_SQ_SIZE 3) 7).put (rf F.HIF_Rk_SIZE_CQ_SIZE 3) 7).put F.HIF_LINK_BME 1
/-- Ring 3 in a STATE, with a doorbell at 3 taken and what is in flight. -/
def upRing (st : Nat) (flight : List HostDesc) (retry : Option HostRead) : State :=
  (upRingCfg.put (rf F.HIF_Rk_STATUS_STATE 3) st).modRing 3 fun r => { r with sqTail := 3, flight, retry }
/-- A descriptor of an opcode in a phase, with eight bytes of data and PARAM from byte 24 on. -/
def hostTest (opcode len : Nat) (param : List Byte) (phase : DescPhase) : HostDesc :=
  ⟨5, 0, 77, opcode, 0, if len = 0 then 0 else 0x1000, len, (param ++ List.replicate 40 0).take 40, phase, 0, 0, noInfo⟩

theorem witness_RingsFetchAndComplete : (upRing 1 [] none).canonical = true ∧ (upRing 1 [] none).domOn 10 = true ∧
    (upRing 1 [] none).hif.rings.length = 16 ∧ upRingCfg.variant = .ci ∧ upRingCfg.ringState 3 = 0 ∧ upRingCfg.ringCfgOk 3 = true ∧
    upRingCfg.on F.HIF_LINK_RECOVERING = false ∧ up.ringCfgOk 3 = false ∧ (upRing 1 [] none).ringState 3 = 1 ∧
    (upRing 1 [] none).ory.queue = [] ∧ (upRing 1 [] none).ory.done = [] ∧ (upRing 1 [] none).cdr.carrier = none ∧
    ((5 : Word).toNat < (upRing 1 [] none).sqSize 3 ∧
      ringDist ((upRing 1 [] none).sqSize 3) ((upRing 1 [] none).sqHead 3) ((upRing 1 [] none).hring 3).sqTail ≤
        ringDist ((upRing 1 [] none).sqSize 3) ((upRing 1 [] none).sqHead 3) (5 : Word).toNat) ∧
    ¬((8 : Word).toNat < (upRing 1 [] none).sqSize 3) ∧
    (((upRing 1 [] none).put (rf F.HIF_Rk_STATUS_CQ_TAIL 3) 2).cqTail 3 = 2 ∧ ringDist 8 0 2 ≤ ringDist 8 0 2 ∧ ¬ ringDist 8 0 3 ≤ ringDist 8 0 2) ∧
    (upRing 1 [] none).mayFetch 3 = true ∧ (upRing 0 [] none).mayFetch 3 = false ∧
    ((upRing 1 [] (some .fetch)).hring 3).retry = some .fetch ∧ ((upRing 1 [] (some (.data 5))).hring 3).retry = some (.data 5) ∧
    ((upRing 1 [hostTest 3 8 (leBytes 8 0x100) .fetched] (some (.data 5))).hring 3).flight.find? (fun e => e.uid == 5) =
      some (hostTest 3 8 (leBytes 8 0x100) .fetched) ∧
    (upRing 1 [hostTest 3 8 (leBytes 8 0x100) .fetched] (some (.data 5))).refusal (hostTest 3 8 (leBytes 8 0x100) .fetched) = none ∧
    ((upRing 1 [] none).hring 3).chained = none ∧
    (((upRing 1 [] none).modRing 3 fun r => { r with chained := some (5, readDesc 1 []) }).hring 3).chained.isSome = true ∧
    (upRing 1 [] none).readInProgress 3 = some .fetch ∧ up.readInProgress 3 = none ∧
    (upRing 1 [hostTest 0 0 [] .ended] none).cqRoom 3 = true ∧ (upRing 1 [hostTest 0 0 [] .ended] none).mayPost = true ∧
    (upRing 1 [hostTest 0 0 [] .fetched] none).nextDispatch 3 = some (hostTest 0 0 [] .fetched) := by decide +kernel

theorem witness_RingsFetchAndComplete_timer :
    (((upRing 1 [] none).put (rf F.HIF_Rk_CTRL_TIMER 3) 5).setTo (rf F.HIF_Rk_CTRL_IRQ_EN 3) true).on (rf F.HIF_Rk_CTRL_IRQ_EN 3) = true ∧
    ((upRing 1 [] none).put (rf F.HIF_Rk_CTRL_TIMER 3) 5).fld (rf F.HIF_Rk_CTRL_TIMER 3) ≠ 0 ∧
    (((upRing 1 [] none).modRing 3 fun r => { r with irqCount := 1 }).hring 3).irqCount ≠ 0 ∧ (upRing 1 [] none).tb.freeStep = none := by
  decide +kernel

/-- Ring 3 with one descriptor of an opcode to dispatch. -/
def upOpcode (opcode len : Nat) (param : List Byte) : State := upRing 1 [hostTest opcode len param .fetched] none

theorem witness_HostCommandsAndLink :
    (∀ c ∈ [(1, 64, leBytes 8 0x100 ++ leBytes 4 64), (3, 8, leBytes 8 0x100), (4, 64, leBytes 8 0x1000), (6, 4096, leBytes 8 0x10000),
        (6, 0, leBytes 8 0x10000)],
      (upOpcode c.1 c.2.1 c.2.2).dispatchOf 3 c.1 = some (hostTest c.1 c.2.1 c.2.2 .fetched) ∧
      (upOpcode c.1 c.2.1 c.2.2).refusal (hostTest c.1 c.2.1 c.2.2 .fetched) = none) ∧
    (upOpcode 3 8 []).mayPost = true ∧ ((upOpcode 3 8 []).put F.HIF_LINK_BME 0).mayPost = false ∧
    (upOpcode 3 6 []).refusal (hostTest 3 6 [] .fetched) = some (2, 0) ∧
    (upOpcode 3 8 (leBytes 8 (8 * 2 ^ 30))).refusal (hostTest 3 8 (leBytes 8 (8 * 2 ^ 30)) .fetched) = some (4, 0) ∧
    up.dispatchOf 3 3 = none ∧ iLen (List.replicate 8 0 ++ [64] ++ List.replicate 55 0) = 64 ∧
    up.areaTaken true + 0 ≤ areaBytes true ∧ areaBytes false < 0x40001 ∧
    (upOpcode 2 8 []).nextDispatch 3 = some (hostTest 2 8 [] .fetched) ∧ (hostTest 2 8 [] .fetched).clean 8 = true ∧
    (upOpcode 5 0 [3, 0, 5]).dispatchOf 3 5 = some (hostTest 5 0 [3, 0, 5] .fetched) ∧ (hostTest 5 0 [3, 0, 5] .fetched).clean 3 = true ∧
    (hostTest 5 0 [3, 1, 5, 1] .fetched).clean 3 = false ∧ (upOpcode 5 0 [3, 0, 5]).isActive = false ∧
    ((upOpcode 5 0 [3, 0, 5]).put F.RDN_STATUS_RSTATE rActive).isActive = true ∧ (upOpcode 5 0 [3, 0, 5]).xl.cmd = none ∧
    (up.setTo (pbaFld 63) true).on (pbaFld 63) = true ∧ up.on (pbaFld 63) = false ∧ up.on F.HIF_LINK_UP = false ∧
    (upRing 1 [] none).hostWork = true ∧ (upOpcode 3 8 []).canonical = true := by decide +kernel

/-- A plan entry of the host on engine 0. -/
def upHostPlan : State := upOrrery.wrn (planAct + 16) 6
/-- A LAP descriptor of the host, as a ring brings it. -/
def hostLap : List Byte := 3 :: (jobBytes 3 0).drop 1

theorem witness_HostCommandsAndLink_job : descOk (upHostPlan.hostDesc hostLap) = true ∧ upHostPlan.slotOk 6 (upHostPlan.hostDesc hostLap) = true ∧
    chainOk (upHostPlan.hostDesc hostLap) none = true ∧ upHostPlan.quadOn ((upHostPlan.hostDesc hostLap).eng / 16) = true ∧
    upHostPlan.openLevel 0 + 1 ≤ upHostPlan.freeEntries 0 ∧ upHostPlan.ory.done = [] ∧ upHostPlan.alm.frozen = false ∧
    upHostPlan.areaTaken false + (64 - 64) ≤ areaBytes false := by decide +kernel

/-- The intake holds a record of the host. -/
def upHeld : State := up.modAlm fun a => { a with held := [⟨0, ⟨0x120, 5, 16, 255, 0, 0, 0, 0, 0, 0⟩, false⟩] }
/-- A sector operation is in progress. -/
def upSector (op : FlashOp) : State := up.modAlm fun a => { a with flashCur := some op }
/-- Plate capture in a phase, with the supervisor running. -/
def upPlate (p : PlatePhase) : State := { up.modAlm (fun a => { a with plate := p, plateArea := some (0x100000, 64) }) with
  boot := { up.boot with critical := [(0, 16)], appRuns := true } }

theorem witness_AlmanacAndPlateCapture : upHeld.canonical = true ∧ upHeld.domOn 9 = true ∧ upHeld.tb.freeStep = none ∧ upHeld.alm.held ≠ [] ∧
    upHeld.alm.ring.length < 32768 ∧ up.alm.held = [] ∧ (up.wrOf .host Reg.ALM_SW_HDR 0x80F00120).fldOf .host F.ALM_SW_HDR_CODE % 256 = 32 ∧
    up.fldOf .host F.ALM_SW_HDR_CODE % 256 < 16 ∧ up.alm.frozen = false ∧ up.fld F.ALM_CFG_MIN_SEV ≤ (up.wrOf .host Reg.ALM_SW_HDR 0x80F00120).fldOf .host F.ALM_SW_HDR_SEV ∧
    up.reading .host = false ∧ (up.rdGo .host).reading .host = true ∧
    ((up.rdGo .host).alm.reads.find? fun q => q.1 == Req.host.idx) = some (255, 0) ∧ nextAfter up.alm.ring 0 = none ∧
    (upSector (.log 0 [1] true [5])).alm.flashCur = some (.log 0 [1] true [5]) ∧
    (upSector (.host 1 1 0 [1] true)).alm.flashCur = some (.host 1 1 0 [1] true) ∧ up.alm.flashCur = none ∧
    (upPlate .idle).isCritical 15 = true ∧ (upPlate .idle).isCritical 16 = false ∧ (upPlate .idle).boot.appRuns = true ∧
    (upPlate .idle).alm.plate = .idle ∧ (upPlate .copying).alm.plate = .copying ∧ (upPlate .done).alm.plate = .done ∧
    (upPlate .idle).pow.svStopped = false ∧ up.alm.plateArea = none ∧ (up.put F.BOOT_STATUS_LC 2).fld F.BOOT_STATUS_LC = 2 ∧
    up.boot.sys.plateSealed = false ∧ (up.setTo F.ALM_PLATE_STATUS_PRESENT true).on F.ALM_PLATE_STATUS_PRESENT = true ∧
    (upPlate .copying).variant = .ci ∧ (upPlate .copying).domOn 11 = true := by decide +kernel

/-- Device time reaches 2 µs after a held record's TIME, and the record of greatest severity displaces one. -/
theorem witness_AlmanacAndPlateCapture_ring : newestOf [⟨1, 0, ⟨0x120, 5, 16, 255, 0, 0, 0, 0, 0, 0⟩, false⟩] 255 ≠ none ∧
    mergesInto 1000000 0 ⟨0x120, 5, 16, 255, 999999, 0, 0, 0, 0, 0⟩ ⟨1, 0, ⟨0x120, 5, 16, 255, 0, 0, 0, 0, 0, 0⟩, false⟩ = true ∧
    mergesInto 1000000 0 ⟨0x120, 5, 16, 255, 1000000, 0, 0, 0, 0, 0⟩ ⟨1, 0, ⟨0x120, 5, 16, 255, 0, 0, 0, 0, 0, 0⟩, false⟩ = false ∧
    victim [⟨1, 0, ⟨0x120, 5, 16, 255, 0, 0, 0, 0, 0, 0⟩, false⟩] 5 ≠ none ∧
    victim [⟨1, 0, ⟨0x120, 5, 16, 255, 0, 0, 0, 0, 0, 0⟩, false⟩] 4 = none := by decide

/-- Stage TIME waits since 5 ns. -/
def upWaits : State := up.modBoot fun b => { b with waitFrom := some 5 }
/-- A life-cycle state, with two user keys present. -/
def upLc (lc : Nat) : State := (up.put F.BOOT_STATUS_LC lc).modBoot fun b => { b with fuses := { b.fuses with present := 3, lc := lc } }

theorem witness_GridStartAndLifeCycle : upWaits.boot.waitFrom = some 5 ∧ upWaits.tbase ≠ 0 ∧ upWaits.tb.freeStep = none ∧
    up.boot.waitFrom = none ∧ up.lcAllowed 1 0x5B 0 = true ∧ up.lcAllowed 1 0x5A 0 = false ∧ (upLc 1).lcAllowed 2 0x58 0 = true ∧
    up.lcAllowed 2 0x58 0 = false ∧ (upLc 1).lcAllowed 3 0x59 0 = false ∧ up.lcAllowed 4 0x5E 0 = true ∧ (upLc 1).lcAllowed 5 0x5F 1 = true ∧
    (upLc 1).lcAllowed 5 0x5F 3 = false ∧ (upLc 1).canonical = true := by decide +kernel

/-- Every rail is good. -/
def upRails : State := up.put F.PWR_STATUS_RAIL_OK 0x1FF
/-- The power controller beside its registers. -/
def upPow (queue : List Nat) (dwell shut : Option Nat) (due ramping : Bool) : State :=
  up.modPow fun p => { p with queue, dwellFrom := dwell, shutAt := shut, cycleDue := due, ramping }

theorem witness_RailsClocksAndTemperature : (∀ r, r < 9 → upRails.railOk r = true ∧ up.railOk r = false) ∧ upRails.canonical = true ∧
    (upPow [11, 3] (some 5) (some 5) true true).pow.queue = [11, 3] ∧ 11 < 12 ∧ (upPow [] none none false false).pow.queue = [] ∧
    (-481 : BitVec 12).toInt < -480 ∧ 1280 < (1281 : BitVec 12).toInt ∧ -480 ≤ (-480 : BitVec 12).toInt ∧ (1280 : BitVec 12).toInt ≤ 1280 ∧
    (upPow [] (some 5) none false false).pow.dwellFrom = some 5 ∧ (upPow [] none (some 5) false false).pow.shutAt = some 5 ∧
    up.tb.freeStep = none ∧ up.pow.svStopped = false ∧ (up.modPow fun p => { p with svStopped := true }).pow.svStopped = true ∧ up.svDead = false ∧
    (upPow [] none none true false).pow.cycleDue = true ∧ (upPow [] none none false true).pow.ramping = true ∧
    (up.modMer fun m => { m with lockout := false }).mer.lockout = false ∧
    (0x8000000F : Word).toNat &&& 0x7FFFFFF0 = 0 ∧ (0x10 : Word).toNat &&& 0x7FFFFFF0 ≠ 0 := by decide

/-! ### Further witnesses: one for each clause whose hypotheses no state above meets -/

/-- A station between CYCLE frames, with a step of `n` cycles to apply and device time `late` ns past its sample instant. -/
def upSample (n : Int) (late : Nat) : State :=
  let s := upStation 4
  { s with
    cdr := { upGrid.cdr with t0 := 10 }
    tb := { s.tb with now := ⟨10 + late, 0⟩ }
    xl := { s.xl with stn := { s.xl.stn with step := n } } }

theorem witness_StationRole_sample : (upSample 0 0).canonical = true ∧ (upSample 0 0).xl.stn.step * ((upSample 0 0).tbase : Int) = 0 ∧
    (upSample (-3) 4).xl.stn.step * ((upSample (-3) 4).tbase : Int) ≠ 0 ∧ (upSample 0 4).cdr.t0 ≤ (upSample 0 4).now ∧
    (upSample 0 4).now ≤ (upSample 0 4).cdr.t0 + 4 ∧ ¬ (upSample 0 5).now ≤ (upSample 0 5).cdr.t0 + 4 ∧
    (upSample 0 5).nextSample.isSome = true := by decide

theorem witness_CycleBoundaries_station : (upSample 0 0).station = true ∧ (upSample 0 0).cdr.grid = true ∧ (upSample 0 0).red.base = none ∧
    (upSample 0 0).xl.stn.stored = none ∧
    ({ upSample 0 0 with xl := { (upSample 0 0).xl with stn := { (upSample 0 0).xl.stn with stored := some ⟨7, true, [(3, 9)]⟩ } } } :
      State).xl.stn.stored.isSome = true ∧ upFit.claimedBy ⟨true, true, false⟩ ≠ [] := by decide

/-- The guard in a state, with DEG_LIMIT counting since 5 and a bit of GRD_DEG set. -/
def upDeg (g bit : Nat) : State := { (upGuard g).wrn Reg.GRD_DEG (2 ^ bit) with grd := { (upGuard g).grd with degStart := some 5 } }

theorem witness_GuardDegrades_all : (upDeg gDegraded 2).canonical = true ∧ (upDeg gDegraded 2).grd.degStart.isSome = true ∧
    (upDeg gDegraded 2).gstate = gDegraded ∧ (upDeg gDegraded 2).grd.powered = true ∧ bitAt ((upDeg gSafe 2).rdn Reg.GRD_DEG) 2 = true ∧
    bitAt ((upDeg gSafe 3).rdn Reg.GRD_DEG) 3 = true ∧ (upDeg gSafe 2).gstate ≠ gDegraded ∧ (900 ≤ 900 ∧ 949 < 950) ∧ (1050 < 1051 ∧ 1100 ≤ 1100) ∧
    ({ up with grd := { up.grd with powered := false } } : State).grd.powered = false ∧ up.railOk 3 = false ∧ (up.put F.PWR_STATUS_RAIL_OK 8).railOk 3 = true ∧ up.grd.degStart = none := by decide

/-- The guard runs and the supervisor writes no heartbeat any more. -/
def upMute : State := (upGuard gArmed).modPow fun p => { p with svStopped := true }

theorem witness_HeartbeatsAccepted_stopped : upMute.pow.svStopped = true ∧ (upGuard gArmed).pow.svStopped = false := by decide

theorem witness_RolesChange_waiver : ((upClaims rActive).put F.RDN_STATUS_RANK 0).waived = true ∧
    (((upClaims rActive).put F.RDN_STATUS_RANK 0).setTo F.RDN_FIT_WAIVED false).waived = false ∧
    ((upClaims rActive).put F.RDN_STATUS_RANK 0).rank < 1 ∧ ((upClaims rActive).put F.RDN_STATUS_RANK 0).canonical = true := by decide

/-- A run of the copy engine that has written two of its eight bytes' words by 60 ns: the second word is not there yet. -/
def upCopying : State := { upMer false .none with
  tb := { up.tb with now := ⟨60, 0⟩ }, cdr := { up.cdr with copyRun := some ⟨0, 0, List.replicate 8 1, List.replicate 8 2, false⟩ } }

theorem witness_MeridianSupplies_more : (upCopying.cdr.copyRun.map fun c => decide ((upCopying.now - c.start + 79) / 80 * 4 < c.old.length)) = some true ∧
    upCopying.mer.lockout = false ∧ upCopying.canonical = true ∧ (upMer true .none).mer.lockout = true ∧ up.cdr.copyRun = none ∧
    (upMer false .none).mainPower = true ∧ (offMer true).mainPower = false ∧
    (((offMer true).modMer fun m => { m with lockout := false }).put F.RDN_STATUS_RSTATE 2).merActive = true ∧
    (upMer false .none).on F.MER_CTRL_HALT = false ∧ (upMer false .none).fld F.MER_SHIFT_TICKS ≤ 32768 ∧ (0x7FFF : Word).toNat < 32768 ∧
    (upEdges 1).mer.fifo = [⟨0, 0, 0⟩] ∧ (upEdges 1).mer.lockout = false := by decide

theorem witness_MeridianCalendar_more : ((upMer false .none).setTo F.MER_CTRL_COMP_EN true).on F.MER_CTRL_COMP_EN = true ∧
    (upMer false .none).on F.MER_CTRL_COMP_EN = false ∧ ((upEdges 0).mainPower && !(upEdges 0).mer.lockout) = true ∧
    ((upEdges 0).modMer fun m => { m with lockout := true }).mer.lockout = true ∧ (upMer true .none).canonical = true := by decide

theorem witness_CanTransmits_wire : (upCanTx 250).canOnWire 1 5 = true ∧ (upCanTx 250).canOnWire 1 6 = false ∧ up.canOnWire 1 5 = false ∧
    (upCanTx 250).domOn 9 = true := by decide +kernel

theorem witness_SerialAndPins_raw : (upSer 1 [] [7] [7]).serMode 3 = 1 ∧ ((upSer 1 [] [7] [7]).ser 3).raw ≠ [] ∧
    (((upSer 1 [] [7] [7]).put (serFld F.SER_IDX_CONS 3) 1).fld (serFld F.SER_IDX_PROD 3) + 1) % 64 =
      ((upSer 1 [] [7] [7]).put (serFld F.SER_IDX_CONS 3) 1).fld (serFld F.SER_IDX_CONS 3) ∧
    ((upSer 2 [0x24] [] []).charBits 3 0x41 = 0x41) ∧ (upSer 2 [0x24] [] []).charBits 3 0x24 = 0x24 ∧
    (upSer 2 [0x24] [] []).charBits 3 0x0A = 0x0A := by decide

theorem witness_SigmaDeltaChannels_more : (List.replicate (upSdf.sincR 1 * stageD (upSdf.stage 1 1) * stageD (upSdf.stage 1 2)) true).length =
      upSdf.sincR 1 * stageD (upSdf.stage 1 1) * stageD (upSdf.stage 1 2) ∧
    ([] : List Bool).length ≠ upSdf.sincR 1 * stageD (upSdf.stage 1 1) * stageD (upSdf.stage 1 2) ∧
    bitsOf (0x04000000 : Word).toNat 26 22 / 8 ≠ (1 : Fin 32).val / 8 ∧ bitsOf (0x00400000 : Word).toNat 26 22 / 8 = (1 : Fin 32).val / 8 ∧
    upSdf.ch F.SDF_CHc_CFG_SRC 1 ≠ bitsOf (0x04000000 : Word).toNat 26 22 ∧ (upSdf.put (F.SDF_CLK_DIR.plus 0) 1).sdmOut 0 = true := by
  refine ⟨List.length_replicate, ?_⟩
  decide

theorem witness_RingsFetchAndComplete_more : (upRing 1 [] (some .fetch)).mayPost = true ∧
    ((upRing 1 [] (some .fetch)).put F.HIF_LINK_BME 0).mayPost = false ∧ ((upRing 1 [] (some .fetch)).hring 3).retry = some .fetch ∧
    (∀ st ∈ [3, 5, 6], ((upRing 1 [{ hostTest 0 0 [] .ended with status := st }] none).hring 3).flight ≠ [] ∧
      (upRing 1 [{ hostTest 0 0 [] .ended with status := st }] none).cqRoom 3 = true) ∧
    (upRing 1 [] none).ringState 3 = 1 ∧ (upRing 1 [] none).sqHead 3 ≠ ((upRing 1 [] none).hring 3).sqTail := by decide +kernel

theorem witness_HostCommandsAndLink_more : (hostTest 5 0 [3, 0, 5] .fetched).stnOk = true ∧ (hostTest 5 0 [3, 0, 0] .fetched).stnOk = false ∧
    (hostTest 5 0 [16, 0, 5] .fetched).stnOk = false ∧ (hostTest 5 0 [3, 0, 255] .fetched).stnOk = false ∧
    (hostTest 5 0 [3, 0, 254] .fetched).stnOk = true ∧ (up.put F.HIF_LINK_UP 1).on F.HIF_LINK_UP = true ∧
    (upRing 1 [] none).ringState 3 ≠ 0 := by decide

theorem witness_HostCommandsAndLink_jobs : ∀ x, x = upHostPlan.hostDesc (hostLap.take 64) → descOk x = true ∧ upHostPlan.slotOk 6 x = true ∧
    chainOk x none = true ∧ upHostPlan.quadOn (x.eng / 16) = true ∧ upHostPlan.openLevel (x.eng / 16) + 1 ≤ upHostPlan.freeEntries (x.eng / 16) ∧
    upHostPlan.on F.ORY_CTRL_ENABLE = true := by
  rintro _ rfl; decide +kernel

theorem witness_AlmanacAndPlateCapture_more :
    (up.modPow fun p => { p with svDead := true }).svDead = true ∧ up.svDead = false ∧
    (up.modPow fun p => { p with svStopped := true }).svDead = false ∧ up.logWaits = [] := by decide

theorem test_wf_link_width : Instr.wf (.pcieLinkChange true 3 3) = false := by decide
theorem test_wf_link_speed : Instr.wf (.pcieLinkChange true 0 4) = false := by decide
theorem test_wf_sdm_clock : Instr.wf (.sdmClockRestored 0 20001) = false := by decide
theorem test_wf_tx_length :
    Instr.wf (.ethProd .host 0 0 0 0 [⟨0, [], 1, false, false, false, 0, 0, 0, 0⟩] []) = false := by decide
theorem test_wf_can_remote : Instr.wf (.canFrameReceived 0 ⟨false, true, true, false, 0, 0, [], 0⟩) = false := by decide

/-- The root has stopped. -/
def upDead : State := up.modPow fun p => { p with svDead := true }

theorem witness_IdleStepIsATick_dead : upDead.pending = [] ∧ upDead.svDead = true ∧ State.reset.svDead = false ∧ upDead.canonical = true := by decide

/-- Intake is frozen by a capture, and a rollback waits in a trial. -/
def upFrozen : State := upGrid.modAlm fun a => { a with frozen := true }

theorem witness_CycleBoundaries_frozen : upFrozen.alm.frozen = true ∧ upGrid.alm.frozen = false ∧ upGrid.domOn 9 = true ∧
    (State.reset.modCdr fun c => { c with grid := true }).domOn 9 = false ∧
    (((upGrid.put F.CDR_OC_STATUS_STATE 4).modCdr fun c => { c with rollback := some .fault }).ocState = 4) := by decide

theorem witness_ReservedOffsets_meridian : regRow? 0xE1000 = none ∧ inRetained 0xE1000 = false ∧ State.reset.mer.lockout = true := by decide

/-- The debug module is active. -/
def upDbg : State := up.modDbg fun d => { d with active := true }

theorem witness_DebugModuleAccesses_harts : (∀ h : Fin 7, upDbg.hartAvail h.val = true) ∧ upDbg.boot.dbg.active = true ∧
    up.boot.dbg.active = false ∧ up.svDead = false ∧ upDead.svDead = true ∧ State.reset.hartAvail 0 = false := by decide

/-- The smallest program image, without section, type or instance; its header. -/
def progHead : List Byte := leBytes 4 0x42464443 ++ [1, 0, 128, 0] ++ leBytes 4 132 ++ List.replicate 112 0
/-- The image with its two CRCs. -/
def progImage : List Byte := progHead ++ leBytes 4 (crc32c progHead) ++ leBytes 4 (crc32c (progHead ++ leBytes 4 (crc32c progHead)))
/-- It has been loaded, by an OC_LOAD on ring 3 whose SWITCH_CYC is `cyc` where `carried`. -/
def upLoading (carried : Bool) (cyc : Nat) : State :=
  { (upRing 1 [hostTest 4 132 (leBytes 8 0x1000 ++ leBytes 8 cyc) .running] none).put F.CDR_OC_STATUS_STATE 1 with
    cdr := { up.cdr with loading := progImage, carrier := if carried then some (3, 5) else none } }

set_option maxRecDepth 100000 in
theorem witness_OnlineChangeStates_load : (upLoading true 9).loadReject progImage [] = 0 ∧ (upLoading true 9).cdr.loading = progImage ∧
    (upLoading true 9).cdr.loadSig = [] ∧ (upLoading true 9).carrierCyc = 9 ∧ (upLoading true 9).cdr.cyc < 9 ∧
    ((upLoading true 9).modCdr fun c => { c with cyc := 9 }).carrierCyc ≤ 9 ∧ (upLoading false 9).carrierCyc = 0 ∧
    (upLoading false 9).loadReject progImage [] = 0 ∧ (upLoading true 9).ocState = 1 ∧ (upLoading true 9).canonical = true ∧
    (upLoading true 9).domOn 9 = true ∧ (upTrial.modCdr fun c => { c with rollback := some .host }).cdr.rollback ≠ none ∧
    State.reset.domOn 9 = false := by decide +kernel

theorem witness_OrreryPosts_app : upOrrery.domOn 3 = true ∧ State.reset.domOn 3 = false := by decide

theorem witness_OrreryRunsJobs_dead : upDead.svDead = true ∧ upGrant.svDead = false ∧ (upGrant.modPow fun p => { p with newDepth := 0 }).depth = 0 ∧ upJob.chain = none := by decide

theorem witness_OrreryStructuresAndPlan_block : upGrant.blockOn Reg.ORY_CTRL = true ∧ upDead.blockOn Reg.ORY_CTRL = false := by decide

theorem witness_GuardIgnores_band : (upGuard gArmed).railOk 3 = false ∧ (upGuard gArmed).grd.powered = true ∧
    ((upGuard gArmed).put F.PWR_STATUS_RAIL_OK 8).railOk 3 = true ∧ (950 ≤ 950 ∧ 1050 ≤ 1050) := by decide

theorem witness_GuardDecides_claim : ((upDecide gArmed 0 releasable).put F.GRD_STATUS_IMAGE 3).gstate = gArmed ∧
    ((upDecide gArmed 0 releasable).put F.GRD_STATUS_IMAGE 3).fld F.GRD_STATUS_IMAGE = 3 ∧
    (((upDecide gArmed 0 releasable).put F.GRD_STATUS_IMAGE 3).grdVerdict 0).why = 0 ∧
    ((upDecide gArmed 0 releasable).put F.GRD_STATUS_IMAGE 3).canonical = true := by decide +kernel

theorem witness_GuardDegrades_more : bitAt (upGuard gArmed).grd.present 5 = false ∧ bitAt ((upGuard gArmed).rdn Reg.GRD_DEG) 1 = false ∧
    (63 : Fin 64) ≠ 0 ∧ (upDecide gArmed 0 []).grdRuns = true ∧ (upDecide gArmed 0 []).cdr.grid = true ∧
    (upDecide gArmed 0 []).grd.decided = false ∧ (upDecide gArmed 0 []).grd.edsAt = none ∧ (upDecide gArmed 0 []).grd.gtAt = none ∧
    bitAt ((upDecide gArmed 0 []).rdn Reg.GRD_DEG) 0 = false ∧ (upDecide gArmed 0 []).grd.released = false ∧
    (upDecide gArmed 0 []).canonical = true := by decide

/-- The pair without the waiver, in its hold-off. -/
def upUnfit : State := (upPair rStandby).setTo F.RDN_FIT_WAIVED false

theorem witness_InterlockClaims_unfit : upUnfit.waived = false ∧ upUnfit.rstate = rStandby ∧
    (getNext (exec (.claimSample ⟨false, false, false⟩ true) upUnfit)).now < upUnfit.holdoffEnd ∧
    (getNext (exec (.claimSample ⟨false, false, false⟩ true) upUnfit)).fld F.RDN_FIT_FAIL ≠ 0 ∧ bitAt upUnfit.failMask 5 = true ∧
    upUnfit.station = false ∧ upUnfit.canonical = true ∧ upUnfit.tb.freeStep = none := by decide +kernel

/-- Partner 0 announced its rehearsal for this cycle, and its window is open. -/
def upRehearsed : State := { upFit.modRed fun x => { x with rehNow := (true, false) } with tb := { up.tb with now := ⟨1600000, 0⟩ } }

theorem witness_RolesChange_line : (b2n false, 0) ∈ upRehearsed.partners ∧ upRehearsed.red.rehNow.1 = true ∧ upRehearsed.inRehWindow = true ∧
    upFit.red.rehNow.1 = false ∧ upFit.inRehWindow = false ∧ upFit.waived = true ∧ upFit.canonical = true ∧ upRehearsed.canonical = true := by
  decide +kernel

/-- It rehearses under the waiver. -/
def upRehearsing : State := (upPair rStandby).setTo F.RDN_CTRL_REHEARSE true

theorem witness_MirrorRecords_rehearsal : upRehearsing.waived = true ∧ upRehearsing.claimedBy ⟨true, true, false⟩ ≠ [] ∧
    (upRehearsing.setTo F.RDN_FIT_WAIVED false).waived = false ∧ upRehearsing.tb.freeStep = none ∧ upRehearsing.rstate = rStandby ∧
    upRehearsing.rehCyc = upRehearsing.cdr.cyc := by decide +kernel

/-- A port whose link has held and whose delay is measured, wrapped, on the grid. -/
def upHeldPort : State := { upPorts.put F.XL_STATUS_WRAP 1 with
  cdr := upGrid.cdr, xl := { up.xl with ports := ⟨some 5, 0, none, true, none⟩ :: up.xl.ports.drop 1 } }
/-- A station in INIT whose other port's delay is measured, and that waits for an answer. -/
def upInitStation : State := { upStation 1 with
  xl := { (upStation 1).xl with ports := [⟨none, 0, some 5, false, none⟩, ⟨some 5, 0, none, false, none⟩, .init, .init] } }
/-- An answer to it. -/
def answer : List Byte := upInitStation.xlFrame 1 6 0 5 0 3 4 (leBytes 8 10 ++ leBytes 8 20)

theorem witness_XonlinkPorts_more : upHeldPort.cdr.grid = true ∧ (upHeldPort.xport 0).held = true ∧ (upHeldPort.xport 0).delay.isSome = true ∧
    upHeldPort.xWrap 0 = true ∧ (upHeldPort.xport 1).held = false ∧ upHeldPort.canonical = true ∧ upHeldPort.xl.ports.length = 4 ∧
    upInitStation.xLink 0 = true ∧ upInitStation.delayOk 0 answer .ok 6 = true ∧ fNode answer / 256 = upInitStation.xSeg 0 ∧
    (upInitStation.xport 0).t1 = some 5 ∧ upInitStation.station = true ∧ upInitStation.sstate = 1 ∧
    bitAt (upInitStation.fld F.XL_STATUS_CFG_REFUSED) 0 = false ∧ (upInitStation.xport (1 - 0)).delay.isSome = true ∧
    upInitStation.canonical = true ∧ (upInitStation.xport 3).delay = none := by decide +kernel

/-- A frame of this unit's own that comes back. -/
def xlBack (kind : Nat) : List Byte := (upRings rActive).xlFrame 0 kind 0 0xFF 0 3 4 []
/-- Station 5 of that table in OPERATE, 20 µs after its sample instant, its UID set. -/
def upSlots : State :=
  let s := (upStation 4).wr64 Reg.XL_UID_LO Reg.XL_UID_HI 77
  { s with tb := { s.tb with now := ⟨20000, 0⟩ }, xl := { s.xl with rings := [{ XlRing.init with table := oneStation }, .init] } }
/-- Its own entry. -/
def ownEntry5 : List Byte := [5, 255, 0, 0, 0, 0, 16, 0, 0, 0, 8, 0, 0, 0, 0, 0]
/-- An INPUT payload whose slot has FLAGS bit 0 and a UID. -/
def filledSlot (uid : Nat) : List Byte := leBytes 8 uid ++ [4, 1] ++ List.replicate 6 0
/-- An OUTPUT frame of the station's cycle and instant, its slot's FLAGS and acknowledging UID. -/
def outputTo (flags uid : Nat) : List Byte :=
  upSlots.xlFrame 0 3 0 0xFF 0 upSlots.cdr.cyc upSlots.stnInstant ([BitVec.ofNat 8 flags, 0, 0, 0] ++ leBytes 4 uid ++ List.replicate 36 0)

theorem witness_XonlinkFramesPass_own : (∀ k ∈ [1, 2, 3, 4, 7], isXl (xlBack k) = true ∧ hdrOk (xlBack k) = true ∧
    (upRings rActive).isForeign 0 (xlBack k) = false ∧ fKind (xlBack k) = k ∧ (upRings rActive).xlOwn 0 (xlBack k) = true) ∧
    (upRings rActive).xl.wire = [] ∧ (upRings rActive).station = false := by decide +kernel

theorem witness_XonlinkFramesPass_station : upSlots.canonical = true ∧ upSlots.domOn 10 = true ∧ upSlots.station = true ∧
    upSlots.ownEntry = some ownEntry5 ∧ 16 ≤ eInLen ownEntry5 ∧ eInPos ownEntry5 + eInLen ownEntry5 ≤ (filledSlot 77).length ∧
    upSlots.xl.stn.sampleTime + 10000 ≤ upSlots.now ∧ upSlots.uid = 77 ∧ bitAt (fieldLe (List.replicate 16 0) 9 1) 0 = false ∧
    bitAt (fieldLe (filledSlot 77) 9 1) 0 = true ∧ fieldLe (filledSlot 77) 0 8 = upSlots.uid ∧ fieldLe (filledSlot 78) 0 8 ≠ upSlots.uid ∧
    eNoOut ownEntry5 = false ∧ eOutFrame ownEntry5 = hf (outputTo 1 0) 6 1 ∧ eOutPos ownEntry5 + eOutLen ownEntry5 ≤ (fPayload (outputTo 1 0)).length ∧
    fieldLe (fPayload (outputTo 5 78)) (eOutPos ownEntry5) 1 = 5 ∧ bitAt 5 2 = true ∧
    fieldLe (fPayload (outputTo 5 78)) (eOutPos ownEntry5 + 4) 4 ≠ upSlots.uid % 2 ^ 32 ∧ upSlots.slotGood (outputTo 1 0) 1 = true ∧
    fieldLe (fPayload (outputTo 5 77)) (eOutPos ownEntry5 + 4) 4 = upSlots.uid % 2 ^ 32 ∧
    ({ upSlots with xl := { upSlots.xl with stn := { upSlots.xl.stn with applied := some 9 } } } : State).newOutput (fCyc (outputTo 1 0)) = false ∧
    upSlots.fld F.XL_SELF_STN = 5 ∧ fieldLe ([1, 5] ++ List.replicate 46 0) 1 1 = 5 ∧ fieldLe ([1, 6] ++ List.replicate 46 0) 1 1 ≠ 5 := by
  decide +kernel

/-- A forwarded frame passes out of port 0, and one of the unit's own waits on port 1. -/
def upBusy : State := { upRings rActive with xl := { (upRings rActive).xl with
  wire := [⟨0, xlBack 1, false, 0, false⟩, ⟨1, xlBack 2, false, 9, true⟩] } }

theorem witness_XonlinkFramesPass_busy : (∃ x ∈ upBusy.xl.wire, x.own = true ∧ x.port = 1) ∧ (∃ x ∈ upBusy.xl.wire, x.port = 0) ∧
    upBusy.canonical = true ∧ upBusy.mayLaunch 0 = true ∧ upBusy.tb.freeStep = none := by decide +kernel

/-- R332: a frame of the unit's own waits for the one that passes out of the port and 12 idle bytes, 672 ns for 60 + 24 bytes at 1 Gbit/s. -/
theorem test_own_frame_waits : upBusy.xlFree 0 0 = 672 ∧ upBusy.xlFree 1 0 = 0 := by decide +kernel

theorem witness_DeviceTimeReads_block : up.blockOn Reg.PTP_TIME_NS = true ∧ up.blockOn Reg.PTP_TIME_EXT = true ∧
    State.reset.domOn 10 = false := by decide

/-- Two stamps, the older one behind. -/
def upStamps : State := (up.pushStamp 9 2 77).pushStamp 8 2 70

theorem witness_TimeBaseCommands_stamps : (upStamps.tb.stamps.map (·.since)) = [77, 70] ∧ upStamps.tb.freeStep = none ∧
    upStamps.canonical = true := by decide

/-- R383: the older stamp expires first, whatever its place in the queue. -/
theorem test_oldest_stamp_expires : ((getNext (exec .txtsExpiry upStamps)).tb.stamps.map (·.since)) = [77] := by decide +kernel

theorem witness_MeridianSupplies_level : (upMer true .none).mer.aboveWarn = true ∧ ((upMer true .none).modMer fun m => { m with aboveWarn := false }).mer.aboveWarn = false ∧
    up.mer.aonValid = true ∧ (offMer false).mer.aonValid = false ∧ upDead.blockOn Reg.MER_PWR = false ∧ upDead.blockOn Reg.MER_CTRL = false ∧
    (upMer false .none).blockOn Reg.MER_PWR = true ∧ (upMer false .none).blockOn Reg.MER_CTRL = true := by decide

/-- A run of eight bytes at the end of the 2 ms, begun 40 ns before it under the lockout. -/
def upResumed : State := { upMer true .none with
  cdr := { up.cdr with copyRun := some ⟨1999960, 0, List.replicate 8 1, List.replicate 8 2, true⟩ } }

/-- R392, R396: of a run begun under the lockout the words due after the release are written. -/
theorem witness_MeridianSupplies_resume : (upResumed.put F.BOOT_STATUS_STAGE 8).fld F.BOOT_STATUS_STAGE ≠ 0 ∧
    (upResumed.put F.BOOT_STATUS_STAGE 8).mer.aboveWarn = true ∧ (upResumed.put F.BOOT_STATUS_STAGE 8).mer.aonValid = true ∧
    (upResumed.put F.BOOT_STATUS_STAGE 8).mer.lockout = true ∧
    ((getNext (exec (.lockoutRelease 0 0 true 0 0 0 0 0 0) (upResumed.put F.BOOT_STATUS_STAGE 8))).now - 1999960 + 79) / 80 * 4 < 8 ∧
    readBytes ramByte (getNext (exec (.lockoutRelease 0 0 true 0 0 0 0 0 0) (upResumed.put F.BOOT_STATUS_STAGE 8))).mem.retained 4 4 = [2, 2, 2, 2] := by
  decide +kernel

theorem witness_CanTransmits_further : ((getNext (exec (.canError 1 .txFurther) (upCanTx 100))).canOf 1).tec ≤ 255 ∧
    (getNext (exec (.canError 1 .txFurther) (upCanTx 100))).isPending 1 5 = true ∧ ((getNext (exec (.canError 1 .txFurther) (upCanTx 100))).canOf 1).tec = 108 := by
  decide +kernel

/-- "$HEHDT,90.0" with CR, and its heading to slot 16 where DECODE is set. -/
def upLine (mode : Nat) (text : List Byte) : State :=
  (((upSource.put (serFld F.SER_CFG_MODE 3) mode).put (serFld F.SER_CFG_SLOT 3) 16).setTo (serFld F.SER_CFG_DECODE 3) true).setTo
    (serFld F.SER_CFG_CHK_REQ 3) false |>.modUart 3 fun q => { q with line := text }
/-- The heading. -/
def hdtLine : List Byte := [0x24, 0x48, 0x45, 0x48, 0x44, 0x54, 0x2C, 0x39, 0x30, 0x2E, 0x30]
/-- "$HEROT,6.0,A". -/
def rotLine : List Byte := [0x24, 0x48, 0x45, 0x52, 0x4F, 0x54, 0x2C, 0x36, 0x2E, 0x30, 0x2C, 0x41]
/-- "$PKDH1,90.0,A,1.0". -/
def pkdLine : List Byte := [0x24, 0x50, 0x4B, 0x44, 0x48, 0x31, 0x2C, 0x39, 0x30, 0x2E, 0x30, 0x2C, 0x41, 0x2C, 0x31, 0x2E, 0x30]

/-- Its XOR, 6E. -/
def sum6E : List Byte := [0x2A, 0x36, 0x45]

theorem witness_SerialAndPins_sentence : sentenceCheck (hdtLine ++ [0x0D] ++ [0x0A]) = (hdtLine.drop 1, .absent) ∧
    sentenceCheck (hdtLine ++ sum6E ++ [0x0D] ++ [0x0A]) = (hdtLine.drop 1, .good) ∧
    (sentenceCheck (hdtLine ++ [0x2A, 0x30, 0x30, 0x0D] ++ [0x0A])).2 = .bad ∧ ((upLine 2 (hdtLine ++ [0x0D])).ser 3).line.getLast? = some 0x0D ∧
    ((upLine 2 (hdtLine ++ [0x0D])).ser 3).line.length < 82 ∧ (upLine 2 (hdtLine ++ [0x0D])).charBits 3 0x0A = 0x0A ∧
    2 ≤ (upLine 2 hdtLine).serMode 3 ∧ (upLine 2 hdtLine).on (serFld F.SER_CFG_CHK_REQ 3) = false ∧
    ((upLine 2 hdtLine).setTo (serFld F.SER_CFG_CHK_REQ 3) true).on (serFld F.SER_CFG_CHK_REQ 3) = true ∧
    ((upLine 2 hdtLine).fld (serFld F.SER_IDX_PROD 3) + 1) % 64 ≠ (upLine 2 hdtLine).fld (serFld F.SER_IDX_CONS 3) ∧
    ((((upLine 2 hdtLine).put (serFld F.SER_IDX_CONS 3) 1).fld (serFld F.SER_IDX_PROD 3) + 1) % 64 =
      ((upLine 2 hdtLine).put (serFld F.SER_IDX_CONS 3) 1).fld (serFld F.SER_IDX_CONS 3)) ∧
    isFormatter (sField (splitComma (hdtLine.drop 1)) 0) [0x48, 0x44, 0x54] = true ∧ decimal (sField (splitComma (hdtLine.drop 1)) 1) = some (900, 10) ∧
    isFormatter (sField (splitComma (rotLine.drop 1)) 0) [0x52, 0x4F, 0x54] = true ∧ sField (splitComma (rotLine.drop 1)) 2 = [0x41] ∧
    decimal (sField (splitComma (rotLine.drop 1)) 1) = some (60, 10) ∧ (upLine 2 hdtLine).canonical = true ∧ (upLine 2 hdtLine).domOn 9 = true ∧
    ((upLine 3 pkdLine).put F.CHIP_PROFILE_LEGACY_HDG 1).serMode 3 = 3 ∧ ((upLine 3 pkdLine).ser 3).line.head? = some 0x24 ∧
    (splitComma (pkdLine.drop 1)).length = 4 ∧ sField (splitComma (pkdLine.drop 1)) 0 = [0x50, 0x4B, 0x44, 0x48, 0x31] ∧
    sField (splitComma (pkdLine.drop 1)) 2 = [0x41] ∧ decimal (sField (splitComma (pkdLine.drop 1)) 3) = some (10, 10) := by decide +kernel

/-- What the line feed makes of a line: the intake queue's record of slot 16, its HDG and RATE words, and the ring's PROD. -/
def afterLine (s : State) : List (Nat × Nat × Nat) × Nat :=
  let t := getNext (exec (.characterReceived 3 0x0A false false false false 0) s)
  (t.fus.queue.map fun q => (recSource q.bytes, fieldLe q.bytes 16 4, fieldLe q.bytes 20 4), t.fld (serFld F.SER_IDX_PROD 3))

/-- R428, R429: 90 degrees is π ÷ 2, without a ROT the RATE is NaN, and 1 degree/s is π ÷ 180; "!PKDH1" is none of the set. -/
theorem test_headings : afterLine (upLine 2 (hdtLine ++ [0x0D])) = ([(16, 0x3FC90FDB, 0x7FC00000)], 1) ∧
    afterLine ((upLine 3 (pkdLine ++ [0x0D])).put F.CHIP_PROFILE_LEGACY_HDG 1) = ([(16, 0x3FC90FDB, 0x3C8EFA35)], 1) ∧
    afterLine ((upLine 3 (0x21 :: pkdLine.drop 1 ++ [0x0D])).put F.CHIP_PROFILE_LEGACY_HDG 1) = ([], 1) := by decide +kernel

/-- The clocks that bring an output of channel 1 of `upSdf`. -/
theorem witness_SigmaDeltaChannels_out : ((upSdf.put (F.SDF_CLK_DIR.plus 0) 1).put F.SDF_STATUS_CLK_LOST 1).sdmOut 0 = true ∧
    (List.replicate (upSdf.sincR 1 * stageD (upSdf.stage 1 1) * stageD (upSdf.stage 1 2)) ((0 : Byte), (0 : Byte))).length =
      upSdf.sincR 1 * stageD (upSdf.stage 1 1) * stageD (upSdf.stage 1 2) := ⟨by decide, List.length_replicate⟩

/-- Ring 3 holds a QP-ADMM job that waits for a SIM, with the number before the next entry's. -/
def upChained : State := (upRing 1 [] none).modRing 3 fun r => { r with chained := some (4, readDesc 1 []), taken := 5 }

theorem witness_RingsFetchAndComplete_chained : upChained.canonical = true ∧ ((upChained.hring 3).chained.map (·.1)) = some 4 ∧
    (upChained.hring 3).flight = [] ∧ (upChained.hring 3).retry = none ∧ upChained.mayFetch 3 = true ∧ upChained.domOn 10 = true ∧
    (parseEntry 5 0 false [7]).uid = 4 + 1 ∧ (parseEntry 5 0 false [7]).phase = .ended ∧ (parseEntry 5 0 false [1]).phase ≠ .ended ∧
    ((upRing 0 [] none).modRing 3 fun r => { r with chained := some (4, readDesc 1 []) }).mayFetch 3 = false ∧
    upChained.hif.rings.length = 16 ∧ upChained.variant = .ci := by decide +kernel

theorem witness_HostCommandsAndLink_speed : (1 ≤ (1 : Fin 5).val ∧ (4 : Fin 5).val ∈ [1, 2, 4]) ∧ ¬(1 ≤ (0 : Fin 5).val ∧ (4 : Fin 5).val ∈ [1, 2, 4]) ∧
    ¬(1 ≤ (4 : Fin 5).val ∧ (3 : Fin 5).val ∈ [1, 2, 4]) := by decide

theorem witness_AlmanacAndPlateCapture_cycle : ((upPlate .copying).modMer fun m => { m with lockout := false }).mer.lockout = false ∧
    (upPlate .copying).merActive = false ∧ (upPlate .copying).mer.seq = .none ∧ ((upPlate .copying).put F.RDN_STATUS_RSTATE 2).merActive = true ∧
    (upPlate .copying).mer.lockout = true ∧ (upMer false .cycle).mer.seq ≠ .none := by decide

theorem witness_GridStartAndLifeCycle_access : up.blockOn Reg.BOOT_CTRL = true ∧ upDead.blockOn Reg.BOOT_CTRL = false ∧
    up.blockOn Reg.BOOT_LC_CMD = true ∧ upDead.blockOn Reg.BOOT_LC_CMD = false ∧ up.lcMay .jtag = true ∧ up.lcMay (.req .host) = true ∧
    (up.put F.BOOT_STATUS_LC 2).lcMay .jtag = false ∧ ({ up with variant := .si } : State).lcMay (.req .host) = false ∧
    ({ up with variant := .si } : State).lcMay (.req (.cyc 0)) = true ∧ up.on F.BOOT_LC_CMD_GO = false ∧
    (up.setTo F.BOOT_LC_CMD_GO true).on F.BOOT_LC_CMD_GO = true ∧ upWaits.svDead = false ∧ upWaits.domOn 9 = true ∧ upWaits.domOn 10 = true ∧
    State.reset.domOn 9 = false := by decide

theorem witness_RailsClocksAndTemperature_dwell : (divRneI [(879 : Int)].sum 1 < 880) ∧ up.thStep = 0 ∧ (up.put F.THM_STATUS_STEP 1).thStep ≠ 0 ∧
    up.pow.dwellFrom = none ∧ up.pow.dwellDown = false ∧ up.blockOn Reg.PWR_ORR_CTRL = true ∧ up.blockOn Reg.CLK_SSC = true ∧
    upDead.blockOn Reg.PWR_ORR_CTRL = false ∧ upDead.blockOn Reg.CLK_SSC = false := by decide

/-- R533: a depth asked for and taken back before the sample instant starts no ramp. -/
theorem test_spread_taken_back : (let a := getNext (exec (.clkSsc .host 0x8000000A) up)
    let b := (getNext (exec (.clkSsc .host (if up.pow.newDepth = 0 then 0 else 0x80000000 + w32 up.pow.newDepth)) a)).spreadChange
    (a.pow.asked, b.pow.ramping, b.pow.newDepth == up.pow.newDepth)) = (10, false, true) := by decide +kernel

/-- R563: below 110 °C no rise of the throttle step waits. -/
theorem test_throttle_below : ((getNext (exec (.tempConversion (some 800)) (up.modPow fun p => { p with dwellFrom := some 0, stepDue := some 1 }))).pow.stepDue,
    (getNext (exec (.tempConversion (some 800)) (up.modPow fun p => { p with dwellFrom := some 0, stepDue := some 1 }))).pow.dwellFrom) = (none, none) := by decide +kernel

end Sys2Proof.Tests
end

