-- ==== Sys2Proof/Proofs/RegisterReads.lean ====
section
/-! SUPPORT. What a READ_CLEAR of one aligned word of BAR0 returns and leaves (R7, R8). -/

namespace Sys2Proof.Machine

/-- Numbers survive the way through their bytes, up to the bytes' width. -/
theorem leNat_leBytes (n v : Nat) : leNat (leBytes n v) = v % 256 ^ n := by
  induction n generalizing v with
  | zero => simp [leBytes, leNat, Nat.mod_one]
  | succ n ih => rw [leBytes, leNat, ih, Nat.pow_succ', Nat.mod_mul, BitVec.toNat_ofNat]

theorem length_leBytes (n v : Nat) : (leBytes n v).length = n := by
  induction n generalizing v with
  | zero => rfl
  | succ n ih => rw [leBytes, List.length_cons, ih]

/-- An aligned word is the one word its access touches. -/
theorem touched_aligned {off : Nat} (h : off % 4 = 0) : touched off 4 = [off] := by
  have e : off / 4 * 4 = off := by omega
  simp [touched, h, e]

/-- A read returns a word. -/
theorem State.regRead_lt (s : State) (r : Req) (off : Nat) : s.regRead r off < 2 ^ 32 := by
  unfold State.regRead
  split_ifs
  iterate 3 exact Nat.two_pow_pos 32
  · exact BitVec.isLt _
  · split
    · exact Nat.two_pow_pos 32
    · exact BitVec.isLt _

/-- READ_CLEAR of an aligned word: the word as it stood, and the read's side effect (R7, R8). -/
theorem exec_readClear_aligned (s : State) (r : Req) {off : BitVec 24} (h : off.toNat % 4 = 0) :
    exec (.readClear r .bar0 off 4) s =
      .next { s.readActed r off.toNat with readData := s.regRead r off.toNat } := by
  have hv := State.regRead_lt s r off.toNat
  have hr : s.barRead r off.toNat 4 = { s.readActed r off.toNat with readData := s.regRead r off.toNat } := by
    simpa [State.barRead, touched_aligned h, State.readWords, h, List.take_of_length_le, length_leBytes, leNat_leBytes] using hv
  exact congrArg _ hr

/-- Reading a register without RC bits leaves the state alone (R8). -/
theorem State.rdAcc_state_of_no_rc (s : State) {key : Nat} {row : RegRow} (h : regRow? (key % barSize) = some row)
    (rc : row.rc = 0) : (s.rdAcc key).2 = s := by
  simp [State.rdAcc, h, rc]

/-- The bit just set reads as it was set. -/
theorem testBit_putBit_same (w i : Nat) (b : Bool) : (putBit w i b).testBit i = b := by
  rw [putBit, testBit_putBits (Nat.le_refl i), if_pos ⟨Nat.le_refl i, Nat.le_refl i⟩, Nat.sub_self]
  cases b <;> rfl

/-- Registers of one 64 KiB block answer together. -/
theorem State.blockOn_congr (s : State) {a b : Nat} (h : a / 0x10000 = b / 0x10000) : s.blockOn a = s.blockOn b := by
  simp only [State.blockOn, blockDom, h]

end Sys2Proof.Machine
end

