-- ==== Sys2Proof/Proofs/DeviceTime.lean ====
section
/-! PROOF. The readings of device time (R376): the requesters' latches, and PTP_TIME_NS, PTP_TIME_EXT and PTP_STATUS as they are read. -/

namespace Sys2Proof.Machine

/-! ### The latches -/

/-- Each requester has an index of its own (R568). -/
theorem Req.idx_injective : Function.Injective Req.idx := by
  intro a b h
  cases a <;> cases b <;> simp only [Req.idx, Req.app.injEq, Req.cyc.injEq, reduceCtorEq] at h ⊢ <;> omega

/-- The latch that a read of PTP_TIME_NS takes now. -/
def State.freshLatch (s : State) (r : Req) : ExtLatch := ⟨r.idx, s.now / 2 ^ 32 % 2 ^ 32, s.now⟩

/-- The reader's latch is the fresh one. -/
theorem State.latchOf_readTimeNs_same (s : State) (r : Req) : (s.readTimeNs r).2.latchOf r = some (s.freshLatch r) :=
  List.find?_cons_of_pos (beq_self_eq_true r.idx)

/-- The latch of every other requester stays. -/
theorem State.latchOf_readTimeNs_ne (s : State) {r q : Req} (h : q ≠ r) : (s.readTimeNs r).2.latchOf q = s.latchOf q := by
  have hi : r.idx ≠ q.idx := fun e => h (Req.idx_injective e.symm)
  have hp (l : ExtLatch) : decide ((l.who != r.idx) = true ∧ (l.who == q.idx) = true) = (l.who == q.idx) := by
    by_cases e : l.who = q.idx
    · simp [e, hi.symm]
    · simp [e]
  show List.find? _ (s.freshLatch r :: s.tb.latches.filter _) = s.tb.latches.find? _
  rw [List.find?_cons_of_neg (by simpa [State.freshLatch] using hi), List.find?_filter]
  exact congrArg (List.find? · s.tb.latches) (funext hp)

/-- Device time stands while it is read. -/
theorem State.now_readTimeNs (s : State) (r : Req) : (s.readTimeNs r).2.now = s.now := rfl

/-- PTP_TIME_EXT shows what a requester's latch holds. -/
theorem State.timeExt_congr {s t : State} {q : Req} (h : t.latchOf q = s.latchOf q) : t.timeExt q = s.timeExt q := by
  simp only [State.timeExt, h]

/-- EXT_VALID depends on a requester's latch and device time. -/
theorem State.extValid_congr {s t : State} {q : Req} (h : t.latchOf q = s.latchOf q) (hn : t.now = s.now) :
    t.extValid q = s.extValid q := by
  simp only [State.extValid, h, hn]

theorem State.timeExt_of_latch {s : State} {r : Req} {l : ExtLatch} (h : s.latchOf r = some l) : s.timeExt r = l.hi := by
  simp only [State.timeExt, h]

theorem State.extValid_of_latch {s : State} {r : Req} {l : ExtLatch} (h : s.latchOf r = some l) :
    s.extValid r = decide (l.since ≤ s.now ∧ s.now - l.since ≤ 1000000000) := by
  simp only [State.extValid, h]

/-! ### Registers of the time base's block -/

/-- A block of PD_SER answers only while PD_SER is on (R527). -/
theorem State.domOn_of_blockOn_ptp {s : State} {off : Nat} (hb : off / 0x10000 = 0xD) (h : s.blockOn off = true) :
    s.domOn 10 = true := by
  simp only [State.blockOn, blockDom, hb, Bool.and_eq_true] at h
  exact h.2

/-- Offsets of the block are none of Meridian's, of the debug module's or of retained SRAM. -/
theorem ptp_off_plain {off : Nat} (hb : off / 0x10000 = 0xD) :
    inMeridian off = false ∧ inDebug off = false ∧ inRetained off = false := by
  refine ⟨by simp [inMeridian, hb], ?_, ?_⟩
  · exact decide_eq_false (by simp only [Reg.DBG_DMI]; omega)
  · exact decide_eq_false (by simp only [retBase]; omega)

/-- A register of the block reads its value without its write-only and reserved bits. -/
theorem State.regRead_ptp {s : State} {off : Nat} {row : RegRow} (r : Req) (hb : off / 0x10000 = 0xD)
    (on : s.blockOn off = true) (hrow : regRow? off = some row) :
    s.regRead r off = (BitVec.ofNat 32 (s.regValue r off) &&& ~~~(BitVec.ofNat 32 (row.wo ||| row.rsv))).toNat := by
  obtain ⟨hm, hd, hr⟩ := ptp_off_plain hb
  simp [State.regRead, State.dbgHidden, hm, hd, hr, on, hrow]

/-- Without such bits it reads the whole value. -/
theorem State.regRead_ptp_open {s : State} {off : Nat} {row : RegRow} (r : Req) (hb : off / 0x10000 = 0xD)
    (on : s.blockOn off = true) (hrow : regRow? off = some row) (hopen : row.wo ||| row.rsv = 0) :
    s.regRead r off = s.regValue r off % 2 ^ 32 := by
  rw [State.regRead_ptp r hb on hrow, hopen, BitVec.not_zero, BitVec.and_allOnes, BitVec.toNat_ofNat]

/-- Each bit that is neither write-only nor reserved reads as the value's. -/
theorem State.testBit_regRead_ptp {s : State} {off : Nat} {row : RegRow} (r : Req) (hb : off / 0x10000 = 0xD)
    (on : s.blockOn off = true) (hrow : regRow? off = some row) {i : Nat} (hi : i < 32)
    (hopen : (row.wo ||| row.rsv).testBit i = false) : (s.regRead r off).testBit i = (s.regValue r off).testBit i := by
  rw [State.regRead_ptp r hb on hrow, BitVec.testBit_toNat, BitVec.getLsbD_and, BitVec.getLsbD_not, BitVec.getLsbD_ofNat,
    BitVec.getLsbD_ofNat, hopen]
  simp [hi]

/-- The read's side effect takes place. -/
theorem State.readActed_ptp {s : State} {off : Nat} (r : Req) (hb : off / 0x10000 = 0xD) (on : s.blockOn off = true) :
    s.readActed r off = s.readLatch r off := by
  obtain ⟨hm, hd, -⟩ := ptp_off_plain hb
  simp [State.readActed, State.dbgHidden, hm, hd, on]

/-! ### PTP_TIME_NS, PTP_TIME_EXT and PTP_STATUS -/

/-- A read of PTP_TIME_NS: the low half of device time, and the requester's latch. -/
theorem exec_ptpTimeNs_on {s : State} (r : Req) (h : s.domOn 10 = true) :
    exec (.ptpTimeNs r) s = .next { (s.readTimeNs r).2 with readData := s.now % 2 ^ 32 } := by
  show s.gateRead 10 _ = _
  simp [State.gateRead, h, State.readTimeNs]

/-- Without PD_SER it returns 0 (R527). -/
theorem exec_ptpTimeNs_off {s : State} (r : Req) (h : s.domOn 10 = false) :
    exec (.ptpTimeNs r) s = .next { s with readData := 0 } := by
  show s.gateRead 10 _ = _
  simp [State.gateRead, h]

/-- The register read of PTP_TIME_NS does what the command does. -/
theorem exec_readClear_timeNs {s : State} (r : Req) (on : s.blockOn Reg.PTP_TIME_NS = true) :
    exec (.readClear r .bar0 (BitVec.ofNat 24 Reg.PTP_TIME_NS) 4) s =
      .next { (s.readTimeNs r).2 with readData := s.now % 2 ^ 32 } := by
  have hv : s.regRead r Reg.PTP_TIME_NS = s.now % 2 ^ 32 := by
    rw [State.regRead_ptp_open r (by decide) on rfl rfl]
    exact Nat.mod_mod _ _
  have hs : s.readActed r Reg.PTP_TIME_NS = (s.readTimeNs r).2 := State.readActed_ptp r (by decide) on
  rw [exec_readClear_aligned s r (by decide), show (BitVec.ofNat 24 Reg.PTP_TIME_NS).toNat = Reg.PTP_TIME_NS from rfl, hv, hs]

/-- A read of PTP_TIME_EXT returns the latched half and changes nothing. -/
theorem exec_readClear_timeExt {u : State} {r : Req} {l : ExtLatch} (hl : u.latchOf r = some l) (h32 : l.hi < 2 ^ 32)
    (on : u.blockOn Reg.PTP_TIME_EXT = true) :
    exec (.readClear r .bar0 (BitVec.ofNat 24 Reg.PTP_TIME_EXT) 4) u = .next { u with readData := l.hi } := by
  have hv : u.regRead r Reg.PTP_TIME_EXT = l.hi := by
    rw [State.regRead_ptp_open r (by decide) on rfl rfl, show u.regValue r Reg.PTP_TIME_EXT = u.timeExt r from rfl,
      State.timeExt_of_latch hl, Nat.mod_eq_of_lt h32]
  have hs : u.readActed r Reg.PTP_TIME_EXT = u :=
    (State.readActed_ptp r (by decide) on).trans (State.rdAcc_state_of_no_rc (key := Reg.PTP_TIME_EXT) u rfl rfl)
  rw [exec_readClear_aligned u r (by decide), show (BitVec.ofNat 24 Reg.PTP_TIME_EXT).toNat = Reg.PTP_TIME_EXT from rfl, hv, hs]

/-- A read of PTP_STATUS shows the requester's EXT_VALID and changes nothing. -/
theorem exec_readClear_ptpStatus {u : State} (r : Req) (on : u.blockOn Reg.PTP_STATUS = true) :
    ∃ w : Nat, exec (.readClear r .bar0 (BitVec.ofNat 24 Reg.PTP_STATUS) 4) u = .next { u with readData := w } ∧
      w.testBit F.PTP_STATUS_EXT_VALID.lo = u.extValid r := by
  refine ⟨u.regRead r Reg.PTP_STATUS, ?_, ?_⟩
  · have hs : u.readActed r Reg.PTP_STATUS = u :=
      (State.readActed_ptp r (by decide) on).trans (State.rdAcc_state_of_no_rc (key := Reg.PTP_STATUS) u rfl rfl)
    rw [exec_readClear_aligned u r (by decide), show (BitVec.ofNat 24 Reg.PTP_STATUS).toNat = Reg.PTP_STATUS from rfl, hs]
  · rw [State.testBit_regRead_ptp r (by decide) on rfl (by decide) rfl]
    exact testBit_putBit_same _ _ _

/-- Settles O47: the reader's latch is the fresh one, and every later read of it shows its two numbers. -/
theorem deviceTimeReads : Obligations.DeviceTimeReads := by
  intro r s
  refine ⟨exec_ptpTimeNs_off r, fun on => ⟨_, exec_ptpTimeNs_on r (State.domOn_of_blockOn_ptp (by decide) on),
    exec_readClear_timeNs r on, rfl, s.now_readTimeNs r, fun q hq => ?_, fun u hu onu => ?_⟩⟩
  · have hl : (s.readTimeNs r).2.latchOf q = s.latchOf q := s.latchOf_readTimeNs_ne hq
    exact ⟨hl, State.timeExt_congr hl, State.extValid_congr hl (s.now_readTimeNs r)⟩
  · have hl : u.latchOf r = some (s.freshLatch r) := hu.trans (s.latchOf_readTimeNs_same r)
    have hst : u.blockOn Reg.PTP_STATUS = true := (u.blockOn_congr (by decide)).trans onu
    obtain ⟨w, hw, hbit⟩ := exec_readClear_ptpStatus r hst
    exact ⟨exec_readClear_timeExt hl (Nat.mod_lt _ (Nat.two_pow_pos 32)) onu, _, hw, rfl,
      hbit.trans (State.extValid_of_latch hl)⟩

end Sys2Proof.Machine
end

