-- ==== Sys2Proof/Proofs/ReservedOffsets.lean ====
section
/-! PROOF. Reserved offsets (R565): O13 holds of every offset inside BAR0 and fails past its end.  BAR0 is 2 MiB (R6) and the statement's
offset has 24 bits; there a read clears RC bits in a word of the register map that belongs to no register. -/

namespace Sys2Proof.Machine

/-! ### The register tables -/

/-- No register and no window: neither the block's tables nor the chapters' windows cover the offset (R565). -/
theorem regRow?_eq_none_iff {off : Nat} :
    regRow? off = none ↔ (∀ row ∈ rowsOf off, row.covers off = false) ∧ ∀ row ∈ winRows, row.covers off = false := by
  unfold regRow?
  cases h : (rowsOf off).find? (·.covers off) with
  | none => simpa using fun _ => by simpa using h
  | some row => simpa using fun hn => absurd (List.find?_some h) (by simp [hn row (List.mem_of_find?_eq_some h)])

/-- The first offset behind everything a register table covers. -/
def RegRow.endOff (r : RegRow) : Nat := r.base + if r.fstride = 0 then r.stride * r.count else r.fstride * r.fcount

/-- A table covers each of its registers, the families included (R566). -/
theorem RegRow.covers_element {r : RegRow} {off f e : Nat} (hs : 0 < r.stride) (hspan : r.stride * r.count ≤ r.fstride)
    (hf : f < r.fcount) (he : e < r.count) (hoff : off = r.base + (r.fstride * f + r.stride * e)) : r.covers off = true := by
  have hlt : r.stride * e < r.fstride := (Nat.mul_lt_mul_of_pos_left he hs).trans_le hspan
  have hpos : 0 < r.fstride := Nat.zero_lt_of_lt hlt
  simp [RegRow.covers, hoff, hpos.ne', Nat.mul_add_div hpos, Nat.div_eq_of_lt hlt, Nat.mod_eq_of_lt hlt, hf, he, hs]

/-- A table covers nothing from its `endOff` on. -/
theorem RegRow.covers_eq_false_of_endOff_le {r : RegRow} {off : Nat} (hs : 0 < r.stride) (h : r.endOff ≤ off) : r.covers off = false := by
  by_cases hf : r.fstride = 0
  · have hcount : r.count ≤ (off - r.base) / r.stride := by
      rw [Nat.le_div_iff_mul_le hs, Nat.mul_comm]
      simp only [RegRow.endOff, if_pos hf] at h
      omega
    simp [RegRow.covers, hf, hcount]
  · have hcount : r.fcount ≤ (off - r.base) / r.fstride := by
      rw [Nat.le_div_iff_mul_le (Nat.pos_of_ne_zero hf), Nat.mul_comm]
      simp only [RegRow.endOff, if_neg hf] at h
      omega
    simp [RegRow.covers, hf, hcount]

/-- Above the last block no table covers an offset (R565). -/
theorem regRow?_eq_none_of_ge {off : Nat} (h : 0x150000 ≤ off) : regRow? off = none := by
  have hwin : ∀ row ∈ winRows, 0 < row.stride ∧ row.endOff ≤ 0x150000 := by decide
  have hrows : rowsOf off = [] := by
    obtain ⟨k, hk⟩ := Nat.exists_eq_add_of_le' (show 0x15 ≤ off / 0x10000 by omega)
    simp [rowsOf, hk]
  refine regRow?_eq_none_iff.mpr ⟨by simp [hrows], fun row hrow => ?_⟩
  obtain ⟨hs, he⟩ := hwin row hrow
  exact RegRow.covers_eq_false_of_endOff_le hs (he.trans h)

/-- The words that take 64-bit accesses are registers (R461). -/
theorem wideOk_eq_false_of_reserved {off : Nat} (size : Nat) (hrow : regRow? off = none) : wideOk off size = false := by
  obtain ⟨-, hwin⟩ := regRow?_eq_none_iff.mp hrow
  have hlo := hwin ⟨"HIF_MSIX_ADDR_LO", 0x124000, 16, 64, 0, 1, 0, 0xFFFFFFFF, 0, 0, 0, 0, 0⟩ (by decide)
  have hdata := hwin ⟨"HIF_MSIX_DATA", 0x124008, 16, 64, 0, 1, 0, 0xFFFFFFFF, 0, 0, 0, 0, 0⟩ (by decide)
  have hpba := hwin ⟨"HIF_PBA", 0x125000, 4, 2, 0, 1, 0, 0, 0, 0, 0, 0, 0⟩ (by decide)
  simp [RegRow.covers, wideOk] at hlo hdata hpba ⊢
  omega

/-- Is the offset a word of the message objects (R415)? -/
def inObjects (off : Nat) : Prop := 0xF1000 ≤ off ∧ off < 0x100000 ∧ 0x1000 ≤ off % 0x4000 ∧ off % 0x4000 < 0x3800

/-- Every aligned word of the message objects is a register. -/
theorem not_inObjects_of_reserved {off : Nat} (h4 : off % 4 = 0) (hrow : regRow? off = none) : ¬ inObjects off := by
  rintro ⟨hlo, hhi, hobj, hend⟩
  have htables : ∀ w : Fin 20, ∃ row ∈ regRows0F ++ winRows, row.base = 0xF1000 + 4 * w.val ∧ row.stride = 80 ∧ row.count = 128 ∧
      row.fstride = 0x4000 ∧ row.fcount = 4 := by decide
  obtain ⟨w, hw⟩ : ∃ w : Fin 20, w.val = (off % 0x4000 - 0x1000) % 80 / 4 := ⟨⟨_, by omega⟩, rfl⟩
  obtain ⟨row, hmem, hbase, hstride, hcount, hfs, hfc⟩ := htables w
  have hrows : rowsOf off = regRows0F := by simp [rowsOf, show off / 0x10000 = 0xF by omega]
  obtain ⟨hblk, hwin⟩ := regRow?_eq_none_iff.mp hrow
  have hfree : row.covers off = false := (List.mem_append.mp hmem).elim (fun hm => hblk row (hrows ▸ hm)) (hwin row)
  have hcov : row.covers off = true :=
    RegRow.covers_element (f := off / 0x4000 - 60) (e := (off % 0x4000 - 0x1000) / 80) (by omega)
      (by rw [hstride, hcount, hfs]; decide) (by omega) (by omega) (by rw [hfs, hstride]; omega)
  exact absurd hcov (by simp [hfree])

/-- Every register whose read latches or pops is in the tables. -/
theorem latchingReg_eq_false_of_reserved {off : Nat} (hrow : regRow? off = none) : latchingReg off = false := by
  have hall : ∀ o ∈ [Reg.PTP_TIME_NS, Reg.PTP_TXTS_W0, Reg.PTP_TXTS_W1, Reg.MER_SUBSEC, Reg.MER_EVF0, Reg.MER_EVF2, Reg.CDR_CYC_LO,
      Reg.CDR_PT_LO, Reg.CDR_PT_ADJ_LO, Reg.FUS_STATE_CYC_LO], regRow? o ≠ none := by decide
  rw [← Bool.not_eq_true]
  exact fun hl => hall off (List.contains_iff_mem.mp hl) hrow

/-- A reserved offset is none of Meridian's, whatever block it lies in (R392). -/
theorem inMeridian_eq_false_of_reserved {off : Nat} (hrow : regRow? off = none) (hret : inRetained off = false) :
    inMeridian off = false := by
  simp [inMeridian, hrow, hret]

/-! ### Accesses of a reserved offset -/

theorem State.writesRsv_eq_false_of_reserved (s : State) {off : Nat} (v : Nat) (hrow : regRow? off = none) : s.writesRsv off v = false := by
  simp [State.writesRsv, hrow]

theorem State.regWrite_of_reserved (s : State) (r : Req) {off : Nat} (v hwSet : Nat) (hrow : regRow? off = none)
    (hret : inRetained off = false) : s.regWrite r off v hwSet = s := by
  simp [State.regWrite, inMeridian_eq_false_of_reserved hrow hret, hrow, hret]

/-- A write of any size is ignored, past the end of BAR0 too. -/
theorem exec_registerWrite_of_reserved (s : State) (r : Req) {off : BitVec 24} (size : Fin 9) (v : BitVec 64) (h : Word)
    (hrow : regRow? off.toNat = none) (hret : inRetained off.toNat = false) : exec (.registerWrite r .bar0 off size v h) s = .next s := by
  show execRegisterWrite r .bar0 off size v h s = .next s
  simp only [execRegisterWrite, writtenWords, wideOk_eq_false_of_reserved _ hrow, Bool.false_eq_true, if_false]
  by_cases hw : size.val = 4 ∧ off.toNat % 4 = 0
  · simp [hw, s.writesRsv_eq_false_of_reserved _ hrow, s.regWrite_of_reserved r _ _ hrow hret]
  · simp [hw]

theorem State.regRead_of_reserved (s : State) (r : Req) {off : Nat} (hrow : regRow? off = none) (hret : inRetained off = false) :
    s.regRead r off = 0 := by
  simp [State.regRead, hrow, hret]

/-- Each requester's copy of a register has its key a whole number of BAR0 sizes further up. -/
theorem regKey_mod_barSize (r : Req) {off : Nat} (hbar : off < barSize) : regKey r off % barSize = off := by
  unfold regKey
  split_ifs
  · rw [Nat.add_mul_mod_self_left, Nat.mod_eq_of_lt hbar]
  · exact Nat.mod_eq_of_lt hbar

theorem State.readLatch_of_plain (s : State) (r : Req) {off : Nat} (hl : latchingReg off = false) (ho : ¬ inObjects off) :
    s.readLatch r off = (s.rdAcc (regKey r off)).2 := by
  simp only [latchingReg, List.contains_eq_mem, List.mem_cons, List.not_mem_nil, or_false, decide_eq_false_iff_not, not_or] at hl
  obtain ⟨h1, h2, h3, h4, h5, h6, h7, h8, h9, h10⟩ := hl
  rw [inObjects] at ho
  simp only [State.readLatch, h1, h2, h3, h4, h5, h6, h7, h8, h9, h10, ho, if_false]

/-- Inside BAR0 a read of a reserved word has no side effect. -/
theorem State.readActed_of_reserved (s : State) (r : Req) {off : Nat} (hbar : off < barSize) (h4 : off % 4 = 0)
    (hrow : regRow? off = none) : s.readActed r off = s := by
  have hlatch : s.readLatch r off = s := by
    rw [s.readLatch_of_plain r (latchingReg_eq_false_of_reserved hrow) (not_inObjects_of_reserved h4 hrow)]
    simp [State.rdAcc, regKey_mod_barSize r hbar, hrow]
  rw [State.readActed, hlatch, ite_self]

theorem exec_readClear_of_reserved (s : State) (r : Req) {off : BitVec 24} (hbar : off.toNat < barSize) (h4 : off.toNat % 4 = 0)
    (hrow : regRow? off.toNat = none) (hret : inRetained off.toNat = false) :
    exec (.readClear r .bar0 off 4) s = .next { s with readData := 0 } := by
  rw [exec_readClear_aligned s r h4, s.readActed_of_reserved r hbar h4 hrow, s.regRead_of_reserved r hrow hret]

/-- A reserved offset inside BAR0 reads 0 and ignores writes, and every offset from 0x15_0000 is reserved (R565). -/
theorem reservedOffsets_inside_bar (r : Req) (off : BitVec 24) (size : Fin 9) (v : BitVec 64) (h : Word) (s : State)
    (hbar : off.toNat < barSize) :
    (0x150000 ≤ off.toNat → regRow? off.toNat = none ∧ inRetained off.toNat = false ∧ inMeridian off.toNat = false) ∧
    (regRow? off.toNat = none → inRetained off.toNat = false →
      exec (.registerWrite r .bar0 off size v h) s = .next s ∧
      (off.toNat % 4 = 0 → exec (.readClear r .bar0 off 4) s = .next { s with readData := 0 })) := by
  refine ⟨fun hge => ?_, fun hrow hret => ⟨exec_registerWrite_of_reserved s r size v h hrow hret, fun h4 =>
    exec_readClear_of_reserved s r hbar h4 hrow hret⟩⟩
  have hrow := regRow?_eq_none_of_ge hge
  have hret : inRetained off.toNat = false := decide_eq_false (by simp only [retBase]; omega)
  exact ⟨hrow, hret, inMeridian_eq_false_of_reserved hrow hret⟩

/-! ### Past the end of BAR0 -/

/-- The offset of THM_CNT, one size of BAR0 further up. -/
def thmCntPastBar : Nat := barSize + Reg.THM_CNT

/-- After reset, with a 1 in the register map at that offset, where no register has its word. -/
def strayWord : State := State.reset.wrn thmCntPastBar 1

/-- The offset is in no register and no window. -/
theorem thmCntPastBar_reserved : regRow? thmCntPastBar = none ∧ inRetained thmCntPastBar = false := by decide

/-- A read there takes the access codes of THM_CNT, an RC register, and clears the word; the state is in canonical form. -/
theorem readActed_strayWord : strayWord.canonical = true ∧ strayWord.rdn thmCntPastBar = 1 ∧
    (strayWord.readActed .host thmCntPastBar).rdn thmCntPastBar = 0 := by decide

/-- Refutes O13: the statement admits offsets past the end of BAR0, where a read of the offset of an RC register one size of BAR0 further
up clears the word that the register map holds there. -/
theorem not_reservedOffsets : ¬ Obligations.ReservedOffsets := by
  intro h
  obtain ⟨hrow, hret⟩ := thmCntPastBar_reserved
  obtain ⟨-, hbefore, hafter⟩ := readActed_strayWord
  have hread := ((h .host (BitVec.ofNat 24 thmCntPastBar) 0 0 0 strayWord).2 hrow hret).2 (by decide)
  rw [exec_readClear_aligned _ _ (by decide)] at hread
  have hsame : (strayWord.readActed .host thmCntPastBar).rdn thmCntPastBar = strayWord.rdn thmCntPastBar :=
    congrArg (fun t : State => t.rdn thmCntPastBar) (Host.Outcome.next.inj hread)
  omega

end Sys2Proof.Machine
end
